-- ==== Sys2Proof/Word.lean ====
section
/-!
DEFINITION. The word types of the model and their plainest conversions. The manual carries
multi-byte values most significant byte first (R5).
-/

namespace Sys2Proof

/-- One byte of a byte stream. -/
abbrev Byte := BitVec 8

/-- A byte string: a parcel, a message, a record, a block payload. -/
abbrev Bytes := List Byte

end Sys2Proof
end

