-- ==== Sys2Proof/Syntax.lean ====
section
/-!
DEFINITION. The commands of the block: one constructor of `Instr` for each row of the spec's table
of operations and events. The first operand `t` of every command is the root cycle (R9), counted
from the filtered rise of RESET_N, at which the command comes. The other operands are what the
outside world decides: the bytes that arrive, the unit that is meant, the level that is sampled,
and the physical outcomes (an ECC error, a failed self-test) that the spec leaves to the hardware.
-/

namespace Sys2Proof

/-- An ECC finding of one stage-store read (R265, R267): the physical bank, the 128-byte line within
it, the 64-bit word of the line, and whether the word is uncorrectable. -/
structure Ecc where
  bank : Nat
  line : Nat
  word : Nat
  uncorrectable : Bool
  deriving DecidableEq, Repr

/-- A read of the stage store by a unit: its time, and what ECC finds in it (R92, R265). -/
structure StageRead where
  t : Nat
  ecc : List Ecc
  deriving DecidableEq, Repr

/-- What the end of a DDR5 training reports (R279): whether the fast restore was tried and passed,
whether the full flow (when it ran) passed, the microseconds it took, and what the mode registers
report: read CRC support (R278) and an RFM requirement (R286) with its two thresholds. -/
structure DdrTraining where
  fastOk : Bool
  fullOk : Bool
  micros : Nat
  readCrc : Bool
  rfm : Bool
  rfmInitial : Nat
  rfmMaximum : Nat
  deriving DecidableEq, Repr

/-- What a start-up finds damaged in the retained store (R272, R275): for each kept-member record
(object, first element) the validity of copy 0 and of copy 1 where not both are valid, and for each
journal half the index of the first entry that fails its block check, if any; and the same for the
records of the tuning region: n for the tuning sets of string n, 64 + c for the training results of
channel c. -/
structure RestoreDamage where
  records : List (Nat × Bool × Bool)
  tuning : List (Nat × Bool × Bool)
  half0 : Option Nat
  half1 : Option Nat
  deriving DecidableEq, Repr

/-- The commands, one per row of the table of operations and events, in the table's order. -/
inductive Instr where
  /-- PARCEL_HEADER_ARRIVES (R43) The 24 header bytes of a mesh parcel have arrived; the header check
  and wall ID are tested and the parcel is dropped or passed to the relay decision. -/
  | parcelHeaderArrives (t : Nat) (port : Nat) (hdr : Bytes)
  /-- RELAY_PARCEL_START (R45) A relayed parcel that waited in a port's relay buffer starts on the freed
  port, and its buffer charge is released. -/
  | relayParcelStart (t : Nat) (port : Nat)
  /-- TILE (R47) A complete kept tile parcel is judged and inserted into the store of its frame,
  spilled, or discarded. -/
  | tile (t : Nat) (port : Nat) (parcel : Bytes)
  /-- FRAME_HEADER (R38) A complete kept frame header parcel is judged and filed for its frame or cue. -/
  | frameHeader (t : Nat) (port : Nat) (parcel : Bytes)
  /-- FRAME_CLOSE (R39) A complete kept frame close parcel is filed and its tile count is recorded. -/
  | frameClose (t : Nat) (port : Nat) (parcel : Bytes)
  /-- CUE_TRIGGER (R55) A cue trigger parcel starts, replaces or stops a cue replay. -/
  | cueTrigger (t : Nat) (port : Nat) (parcel : Bytes)
  /-- LAYER_DATA (R41) A layer data parcel writes its bytes into a layer buffer in DRAM and records its
  frame number. -/
  | layerData (t : Nat) (port : Nat) (parcel : Bytes)
  /-- SPILL_COPY_DONE (R49) The copy of a spilled frame into the next compressed frame store finishes,
  and parcels then go directly to the store. -/
  | spillCopyDone (t : Nat)
  /-- CUE_COPY_DONE (R55) The copy of a replay step's cue into the next store finishes, so the cue
  becomes admissible. -/
  | cueCopyDone (t : Nat)
  /-- CUE_GO (R55) A write of 1 to 3040.05 triggers a replay with the fields held in 3040.01 to 3040.04. -/
  | cueGo (t : Nat) (v : Nat)
  /-- CUE_CLEAR (R54) A write of 1 to 3500[n].03 empties a cue unless a replay uses it. -/
  | cueClear (t : Nat) (cue : Nat) (v : Nat)
  /-- COUNTER_CLEAR (R57) A write of 1 to an area's CLEAR member zeroes that area's counters. -/
  | counterClear (t : Nat) (object : Nat) (v : Nat)
  /-- MEMBER_WRITE (R8) An accepted write to a member with no behaviour of its own is scheduled to take
  effect at its apply class. -/
  | memberWrite (t : Nat) (object : Nat) (element : Nat) (member : Nat) (v : Nat)
  /-- LATCH_POINT (R133) Display of fret F−1 begins: frame-class values are selected, and the frame
  decisions for the next frame are made. -/
  | latchPoint (t : Nat)
  /-- NUT_MARK (R16) A nut mark begins a frame of the timeline; display-side frame changes, the nut-gap
  reset and role changes follow. -/
  | nutMark (t : Nat)
  /-- FRET_BOUNDARY (R134) A fret begins: fret-class values apply, the output buffer copies alternate,
  and synthesis of the next fret opens. -/
  | fretBoundary (t : Nat)
  /-- PLANE_SLOT_START (R18) A plane slot begins: the reset latches the plane, the next plane's load
  begins, and the bridge learns the slot's plane. -/
  | planeSlotStart (t : Nat) (ecc : List Ecc)
  /-- PLUCK (R176) A string's gate is raised and lowered at the pluck's position in the emission window. -/
  | pluck (t : Nat) (course : Nat)
  /-- LOAD_CUTOFF (R154) The load window ends: undelivered rows are counted and their hashes invalidated. -/
  | loadCutoff (t : Nat) (half : Nat) (undelivered : List Nat)
  /-- SYNTHESIS_DEADLINE (R20) The synthesis deadline of a fret is reached, and outstanding codec and
  array work for it is abandoned. -/
  | synthesisDeadline (t : Nat)
  /-- BAND_DISPATCH (R67) Once band b has ended and the buffer of band b−1 is released, the codec
  dispatches the tiles of the next band to the lanes. -/
  | bandDispatch (t : Nat)
  /-- TILE_DECODE_DONE (R67) A decode lane finishes or stops on a tile and starts its next tile from the
  list. -/
  | tileDecodeDone (t : Nat) (lane : Nat) (ecc : List Ecc)
  /-- DECODE_SELFTEST (R71) After fret 0's last band is decoded, every decode lane runs its self-test; a
  lane that fails twice is fenced. -/
  | decodeSelftest (t : Nat) (failing : List Nat)
  /-- DLANE_FENCED (R72) A master fences or returns a decode lane. -/
  | dlaneFenced (t : Nat) (lane : Nat) (v : Nat)
  /-- BAND_SYNTHESIS_START (R108) The array starts a band once it has been decoded and the previous band
  is finished. -/
  | bandSynthesisStart (t : Nat) (ecc : List Ecc)
  /-- BAND_COMMIT (R21) Every engine has finished a band; the decode buffer is released and the band is
  committed into the next fret's copy. -/
  | bandCommit (t : Nat) (ecc : List Ecc)
  /-- ENGINE_SELFTEST (R117) After fret 0's last band is committed, every ray engine runs its self-test;
  an engine that fails twice is fenced. -/
  | engineSelftest (t : Nat) (failing : List Nat)
  /-- ENG_FENCED (R116) A master fences or returns a ray engine. -/
  | engFenced (t : Nat) (engine : Nat) (v : Nat)
  /-- COMPOSITION_START (R91) The composition of a next frame starts once its conditions hold or the
  source wait limit is reached, and a snapshot of layer members is taken. -/
  | compositionStart (t : Nat)
  /-- TILE_COMPRESS_START (R92) A touched tile goes to the lowest idle compression lane, which decodes,
  blends and compresses it. -/
  | tileCompressStart (found : StageRead)
  /-- COMPRESSION_DONE (R76) A compression lane finishes and verifies a stream, which replaces the tile
  in the next store or is discarded. -/
  | compressionDone (t : Nat) (lane : Nat) (mismatch : Bool)
  /-- CLANE_FENCED (R75) A master fences or returns a compression lane. -/
  | claneFenced (t : Nat) (lane : Nat) (v : Nat)
  /-- CAPTURE_DONE (R94) The capture of a composed plane to DRAM finishes and the capture members update. -/
  | captureDone (t : Nat)
  /-- DISPLAY_START_POINT (R147) At the first predicted nut mark at which the start conditions hold, the
  timeline begins and the first frame's decisions are made. -/
  | displayStartPoint (t : Nat)
  /-- DISPLAY_RUN_START (R147) A write of 1 to 5000.02 requests display. -/
  | displayRunStart (t : Nat)
  /-- DISPLAY_RUN_STOP (R147) A write of 0 to 5000.02 stops display at the next nut mark. -/
  | displayRunStop (t : Nat)
  /-- TIMING_MODE (R139) A write of 5000.01 is judged for fit and, while display runs, schedules glide. -/
  | timingMode (t : Nat) (v : Nat)
  /-- GLIDE_FRET_EDGE (R140) The measured encoder position reaches a glide fret edge and the fret's
  slots start. -/
  | glideFretEdge (t : Nat)
  /-- PANEL_STATUS (R152) A STATUS block arrives from the panel with load number, temperature and flags. -/
  | panelStatus (t : Nat) (half : Nat) (block : Bytes)
  /-- PANEL_STATUS_TIMEOUT (R167) No STATUS for 1 s is a panel fault. -/
  | panelStatusTimeout (t : Nat) (half : Nat)
  /-- PANEL_STATUS_LOST (R167) After 16 frets without STATUS, a half's status-lost bit is set. -/
  | panelStatusLost (t : Nat) (half : Nat)
  /-- PNL_PG_RISE (R165) A power-good input asserts and the rail delay before the next enable starts. -/
  | pnlPgRise (t : Nat) (n : Nat)
  /-- PNL_PG_FALL (R167) A power-good input falls while its enable is asserted, which is a panel fault. -/
  | pnlPgFall (t : Nat) (n : Nat)
  /-- RAIL_DELAY_EXPIRY (R165) The delay between panel rails ends and the next enable is asserted or
  released. -/
  | railDelayExpiry (t : Nat)
  /-- PG_TIMEOUT (R165) Power-good is not seen within 5800.04, and every enable is released in reverse
  order. -/
  | pgTimeout (t : Nat)
  /-- CLEAR_BEFORE_LIGHT (R166) Once the rails are up and enough lanes pass R156, clear-before-light
  begins with CONFIG, FILL, BIAS_ON and RESET. -/
  | clearBeforeLight (t : Nat) (half : Nat)
  /-- EXERCISE_LATCH (R166) An exercise latch period ends: c advances, the half is filled and reset, and
  after the last latch the panel-clear flag is set. -/
  | exerciseLatch (t : Nat) (half : Nat)
  /-- PARK_TIME_EXPIRY (R167) The park time ends and the first discharge step is sent. -/
  | parkTimeExpiry (t : Nat) (half : Nat)
  /-- DISCHARGE_STEP_EXPIRY (R167) A discharge step ends and the next pair of groups is discharged, or
  discharge completes. -/
  | dischargeStepExpiry (t : Nat) (half : Nat)
  /-- FAULT_REARM (R167) A write of 1 to 5800.10 re-arms the panel after a fault and runs
  clear-before-light. -/
  | faultRearm (t : Nat) (v : Nat)
  /-- PANEL_POWER (R165) A write of 5800.0F brings the panel rails up, or parks, discharges and takes
  them down. -/
  | panelPower (t : Nat) (v : Nat)
  /-- DRONE_ENTER (R169) A write of 1 to 5800.0A enters drone mode with a still slate. -/
  | droneEnter (t : Nat)
  /-- DRONE_LEAVE (R170) A write of 0 to 5800.0A leaves drone mode and restarts display. -/
  | droneLeave (t : Nat)
  /-- DRONE_REFRESH (R169) The drone refresh interval ends and the slate is sent and reset. -/
  | droneRefresh (t : Nat)
  /-- DRONE_PERIOD (R200) A 50 000-cycle drone period begins, with one drone pluck per colour. -/
  | dronePeriod (t : Nat)
  /-- COURSE_POLL_TIMER (R184) 250 µs pass without fret boundaries, or with a link down, and a poll or
  configure frame is sent. -/
  | coursePollTimer (t : Nat) (course : Nat)
  /-- REFERENCE_WINDOW_OPEN (R228) The nut gap's reference window opens, or the frame is counted as one
  in which it does not fit. -/
  | referenceWindowOpen (t : Nat)
  /-- PILOT_FIRE (R191) A pilot interval begins: its pilot frame is sent and its gate fired for a sample. -/
  | pilotFire (t : Nat) (course : Nat) (pilot : Nat)
  /-- MONITOR_SAMPLE (R194) A monitor sample uplink frame arrives for a bit-9 pluck. -/
  | monitorSample (t : Nat) (course : Nat) (frame : BitVec 64)
  /-- PILOT_SAMPLE (R192) A pilot sample uplink frame arrives and feeds the string power loop or the trims. -/
  | pilotSample (t : Nat) (course : Nat) (frame : BitVec 64)
  /-- DRIVER_STATUS_FRAME (R186) A status uplink frame arrives from a course driver with temperature and
  flags. -/
  | driverStatusFrame (t : Nat) (course : Nat) (frame : BitVec 64)
  /-- UPLINK_TIMEOUT (R185) A requested uplink frame has not begun within 4 µs and is lost; four losses
  lose the link. -/
  | uplinkTimeout (t : Nat) (course : Nat)
  /-- EMIT_INH_ASSERT (R188) EMIT_INH_N falls and the fast path darkens every string. -/
  | emitInhAssert (t : Nat)
  /-- EMIT_INH_RELEASE (R189) EMIT_INH_N has read high for 200 ns, and the strings resume at the next
  fret boundary. -/
  | emitInhRelease (t : Nat)
  /-- EMIT_INH_STUCK (R189) EMIT_INH_N has been asserted for 1 s and a stuck report is raised. -/
  | emitInhStuck (t : Nat)
  /-- CHATTER_END (R393) A chattering input has held one level for 1 ms and is filtered normally again. -/
  | chatterEnd (t : Nat) (input : Nat)
  /-- OPEN_LOOP_FALLBACK (R195) A string has been frozen for 500 ms; G is set to 1.0 and the string runs
  open loop. -/
  | openLoopFallback (t : Nat) (string : Nat)
  /-- LIN_RESET (R193) A write of 1 to 6000.05 sets every trim to 0. -/
  | linReset (t : Nat) (v : Nat)
  /-- ENCODER_EDGE (R212) A filtered quadrature edge changes the encoder count and is time-stamped. -/
  | encoderEdge (t : Nat) (a : Bool) (b : Bool)
  /-- MEASURED_NUT_MARK (R214) The filtered rise of WE_I marks a measured nut mark, and the count error
  is checked. -/
  | measuredNutMark (t : Nat)
  /-- COUNT_EDGE_TIMEOUT (R232) No count edge arrives within 4 × P_t / Q while the speed loop is closed,
  and the encoder is lost. -/
  | countEdgeTimeout (t : Nat)
  /-- DRIVE_COMMAND_TIMER (R219) 250 µs have passed since the last command frame, and a torque, coast or
  poll frame is sent. -/
  | driveCommandTimer (t : Nat)
  /-- DRIVE_STATUS (R220) A status frame arrives from the motor driver. -/
  | driveStatus (t : Nat) (frame : BitVec 48)
  /-- DRIVE_STATUS_TIMEOUT (R220) An expected driver status frame does not come within 20 µs; four such
  misses lose the drive link. -/
  | driveStatusTimeout (t : Nat)
  /-- SPIN_UP (R230) Once the spin-up conditions hold, the device commands the start torque. -/
  | spinUp (t : Nat)
  /-- SPIN_UP_TIMEOUT (R230) 1 revolution per second is not reached within 2.0 s, and the start fails. -/
  | spinUpTimeout (t : Nat)
  /-- WHEEL_REST_TIMEOUT (R229) No edges for 100 ms with no torque commanded puts the wheel in state 0. -/
  | wheelRestTimeout (t : Nat)
  /-- WHEEL_ENABLE (R230) A write of 1 to 6800.01 spins the wheel up. -/
  | wheelEnable (t : Nat)
  /-- WHEEL_BRAKE (R231) A write of 0 to 6800.01 brakes the wheel after stopping display. -/
  | wheelBrake (t : Nat)
  /-- REARM (R234) A write of 1 to 6800.0F re-arms the wheel after encoder loss or faulted coast. -/
  | rearm (t : Nat) (v : Nat)
  /-- FREE_INPUT (R202) A write of 6810[n].08 steps a free loop slot. -/
  | freeInput (t : Nat) (slot : Nat) (v : Nat)
  /-- PRESET (R208) A write of 6810[n].09 presets a free loop slot. -/
  | preset (t : Nat) (slot : Nat) (v : Nat)
  /-- BLOCK_DATA (R248) A data block arrives on a link and is accepted in sequence or discarded. -/
  | blockData (t : Nat) (lane : Nat) (block : Bytes)
  /-- PARCEL_START (R36) A parcel start block arrives and begins a new parcel, discarding any partial one. -/
  | parcelStart (t : Nat) (lane : Nat) (block : Bytes)
  /-- PARCEL_ABORT (R246) A parcel abort block arrives and the partial parcel is discarded. -/
  | parcelAbort (t : Nat) (lane : Nat) (block : Bytes)
  /-- ACKNOWLEDGE (R249) An acknowledge block frees held blocks or names a NAK for replay. -/
  | acknowledge (t : Nat) (lane : Nat) (block : Bytes)
  /-- REPLAY_TIMEOUT (R249) No acknowledgement advances for 7000.03 cycles, and the transmitter resends
  from the oldest held block. -/
  | replayTimeout (t : Nat) (lane : Nat)
  /-- ACK_SEND_TIMER (R248) The acknowledgement interval passes and an acknowledge block is sent. -/
  | ackSendTimer (t : Nat) (port : Nat)
  /-- MARKER (R243) A marker block arrives and serves marker lock and lane identity. -/
  | marker (t : Nat) (lane : Nat) (block : Bytes)
  /-- FILLER (R244) A filler block or row arrives and may be deleted or inserted by the elastic buffer. -/
  | filler (t : Nat) (lane : Nat) (block : Bytes) (fill : Nat)
  /-- TRAINING (R254) A training block arrives and advances scrambler sync, preset request and link-up. -/
  | training (t : Nat) (lane : Nat) (block : Bytes)
  /-- SLEEP (R262) A sleep block arrives and the receiver powers down its CDR. -/
  | sleep (t : Nat) (lane : Nat) (block : Bytes)
  /-- LANE_MAP (R258) A lane map row changes the lanes in service of a mesh port direction. -/
  | laneMap (t : Nat) (lane : Nat) (block : Bytes)
  /-- RESERVED_BLOCK (R241) A block of reserved type is discarded and counted. -/
  | reservedBlock (t : Nat) (lane : Nat) (block : Bytes)
  /-- SIGNAL_DETECT (R253) Signal energy above squelch for 1.0 µs completes electrical idle exit. -/
  | signalDetect (t : Nat) (lane : Nat)
  /-- CDR_LOCK (R253) The receiver clock locks and equalisation adapts. -/
  | cdrLock (t : Nat) (lane : Nat) (preset : Nat) (margin : Nat)
  /-- BRING_UP_STAGE_TIMEOUT (R253) A bring-up stage is not reached in time; the bring-up fails and is
  logged. -/
  | bringUpStageTimeout (t : Nat) (lane : Nat)
  /-- BRING_UP_RETRY (R253) The retry interval of a failed lane ends and bring-up starts again. -/
  | bringUpRetry (t : Nat) (lane : Nat)
  /-- LANE_LOCK_LOSS (R258) A receiver loses lock on a lane, or sees idle without a sleep block. -/
  | laneLockLoss (t : Nat) (lane : Nat)
  /-- PORT_SLEEP_TIMER (R263) A mesh transmit direction has sent only fillers for 7003[p].04 µs and goes
  to sleep. -/
  | portSleepTimer (t : Nat) (port : Nat)
  /-- LANE_RETRAIN (R260) A write of 1 to 7010[n].02 re-trains a lane. -/
  | laneRetrain (t : Nat) (lane : Nat)
  /-- LANE_OUT_OF_SERVICE (R260) A write of 2 to 7010[n].02 takes a lane out of service. -/
  | laneOutOfService (t : Nat) (lane : Nat)
  /-- LANE_RETURN (R260) A write of 3 to 7010[n].02 returns a lane by bring-up. -/
  | laneReturn (t : Nat) (lane : Nat)
  /-- PORT_RATE (R259) A write of 7003[p].01 changes the port rate, bringing the port down and up. -/
  | portRate (t : Nat) (port : Nat) (v : Nat)
  /-- PORT_ENABLE (R259) A write of 7003[p].02 holds a port down or releases it. -/
  | portEnable (t : Nat) (port : Nat) (v : Nat)
  /-- BANK_FENCED (R268) A master fences a stage-store bank or returns it as a spare. -/
  | bankFenced (t : Nat) (bank : Nat) (v : Nat)
  /-- BANK_COPY_DONE (R268) The copy of a fenced bank to its spare finishes. -/
  | bankCopyDone (t : Nat)
  /-- JOURNAL_COMMIT_TIMER (R273) 9000.08 ms have passed since the first uncommitted entry, and the
  journal buffer is committed. -/
  | journalCommitTimer (t : Nat)
  /-- RET_COMMIT (R273) A write of 1 to 9000.02 commits the journal buffer now. -/
  | retCommit (t : Nat) (v : Nat)
  /-- JOURNAL_COMMIT_DONE (R274) A journal commit finishes writing its blocks. -/
  | journalCommitDone (t : Nat)
  /-- JOURNAL_HALF_EMPTIED (R273) Every record touched by a full journal half has been rewritten, and
  the half is marked empty. -/
  | journalHalfEmptied (t : Nat)
  /-- DRAM_REQUEST (R283) A request reaches the DDR5 controller on one of its seven ports and is scheduled. -/
  | dramRequest (t : Nat) (port : Nat) (addr : Nat) (len : Nat) (data : Option Bytes)
  /-- URGENCY_RISE (R283) A request reaches 50 %, 75 % or 90 % of its port's target and its urgency rises. -/
  | urgencyRise (t : Nat) (request : Nat)
  /-- DRAM_REQUEST_DONE (R287) A DRAM read returns, with a read CRC check that may lead to replay. -/
  | dramRequestDone (t : Nat) (request : Nat) (crcOk : Bool)
  /-- DDR_ALERT (R287) ALERT_n signals a write CRC failure; the write is replayed or an error response
  follows. -/
  | ddrAlert (t : Nat) (request : Nat)
  /-- INPLACE_RETRAIN_DONE (R289) A channel's in-place re-train finishes and the channel leaves
  self-refresh. -/
  | inplaceRetrainDone (t : Nat) (channel : Nat) (ok : Bool)
  /-- DDR_REFRESH_TIMER (R278) tREFI expires and an all-bank refresh is issued. -/
  | ddrRefreshTimer (t : Nat) (channel : Nat)
  /-- DQS_OSC_TIMER (R278) The DQS interval oscillator is read every 4 ms and write timing is adjusted. -/
  | dqsOscTimer (t : Nat) (channel : Nat) (count : Nat)
  /-- ZQ_CAL_TIMER (R278) ZQ calibration start and latch run every 128 ms. -/
  | zqCalTimer (t : Nat) (channel : Nat)
  /-- DDR_TRAINING_DONE (R279) A channel's fast restore or full training finishes, or the channel is
  failed. -/
  | ddrTrainingDone (t : Nat) (channel : Nat) (result : DdrTraining)
  /-- CHANNEL_OFFLINE (R290) A write of 1 to 7820[c].02 starts migrating the channel to the havens. -/
  | channelOffline (t : Nat) (channel : Nat)
  /-- CHANNEL_RETRAIN (R290) A write of 2 to 7820[c].02 re-trains an offline channel. -/
  | channelRetrain (t : Nat) (channel : Nat)
  /-- CHANNEL_RETURN (R292) A write of 3 to 7820[c].02 returns a channel and copies its chunks back. -/
  | channelReturn (t : Nat) (channel : Nat)
  /-- CHUNK_MOVE_DONE (R291) A chunk's copy and pending writes complete and its redirect is set or cleared. -/
  | chunkMoveDone (t : Nat)
  /-- RESET_RELEASE (R394) The filtered rise of RESET_N starts the start-up order. -/
  | resetRelease (t : Nat)
  /-- RESET_ASSERT (R315) RESET_N is asserted while running, which resets every island. -/
  | resetAssert (t : Nat)
  /-- PLL_LOCK (R295) 65 536 consecutive comparisons within the window lock the PLL, and the islands
  switch to their dividers. -/
  | pllLock (t : Nat)
  /-- PLL_SLIP (R296) 16 comparisons out of 256 lie outside the window, which is handled as a loss of HCLK. -/
  | pllSlip (t : Nat)
  /-- PLL_LOCK_TIMEOUT (R297) Lock is not reached within 10 ms; acquisition restarts and HIRQ_N asserts. -/
  | pllLockTimeout (t : Nat)
  /-- HCLK_LOSS (R309) 256 VCO cycles pass without an HCLK edge; everything is blanked and parked and
  the hold phase begins. -/
  | hclkLoss (t : Nat)
  /-- HOLD_PHASE_END (R310) The 250 µs hold phase ends; the islands stop and the PLL drops to its low
  frequency, or acquisition begins. -/
  | holdPhaseEnd (t : Nat)
  /-- HCLK_QUALIFIED (R311) 4 096 good HCLK periods qualify the returning clock and relock begins. -/
  | hclkQualified (t : Nat)
  /-- RATIO_RAMP_STEP (R300) An island divider has run 256 cycles and moves one step towards its target. -/
  | ratioRampStep (t : Nat) (island : Nat)
  /-- RATIO_SET (R299) A write of 2010[i].02 sets an island target ratio and starts its ramp. -/
  | ratioSet (t : Nat) (island : Nat) (v : Nat)
  /-- MUX_FORCED_SWITCH (R303) The clock being left makes no edge for 32 cycles, and the mux is forced
  across. -/
  | muxForcedSwitch (t : Nat) (island : Nat)
  /-- GATE_CLOSE (R305) A write of 0 to a gate member requests closing and waits for idle handshakes. -/
  | gateClose (t : Nat) (unit : Bool) (element : Nat)
  /-- GATE_IDLE (R305) Every handshake of the covered islands reports idle, and the gate closes. -/
  | gateIdle (t : Nat)
  /-- GATE_CLOSE_TIMEOUT (R305) A handshake is still busy after 4 096 cycles, and the close request is
  refused busy. -/
  | gateCloseTimeout (t : Nat)
  /-- GATE_OPEN (R307) A write of 1 to a gate member opens it and ramps its islands. -/
  | gateOpen (t : Nat) (unit : Bool) (element : Nat)
  /-- RAIL_UNDERVOLTAGE (R316) A rail below its limit for 1.0 µs acts as an internal power-fail. -/
  | railUndervoltage (t : Nat) (rail : Nat)
  /-- RAIL_OVERVOLTAGE (R316) A rail above its limit for 1.0 µs is counted and pinned as fatal. -/
  | railOvervoltage (t : Nat) (rail : Nat)
  /-- OPEN (R325) A Yalok OPEN message is authenticated and answered with an OPEN_REPLY. -/
  | openSession (t : Nat) (path : Nat) (peer : Bytes) (msg : Bytes)
  /-- CLOSE (R327) A CLOSE message closes a session and aborts its uncommitted chords. -/
  | close (t : Nat) (path : Nat) (peer : Bytes) (msg : Bytes)
  /-- READ (R324) A READ message returns the values of its items. -/
  | read (t : Nat) (path : Nat) (peer : Bytes) (msg : Bytes)
  /-- WRITE (R319) A WRITE message judges and applies its items in order, or stages them in a chord. -/
  | write (t : Nat) (path : Nat) (peer : Bytes) (msg : Bytes)
  /-- WRITE_ITEM_HANDOFF (R335) Management hands an accepted plain write item to its owner, and the
  REPLY follows the last item. -/
  | writeItemHandoff (t : Nat)
  /-- CHORD_BEGIN (R332) A CHORD_BEGIN message opens a chord and returns its handle. -/
  | chordBegin (t : Nat) (path : Nat) (peer : Bytes) (msg : Bytes)
  /-- COMMIT_NOW (R335) A COMMIT with mode NOW judges the chord as a unit and schedules its hand-off. -/
  | commitNow (t : Nat) (path : Nat) (peer : Bytes) (msg : Bytes)
  /-- COMMIT_NEXT_FRET (R335) A COMMIT with mode NEXT_FRET judges the chord and schedules its hand-off. -/
  | commitNextFret (t : Nat) (path : Nat) (peer : Bytes) (msg : Bytes)
  /-- COMMIT_NEXT_FRAME (R335) A COMMIT with mode NEXT_FRAME judges the chord and schedules its hand-off. -/
  | commitNextFrame (t : Nat) (path : Nat) (peer : Bytes) (msg : Bytes)
  /-- COMMIT_AT_TIME (R338) A COMMIT with mode AT_TIME judges the chord and makes it pending. -/
  | commitAtTime (t : Nat) (path : Nat) (peer : Bytes) (msg : Bytes)
  /-- CHORD_HANDOFF (R335) The fixed hand-off time after an accepted COMMIT ends; the chord reaches the
  sequencer and the REPLY is sent. -/
  | chordHandoff (t : Nat) (slot : Nat)
  /-- AT_TIME_REACHED (R338) Wall time reaches a pending chord's named time; it is handed off and
  APPLIED is sent. -/
  | atTimeReached (t : Nat) (slot : Nat)
  /-- ABORT (R339) An ABORT message discards a chord. -/
  | abortChord (t : Nat) (path : Nat) (peer : Bytes) (msg : Bytes)
  /-- CHORD_IDLE_TIMEOUT (R339) A chord with no staging for 10 s is aborted. -/
  | chordIdleTimeout (t : Nat) (slot : Nat)
  /-- CHORD_KILL (R339) A write of 1 to 1020[n].06 aborts a chord. -/
  | chordKill (t : Nat) (slot : Nat) (v : Nat)
  /-- KEEPALIVE (R323) A KEEPALIVE message is answered with KEEPALIVE. -/
  | keepalive (t : Nat) (path : Nat) (peer : Bytes) (msg : Bytes)
  /-- EVENT_ACK (R341) An EVENT_ACK removes acknowledged entries from the master's event queue. -/
  | eventAck (t : Nat) (path : Nat) (peer : Bytes) (msg : Bytes)
  /-- SESSION_TIMEOUT (R327) 1000.01 seconds without an accepted message close a session. -/
  | sessionTimeout (t : Nat) (master : Nat)
  /-- EVENT_SEND (R341) Queued events are sent in an EVENT message to an open session. -/
  | eventSend (t : Nat) (master : Nat)
  /-- EVENT_RESEND_TIMER (R341) An event entry unacknowledged after 1 s is resent. -/
  | eventResendTimer (t : Nat) (master : Nat)
  /-- MASTER_KEY (R327) A write of 1002[m].01 sets a master key and closes that master's session. -/
  | masterKey (t : Nat) (master : Nat) (key : Bytes)
  /-- PATH_ENABLE (R327) A write of 1000.02 or 1000.03 enables or disables a Yalok path and closes the
  sessions it disables. -/
  | pathEnable (t : Nat) (network : Bool) (v : Nat)
  /-- FW_IMAGE (R344) BLOB writes of 9100[s].01 load a firmware image into the standby slot. -/
  | fwImage (t : Nat) (slot : Nat) (offset : Nat) (data : Bytes)
  /-- FW_VERIFY (R344) A write of 9101.01 starts verification of a slot. -/
  | fwVerify (t : Nat) (slot : Nat)
  /-- FW_VERIFY_DONE (R344) Slot verification finishes and the slot is marked valid or invalid. -/
  | fwVerifyDone (t : Nat) (slot : Nat)
  /-- FW_SWITCH (R345) A write of 9101.02 hands service to the standby core's image. -/
  | fwSwitch (t : Nat) (slot : Nat)
  /-- HANDOVER_DONE (R345) The standby core takes over dictionary service and answers held messages. -/
  | handoverDone (t : Nat)
  /-- HANDOVER_TIMEOUT (R345) The take-over is not complete within 50 ms; the old core keeps service. -/
  | handoverTimeout (t : Nat)
  /-- WATCHDOG_TAKEOVER (R347) The active core fails to signal for 100 ms and the standby takes service. -/
  | watchdogTakeover (t : Nat)
  /-- ETH_FRAME_RX (R350) A good Ethernet frame arrives and is kept, queued for relay, or dropped. -/
  | ethFrameRx (t : Nat) (port : Nat) (frame : Bytes) (fcsOk : Bool)
  /-- RELAY_FRAME_TX (R351) A queued relayed frame leaves the other port, with residence correction for
  PTP events. -/
  | relayFrameTx (t : Nat) (port : Nat)
  /-- SYNC (R357) A Sync message is time-stamped, and once complete its offset updates the domain slot. -/
  | sync (t : Nat) (port : Nat) (frame : Bytes)
  /-- FOLLOW_UP (R357) A Follow_Up completes a two-step Sync measurement. -/
  | followUp (t : Nat) (port : Nat) (frame : Bytes)
  /-- DELAY_RESP (R357) A Delay_Resp completes a delay exchange for the mean path delay. -/
  | delayResp (t : Nat) (port : Nat) (frame : Bytes)
  /-- ANNOUNCE (R356) An Announce message updates foreign masters and master selection. -/
  | announce (t : Nat) (port : Nat) (frame : Bytes)
  /-- ANNOUNCE_TIMEOUT (R356) A selected master's Announce is missing for 3 intervals, and the slot fails. -/
  | announceTimeout (t : Nat) (slot : Nat)
  /-- DELAY_REQ_SEND (R353) The random Delay_Req spacing ends and a Delay_Req is sent. -/
  | delayReqSend (t : Nat) (slot : Nat)
  /-- NEIGHBOR_SOLICITATION (R352) A Neighbor Solicitation for an own address is answered. -/
  | neighborSolicitation (t : Nat) (port : Nat) (frame : Bytes)
  /-- ECHO_REQUEST (R352) An ICMPv6 Echo Request for an own address is answered. -/
  | echoRequest (t : Nat) (port : Nat) (frame : Bytes)
  /-- DAD_DONE (R352) Duplicate address detection for a configured address finishes. -/
  | dadDone (t : Nat) (globalAddr : Bool) (duplicate : Bool)
  /-- ETH_LINK_CHANGE (R349) An Ethernet port link comes up or goes down. -/
  | ethLinkChange (t : Nat) (port : Nat) (up : Bool)
  /-- REVERT_TIMER (R359) The primary has tracked for 8000.07 seconds and wall time returns to it. -/
  | revertTimer (t : Nat)
  /-- FREE_RUN_TIMER (R359) 8000.09 seconds pass without a tracking slot and wall time free-runs. -/
  | freeRunTimer (t : Nat)
  /-- HOLDOVER_NOTICE (R359) Holdover has lasted 8000.13 seconds and the notice is raised. -/
  | holdoverNotice (t : Nat)
  /-- SLEW_DONE (R360) The residual r reaches 0 and the slewing flag clears. -/
  | slewDone (t : Nat)
  /-- STEP_NOW (R361) A write of 1 to 8000.14 makes the pending wall-time step. -/
  | stepNow (t : Nat) (v : Nat)
  /-- THERMAL_EVALUATION (R367) The evaluation interval ends; the thermal model steps and Tg, the rise
  rate and the throttle target are formed. -/
  | thermalEvaluation (t : Nat) (powers : List Nat) (diodes : List Int)
  /-- MODEL_MISMATCH (R368) A diode has differed from its node by more than 5 °C for 1 s. -/
  | modelMismatch (t : Nat) (diode : Nat)
  /-- FAST_THROTTLE_RELEASE (R373) The rise rate has stayed below 1 °C/s for 1 s and the fast throttle
  ends. -/
  | fastThrottleRelease (t : Nat)
  /-- THROTTLE_STEP_TIMER (R370) Without latch points, q moves one step every 16.667 ms. -/
  | throttleStepTimer (t : Nat)
  /-- LIFE_SECOND (R375) Each powered second updates the temperature bins and mean Tg. -/
  | lifeSecond (t : Nat)
  /-- SD_CLEAR (R378) A write of the pending sequence to 2804.0A clears the shutdown record and
  continues start-up. -/
  | sdClear (t : Nat) (v : Nat)
  /-- PROBE_PRESENCE_TIMER (R379) Every 100 ms without calibration, a probe reading is taken to judge
  presence. -/
  | probePresenceTimer (t : Nat)
  /-- PROBE_READING (R379) A 32-bit probe reading is clocked in and judged valid or invalid. -/
  | probeReading (t : Nat) (word : BitVec 32)
  /-- CAL_COURSE (R385) A write of 0 to 15 to 2830.01 starts a course calibration. -/
  | calCourse (t : Nat) (course : Nat)
  /-- CAL_TILE (R385) A write of 16 to 2830.01 starts a tile calibration. -/
  | calTile (t : Nat)
  /-- CAL_ABORT (R386) A write of 255 to 2830.01 ends a running calibration. -/
  | calAbort (t : Nat)
  /-- CAL_PLUCK (R381) A calibration pluck interval begins, firing a string or taking a dark reading. -/
  | calPluck (t : Nat)
  /-- CAL_TIMEOUT (R385) A course exceeds 4.0 s, or a tile calibration 22.0 s, and fails. -/
  | calTimeout (t : Nat)
  /-- CV_KIND (R388) A write of 2840[u].01 selects the code and resets the unit. -/
  | cvKind (t : Nat) (unit : Nat) (master : Nat) (v : Nat)
  /-- CV_RESET (R388) A write of 1 to 2840[u].02 resets and releases the unit. -/
  | cvReset (t : Nat) (unit : Nat) (master : Nat) (v : Nat)
  /-- CV_FEED8 (R388) A write feeds one byte to a check-value unit. -/
  | cvFeed8 (t : Nat) (unit : Nat) (master : Nat) (v : Nat)
  /-- CV_FEED16 (R388) A write feeds one half-word to a check-value unit. -/
  | cvFeed16 (t : Nat) (unit : Nat) (master : Nat) (v : Nat)
  /-- CV_FEED32 (R388) A write feeds one word to a check-value unit. -/
  | cvFeed32 (t : Nat) (unit : Nat) (master : Nat) (v : Nat)
  /-- CV_CHECK (R390) A write of 1 to 2840[u].0A compares the result with the expected value. -/
  | cvCheck (t : Nat) (unit : Nat) (master : Nat) (v : Nat)
  /-- CV_OWNER_TIMEOUT (R389) The owner has made no write for 10 s and the unit's claim lapses. -/
  | cvOwnerTimeout (t : Nat) (unit : Nat)
  /-- PFAIL (R412) PFAIL_N falls and the power-fail sequence runs, from blanking to the power-fail hold. -/
  | pfail (t : Nat)
  /-- AUTO_RESTART_TIMER (R398) PFAIL_N has been released for 1 s with 1890.05 = 1, and a warm restart
  begins. -/
  | autoRestartTimer (t : Nat)
  /-- WARM_RESTART (R398) A write of 1 to 1890.04 runs start-up steps 6 to 11. -/
  | warmRestart (t : Nat) (v : Nat)
  /-- RETAINED_RESTORE_DONE (R275) The records and journal are restored from the retained store. -/
  | retainedRestoreDone (t : Nat) (damage : RestoreDamage)
  /-- FIRMWARE_BOOT_DONE (R346) The firmware image is running and the host link is served. -/
  | firmwareBootDone (t : Nat)
  /-- ISLAND_RAMPS_DONE (R302) The island ramps and the stage-store march test end, and steps 7 to 10
  begin. -/
  | islandRampsDone (t : Nat) (failedBanks : List Nat)
  /-- ISLAND_ERROR (R406) An island error isolates and resets the island. -/
  | islandError (t : Nat) (island : Nat)
  /-- ISLAND_RESTART_DONE (R406) A restarted island has reopened with its units resumed. -/
  | islandRestartDone (t : Nat) (island : Nat)
  /-- EXTEST (R436) The EXTEST instruction is loaded into the test access port. -/
  | extest (t : Nat)
  /-- SAMPLE_PRELOAD (R436) The SAMPLE/PRELOAD instruction is loaded. -/
  | samplePreload (t : Nat)
  /-- CLAMP (R436) The CLAMP instruction is loaded. -/
  | clamp (t : Nat)
  /-- HIGHZ (R436) The HIGHZ instruction is loaded. -/
  | highz (t : Nat)
  /-- BYPASS (R436) The BYPASS instruction, or any other code, is loaded. -/
  | bypass (t : Nat)
  /-- TAP_RESET (R436) JT_TRST_N or power-up resets the test access port to BYPASS. -/
  | tapReset (t : Nat)
  /-- FRET_BOUNDARY_OVERDUE (R144) On the root clock, the next fret boundary has not come within 1.5
  fret periods (plus the nut gap after fret F−1), and each engine reports a timing freeze. -/
  | fretBoundaryOverdue (t : Nat)
  /-- FRET_F_MINUS_1_END (R124) After a nut mark that came early, fret F−1 of the old frame ends, and
  the nut-gap RESET, the display-side frame-class values, parking, glide start and short
  clear-before-light take place. -/
  | fretFMinus1End (t : Nat)
  /-- PFAIL_RELEASE (R392) PFAIL_N returns high through the filter, which starts the 1 s wait before an
  automatic warm restart and lets warm restarts be accepted. -/
  | pfailRelease (t : Nat)
  /-- RAIL_RETURN (R316) A rail monitored by AON comes back within its limits, and 2040[r].01 returns to 1. -/
  | railReturn (t : Nat) (rail : Nat)
  /-- MALFORMED_MESSAGE (R323) A host-link frame with a failed CRC or an oversized length, or a Yalok
  message whose version, type, length or reserved fields break R323, is discarded without a reply and
  counted in 1011.08. -/
  | malformedMessage (t : Nat) (path : Nat)
  /-- BAD_UPLINK_FRAME (R183) A course-link uplink frame arrives whole with a failed CRC-8 or a type
  other than 1 to 3, and it is treated as lost toward the link-loss count. -/
  | badUplinkFrame (t : Nat) (course : Nat) (frame : BitVec 64)
  deriving DecidableEq, Repr

end Sys2Proof
end

