-- ==== Sys2Proof/Config.lean ====
section
/-!
DEFINITION. What the spec leaves to the implementation or leaves open: constants without a body.
Nothing in Lean can evaluate them, so a statement about one holds for every value of it.
-/

namespace Sys2Proof.Config

/-- The `n`-th free value: a value that the spec leaves open (an unstated result, a random draw, a
nonce that the device chooses). A meaning reduces it to the width it needs. -/
opaque freeNat : Nat → Nat

/-- One backward-Euler step of the thermal model (R366, R367): node temperatures in 1/256 °C, monitor
powers in 0.01 W, interval in root cycles, coolant and board temperature in 1/16 °C, cold-plate
resistance in mK/W. The capacitances and conductances stand in the factory block (R366) and are not
given. -/
opaque thermalStep : List Int → List Nat → Nat → Int → Int → Nat → List Int

/-- Ed25519 verification under the public key of the given index of the factory block (R343): key
index, signed bytes, signature. The keys are not given. -/
opaque ed25519Verify : Nat → Bytes → Bytes → Bool

/-- The key Km of master m as the factory block holds it (R325): 32 bytes that are not given. -/
opaque factoryKey : Nat → Bytes

/-- The serial number of the factory block (0000.04), which is not given. -/
opaque factorySerial : Nat

/-- The MAC address of the factory block (8001.07), which is not given. -/
opaque factoryMac : Nat

/-- The tuning values that a string has from manufacture (R196): string, then the index 6s + k of
value k (B, K1, K2, K4, K8, Cmax) of set s, or 30 for TGT. They are not given. -/
opaque factoryTuning : Nat → Nat → Nat

/-- The version of the factory firmware image in slot A (0000.06, 9100[0].03), which is not given. -/
opaque factoryVersion : Nat

end Sys2Proof.Config
end

