-- ==== Sys2Proof/Machine/State.lean ====
section
/-!
DEFINITION. The state of the MBK-4816 as plain data. Every numbered member of the object dictionary
lives in one sparse canonical table (`State.dict`); what the spec describes without a member of its
own (stores, buffers, queues, link and loop state) lives in one structure for each subsystem.
The rule named at a field is the one that gives the machine that piece of state.
-/

namespace Sys2Proof.Machine

/-! ### Sparse tables -/

/-- A sparse table: entries by rising key. -/
abbrev Tbl (α : Type) := List (Nat × α)

/-! ### Outputs: what the device drives while one command runs -/

/-- What leaves the balls or a link while a command runs. -/
inductive Output where
  /-- A parcel starts on a mesh port, with this header (R44, R45). -/
  | meshParcel (port : Nat) (hdr : Bytes)
  /-- A parcel that is being relayed ends with an abort block (R246). -/
  | meshAbort (port : Nat)
  /-- A link block of the given type and sequence on a lane (R240). -/
  | block (lane kind seq : Nat) (payload : Bytes)
  /-- A string gate rises and falls at these root cycles (R176). -/
  | gate (string rise fall : Nat)
  /-- A string gate is driven dark at once (R188). -/
  | gateDark (string : Nat)
  /-- A downlink frame on a course link (R182). -/
  | downlink (course : Nat) (frame : BitVec 64)
  /-- A command frame on the wheel drive link (R217). -/
  | driveFrame (frame : BitVec 48)
  /-- WD_TX goes to a break (R216, R219). -/
  | driveBreak
  /-- A Yalok message to a path: 0 host link, there in its frame, 1 port A, 2 port B; and the peer address
      (R321). -/
  | yalok (path : Nat) (peer msg : Bytes)
  /-- An Ethernet frame leaves a port (R350). -/
  | ethFrame (port : Nat) (frame : Bytes)
  /-- HIRQ_N is driven to this asserted state (R342). -/
  | hirq (asserted : Bool)
  /-- CP_TRIG is high from the first to the second root cycle, and a reading is clocked in (R379). -/
  | probeTrig (rise fall : Nat)
  /-- A command to a DDR5 channel: 1 refresh, 2 RFM, 3 self-refresh entry, 4 exit, 5 ZQ calibration,
      6 oscillator read, 7 read, 8 write (R278, R283 to R286). -/
  | ddr (channel cmd addr : Nat)
  /-- A row of a bank of a DDR5 channel is activated and precharged to refresh it (R285). -/
  | ddrRow (channel bank row : Nat)
  deriving DecidableEq, Repr

/-! ### Scene stream (02) -/

/-- One compressed tile of one depth plane in a compressed frame store (R34, R47) with the bad mark of
R64. -/
structure Tile where
  q : Nat
  stream : Bytes
  bad : Bool
  deriving DecidableEq, Repr

/-- A frame header (R38): plane count, presentation time (raw TIME), disparities. -/
structure FrameHdr where
  planes : Nat
  tp : Nat
  d : List Int
  deriving DecidableEq, Repr

/-- A frame or cue under assembly or held (R46 to R51, R54). -/
structure Frame where
  /-- content frame number (R48) -/
  number : Option Nat
  /-- cue number when the frame is a replayed cue (R55) -/
  cue : Option Nat
  header : Option FrameHdr
  /-- tile count of the frame close (R39) -/
  close : Option Nat
  /-- tile parcels accepted under R47 -/
  accepted : Nat
  /-- queues for which a tile has been received (R47, R89) -/
  received : List Nat
  /-- tiles held, by rising queue number -/
  tiles : List Tile
  /-- queues removed under R46 -/
  removed : List Nat
  /-- count condition of R51 met and planes at or above P removed -/
  counted : Bool
  /-- the mismatch of R51 has been counted -/
  mismatch : Bool
  /-- a tile of the frame was lost for lack of spill space (R50) -/
  lost : Bool
  /-- bad-tile log entries written for the frame (R64) -/
  badLogged : Nat
  /-- depth planes created by the compositor, in the order of creation (R84) -/
  created : List Nat
  /-- composition: 0 not started, 1 running, 2 finished, 3 not needed, 4 stopped unfinished (R91, R93,
  R406) -/
  comp : Nat
  deriving DecidableEq, Repr

/-- The empty frame: a released store (R49). -/
def Frame.empty : Frame :=
  { number := none, cue := none, header := none, close := none, accepted := 0, received := [],
    tiles := [], removed := [], counted := false, mismatch := false, lost := false, badLogged := 0,
    created := [], comp := 0 }

/-- A parcel under way on an inbound mesh port (R36, R43, R44). -/
structure Inbound where
  port : Nat
  /-- the 24 header bytes, empty until they have arrived -/
  hdr : Bytes
  /-- the decision of R44: this tile keeps the parcel -/
  keep : Bool
  /-- the parcel has been counted already by R43 or R44 -/
  refused : Bool
  /-- ports on which the parcel is being relayed now -/
  outs : List Nat
  /-- block payloads still to come, and the first payload where blocks are followed one by one -/
  left : Nat
  first : Bytes
  deriving DecidableEq, Repr

/-- A parcel that waits in a port's relay buffer (R45). -/
structure Waiting where
  out : Nat
  src : Nat
  kind : Nat
  charge : Nat
  hdr : Bytes
  /-- block payloads received so far -/
  blocks : List Bytes
  deriving DecidableEq, Repr

/-- A parcel written whole into the spill region (R50): its content frame, its offset in the region, its
length and its kind. -/
structure Spilled where
  frame : Nat
  off : Nat
  len : Nat
  kind : Nat
  deriving DecidableEq, Repr

/-- The fields of a cue trigger (R40, R55). -/
structure Trigger where
  start : Nat
  first : Nat
  count : Nat
  loops : Nat
  deriving DecidableEq, Repr

/-- The active replay (R55): its trigger, the number of the present step and the cue in copy. -/
structure Replay where
  trig : Trigger
  step : Nat
  /-- the copy of the step's cue has finished -/
  copied : Bool
  /-- the replay ends after the coming latch point (cue count 0) -/
  ending : Bool
  /-- the copy met an error response and is not finished (R287) -/
  spoiled : Bool
  deriving DecidableEq, Repr

/-- Parcel ingress, relay, frame assembly, spill and cue store (02). -/
structure Ingress where
  inbound : List Inbound
  /-- output ports on which a parcel is in progress (R45) -/
  busy : List Nat
  waiting : List Waiting
  /-- which of the two stores is the current one, 0 or 1 (R23); store 0 at reset (DESIGN CHOICE, log
  entry 89) -/
  sel : Nat
  store0 : Frame
  store1 : Frame
  /-- the store that the last decision of R23 named (R144) -/
  named : Nat
  /-- latest content frame admitted or passed over (R48, R49) -/
  cutoff : Option Nat
  /-- the frame held in spill, the parcels of spilled frames in arrival order, bytes used (R48 to
  R50) -/
  spillFrame : Option Nat
  spill : List Spilled
  spillUsed : Nat
  /-- spilled frames of which a tile was discarded for lack of space: bit 4 of 3001.03 (R50) -/
  spillLost : List Nat
  /-- the spilled frame is being copied into the next store (R49) -/
  spillCopy : Bool
  /-- cues by number; their state is 3500[n].01 (R54) -/
  cues : Tbl Frame
  /-- pages of 64 KiB taken in the cue region, by cue; pages given back, and the first page never taken
  (R54) -/
  pages : Tbl (List Nat)
  freePages : List Nat
  nextPage : Nat
  /-- a trigger that waits to become active or to replace the replay (R55) -/
  trigger : Option Trigger
  replay : Option Replay
  deriving DecidableEq, Repr

/-- Ingress after reset: nothing in progress, both stores and every cue empty (R54). -/
def Ingress.reset : Ingress :=
  { inbound := [], busy := [], waiting := [], sel := 0, store0 := Frame.empty,
    store1 := Frame.empty, named := 0, cutoff := none, spillFrame := none, spill := [],
    spillUsed := 0, spillLost := [], spillCopy := false, cues := [], pages := [], freePages := [],
    nextPage := 0, trigger := none,
    replay := none }

/-! ### Tile codec (03) -/

/-- A tile on a decode lane: lane, slot of the band decode buffer, queue number (R67). -/
structure DecodeJob where
  lane : Nat
  slot : Nat
  q : Nat
  deriving DecidableEq, Repr

/-- A slot of a band decode buffer: slot, queue, decoded bytes; no bytes when absent (R64, R67). -/
structure BandSlot where
  slot : Nat
  q : Nat
  raw : Bytes
  deriving DecidableEq, Repr

/-- One of the two band decode buffers (R15, R67). -/
structure BandBuf where
  band : Option Nat
  /-- the last tile of the band has ended -/
  ended : Bool
  slots : List BandSlot
  deriving DecidableEq, Repr

/-- A tile on a compression lane (R92): the lane, the queue, the width and raw size of the tile, the
blended source and the stream that R73 gives for it. -/
structure CompressJob where
  lane : Nat
  q : Nat
  source : Bytes
  stream : Bytes
  /-- the stored mode was chosen because coding did not shrink the tile -/
  bySize : Bool
  /-- every hogel ended with A = 0 (R89) -/
  dark : Bool
  /-- the content frame or cue that the result belongs to, and its store -/
  store : Nat
  frameId : Option Nat × Option Nat
  deriving DecidableEq, Repr

/-- Decode and compression lanes (03). -/
structure Codec where
  /-- a synthesis window is open (R20) -/
  window : Bool
  /-- fret that the window is for -/
  fret : Nat
  /-- next band to dispatch -/
  nextBand : Nat
  /-- band being decoded and its tiles not yet started: slot and queue -/
  band : Option Nat
  list : List (Nat × Nat)
  jobs : List DecodeJob
  buf0 : BandBuf
  buf1 : BandBuf
  /-- the self-test has run in the last window of fret 0 (R71) -/
  tested : Bool
  /-- round-robin position of second writes (R68) -/
  rr : Nat
  /-- consecutive failing frames by lane (R71) -/
  failRuns : Tbl Nat
  /-- lanes whose fence waits for the next fret boundary (R72) -/
  fenceDue : List Nat
  cjobs : List CompressJob
  /-- tiles since the last mismatch, by compression lane (R75) -/
  sinceMismatch : Tbl Nat
  deriving DecidableEq, Repr

def BandBuf.empty : BandBuf := { band := none, ended := false, slots := [] }

def Codec.reset : Codec :=
  { window := false, fret := 0, nextBand := 0, band := none, list := [], jobs := [],
    buf0 := BandBuf.empty, buf1 := BandBuf.empty, tested := false, rr := 0, failRuns := [],
    fenceDue := [], cjobs := [], sinceMismatch := [] }

/-! ### Layer compositor (04) -/

/-- One layer of a composition's snapshot (R91), placed on a plane (R84). -/
structure Layer where
  graphic : Bool
  index : Nat
  plane : Nat
  buf : Nat
  format : Nat
  srcW : Nat
  srcH : Nat
  stride : Nat
  dstX : Int
  dstY : Int
  dstW : Nat
  dstH : Nat
  opacity : Nat
  keyEnable : Bool
  keyLo : Nat
  keyHi : Nat
  deriving DecidableEq, Repr

/-- The compositor (04). -/
structure Comp where
  /-- placed layers of the composition under way, in blend order -/
  layers : List Layer
  /-- touched queues not yet given to a compression lane -/
  todo : List Nat
  /-- touched queues not yet written or removed (R93) -/
  open_ : List Nat
  /-- the capture of the composition is still to finish (R94) -/
  capturing : Bool
  /-- plane and slot of the capture, from the snapshot -/
  capPlane : Nat
  capSlot : Nat
  capBase : Nat
  /-- composed tiles of the captured plane, by queue (R94) -/
  captured : Tbl Bytes
  /-- DRAM ranges that the composition cannot read: their pixels read as zero bytes (R287) -/
  unread : List (Nat × Nat)
  deriving DecidableEq, Repr

def Comp.reset : Comp :=
  { layers := [], todo := [], open_ := [], capturing := false, capPlane := 255, capSlot := 0,
    capBase := 0, captured := [], unread := [] }

/-! ### Ray synthesis (05) -/

/-- The tag of a committed band (R143): device frame and fret. -/
structure Tag where
  band : Nat
  frame : Nat
  fret : Nat
  deriving DecidableEq, Repr

/-- One copy of the fret output buffer (R15, R21): the non-zero bytes of its 30 bit images, and the
band tags of R143. -/
structure FretCopy where
  bytes : List Host.Cell
  tags : List Tag
  deriving DecidableEq, Repr

def FretCopy.dark : FretCopy := { bytes := [], tags := [] }

/-- The ray synthesis array (05). -/
structure Ray where
  /-- a synthesis window is open, for this device frame and fret -/
  window : Bool
  frame : Nat
  fret : Nat
  /-- band in synthesis and the engines active at its start (R106) -/
  band : Option Nat
  engines : List Nat
  /-- number of bands finished in the window -/
  done : Nat
  /-- the band output staging: the rays of the band in synthesis (R15, R21) -/
  staging : List Host.Cell
  /-- bands of this window that finished and were not committed (R267) -/
  missed : List Nat
  /-- the self-test has run in the last window of fret 0 (R117) -/
  tested : Bool
  copy0 : FretCopy
  copy1 : FretCopy
  /-- bands reported late: frame, fret, band (R115, R144) -/
  late : List Tag
  /-- consecutive failing frames by engine (R117) -/
  failRuns : Tbl Nat
  fenceDue : List Nat
  /-- queues skipped by the plane cap in the current frame (R112) -/
  skipped : List Nat
  /-- the frame being synthesised is in central mode (R98) -/
  central : Bool
  deriving DecidableEq, Repr

def Ray.reset : Ray :=
  { window := false, frame := 0, fret := 0, band := none, engines := [], done := 0, staging := [],
    missed := [], tested := false, copy0 := FretCopy.dark, copy1 := FretCopy.dark, late := [],
    failRuns := [], fenceDue := [], skipped := [], central := false }

/-! ### Fret sequencer (06) -/

/-- An accepted change that waits for its apply point (R8, R133, R134). -/
structure Pending where
  object : Nat
  element : Nat
  member : Nat
  value : Nat
  data : Bytes
  offset : Nat
  /-- 1 = next fret boundary, 2 = frame-class -/
  cls : Nat
  /-- device frame that a frame-class change is selected for (R133) -/
  frame : Nat
  master : Nat
  /-- the chord it belongs to: session id and COMMIT sequence (R136, R336) -/
  chord : Option (Nat × Nat)
  /-- session id and sequence of the request that wrote it (R8) -/
  origin : Option (Nat × Nat)
  deriving DecidableEq, Repr

/-- The scan-out service setting and the pattern in force for display (R130 to R132): the members take
effect together at a nut mark. -/
structure Service where
  independent : Bool
  half : Nat
  activity : Nat
  delay : Nat
  pattern : Bool
  patKind : Nat
  patLevel : Nat
  patPeriod : Nat
  deriving DecidableEq, Repr

/-- The fret sequencer (06). -/
structure Seq where
  /-- the timeline of R123 runs -/
  running : Bool
  /-- root cycle of the nut mark that began the current frame -/
  frameStart : Nat
  /-- root cycle predicted for the next nut mark (R226) -/
  nextNut : Option Nat
  /-- fret displayed and its first root cycle; meaningful outside the nut gap -/
  fret : Nat
  fretStart : Nat
  inGap : Bool
  /-- slot under way in the fret, and how many slots have started -/
  slot : Nat
  slots : Nat
  /-- slots of the fret whose reset took place on half A and on half B, in order (R143) -/
  shownA : List Nat
  shownB : List Nat
  /-- fret F-1 of the old frame still runs past an early nut mark (R124) -/
  overlap : Bool
  /-- the copy of the fret output buffer that is displayed (R21) -/
  copySel : Nat
  /-- display stops at the next nut mark (R147), and emission was permitted by its state before -/
  stopDue : Bool
  stopLit : Bool
  /-- drone mode follows the stop (R169) -/
  droneDue : Bool
  /-- a glide that begins at the coming nut mark, or the target that replaces the present one then:
  mode slot and reduction factor (R138, R142) -/
  glideDue : Option (Nat × Nat)
  /-- the target that the present one has replaced: slot and factor (R142) -/
  glideVia : List (Nat × Nat)
  /-- the last latch point had no valid prediction (1), and the measured nut mark after it came before the
  end of fret F - 1 (2): the third case of R138, which R124 lets wait -/
  glideWait : Nat
  /-- the latch point before the nut mark that ends glide has passed (R141) -/
  ending : Bool
  /-- mode being left by glide, and the reduction factor in force (R142, R403) -/
  glideFrom : Nat
  factor : Nat
  factorDue : Option Nat
  pend : List Pending
  /-- frame-class values selected at the latch point that act on what is displayed: they wait for the nut
  mark (R133) -/
  nutPend : List Pending
  service : Service
  serviceDue : Option Service
  /-- consecutive frets without a freeze on either engine, freeze found in this fret (R145) -/
  cleanFrets : Nat
  frozeNow : Bool
  /-- reasons found in the present fret: engine and reason (R144) -/
  found : List (Nat × Nat)
  /-- first freeze of each engine in the frame already logged (R144) -/
  frozeLoggedA : Bool
  frozeLoggedB : Bool
  /-- committed bands of the preceding fret (R144, reason 1) -/
  prevCommitted : Bool
  /-- a first signature has been formed since display started, by engine -/
  signedA : Bool
  signedB : Bool
  /-- root cycle of the last latch point -/
  lastLatch : Nat
  /-- root cycle of the last nut mark that advanced the frame number (R439) -/
  lastAdvance : Nat
  /-- the timeline's last nut mark, when it has ended, until the next measured one (R439) -/
  ended : Bool
  /-- fret and frame edges of the glide in progress have been cut -/
  cut : Bool
  /-- a slot of the fret started off its place (R144, reason 3) -/
  odd : Bool
  deriving DecidableEq, Repr

def Seq.reset : Seq :=
  { running := false, frameStart := 0, nextNut := none, fret := 0, fretStart := 0, inGap := true,
    slot := 0, slots := 0, shownA := [], shownB := [], overlap := false, copySel := 0, stopDue := false,
    stopLit := false,
    droneDue := false, glideDue := none, glideVia := [], glideWait := 0, ending := false, glideFrom := 0,
    factor := 1,
    factorDue := none,
    pend := [], nutPend := [],
    service := { independent := false, half := 1, activity := 0, delay := 0, pattern := false,
                 patKind := 0, patLevel := 0, patPeriod := 0 },
    serviceDue := none, cleanFrets := 0, frozeNow := false, found := [], frozeLoggedA := false,
    frozeLoggedB := false, prevCommitted := false, signedA := false, signedB := false,
    lastLatch := 0, lastAdvance := 0, ended := false, cut := false, odd := false }

/-! ### Panel drive (07) -/

/-- One half of the panel (07). -/
structure Half where
  /-- U16 load number (R152) -/
  load : Nat
  /-- valid row hashes (R157) -/
  hashes : Tbl Nat
  /-- lanes of the half in the mapping of R150, in ascending number -/
  mapped : List Nat
  /-- lanes that have left service since the mapping was made (R257) -/
  gone : List Nat
  /-- rows sent in the load under way, with their new hashes (R157) -/
  rows : Tbl Nat
  /-- 0 = not parked, 1 = PARK sent, 2 = discharging, 3 = parked and discharged (R167) -/
  park : Nat
  /-- next discharge step, and whether both halves park together (R167) -/
  dstep : Nat
  both : Bool
  /-- exercise latches left, 0 = clear-before-light not running; length of the form (R166) -/
  clearLeft : Nat
  clearTotal : Nat
  clearing : Bool
  /-- the band that the RESET blocks name (R163); 5801.02 and 5801.03 show the band of the last STATUS -/
  band : Nat
  /-- the next clear-before-light takes the full form (R166) -/
  needFull : Bool
  /-- parked for lack of lanes (R156) -/
  lack : Bool
  /-- the half takes part in display since a nut mark (R131, R167) -/
  joined : Bool
  /-- the short form is due when display starts after drone mode (R170) -/
  short : Bool
  deriving DecidableEq, Repr

def Half.reset : Half :=
  { load := 0, hashes := [], mapped := [], gone := [], rows := [], park := 3, dstep := 0, both := false,
    clearLeft := 0, clearTotal := 0, clearing := false,
    band := 0, needFull := true, lack := false, joined := false, short := false }

/-- Panel drive (07). -/
structure Panel where
  halfA : Half
  halfB : Half
  /-- rail sequence: 0 idle, 1 waiting for power-good, 2 delay up, 3 delay down, 4 unconditional
      release of R168 (R165) -/
  rail : Nat
  /-- rail under way -/
  railNo : Nat
  /-- waveform tables waiting to be sent: half and table; and those whose last chunk has been sent to both
  halves (R164) -/
  waveDue : List (Nat × Nat)
  waveSent : List Nat
  /-- the drone slate: source at entry, synthesised slate bytes of source 2 (R169) -/
  slate : List Host.Cell
  /-- the panel has been faulted and not re-armed -/
  faulted : Bool
  /-- root cycle until which the last slate refresh keeps the strings dark (R200) -/
  darkUntil : Nat
  deriving DecidableEq, Repr

def Panel.reset : Panel :=
  { halfA := Half.reset, halfB := Half.reset, rail := 0, railNo := 0, waveDue := [],
    waveSent := [], slate := [], faulted := false, darkUntil := 0 }

/-! ### Bridge (08) -/

/-- The six values of a tuning set (R196). -/
structure TuningSet where
  b : Nat
  k1 : Nat
  k2 : Nat
  k4 : Nat
  k8 : Nat
  cmax : Nat
  deriving DecidableEq, Repr

/-- The tuning of one string: five sets, target, and the values being ramped from (R196, R384). -/
structure Tuning where
  sets : List TuningSet
  tgt : Nat
  oldSets : List TuningSet
  oldTgt : Nat
  deriving DecidableEq, Repr

/-- The bridge's record of one string (R192 to R195). -/
structure StringRec where
  /-- consecutive frets with a lost or repeated monitor sample, and the last valid sample -/
  monRun : Nat
  monPrev : Option Nat
  /-- consecutive frames without a valid s1, and the s1 of this frame -/
  s1Run : Nat
  s1 : Option Nat
  /-- valid monitor samples in a row since the freeze, the first of them, whether they differ -/
  goodRun : Nat
  goodFirst : Option Nat
  goodDiffer : Bool
  /-- new gain and trim that wait for the next fret boundary: a_r and trim -/
  gainDue : Option Nat
  trimDue : Option (Nat × Int)
  /-- frozen, and open loop after 500 ms (R194, R195) -/
  frozen : Bool
  openLoop : Bool
  deriving DecidableEq, Repr

def StringRec.reset : StringRec :=
  { monRun := 0, monPrev := none, s1Run := 0, s1 := none, goodRun := 0,
    goodFirst := none, goodDiffer := false, gainDue := none, trimDue := none, frozen := false,
    openLoop := false }

/-- An uplink frame that a course driver owes (R185): kind 1 monitor, 2 pilot, 3 status, 4 calibration
pluck (R381); string, relative amplitude, sequence, and the root cycle of the event that asks for it: the
fall of the gate, or the end of the downlink frame. -/
structure Expect where
  course : Nat
  kind : Nat
  string : Nat
  amp : Nat
  seq : Nat
  fall : Nat
  deriving DecidableEq, Repr

/-- The bridge's record of one course link (R184 to R188, R197). -/
structure CourseRec where
  seq : Nat
  /-- consecutive good status frames while training or lost -/
  good : Nat
  /-- consecutive lost uplink frames -/
  lost : Nat
  /-- consecutive status frames with flags 0, 1 and 3 clear while blanked by the driver -/
  clean : Nat
  flagBlank : Bool
  linkBlank : Bool
  /-- release waits for a fret boundary or drone period -/
  flagRelease : Bool
  linkRelease : Bool
  bandDue : Option Nat
  deriving DecidableEq, Repr

def CourseRec.reset : CourseRec :=
  { seq := 0, good := 0, lost := 0, clean := 0, flagBlank := false, linkBlank := false,
    flagRelease := false, linkRelease := false, bandDue := none }

/-- The bridge (08). -/
structure Bridge where
  tuning : Tbl Tuning
  strings : Tbl StringRec
  courses : Tbl CourseRec
  expect : List Expect
  /-- slot under way: colour and bit (R175) -/
  slotColour : Nat
  slotBit : Nat
  /-- root cycle at which the slot under way began -/
  slotStart : Nat
  /-- sources that blank every string: 1 EMIT_INH_N, 2 PFAIL_N, 3 HCLK, 4 encoder, 5 panel (R188) -/
  blank : List Nat
  /-- sources whose release waits for the next fret boundary or drone period (R189, R190) -/
  release : List Nat
  freezeBlank : Bool
  /-- EMIT_INH_N is asserted, filtered (R189) -/
  emitInh : Bool
  /-- asserted for 1 s without a break (R189) -/
  stuck : Bool
  /-- reference window open in this frame; root cycle of its opening (R191, R228) -/
  window : Option Nat
  /-- gates of the drone period: string, rise and fall (R200) -/
  droneGates : List (Nat × Nat × Nat)
  deriving DecidableEq, Repr

def Bridge.reset : Bridge :=
  { tuning := [], strings := [], courses := [], expect := [], slotColour := 0, slotBit := 0,
    slotStart := 0, blank := [], release := [], freezeBlank := false, emitInh := false, stuck := false,
    window := none, droneGates := [] }

/-! ### Wheel and loop engine (09) -/

/-- The stored states of one loop section (R204), as mantissas. -/
structure Section where
  x1 : Int
  x2 : Int
  y1 : Int
  y2 : Int
  deriving DecidableEq, Repr

def Section.zero : Section := { x1 := 0, x2 := 0, y1 := 0, y2 := 0 }

/-- The wheel and loop engine (09). -/
structure Loop where
  /-- section states, element 8n + j -/
  sections : Tbl Section
  /-- last filtered levels of WE_A and WE_B (R212) -/
  a : Bool
  b : Bool
  /-- count since the last nut mark, and stamps of the last five count edges, newest first (R213) -/
  count : Int
  edges : List Nat
  /-- nut marks since spin-up began, stamp of the last one, last measured revolution (R214, R226) -/
  nuts : Nat
  lastNut : Nat
  rev : Option Nat
  /-- stamp of the last tick, its index, and the last tick interval, 0 = none (R215) -/
  lastTick : Option Nat
  tick : Nat
  tt : Nat
  /-- ramped target frequency f_t in revolutions per second, as a fraction; none before it is set
  (R222) -/
  ft : Option (Nat × Nat)
  /-- grid frame g, phase errors of the last 64 ticks, newest first (R223, R226) -/
  grid : Int
  errs : List Int
  /-- ticks in a row inside the lock window, ticks in a row outside (R224) -/
  inRun : Nat
  outRun : Nat
  /-- no lock since the loop was engaged at spin-up or on leaving drone mode (R223) -/
  acquiring : Bool
  /-- 6801.05 waits for the first locked tick of the display (R224) -/
  lockWait : Bool
  /-- drive link: sequence, good frames in a row, lost frames in a row, and the sequences of the command
  frames whose status frames are due, oldest first (R219, R220) -/
  dseq : Nat
  dgood : Nat
  dlost : Nat
  dwait : List Nat
  /-- revolutions in a row at drone speed (R235) -/
  droneRun : Nat
  /-- nut marks that a re-arm still waits for (R234) -/
  rearm : Nat
  /-- the encoder loss has been counted and the wheel not re-armed (R232) -/
  lost : Bool
  /-- braking follows the stop of display (R231) -/
  brakeDue : Bool
  deriving DecidableEq, Repr

def Loop.reset : Loop :=
  { sections := [], a := false, b := false, count := 0, edges := [], nuts := 0, lastNut := 0,
    rev := none, lastTick := none, tick := 0, tt := 0, ft := none, grid := 0, errs := [], inRun := 0,
    outRun := 0, acquiring := true, lockWait := false, dseq := 0, dgood := 0, dlost := 0,
    dwait := [], droneRun := 0, rearm := 0, lost := false, brakeDue := false }

/-! ### Serial lanes (10) -/

/-- A replayable block that is held until it is acknowledged, or that waits to be sent (R249): its
sequence, type, payload, the lane that it goes on, the root cycle at which it was last sent, and the
mirror rows of a panel half of which it carries a part. -/
structure Held where
  seq : Nat
  kind : Nat
  payload : Bytes
  lane : Nat
  sentAt : Nat
  rows : List Nat
  deriving DecidableEq, Repr

/-- The registers of the line code of one direction of a lane (R242): the last 31 scrambled bits, the
newest in bit 0, the last line bit, the length of its run, and the line bits of the last block. -/
structure Line where
  hist : Nat
  last : Bool
  run : Nat
  len : Nat
  deriving DecidableEq, Repr

/-- The registers of a line at reset: the spec gives no value (DESIGN CHOICE, log entry 10). -/
def Line.reset : Line := { hist := 0, last := false, run := 0, len := 0 }

/-- The link state of a lane group (R238): keyed by its first lane. -/
structure Group where
  /-- sequence that the next replayable block to be sent takes -/
  txSeq : Nat
  held : List Held
  /-- blocks that wait because 256 are held; their sequences are given when they are sent -/
  queue : List Held
  /-- block slots of the present row already sent, rows sent since the group's start, marker rows sent,
  and the rows that had been sent when the last filler row ended (R243 to R245) -/
  slot : Nat
  rows : Nat
  markers : Nat
  fillerAt : Nat
  /-- block slots of the present row already received, and the lanes that the last lane map names, as
  7003[p].07 lists lanes (R245, R258) -/
  rxSlot : Nat
  rxMap : Nat
  /-- two flush blocks follow the RESET of a closed load (R252) -/
  flushDue : Bool
  /-- sequence expected by the receiver -/
  rxSeq : Nat
  /-- a negative acknowledgement is outstanding; the rank of the bad block's lane -/
  nak : Bool
  nakRank : Nat
  /-- replay of this sequence in progress, root cycle of the resending, failed replays (R249, R250) -/
  replay : Option Nat
  replayAt : Nat
  fails : Nat
  /-- elastic buffer fill in blocks (R244) -/
  elastic : Nat
  /-- first sequence after the last closed load (R252) -/
  closed : Option Nat
  deriving DecidableEq, Repr

def Group.reset : Group :=
  { txSeq := 0, held := [], queue := [], slot := 0, rows := 0, markers := 0, fillerAt := 0,
    rxSlot := 0, rxMap := 0, flushDue := false, rxSeq := 0, nak := false, nakRank := 0, replay := none,
    replayAt := 0, fails := 0, elastic := 2, closed := none }

/-- The record of one lane (R242 to R245, R253 to R256, R262). -/
structure LaneRec where
  /-- training patterns found one after the other, and whether they are the complement; blocks since the
  last good marker of stage 4, none before it; the last far-end stage reported (R253) -/
  syncs : Nat
  inverse : Bool
  sinceMarker : Option Nat
  farStage : Nat
  /-- count and arrival of the last good marker (R243, R254) -/
  markerNo : Nat
  markerAt : Nat
  /-- preset requested by the far end, by this receiver, and in force in the transmitter (R256) -/
  farPreset : Option Nat
  ownPreset : Nat
  txPreset : Nat
  /-- the bring-up began with 7010[n].05 = 8: the preset follows the far end's request (R256) -/
  auto : Bool
  /-- markers sent since bring-up (R243) -/
  markersSent : Nat
  /-- the line code of the two directions (R242) -/
  tx : Line
  rx : Line
  /-- received blocks that wait for their place in the slot order (R245) -/
  fifo : List Bytes
  /-- the directions asleep (R262) -/
  txAsleep : Bool
  rxAsleep : Bool
  /-- bring-up started by a master (R260), re-train under R250, wake from sleep (R262) -/
  byMaster : Bool
  retrain : Bool
  waking : Bool
  deriving DecidableEq, Repr

def LaneRec.reset : LaneRec :=
  { syncs := 0, inverse := false, sinceMarker := none, farStage := 0, markerNo := 0, markerAt := 0,
    farPreset := none, ownPreset := 255, txPreset := 3, auto := false, markersSent := 0, tx := Line.reset,
    rx := Line.reset, fifo := [], txAsleep := false, rxAsleep := false, byMaster := false, retrain := false,
    waking := false }

/-- The serial lane fabric (10). -/
structure Lanes where
  groups : Tbl Group
  recs : Tbl LaneRec
  deriving DecidableEq, Repr

def Lanes.reset : Lanes := { groups := [], recs := [] }

/-! ### Memory system (11) -/

/-- A DRAM request in the controller (R283). -/
structure DramReq where
  id : Nat
  port : Nat
  addr : Nat
  len : Nat
  write : Option Bytes
  urgency : Nat
  start : Nat
  replays : Nat
  channel : Nat
  row : Nat
  bank : Nat
  /-- local address on its channel, and the other place that a write goes to while its chunk moves:
  channel and local address (R280, R291) -/
  loc : Nat
  also : Option (Nat × Nat)
  /-- root cycle at which its command was issued -/
  issued : Option Nat
  /-- a later request to its row entered while it was pending: its bank is served in arrival order (R284) -/
  guards : Bool
  deriving DecidableEq, Repr

/-- The controller's record of a DDR5 channel (R285 to R292). -/
structure ChanRec where
  lfsr : Nat
  /-- rolling activate counts by bank (R286) -/
  acts : Tbl Nat
  rfmInitial : Nat
  rfmMaximum : Nat
  /-- open row by bank -/
  openRows : Tbl Nat
  lastError : Option Nat
  /-- re-trained since it went offline; training while offline; chunks return after the training (R290,
  R292) -/
  retrained : Bool
  offline : Bool
  returnDue : Bool
  /-- kept training results exist (R279) -/
  trained : Bool
  /-- in self-refresh since this root cycle, or due to enter it once its issued commands have drained (R278,
  R289) -/
  selfRefresh : Bool
  refreshAt : Nat
  drains : Bool
  /-- last count of the DQS interval oscillator, the first one since the training, and the drift that
  the write timing tracks (R278, R279) -/
  oscillator : Nat
  oscBase : Option Nat
  drift : Int
  deriving DecidableEq, Repr

def ChanRec.reset : ChanRec :=
  { lfsr := 1, acts := [], rfmInitial := 0, rfmMaximum := 0, openRows := [],
    lastError := none, retrained := false, offline := false, returnDue := false, trained := false,
    selfRefresh := false, refreshAt := 0, drains := false, oscillator := 0, oscBase := none, drift := 0 }

/-- A stage-store bank copy (R268): source, spare, logical number, and whether the copy has ended. -/
structure BankCopy where
  src : Nat
  dst : Nat
  logical : Nat
  ended : Bool
  deriving DecidableEq, Repr

/-- A journal entry (R273). -/
structure JEntry where
  seq : Nat
  object : Nat
  element : Nat
  member : Nat
  value : Nat
  data : Bytes
  deriving DecidableEq, Repr

/-- The memories (11): the stage store's banks and copies, DRAM and its requests, the retained store and its
journal. -/
structure Memory where
  /-- the STAGE island has come up, and its banks have been tested, since RESET_N (R270) -/
  marched : Bool
  dram : List Host.Cell
  requests : List DramReq
  nextReq : Nat
  chans : Tbl ChanRec
  copies : List BankCopy
  /-- recent uncorrectable and corrected errors: bank and root cycle (R268) -/
  recentUE : List (Nat × Nat)
  recentCE : List (Nat × Nat)
  /-- banks whose fence or return waits for the next fret boundary -/
  fenceDue : List Nat
  /-- local indexes of the chunks of a channel that are redirected to havens, from the first number up
  to but not including the second (R291), channel migrating, next chunk -/
  redirects : Tbl (Nat × Nat)
  migrating : Option Nat
  returning : Bool
  nextChunk : Nat
  /-- the retained store: kept members as committed (canonical: rising keys) and BLOBs -/
  kept : Tbl Nat
  keptBlobs : Tbl Bytes
  /-- the kept members in the older copy of each record (R272) -/
  keptOld : Tbl Nat
  keptBlobsOld : Tbl Bytes
  /-- record sequences by (object, first element), copies 0 and 1 -/
  recSeq : Tbl (Nat × Nat)
  /-- the tuning region (R271, R272): sequences of copies 0 and 1 of the record of string n, at n, and of the
  training results of channel c, at 64 + c; the tuning in the older copy of each string's record -/
  tuneSeq : Tbl (Nat × Nat)
  tuneOld : Tbl Tuning
  /-- the journal buffer, its commit in progress, and the two halves -/
  journal : List JEntry
  committing : Option (List JEntry)
  half0 : List JEntry
  half1 : List JEntry
  activeHalf : Nat
  /-- blocks of the active half already written (R272, R274) -/
  activeUsed : Nat
  /-- the other half is being emptied; a commit waits for it (R273) -/
  emptying : Bool
  commitWaits : Bool
  jseq : Nat
  /-- root cycle of the first uncommitted entry -/
  firstAt : Nat
  /-- writes per block of the retained store, by block number (R276) -/
  wear : Tbl Nat
  deriving DecidableEq, Repr

def Memory.reset : Memory :=
  { marched := false, dram := [], requests := [], nextReq := 0, chans := [], copies := [], recentUE := [],
    recentCE := [], fenceDue := [], redirects := [], migrating := none,
    returning := false, nextChunk := 0, kept := [], keptBlobs := [], keptOld := [], keptBlobsOld := [],
    recSeq := [],
    tuneSeq := [], tuneOld := [], journal := [],
    committing := none, half0 := [], half1 := [], activeHalf := 0, activeUsed := 0, emptying := false,
    commitWaits := false, jseq := 0, firstAt := 0, wear := [] }

/-! ### Clocks and power (12) -/

/-- A gate request under way (R305): unit or subsystem gate, element, and whether it closes. -/
structure GateReq where
  unit : Bool
  element : Nat
  closing : Bool
  deriving DecidableEq, Repr

/-- Clock and power control (12). -/
structure Clock where
  /-- RESET_N is high (filtered) -/
  resetN : Bool
  /-- HCLK present; the PLL has locked since RESET_N; the hold phase runs; HCLK qualified -/
  hclk : Bool
  locked : Bool
  hold : Bool
  qualified : Bool
  /-- root cycle at which the acquisition under way began -/
  acqStart : Nat
  gateReq : Option GateReq
  /-- islands whose ramp is under way, and those that wait to open, in the order of R302 -/
  ramping : List Nat
  opening : List Nat
  /-- the island of that order whose ramp runs, and whether step 6 of R394, or the islands of a relock,
  are still to end -/
  openingNow : Option Nat
  islandsDue : Bool
  /-- root cycle of the last filtered rise of RESET_N: t = 0 of R394 -/
  t0 : Nat
  /-- islands isolated for a restart (R406) -/
  restarting : List Nat
  /-- failed lock attempt: HIRQ_N held until master 1 reads 2001.01 (R297) -/
  lockIrq : Bool
  /-- PFAIL_N asserted (filtered view), and chattering inputs: 0 PFAIL_N, 1 to 4 PNL_PG[0..3],
      5 RESET_N, 6 EMIT_INH_N (R392, R393) -/
  pfail : Bool
  chatter : List Nat
  /-- root cycles of the transitions of the last 1 ms: input and cycle (R393) -/
  edges : List (Nat × Nat)
  /-- the power-fail sequence has run and no new start-up has begun (R412) -/
  pfailRun : Bool
  pfailReleased : Bool
  /-- rails outside their limits -/
  badRails : List Nat
  /-- HIRQ_N asserted -/
  hirq : Bool
  /-- internal power-fail or shutdown closed the islands -/
  islandsStopped : Bool
  deriving DecidableEq, Repr

def Clock.reset : Clock :=
  { resetN := false, hclk := true, locked := false, hold := false, qualified := false,
    acqStart := 0, gateReq := none, ramping := [], opening := [], openingNow := none,
    islandsDue := false, t0 := 0, restarting := [], lockIrq := false,
    pfail := false, chatter := [], edges := [], pfailRun := false, pfailReleased := false,
    badRails := [], hirq := false, islandsStopped := false }

/-! ### Management (13) -/

/-- One session of a master (R325 to R327). -/
structure Session where
  id : Nat
  key : Bytes
  path : Nat
  peer : Bytes
  /-- highest request sequence accepted, sequences accepted within the 64 below it -/
  seqIn : Nat
  seen : List Nat
  /-- sequence of the next message to send -/
  seqOut : Nat
  /-- last 16 replies: request sequence and message -/
  replies : List (Nat × Bytes)
  /-- wall time at which the session became active -/
  opened : Nat
  deriving DecidableEq, Repr

/-- The session record of a master: the open session and those that are opening (R325). -/
structure Master where
  session : Option Session
  opening : List Session
  /-- root cycles of the OPEN messages accepted in the last second (R325) -/
  opens : List Nat
  /-- violation entries in the last second: their root cycles (R331) -/
  viols : List Nat
  deriving DecidableEq, Repr

def Master.reset : Master := { session := none, opening := [], opens := [], viols := [] }

/-- A staged item (R332, R333). -/
structure Staged where
  object : Nat
  element : Nat
  member : Nat
  value : Nat
  data : Bytes
  offset : Nat
  deriving DecidableEq, Repr

/-- One chord slot of 1020 (R332). -/
structure Chord where
  /-- 0 free, 1 open, 2 committing, 3 pending, 4 conflicted -/
  state : Nat
  gen : Nat
  master : Nat
  session : Nat
  items : List Staged
  mode : Nat
  at_ : Nat
  /-- sequence of the COMMIT -/
  seq : Nat
  /-- the handle has been aborted and the slot not reused (R339) -/
  aborted : Bool
  deriving DecidableEq, Repr

def Chord.reset : Chord :=
  { state := 0, gen := 0, master := 0, session := 0, items := [], mode := 0, at_ := 0, seq := 0,
    aborted := false }

/-- An event entry (R340). -/
structure Event where
  number : Nat
  object : Nat
  element : Nat
  member : Nat
  cause : Nat
  frame : Nat
  time : Nat
  deriving DecidableEq, Repr

/-- An accepted plain write item that management still has to hand to its owner (R335). -/
structure Handoff where
  item : Staged
  master : Nat
  /-- the session and request sequence whose REPLY follows the last item, with its codes -/
  session : Nat
  seq : Nat
  last : Bool
  codes : List Nat
  /-- the item's place among those codes -/
  index : Nat
  deriving DecidableEq, Repr

/-- Management (13). -/
structure Mgmt where
  masters : Tbl Master
  chords : Tbl Chord
  queues : Tbl (List Event)
  /-- events sent to each master and not acknowledged: number, root cycle of the last sending -/
  sent : Tbl (List (Nat × Nat))
  nextEvent : Nat
  handoff : List Handoff
  /-- the item whose gate close waits for its handshakes, and the last item of its request once it has
  been handed over: the REPLY waits too (R305) -/
  gateItem : Option Handoff
  gateReply : Option Handoff
  /-- the code of the last write or command judged outside a message -/
  lastCode : Nat
  /-- the images written to the firmware slots (R344); slot 0 holds the factory image until then -/
  fw : Tbl Bytes
  /-- slot being verified, hand-over target and its start -/
  verifying : Option Nat
  handover : Option (Nat × Nat)
  /-- messages held during a hand-over: path, peer, message (R345) -/
  heldMsgs : List (Nat × Bytes × Bytes)
  /-- the dictionary is in service (R394, step 5) -/
  service : Bool
  activeCore : Nat
  deriving DecidableEq, Repr

def Mgmt.reset : Mgmt :=
  { masters := [], chords := [], queues := [], sent := [], nextEvent := 1, handoff := [],
    gateItem := none, gateReply := none, lastCode := 0, fw := [], verifying := none, handover := none,
    heldMsgs := [], service := false,
    activeCore := 0 }

/-! ### Network time (14) -/

/-- A foreign master heard in a domain (R353, R356): port identity, announce dataset, stamps of the
last Announce messages. -/
structure Foreign where
  port : Nat
  identity : Nat
  dataset : List Nat
  stamps : List Nat
  interval : Int
  deriving DecidableEq, Repr

/-- A domain slot (R356 to R358). Times in 2^-16 ns, rates in 2^-40. -/
structure Slot where
  foreign : List Foreign
  /-- port identity and receive port of the selected master -/
  selected : Option (Nat × Nat)
  /-- domain estimate: its value at a root cycle, and the rate used from there -/
  base : Int
  baseAt : Nat
  rate : Int
  yd : Int
  started : Bool
  good : Nat
  outliers : Nat
  /-- last 16 delay exchanges, newest first -/
  delays : List Int
  exchanges : Nat
  /-- Sync awaiting its Follow_Up: sequence, ingress stamp in ps of root time, correction -/
  sync : Option (Nat × Int × Int)
  lastSync : Nat
  /-- last complete Sync: t1, t2, correction (for delay exchanges) -/
  lastT : Option (Int × Int × Int)
  /-- Delay_Req outstanding: sequence and egress stamp t3 in ps of root time; next sequence -/
  dreq : Option (Nat × Int)
  dseq : Nat
  trackSince : Nat
  deriving DecidableEq, Repr

def Slot.reset : Slot :=
  { foreign := [], selected := none, base := 0, baseAt := 0, rate := 0, yd := 0, started := false,
    good := 0, outliers := 0, delays := [], exchanges := 0, sync := none, lastSync := 0,
    lastT := none, dreq := none, dseq := 0, trackSince := 0 }

/-- A frame queued for a port (R351): whether it is PTP, and its ingress stamp in ps of root
time. -/
structure Relayed where
  out : Nat
  ptp : Bool
  stamp : Int
  frame : Bytes
  /-- a frame of the device's own that stands behind relayed PTP messages: what is sent, and the slot whose
      Delay_Req it is -/
  own : Option Output
  slot : Option Nat
  deriving DecidableEq, Repr

/-- Network time (14). -/
structure Net where
  slot0 : Slot
  slot1 : Slot
  queue : List Relayed
  /-- residual r and the root cycle at which it held (R360), 2^-16 ns -/
  resid : Int
  residAt : Nat
  /-- wall time without a source: base value, root cycle, rate (free-run and holdover) -/
  wallBase : Int
  wallAt : Nat
  wallRate : Int
  /-- the source of the pending step (R361) -/
  stepTo : Option Nat
  holdSince : Nat
  /-- own addresses usable after duplicate address detection: link-local, global (R352) -/
  linkOk : Bool
  globalOk : Bool
  deriving DecidableEq, Repr

def Net.reset : Net :=
  { slot0 := Slot.reset, slot1 := Slot.reset, queue := [], resid := 0, residAt := 0, wallBase := 0,
    wallAt := 0, wallRate := 0, stepTo := none, holdSince := 0, linkOk := false, globalOk := false }

/-! ### Health (15) -/

/-- The running calibration (R381 to R386). -/
structure Cal where
  tile : Bool
  course : Nat
  /-- 0 before N0, 1 quiet frames, 2 measuring, 3 writing, 4 the course has failed at its limit -/
  phase : Nat
  /-- frames of the phase -/
  inPhase : Nat
  /-- root cycle of N0 -/
  n0 : Nat
  /-- valid probe and photodiode readings by pair index 0 to 11 (R382), and dark readings -/
  probe : List (Nat × Nat)
  diode : List (Nat × Nat)
  dark : List Nat
  /-- measurement frames run -/
  measured : Nat
  /-- plucks begun in this frame, and the pair of the last one (none for a dark reading) -/
  pluck : Nat
  pair : Option Nat
  /-- courses passed, courses failed -/
  passed : List Nat
  failed : List Nat
  /-- the calibration ends at the next nut mark (R386) -/
  ending : Bool
  /-- calibration plucks run in this frame (R381) -/
  window : Bool
  deriving DecidableEq, Repr

/-- Health (15). -/
structure Health where
  /-- node temperatures in 1/256 °C (R367) -/
  nodes : List Int
  /-- Tg by evaluation: root cycle and Tg in 1/256 °C, newest first, back to the first one that is
  256 ms old (R369) -/
  history : List (Nat × Int)
  /-- Tg in 1/256 °C, and the rise rate in 1/256 °C in 0.256 s (R368, R369) -/
  tg : Int
  rise : Int
  /-- Tg has been at 106 °C or more since the last shutdown (R376) -/
  hot : Bool
  /-- shutdown records, newest first, 252 content bytes each (R377) -/
  records : List Bytes
  /-- sum of Tg over the powered seconds since manufacture, in 1/256 °C (R375) -/
  tgSum : Int
  cal : Option Cal
  /-- consecutive invalid probe readings (R379) -/
  probeBad : Nat
  /-- check-value registers before the final XOR, by unit (R387) -/
  cv : Tbl Nat
  deriving DecidableEq, Repr

def Health.reset : Health :=
  { nodes := List.replicate 32 0, history := [], tg := 0, rise := 0, hot := false,
    records := [], tgSum := 0, cal := none, probeBad := 0, cv := [] }

/-! ### Logs (16) and test access (17) -/

/-- The error log, the pinned region and the violation log (R408 to R411). -/
structure Logs where
  /-- entry bytes by ring index -/
  ring : Tbl Bytes
  /-- pinned entries, newest first, and the place in the region that the next one takes -/
  pinned : List Bytes
  pinAt : Nat
  viols : Tbl Bytes
  starts : Nat
  /-- recovery in progress by domain and index: level and the number of its log entry (R405) -/
  recovering : List (Nat × Nat × Nat × Nat)
  deriving DecidableEq, Repr

def Logs.reset : Logs := { ring := [], pinned := [], pinAt := 0, viols := [], starts := 0, recovering := [] }

/-! ### The machine -/

/-- The state of the device. -/
structure State where
  /-- commands that wait, first in first out (the model's own field) -/
  pending : List Instr
  /-- root cycle of the last command, counted from the filtered rise of RESET_N (R9) -/
  now : Nat
  /-- number of free values drawn (the model's own field) -/
  freeIdx : Nat
  /-- what the device drove while the last command ran (the model's own field) -/
  out : List Output
  /-- the object dictionary: members whose value is not the default (R2, R6) -/
  dict : Tbl Nat
  /-- the BLOB members (R3) -/
  blobs : Tbl Bytes
  ingress : Ingress
  codec : Codec
  comp : Comp
  ray : Ray
  seq : Seq
  panel : Panel
  bridge : Bridge
  loop : Loop
  lanes : Lanes
  memory : Memory
  clock : Clock
  mgmt : Mgmt
  net : Net
  health : Health
  logs : Logs
  /-- instruction register of the test access port (R436): BYPASS after power-up -/
  tapIr : BitVec 8
  deriving DecidableEq, Repr

/-- Why a command has no next state. -/
inductive Fault where
  /-- Raised by every meaning whose command names a unit that the device does not have (a mesh port
      above 7, a string above 47, an island above 13, ...). Safe: nothing is claimed about it. -/
  | noSuchUnit
  deriving DecidableEq, Repr

/-- Why the model has no meaning for a command. -/
inductive Refusal where
  /-- Raised in the dispatch only, for a command that is not modelled. Safe. -/
  | notModelled (mnemonic : String)
  deriving DecidableEq, Repr

/-- The device right after reset: RESET_N low with every rail and HCLK present, every member at its
default, no engine at work. -/
def State.reset : State :=
  { pending := [], now := 0, freeIdx := 0, out := [], dict := [], blobs := [],
    ingress := Ingress.reset, codec := Codec.reset, comp := Comp.reset, ray := Ray.reset,
    seq := Seq.reset, panel := Panel.reset, bridge := Bridge.reset, loop := Loop.reset,
    lanes := Lanes.reset, memory := Memory.reset, clock := Clock.reset, mgmt := Mgmt.reset,
    net := Net.reset, health := Health.reset, logs := Logs.reset, tapIr := 0xFF#8 }

end Sys2Proof.Machine
end

