-- ==== Sys2Proof/Machine/Crc.lean ====
section
/-!
DEFINITION. Check values and digests (R35, R181, R240, R325, R387): byte strings, CRC-32C, CRC-32,
CRC-16, CRC-8, SHA-256 and HMAC-SHA-256. The four CRCs are those of R387.
-/

namespace Sys2Proof.Machine

/-! ### Byte strings, most significant byte first (R5) -/

/-- The low `n` bytes of a number, most significant first. -/
def beBytes : Nat → Nat → Bytes
  | 0, _ => []
  | n + 1, v => BitVec.ofNat 8 (v / 256 ^ n) :: beBytes n v

/-- The number that a byte string spells, most significant byte first. -/
def beNat (bs : Bytes) : Nat := bs.foldl (fun a b => a * 256 + b.toNat) 0

/-- `n` bytes of a byte string from offset `o`. -/
def slice (bs : Bytes) (o n : Nat) : Bytes := (bs.drop o).take n

/-- The field of `n` bytes at offset `o`. -/
def field (bs : Bytes) (o n : Nat) : Nat := beNat (slice bs o n)

/-- `n` zero bytes. -/
def zeros (n : Nat) : Bytes := List.replicate n 0#8

/-- A two's complement code of `w` bits as a signed number (R3). -/
def toS (w v : Nat) : Int := if v < 2 ^ (w - 1) then (v : Int) else (v : Int) - 2 ^ w

/-- The `w`-bit two's complement code of a signed number. -/
def ofS (w : Nat) (i : Int) : Nat := (i % (2 ^ w : Int)).toNat

/-! ### CRCs (R387) -/

/-- `k` shift steps of a reflected CRC register. -/
def crcShiftRef (poly : Nat) : Nat → Nat → Nat
  | 0, c => c
  | k + 1, c => crcShiftRef poly k (if c % 2 = 1 then (c / 2) ^^^ poly else c / 2)

/-- `k` shift steps of an unreflected CRC register of `w` bits. -/
def crcShift (w poly : Nat) : Nat → Nat → Nat
  | 0, c => c
  | k + 1, c =>
    crcShift w poly k (if 2 ^ (w - 1) ≤ c then ((c * 2) % 2 ^ w) ^^^ poly else c * 2)

/-- One byte into the register of check-value kind `kind` of R387: 0 CRC-32C, 1 CRC-32, 2 CRC-16,
3 CRC-8. The reflected polynomials are those of R387 with their bits reversed. -/
def crcByte (kind c : Nat) (b : Nat) : Nat :=
  match kind with
  | 0 => crcShiftRef 0x82F63B78 8 (c ^^^ b)
  | 1 => crcShiftRef 0xEDB88320 8 (c ^^^ b)
  | 2 => crcShift 16 0x1021 8 (c ^^^ (b * 256))
  | _ => crcShift 8 0x07 8 (c ^^^ b)

/-- Initial register of a kind (R387). -/
def crcInit (kind : Nat) : Nat :=
  match kind with
  | 0 => 0xFFFFFFFF
  | 1 => 0xFFFFFFFF
  | 2 => 0xFFFF
  | _ => 0

/-- Final XOR of a kind (R387). -/
def crcFinal (kind c : Nat) : Nat :=
  match kind with
  | 0 => c ^^^ 0xFFFFFFFF
  | 1 => c ^^^ 0xFFFFFFFF
  | _ => c

/-- The check value of a kind over a byte string (R387). -/
def crcOf (kind : Nat) (bs : Bytes) : Nat :=
  crcFinal kind (bs.foldl (fun c b => crcByte kind c b.toNat) (crcInit kind))

/-- CRC-32C (R35, R240). -/
def crc32c (bs : Bytes) : Nat := crcOf 0 bs

/-- CRC-8 (R181, R216). -/
def crc8 (bs : Bytes) : Nat := crcOf 3 bs

/-! ### SHA-256 and HMAC (R322, R325) -/

/-- Rotation of a 32-bit word to the right. -/
def rotr (x k : Nat) : Nat := (x >>> k) ||| ((x <<< (32 - k)) % 4294967296)

/-- The `n` 32-bit words that a number holds, the most significant first. -/
def words32 (n v : Nat) : List Nat := (List.range n).map fun i => v / 2 ^ (32 * (n - 1 - i)) % 2 ^ 32

/-- The 64 round constants of SHA-256 as one number for each sixteen of them. -/
def shaK : List Nat :=
  words32 16 0x428a2f9871374491b5c0fbcfe9b5dba53956c25b59f111f1923f82a4ab1c5ed5d807aa9812835b01243185be550c7dc372be5d7480deb1fe9bdc06a7c19bf174 ++
  words32 16 0xe49b69c1efbe47860fc19dc6240ca1cc2de92c6f4a7484aa5cb0a9dc76f988da983e5152a831c66db00327c8bf597fc7c6e00bf3d5a7914706ca635114292967 ++
  words32 16 0x27b70a852e1b21384d2c6dfc53380d13650a7354766a0abb81c2c92e92722c85a2bfe8a1a81a664bc24b8b70c76c51a3d192e819d6990624f40e3585106aa070 ++
  words32 16 0x19a4c1161e376c082748774c34b0bcb5391c0cb34ed8aa4a5b9cca4f682e6ff3748f82ee78a5636f84c878148cc7020890befffaa4506cebbef9a3f7c67178f2

/-- The initial hash value of SHA-256 as one number. -/
def shaH : List Nat := words32 8 0x6a09e667bb67ae853c6ef372a54ff53a510e527f9b05688c1f83d9ab5be0cd19

/-- Message schedule: the last 16 words, newest first, extended by one word. -/
def shaExtend (ws : List Nat) : List Nat :=
  let w15 := ws.getD 14 0
  let w2 := ws.getD 1 0
  let s0 := rotr w15 7 ^^^ rotr w15 18 ^^^ (w15 >>> 3)
  let s1 := rotr w2 17 ^^^ rotr w2 19 ^^^ (w2 >>> 10)
  ((ws.getD 15 0 + s0 + ws.getD 6 0 + s1) % 4294967296) :: ws

/-- The eight working words after one round. -/
def shaRound (h : List Nat) (kw : Nat × Nat) : List Nat :=
  match h with
  | [a, b, c, d, e, f, g, hh] =>
    let s1 := rotr e 6 ^^^ rotr e 11 ^^^ rotr e 25
    let ch := (e &&& f) ^^^ ((e ^^^ 0xFFFFFFFF) &&& g)
    let t1 := hh + s1 + ch + kw.1 + kw.2
    let s0 := rotr a 2 ^^^ rotr a 13 ^^^ rotr a 22
    let maj := (a &&& b) ^^^ (a &&& c) ^^^ (b &&& c)
    [(t1 + s0 + maj) % 4294967296, a, b, c, (d + t1) % 4294967296, e, f, g]
  | _ => h

/-- The 16 words of a 64-byte block, in order. -/
def shaWords (blk : Bytes) : List Nat := (List.range 16).map fun i => field blk (4 * i) 4

/-- The hash value after one 64-byte block. -/
def shaBlock (h : List Nat) (blk : Bytes) : List Nat :=
  let ws := ((List.range 48).foldl (fun ws _ => shaExtend ws) (shaWords blk).reverse).reverse
  let r := (shaK.zip ws).foldl shaRound h
  (h.zip r).map fun p => (p.1 + p.2) % 4294967296

/-- The padded message. -/
def shaPad (bs : Bytes) : Bytes :=
  let n := bs.length
  bs ++ [0x80#8] ++ zeros ((119 - n % 64) % 64) ++ beBytes 8 (8 * n)

/-- The hash value after `k` blocks. -/
def shaBlocks : Nat → Bytes → List Nat → List Nat
  | 0, _, h => h
  | k + 1, bs, h => shaBlocks k (bs.drop 64) (shaBlock h (bs.take 64))

/-- SHA-256. -/
def sha256 (bs : Bytes) : Bytes :=
  let p := shaPad bs
  (shaBlocks (p.length / 64) p shaH).flatMap (beBytes 4)

/-- HMAC-SHA-256 (R325). -/
def hmac (key msg : Bytes) : Bytes :=
  let k0 := if 64 < key.length then sha256 key else key
  let k := k0 ++ zeros (64 - k0.length)
  sha256 (k.map (· ^^^ 0x5C#8) ++ sha256 (k.map (· ^^^ 0x36#8) ++ msg))

/-- The 16-byte tag of a message (R322). -/
def tagOf (key msg : Bytes) : Bytes := (hmac key msg).take 16

end Sys2Proof.Machine
end

