-- ==== Sys2Proof/Machine/Dictionary.lean ====
section
/-!
DEFINITION. The object dictionary as a table (R2 to R8, R318): one row for each line of the spec's
object tables, with its type, access code, kept mark, default and apply class. A default that the
spec gives by element stands in `elementDefault`.
-/

namespace Sys2Proof.Machine

/-- Member types (R3). `fxs m n` is FX sM.N, `fxu m n` is FX uM.N. -/
inductive Ty where
  | u (w : Nat) | s (w : Nat) | bool | bits (w : Nat) | enum8 | fxs (m n : Nat) | fxu (m n : Nat)
  | time | str32 | blob
  deriving DecidableEq, Repr

/-- The narrowest of 8, 16, 32 and 64 bits that holds `n` bits (R4). -/
def fxWidth (n : Nat) : Nat := if n ≤ 8 then 8 else if n ≤ 16 then 16 else if n ≤ 32 then 32 else 64

/-- Width of a member's value in bits (R3, R4); 0 for BLOB. -/
def Ty.width : Ty → Nat
  | .u w => w
  | .s w => w
  | .bool => 8
  | .bits w => w
  | .enum8 => 8
  | .fxs m n => fxWidth (1 + m + n)
  | .fxu m n => fxWidth (m + n)
  | .time => 96
  | .str32 => 256
  | .blob => 0

/-- Access codes (R6). -/
inductive Acc where
  | ro | rw | wo | w1c | cw
  deriving DecidableEq, Repr

/-- Apply classes (R8); `none` for members that are never written. -/
inductive Apply where
  | none | now | fret | frame | stopped
  deriving DecidableEq, Repr

/-- One line of an object table: object number, number of elements, first and last member number,
name, type, access code, kept mark (R7), default and apply class. -/
structure MemberRow where
  object : Nat
  elements : Nat
  first : Nat
  last : Nat
  name : String
  ty : Ty
  acc : Acc
  kept : Bool
  dflt : Nat
  apply : Apply
  deriving DecidableEq, Repr

/-- Members tabled in R57 (02_scene_stream.md). -/
def rowsSceneStream : List MemberRow := [
  ⟨0x3000, 1, 0x01, 0x01, "WALL_ID", .u 16, .rw, true, 0, .now⟩,
  ⟨0x3000, 1, 0x02, 0x02, "OWN_X", .u 8, .rw, true, 0, .stopped⟩,
  ⟨0x3000, 1, 0x03, 0x03, "OWN_Y", .u 8, .rw, true, 0, .stopped⟩,
  ⟨0x3000, 1, 0x04, 0x04, "LATE_LIMIT", .u 8, .rw, true, 2, .frame⟩,
  ⟨0x3000, 1, 0x05, 0x05, "INCOMPLETE_POLICY", .enum8, .rw, true, 0, .frame⟩,
  ⟨0x3000, 1, 0x06, 0x06, "SPILL_ENABLE", .bool, .rw, true, 0, .now⟩,
  ⟨0x3000, 1, 0x07, 0x07, "SPILL_BASE", .u 64, .rw, true, 0, .stopped⟩,
  ⟨0x3000, 1, 0x08, 0x08, "CUE_BASE", .u 64, .rw, true, 0, .stopped⟩,
  ⟨0x3000, 1, 0x09, 0x09, "CUE_SIZE", .u 64, .rw, true, 0, .stopped⟩,
  ⟨0x3001, 1, 0x01, 0x01, "NEXT_FRAME", .u 32, .ro, false, 0, .none⟩,
  ⟨0x3001, 1, 0x02, 0x02, "CURRENT_FRAME", .u 32, .ro, false, 0, .none⟩,
  ⟨0x3001, 1, 0x03, 0x03, "NEXT_STATE", .bits 8, .ro, false, 0, .none⟩,
  ⟨0x3001, 1, 0x04, 0x04, "NEXT_GRANULES", .u 32, .ro, false, 0, .none⟩,
  ⟨0x3002, 1, 0x01, 0x0F, "counters", .u 32, .ro, false, 0, .none⟩,
  ⟨0x3002, 1, 0x10, 0x10, "CLEAR", .u 8, .wo, false, 0, .now⟩,
  ⟨0x3002, 1, 0x11, 0x11, "SPILL_FULL", .u 32, .ro, false, 0, .none⟩,
  ⟨0x3010, 8, 0x01, 0x01, "PORT_UP", .bool, .ro, false, 0, .none⟩,
  ⟨0x3010, 8, 0x02, 0x02, "PARCELS_IN", .u 64, .ro, false, 0, .none⟩,
  ⟨0x3010, 8, 0x03, 0x03, "PARCELS_OUT", .u 64, .ro, false, 0, .none⟩,
  ⟨0x3010, 8, 0x04, 0x04, "RELAY_DROP", .u 32, .ro, false, 0, .none⟩,
  ⟨0x3020, 64, 0x01, 0x01, "BUF_BASE", .u 64, .rw, true, 0, .now⟩,
  ⟨0x3020, 64, 0x02, 0x02, "BUF_SIZE", .u 32, .rw, true, 0, .now⟩,
  ⟨0x3020, 64, 0x03, 0x03, "BUF_FRAME", .u 32, .ro, false, 0, .none⟩,
  ⟨0x3040, 1, 0x01, 0x01, "CUE_START", .time, .rw, false, 0, .now⟩,
  ⟨0x3040, 1, 0x02, 0x02, "CUE_FIRST", .u 16, .rw, false, 0, .now⟩,
  ⟨0x3040, 1, 0x03, 0x03, "CUE_COUNT", .u 16, .rw, false, 0, .now⟩,
  ⟨0x3040, 1, 0x04, 0x04, "CUE_LOOPS", .u 16, .rw, false, 1, .now⟩,
  ⟨0x3040, 1, 0x05, 0x05, "CUE_GO", .u 8, .wo, false, 0, .now⟩,
  ⟨0x3041, 1, 0x01, 0x01, "REPLAY_ACTIVE", .bool, .ro, false, 0, .none⟩,
  ⟨0x3041, 1, 0x02, 0x02, "REPLAY_CUE", .u 16, .ro, false, 0, .none⟩,
  ⟨0x3041, 1, 0x03, 0x03, "REPLAY_LOOPS_DONE", .u 16, .ro, false, 0, .none⟩,
  ⟨0x3100, 32768, 0x01, 0x01, "Q_STATE", .bits 8, .ro, false, 0, .none⟩,
  ⟨0x3100, 32768, 0x02, 0x02, "Q_LENGTH", .u 32, .ro, false, 0, .none⟩,
  ⟨0x3100, 32768, 0x03, 0x03, "Q_PARCELS", .u 32, .ro, false, 0, .none⟩,
  ⟨0x3300, 65536, 0x01, 0x01, "ROUTE_PRIMARY", .u 8, .rw, true, 255, .now⟩,
  ⟨0x3300, 65536, 0x02, 0x02, "ROUTE_ALTERNATE", .u 8, .rw, true, 255, .now⟩,
  ⟨0x3400, 128, 0x01, 0x01, "TREE_OUT", .bits 8, .rw, true, 0, .now⟩,
  ⟨0x3500, 65536, 0x01, 0x01, "CUE_STATE", .enum8, .ro, false, 0, .none⟩,
  ⟨0x3500, 65536, 0x02, 0x02, "CUE_BYTES", .u 32, .ro, false, 0, .none⟩,
  ⟨0x3500, 65536, 0x03, 0x03, "CUE_CLEAR", .u 8, .wo, false, 0, .now⟩]

/-- Members tabled in R77 (03_codec.md). -/
def rowsCodec : List MemberRow := [
  ⟨0x3800, 1, 0x01, 0x01, "COMP_LEVEL", .u 8, .rw, true, 3, .now⟩,
  ⟨0x3800, 1, 0x02, 0x02, "SELFTEST_ENABLE", .bool, .rw, true, 1, .now⟩,
  ⟨0x3801, 1, 0x01, 0x01, "DEC_ACTIVE", .u 16, .ro, false, 256, .none⟩,
  ⟨0x3801, 1, 0x02, 0x02, "DEC_SPARES", .u 8, .ro, false, 16, .none⟩,
  ⟨0x3801, 1, 0x03, 0x03, "DEC_BANDWIDTH", .u 16, .ro, false, 1024, .none⟩,
  ⟨0x3801, 1, 0x04, 0x04, "COMP_IN_SERVICE", .u 8, .ro, false, 16, .none⟩,
  ⟨0x3802, 1, 0x01, 0x07, "BAD_REASON_1_to_7", .u 32, .ro, false, 0, .none⟩,
  ⟨0x3802, 1, 0x08, 0x08, "VERIFY_MISMATCH", .u 32, .ro, false, 0, .none⟩,
  ⟨0x3802, 1, 0x09, 0x09, "STORED_BY_SIZE", .u 32, .ro, false, 0, .none⟩,
  ⟨0x3802, 1, 0x0A, 0x0A, "LATE_RESULT", .u 32, .ro, false, 0, .none⟩,
  ⟨0x3802, 1, 0x0B, 0x0B, "LOG_SUPPRESSED", .u 32, .ro, false, 0, .none⟩,
  ⟨0x3802, 1, 0x0C, 0x0C, "BANDS_ABANDONED", .u 32, .ro, false, 0, .none⟩,
  ⟨0x3802, 1, 0x0D, 0x0D, "SELFTEST_FAIL", .u 32, .ro, false, 0, .none⟩,
  ⟨0x3802, 1, 0x10, 0x10, "CLEAR", .u 8, .wo, false, 0, .now⟩,
  ⟨0x3803, 1, 0x01, 0x01, "LAST_BAD_QUEUE", .u 16, .ro, false, 0, .none⟩,
  ⟨0x3803, 1, 0x02, 0x02, "LAST_BAD_FRAME", .u 32, .ro, false, 0, .none⟩,
  ⟨0x3803, 1, 0x03, 0x03, "LAST_BAD_REASON", .enum8, .ro, false, 0, .none⟩,
  ⟨0x3803, 1, 0x04, 0x04, "LAST_BAD_OUTPUT", .u 16, .ro, false, 0, .none⟩,
  ⟨0x3803, 1, 0x05, 0x05, "LAST_BAD_SOURCE", .enum8, .ro, false, 0, .none⟩,
  ⟨0x3804, 1, 0x01, 0x01, "BAD_LOG_LIMIT", .u 8, .rw, true, 8, .now⟩,
  ⟨0x3810, 272, 0x01, 0x01, "DLANE_STATE", .enum8, .ro, false, 0, .none⟩,
  ⟨0x3810, 272, 0x02, 0x02, "DLANE_FENCED", .bool, .rw, true, 0, .fret⟩,
  ⟨0x3810, 272, 0x03, 0x03, "DLANE_TEST_FAILS", .u 32, .ro, false, 0, .none⟩,
  ⟨0x3820, 16, 0x01, 0x01, "CLANE_TILES", .u 64, .ro, false, 0, .none⟩,
  ⟨0x3820, 16, 0x02, 0x02, "CLANE_MISMATCH", .u 32, .ro, false, 0, .none⟩,
  ⟨0x3820, 16, 0x03, 0x03, "CLANE_STATE", .enum8, .ro, false, 0, .none⟩,
  ⟨0x3820, 16, 0x04, 0x04, "CLANE_FENCED", .bool, .rw, true, 0, .now⟩]

/-- Members tabled in R95 (04_compositor.md). -/
def rowsCompositor : List MemberRow := [
  ⟨0x4000, 1, 0x01, 0x01, "COMP_ENABLE", .bool, .rw, true, 1, .now⟩,
  ⟨0x4000, 1, 0x02, 0x02, "SRC_WAIT_LIMIT", .u 32, .rw, true, 4000, .now⟩,
  ⟨0x4000, 1, 0x03, 0x03, "CAP_PLANE", .u 8, .rw, true, 255, .now⟩,
  ⟨0x4000, 1, 0x04, 0x04, "CAP_BASE", .u 64, .rw, true, 0, .now⟩,
  ⟨0x4000, 1, 0x05, 0x05, "CAP_SLOTS", .u 8, .rw, true, 1, .now⟩,
  ⟨0x4001, 1, 0x01, 0x01, "COMP_STATE", .enum8, .ro, false, 0, .none⟩,
  ⟨0x4001, 1, 0x02, 0x02, "COMP_FRAME", .u 32, .ro, false, 0, .none⟩,
  ⟨0x4001, 1, 0x03, 0x03, "COMP_TILES", .u 16, .ro, false, 0, .none⟩,
  ⟨0x4001, 1, 0x04, 0x04, "CAP_FRAME", .u 32, .ro, false, 0, .none⟩,
  ⟨0x4001, 1, 0x05, 0x05, "CAP_SLOT", .u 8, .ro, false, 255, .none⟩,
  ⟨0x4002, 1, 0x01, 0x07, "counters", .u 32, .ro, false, 0, .none⟩,
  ⟨0x4002, 1, 0x10, 0x10, "CLEAR", .u 8, .wo, false, 0, .now⟩,
  ⟨0x4010, 8, 0x01, 0x01, "V_ENABLE", .bool, .rw, true, 0, .now⟩,
  ⟨0x4010, 8, 0x02, 0x02, "V_SRC_BUF", .u 8, .rw, true, 0, .now⟩,
  ⟨0x4010, 8, 0x03, 0x03, "V_FORMAT", .enum8, .rw, true, 2, .now⟩,
  ⟨0x4010, 8, 0x04, 0x04, "V_SRC_W", .u 16, .rw, true, 0, .now⟩,
  ⟨0x4010, 8, 0x05, 0x05, "V_SRC_H", .u 16, .rw, true, 0, .now⟩,
  ⟨0x4010, 8, 0x06, 0x06, "V_SRC_STRIDE", .u 32, .rw, true, 0, .now⟩,
  ⟨0x4010, 8, 0x07, 0x07, "V_DST_X", .s 16, .rw, true, 0, .now⟩,
  ⟨0x4010, 8, 0x08, 0x08, "V_DST_Y", .s 16, .rw, true, 0, .now⟩,
  ⟨0x4010, 8, 0x09, 0x09, "V_DST_W", .u 16, .rw, true, 0, .now⟩,
  ⟨0x4010, 8, 0x0A, 0x0A, "V_DST_H", .u 16, .rw, true, 0, .now⟩,
  ⟨0x4010, 8, 0x0B, 0x0B, "V_DISPARITY", .fxs 5 10, .rw, true, 0, .now⟩,
  ⟨0x4010, 8, 0x0C, 0x0C, "V_OPACITY", .u 8, .rw, true, 255, .now⟩,
  ⟨0x4010, 8, 0x0D, 0x0D, "V_SYNC", .enum8, .rw, true, 0, .now⟩,
  ⟨0x4020, 8, 0x01, 0x01, "G_ENABLE", .bool, .rw, true, 0, .now⟩,
  ⟨0x4020, 8, 0x02, 0x02, "G_SRC_BUF", .u 8, .rw, true, 0, .now⟩,
  ⟨0x4020, 8, 0x03, 0x03, "G_FORMAT", .enum8, .rw, true, 2, .now⟩,
  ⟨0x4020, 8, 0x04, 0x04, "G_SRC_W", .u 16, .rw, true, 0, .now⟩,
  ⟨0x4020, 8, 0x05, 0x05, "G_SRC_H", .u 16, .rw, true, 0, .now⟩,
  ⟨0x4020, 8, 0x06, 0x06, "G_SRC_STRIDE", .u 32, .rw, true, 0, .now⟩,
  ⟨0x4020, 8, 0x07, 0x07, "G_DST_X", .s 16, .rw, true, 0, .now⟩,
  ⟨0x4020, 8, 0x08, 0x08, "G_DST_Y", .s 16, .rw, true, 0, .now⟩,
  ⟨0x4020, 8, 0x09, 0x09, "G_DISPARITY", .fxs 5 10, .rw, true, 0, .now⟩,
  ⟨0x4020, 8, 0x0A, 0x0A, "G_OPACITY", .u 8, .rw, true, 255, .now⟩,
  ⟨0x4020, 8, 0x0B, 0x0B, "G_SYNC", .enum8, .rw, true, 0, .now⟩,
  ⟨0x4020, 8, 0x0C, 0x0C, "G_KEY_ENABLE", .bool, .rw, true, 0, .now⟩,
  ⟨0x4020, 8, 0x0D, 0x0D, "G_KEY_LO", .bits 32, .rw, true, 0, .now⟩,
  ⟨0x4020, 8, 0x0E, 0x0E, "G_KEY_HI", .bits 32, .rw, true, 0, .now⟩,
  ⟨0x4030, 64, 0x01, 0x01, "BUF_BYTES", .u 32, .ro, false, 0, .none⟩]

/-- Members tabled in R119 (05_ray_synthesis.md). -/
def rowsRaySynthesis : List MemberRow := [
  ⟨0x4800, 1, 0x01, 0x01, "S_LIMIT", .u 8, .rw, true, 4, .frame⟩,
  ⟨0x4800, 1, 0x02, 0x02, "PLANE_LIMIT", .u 8, .rw, true, 64, .frame⟩,
  ⟨0x4800, 1, 0x03, 0x03, "FRET_DIR", .enum8, .rw, true, 0, .stopped⟩,
  ⟨0x4800, 1, 0x04, 0x04, "LENS_ORDER", .enum8, .rw, true, 0, .stopped⟩,
  ⟨0x4800, 1, 0x05, 0x05, "FIT_MARGIN", .u 32, .rw, true, 4096, .frame⟩,
  ⟨0x4800, 1, 0x06, 0x06, "EDGE_MODE", .enum8, .rw, true, 0, .frame⟩,
  ⟨0x4800, 1, 0x07, 0x07, "SELFTEST_ENABLE", .bool, .rw, true, 1, .now⟩,
  ⟨0x4801, 1, 0x01, 0x01, "S_EFF", .u 8, .ro, false, 0, .none⟩,
  ⟨0x4801, 1, 0x02, 0x02, "PLANE_CAP", .u 8, .ro, false, 0, .none⟩,
  ⟨0x4801, 1, 0x03, 0x03, "CENTRAL", .bool, .ro, false, 0, .none⟩,
  ⟨0x4801, 1, 0x04, 0x04, "ENG_ACTIVE", .u 8, .ro, false, 128, .none⟩,
  ⟨0x4801, 1, 0x05, 0x05, "ENG_SPARES", .u 8, .ro, false, 8, .none⟩,
  ⟨0x4801, 1, 0x06, 0x06, "RATIO_USED", .u 8, .ro, false, 4, .none⟩,
  ⟨0x4801, 1, 0x07, 0x07, "FIT_FINISH", .u 32, .ro, false, 0, .none⟩,
  ⟨0x4801, 1, 0x08, 0x08, "FIT_STATE", .enum8, .ro, false, 0, .none⟩,
  ⟨0x4801, 1, 0x09, 0x09, "LENS_WIDTH", .u 8, .ro, false, 0, .none⟩,
  ⟨0x4802, 1, 0x01, 0x07, "counters", .u 32, .ro, false, 0, .none⟩,
  ⟨0x4802, 1, 0x10, 0x10, "CLEAR", .u 8, .wo, false, 0, .now⟩,
  ⟨0x4803, 1, 0x01, 0x01, "LAST_REUSE_FRAME", .u 32, .ro, false, 0, .none⟩,
  ⟨0x4803, 1, 0x02, 0x02, "LAST_REUSE_FRET", .u 8, .ro, false, 0, .none⟩,
  ⟨0x4803, 1, 0x03, 0x03, "LAST_REUSE_BAND", .u 8, .ro, false, 0, .none⟩,
  ⟨0x4810, 136, 0x01, 0x01, "ENG_STATE", .enum8, .ro, false, 0, .none⟩,
  ⟨0x4810, 136, 0x02, 0x02, "ENG_FENCED", .bool, .rw, true, 0, .fret⟩,
  ⟨0x4810, 136, 0x03, 0x03, "ENG_TEST_FAILS", .u 32, .ro, false, 0, .none⟩]

/-- Members tabled in R148 (06_fret_timeline.md). -/
def rowsFretTimeline : List MemberRow := [
  ⟨0x5000, 1, 0x01, 0x01, "TIMING_MODE", .u 8, .rw, true, 0, .frame⟩,
  ⟨0x5000, 1, 0x02, 0x02, "DISPLAY_RUN", .bool, .rw, true, 1, .now⟩,
  ⟨0x5000, 1, 0x03, 0x03, "SCAN_MODE", .enum8, .rw, false, 0, .frame⟩,
  ⟨0x5000, 1, 0x04, 0x04, "SERVICE_HALF", .enum8, .rw, false, 1, .frame⟩,
  ⟨0x5000, 1, 0x05, 0x05, "SERVICE_ACTIVITY", .enum8, .rw, false, 0, .frame⟩,
  ⟨0x5000, 1, 0x06, 0x06, "LOAD_TEST_DELAY", .u 32, .rw, false, 0, .frame⟩,
  ⟨0x5000, 1, 0x07, 0x07, "SOURCE", .enum8, .rw, false, 0, .frame⟩,
  ⟨0x5000, 1, 0x08, 0x08, "FREEZE_ACTION", .enum8, .rw, true, 0, .now⟩,
  ⟨0x5000, 1, 0x09, 0x09, "REPEAT_NOTICE", .u 16, .rw, true, 60, .now⟩,
  ⟨0x5001, 1, 0x01, 0x01, "FRAME_NUMBER", .u 32, .ro, false, 0, .none⟩,
  ⟨0x5001, 1, 0x02, 0x02, "FRET_NOW", .u 8, .ro, false, 255, .none⟩,
  ⟨0x5001, 1, 0x03, 0x03, "DISPLAY_STATE", .enum8, .ro, false, 0, .none⟩,
  ⟨0x5001, 1, 0x04, 0x04, "MODE_IN_FORCE", .u 8, .ro, false, 0, .none⟩,
  ⟨0x5001, 1, 0x05, 0x05, "GLIDE_TARGET", .u 8, .ro, false, 255, .none⟩,
  ⟨0x5001, 1, 0x06, 0x06, "GLIDE_COUNT", .u 8, .ro, false, 0, .none⟩,
  ⟨0x5001, 1, 0x07, 0x07, "LATCH_DECISION", .enum8, .ro, false, 2, .none⟩,
  ⟨0x5001, 1, 0x08, 0x08, "REPEAT_RUN", .u 16, .ro, false, 0, .none⟩,
  ⟨0x5001, 1, 0x09, 0x09, "LAST_LATCH", .time, .ro, false, 0, .none⟩,
  ⟨0x5002, 1, 0x01, 0x05, "counters", .u 32, .ro, false, 0, .none⟩,
  ⟨0x5002, 1, 0x10, 0x10, "CLEAR", .u 8, .wo, false, 0, .now⟩,
  ⟨0x5010, 8, 0x01, 0x01, "MODE_H", .u 16, .rw, true, 0, .now⟩,
  ⟨0x5010, 8, 0x02, 0x02, "MODE_V", .u 16, .rw, true, 0, .now⟩,
  ⟨0x5010, 8, 0x03, 0x03, "MODE_LW", .u 8, .rw, true, 0, .now⟩,
  ⟨0x5010, 8, 0x04, 0x04, "MODE_F", .u 8, .rw, true, 0, .now⟩,
  ⟨0x5010, 8, 0x05, 0x05, "MODE_FRAME", .u 32, .rw, true, 0, .now⟩,
  ⟨0x5010, 8, 0x06, 0x06, "MODE_SLOT", .u 32, .rw, true, 0, .now⟩,
  ⟨0x5010, 8, 0x07, 0x07, "MODE_SETTLE", .u 32, .rw, true, 0, .now⟩,
  ⟨0x5010, 8, 0x08, 0x08, "MODE_W", .u 32, .rw, true, 0, .now⟩,
  ⟨0x5010, 8, 0x09, 0x09, "MODE_VALID", .bool, .ro, false, 0, .none⟩,
  ⟨0x5011, 2, 0x01, 0x01, "SIGNATURE", .u 32, .ro, false, 0, .none⟩,
  ⟨0x5011, 2, 0x02, 0x02, "SIG_FRAME", .u 32, .ro, false, 0, .none⟩,
  ⟨0x5011, 2, 0x03, 0x03, "SIG_FRET", .u 8, .ro, false, 0, .none⟩,
  ⟨0x5011, 2, 0x04, 0x07, "FREEZE_1_to_FREEZE_4", .u 32, .ro, false, 0, .none⟩,
  ⟨0x5011, 2, 0x08, 0x08, "GEN_STATE", .enum8, .ro, false, 2, .none⟩,
  ⟨0x5040, 1, 0x01, 0x01, "PAT_KIND", .enum8, .rw, false, 0, .frame⟩,
  ⟨0x5040, 1, 0x02, 0x02, "PAT_LEVEL", .bits 32, .rw, false, 0, .frame⟩,
  ⟨0x5040, 1, 0x03, 0x03, "PAT_PERIOD", .u 8, .rw, false, 0, .frame⟩]

/-- Members tabled in R172 (07_panel_drive.md). -/
def rowsPanelDrive : List MemberRow := [
  ⟨0x5800, 1, 0x01, 0x01, "RESET_LATENCY", .u 32, .rw, true, 1000, .stopped⟩,
  ⟨0x5800, 1, 0x02, 0x02, "PARK_TIME", .u 32, .rw, true, 200000, .stopped⟩,
  ⟨0x5800, 1, 0x03, 0x03, "DISCHARGE_STEP", .u 32, .rw, true, 80000, .stopped⟩,
  ⟨0x5800, 1, 0x04, 0x04, "PG_TIMEOUT", .u 16, .rw, true, 50, .stopped⟩,
  ⟨0x5800, 1, 0x05, 0x05, "RAIL_DELAY", .u 16, .rw, true, 1000, .stopped⟩,
  ⟨0x5800, 1, 0x06, 0x06, "EX_COUNT", .u 16, .rw, true, 256, .stopped⟩,
  ⟨0x5800, 1, 0x07, 0x07, "EX_PERIOD", .u 32, .rw, true, 25000, .stopped⟩,
  ⟨0x5800, 1, 0x08, 0x08, "REFRESH_DIV", .u 8, .rw, true, 32, .fret⟩,
  ⟨0x5800, 1, 0x09, 0x09, "SKIP_ENABLE", .bool, .rw, true, 1, .fret⟩,
  ⟨0x5800, 1, 0x0A, 0x0A, "DRONE", .bool, .rw, false, 0, .now⟩,
  ⟨0x5800, 1, 0x0B, 0x0B, "DRONE_SOURCE", .enum8, .rw, true, 0, .now⟩,
  ⟨0x5800, 1, 0x0C, 0x0C, "DRONE_IMAGE", .u 64, .rw, true, 0, .now⟩,
  ⟨0x5800, 1, 0x0D, 0x0D, "DRONE_REFRESH", .u 16, .rw, true, 1000, .now⟩,
  ⟨0x5800, 1, 0x0E, 0x0E, "DRONE_THRESHOLD", .u 16, .rw, true, 512, .now⟩,
  ⟨0x5800, 1, 0x0F, 0x0F, "PANEL_POWER", .bool, .rw, true, 1, .now⟩,
  ⟨0x5800, 1, 0x10, 0x10, "FAULT_REARM", .u 8, .wo, false, 0, .now⟩,
  ⟨0x5801, 1, 0x01, 0x01, "PANEL_STATE", .enum8, .ro, false, 0, .none⟩,
  ⟨0x5801, 1, 0x02, 0x02, "BAND_A", .u 8, .ro, false, 0, .none⟩,
  ⟨0x5801, 1, 0x03, 0x03, "BAND_B", .u 8, .ro, false, 0, .none⟩,
  ⟨0x5801, 1, 0x04, 0x04, "PG_STATE", .bits 8, .ro, false, 0, .none⟩,
  ⟨0x5801, 1, 0x05, 0x05, "PANEL_FLAGS", .bits 16, .ro, false, 0, .none⟩,
  ⟨0x5801, 1, 0x06, 0x06, "LANES_A", .u 8, .ro, false, 64, .none⟩,
  ⟨0x5801, 1, 0x07, 0x07, "LANES_B", .u 8, .ro, false, 64, .none⟩,
  ⟨0x5801, 1, 0x08, 0x08, "PHASE_A", .u 32, .ro, false, 0, .none⟩,
  ⟨0x5801, 1, 0x09, 0x09, "PHASE_B", .u 32, .ro, false, 0, .none⟩,
  ⟨0x5801, 1, 0x0A, 0x0A, "TEMP_A", .fxs 11 4, .ro, false, 0, .none⟩,
  ⟨0x5801, 1, 0x0B, 0x0B, "TEMP_B", .fxs 11 4, .ro, false, 0, .none⟩,
  ⟨0x5802, 1, 0x01, 0x01, "ROWS_SENT", .u 64, .ro, false, 0, .none⟩,
  ⟨0x5802, 1, 0x02, 0x02, "ROWS_SKIPPED", .u 64, .ro, false, 0, .none⟩,
  ⟨0x5802, 1, 0x03, 0x09, "counters", .u 32, .ro, false, 0, .none⟩,
  ⟨0x5802, 1, 0x10, 0x10, "CLEAR", .u 8, .wo, false, 0, .now⟩,
  ⟨0x5810, 7, 0x01, 0x01, "BAND_THRESHOLD", .fxs 11 4, .rw, true, 0, .fret⟩,
  ⟨0x5811, 8, 0x01, 0x01, "BAND_TABLE", .u 8, .rw, true, 0, .fret⟩,
  ⟨0x5812, 8, 0x01, 0x01, "WAVE_TABLE", .blob, .rw, true, 0, .fret⟩,
  ⟨0x5812, 8, 0x02, 0x02, "WAVE_LOADED", .bool, .ro, false, 0, .none⟩]

/-- Members tabled in R201 (08_bridge_and_strings.md). -/
def rowsBridgeAndStrings : List MemberRow := [
  ⟨0x6000, 1, 0x01, 0x01, "EMIT_ENABLE", .bool, .rw, true, 1, .fret⟩,
  ⟨0x6000, 1, 0x02, 0x02, "PLUCK_ALIGN", .enum8, .rw, true, 1, .fret⟩,
  ⟨0x6000, 1, 0x03, 0x03, "DRONE_ON", .u 16, .rw, true, 960, .now⟩,
  ⟨0x6000, 1, 0x04, 0x04, "LIN_ENABLE", .bool, .rw, true, 1, .now⟩,
  ⟨0x6000, 1, 0x05, 0x05, "LIN_RESET", .u 8, .wo, false, 0, .now⟩,
  ⟨0x6001, 1, 0x01, 0x01, "EMIT_STATE", .bits 16, .ro, false, 0, .none⟩,
  ⟨0x6001, 1, 0x02, 0x02, "COURSE_BLANK", .bits 16, .ro, false, 65535, .none⟩,
  ⟨0x6001, 1, 0x03, 0x03, "LAST_FAST", .enum8, .ro, false, 0, .none⟩,
  ⟨0x6002, 1, 0x01, 0x0B, "counters", .u 32, .ro, false, 0, .none⟩,
  ⟨0x6002, 1, 0x10, 0x10, "CLEAR", .u 8, .wo, false, 0, .now⟩,
  ⟨0x6010, 48, 0x01, 0x01, "LEAD_ON", .u 16, .rw, true, 0, .fret⟩,
  ⟨0x6010, 48, 0x02, 0x02, "LEAD_OFF", .u 16, .rw, true, 0, .fret⟩,
  ⟨0x6010, 48, 0x03, 0x03, "STRING_STATE", .enum8, .ro, false, 3, .none⟩,
  ⟨0x6010, 48, 0x04, 0x04, "MONITOR", .u 16, .ro, false, 0, .none⟩,
  ⟨0x6010, 48, 0x05, 0x05, "PILOT_1", .u 16, .ro, false, 0, .none⟩,
  ⟨0x6010, 48, 0x06, 0x06, "PILOT_R", .u 16, .ro, false, 0, .none⟩,
  ⟨0x6010, 48, 0x07, 0x07, "GAIN", .fxu 1 15, .ro, false, 32768, .none⟩,
  ⟨0x6010, 48, 0x08, 0x08, "TRIM_2", .s 16, .ro, false, 0, .none⟩,
  ⟨0x6010, 48, 0x09, 0x09, "TRIM_4", .s 16, .ro, false, 0, .none⟩,
  ⟨0x6010, 48, 0x0A, 0x0A, "TRIM_8", .s 16, .ro, false, 0, .none⟩,
  ⟨0x6010, 48, 0x0B, 0x0B, "CLIPS", .u 32, .ro, false, 0, .none⟩,
  ⟨0x6020, 16, 0x01, 0x01, "CL_RX_DELAY", .u 8, .rw, true, 0, .fret⟩,
  ⟨0x6020, 16, 0x02, 0x02, "CASE_TEMP", .fxs 11 4, .ro, false, 0, .none⟩,
  ⟨0x6020, 16, 0x03, 0x03, "TEMP_BAND", .u 8, .ro, false, 0, .none⟩,
  ⟨0x6020, 16, 0x04, 0x04, "LINK_STATE", .enum8, .ro, false, 0, .none⟩,
  ⟨0x6020, 16, 0x05, 0x05, "DRIVER_FLAGS", .bits 16, .ro, false, 0, .none⟩,
  ⟨0x6020, 16, 0x06, 0x06, "DOWN_REJECTS", .u 32, .ro, false, 0, .none⟩,
  ⟨0x6020, 16, 0x07, 0x07, "UP_LOST", .u 32, .ro, false, 0, .none⟩]

/-- Members tabled in R237 (09_wheel_and_loops.md), part 1. -/
def rowsWheelAndLoops1 : List MemberRow := [
  ⟨0x6800, 1, 0x01, 0x01, "WHEEL_ENABLE", .bool, .rw, true, 1, .now⟩,
  ⟨0x6800, 1, 0x02, 0x02, "ENC_LINES", .u 16, .rw, true, 16384, .stopped⟩,
  ⟨0x6800, 1, 0x03, 0x03, "ENC_DIR", .enum8, .rw, true, 0, .stopped⟩,
  ⟨0x6800, 1, 0x04, 0x04, "ACCEL", .u 16, .rw, true, 250, .now⟩,
  ⟨0x6800, 1, 0x05, 0x05, "DECEL", .u 16, .rw, true, 200, .now⟩,
  ⟨0x6800, 1, 0x06, 0x06, "START_TORQUE", .u 16, .rw, true, 8192, .now⟩,
  ⟨0x6800, 1, 0x07, 0x07, "TORQUE_LIMIT", .u 16, .rw, true, 32767, .now⟩,
  ⟨0x6800, 1, 0x08, 0x08, "BRAKE_LIMIT", .u 16, .rw, true, 16384, .now⟩,
  ⟨0x6800, 1, 0x09, 0x09, "LOCK_WINDOW", .u 32, .rw, true, 2500, .now⟩,
  ⟨0x6800, 1, 0x0A, 0x0A, "PULL_LIMIT", .u 16, .rw, true, 500, .now⟩,
  ⟨0x6800, 1, 0x0B, 0x0B, "ACQ_PULL_LIMIT", .u 16, .rw, true, 5000, .now⟩,
  ⟨0x6800, 1, 0x0C, 0x0C, "PHASE_EPOCH", .time, .rw, true, 0, .stopped⟩,
  ⟨0x6800, 1, 0x0D, 0x0D, "REF_START", .u 32, .rw, true, 1000000, .stopped⟩,
  ⟨0x6800, 1, 0x0E, 0x0E, "REF_LENGTH", .u 32, .rw, true, 140000, .stopped⟩,
  ⟨0x6800, 1, 0x0F, 0x0F, "REARM", .u 8, .wo, false, 0, .now⟩,
  ⟨0x6801, 1, 0x01, 0x01, "WHEEL_STATE", .enum8, .ro, false, 0, .none⟩,
  ⟨0x6801, 1, 0x02, 0x02, "REV_PERIOD", .u 32, .ro, false, 0, .none⟩,
  ⟨0x6801, 1, 0x03, 0x03, "WHEEL_STATUS", .bits 8, .ro, false, 0, .none⟩,
  ⟨0x6801, 1, 0x04, 0x04, "LOCKED", .bool, .ro, false, 0, .none⟩,
  ⟨0x6801, 1, 0x05, 0x05, "LOCK_ACHIEVED", .bool, .ro, false, 0, .none⟩,
  ⟨0x6801, 1, 0x06, 0x06, "WHEEL_FLAGS", .bits 8, .w1c, false, 0, .now⟩,
  ⟨0x6801, 1, 0x07, 0x07, "COUNT_ERROR", .s 16, .ro, false, 0, .none⟩,
  ⟨0x6801, 1, 0x08, 0x08, "DRIVER_FLAGS", .bits 8, .ro, false, 0, .none⟩,
  ⟨0x6801, 1, 0x09, 0x09, "LINK_STATE", .enum8, .ro, false, 0, .none⟩,
  ⟨0x6801, 1, 0x0A, 0x0A, "NEXT_NUT", .s 32, .ro, false, 0, .none⟩,
  ⟨0x6801, 1, 0x0B, 0x0B, "PHASE_ERROR", .s 32, .ro, false, 0, .none⟩,
  ⟨0x6801, 1, 0x0C, 0x0C, "TORQUE", .s 16, .ro, false, 0, .none⟩,
  ⟨0x6801, 1, 0x0D, 0x0D, "PULL", .s 32, .ro, false, 0, .none⟩,
  ⟨0x6802, 1, 0x01, 0x09, "counters", .u 32, .ro, false, 0, .none⟩,
  ⟨0x6802, 1, 0x10, 0x10, "CLEAR", .u 8, .wo, false, 0, .now⟩,
  ⟨0x6810, 64, 0x01, 0x01, "SECTIONS", .u 8, .cw, true, 0, .now⟩,
  ⟨0x6810, 64, 0x02, 0x02, "IN_EXP", .s 8, .cw, true, 0, .now⟩,
  ⟨0x6810, 64, 0x03, 0x03, "FROZEN", .bool, .ro, false, 0, .none⟩,
  ⟨0x6810, 64, 0x04, 0x04, "STEPS", .u 64, .ro, false, 0, .none⟩,
  ⟨0x6810, 64, 0x05, 0x05, "SLOT_FLAGS", .bits 16, .w1c, false, 0, .now⟩,
  ⟨0x6810, 64, 0x06, 0x06, "OUT_EXP", .s 8, .ro, false, 0, .none⟩,
  ⟨0x6810, 64, 0x07, 0x07, "OUTPUT", .s 32, .ro, false, 0, .none⟩,
  ⟨0x6810, 64, 0x08, 0x08, "FREE_INPUT", .s 32, .wo, false, 0, .now⟩,
  ⟨0x6810, 64, 0x09, 0x09, "PRESET", .s 32, .wo, false, 0, .now⟩,
  ⟨0x6810, 64, 0x0A, 0x0A, "OUT_VALUE", .fxs 15 16, .ro, false, 0, .none⟩,
  ⟨0x6820, 512, 0x01, 0x01, "B0", .fxs 3 20, .cw, true, 0, .now⟩,
  ⟨0x6820, 512, 0x02, 0x02, "B1", .fxs 3 20, .cw, true, 0, .now⟩,
  ⟨0x6820, 512, 0x03, 0x03, "B2", .fxs 3 20, .cw, true, 0, .now⟩,
  ⟨0x6820, 512, 0x04, 0x04, "A1", .fxs 3 20, .cw, true, 0, .now⟩,
  ⟨0x6820, 512, 0x05, 0x05, "A2", .fxs 3 20, .cw, true, 0, .now⟩]

/-- Members tabled in R237 (09_wheel_and_loops.md), part 2. -/
def rowsWheelAndLoops2 : List MemberRow := [
  ⟨0x6820, 512, 0x06, 0x06, "EXP", .s 8, .cw, true, 0, .now⟩,
  ⟨0x6820, 512, 0x07, 0x07, "SEC_FLAGS", .bits 8, .w1c, false, 0, .now⟩]

/-- Members tabled in R264 (10_serial_lanes.md). -/
def rowsSerialLanes : List MemberRow := [
  ⟨0x7000, 1, 0x01, 0x01, "AUTO_RETRAIN", .bool, .rw, true, 1, .now⟩,
  ⟨0x7000, 1, 0x02, 0x02, "RETRY_INTERVAL", .u 16, .rw, true, 1000, .now⟩,
  ⟨0x7000, 1, 0x03, 0x03, "REPLAY_TIMEOUT", .u 32, .rw, true, 10000, .now⟩,
  ⟨0x7002, 1, 0x01, 0x0C, "counters", .u 32, .ro, false, 0, .none⟩,
  ⟨0x7002, 1, 0x10, 0x10, "CLEAR", .u 8, .wo, false, 0, .now⟩,
  ⟨0x7003, 8, 0x01, 0x01, "PORT_RATE", .enum8, .rw, true, 0, .now⟩,
  ⟨0x7003, 8, 0x02, 0x02, "PORT_ENABLE", .bool, .rw, true, 1, .now⟩,
  ⟨0x7003, 8, 0x03, 0x03, "MIN_LANES", .u 8, .rw, true, 2, .now⟩,
  ⟨0x7003, 8, 0x04, 0x04, "SLEEP_IDLE", .u 32, .rw, true, 0, .now⟩,
  ⟨0x7003, 8, 0x05, 0x05, "PORT_STATE", .enum8, .ro, false, 0, .none⟩,
  ⟨0x7003, 8, 0x06, 0x06, "TX_LANES", .bits 8, .ro, false, 0, .none⟩,
  ⟨0x7003, 8, 0x07, 0x07, "RX_LANES", .bits 8, .ro, false, 0, .none⟩,
  ⟨0x7003, 8, 0x08, 0x08, "FAR_END", .bits 16, .ro, false, 0, .none⟩,
  ⟨0x7003, 8, 0x09, 0x09, "TX_ASLEEP", .bool, .ro, false, 0, .none⟩,
  ⟨0x7010, 192, 0x01, 0x01, "LANE_STATE", .enum8, .ro, false, 0, .none⟩,
  ⟨0x7010, 192, 0x02, 0x02, "LANE_CMD", .u 8, .wo, false, 0, .now⟩,
  ⟨0x7010, 192, 0x03, 0x03, "STAGE", .u 8, .ro, false, 0, .none⟩,
  ⟨0x7010, 192, 0x04, 0x04, "RX_SLEEP", .bool, .rw, true, 0, .now⟩,
  ⟨0x7010, 192, 0x05, 0x05, "TX_PRESET", .u 8, .rw, true, 0, .now⟩,
  ⟨0x7010, 192, 0x06, 0x06, "POLARITY", .bits 8, .ro, false, 0, .none⟩,
  ⟨0x7010, 192, 0x07, 0x07, "CRC_ERRORS", .u 32, .ro, false, 0, .none⟩,
  ⟨0x7010, 192, 0x08, 0x08, "REPLAYS", .u 32, .ro, false, 0, .none⟩,
  ⟨0x7010, 192, 0x09, 0x09, "RETRAINS", .u 32, .ro, false, 0, .none⟩,
  ⟨0x7010, 192, 0x0A, 0x0A, "ROUND_TRIP", .u 32, .ro, false, 0, .none⟩,
  ⟨0x7010, 192, 0x0B, 0x0B, "RX_MARGIN", .u 16, .ro, false, 0, .none⟩,
  ⟨0x7010, 192, 0x0C, 0x0C, "FAR_LANE", .u 8, .ro, false, 255, .none⟩]

/-- Members tabled in R293 (11_memory.md). -/
def rowsMemory : List MemberRow := [
  ⟨0x7800, 1, 0x01, 0x01, "DDR_RATE", .enum8, .rw, true, 5, .stopped⟩,
  ⟨0x7800, 1, 0x02, 0x02, "GRAIN", .enum8, .rw, true, 4, .stopped⟩,
  ⟨0x7800, 1, 0x03, 0x03, "BANK_HASH", .bool, .rw, true, 1, .stopped⟩,
  ⟨0x7800, 1, 0x04, 0x04, "HAVEN_ENABLE", .bool, .rw, true, 1, .stopped⟩,
  ⟨0x7800, 1, 0x05, 0x05, "NEIGHBOUR_K", .u 8, .rw, true, 10, .now⟩,
  ⟨0x7800, 1, 0x06, 0x06, "READ_CRC", .bool, .rw, true, 1, .stopped⟩,
  ⟨0x7800, 1, 0x07, 0x07, "MIGRATE_RATE", .u 8, .rw, true, 16, .now⟩,
  ⟨0x7800, 1, 0x08, 0x08, "BANK_CE_LIMIT", .u 16, .rw, true, 64, .now⟩,
  ⟨0x7800, 1, 0x0A, 0x0A, "DDR_POPULATION", .bits 8, .rw, true, 15, .stopped⟩,
  ⟨0x7800, 1, 0x0B, 0x0B, "DDR_RANKS", .u 8, .rw, true, 1, .stopped⟩,
  ⟨0x7800, 1, 0x0C, 0x0C, "DDR_DENSITY", .enum8, .rw, true, 0, .stopped⟩,
  ⟨0x7801, 1, 0x01, 0x01, "USABLE_SIZE", .u 64, .ro, false, 0, .none⟩,
  ⟨0x7801, 1, 0x02, 0x02, "CHANNELS_IN_SERVICE", .bits 8, .ro, false, 0, .none⟩,
  ⟨0x7801, 1, 0x03, 0x03, "STAGE_SPARES", .u 8, .ro, false, 4, .none⟩,
  ⟨0x7801, 1, 0x04, 0x04, "STAGE_FLAGS", .bits 8, .ro, false, 0, .none⟩,
  ⟨0x7801, 1, 0x05, 0x05, "TRAIN_TIME", .u 32, .ro, false, 0, .none⟩,
  ⟨0x7802, 1, 0x01, 0x0E, "counters", .u 32, .ro, false, 0, .none⟩,
  ⟨0x7802, 1, 0x10, 0x10, "CLEAR", .u 8, .wo, false, 0, .now⟩,
  ⟨0x7803, 1, 0x01, 0x01, "LAST_ERR_ADDR", .u 64, .ro, false, 0, .none⟩,
  ⟨0x7803, 1, 0x02, 0x02, "LAST_ERR_PORT", .u 8, .ro, false, 255, .none⟩,
  ⟨0x7803, 1, 0x03, 0x03, "LAST_ERR_KIND", .enum8, .ro, false, 0, .none⟩,
  ⟨0x7810, 256, 0x01, 0x01, "BANK_STATE", .enum8, .ro, false, 0, .none⟩,
  ⟨0x7810, 256, 0x02, 0x02, "BANK_FENCED", .bool, .rw, true, 0, .fret⟩,
  ⟨0x7810, 256, 0x03, 0x03, "BANK_LOGICAL", .u 8, .ro, false, 0, .none⟩,
  ⟨0x7810, 256, 0x04, 0x04, "BANK_CE", .u 32, .ro, false, 0, .none⟩,
  ⟨0x7810, 256, 0x05, 0x05, "BANK_UE", .u 32, .ro, false, 0, .none⟩,
  ⟨0x7820, 4, 0x01, 0x01, "CH_STATE", .enum8, .ro, false, 0, .none⟩,
  ⟨0x7820, 4, 0x02, 0x02, "CH_CMD", .u 8, .wo, false, 0, .now⟩,
  ⟨0x7820, 4, 0x03, 0x03, "CH_SIZE", .u 64, .ro, false, 0, .none⟩,
  ⟨0x7820, 4, 0x04, 0x04, "CH_READ_CRC", .bool, .ro, false, 0, .none⟩,
  ⟨0x7820, 4, 0x05, 0x05, "CH_RFM", .bool, .ro, false, 0, .none⟩,
  ⟨0x7820, 4, 0x06, 0x06, "CH_MOVED", .u 64, .ro, false, 0, .none⟩,
  ⟨0x7830, 7, 0x01, 0x01, "PORT_TARGET", .u 32, .rw, true, 0, .now⟩,
  ⟨0x7830, 7, 0x02, 0x02, "PORT_WORST", .u 32, .ro, false, 0, .none⟩,
  ⟨0x7830, 7, 0x03, 0x03, "PORT_MISSED", .u 32, .ro, false, 0, .none⟩,
  ⟨0x9000, 1, 0x01, 0x01, "RET_STATE", .bits 8, .w1c, false, 0, .now⟩,
  ⟨0x9000, 1, 0x02, 0x02, "RET_COMMIT", .u 8, .wo, false, 0, .now⟩,
  ⟨0x9000, 1, 0x03, 0x03, "JOURNAL_FILL", .u 32, .ro, false, 0, .none⟩,
  ⟨0x9000, 1, 0x04, 0x04, "RECORDS_REPAIRED", .u 32, .ro, false, 0, .none⟩,
  ⟨0x9000, 1, 0x05, 0x05, "WEAR_MAX", .u 64, .ro, false, 0, .none⟩,
  ⟨0x9000, 1, 0x06, 0x06, "JOURNAL_DISCARDED", .u 32, .ro, false, 0, .none⟩,
  ⟨0x9000, 1, 0x07, 0x07, "COMMITS", .u 32, .ro, false, 0, .none⟩,
  ⟨0x9000, 1, 0x08, 0x08, "COMMIT_INTERVAL", .u 16, .rw, true, 1000, .now⟩]

/-- Members tabled in R317 (12_clocks_and_power.md). -/
def rowsClocksAndPower : List MemberRow := [
  ⟨0x2001, 1, 0x01, 0x01, "CLK_STATE", .enum8, .ro, false, 0, .none⟩,
  ⟨0x2001, 1, 0x02, 0x02, "CLK_FLAGS", .bits 8, .w1c, false, 0, .now⟩,
  ⟨0x2001, 1, 0x03, 0x03, "LOCK_TIME", .u 32, .ro, false, 0, .none⟩,
  ⟨0x2001, 1, 0x04, 0x04, "HCLK_OFFSET", .s 32, .ro, false, 0, .none⟩,
  ⟨0x2002, 1, 0x01, 0x07, "counters", .u 32, .ro, false, 0, .none⟩,
  ⟨0x2002, 1, 0x10, 0x10, "CLEAR", .u 8, .wo, false, 0, .now⟩,
  ⟨0x2010, 14, 0x01, 0x01, "RATIO_NOW", .u 8, .ro, false, 0, .none⟩,
  ⟨0x2010, 14, 0x02, 0x02, "RATIO_SET", .u 8, .rw, true, 0, .now⟩,
  ⟨0x2010, 14, 0x03, 0x03, "RATIO_THERMAL", .u 8, .ro, false, 0, .none⟩,
  ⟨0x2010, 14, 0x04, 0x04, "CLK_SOURCE", .enum8, .ro, false, 0, .none⟩,
  ⟨0x2010, 14, 0x05, 0x05, "FORCED", .u 32, .ro, false, 0, .none⟩,
  ⟨0x2020, 14, 0x01, 0x01, "SUB_GATE", .bool, .rw, false, 1, .now⟩,
  ⟨0x2020, 14, 0x02, 0x02, "SUB_GATE_STATE", .enum8, .ro, false, 1, .none⟩,
  ⟨0x2030, 884, 0x01, 0x01, "UNIT_GATE", .bool, .rw, false, 1, .now⟩,
  ⟨0x2030, 884, 0x02, 0x02, "UNIT_GATE_STATE", .enum8, .ro, false, 1, .none⟩,
  ⟨0x2040, 7, 0x01, 0x01, "RAIL_STATE", .enum8, .ro, false, 0, .none⟩,
  ⟨0x2040, 7, 0x02, 0x02, "RAIL_FAULTS", .u 32, .ro, false, 0, .none⟩]

/-- Members tabled in R348 (13_management.md). -/
def rowsManagement : List MemberRow := [
  ⟨0x0000, 1, 0x01, 0x01, "VENDOR", .str32, .ro, false, 0, .none⟩,
  ⟨0x0000, 1, 0x02, 0x02, "PART", .str32, .ro, false, 0, .none⟩,
  ⟨0x0000, 1, 0x03, 0x03, "STEPPING", .str32, .ro, false, 0, .none⟩,
  ⟨0x0000, 1, 0x04, 0x04, "SERIAL", .u 64, .ro, false, 0, .none⟩,
  ⟨0x0000, 1, 0x05, 0x05, "DICT_VERSION", .u 16, .ro, false, 1, .none⟩,
  ⟨0x0000, 1, 0x06, 0x06, "FW_RUNNING", .u 32, .ro, false, 0, .none⟩,
  ⟨0x0000, 1, 0x07, 0x07, "UPTIME", .u 64, .ro, false, 0, .none⟩,
  ⟨0x0000, 1, 0x08, 0x08, "WALL_NOW", .time, .ro, false, 0, .none⟩,
  ⟨0x1000, 1, 0x01, 0x01, "SESSION_TIMEOUT", .u 16, .rw, true, 30, .now⟩,
  ⟨0x1000, 1, 0x02, 0x02, "HOST_ENABLE", .bool, .rw, true, 1, .now⟩,
  ⟨0x1000, 1, 0x03, 0x03, "NET_ENABLE", .bool, .rw, true, 1, .now⟩,
  ⟨0x1001, 16, 0x01, 0x01, "SESSION_STATE", .enum8, .ro, false, 0, .none⟩,
  ⟨0x1001, 16, 0x02, 0x02, "SESSION_PATH", .enum8, .ro, false, 0, .none⟩,
  ⟨0x1001, 16, 0x03, 0x03, "SESSION_PEER", .blob, .ro, false, 0, .none⟩,
  ⟨0x1001, 16, 0x04, 0x04, "SEQ_IN", .u 32, .ro, false, 0, .none⟩,
  ⟨0x1001, 16, 0x05, 0x05, "OPENED", .time, .ro, false, 0, .none⟩,
  ⟨0x1002, 16, 0x01, 0x01, "MASTER_KEY", .blob, .wo, true, 0, .now⟩,
  ⟨0x1010, 18, 0x01, 0x01, "ACCESS", .bits 32, .cw, true, 0, .now⟩,
  ⟨0x1010, 18, 0x02, 0x02, "TARGET_AREA", .u 16, .ro, false, 0, .none⟩,
  ⟨0x1011, 1, 0x01, 0x08, "counters", .u 32, .ro, false, 0, .none⟩,
  ⟨0x1011, 1, 0x10, 0x10, "CLEAR", .u 8, .wo, false, 0, .now⟩,
  ⟨0x1020, 32, 0x01, 0x01, "CHORD_STATE", .enum8, .ro, false, 0, .none⟩,
  ⟨0x1020, 32, 0x02, 0x02, "CHORD_MASTER", .u 8, .ro, false, 0, .none⟩,
  ⟨0x1020, 32, 0x03, 0x03, "CHORD_MEMBERS", .u 16, .ro, false, 0, .none⟩,
  ⟨0x1020, 32, 0x04, 0x04, "CHORD_BYTES", .u 32, .ro, false, 0, .none⟩,
  ⟨0x1020, 32, 0x05, 0x05, "CHORD_AT", .time, .ro, false, 0, .none⟩,
  ⟨0x1020, 32, 0x06, 0x06, "CHORD_KILL", .u 8, .wo, false, 0, .now⟩,
  ⟨0x1030, 16, 0x01, 0x01, "EVENT_MASK", .bits 32, .rw, true, 0, .now⟩,
  ⟨0x1030, 16, 0x02, 0x02, "EVENT_PENDING", .u 8, .ro, false, 0, .none⟩,
  ⟨0x1030, 16, 0x03, 0x03, "EVENT_LOST", .u 32, .ro, false, 0, .none⟩,
  ⟨0x1030, 16, 0x04, 0x04, "EVENT_ACKED", .u 32, .ro, false, 0, .none⟩,
  ⟨0x9100, 2, 0x01, 0x01, "FW_IMAGE", .blob, .wo, false, 0, .now⟩,
  ⟨0x9100, 2, 0x02, 0x02, "FW_STATE", .enum8, .ro, false, 0, .none⟩,
  ⟨0x9100, 2, 0x03, 0x03, "FW_VERSION", .u 32, .ro, false, 0, .none⟩,
  ⟨0x9100, 2, 0x04, 0x04, "FW_KEY", .u 8, .ro, false, 0, .none⟩,
  ⟨0x9101, 1, 0x01, 0x01, "FW_VERIFY", .u 8, .wo, false, 0, .now⟩,
  ⟨0x9101, 1, 0x02, 0x02, "FW_SWITCH", .u 8, .wo, false, 0, .now⟩,
  ⟨0x9101, 1, 0x03, 0x03, "BOOT_SLOT", .enum8, .rw, true, 0, .now⟩,
  ⟨0x9101, 1, 0x04, 0x04, "MIN_VERSION", .u 32, .rw, true, 0, .now⟩,
  ⟨0x9101, 1, 0x05, 0x05, "RUNNING_SLOT", .enum8, .ro, false, 0, .none⟩,
  ⟨0x9101, 1, 0x06, 0x06, "HANDOVER_STATE", .enum8, .ro, false, 0, .none⟩,
  ⟨0x9101, 1, 0x07, 0x07, "HANDOVER_TIME", .u 32, .ro, false, 0, .none⟩,
  ⟨0x9102, 1, 0x01, 0x05, "counters", .u 32, .ro, false, 0, .none⟩,
  ⟨0x9102, 1, 0x10, 0x10, "CLEAR", .u 8, .wo, false, 0, .now⟩]

/-- Members tabled in R364 (14_network_time.md), part 1. -/
def rowsNetworkTime1 : List MemberRow := [
  ⟨0x8000, 1, 0x01, 0x01, "PRIMARY_DOMAIN", .u 8, .rw, true, 0, .now⟩,
  ⟨0x8000, 1, 0x02, 0x02, "SECONDARY_DOMAIN", .u 8, .rw, true, 1, .now⟩,
  ⟨0x8000, 1, 0x03, 0x03, "PTP_TRANSPORT", .enum8, .rw, true, 1, .now⟩,
  ⟨0x8000, 1, 0x04, 0x04, "CLASS_LIMIT", .u 8, .rw, true, 7, .now⟩,
  ⟨0x8000, 1, 0x05, 0x05, "JUMP_LIMIT", .u 32, .rw, true, 1000, .now⟩,
  ⟨0x8000, 1, 0x06, 0x06, "SLEW_RATE", .u 16, .rw, true, 10000, .now⟩,
  ⟨0x8000, 1, 0x07, 0x07, "REVERT_DELAY", .u 16, .rw, true, 60, .now⟩,
  ⟨0x8000, 1, 0x08, 0x08, "STEP_LIMIT", .u 32, .rw, true, 50000000, .now⟩,
  ⟨0x8000, 1, 0x09, 0x09, "FREE_RUN_AFTER", .u 16, .rw, true, 0, .now⟩,
  ⟨0x8000, 1, 0x0A, 0x0A, "SERVO_KP", .fxu 0 16, .rw, true, 8192, .now⟩,
  ⟨0x8000, 1, 0x0B, 0x0B, "SERVO_KI", .fxu 0 16, .rw, true, 256, .now⟩,
  ⟨0x8000, 1, 0x0C, 0x0C, "DELAY_REQ_MIN", .s 8, .rw, true, 253, .now⟩,
  ⟨0x8000, 1, 0x0D, 0x0D, "TC_ENABLE", .bool, .rw, true, 1, .now⟩,
  ⟨0x8000, 1, 0x0E, 0x0E, "RELAY_MODE", .enum8, .rw, true, 0, .now⟩,
  ⟨0x8000, 1, 0x0F, 0x0F, "VLAN_ID", .u 16, .rw, true, 0, .now⟩,
  ⟨0x8000, 1, 0x10, 0x10, "VLAN_PCP", .u 8, .rw, true, 6, .now⟩,
  ⟨0x8000, 1, 0x11, 0x11, "IPV6_ADDR", .blob, .rw, true, 0, .now⟩,
  ⟨0x8000, 1, 0x12, 0x12, "IPV6_PREFIX", .u 8, .rw, true, 64, .now⟩,
  ⟨0x8000, 1, 0x13, 0x13, "HOLDOVER_NOTICE", .u 32, .rw, true, 3600, .now⟩,
  ⟨0x8000, 1, 0x14, 0x14, "STEP_NOW", .u 8, .wo, false, 0, .now⟩,
  ⟨0x8001, 1, 0x01, 0x01, "WALL_STATE", .enum8, .ro, false, 0, .none⟩,
  ⟨0x8001, 1, 0x02, 0x02, "WALL_FLAGS", .bits 8, .w1c, false, 0, .now⟩,
  ⟨0x8001, 1, 0x03, 0x03, "RESIDUAL", .s 64, .ro, false, 0, .none⟩,
  ⟨0x8001, 1, 0x04, 0x04, "WALL_RATE", .s 32, .ro, false, 0, .none⟩,
  ⟨0x8001, 1, 0x05, 0x05, "HOLDOVER_TIME", .u 32, .ro, false, 0, .none⟩,
  ⟨0x8001, 1, 0x06, 0x06, "LAST_CHANGE", .time, .ro, false, 0, .none⟩,
  ⟨0x8001, 1, 0x07, 0x07, "MAC_ADDR", .u 64, .ro, false, 0, .none⟩,
  ⟨0x8002, 1, 0x01, 0x0C, "counters", .u 32, .ro, false, 0, .none⟩,
  ⟨0x8002, 1, 0x10, 0x10, "CLEAR", .u 8, .wo, false, 0, .now⟩,
  ⟨0x8010, 2, 0x01, 0x01, "DOM_STATE", .enum8, .ro, false, 0, .none⟩,
  ⟨0x8010, 2, 0x02, 0x02, "GM_IDENTITY", .u 64, .ro, false, 0, .none⟩,
  ⟨0x8010, 2, 0x03, 0x03, "GM_CLASS", .u 8, .ro, false, 255, .none⟩,
  ⟨0x8010, 2, 0x04, 0x04, "PARENT_PORT", .blob, .ro, false, 0, .none⟩,
  ⟨0x8010, 2, 0x05, 0x05, "OFFSET", .s 64, .ro, false, 0, .none⟩,
  ⟨0x8010, 2, 0x06, 0x06, "PATH_DELAY", .s 64, .ro, false, 0, .none⟩,
  ⟨0x8010, 2, 0x07, 0x07, "RATE", .s 32, .ro, false, 0, .none⟩,
  ⟨0x8010, 2, 0x08, 0x08, "SYNC_INTERVAL", .s 8, .ro, false, 0, .none⟩,
  ⟨0x8010, 2, 0x09, 0x09, "RX_PORT", .enum8, .ro, false, 255, .none⟩,
  ⟨0x8010, 2, 0x0A, 0x0A, "STEPS_REMOVED", .u 16, .ro, false, 0, .none⟩,
  ⟨0x8020, 2, 0x01, 0x01, "PORT_SPEED", .enum8, .rw, true, 0, .now⟩,
  ⟨0x8020, 2, 0x02, 0x02, "LINK_UP", .bool, .ro, false, 0, .none⟩,
  ⟨0x8020, 2, 0x03, 0x03, "RX_ADJ_10G", .s 32, .rw, true, 0, .now⟩,
  ⟨0x8020, 2, 0x04, 0x04, "TX_ADJ_10G", .s 32, .rw, true, 0, .now⟩,
  ⟨0x8020, 2, 0x05, 0x05, "RX_ADJ_1G", .s 32, .rw, true, 0, .now⟩,
  ⟨0x8020, 2, 0x06, 0x06, "TX_ADJ_1G", .s 32, .rw, true, 0, .now⟩]

/-- Members tabled in R364 (14_network_time.md), part 2. -/
def rowsNetworkTime2 : List MemberRow := [
  ⟨0x8020, 2, 0x07, 0x07, "ASYMMETRY", .s 32, .rw, true, 0, .now⟩,
  ⟨0x8020, 2, 0x08, 0x08, "FRAMES_IN", .u 64, .ro, false, 0, .none⟩,
  ⟨0x8020, 2, 0x09, 0x09, "FCS_ERRORS", .u 32, .ro, false, 0, .none⟩,
  ⟨0x8020, 2, 0x0A, 0x0A, "RELAY_DROPS", .u 32, .ro, false, 0, .none⟩]

/-- Members tabled in R391 (15_health.md), part 1. -/
def rowsHealth1 : List MemberRow := [
  ⟨0x2800, 1, 0x01, 0x01, "THROTTLE_ONSET", .fxs 11 4, .rw, true, 1504, .now⟩,
  ⟨0x2800, 1, 0x02, 0x02, "COOLANT_TEMP", .fxs 11 4, .rw, true, 720, .now⟩,
  ⟨0x2800, 1, 0x03, 0x03, "COLD_PLATE_R", .u 16, .rw, true, 80, .now⟩,
  ⟨0x2800, 1, 0x04, 0x04, "BOARD_TEMP", .fxs 11 4, .rw, true, 880, .now⟩,
  ⟨0x2801, 1, 0x01, 0x01, "TG", .fxs 11 4, .ro, false, 0, .none⟩,
  ⟨0x2801, 1, 0x02, 0x02, "TG_SOURCE", .u 8, .ro, false, 0, .none⟩,
  ⟨0x2801, 1, 0x03, 0x03, "RISE_RATE", .fxs 11 4, .ro, false, 0, .none⟩,
  ⟨0x2801, 1, 0x04, 0x04, "THROTTLE_Q", .u 8, .ro, false, 0, .none⟩,
  ⟨0x2801, 1, 0x05, 0x05, "THERMAL_FLAGS", .bits 8, .w1c, false, 0, .now⟩,
  ⟨0x2801, 1, 0x06, 0x06, "POWER_TOTAL", .u 16, .ro, false, 0, .none⟩,
  ⟨0x2801, 1, 0x07, 0x07, "MEAN_TG", .fxs 11 4, .ro, false, 0, .none⟩,
  ⟨0x2801, 1, 0x08, 0x08, "POWERED_SECONDS", .u 64, .ro, false, 0, .none⟩,
  ⟨0x2802, 1, 0x01, 0x09, "counters", .u 32, .ro, false, 0, .none⟩,
  ⟨0x2802, 1, 0x10, 0x10, "CLEAR", .u 8, .wo, false, 0, .now⟩,
  ⟨0x2803, 14, 0x01, 0x01, "TEMP_SECONDS", .u 64, .ro, false, 0, .none⟩,
  ⟨0x2804, 1, 0x01, 0x01, "SD_PENDING", .bool, .ro, false, 0, .none⟩,
  ⟨0x2804, 1, 0x02, 0x02, "SD_SEQUENCE", .u 32, .ro, false, 0, .none⟩,
  ⟨0x2804, 1, 0x03, 0x03, "SD_TIME", .time, .ro, false, 0, .none⟩,
  ⟨0x2804, 1, 0x04, 0x04, "SD_FRAME", .u 32, .ro, false, 0, .none⟩,
  ⟨0x2804, 1, 0x05, 0x05, "SD_TG", .fxs 11 4, .ro, false, 0, .none⟩,
  ⟨0x2804, 1, 0x06, 0x06, "SD_RECORD", .blob, .ro, false, 0, .none⟩,
  ⟨0x2804, 1, 0x0A, 0x0A, "SD_CLEAR", .u 32, .wo, false, 0, .now⟩,
  ⟨0x2810, 32, 0x01, 0x01, "NODE_TEMP", .fxs 11 4, .ro, false, 0, .none⟩,
  ⟨0x2811, 24, 0x01, 0x01, "MON_POWER", .u 16, .ro, false, 0, .none⟩,
  ⟨0x2812, 4, 0x01, 0x01, "DIODE_TEMP", .fxs 11 4, .ro, false, 0, .none⟩,
  ⟨0x2812, 4, 0x02, 0x02, "DIODE_NODE", .u 8, .ro, false, 0, .none⟩,
  ⟨0x2820, 3, 0x01, 0x01, "PROBE_TARGET", .u 32, .rw, true, 0, .now⟩,
  ⟨0x2820, 1, 0x04, 0x04, "PROBE_PRESENT", .bool, .ro, false, 0, .none⟩,
  ⟨0x2820, 1, 0x05, 0x05, "PROBE_LAST", .u 32, .ro, false, 0, .none⟩,
  ⟨0x2830, 1, 0x01, 0x01, "CAL_GO", .u 8, .wo, false, 0, .now⟩,
  ⟨0x2830, 1, 0x02, 0x02, "CAL_STATE", .enum8, .ro, false, 0, .none⟩,
  ⟨0x2830, 1, 0x03, 0x03, "CAL_COURSE", .u 8, .ro, false, 255, .none⟩,
  ⟨0x2830, 1, 0x04, 0x04, "CAL_RESULT", .enum8, .ro, false, 0, .none⟩,
  ⟨0x2830, 1, 0x05, 0x05, "CAL_DONE", .time, .ro, false, 0, .none⟩,
  ⟨0x2831, 16, 0x01, 0x01, "COURSE_RESULT", .enum8, .ro, false, 0, .none⟩,
  ⟨0x2831, 16, 0x02, 0x02, "COURSE_RAMP", .u 16, .ro, false, 0, .none⟩,
  ⟨0x2831, 16, 0x03, 0x03, "COURSE_TIME", .time, .ro, false, 0, .none⟩,
  ⟨0x2840, 16, 0x01, 0x01, "CV_KIND", .enum8, .rw, false, 0, .now⟩,
  ⟨0x2840, 16, 0x02, 0x02, "CV_RESET", .u 8, .wo, false, 0, .now⟩,
  ⟨0x2840, 16, 0x03, 0x03, "CV_FEED8", .u 8, .wo, false, 0, .now⟩,
  ⟨0x2840, 16, 0x04, 0x04, "CV_FEED16", .u 16, .wo, false, 0, .now⟩,
  ⟨0x2840, 16, 0x05, 0x05, "CV_FEED32", .u 32, .wo, false, 0, .now⟩,
  ⟨0x2840, 16, 0x06, 0x06, "CV_RESULT", .u 32, .ro, false, 0, .none⟩,
  ⟨0x2840, 16, 0x07, 0x07, "CV_BYTES", .u 32, .ro, false, 0, .none⟩,
  ⟨0x2840, 16, 0x08, 0x08, "CV_EXPECT", .u 32, .rw, false, 0, .now⟩]

/-- Members tabled in R391 (15_health.md), part 2. -/
def rowsHealth2 : List MemberRow := [
  ⟨0x2840, 16, 0x09, 0x09, "CV_AUTO_LENGTH", .u 32, .rw, false, 0, .now⟩,
  ⟨0x2840, 16, 0x0A, 0x0A, "CV_CHECK", .u 8, .wo, false, 0, .now⟩,
  ⟨0x2840, 16, 0x0B, 0x0B, "CV_MATCH", .enum8, .ro, false, 0, .none⟩,
  ⟨0x2840, 16, 0x0C, 0x0C, "CV_OWNER", .u 8, .ro, false, 255, .none⟩]

/-- Members tabled in R417 (16_bringup_and_recovery.md). -/
def rowsBringupAndRecovery : List MemberRow := [
  ⟨0x1800, 1, 0x01, 0x01, "LOG_READ_MARK", .u 32, .rw, false, 0, .now⟩,
  ⟨0x1800, 1, 0x02, 0x02, "LOG_NEXT", .u 32, .ro, false, 1, .none⟩,
  ⟨0x1800, 1, 0x03, 0x03, "VIOL_NEXT", .u 32, .ro, false, 1, .none⟩,
  ⟨0x1801, 1, 0x01, 0x07, "counters", .u 32, .ro, false, 0, .none⟩,
  ⟨0x1801, 1, 0x10, 0x10, "CLEAR", .u 8, .wo, false, 0, .now⟩,
  ⟨0x1810, 512, 0x01, 0x01, "LOG_ENTRY", .blob, .ro, false, 0, .none⟩,
  ⟨0x1811, 248, 0x01, 0x01, "PINNED_ENTRY", .blob, .ro, false, 0, .none⟩,
  ⟨0x1820, 256, 0x01, 0x01, "VIOL_ENTRY", .blob, .ro, false, 0, .none⟩,
  ⟨0x1880, 1, 0x01, 0x01, "INPUT_FLAGS", .bits 8, .w1c, false, 0, .now⟩,
  ⟨0x1890, 1, 0x01, 0x01, "START_STATE", .enum8, .ro, false, 0, .none⟩,
  ⟨0x1890, 1, 0x02, 0x02, "STEPS_DONE", .bits 16, .ro, false, 0, .none⟩,
  ⟨0x1890, 1, 0x03, 0x03, "START_TIME", .u 32, .ro, false, 0, .none⟩,
  ⟨0x1890, 1, 0x04, 0x04, "WARM_RESTART", .u 8, .wo, false, 0, .now⟩,
  ⟨0x1890, 1, 0x05, 0x05, "AUTO_RESTART", .bool, .rw, true, 0, .now⟩,
  ⟨0x1891, 1, 0x01, 0x01, "FLOOR_MISSING", .bits 16, .ro, false, 0, .none⟩,
  ⟨0x1891, 1, 0x02, 0x02, "PLANE_FLOOR", .u 8, .rw, true, 16, .frame⟩,
  ⟨0x1891, 1, 0x03, 0x03, "AUTO_REDUCE", .bool, .rw, true, 1, .frame⟩,
  ⟨0x1891, 1, 0x04, 0x04, "REDUCE_FACTOR", .u 8, .ro, false, 1, .none⟩,
  ⟨0x1891, 1, 0x05, 0x05, "RED_F", .u 8, .ro, false, 0, .none⟩,
  ⟨0x1891, 1, 0x06, 0x06, "RED_SLOT", .u 32, .ro, false, 0, .none⟩,
  ⟨0x1891, 1, 0x07, 0x07, "RED_W", .u 32, .ro, false, 0, .none⟩,
  ⟨0x1891, 1, 0x08, 0x08, "RED_GAP", .u 32, .ro, false, 0, .none⟩]

/-- Every member of the object dictionary (R6, R318). -/
def memberRows : List MemberRow :=
  rowsSceneStream ++ rowsCodec ++ rowsCompositor ++ rowsRaySynthesis ++ rowsFretTimeline ++
    rowsPanelDrive ++ rowsBridgeAndStrings ++ rowsWheelAndLoops1 ++ rowsWheelAndLoops2 ++
    rowsSerialLanes ++ rowsMemory ++ rowsClocksAndPower ++ rowsManagement ++ rowsNetworkTime1 ++
    rowsNetworkTime2 ++ rowsHealth1 ++ rowsHealth2 ++ rowsBringupAndRecovery

/-- The row that holds a member, if the object has that element and member (R318). -/
def rowOf (o e m : Nat) : Option MemberRow :=
  memberRows.find? fun r => r.object == o && decide (e < r.elements) && decide (r.first ≤ m) &&
    decide (m ≤ r.last)

/-- The row of a member whatever the element. -/
def rowOfMember (o m : Nat) : Option MemberRow :=
  memberRows.find? fun r => r.object == o && decide (r.first ≤ m) && decide (m ≤ r.last)

/-- The ASCII bytes of a name padded to 32 bytes (STR32, R3), as one number. -/
def str32 (cs : List Nat) : Nat :=
  (cs ++ List.replicate (32 - cs.length) 0).foldl (fun a c => a * 256 + c) 0

/-- "Swihel Optronics" (0000.01). -/
def vendorName : Nat :=
  str32 [83, 119, 105, 104, 101, 108, 32, 79, 112, 116, 114, 111, 110, 105, 99, 115]
/-- "MBK-4816" (0000.02). -/
def partName : Nat := str32 [77, 66, 75, 45, 52, 56, 49, 54]
/-- "C1" (0000.03). -/
def steppingName : Nat := str32 [67, 49]

/-- Nominal ratio of island i (R298). -/
def nominalRatio (i : Nat) : Nat :=
  if i = 0 then 32 else if i = 1 ∨ i = 2 ∨ i = 11 then 8 else if i = 10 then 2 else 4

/-- Latency target of DRAM port p in ns (R283). -/
def portTarget (p : Nat) : Nat :=
  [2000, 10000, 20000, 20000, 50000, 100000, 500000].getD p 0

/-- Default of access table t (R329). -/
def accessDefault (t : Nat) : Nat :=
  if t = 1 then 0x3000000F else if t = 17 then 0x00000003 else 0x3555555F

/-- Bit count of a member of mode slots 0 and 1 (R121): H, V, Lw, F, FRAME_CYCLES, Ls, SETTLE, W. -/
def fixedMode (slot m : Nat) : Nat :=
  if slot = 0 then [0, 2560, 1440, 4, 64, 83333333, 41667, 10000, 30000, 1].getD m 0
  else [0, 1280, 720, 2, 48, 100000000, 66667, 10000, 48000, 1].getD m 0

/-- Defaults that the object tables give by element, or in words. -/
def elementDefault (o e m : Nat) : Option Nat :=
  if o = 0x5810 then some (15 * 16 * e)
  else if o = 0x5811 then some e
  else if o = 0x6810 ∧ m = 1 then some (if e < 48 then 1 else 0)
  else if o = 0x6820 ∧ m = 1 then some (if e % 8 = 0 ∧ e < 384 then 0x40000 else 0)
  else if o = 0x6820 ∧ m = 4 then some (if e % 8 = 0 ∧ e < 384 then 0xFFF00000 else 0)
  else if o = 0x6820 ∧ m = 6 then some (if e % 8 = 0 ∧ e < 384 then 1 else 0)
  else if o = 0x7010 ∧ m = 4 then
    some (if (4 ≤ e ∧ e ≤ 63) ∨ (68 ≤ e ∧ e ≤ 127) then 1 else 0)
  else if o = 0x7010 ∧ m = 5 then some (if e < 128 then 3 else 8)
  else if o = 0x7830 ∧ m = 1 then some (portTarget e)
  else if o = 0x2010 ∧ m = 1 then some 32
  else if o = 0x2010 ∧ (m = 2 ∨ m = 3) then some (nominalRatio e)
  else if o = 0x2010 ∧ m = 4 then some (if e = 0 ∨ e = 1 ∨ e = 13 then 0 else 2)
  else if o = 0x2040 ∧ m = 1 then some 1
  else if o = 0x0000 ∧ m = 1 then some vendorName
  else if o = 0x0000 ∧ m = 2 then some partName
  else if o = 0x0000 ∧ m = 3 then some steppingName
  else if o = 0x1001 ∧ m = 1 then some (if e = 0 ∨ e = 15 then 3 else 0)
  else if o = 0x1010 ∧ m = 1 then some (accessDefault e)
  else if o = 0x1030 ∧ m = 1 then some (if e = 1 ∨ e = 14 then 0x0003FFFF else 0)
  else if o = 0x2812 ∧ m = 2 then some ([3, 6, 12, 14].getD e 0)
  else if o = 0x3810 ∧ m = 1 then some (if e < 256 then 0 else 1)
  else if o = 0x4810 ∧ m = 1 then some (if e < 128 then 0 else 1)
  else if o = 0x5010 ∧ e < 2 then some (fixedMode e m)
  else if o = 0x4801 ∧ m = 9 then some 4
  else if o = 0x7810 ∧ m = 1 then some (if e < 252 then 0 else 1)
  else if o = 0x7810 ∧ m = 3 then some (if e < 252 then e else 255)
  else if o = 0x1891 ∧ m = 5 then some 64
  else if o = 0x1891 ∧ m = 6 then some 41667
  else if o = 0x1891 ∧ m = 7 then some 30000
  else if o = 0x1891 ∧ m = 8 then some 3333333
  else none

/-- The default of a member (R6, R7). -/
def dfltOf (o e m : Nat) : Nat :=
  match elementDefault o e m with
  | some v => v
  | none =>
    match rowOf o e m with
    | some r => r.dflt
    | none => 0

/-- The key of a member in the dictionary table: 16-bit object and element, 8-bit member (R2). -/
def mkey (o e m : Nat) : Nat := o % 65536 * 16777216 + e % 65536 * 256 + m % 256

/-- Object, element and member of a key. -/
def keyObject (k : Nat) : Nat := k / 16777216
def keyElement (k : Nat) : Nat := k / 256 % 65536
def keyMember (k : Nat) : Nat := k % 256

/-- The default of the member at a key (R6, R7). -/
def dfltAt (k : Nat) : Nat := dfltOf (keyObject k) (keyElement k) (keyMember k)

/-- The area numbers of the 18 targets (R318). -/
def targetAreas : List Nat :=
  [0x0000, 0x1000, 0x1800, 0x2000, 0x2800, 0x3000, 0x3800, 0x4000, 0x4800, 0x5000, 0x5800, 0x6000,
   0x6800, 0x7000, 0x7800, 0x8000, 0x9000, 0xF000]

/-- The target of an object: the largest area number not above it (R318). -/
def targetOf (o : Nat) : Nat := (targetAreas.filter (· ≤ o)).length - 1

end Sys2Proof.Machine
end

