-- ==== Sys2Proof/Machine/Ops.lean ====
section
/-!
DEFINITION. The named operations that every meaning is built from: sparse tables, members of the
object dictionary, counters, free values, outputs, wall time, the journal (R273), events and HIRQ_N
(R340 to R342) and the error log (R408 to R410).
-/

namespace Sys2Proof.Machine

/-- The outcome of a command. -/
abbrev Result := Host.Outcome State Fault Refusal

/-- A command that names a unit the device has gives its next state; any other command faults. -/
def guarded (c : Bool) (s : State) : Result := if c then .next s else .fault .noSuchUnit

/-! ### Sparse tables -/

/-- The entry at a key. -/
def tget? {α : Type} (k : Nat) : Tbl α → Option α
  | [] => none
  | (k', v) :: r => if k = k' then some v else tget? k r

/-- The entry at a key, or a default. -/
def tget {α : Type} (d : α) (k : Nat) (l : Tbl α) : α := (tget? k l).getD d

/-- Sets the entry at a key, keeping the keys rising. -/
def tput {α : Type} (k : Nat) (v : α) : Tbl α → Tbl α
  | [] => [(k, v)]
  | (k', v') :: r =>
    if k < k' then (k, v) :: (k', v') :: r
    else if k = k' then (k, v) :: r
    else (k', v') :: tput k v r

/-- Removes the entry at a key. -/
def tdel {α : Type} (k : Nat) (l : Tbl α) : Tbl α := l.filter fun e => e.1 != k

/-- Sets an entry in a table that lists no value equal to the default `d`. -/
def tset {α : Type} [DecidableEq α] (d : α) (k : Nat) (v : α) (l : Tbl α) : Tbl α :=
  if v = d then tdel k l else tput k v l

/-- The keys of a table rise strictly. -/
def keysRise {α : Type} : Tbl α → Bool
  | [] => true
  | [_] => true
  | (a, _) :: (b, w) :: r => decide (a < b) && keysRise ((b, w) :: r)

/-! ### Byte memories: DRAM and the stage-store images -/

/-- What a byte that nothing has written reads as: 0 (DESIGN CHOICE for DRAM, log entry 6; for the fret output
buffer R21 says dark). -/
def emptyByte : Byte := 0#8

/-- One byte of a memory. -/
def mread (m : List Host.Cell) (a : Nat) : Byte := tget emptyByte a m

/-- Writes one byte. -/
def mwrite (m : List Host.Cell) (a : Nat) (b : Byte) : List Host.Cell := tset emptyByte a b m

/-- `n` bytes from an address. -/
def mreads (m : List Host.Cell) (a : Nat) : Nat → Bytes
  | 0 => []
  | n + 1 => mread m a :: mreads m (a + 1) n

/-- Writes a byte string from an address upward. -/
def mwrites (m : List Host.Cell) (a : Nat) : Bytes → List Host.Cell
  | [] => m
  | b :: bs => mwrites (mwrite m a b) (a + 1) bs

/-- The canonical form of a byte memory: keys rising, no byte equal to what an unlisted address
reads as. -/
def Memory.wf (m : List Host.Cell) : Bool := keysRise m && m.all fun e => e.2 != emptyByte

/-! ### Members -/

/-- The value of a member of an array object (raw code). -/
def State.ve (s : State) (o e m : Nat) : Nat := (tget? (mkey o e m) s.dict).getD (dfltAt (mkey o e m))

/-- The value of a member of a simple object. -/
def State.v (s : State) (o m : Nat) : Nat := s.ve o 0 m

/-- Sets a member of an array object. -/
def State.pute (s : State) (o e m v : Nat) : State :=
  { s with dict := tset (dfltAt (mkey o e m)) (mkey o e m) v s.dict }

/-- Sets a member of a simple object. -/
def State.put (s : State) (o m v : Nat) : State := s.pute o 0 m v

/-- A BOOL or one-bit view of a member. -/
def State.b (s : State) (o m : Nat) : Bool := s.v o m == 1

/-- Bit `k` of a member. -/
def State.bit (s : State) (o m k : Nat) : Bool := (s.v o m).testBit k

/-- A number with bit `k` set or cleared. -/
def setBit (v k : Nat) (b : Bool) : Nat :=
  if b then v ||| 2 ^ k else if v.testBit k then v - 2 ^ k else v

/-- Sets or clears bit `k` of a member. -/
def State.putBit (s : State) (o m k : Nat) (b : Bool) : State := s.put o m (setBit (s.v o m) k b)

/-- Width of a member in bits, 32 where no table names it. -/
def memberWidth (o m : Nat) : Nat :=
  match rowOfMember o m with
  | some r => r.ty.width
  | none => 32

/-- Draws a free value below `n`: a value that the spec leaves open. -/
def State.draw (s : State) (n : Nat) : Nat × State :=
  (Config.freeNat s.freeIdx % n, { s with freeIdx := s.freeIdx + 1 })

/-- Adds to a counter of an array object. The spec does not state what a counter shows beyond its
width, so the value there is a free one. -/
def State.adde (s : State) (o e m n : Nat) : State :=
  let v := s.ve o e m + n
  let lim := 2 ^ memberWidth o m
  if v < lim then s.pute o e m v
  else
    let (f, s') := s.draw lim
    s'.pute o e m f

/-- Adds to a counter of a simple object. -/
def State.add (s : State) (o m n : Nat) : State := s.adde o 0 m n

/-- Counts one. -/
def State.inc (s : State) (o m : Nat) : State := s.add o m 1

/-- Counts one in an array object. -/
def State.ince (s : State) (o e m : Nat) : State := s.adde o e m 1

/-- A BLOB member's bytes. -/
def State.blob (s : State) (o e m : Nat) : Bytes := tget [] (mkey o e m) s.blobs

/-- Sets a BLOB member. -/
def State.putBlob (s : State) (o e m : Nat) (bs : Bytes) : State :=
  { s with blobs := tset [] (mkey o e m) bs s.blobs }

/-! ### Time and outputs -/

/-- A command comes at root cycle `t`: time never runs backwards, and the outputs of the command
before are gone. -/
def State.enter (s : State) (t : Nat) : State := { s with now := max s.now t, out := [] }

/-- What begins at another root cycle than that of the command: `act` at cycle `t`. -/
def State.atCycle (s : State) (t : Nat) (act : State → State) : State :=
  let x := act { s with now := t }
  { x with now := s.now }

/-- Drives an output. -/
def State.emit (s : State) (o : Output) : State := { s with out := s.out ++ [o] }

/-- Drives several outputs. -/
def State.emits (s : State) (os : List Output) : State := { s with out := s.out ++ os }

/-- Root cycles per millisecond and per second (R9). -/
def msCycles : Nat := 5000000
def secCycles : Nat := 5000000000

/-- Seconds since RESET_N rose (0000.07). -/
def State.uptime (s : State) : Nat := (s.now - s.clock.t0) / secCycles

/-! ### Wall time (R11, R358 to R362), in units of 2^-16 ns -/

/-- `cycles` root cycles at a rate against the root clock in 2^-40, in 2^-16 ns: a root cycle is
200 ps. -/
def cyclesToUnits (cycles rate : Int) : Int :=
  (cycles * 65536 * (2 ^ 40 + rate)) / (5 * 2 ^ 40)

/-- A slot's own estimate of its domain's time at root cycle `t` (R358). -/
def Slot.time (sl : Slot) (t : Nat) : Int := sl.base + cyclesToUnits ((t : Int) - sl.baseAt) sl.rate

/-- The residual r at root cycle `t`: it moves towards 0 at 8000.06 ns per second (R360). -/
def State.residualAt (s : State) (t : Nat) : Int :=
  let d : Int := ((t - s.net.residAt : Nat) : Int) * (s.v 0x8000 0x06) * 65536 / 5000000000
  if 0 ≤ s.net.resid then max 0 (s.net.resid - d) else min 0 (s.net.resid + d)

/-- Wall time at root cycle `t`; none in state 0 (R359). -/
def State.wallAt? (s : State) (t : Nat) : Option Int :=
  match s.v 0x8001 0x01 with
  | 0 => none
  | 2 => some (s.net.slot0.time t + s.residualAt t)
  | 3 => some (s.net.slot1.time t + s.residualAt t)
  | _ => some (s.net.wallBase + cyclesToUnits ((t : Int) - s.net.wallAt) s.net.wallRate)

/-- Wall time now, 0 in state 0 (R359, R362). -/
def State.wall (s : State) : Int := (s.wallAt? s.now).getD 0

/-- Units of 2^-16 ns in a second. -/
def unitsPerSec : Nat := 1000000000 * 65536

/-- A time in 2^-16 ns as a TIME code (R3): 48-bit seconds, 32-bit nanoseconds, 16-bit sub-ns. -/
def timeOfUnits (u : Int) : Nat :=
  let n := u.toNat
  (n / unitsPerSec % 2 ^ 48) * 2 ^ 48 + (n % unitsPerSec / 65536) * 2 ^ 16 + n % 65536

/-- A TIME code in units of 2^-16 ns. -/
def unitsOfTime (r : Nat) : Int :=
  ((r / 2 ^ 48 * unitsPerSec + r / 2 ^ 16 % 2 ^ 32 * 65536 + r % 2 ^ 16 : Nat) : Int)

/-- Wall time now as a TIME code, 0 in state 0. -/
def State.wallTime (s : State) : Nat := timeOfUnits s.wall

/-! ### The journal of kept members (R273, R274) -/

/-- Bytes that a journal entry takes (R273). -/
def JEntry.size (j : JEntry) : Nat :=
  12 + (if j.data = [] then memberWidth j.object j.member / 8 else j.data.length)

/-- Bytes in a list of journal entries. -/
def journalBytes (l : List JEntry) : Nat := l.foldl (fun a j => a + j.size) 0

/-- What the journal buffer holds at most (R273). -/
def journalLimit : Nat := 32256

/-- The entries that fit the journal buffer after `n` bytes, in order, and those that wait for room in it. -/
def fitJournal : Nat → List JEntry → List JEntry × List JEntry
  | _, [] => ([], [])
  | n, j :: l =>
    if n + j.size ≤ journalLimit then
      let r := fitJournal (n + j.size) l
      (j :: r.1, r.2)
    else ([], j :: l)

/-- 256-byte blocks that a commit of these entries writes: 252 content bytes each (R272). -/
def journalBlocks (l : List JEntry) : Nat := (journalBytes l + 251) / 252

/-- Serial order of 32-bit numbers (R46, R272): `a` is later than `b`. -/
def later (a b : Nat) : Bool :=
  let d := (a + 2 ^ 32 - b) % 2 ^ 32
  decide (1 ≤ d) && decide (d ≤ 2 ^ 31 - 1)

/-! ### Blocks of the retained store (R271, R272, R276) -/

/-- Writes of a block of the retained store are counted, and the highest count is shown (R276). -/
def State.wearBlock (s : State) (k : Nat) : State :=
  let n := tget 0 k s.memory.wear + 1
  let s1 := { s with memory := { s.memory with wear := tput k n s.memory.wear } }
  if s1.v 0x9000 0x05 < n then s1.put 0x9000 0x05 n else s1

/-- Blocks of the retained store, as keys of the write counts: block i of a journal half, of a copy of a
kept-member record or of a record of the tuning region, of a firmware image, of the pinned entries, and a
shutdown record (R271). -/
def journalKey (half i : Nat) : Nat := 8 * (128 * half + i)
def recordWear (key copy i : Nat) : Nat := 8 * ((2 * key + copy) * 32 + i) + 1
def tuneWear (k copy : Nat) : Nat := 8 * (2 * k + copy) + 2
def imageWear (slot i : Nat) : Nat := 8 * (2 * i + slot) + 3
def pinnedWear (i : Nat) : Nat := 8 * i + 4
def shutdownWear (i : Nat) : Nat := 8 * i + 5

/-- The 252-byte block contents that a stretch of a region lies in (R272). -/
def blocksOf (offset len : Nat) : List Nat :=
  (List.range ((offset + len + 251) / 252 - offset / 252)).map fun i => offset / 252 + i

/-- A new version goes into copy 0, else into copy 1: the one whose sequence is older under serial order
(R272). -/
def writesFirst (q : Nat × Nat) : Bool := later q.2 q.1

/-- The sequences once a new version has been written. -/
def nextSeqs (q : Nat × Nat) : Nat × Nat :=
  if writesFirst q then ((q.2 + 1) % 2 ^ 32, q.2) else (q.1, (q.1 + 1) % 2 ^ 32)

/-- A record of the tuning region is written (R272): string n's tuning sets at n, the training results of
channel c at 64 + c. -/
def State.writeTuneRecord (s : State) (k : Nat) : State :=
  let q := tget (0, 0) k s.memory.tuneSeq
  ({ s with memory := { s.memory with tuneSeq := tput k (nextSeqs q) s.memory.tuneSeq } }).wearBlock
    (tuneWear k (if writesFirst q then 0 else 1))

/-- The MEM island restarts: writes of the retained store wait (R406). -/
def State.storeWaits (s : State) : Bool := s.clock.restarting.contains 13

/-- Starts a commit of the journal buffer (R273): into the active half, or, when that half cannot
take it, into the other half, unless that one is still being emptied: then the commit waits. -/
def State.startCommit (s : State) : State :=
  let m := s.memory
  let (l, rest) := fitJournal 0 m.journal
  if l = [] then s
  else if m.committing.isSome ∨ s.storeWaits then { s with memory := { m with commitWaits := true } }
  else
    let n := journalBlocks l
    if m.activeUsed + n ≤ 128 then
      { s with memory := { m with committing := some l, journal := rest,
                                  activeUsed := m.activeUsed + n, commitWaits := false } }
    else if m.emptying then { s with memory := { m with commitWaits := true } }
    else
      { s with memory := { m with committing := some l, journal := rest, activeUsed := n,
                                  activeHalf := 1 - m.activeHalf, emptying := true,
                                  commitWaits := false } }

/-- Appends a kept member that takes effect to the journal buffer, and commits when the buffer holds 16
KiB (R273). An entry of the device's own that a full buffer cannot take waits for the commit that makes
room (DESIGN CHOICE, log entry 97). A member that is not kept leaves the journal alone. -/
def State.journalize (s : State) (o e m v : Nat) (data : Bytes) : State :=
  match rowOf o e m with
  | none => s
  | some r =>
    if r.kept then
      let mem := s.memory
      let j : JEntry := { seq := mem.jseq, object := o, element := e, member := m, value := v,
                          data := data }
      let s' := { s with memory := { mem with
        journal := mem.journal ++ [j], jseq := (mem.jseq + 1) % 2 ^ 32,
        firstAt := if mem.journal = [] then s.now else mem.firstAt } }
      if 16384 ≤ journalBytes s'.memory.journal then s'.startCommit else s'
    else s

/-- A member takes a value, and a kept one is journalled (R273). -/
def State.putKept (s : State) (o e m v : Nat) : State := (s.pute o e m v).journalize o e m v []

/-- A BLOB member takes its bytes, and a kept one is journalled. -/
def State.putBlobKept (s : State) (o e m : Nat) (bs : Bytes) : State :=
  (s.putBlob o e m bs).journalize o e m 0 bs

/-! ### Events and HIRQ_N (R340 to R342) -/

/-- HIRQ_N is asserted while master 1's queue holds an event, or under R297, and not within the first
100 µs after RESET_N rose (R342). -/
def State.hirqWanted (s : State) : Bool :=
  s.clock.resetN && decide (s.clock.t0 + 500000 ≤ s.now) &&
    (!(tget [] 1 s.mgmt.queues).isEmpty || s.clock.lockIrq)

/-- Drives HIRQ_N to what R342 asks. -/
def State.updateHirq (s : State) : State :=
  if s.clock.hirq = s.hirqWanted then s
  else { s with clock := { s.clock with hirq := s.hirqWanted },
                out := s.out ++ [.hirq s.hirqWanted] }

/-- Puts an event into master m's queue; a full queue of 64 drops its oldest entry and counts it
(R341). -/
def State.queueEvent (s : State) (ev : Event) (m : Nat) : State :=
  if (s.ve 0x1030 m 0x01).testBit (targetOf ev.object) then
    let q := tget [] m s.mgmt.queues
    if 64 ≤ q.length then
      (({ s with mgmt := { s.mgmt with queues := tput m (q.drop 1 ++ [ev]) s.mgmt.queues } }).ince
        0x1030 m 0x03).inc 0x1011 0x07
    else { s with mgmt := { s.mgmt with queues := tput m (q ++ [ev]) s.mgmt.queues } }
  else s

/-- Raises an event identified by a member and a cause (R340), for every master whose mask includes
its target. -/
def State.event (s : State) (o e m cause : Nat) : State :=
  let ev : Event := { number := s.mgmt.nextEvent, object := o, element := e, member := m,
                      cause := cause, frame := s.v 0x5001 0x01, time := s.wallTime }
  let s1 := { s with mgmt := { s.mgmt with nextEvent := s.mgmt.nextEvent + 1 } }
  ((List.range 14).foldl (fun st i => st.queueEvent ev (i + 1)) s1).updateHirq

/-! ### The error log (R408 to R410, R440) -/

/-- Domains of the error log (R404, R408). -/
def domLane : Nat := 0
def domPort : Nat := 1
def domChannel : Nat := 2
def domUnit : Nat := 3
def domIsland : Nat := 4
def domDevice : Nat := 5
def domNone : Nat := 6

/-- What a rule puts into an error log entry: domain, its index, level reached, severity (0 note,
1 error, 2 fatal), the counted member, cause and two details. -/
structure LogSpec where
  dom : Nat
  idx : Nat
  level : Nat
  sev : Nat
  object : Nat
  element : Nat
  member : Nat
  cause : Nat
  d1 : Nat
  d2 : Nat
  deriving DecidableEq, Repr

/-- The entry whose recovery in the same domain is in progress (R405, R408); 0 = none. -/
def State.during (s : State) (dom idx : Nat) : Nat :=
  match s.logs.recovering.find? fun r => r.1 == dom && r.2.1 == idx with
  | some r => r.2.2.2
  | none => 0

/-- The fret field of a log entry: 255 in the nut gap or while not displaying (R408). -/
def State.fretField (s : State) : Nat := s.v 0x5001 0x02

/-- The 48 bytes of an error log entry (R408). -/
def State.logBytes (s : State) (n : Nat) (l : LogSpec) : Bytes :=
  beBytes 4 n ++ beBytes 12 s.wallTime ++ beBytes 4 (s.v 0x5001 0x01) ++ beBytes 1 s.fretField ++
  beBytes 1 l.dom ++ beBytes 2 l.idx ++ beBytes 1 l.level ++ beBytes 1 l.sev ++
  beBytes 2 l.object ++ beBytes 2 l.element ++ beBytes 1 l.member ++ beBytes 1 l.cause ++
  beBytes 4 (s.during l.dom l.idx) ++ beBytes 4 l.d1 ++ beBytes 4 l.d2 ++ beBytes 4 s.logs.starts

/-- Writes an error log entry: into the ring of 512, counted in 1801.01; an unread entry that it
overwrites is lost and counted (R410); a fatal one is copied to the pinned region of 248 (R409), whose
blocks it writes (R276). -/
def State.log (s : State) (l : LogSpec) : State :=
  let n := s.v 0x1800 0x02
  let bs := s.logBytes n l
  let lost := decide (512 < n) && decide (s.v 0x1800 0x01 < n - 512)
  let s1 := { s with logs := { s.logs with ring := tput (n % 512) bs s.logs.ring } }
  let s2 := (s1.inc 0x1801 0x01).put 0x1800 0x02 ((n + 1) % 2 ^ 32)
  let s3 := if lost then s2.inc 0x1801 0x02 else s2
  if l.sev = 2 then
    let at_ := s3.logs.pinAt
    let s4 := { s3 with logs := { s3.logs with
      pinned := (bs :: s3.logs.pinned).take 248, pinAt := (at_ + 1) % 248 } }
    ((blocksOf (48 * at_) 48).foldl (fun (st : State) i => st.wearBlock (pinnedWear i)) s4).inc 0x1801 0x03
  else s3

/-- A log entry of no containment domain. -/
def noteSpec (sev o e m cause d1 d2 : Nat) : LogSpec :=
  { dom := domNone, idx := 0, level := 0, sev := sev, object := o, element := e, member := m,
    cause := cause, d1 := d1, d2 := d2 }

/-- A log entry of a containment domain at a level. -/
def domSpec (dom idx level sev o e m : Nat) : LogSpec :=
  { dom := dom, idx := idx, level := level, sev := sev, object := o, element := e, member := m,
    cause := 0, d1 := 0, d2 := 0 }

/-- A recovery in a domain begins at a level; its entry is the one just written (R405). -/
def State.recover (s : State) (dom idx level : Nat) : State :=
  let rest := s.logs.recovering.filter fun r => !(r.1 == dom && r.2.1 == idx)
  { s with logs := { s.logs with
      recovering := (dom, idx, level, s.v 0x1800 0x02 - 1) :: rest } }

/-- A recovery in a domain has ended (R405). -/
def State.recovered (s : State) (dom idx : Nat) : State :=
  { s with logs := { s.logs with
      recovering := s.logs.recovering.filter fun r => !(r.1 == dom && r.2.1 == idx) } }

/-- A domain goes one level above that of its recovery in progress: counted in 1801.04 (R405). -/
def State.escalate (s : State) : State := s.inc 0x1801 0x04

/-- The level of the recovery in progress in a domain, if any. -/
def State.recovering? (s : State) (dom idx : Nat) : Option Nat :=
  (s.logs.recovering.find? fun r => r.1 == dom && r.2.1 == idx).map fun r => r.2.2.1

/-! ### Rounding -/

/-- rdiv (R79): the only rounding of the compositor, the array and the bridge. -/
def rdiv (x d : Nat) : Nat := (x + d / 2) / d

/-- rdivs (R198): half away from zero. -/
def rdivs (x : Int) (d : Nat) : Int :=
  if 0 ≤ x then (rdiv x.toNat d : Int) else -(rdiv (-x).toNat d : Int)

/-- Division that truncates towards zero. -/
def truncDiv (x : Int) (d : Int) : Int := Int.tdiv x d

/-- Division rounded up. -/
def cdiv (a b : Nat) : Nat := (a + b - 1) / b

/-- A number held between two limits. -/
def clampI (lo hi x : Int) : Int := max lo (min hi x)

/-- Display runs: states 1, 2, 3 and 5 of 5001.03 (R439). -/
def State.displayRuns (s : State) : Bool :=
  s.v 0x5001 0x03 == 1 || s.v 0x5001 0x03 == 2 || s.v 0x5001 0x03 == 3 || s.v 0x5001 0x03 == 5

/-- A running calibration ends at the next nut mark (R386). -/
def State.calEnd (s : State) : State :=
  { s with health := { s.health with
      cal := s.health.cal.map fun (c : Cal) => { c with ending := true } } }

/-- Display stops at the next nut mark (R147): 5001.03 reads 5 until then, emission goes on as the state
that it leaves permits, and a calibration ends. -/
def State.requestStop (s : State) : State :=
  if s.displayRuns then
    let st := s.v 0x5001 0x03
    (({ s with seq := { s.seq with
        stopDue := true, stopLit := s.seq.stopLit || st == 2 || st == 3 } }).put 0x5001 0x03 5).calEnd
  else s

end Sys2Proof.Machine
end

