-- ==== Sys2Proof/Machine/Loops.lean ====
section
/-!
DEFINITION. The loop engine's arithmetic (09_wheel_and_loops.md, R202 to R210): slots of second-order
sections in block floating point, their flags, freezing and presets.
-/

namespace Sys2Proof.Machine

/-- The greatest mantissa (R203). -/
def mantMax : Int := 8388607

/-- Saturation to the mantissa range, and whether it saturated (R204). -/
def satMant (x : Int) : Int × Bool :=
  if mantMax < x then (mantMax, true) else if x < -mantMax then (-mantMax, true) else (x, false)

/-- floor(x × 2^e + 1/2). -/
def scaleHalfUp (x : Int) (e : Int) : Int :=
  if 0 ≤ e then x * 2 ^ e.toNat else (x + 2 ^ ((-e).toNat - 1)) / 2 ^ (-e).toNat

/-- Rescaling from exponent `ep` to `ej` (R205). -/
def rescaleMant (x ep ej : Int) : Int × Bool :=
  let d := ep - ej
  if 0 ≤ d then satMant (x * 2 ^ d.toNat) else (scaleHalfUp x d, false)

/-- round(v × 2^(23 − e)) of the value v = num / den, rounding half up (R205). -/
def mantOf (num : Int) (den : Nat) (e : Int) : Int :=
  let k := 23 - e
  if 0 ≤ k then (2 * num * 2 ^ k.toNat + den) / (2 * den)
  else (2 * num + den * 2 ^ (-k).toNat) / (2 * den * 2 ^ (-k).toNat)

/-- Signed members of the loop engine: section count, E_in, a section's exponent, a coefficient. -/
def State.slotSections (s : State) (n : Nat) : Nat := s.ve 0x6810 n 0x01
def State.slotInExp (s : State) (n : Nat) : Int := toS 8 (s.ve 0x6810 n 0x02)
def State.secExp (s : State) (n j : Nat) : Int := toS 8 (s.ve 0x6820 (8 * n + j) 0x06)
def State.secCoef (s : State) (n j k : Nat) : Int := toS 32 (s.ve 0x6820 (8 * n + j) k)

/-- The exponent of the last section, or E_in in a slot without sections (R206, R208). -/
def State.slotLastExp (s : State) (n : Nat) : Int :=
  if s.slotSections n = 0 then s.slotInExp n else s.secExp n (s.slotSections n - 1)

/-- The stored states of a section. -/
def State.secState (s : State) (n j : Nat) : Section := tget Section.zero (8 * n + j) s.loop.sections
def State.putSec (s : State) (n j : Nat) (x : Section) : State :=
  { s with loop := { s.loop with sections := tset Section.zero (8 * n + j) x s.loop.sections } }

/-- Sets flag bits of a slot, and of a section with its bit in the slot (R207). -/
def State.slotFlag (s : State) (n bits : Nat) : State :=
  s.pute 0x6810 n 0x05 (s.ve 0x6810 n 0x05 ||| bits)
def State.secFlag (s : State) (n j bits : Nat) : State :=
  (s.pute 0x6820 (8 * n + j) 0x07 (s.ve 0x6820 (8 * n + j) 0x07 ||| bits)).slotFlag n (2 ^ j)

/-- What a slot's step carries from section to section: the mantissa, the exponent it was formed at,
and whether anything saturated. -/
structure LoopRun where
  s : State
  m : Int
  e : Int
  sat : Bool

/-- One section's step (R204, R205). -/
def LoopRun.section (n : Nat) (x : LoopRun) (j : Nat) : LoopRun :=
  let ej := x.s.secExp n j
  let (x0, sat1) := rescaleMant x.m x.e ej
  let st := x.s.secState n j
  let c := x.s.secCoef n j
  let acc := c 1 * x0 + c 2 * st.x1 + c 3 * st.x2 - c 4 * st.y1 - c 5 * st.y2
  let (y0, sat0) := satMant ((acc + 2 ^ 19) / 2 ^ 20)
  let s1 := if sat1 then x.s.secFlag n j 2 else x.s
  let s2 := if sat0 then s1.secFlag n j 1 else s1
  { s := s2.putSec n j { x1 := x0, x2 := st.x1, y1 := y0, y2 := st.y1 }, m := y0, e := ej,
    sat := x.sat || sat1 || sat0 }

/-- What the output members show (R206, R208). 6810[n].0A has 16 fraction bits; a value outside its
range is not stated by the spec, so it is a free one. -/
def State.showLoop (s : State) (n : Nat) (m e : Int) : State :=
  let s1 := (s.pute 0x6810 n 0x06 (ofS 8 e)).pute 0x6810 n 0x07 (ofS 32 m)
  let v := scaleHalfUp m (e - 7)
  if -(2 ^ 31) ≤ v ∧ v < 2 ^ 31 then s1.pute 0x6810 n 0x0A (ofS 32 v)
  else
    let (f, s2) := s1.draw (2 ^ 32)
    s2.pute 0x6810 n 0x0A f

/-- The destination of a slot's output: fraction bits and limits; none for a free slot (R202). -/
structure LoopDest where
  frac : Int
  lo : Int
  hi : Int

/-- A slot that is not frozen steps on an unlimited input mantissa at E_in; answers the output at its
destination (R204 to R207). A saturating step is counted, and raises an event when bits 8 to 0 of the
slot's flags all read 0 before it. -/
def State.stepLoopMant (s : State) (n : Nat) (m0 : Int) (dest : Option LoopDest) : Int × State :=
  if s.ve 0x6810 n 0x03 = 1 then (0, s)
  else
    let clear := s.ve 0x6810 n 0x05 % 512 = 0
    let (m, satIn) := satMant m0
    let s0 := if satIn then s.slotFlag n 0x100 else s
    let r := (List.range (s.slotSections n)).foldl (LoopRun.section n)
      { s := s0, m := m, e := s.slotInExp n, sat := satIn }
    let (out, d, s1) := match dest with
      | none => (r.m, r.m, r.s)
      | some t =>
        let v := scaleHalfUp r.m (r.e - 23 + t.frac)
        let lim := clampI t.lo t.hi v
        if lim = v then (r.m, v, r.s)
        else
          let back := (satMant (scaleHalfUp lim (23 - r.e - t.frac))).1
          let k := s.slotSections n
          let st := r.s.secState n (k - 1)
          let s2 := if k = 0 then r.s else r.s.putSec n (k - 1) { st with y1 := back }
          (back, lim, s2.slotFlag n 0x200)
    let s3 := (s1.showLoop n out r.e).ince 0x6810 n 0x04
    if r.sat then
      let s4 := s3.inc 0x6802 0x01
      (d, if clear then s4.event 0x6810 n 0x05 0 else s4)
    else (d, s3)

/-- A slot steps on the value num / den (R205). -/
def State.stepLoop (s : State) (n : Nat) (num : Int) (den : Nat) (dest : LoopDest) : Int × State :=
  s.stepLoopMant n (mantOf num den (s.slotInExp n)) (some dest)

/-- Clears every state of a slot's sections (R208). -/
def State.clearLoop (s : State) (n : Nat) : State :=
  (List.range 8).foldl (fun st j => st.putSec n j Section.zero) s

/-- A preset by a mantissa at the last section's exponent, or at E_in (R208). -/
def State.presetMant (s : State) (n : Nat) (p : Int) : State :=
  let m := (satMant p).1
  let k := s.slotSections n
  let s1 := s.clearLoop n
  if k = 0 then s1.showLoop n m (s.slotInExp n)
  else s1.putSec n (k - 1) { x1 := 0, x2 := 0, y1 := m, y2 := m }

/-- A preset with the value num / den (R208). -/
def State.presetLoop (s : State) (n : Nat) (num : Int) (den : Nat) : State :=
  s.presetMant n (mantOf num den (s.slotLastExp n))

/-- Freezes or thaws a slot (R208). -/
def State.freezeLoop (s : State) (n : Nat) (on : Bool) : State :=
  s.pute 0x6810 n 0x03 (if on then 1 else 0)

/-- Slots 0 to 47 preset to 1.0 at start-up (R208). -/
def State.presetStrings (s : State) : State :=
  (List.range 48).foldl (fun st n => st.presetLoop n 1 1) s

/-- The loop engine at a start-up: the status members of every slot and section at their defaults (R210), the
stored states clear, and slots 0 to 47 preset to 1.0. -/
def State.freshLoops (s : State) : State :=
  let s1 : State := { s with loop := { s.loop with sections := [] } }
  let s2 := (List.range 64).foldl (fun (st : State) n =>
    [0x03, 0x04, 0x05, 0x06, 0x07, 0x0A].foldl (fun (x : State) m => x.pute 0x6810 n m 0) st) s1
  ((List.range 512).foldl (fun (st : State) k => st.pute 0x6820 k 0x07 0) s2).presetStrings

/-- The owner's act on a section's exponent (R209): the stored states are rescaled under R205, and a
saturation sets the section's flag. -/
def State.ownSecExp (s : State) (element v : Nat) : State :=
  let n := element / 8
  let j := element % 8
  let old := s.secExp n j
  let s1 := s.putKept 0x6820 element 0x06 v
  let new := toS 8 v
  let x := s.secState n j
  let r := fun m => rescaleMant m old new
  let s2 := s1.putSec n j { x1 := (r x.x1).1, x2 := (r x.x2).1, y1 := (r x.y1).1, y2 := (r x.y2).1 }
  if (r x.x1).2 || (r x.x2).2 || (r x.y1).2 || (r x.y2).2 then s2.secFlag n j 2 else s2

/-- The owner's act on a section count (R209): states of sections that remain are kept, those of
added ones cleared. -/
def State.ownSections (s : State) (n v : Nat) : State :=
  let old := s.slotSections n
  let s1 := s.putKept 0x6810 n 0x01 v
  ((List.range 8).filter fun j => decide (old ≤ j)).foldl (fun st j => st.putSec n j Section.zero) s1

/-- A write to a free slot steps it (R202); a write to another slot is refused before. -/
def State.freeLoop (s : State) (n v : Nat) : State :=
  if 50 ≤ n then (s.stepLoopMant n (toS 32 v) none).2 else s

/-- A preset of a free slot by a master (R208). -/
def State.freePreset (s : State) (n v : Nat) : State :=
  if 50 ≤ n then s.presetMant n (toS 32 v) else s

end Sys2Proof.Machine
end

