-- ==== Sys2Proof/Machine/Geometry.lean ====
section
/-!
DEFINITION. Timing modes and tile geometry: the figures of R121, the limits of R122 with the panel
load condition of R155, tiles and bands (R30, R31), queue numbers (R34), the derived modes of R401
and the glide schedule (R139).
-/

namespace Sys2Proof.Machine

/-- A timing mode (R120). -/
structure Mode where
  h : Nat
  v : Nat
  lw : Nat
  f : Nat
  frame : Nat
  ls : Nat
  settle : Nat
  w : Nat
  deriving DecidableEq, Repr

/-- The members of mode slot `n` (R120, 5010). -/
def State.modeSlot (s : State) (n : Nat) : Mode :=
  { h := s.ve 0x5010 n 1, v := s.ve 0x5010 n 2, lw := s.ve 0x5010 n 3, f := s.ve 0x5010 n 4,
    frame := s.ve 0x5010 n 5, ls := s.ve 0x5010 n 6, settle := s.ve 0x5010 n 7,
    w := s.ve 0x5010 n 8 }

/-- Fret period (R121). -/
def Mode.fretPeriod (m : Mode) : Nat := 30 * m.ls - 10

/-- Nut gap (R121). -/
def Mode.gap (m : Mode) : Nat := m.frame - m.f * m.fretPeriod

/-- Start of slot j in its fret (R121). -/
def Mode.slotStart (m : Mode) (j : Nat) : Nat := j * m.ls - j / 3

/-- Length of slot j: the short slots are those with j mod 3 = 2 (R18, R121). -/
def Mode.slotLen (m : Mode) (j : Nat) : Nat := if j % 3 = 2 then m.ls - 1 else m.ls

/-- Synthesis window of frets 1 to F - 1 (R121): W1 of R110. -/
def Mode.window1 (m : Mode) : Nat := 29 * m.ls - 9

/-- Synthesis window of fret 0 (R121). -/
def Mode.window0 (m : Mode) : Nat := m.fretPeriod + m.gap - (m.ls - 1)

/-- Start of the load of plane 0 of fret 0, from the nut mark (R17, R19). -/
def Mode.preload (m : Mode) : Nat := m.gap - (m.ls - 1)

/-- Native views NV (R97). -/
def Mode.views (m : Mode) : Nat := m.f * m.lw

/-- Tiles per band per depth plane, C (R30). -/
def Mode.cols (m : Mode) : Nat := cdiv m.h 128

/-- Bands, B (R30). -/
def Mode.bands (m : Mode) : Nat := cdiv m.v 64

/-- Width of the tile at column c, w (R31). -/
def Mode.tileW (m : Mode) (c : Nat) : Nat := min 128 (m.h - 128 * c)

/-- Height of the tiles of band b, h (R31). -/
def Mode.tileH (m : Mode) (b : Nat) : Nat := min 64 (m.v - 64 * b)

/-- Raw size of the tile at band b and column c (R31). -/
def Mode.rawSize (m : Mode) (b c : Nat) : Nat := m.tileW c * m.tileH b * 4

/-- Tile index at band b and column c (R30). -/
def Mode.tileIndex (m : Mode) (b c : Nat) : Nat := b * m.cols + c

/-- Parcel queue number (R34). -/
def queueOf (p t : Nat) : Nat := 512 * p + t

/-- Depth plane and tile index of a queue (R34). -/
def queuePlane (q : Nat) : Nat := q / 512
def queueTile (q : Nat) : Nat := q % 512

/-- Band and column of a queue's tile in a mode (R30). -/
def Mode.bandOf (m : Mode) (q : Nat) : Nat := queueTile q / m.cols
def Mode.colOf (m : Mode) (q : Nat) : Nat := queueTile q % m.cols

/-- Bytes of one row of a bit image (R105). -/
def Mode.rowBytes (m : Mode) : Nat := cdiv (m.h * m.lw) 8

/-- Half row length hb in bits (R150). -/
def Mode.hb (m : Mode) : Nat := m.h * m.lw / 2

/-- Bit duration D of bit k (R126): the gate time in the emission window. -/
def Mode.dur (m : Mode) (k : Nat) : Nat :=
  if 6 ≤ k then m.w else (2 * m.w + 2 ^ (6 - k)) / (2 * 2 ^ (6 - k))

/-- Relative amplitude of bit k (R126). -/
def bitAmp (k : Nat) : Nat := if 9 ≤ k then 8 else if k = 8 then 4 else if k = 7 then 2 else 1

/-- Colour of slot j in fret f (R125). -/
def slotColour (f j : Nat) : Nat := if f % 2 = 0 then j / 10 else 2 - j / 10

/-- Bit of slot j in fret f (R125). -/
def slotBit (f j : Nat) : Nat := if f % 2 = 0 then 9 - j % 10 else j % 10

/-- The busiest panel lane's block count Nb with n lanes in service (R155). -/
def Mode.loadBlocks (m : Mode) (n : Nat) : Nat :=
  1 + cdiv (cdiv m.v n) 448 + cdiv (cdiv m.v n * m.hb) 512

/-- The panel load condition with n lanes (R155, R156). -/
def Mode.loadFits (m : Mode) (n : Nat) : Bool :=
  decide (0 < n) && decide (4 * 120 * m.loadBlocks n ≤ 3 * (m.ls - 121))

/-- Every limit of R122 holds, the panel load condition included. -/
def Mode.valid (m : Mode) : Bool :=
  decide (128 ≤ m.h ∧ m.h ≤ 10240 ∧ 64 ≤ m.v ∧ m.v ≤ 1440) &&
  decide (m.lw = 1 ∨ m.lw = 2 ∨ m.lw = 4) &&
  decide (m.h * m.lw % 64 = 0 ∧ m.h * m.lw ≤ 10240 ∧ m.cols * m.bands ≤ 512) &&
  decide (m.f % 2 = 0 ∧ 16 ≤ m.f ∧ m.f ≤ 64 ∧ m.f * m.lw ≤ 256) &&
  decide (83333333 ≤ m.frame ∧ m.frame ≤ 208333334) &&
  decide (10000 ≤ m.settle ∧ m.settle ≤ 25000 ∧ 30000 ≤ m.w) &&
  decide (m.settle + m.w + 1501 ≤ m.ls) &&
  decide (m.f * m.fretPeriod ≤ m.frame) &&
  decide (3 * m.frame ≤ 100 * m.gap ∧ 10 * m.gap ≤ m.frame) &&
  m.loadFits 64

/-- The derived mode of factor k (R401). -/
def Mode.derived (m : Mode) (k : Nat) : Mode :=
  if k ≤ 1 then m
  else { m with f := m.f / k, ls := cdiv (k * (30 * m.ls - 10) + 10) 30, w := k * m.w }

/-- The derived mode of factor k exists (R401). -/
def Mode.hasDerived (m : Mode) (k : Nat) : Bool :=
  decide (k = 1) || (decide (m.f % k = 0) && (m.derived k).valid)

/-- The greatest plane count with S sub-views (R109). -/
def Mode.pmax (m : Mode) (sv : Nat) : Nat := if m.f * sv ≤ 128 then 64 else 32

/-- The mode in force for display, with the reduction factor applied (5001.04, R403). -/
def State.mode (s : State) : Mode := (s.modeSlot (s.v 0x5001 0x04)).derived s.seq.factor

/-- The mode that glide heads for, if glide is on (5001.05). -/
def State.target? (s : State) : Option Mode :=
  if s.v 0x5001 0x05 = 255 then none
  else some ((s.modeSlot (s.v 0x5001 0x05)).derived (s.seq.factorDue.getD s.seq.factor))

/-- The mode with the smaller Ls; on equal Ls the first (R139, R142). -/
def Mode.shorter (a b : Mode) : Mode := if b.ls < a.ls then b else a

/-- Figures under the glide schedule: the target's with the SETTLE, W and Ls of the shortest mode among it,
the targets that it replaced and the mode being left (R139, R142). -/
def Mode.scheduled (g : Mode) (via : List Mode) (left : Mode) : Mode :=
  let sch := (via.foldl Mode.shorter g).shorter left
  { g with ls := sch.ls, settle := sch.settle, w := sch.w }

/-- The target that the present one has replaced (R142), and the mode that the glide leaves. -/
def State.viaModes (s : State) : List Mode := s.seq.glideVia.map fun v => (s.modeSlot v.1).derived v.2
def State.leftMode (s : State) : Mode := (s.modeSlot s.seq.glideFrom).derived s.seq.factor

/-- The mode whose figures the timeline uses: in glide the target's F and frame period with the
SETTLE, W and Ls of the glide schedule (R139, R140). -/
def State.figures (s : State) : Mode :=
  match s.target? with
  | none => s.mode
  | some g => g.scheduled s.viaModes s.leftMode

/-- The glide schedule of a change from `old` to `new` fits (R139). -/
def glideFits (old new : Mode) (lg frameMin : Nat) : Bool :=
  decide (old.h = new.h ∧ old.v = new.v ∧ old.lw = new.lw) &&
  decide (30 * lg - 10 ≤ frameMin * (new.frame - new.gap) / (new.frame * new.f))

/-- Glide fret edge f in revolutions past the nut mark, times `unit` (R140). -/
def Mode.fretEdge (m : Mode) (f unit : Nat) : Nat :=
  unit * (m.gap * m.f + f * (m.frame - m.gap)) / (m.frame * m.f)

end Sys2Proof.Machine
end

