-- ==== Sys2Proof/Machine/Dram.lean ====
section
/-!
DEFINITION. DRAM as its requesters see it: population and usable size (R277, R280), the address
mapping of R280 and R281, error responses (R287), and reads and writes of the flat DRAM space.
-/

namespace Sys2Proof.Machine

/-- Populated channels in ascending order (7800.0A, R277). -/
def State.populated (s : State) : List Nat :=
  (List.range 4).filter fun c => (s.v 0x7800 0x0A).testBit c

/-- Bytes of one rank: 8, 12 or 16 GiB (R277). -/
def State.rankSize (s : State) : Nat :=
  2 ^ 30 * (match s.v 0x7800 0x0C with | 0 => 8 | 1 => 12 | _ => 16)

/-- Capacity of a channel, C_ch (R280). -/
def State.chanSize (s : State) : Nat := s.v 0x7800 0x0B * s.rankSize

/-- Interleave grain G (7800.02). -/
def State.grain (s : State) : Nat := 256 * 2 ^ s.v 0x7800 0x02

/-- Haven size Hv (R280). -/
def State.haven (s : State) : Nat :=
  let n := s.populated.length
  if s.v 0x7800 0x04 = 1 ∧ 0 < n then 65536 * cdiv (cdiv (s.chanSize - 65536) n) 65536 else 0

/-- Data region of a channel, D (R280). -/
def State.chanData (s : State) : Nat := s.chanSize - (65536 + s.haven)

/-- Usable size N × D (R280, 7801.01). -/
def State.usable (s : State) : Nat := s.populated.length * s.chanData

/-- Chunk of a DRAM byte address (R280). -/
def State.chunkOf (s : State) (a : Nat) : Nat := a / s.grain

/-- Channel of a chunk (R280). -/
def State.chunkChannel (s : State) (c : Nat) : Nat :=
  s.populated.getD (c % s.populated.length) 0

/-- Local address of a DRAM byte address on its channel (R280). -/
def State.localAddr (s : State) (a : Nat) : Nat :=
  s.chunkOf a / s.populated.length * s.grain + a % s.grain

/-- Haven place of chunk with local index `i` of channel `c`: channel and local address (R290). -/
def State.havenPlace (s : State) (c i : Nat) : Nat × Nat :=
  let others := s.populated.filter (· != c)
  let n := others.length
  (others.getD (i % n) 0, s.chanData + i / n * s.grain)

/-- Rank, row, bank group, bank, burst and subchannel of a local address (R281). -/
def State.decodeLocal (s : State) (l : Nat) : Nat × Nat × Nat × Nat × Nat × Nat :=
  let g := if s.v 0x7800 0x0C = 0 then 2 else 3
  let rank := l / s.rankSize
  let a := l % s.rankSize
  let bank := a / 2 ^ 13 % 4
  let bg := a / 2 ^ 15 % 2 ^ g
  let row := a / 2 ^ (15 + g)
  let hash := s.v 0x7800 0x03 = 1
  (rank, row, if hash then bg ^^^ (row / 4 % 2 ^ g) else bg,
   if hash then bank ^^^ (row % 4) else bank, a / 2 ^ 7 % 64, a / 2 ^ 6 % 2)

/-- The chunk with local index `i` of channel `c` is redirected to its haven (R291). -/
def State.redirected (s : State) (c i : Nat) : Bool :=
  match tget? c s.memory.redirects with
  | some r => decide (r.1 ≤ i ∧ i < r.2)
  | none => false

/-- Channel and local address that serve a DRAM byte address now: those of its haven once its chunk is
redirected (R280, R290, R291). -/
def State.placeOf (s : State) (a : Nat) : Nat × Nat :=
  let ch := s.chunkChannel (s.chunkOf a)
  let i := s.chunkOf a / s.populated.length
  if s.redirected ch i then
    let h := s.havenPlace ch i
    (h.1, h.2 + a % s.grain)
  else (ch, s.localAddr a)

/-- The channel that serves a chunk now. -/
def State.servingChannel (s : State) (c : Nat) : Nat := (s.placeOf (c * s.grain)).1

/-- A channel answers requests: in service, migrating out, re-training or returning (R289 to R292). -/
def State.chanServes (s : State) (c : Nat) : Bool :=
  let st := s.ve 0x7820 c 0x01
  st == 2 || st == 3 || st == 5 || st == 6

/-- The controller's record of a channel. -/
def State.chan (s : State) (c : Nat) : ChanRec := tget ChanRec.reset c s.memory.chans
def State.putChan (s : State) (c : Nat) (r : ChanRec) : State :=
  { s with memory := { s.memory with chans := tput c r s.memory.chans } }

/-- A command issued on a channel has not completed. -/
def State.inFlight (s : State) (c : Nat) : Bool :=
  s.memory.requests.any fun (r : DramReq) => r.channel == c && r.issued.isSome

/-- A channel goes into self-refresh, once its issued commands have drained (R278, R289). -/
def State.enterRefresh (s : State) (c : Nat) : State :=
  let r := s.chan c
  if r.selfRefresh then s
  else if s.inFlight c then s.putChan c { r with drains := true }
  else (s.putChan c { r with selfRefresh := true, drains := false, refreshAt := s.now,
                             openRows := [] }).emit (.ddr c 3 0)

/-- Why a request for `len` bytes at `a` gets an error response (7803.03): 3 beyond the usable size,
4 a failed or absent channel; 0 when it is served (R280, R287, R289). -/
def State.dramFault (s : State) (a len : Nat) : Nat :=
  if s.usable < a + len then 3
  else
    let g := s.grain
    let n := (a + len - 1) / g + 1 - a / g
    if (List.range n).all fun i => s.chanServes (s.servingChannel (a / g + i)) then 0 else 4

/-- An error response: counted, recorded in 7803 and logged (R287). -/
def State.errorResponse (s : State) (port kind a : Nat) : State :=
  let ch := if s.populated = [] then 0 else s.chunkChannel (s.chunkOf a)
  ((((s.inc 0x7802 0x07).put 0x7803 0x01 a).put 0x7803 0x02 port).put 0x7803 0x03 kind).log
    { dom := domChannel, idx := ch, level := 1, sev := 1, object := 0x7802, element := 0,
      member := 0x07, cause := kind, d1 := a / 2 ^ 32, d2 := a % 2 ^ 32 }

/-- `n` free bytes: what R287 leaves undefined. -/
def State.freeBytes (s : State) : Nat → Bytes × State
  | 0 => ([], s)
  | n + 1 =>
    let (v, s1) := s.draw 256
    let (bs, s2) := s1.freeBytes n
    (BitVec.ofNat 8 v :: bs, s2)

/-- Writes a byte string to DRAM for a port: whether it was served, and the state after. The bytes of
a write that a failed channel answers with an error are undefined: free values (R287). A write that
reaches beyond the usable size has no place. -/
def State.dramWrite (s : State) (port a : Nat) (bs : Bytes) : Bool × State :=
  let k := s.dramFault a bs.length
  if k = 0 then
    (true, { s with memory := { s.memory with dram := mwrites s.memory.dram a bs } })
  else if k = 3 then (false, s.errorResponse port k a)
  else
    let (junk, s1) := s.freeBytes bs.length
    (false, ({ s1 with memory := { s1.memory with dram := mwrites s1.memory.dram a junk } }).errorResponse
      port k a)

/-- Reads bytes from DRAM for a port; nothing on an error response (R287). -/
def State.dramRead (s : State) (port a len : Nat) : Option Bytes × State :=
  let k := s.dramFault a len
  if k = 0 then (some (mreads s.memory.dram a len), s) else (none, s.errorResponse port k a)

/-- Reads bytes from DRAM chunk by chunk; what an error response answers reads as zero bytes (R287, ports 3
and 5). -/
def State.dramReadZero (s : State) (port : Nat) : Nat → Nat → Nat → Bytes × State
  | 0, _, _ => ([], s)
  | fuel + 1, a, len =>
    if len = 0 then ([], s)
    else
      let n := min len (s.grain - a % s.grain)
      let (r, s1) := s.dramRead port a n
      let (rest, s2) := s1.dramReadZero port fuel (a + n) (len - n)
      (r.getD (zeros n) ++ rest, s2)

/-- At least one DDR5 channel is in service (R49, R400). -/
def State.dramUp (s : State) : Bool := (List.range 4).any fun c => s.chanServes c

end Sys2Proof.Machine
end

