-- ==== Sys2Proof/Machine/Flags.lean ====
section
/-!
DEFINITION. Flag computations: blanking and the permission to emit (R186 to R190), the words 6001.01
and 6001.02, the state of a string (6010[s].03) and of a scan-out engine (5011[h].08).
-/

namespace Sys2Proof.Machine

/-! ### Halves of the panel -/

/-- A half: 0 = A, 1 = B. -/
def State.half (s : State) (h : Nat) : Half := if h = 0 then s.panel.halfA else s.panel.halfB
def State.putHalf (s : State) (h : Nat) (x : Half) : State :=
  if h = 0 then { s with panel := { s.panel with halfA := x } }
  else { s with panel := { s.panel with halfB := x } }

/-- The half is the serviced one of independent mode (R130). -/
def State.serviced (s : State) (h : Nat) : Bool :=
  s.seq.service.independent && s.seq.service.half == h

/-- The half shows: not serviced, and not parked for lack of lanes (R129, R130, R156). -/
def State.showing (s : State) (h : Nat) : Bool := !(s.serviced h) && !(s.half h).lack

/-- The halves that show. -/
def State.showingHalves (s : State) : List Nat := [0, 1].filter s.showing

/-- The panel-clear flag of a half (R166, 5801.05). -/
def State.halfClear (s : State) (h : Nat) : Bool := s.bit 0x5801 0x05 h

/-- What a scan-out engine does (5011[h].08, R148). -/
def State.genState (s : State) (h : Nat) : Nat :=
  let st := s.v 0x5001 0x03
  if st = 4 then 5
  else if st = 0 ∨ (s.half h).park ≠ 0 then 2
  else if s.serviced h then (match s.seq.service.activity with | 0 => 2 | 1 => 3 | _ => 4)
  else if s.seq.service.independent then 0
  else h

/-! ### Fast blanking (R188) -/

/-- Courses 0 to 15 and the strings of a course (R173). -/
def courseStrings (c : Nat) : List Nat := [3 * c, 3 * c + 1, 3 * c + 2]
def allStrings : List Nat := List.range 48

/-- Plucks of the given courses that are still to end are cut: their samples are discarded (R177,
R188). -/
def State.cutSamples (s : State) (courses : List Nat) : State :=
  { s with bridge := { s.bridge with
      expect := s.bridge.expect.filter fun (x : Expect) =>
        x.kind == 3 || !(courses.contains x.course) || decide (x.fall ≤ s.now) } }

/-- The gates of courses are driven dark, and those of the drone period do not come again (R188, R200). -/
def State.darken (s : State) (courses : List Nat) : State :=
  let s1 := s.cutSamples courses
  ({ s1 with bridge := { s1.bridge with
      droneGates := s1.bridge.droneGates.filter fun g => !(courses.contains (g.1 / 3)) } }).emits
    (courses.flatMap fun c => (courseStrings c).map Output.gateDark)

/-- A fast source acts: every affected gate goes dark, the source is shown in 6001.03 and counted in
6002.01 (R188). -/
def State.fastInhibit (s : State) (src : Nat) (courses : List Nat) : State :=
  ((s.put 0x6001 0x03 src).inc 0x6002 0x01).darken courses

/-- A source that blanks every string is noted; no release of it waits any more. -/
def State.holdDark (s : State) (src : Nat) : State :=
  { s with bridge := { s.bridge with
      blank := s.bridge.blank.filter (· != src) ++ [src],
      release := s.bridge.release.filter (· != src) } }

/-- A source that blanks every string asserts (R188): 1 EMIT_INH_N, 2 PFAIL_N, 3 HCLK loss, 4 encoder
loss, 5 panel fault. One that is asserted already does nothing; one whose release waits is asserted anew. A
running calibration ends (R386). -/
def State.blankAll (s : State) (src : Nat) : State :=
  if s.bridge.blank.contains src && !(s.bridge.release.contains src) then s
  else ((s.holdDark src).fastInhibit src (List.range 16)).calEnd

/-- Every string goes dark by a rule outside the table of R188: 6 = device level, 7 = restart of the
BRIDGE island. Neither is a fast source: 6001.03 and 6002.01 stay as they are. -/
def State.blankQuiet (s : State) (src : Nat) : State :=
  ((s.holdDark src).darken (List.range 16)).calEnd

/-- A source that blanks every string releases (R189, R190): at the next fret boundary or drone
period; at once while there are neither, but for the loss of HCLK (R312). -/
def State.releaseAll (s : State) (src : Nat) : State :=
  if !(s.bridge.blank.contains src) then s
  else if s.v 0x5001 0x03 = 0 ∧ src ≠ 3 then
    { s with bridge := { s.bridge with blank := s.bridge.blank.filter (· != src),
                                       release := s.bridge.release.filter (· != src) } }
  else
    { s with bridge := { s.bridge with release := src :: s.bridge.release.filter (· != src) } }

/-! ### Discrete inputs that chatter (R392, R393) -/

/-- Inputs of `Clock.chatter`: 0 PFAIL_N, 1 to 4 PNL_PG, 5 RESET_N, 6 EMIT_INH_N. -/
def inEmit : Nat := 6

/-- Transitions of an input at its ball are noted, and the episode of a chattering input begins after
more than 64 within 1 ms (R189, R393). -/
def State.transitions (s : State) (input count : Nat) : State :=
  let edges := (s.clock.edges.filter fun e => decide (s.now < e.2 + msCycles)) ++
    List.replicate count (input, s.now)
  let n := (edges.filter fun e => e.1 == input).length
  let s1 := { s with clock := { s.clock with edges := edges } }
  if n ≤ 64 ∨ s.clock.chatter.contains input then s1
  else
    let s2 := { s1 with clock := { s1.clock with chatter := input :: s1.clock.chatter } }
    if input = inEmit then s2.inc 0x6002 0x02
    else if input = 5 then s2
    else ((s2.putBit 0x1880 0x01 input true).inc 0x1801 0x07).event 0x1880 0 0x01 0

/-- An input is chattering. -/
def State.chatters (s : State) (input : Nat) : Bool := s.clock.chatter.contains input

/-! ### Permission (R187) -/

/-- Emission is permitted (R187). In drone mode the phase loop is disengaged (R235), so the lock
condition applies to display alone (DEDUCED, log entry 8). A display that stops completes its frame with
light, which ends with fret F - 1 (R147; DEDUCED, log entry 22). -/
def State.permitted (s : State) : Bool :=
  let st := s.v 0x5001 0x03
  let drone := st == 4 && s.bit 0x6801 0x03 2
  (((st == 2 || st == 3 || (st == 5 && s.seq.stopLit)) && s.b 0x6801 0x05) || drone) &&
  s.showingHalves.all s.halfClear && s.bridge.blank.isEmpty && !s.bridge.freezeBlank &&
  s.b 0x6000 0x01

/-- A calibration holds the course dark (R385). -/
def State.calHolds (s : State) (c : Nat) : Bool :=
  match s.health.cal with
  | none => false
  | some k => k.phase != 0 && (k.tile || k.course == c)

/-- The record of a course. -/
def State.course (s : State) (c : Nat) : CourseRec := tget CourseRec.reset c s.bridge.courses
def State.putCourse (s : State) (c : Nat) (x : CourseRec) : State :=
  { s with bridge := { s.bridge with courses := tput c x s.bridge.courses } }

/-- The record of a string. -/
def State.str (s : State) (n : Nat) : StringRec := tget StringRec.reset n s.bridge.strings
def State.putStr (s : State) (n : Nat) (x : StringRec) : State :=
  { s with bridge := { s.bridge with strings := tput n x s.bridge.strings } }

/-- The course is blanked for a reason of its own, a calibration's hold apart (R187, R188): its half is
parked or in load test, its link is not up, or its link or driver flag blanks it. -/
def State.courseOut (s : State) (c : Nat) : Bool :=
  let h := c / 8
  (s.half h).park != 0 || (s.serviced h && s.seq.service.activity != 2) ||
  s.ve 0x6020 c 0x04 != 2 || (s.course c).flagBlank || (s.course c).linkBlank

/-- The course is blanked for a reason of its own, or held by a calibration (R187, R188). -/
def State.courseDark (s : State) (c : Nat) : Bool := s.courseOut c || s.calHolds c

/-- The course may pluck. -/
def State.courseLit (s : State) (c : Nat) : Bool := s.permitted && !(s.courseDark c)

/-- 6001.02: the courses blanked. -/
def State.courseBlankWord (s : State) : Nat :=
  (List.range 16).foldl (fun w c => if s.courseLit c then w else w + 2 ^ c) 0

/-- 6001.01 (R187, R201). -/
def State.emitWord (s : State) : Nat :=
  let b := fun (k : Nat) (x : Bool) => if x then 2 ^ k else 0
  b 0 s.permitted + b 1 s.bridge.emitInh + b 2 (s.clock.chatter.contains 6) + b 3 s.bridge.stuck +
  b 4 (s.showingHalves.any fun h => !(s.halfClear h)) + b 5 (!(s.b 0x6801 0x05)) +
  b 6 (!s.bridge.blank.isEmpty) + b 7 s.bridge.freezeBlank + b 8 (!(s.b 0x6000 0x01)) +
  b 9 (s.v 0x5001 0x03 == 4)

/-- 6010[s].03: closed loop, frozen, open loop or not emitting (R195, R201). -/
def State.stringState (s : State) (n : Nat) : Nat :=
  if (s.str n).openLoop then 2 else if (s.str n).frozen then 1
  else if s.courseLit (n / 3) then 0 else 3

/-! ### Releases at a fret boundary or drone period (R186, R189, R190) -/

/-- Every source whose release waits ends. -/
def State.applyReleases (s : State) : State :=
  let rel := s.bridge.release
  { s with bridge := { s.bridge with
      blank := s.bridge.blank.filter (fun x => !(rel.contains x)), release := [],
      courses := s.bridge.courses.map fun (e : Nat × CourseRec) =>
        (e.1, { e.2 with flagBlank := e.2.flagBlank && !e.2.flagRelease,
                         linkBlank := e.2.linkBlank && !e.2.linkRelease,
                         flagRelease := false, linkRelease := false }) } }

end Sys2Proof.Machine
end

