-- ==== Sys2Proof/Machine/LineCode.lean ====
section
/-!
DEFINITION. The line coding of a serial lane (R242): the self-synchronous scrambler 1 + x^28 + x^31
and the stuffing after 48 equal line bits, with the registers that each direction of a lane holds. The
commands of the model carry a received block after descrambling; the line bits that spelled it are those
that the same registers give for it, since descrambling undoes scrambling.
-/

namespace Sys2Proof.Machine

/-- The bits of a byte string in line order, most significant bit first (R240). -/
def bitsOf (bs : Bytes) : List Bool := bs.flatMap fun b => (List.range 8).map fun k => b.getLsbD (7 - k)

/-- The line bit sent `k` bits earlier; `h` holds the last 31 line bits, the newest in bit 0. -/
def earlier (h k : Nat) : Bool := h.testBit (k - 1)

/-- The history after one more line bit. -/
def shiftIn (h : Nat) (x : Bool) : Nat := (2 * h + x.toNat) % 2 ^ 31

/-- Scrambled line bits (R242) from a history of line bits. -/
def scramble (h : Nat) : List Bool → List Bool
  | [] => []
  | d :: r =>
    let x := (d ^^ earlier h 28) ^^ earlier h 31
    x :: scramble (shiftIn h x) r

/-- Block bits from line bits (R242) and a history of received bits. -/
def descramble (h : Nat) : List Bool → List Bool
  | [] => []
  | x :: r => ((x ^^ earlier h 28) ^^ earlier h 31) :: descramble (shiftIn h x) r

/-- Length of the run of equal bits after one more bit. -/
def runAfter (last : Bool) (run : Nat) (x : Bool) : Nat := if x = last then run + 1 else 1

/-- Stuffing (R242): after 48 equal line bits one opposite bit, which begins a new run. -/
def stuff (last : Bool) (run : Nat) : List Bool → List Bool
  | [] => []
  | x :: r =>
    if runAfter last run x = 48 then x :: (!x) :: stuff (!x) 1 r
    else x :: stuff x (runAfter last run x) r

/-- Removal of the bit that follows every run of 48 (R242). `skip` says that the next bit follows
such a run. -/
def unstuff (last : Bool) (run : Nat) (skip : Bool) : List Bool → List Bool
  | [] => []
  | x :: r =>
    if skip then unstuff x 1 false r
    else x :: unstuff x (runAfter last run x) (decide (runAfter last run x = 48)) r

/-- What a transmitter puts on the line for a block (R240, R242): `h` and the run are its registers. -/
def lineBits (h : Nat) (last : Bool) (run : Nat) (block : Bytes) : List Bool :=
  stuff last run (scramble h (bitsOf block))

/-- The registers after a block has passed, and the line bits that it took (R242). -/
def Line.after (l : Line) (block : Bytes) : Line :=
  let bits := scramble l.hist (bitsOf block)
  let line := stuff l.last l.run bits
  let run := line.foldl (fun (a : Bool × Nat) x => (x, runAfter a.1 a.2 x)) (l.last, l.run)
  { hist := bits.foldl shiftIn l.hist, last := run.1, run := run.2, len := line.length }

end Sys2Proof.Machine
end

