-- ==== Sys2Proof/Machine/Operands.lean ====
section
/-!
DEFINITION. Operand forms: how the bytes that arrive are read. Parcels (R35 to R41), link blocks
(R240, R247), panel STATUS blocks (R152), course-link and drive-link frames (R182, R183, R217, R218).
-/

namespace Sys2Proof.Machine

/-! ### Parcels (R35 to R41) -/

/-- The common header of a parcel (R35). -/
structure ParcelHdr where
  version : Nat
  kind : Nat
  flags : Nat
  hop : Nat
  x0 : Nat
  y0 : Nat
  x1 : Nat
  y1 : Nat
  wall : Nat
  reserved : Nat
  frame : Nat
  len : Nat
  check : Nat
  deriving DecidableEq, Repr

/-- Reads a common header (R35). -/
def parcelHdr (bs : Bytes) : ParcelHdr :=
  { version := field bs 0 1, kind := field bs 1 1, flags := field bs 2 1, hop := field bs 3 1,
    x0 := field bs 4 1, y0 := field bs 5 1, x1 := field bs 6 1, y1 := field bs 7 1,
    wall := field bs 8 2, reserved := field bs 10 2, frame := field bs 12 4,
    len := field bs 16 4, check := field bs 20 4 }

def ParcelHdr.rect (h : ParcelHdr) : Bool := h.flags.testBit 7
def ParcelHdr.cueLoad (h : ParcelHdr) : Bool := h.flags.testBit 6
def ParcelHdr.tree (h : ParcelHdr) : Nat := h.flags % 16

/-- The header check holds (R35, R43). -/
def hdrCheckOk (bs : Bytes) : Bool := crc32c (bs.take 20) == field bs 20 4

/-- A header with one hop less and a recomputed header check (R44). -/
def relayHdr (bs : Bytes) : Bytes :=
  let h := bs.take 3 ++ beBytes 1 (field bs 3 1 - 1) ++ slice bs 4 16
  h ++ beBytes 4 (crc32c h)

/-- Block payloads that a parcel occupies (R36). -/
def ParcelHdr.blocks (h : ParcelHdr) : Nat := cdiv (h.len + 28) 64

/-- Body bytes of a whole parcel. -/
def parcelBody (bs : Bytes) : Bytes := slice bs 24 (field bs 16 4)

/-- The body check holds (R35). -/
def bodyCheckOk (bs : Bytes) : Bool :=
  let n := field bs 16 4
  decide (24 + n + 4 ≤ bs.length) && crc32c (parcelBody bs) == field bs (24 + n) 4

/-- A TIME code whose nanosecond field is in range (R3). -/
def timeOk (r : Nat) : Bool := decide (r / 2 ^ 16 % 2 ^ 32 ≤ 999999999)

/-- Body length limits of a kind (R37 to R41). -/
def lenOk (kind len : Nat) : Bool :=
  match kind with
  | 1 => decide (9 ≤ len ∧ len ≤ 33288)
  | 2 => decide (20 ≤ len ∧ len ≤ 144 ∧ len % 4 = 0)
  | 3 => len == 8
  | 4 => len == 20
  | 5 => decide (9 ≤ len ∧ len ≤ 32776)
  | _ => false

/-- The fields of the common header are as R35 and R42 ask. -/
def hdrFieldsOk (h : ParcelHdr) : Bool :=
  h.version == 1 && decide (1 ≤ h.kind ∧ h.kind ≤ 5) && h.flags / 16 % 4 == 0 && h.reserved == 0 &&
  (!h.cueLoad || (decide (h.kind ≤ 3) && h.frame / 65536 == 0)) && lenOk h.kind h.len

/-- Disparities of a frame header body (R38). -/
def disparities (body : Bytes) (n : Nat) : List Int :=
  (List.range n).map fun p => toS 16 (field body (16 + 2 * p) 2)

/-- A list does not increase (R33). -/
def nonIncreasing : List Int → Bool
  | [] => true
  | [_] => true
  | a :: b :: r => decide (b ≤ a) && nonIncreasing (b :: r)

/-- The fields of a tile body (R37). -/
def tileFieldsOk (m : Mode) (body : Bytes) : Bool :=
  decide (field body 0 1 ≤ 63 ∧ field body 1 1 < m.bands ∧ field body 2 1 < m.cols) &&
  field body 3 1 == 0 && field body 4 2 == m.rawSize (field body 1 1) (field body 2 1) &&
  field body 6 2 == 0

/-- The fields of a frame header body (R38). -/
def headerFieldsOk (cueLoad : Bool) (body : Bytes) : Bool :=
  let p := field body 0 1
  decide (1 ≤ p ∧ p ≤ 64) && field body 1 3 == 0 && timeOk (field body 4 12) &&
  (!cueLoad || field body 4 12 == 0) && body.length == cdiv (16 + 2 * p) 4 * 4 &&
  (body.drop (16 + 2 * p)).all (· == 0#8) && nonIncreasing (disparities body p)

/-- The fields of a frame close body (R39). -/
def closeFieldsOk (h : ParcelHdr) (body : Bytes) : Bool :=
  field body 4 4 == 0 &&
  (!h.rect || field body 0 4 == 0xFFFFFFFF || (h.x0 == h.x1 && h.y0 == h.y1))

/-- The fields of a cue trigger body (R40). -/
def triggerFieldsOk (body : Bytes) : Bool := timeOk (field body 0 12) && field body 18 2 == 0

/-- The trigger of a cue trigger body (R40). -/
def triggerOf (body : Bytes) : Trigger :=
  { start := field body 0 12, first := field body 12 2, count := field body 14 2,
    loops := field body 16 2 }

/-! ### Link blocks (R240, R241) -/

/-- Type of a block (R240). -/
def blockType (b : Bytes) : Nat := field b 0 2 / 4096

/-- Sequence of a block (R240). -/
def blockSeq (b : Bytes) : Nat := field b 0 2 % 4096

/-- The 64 payload bytes of a block. -/
def blockPayload (b : Bytes) : Bytes := slice b 2 64

/-- A 70-byte block whose CRC is good (R240). -/
def blockOk (b : Bytes) : Bool := b.length == 70 && crc32c (b.take 66) == field b 66 4

/-- The bytes of a block with a type, sequence and payload (R240). -/
def mkBlock (ty seq : Nat) (payload : Bytes) : Bytes :=
  let hd := beBytes 2 (ty * 4096 + seq % 4096) ++ (payload ++ zeros (64 - payload.length)).take 64
  hd ++ beBytes 4 (crc32c hd)

/-- One entry of an acknowledge block (R247). -/
structure AckEntry where
  lane : Nat
  nak : Bool
  rank : Nat
  seq : Nat
  deriving DecidableEq, Repr

/-- The 16 entries of an acknowledge block, unused ones left out (R247). -/
def ackEntries (b : Bytes) : List AckEntry :=
  ((List.range 16).map fun i =>
    let e := field (blockPayload b) (4 * i) 4
    { lane := e / 2 ^ 24, nak := e.testBit 23, rank := e / 2 ^ 20 % 8, seq := e % 4096 }).filter
      fun e => e.lane != 0xFE

/-! ### Course-link frames (R181 to R183) -/

/-- CRC-8 of the upper bits of a 64-bit frame (R181). -/
def frame64Ok (f : BitVec 64) : Bool := crc8 (beBytes 7 (f.toNat / 256)) == f.toNat % 256

/-- Type, string, value, flags and sequence of an uplink frame (R183). -/
def upType (f : BitVec 64) : Nat := f.toNat / 2 ^ 60
def upString (f : BitVec 64) : Nat := f.toNat / 2 ^ 58 % 4
def upValue (f : BitVec 64) : Nat := f.toNat / 2 ^ 40 % 65536
def upFlags (f : BitVec 64) : Nat := f.toNat / 2 ^ 24 % 65536
def upSeq (f : BitVec 64) : Nat := f.toNat / 2 ^ 8 % 65536

/-- A downlink frame (R182). -/
def downlink (ty i : Nat) (m p : Bool) (code slot course seq : Nat) : BitVec 64 :=
  let upper := ty * 2 ^ 52 + i * 2 ^ 50 + (if m then 2 ^ 49 else 0) + (if p then 2 ^ 48 else 0) +
    code * 2 ^ 32 + slot * 2 ^ 27 + course * 2 ^ 16 + seq % 65536
  BitVec.ofNat 64 (upper * 256 + crc8 (beBytes 7 upper))

/-! ### Drive-link frames (R216 to R218) -/

/-- CRC-8 of the upper bits of a 48-bit frame (R216). -/
def frame48Ok (f : BitVec 48) : Bool := crc8 (beBytes 5 (f.toNat / 256)) == f.toNat % 256

def drvType (f : BitVec 48) : Nat := f.toNat / 2 ^ 44
def drvSeq (f : BitVec 48) : Nat := f.toNat / 2 ^ 16 % 256
def drvFlags (f : BitVec 48) : Nat := f.toNat / 2 ^ 8 % 256

/-- A command frame: type, torque code, sequence, torque enabled (R217). -/
def driveFrame (ty : Nat) (torque : Int) (seq : Nat) (enabled : Bool) : BitVec 48 :=
  let upper := ty * 2 ^ 36 + ofS 16 torque * 2 ^ 16 + seq % 256 * 2 ^ 8 + (if enabled then 1 else 0)
  BitVec.ofNat 48 (upper * 256 + crc8 (beBytes 5 upper))

/-! ### Panel STATUS blocks (R152) -/

/-- Load number, temperature code, flags and rejected rows of a STATUS payload (R152). -/
def statusLoad (p : Bytes) : Nat := field p 2 2
def statusTemp (p : Bytes) : Int := toS 16 (field p 4 2)
def statusFlags (p : Bytes) : Nat := field p 6 2
def statusRejects (p : Bytes) : Nat := field p 8 2

end Sys2Proof.Machine
end

