-- ==== Sys2Proof/Machine/Links.lean ====
section
/-!
DEFINITION. Lane groups and the sending of link blocks (R238 to R249, R251, R252). A panel lane is its
own stream; the slots of a mesh port go over its lanes in service (R245). The blocks that the model
sends are those that a rule asks for at a command; the fillers that fill the slots between them are left
out, so slots and blocks are counted over the blocks that the model sends (DESIGN CHOICE, log entry 84).
-/

namespace Sys2Proof.Machine

/-- The first lane of a mesh port, and the port of a mesh lane (R238). -/
def meshLane (p : Nat) : Nat := 128 + 8 * p
def portOfLane (lane : Nat) : Nat := (lane - 128) / 8

/-- The group of a lane, named by its first lane (R238). -/
def groupOf (lane : Nat) : Nat := if lane < 128 then lane else meshLane (portOfLane lane)

/-- The lanes of a mesh port. -/
def portLanes (p : Nat) : List Nat := (List.range 8).map fun k => meshLane p + k

/-- Lanes in a BITS8 of a port, as lane numbers (7003[p].06 and .07). -/
def bitLanes (p w : Nat) : List Nat := (portLanes p).filter fun l => w.testBit ((l - 128) % 8)

/-- State of a lane (7010[n].01): 0 off, 1 training, 2 up, 3 out of service, 4 asleep, 5 failed. -/
def State.laneState (s : State) (lane : Nat) : Nat := s.ve 0x7010 lane 0x01

/-- A lane is in service: up, or up with a direction asleep (R257, R263). -/
def State.laneServes (s : State) (lane : Nat) : Bool := s.laneState lane == 2 || s.laneState lane == 4

/-- A lane group's record. -/
def State.group (s : State) (lane : Nat) : Group := tget Group.reset (groupOf lane) s.lanes.groups
def State.putGroup (s : State) (lane : Nat) (g : Group) : State :=
  { s with lanes := { s.lanes with groups := tput (groupOf lane) g s.lanes.groups } }

/-- A lane's record. -/
def State.lane (s : State) (lane : Nat) : LaneRec := tget LaneRec.reset lane s.lanes.recs
def State.putLane (s : State) (lane : Nat) (r : LaneRec) : State :=
  { s with lanes := { s.lanes with recs := tput lane r s.lanes.recs } }

/-- A block type is replayable in the forward direction (R241). -/
def replayable (kind : Nat) : Bool := decide (1 ≤ kind ∧ kind ≤ 4)

/-- The transmit lanes in service of a port, in rank order (R245). -/
def State.txLanes (s : State) (p : Nat) : List Nat := bitLanes p (s.ve 0x7003 p 0x06)

/-- The lanes that carry a group's blocks, in rank order (R238, R245). -/
def State.groupLanes (s : State) (lane : Nat) : List Nat :=
  if lane < 128 then [lane] else s.txLanes (portOfLane lane)

/-! ### Blocks on a lane (R240, R242) -/

/-- A block passes a transmitter's line code and leaves. -/
def State.putBlock (s : State) (lane kind seq : Nat) (payload : Bytes) : State :=
  let r := s.lane lane
  (s.putLane lane { r with tx := r.tx.after (mkBlock kind seq payload) }).emit
    (.block lane kind seq payload)

/-- A received block has passed a receiver's line code. -/
def State.heard (s : State) (lane : Nat) (block : Bytes) : State :=
  let r := s.lane lane
  s.putLane lane { r with rx := r.rx.after block }

/-! ### Slots and rows (R243 to R245) -/

/-- The payload of a marker block (R243). -/
def State.markerPayload (s : State) (lane : Nat) : Bytes :=
  let mesh := decide (128 ≤ lane)
  let n := if mesh then (s.txLanes (portOfLane lane)).length else (s.half (lane / 64)).mapped.length
  [0x5A#8] ++ beBytes 1 (if mesh then (lane - 128) % 8 else lane % 64) ++
    beBytes 1 (if mesh then portOfLane lane else lane / 64) ++ beBytes 1 n ++
    beBytes 1 (if mesh then s.v 0x3000 0x02 else 0) ++ beBytes 1 (if mesh then s.v 0x3000 0x03 else 0) ++
    zeros 2 ++ beBytes 4 (s.lane lane).markersSent ++ zeros 52

/-- A lane sends a marker block and counts it (R243). -/
def State.sendMarker (seq : Nat) (s : State) (lane : Nat) : State :=
  let s1 := s.putBlock lane 8 seq (s.markerPayload lane)
  let r := s1.lane lane
  s1.putLane lane { r with markersSent := (r.markersSent + 1) % 2 ^ 32 }

/-- A lane sends a filler block (R244). -/
def State.sendFiller (seq : Nat) (s : State) (lane : Nat) : State := s.putBlock lane 0 seq (zeros 64)

/-- One slot of the present row has been sent; the last one ends the row. -/
def Group.slotSent (g : Group) (n : Nat) : Group :=
  if g.slot + 1 < n then { g with slot := g.slot + 1 } else { g with slot := 0, rows := g.rows + 1 }

/-- A row of one block on every lane of the group (R245). -/
def State.sendRow (s : State) (lane : Nat) (send : State → Nat → State) : State :=
  let s1 := (s.groupLanes lane).foldl send s
  let g := s1.group lane
  s1.putGroup lane { g with rows := g.rows + 1 }

/-- The payload of an acknowledge block with one entry; the others are unused (R247). -/
def ackPayload (lane : Nat) (nak : Bool) (rank seq : Nat) : Bytes :=
  beBytes 4 (lane * 2 ^ 24 + (if nak then 2 ^ 23 else 0) + rank * 2 ^ 20 + seq) ++
    (List.replicate 15 [0xFE#8, 0#8, 0#8, 0#8]).flatten

/-- What the acknowledge block of a mesh receiver says (R247, R248): the last sequence received in order,
or, while a NAK is outstanding, the NAK again. -/
def Group.ack (g : Group) : Bytes :=
  if g.nak then ackPayload 0xFF true g.nakRank g.rxSeq
  else ackPayload 0xFF false 0 ((g.rxSeq + 4095) % 4096)

/-- The slots left in a begun row of a mesh port carry acknowledge blocks, so that a block of a whole row
can follow (R245; DESIGN CHOICE, log entry 84). -/
def State.padRow (s : State) (lane seq : Nat) : State :=
  let g := s.group lane
  if g.slot = 0 then s
  else
    let s1 := ((s.groupLanes lane).drop g.slot).foldl (fun (st : State) l => st.putBlock l 5 seq g.ack) s
    s1.putGroup lane { g with slot := 0, rows := g.rows + 1 }

/-- At the start of a row the marker row of every 4 096, and then the filler row of every 1 024, are
sent when they are due (R243, R244). -/
def State.dueRows (s : State) (lane seq : Nat) : State :=
  let g := s.group lane
  if g.slot ≠ 0 then s
  else
    let s1 := if g.markers * 4096 ≤ g.rows then
        (s.putGroup lane { g with markers := g.markers + 1 }).sendRow lane (State.sendMarker seq)
      else s
    let g1 := s1.group lane
    if 1023 ≤ g1.rows - g1.fillerAt then
      (s1.putGroup lane { g1 with fillerAt := g1.rows + 1 }).sendRow lane (State.sendFiller seq)
    else s1

/-- A filler block, or row, is sent (R244). -/
def State.fillerRow (s : State) (lane : Nat) : State :=
  let q := (s.group lane).txSeq
  let s1 := (s.padRow lane q).dueRows lane q
  let g := s1.group lane
  (s1.putGroup lane { g with fillerAt := g.rows + 1 }).sendRow lane (State.sendFiller q)

/-- The lane of the next slot: the one whose rank is the slot in its row (R245); none when no lane of the
group is in service. -/
def State.slotLane? (s : State) (lane : Nat) : Option Nat := (s.groupLanes lane)[(s.group lane).slot]?

/-- A block takes the next slot (R245). -/
def State.sendSlot (s : State) (lane kind seq : Nat) (payload : Bytes) : State :=
  match s.slotLane? lane with
  | none => s
  | some l =>
    let s1 := s.putBlock l kind seq payload
    s1.putGroup lane ((s1.group lane).slotSent (s1.groupLanes lane).length)

/-! ### Sleep and training of transmitters (R254, R262, R263) -/

/-- 7010[n].01 of a lane that is up shows whether a direction of it sleeps (R262). -/
def State.showSleep (s : State) (lane : Nat) : State :=
  if s.laneServes lane then
    s.pute 0x7010 lane 0x01 (if (s.lane lane).txAsleep || (s.lane lane).rxAsleep then 4 else 2)
  else s

/-- The payload of a training block (R254): the pattern twelve times, the stage reached on the lane,
the preset requested of the far end. -/
def trainingPayload (stage preset : Nat) : Bytes :=
  (List.replicate 12 [0x5A#8, 0x3C#8, 0x96#8, 0x0F#8]).flatten ++ beBytes 1 stage ++ beBytes 1 preset ++
    zeros 14

/-- One training block of a lane (R254). -/
def State.trainingBlock (s : State) (lane : Nat) : State :=
  s.putBlock lane 9 (s.group lane).txSeq
    (trainingPayload (s.ve 0x7010 lane 0x03) (s.lane lane).ownPreset)

/-- A lane's transmitter sends training blocks, with a marker every 64 (R253): one marker and one training
block stand for the train of them. -/
def State.sendTraining (s : State) (lane : Nat) : State :=
  (s.sendMarker (s.group lane).txSeq lane).trainingBlock lane

/-- The transmit direction of a sleeping mesh port wakes by sending training blocks on its lanes in
service (R262, R263). -/
def State.wakePort (s : State) (p : Nat) : State := (s.txLanes p).foldl State.sendTraining s

/-- A transmitter that sleeps wakes before it sends a block (R262, R263). -/
def State.wakeTx (s : State) (lane : Nat) : State :=
  if lane < 128 then
    if (s.lane lane).txAsleep then
      ((s.putLane lane { s.lane lane with txAsleep := false }).showSleep lane).sendTraining lane
    else s
  else if s.ve 0x7003 (portOfLane lane) 0x09 = 1 then
    (s.pute 0x7003 (portOfLane lane) 0x09 0).wakePort (portOfLane lane)
  else s

/-! ### Replayable blocks (R241, R249) -/

/-- A block goes out in the next slot and is held until it is acknowledged (R249). -/
def State.sendHeld (lane : Nat) (s : State) (b : Held) : State :=
  let s1 := s.dueRows lane b.seq
  let g := s1.group lane
  let on := { b with lane := (s1.slotLane? lane).getD b.lane, sentAt := s.now }
  (s1.putGroup lane { g with held := g.held ++ [on] }).sendSlot lane b.kind b.seq b.payload

/-- A new replayable block takes the next sequence and goes out (R241). -/
def State.sendNew (s : State) (lane : Nat) (b : Held) : State :=
  let s1 := s.sendHeld lane { b with seq := (s.group lane).txSeq }
  let g := s1.group lane
  s1.putGroup lane { g with txSeq := (g.txSeq + 1) % 4096 }

/-- A block that waited: it goes out unless another still waits or 256 are held; a filler that waited
behind it goes out as a filler (R244, R249). -/
def State.sendQueued (lane : Nat) (s : State) (b : Held) : State :=
  let g := s.group lane
  if g.queue = [] ∧ (b.kind = 0 ∨ g.held.length < 256) then
    if b.kind = 0 then s.fillerRow lane else s.sendNew lane b
  else s.putGroup lane { g with queue := g.queue ++ [b] }

/-- Blocks that waited are sent while fewer than 256 are held (R249). -/
def State.drainQueue (s : State) (lane : Nat) : State :=
  let g := s.group lane
  g.queue.foldl (State.sendQueued lane) (s.putGroup lane { g with queue := [] })

/-- Sends a block on a lane's group (R241, R249, R251). A replayable block takes the next sequence and is
held; with 256 held it waits, and fillers are sent meanwhile; a filler that follows blocks that wait goes
out after them. A timed command goes out at once, its slot is lost to the block stream, and a marker that
falls due in it goes out in the next slot. Another block takes a slot and carries the sequence that the
next replayable block will take. -/
def State.sendBlock (s : State) (lane kind : Nat) (payload : Bytes) (rows : List Nat) : State :=
  let s1 := s.wakeTx lane
  let g := s1.group lane
  if kind = 7 then
    let s2 := s1.putBlock lane 7 g.txSeq payload
    s2.putGroup lane { s2.group lane with rows := g.rows + 1 }
  else if kind = 0 ∨ replayable kind = true then
    let s2 := s1.sendQueued lane
      { seq := g.txSeq, kind := kind, payload := payload, lane := lane, sentAt := s.now, rows := rows }
    if g.queue = [] ∧ (s2.group lane).queue ≠ [] then s2.fillerRow lane else s2
  else (s1.dueRows lane g.txSeq).sendSlot lane kind g.txSeq payload

/-- Sends again, in order, held blocks of a group from a sequence on; what comes before stays held
(R249). -/
def State.resendHeld (s : State) (lane : Nat) (again : List Held) : State :=
  let g := s.group lane
  again.foldl (State.sendHeld lane)
    (s.putGroup lane { g with held := g.held.filter fun b => !(again.any fun x => x.seq == b.seq) })

/-- The acknowledge block of a mesh receiver goes out (R247, R248); a NAK is counted in 7002.02. -/
def State.sendAck (s : State) (p : Nat) : State :=
  let lane := meshLane p
  let g := s.group lane
  let s1 := s.sendBlock lane 5 g.ack []
  if g.nak then s1.inc 0x7002 0x02 else s1

end Sys2Proof.Machine
end

