-- ==== Sys2Proof/Machine/Ingress.lean ====
section
/-!
DEFINITION. Scene stream: relay, filing of kept parcels, budgets, spill, cues and triggers
(02_scene_stream.md, R30 to R57). The decisions of the latch point stand in `Timeline.lean`.
-/

namespace Sys2Proof.Machine

/-! ### The two compressed frame stores -/

/-- The store with index `i`. -/
def State.storeAt (s : State) (i : Nat) : Frame := if i = 0 then s.ingress.store0 else s.ingress.store1

/-- Sets the store with index `i`. -/
def State.putStore (s : State) (i : Nat) (f : Frame) : State :=
  if i = 0 then { s with ingress := { s.ingress with store0 := f } }
  else { s with ingress := { s.ingress with store1 := f } }

/-- The next compressed frame store (R23). -/
def State.nextStore (s : State) : Frame := s.storeAt (1 - s.ingress.sel)
def State.putNext (s : State) (f : Frame) : State := s.putStore (1 - s.ingress.sel) f

/-- The current compressed frame store (R23). -/
def State.curStore (s : State) : Frame := s.storeAt s.ingress.sel

/-- Granules of a stream (R46). -/
def granulesOf (stream : Bytes) : Nat := cdiv stream.length 512

/-- Granules that a frame holds (R46). -/
def Frame.granules (f : Frame) : Nat := f.tiles.foldl (fun a t => a + granulesOf t.stream) 0

/-- Stream bytes that a frame holds. -/
def Frame.bytes (f : Frame) : Nat := f.tiles.foldl (fun a t => a + t.stream.length) 0

/-- Tiles of a band over all depth planes (R46). -/
def Frame.bandTiles (m : Mode) (f : Frame) (b : Nat) : Nat :=
  (f.tiles.filter fun t => m.bandOf t.q == b).length

/-- The tile of a queue. -/
def Frame.tile? (f : Frame) (q : Nat) : Option Tile := f.tiles.find? fun t => t.q == q

/-- Puts a tile into a list in rising order of queues, replacing one of the same queue. -/
def insertTile (t : Tile) : List Tile → List Tile
  | [] => [t]
  | u :: r => if t.q < u.q then t :: u :: r else if t.q = u.q then t :: r else u :: insertTile t r

/-- What the removals of R46 leave: the frame, and the counts for 3002.09 and 3002.0A. -/
structure Budget where
  frame : Frame
  bandDrops : Nat
  granuleDrops : Nat

/-- The procedure of R46 for band `b`: while a limit is exceeded, the band's tile with the highest
plane and column goes. In a band the highest queue is the highest plane and then the highest
column. -/
def enforceBudget (m : Mode) (b : Nat) : Nat → Budget → Budget
  | 0, x => x
  | n + 1, x =>
    let tooMany := decide (384 < x.frame.bandTiles m b)
    if tooMany || decide (73728 < x.frame.granules) then
      match (x.frame.tiles.filter fun t => m.bandOf t.q == b).getLast? with
      | none => x
      | some v =>
        enforceBudget m b n
          { frame := { x.frame with tiles := x.frame.tiles.filter (fun t => t.q != v.q),
                                    removed := v.q :: x.frame.removed },
            bandDrops := x.bandDrops + (if tooMany then 1 else 0),
            granuleDrops := x.granuleDrops + (if tooMany then 0 else 1) }
    else x

/-- A tile is inserted into a frame, and both limits are enforced (R46). -/
def Frame.insert (f : Frame) (m : Mode) (t : Tile) : Budget :=
  let f1 := { f with tiles := insertTile t f.tiles }
  enforceBudget m (m.bandOf t.q) (f1.tiles.length + 1)
    { frame := f1, bandDrops := 0, granuleDrops := 0 }

/-! ### Where a parcel is filed -/

/-- A frame under assembly: the next store's, or a cue's (R48, R54). -/
inductive Dest where
  | next
  | cue (n : Nat)
  deriving DecidableEq, Repr

def State.frameAt (s : State) (d : Dest) : Frame :=
  match d with
  | .next => s.nextStore
  | .cue n => tget Frame.empty n s.ingress.cues

def State.putFrameAt (s : State) (d : Dest) (f : Frame) : State :=
  match d with
  | .next => s.putNext f
  | .cue n => { s with ingress := { s.ingress with cues := tset Frame.empty n f s.ingress.cues } }

/-- The condition of R51 on header, close and count; a frame that lost a tile for lack of spill space
meets it only with an unchecked count (R50). -/
def Frame.countMet (f : Frame) : Bool :=
  f.header.isSome && (match f.close with
    | none => false
    | some c => c == 0xFFFFFFFF || (!f.lost && decide (c ≤ f.accepted)))

/-- The accepted number exceeds a checked close count (R51). -/
def Frame.overCount (f : Frame) : Bool :=
  match f.close with
  | none => false
  | some c => c != 0xFFFFFFFF && decide (c < f.accepted)

/-- Depth planes of a frame, 0 before its header. -/
def Frame.planes (f : Frame) : Nat :=
  match f.header with
  | none => 0
  | some h => h.planes

/-- R51 after any change of a frame: at the moment the count condition becomes true, tiles of planes
at or above P go and are counted in 3002.01, and a cue becomes complete (R54); a mismatch of the
count is counted once for the frame in 3002.0E. -/
def State.judgeComplete (s : State) (d : Dest) : State :=
  let f := s.frameAt d
  if f.countMet then
    let gone := f.tiles.filter fun t => decide (f.planes ≤ queuePlane t.q)
    let s1 := if f.counted then s else
      let s0 := (s.putFrameAt d { f with
        tiles := f.tiles.filter (fun t => decide (queuePlane t.q < f.planes)), counted := true }).add
          0x3002 0x01 gone.length
      match d with
      | .next => s0
      | .cue n => s0.pute 0x3500 n 0x01 2
    let f1 := s1.frameAt d
    if f1.overCount && !f1.mismatch then
      (s1.putFrameAt d { f1 with mismatch := true }).inc 0x3002 0x0E
    else s1
  else s

/-- The plane under which a tile parcel is filed after the renumberings of R84. -/
def renumbered (created : List Nat) (p : Nat) : Nat :=
  created.foldl (fun x i => if i ≤ x then x + 1 else x) p

/-- Files a tile parcel whose fields are good (R46, R47, R51). -/
def State.fileTile (s : State) (d : Dest) (p b c : Nat) (stream : Bytes) : State :=
  let f := s.frameAt d
  let m := s.mode
  let pl := renumbered f.created p
  let q := queueOf pl (m.tileIndex b c)
  if q ∈ f.received then s.inc 0x3002 0x08
  else if f.counted && decide (f.planes ≤ pl) then s.inc 0x3002 0x01
  else if 64 ≤ pl then s.inc 0x3002 0x01
  else
    let f1 := { f with accepted := f.accepted + 1, received := q :: f.received }
    let x := f1.insert m { q := q, stream := stream, bad := false }
    ((((s.putFrameAt d x.frame).add 0x3002 0x09 x.bandDrops).add 0x3002 0x0A x.granuleDrops).ince
      0x3100 q 0x03).judgeComplete d

/-- Files a frame header (R38, R47). -/
def State.fileHeader (s : State) (d : Dest) (h : FrameHdr) : State :=
  let f := s.frameAt d
  if f.header.isSome then s.inc 0x3002 0x08
  else (s.putFrameAt d { f with header := some h }).judgeComplete d

/-- Files a frame close (R39, R47). -/
def State.fileClose (s : State) (d : Dest) (count : Nat) : State :=
  let f := s.frameAt d
  if f.close.isSome then s.inc 0x3002 0x08
  else (s.putFrameAt d { f with close := some count }).judgeComplete d

/-- Files a whole parcel of kind 1, 2 or 3 by its bytes. -/
def State.fileParcel (s : State) (d : Dest) (bs : Bytes) : State :=
  let body := parcelBody bs
  match field bs 1 1 with
  | 1 => s.fileTile d (field body 0 1) (field body 1 1) (field body 2 1) (body.drop 8)
  | 2 =>
    let n := field body 0 1
    s.fileHeader d { planes := n, tp := field body 4 12, d := disparities body n }
  | _ => s.fileClose d (field body 0 4)

/-! ### Spill (R48 to R50) -/

/-- Bytes of the spill region, and of its part for kinds 2 and 3 (R50). -/
def spillSize : Nat := 41943040
def spillTail : Nat := 65536

/-- A content frame is the next frame, and its parcels in spill are being copied into the store (R49). -/
def State.copying (s : State) (n : Nat) : Bool := s.ingress.spillCopy && s.nextStore.number == some n

/-- A spilled frame already has a parcel of this kind, in spill or, while it is copied, in the store
(R47, R50). -/
def State.spillHas (s : State) (n kind : Nat) : Bool :=
  (s.ingress.spill.any fun r => r.frame == n && r.kind == kind) ||
  (s.copying n && (if kind = 2 then s.nextStore.header.isSome else s.nextStore.close.isSome))

/-- Only the parcels of one frame stay in spill; with none left the region is empty. -/
def State.keepSpill (s : State) (n : Option Nat) : State :=
  let rest := s.ingress.spill.filter fun (r : Spilled) => some r.frame == n
  { s with ingress := { s.ingress with
      spill := rest, spillUsed := if rest = [] then 0 else s.ingress.spillUsed,
      spillLost := s.ingress.spillLost.filter fun x => some x == n } }

/-- Spill is emptied without a copy (R55, R56). -/
def State.dropSpill (s : State) : State :=
  let s1 := s.keepSpill none
  { s1 with ingress := { s1.ingress with spillFrame := none, spillCopy := false } }

/-- A frame is passed over: later parcels of it and of earlier frames are late, and it is counted in
3002.0C (R52, R55, R287). -/
def State.passOver (s : State) (n : Nat) : State :=
  ({ s with ingress := { s.ingress with cutoff := some n } }).inc 0x3002 0x0C

/-- The frame in the next store leaves it: a composition under way stops, and the results of its lanes
belong to no frame (R93). -/
def State.leaveNext (s : State) : State :=
  if s.v 0x4001 0x01 = 0 then s
  else
    ({ s with
      comp := Comp.reset,
      codec := { s.codec with cjobs := s.codec.cjobs.map fun (j : CompressJob) =>
        { j with frameId := (none, none) } } }).put 0x4001 0x01 0

/-- The next store is released and gets its new next frame: the spilled one, whose copy begins, or
none until a parcel of a later frame arrives (R49). -/
def State.releaseNext (s : State) : State :=
  let n := s.ingress.spillFrame
  let lost := match n with
    | none => false
    | some x => s.ingress.spillLost.contains x
  let s1 := (s.leaveNext.putNext { Frame.empty with number := n, lost := lost }).keepSpill n
  { s1 with ingress := { s1.ingress with spillFrame := none, spillCopy := n.isSome } }

/-- An error response to an access of the spill region: the spilled frame is discarded as passed over
(R287). While it is the next frame, its store is released. -/
def State.passSpilled (s : State) (n : Nat) : State :=
  if s.copying n then (s.passOver n).releaseNext
  else
    let s1 := (s.keepSpill s.nextStore.number).passOver n
    { s1 with ingress := { s1.ingress with spillFrame := none } }

/-- A tile of a spilled frame finds no room: it is counted, and the frame has lost it (R50). -/
def State.spillFull (s : State) (n : Nat) : State :=
  let s1 := { s with ingress := { s.ingress with spillLost := n :: s.ingress.spillLost.filter (· != n) } }
  (if s.copying n then s1.putNext { s1.nextStore with lost := true } else s1).inc 0x3002 0x11

/-- Writes a parcel of frame `n` whole into the spill region on the next 64-byte boundary (R50), through
port 1 of the DDR5 controller (R283). -/
def State.spillParcel (s : State) (n : Nat) (bs : Bytes) : State :=
  let kind := field bs 1 1
  let len := 28 + field bs 16 4
  let off := cdiv s.ingress.spillUsed 64 * 64
  if (kind = 2 ∨ kind = 3) ∧ s.spillHas n kind = true then s.inc 0x3002 0x08
  else if kind = 1 ∧ spillSize - spillTail < off + len then s.spillFull n
  else
    match s.dramWrite 1 (s.v 0x3000 0x07 + off) (bs.take len) with
    | (true, s1) =>
      { s1 with ingress := { s1.ingress with
          spill := s1.ingress.spill ++ [{ frame := n, off := off, len := len, kind := kind }],
          spillUsed := off + len } }
    | (false, s1) => s1.passSpilled n

/-- A spilled parcel is read back through port 2 and filed (R47, R49); whether its read was served. -/
def State.copySpilled (x : Bool × State) (r : Spilled) : Bool × State :=
  match x.2.dramRead 2 (x.2.v 0x3000 0x07 + r.off) r.len with
  | (none, s1) => (false, s1)
  | (some bs, s1) =>
    (x.1, if bodyCheckOk bs then s1.fileParcel .next bs else s1.inc 0x3002 0x02)

/-- SPILL_COPY_DONE: the next frame's parcels in spill are in the store, in arrival order, and leave
spill (R49). After an error response the frame is discarded as passed over and the store is released
(R287). Without a copy under way there is nothing to end. -/
def State.doSpillCopyDone (s : State) : State :=
  match s.nextStore.number with
  | none => s
  | some n =>
    if s.ingress.spillCopy then
      match (s.ingress.spill.filter fun r => r.frame == n).foldl State.copySpilled (true, s) with
      | (true, s1) =>
        let s2 := s1.keepSpill s.ingress.spillFrame
        { s2 with ingress := { s2.ingress with spillCopy := false } }
      | (false, s1) => s1.passSpilled n
    else s

/-! ### Streamed frames (R48, R49, R56) -/

/-- A frame number is later than every frame admitted or passed over (R49). -/
def State.afterCutoff (s : State) (n : Nat) : Bool :=
  match s.ingress.cutoff with
  | none => true
  | some c => later n c

/-- Files a parcel of kind 1, 2 or 3 without the cue load flag (R48, R56). A parcel of the next frame that
arrives during its copy is appended to spill whatever 3000.06 reads (R49; DESIGN CHOICE, log entry 85). -/
def State.fileStreamed (s : State) (n : Nat) (bs : Bytes) : State :=
  if s.ingress.replay.isSome then s.inc 0x3002 0x0F
  else
    match s.nextStore.number with
    | none =>
      if s.afterCutoff n then
        (s.putNext { s.nextStore with number := some n }).fileParcel .next bs
      else s.inc 0x3002 0x06
    | some next =>
      if n = next then if s.ingress.spillCopy then s.spillParcel n bs else s.fileParcel .next bs
      else if later n next then
        if !(s.afterCutoff n) then s.inc 0x3002 0x06
        else if s.b 0x3000 0x06 && s.dramUp &&
            (s.ingress.spillFrame == none || s.ingress.spillFrame == some n) then
          ({ s with ingress := { s.ingress with spillFrame := some n } }).spillParcel n bs
        else s.inc 0x3002 0x07
      else s.inc 0x3002 0x06

/-! ### Cues (R54, R55) -/

/-- A cue lies in the range of a trigger (R54). -/
def Trigger.covers (g : Trigger) (cue : Nat) : Bool := decide ((cue + 65536 - g.first) % 65536 < g.count)

/-- A cue is in use by the active replay or by a trigger that waits to replace it (R54). -/
def State.cueInUse (s : State) (cue : Nat) : Bool :=
  match s.ingress.replay with
  | none => false
  | some r => r.trig.covers cue ||
    (match s.ingress.trigger with
      | none => false
      | some g => g.covers cue)

/-- A cue is empty from here on, and gives its pages back (R54). -/
def State.emptyCue (s : State) (cue : Nat) : State :=
  (({ s with ingress := { s.ingress with
      cues := tdel cue s.ingress.cues, pages := tdel cue s.ingress.pages,
      freePages := s.ingress.freePages ++ tget [] cue s.ingress.pages } }).pute
    0x3500 cue 0x01 0).pute 0x3500 cue 0x02 0

/-- A cue takes `n` more pages of 64 KiB: pages that were given back, then pages never taken (R54). -/
def State.takePages (s : State) (cue n : Nat) : List Nat × State :=
  let old := s.ingress.freePages.take n
  let got := old ++ (List.range (n - old.length)).map (s.ingress.nextPage + ·)
  (got, { s with ingress := { s.ingress with
    pages := tput cue (tget [] cue s.ingress.pages ++ got) s.ingress.pages,
    freePages := s.ingress.freePages.drop n,
    nextPage := s.ingress.nextPage + (n - old.length) } })

/-- Why an access to pages of the cue region gets an error response, and where (R287). -/
def State.pageFault (s : State) (pages : List Nat) : Option (Nat × Nat) :=
  pages.findSome? fun p =>
    let a := s.v 0x3000 0x08 + 65536 * p
    let k := s.dramFault a 65536
    if k = 0 then none else some (k, a)

/-- Files a parcel with the cue load flag (R54). -/
def State.fileCue (s : State) (cue : Nat) (bs : Bytes) : State :=
  if s.cueInUse cue then s.inc 0x3002 0x0F
  else
    let s1 := if s.ve 0x3500 cue 0x01 = 1 then s else (s.emptyCue cue).pute 0x3500 cue 0x01 1
    let s2 := s1.fileParcel (.cue cue) bs
    let more := cdiv (s2.frameAt (.cue cue)).bytes 65536 - (tget [] cue s2.ingress.pages).length
    let (got, s3) := s2.takePages cue more
    if s.v 0x3000 0x09 = 0 ∨ got.any (fun p => decide (s.v 0x3000 0x09 / 65536 ≤ p)) then
      (s1.pute 0x3500 cue 0x01 3).inc 0x3002 0x0F
    else match s1.pageFault got with
      | some x => (s1.pute 0x3500 cue 0x01 3).errorResponse 1 x.1 x.2
      | none => s3.pute 0x3500 cue 0x02 (s2.frameAt (.cue cue)).bytes

/-- Files a kept parcel of kind 1, 2 or 3 (R48, R54). -/
def State.fileKept (s : State) (bs : Bytes) : State :=
  let h := parcelHdr bs
  if h.cueLoad then s.fileCue (h.frame % 65536) bs else s.fileStreamed h.frame bs

/-- The judgement of R42 on a kept parcel: header fields, body check, body fields; then it is filed
by `act`. Each parcel that fails is counted once. -/
def State.judged (s : State) (bs : Bytes) (bodyOk : Bool) (act : State → State) : State :=
  if !(hdrFieldsOk (parcelHdr bs)) then s.inc 0x3002 0x01
  else if !(bodyCheckOk bs) then s.inc 0x3002 0x02
  else if !bodyOk then s.inc 0x3002 0x01
  else act s

/-! ### Relay (R43 to R45) -/

/-- A mesh port's link is up (3010[p].01). -/
def State.portUp (s : State) (p : Nat) : Bool := s.ve 0x3010 p 0x01 == 1

/-- What the relay decision answers (R44): keep, output ports, and the counter of 3002 that a
parcel without output counts in (0 = none). -/
structure RelayDecision where
  keep : Bool
  outs : List Nat
  counter : Nat
  deriving DecidableEq, Repr

/-- The relay decision of R44 from the common header. -/
def State.relayDecision (s : State) (port : Nat) (h : ParcelHdr) : RelayDecision :=
  let x := s.v 0x3000 0x02
  let y := s.v 0x3000 0x03
  let keep :=
    if h.rect then decide (h.x0 ≤ x ∧ x ≤ h.x1 ∧ h.y0 ≤ y ∧ y ≤ h.y1)
    else decide (h.x0 = x ∧ h.y0 = y)
  let e := 256 * h.y0 + h.x0
  let pri := s.ve 0x3300 e 0x01
  let alt := s.ve 0x3300 e 0x02
  let unroutable := !h.rect && !keep && !s.portUp pri && !s.portUp alt
  let outs :=
    if h.rect then
      (List.range 8).filter fun p =>
        (s.ve 0x3400 (h.tree * 8 + port) 0x01).testBit p && p != port && s.portUp p
    else if keep then []
    else if s.portUp pri then [pri]
    else if s.portUp alt then [alt]
    else []
  if unroutable then { keep := keep, outs := [], counter := 3 }
  else if outs ≠ [] ∧ h.hop = 0 then { keep := keep, outs := [], counter := 4 }
  else { keep := keep, outs := outs, counter := 0 }

/-- Charge of a parcel in a relay buffer (R45). -/
def ParcelHdr.charge (h : ParcelHdr) : Nat := h.blocks * 64

/-- Bytes charged in a port's relay buffer. -/
def State.relayCharge (s : State) (out : Nat) : Nat :=
  s.ingress.waiting.foldl (fun a w => if w.out = out then a + w.charge else a) 0

/-- The block payloads of a parcel as it leaves: the first carries the header with one hop less. -/
def relayBlocks (hdr : Bytes) (blocks : List Bytes) : List Bytes :=
  match blocks with
  | [] => []
  | b :: r => (hdr ++ b.drop 24) :: r

/-- A relayed parcel starts on an idle port with the blocks that have arrived (R45). -/
def State.startRelay (s : State) (out : Nat) (hdr : Bytes) (blocks : List Bytes) : State :=
  let s1 := (({ s with ingress := { s.ingress with busy := out :: s.ingress.busy } }).ince
    0x3010 out 0x03).emit (.meshParcel out hdr)
  match relayBlocks hdr blocks with
  | [] => s1
  | b :: r => r.foldl (fun st x => st.sendBlock (meshLane out) 1 x []) (s1.sendBlock (meshLane out) 2 b [])

/-- A parcel waits in the relay buffer of a port, or is dropped for lack of space (R45). -/
def State.relayWaits (s : State) (src out : Nat) (hdr : Bytes) (blocks : List Bytes) : State :=
  let h := parcelHdr hdr
  if s.relayCharge out + h.charge ≤ 131072 then
    { s with ingress := { s.ingress with waiting := s.ingress.waiting ++
        [({ out := out, src := src, kind := h.kind, charge := h.charge, hdr := hdr,
            blocks := blocks } : Waiting)] } }
  else (s.inc 0x3002 0x05).ince 0x3010 out 0x04

/-- The transmit direction of a port sleeps (R263). -/
def State.portAsleep (s : State) (out : Nat) : Bool := s.ve 0x7003 out 0x09 == 1

/-- A relayed parcel starts, waits, or is dropped on one output port (R45). A parcel for a sleeping
port wakes it and waits until it is idle again (R263). -/
def State.relayOn (src : Nat) (hdr : Bytes) (blocks : List Bytes) (s : State) (out : Nat) : State :=
  if out ∈ s.ingress.busy then s.relayWaits src out hdr blocks
  else if s.portAsleep out then
    (({ s with ingress := { s.ingress with busy := out :: s.ingress.busy } }).wakePort out).relayWaits
      src out hdr blocks
  else s.startRelay out hdr blocks

/-- The parcel under way on an inbound port. -/
def State.inbound? (s : State) (port : Nat) : Option Inbound :=
  s.ingress.inbound.find? fun i => i.port == port

/-- Block payloads of a parcel that have arrived. -/
def Inbound.got (i : Inbound) : Nat := (parcelHdr i.hdr).blocks - i.left

/-- The output ports on which a parcel was being relayed become idle unless a parcel waits for them
(R45). -/
def State.freeOuts (s : State) (outs : List Nat) : State :=
  let stays := fun o => s.ingress.waiting.any fun w => w.out == o
  { s with ingress := { s.ingress with
      busy := s.ingress.busy.filter fun o => !(outs.contains o) || stays o } }

/-- The parcel under way on an inbound port is gone, and the ports that relayed it are free. -/
def State.endInbound (s : State) (port : Nat) : State :=
  match s.inbound? port with
  | none => s
  | some i =>
    ({ s with ingress := { s.ingress with
        inbound := s.ingress.inbound.filter (fun j => j.port != port) } }).freeOuts i.outs

/-- The last block of a parcel has arrived: the ports that relayed it are free; a kept parcel stays until
it is judged (R42, R45). -/
def State.wholeInbound (s : State) (port : Nat) : State :=
  match s.inbound? port with
  | none => s
  | some i =>
    if i.hdr = [] ∨ i.left ≠ 0 then s
    else if i.keep then
      ({ s with ingress := { s.ingress with inbound := s.ingress.inbound.map fun (j : Inbound) =>
          if j.port = port then { j with outs := [] } else j } }).freeOuts i.outs
    else s.endInbound port

/-- The output ports on which a parcel starts at once: those of `outs` that are idle and awake. -/
def State.startsOn (s : State) (outs : List Nat) : List Nat :=
  outs.filter fun o => !(s.ingress.busy.contains o) && !(s.portAsleep o)

/-- PARCEL_HEADER_ARRIVES: the header check, the wall ID and the relay decision (R43 to R45). A
parcel of another version or of an unknown kind is relayed, and not kept; it is counted where the address
rule alone would keep it (R44; DESIGN CHOICE, log entry 86). While a master holds the gate of the parcel
ingress closed nothing is kept (R308). Where the parcel's blocks are followed one
by one, its first block may have arrived already. -/
def State.doParcelHeader (s : State) (port : Nat) (hdr : Bytes) : State :=
  let h := parcelHdr hdr
  let begun := (s.inbound? port).filter fun i => i.hdr == []
  let left := match begun with
    | some i => i.left
    | none => h.blocks
  let blocks := match begun with
    | some i => [i.first]
    | none => []
  let s1 := (s.endInbound port).ince 0x3010 port 0x02
  let add := fun (st : State) (keep refused : Bool) (outs : List Nat) =>
    ({ st with ingress := { st.ingress with inbound :=
        { port := port, hdr := hdr, keep := keep, refused := refused, outs := outs, left := left,
          first := [] } :: st.ingress.inbound } }).wholeInbound port
  if !(hdrCheckOk hdr) || h.wall != s.v 0x3000 0x01 then add (s1.inc 0x3002 0x01) false true []
  else
    let d0 := s1.relayDecision port h
    let d := { d0 with keep := d0.keep && s1.ve 0x2030 0x373 0x02 != 0 }
    let known := h.version == 1 && decide (1 ≤ h.kind ∧ h.kind ≤ 5)
    let s2 := if d.counter = 0 then s1 else s1.inc 0x3002 d.counter
    let s3 := if d.keep && !known then s2.inc 0x3002 0x01 else s2
    let s4 := d.outs.foldl (State.relayOn port (relayHdr hdr) blocks) s3
    add s4 (d.keep && known) (d.keep && !known) (s3.startsOn d.outs)

/-- RELAY_PARCEL_START: the port is free and awake; the next waiting parcel starts on it, kinds 2, 3 and 4
first, and its charge is released. An unknown kind stands with kinds 1 and 5 (R45; DESIGN CHOICE, log
entry 86). With nothing waiting the port is idle from here on. -/
def State.doRelayStart (s : State) (port : Nat) : State :=
  let s1 := ({ s with ingress := { s.ingress with busy := s.ingress.busy.filter (· != port) } }).pute
    0x7003 port 0x09 (if s.ingress.busy.contains port then 0 else s.ve 0x7003 port 0x09)
  let w := s.ingress.waiting.filter fun w => w.out == port
  let first := (w.filter fun w => decide (2 ≤ w.kind ∧ w.kind ≤ 4)) ++
    (w.filter fun w => !(decide (2 ≤ w.kind ∧ w.kind ≤ 4)))
  match first with
  | [] => s1
  | x :: _ =>
    let joins := fun (i : Inbound) =>
      i.port == x.src && relayHdr i.hdr == x.hdr && i.left != 0 && x.blocks.length == i.got
    ({ s1 with ingress := { s1.ingress with
        waiting := s1.ingress.waiting.erase x,
        inbound := s1.ingress.inbound.map fun (i : Inbound) =>
          if joins i then { i with outs := port :: i.outs } else i } }).startRelay port x.hdr x.blocks

/-- A block payload of the parcel under way on a port goes on: to the ports that relay it, the first one
with the relayed header, and to the relay buffers in which the parcel waits; with its last block the
parcel is whole (R36, R45). -/
def State.passBlock (port : Nat) (s : State) (payload : Bytes) : State :=
  match s.inbound? port with
  | none => s
  | some i =>
    let hdr := relayHdr i.hdr
    let s1 := i.outs.foldl (fun st o =>
      if i.got = 0 then st.sendBlock (meshLane o) 2 (hdr ++ payload.drop 24) []
      else st.sendBlock (meshLane o) 1 payload []) s
    let more := fun (w : Waiting) =>
      if w.src = port ∧ w.hdr = hdr ∧ w.blocks.length = i.got then
        { w with blocks := w.blocks ++ [payload] }
      else w
    let s2 := { s1 with ingress := { s1.ingress with
      waiting := s1.ingress.waiting.map more,
      inbound := s1.ingress.inbound.map fun (j : Inbound) =>
        if j.port = port then { j with left := j.left - 1 } else j } }
    s2.wholeInbound port

/-- A data block that arrives in order is the next block payload of the parcel under way, whose header has
been decided on with its first block; a data block without a parcel start, or beyond the parcel's length,
belongs to none (R36). -/
def State.parcelBlock (s : State) (port : Nat) (payload : Bytes) : State :=
  match s.inbound? port with
  | none => s
  | some i =>
    if i.hdr = [] ∨ i.left = 0 ∨ i.got = 0 then s else s.passBlock port payload

/-- A parcel that is being relayed on a port is ended there with a parcel abort block (R246). -/
def State.sendAbort (s : State) (out : Nat) : State := s.sendBlock (meshLane out) 4 (zeros 64) []

/-- A mesh port goes down: every parcel that waits for it is discarded and counted (R45), and a
parcel that is being relayed on it is ended (R246). -/
def State.relayPortDown (s : State) (port : Nat) : State :=
  let n := (s.ingress.waiting.filter fun w => w.out == port).length
  let s0 := if s.ingress.inbound.any fun i => i.outs.contains port then s.sendAbort port else s
  let s1 := { s0 with ingress := { s0.ingress with
      waiting := s0.ingress.waiting.filter (fun w => w.out != port),
      busy := s0.ingress.busy.filter (· != port),
      inbound := s0.ingress.inbound.map fun (i : Inbound) => { i with outs := i.outs.filter (· != port) } } }
  (s1.add 0x3002 0x05 n).adde 0x3010 port 0x04 n

/-- The inbound copy of a parcel ends before it is whole: each port that relays it ends it with an abort
block, and a copy that waits to start is gone (R246). -/
def State.abortInbound (s : State) (port : Nat) : State :=
  match s.inbound? port with
  | none => s
  | some i =>
    let stays := fun (w : Waiting) =>
      !(w.src == port && w.hdr == relayHdr i.hdr && decide (w.blocks.length < (parcelHdr w.hdr).blocks))
    let s1 := i.outs.foldl State.sendAbort s
    ({ s1 with ingress := { s1.ingress with waiting := s1.ingress.waiting.filter stays } }).endInbound port

/-- The partial parcel of a port is discarded and counted in 3002.02, unless it has been counted already
(R42, R246). A parcel that is whole is no partial one. -/
def State.dropPartial (s : State) (p : Nat) : State :=
  match s.inbound? p with
  | none => s
  | some i =>
    if i.left = 0 then s.endInbound p
    else if i.refused then s.abortInbound p
    else (s.abortInbound p).inc 0x3002 0x02

/-- A parcel start block begins a parcel (R36, R246); where its header has been decided on already, it is
the parcel's first block payload. -/
def State.startParcel (s : State) (p : Nat) (payload : Bytes) : State :=
  let joins := match s.inbound? p with
    | none => false
    | some i => i.hdr == payload.take 24 && i.left != 0 && i.got == 0
  if joins then s.passBlock p payload
  else
    let s1 := s.dropPartial p
    { s1 with ingress := { s1.ingress with inbound :=
        ({ port := p, hdr := [], keep := false, refused := false, outs := [],
           left := (parcelHdr payload).blocks - 1, first := payload } : Inbound) ::
          s1.ingress.inbound } }

/-! ### Triggers and replays (R55, R56) -/

/-- The replay ends or a new one begins: what the replay members show. -/
def State.showReplay (s : State) (on : Bool) : State := s.put 0x3041 0x01 (if on then 1 else 0)

/-- The cue that a replay step shows (R55). -/
def Replay.cue (r : Replay) : Nat := (r.trig.first + r.step % r.trig.count) % 65536

/-- A replay step begins: the next store is released for its cue, whose copy begins (R55). -/
def State.startStep (s : State) (r : Replay) : State :=
  let s1 := s.leaveNext.putNext { Frame.empty with cue := some r.cue }
  { s1 with ingress := { s1.ingress with replay := some { r with copied := false, spoiled := false } } }

/-- A replay becomes active: a streamed frame in the next store is passed over and counted, spill is
discarded, and step 0 begins (R55). -/
def State.activateReplay (s : State) (g : Trigger) : State :=
  let s1 := match s.nextStore.number with
    | none => s
    | some n => s.passOver n
  let s2 := (s1.dropSpill.showReplay true).put 0x3041 0x03 0
  ({ s2 with ingress := { s2.ingress with trigger := none } }).startStep
    { trig := g, step := 0, copied := false, ending := false, spoiled := false }

/-- The replay ends: the next frame is assigned as though the store had just been released, and a
spilled frame is discarded (R56). -/
def State.endReplay (s : State) : State :=
  let s1 := (s.dropSpill.releaseNext).showReplay false
  { s1 with ingress := { s1.ingress with replay := none } }

/-- Wall time at a root cycle in units of 2^-16 ns reaches a TIME code. -/
def State.wallReaches (s : State) (t code : Nat) : Bool :=
  match s.wallAt? t with
  | none => false
  | some w => decide (unitsOfTime code ≤ w)

/-- The frame boundary whose latch point comes next: the coming nut mark, or the one after it when
its latch point has passed (R133). -/
def State.comingBoundary (s : State) : Nat :=
  let m := s.figures
  let nut := s.seq.nextNut.getD (s.seq.frameStart + m.frame)
  let latched := s.seq.lastLatch ≠ 0 ∧ s.seq.frameStart < s.seq.lastLatch
  if latched then nut + m.frame else nut

/-- A cue trigger arrives (R55): a count of 0 ends the replay after the coming latch point and
withdraws a waiting trigger; during a replay a trigger waits for the next release; otherwise it
becomes active at once when the latch point one frame before that of step 0 has passed, and waits
for that latch point when it has not. A trigger that waits already gives way to the new one (DESIGN
CHOICE, log entry 87). -/
def State.takeTrigger (s : State) (g : Trigger) : State :=
  if g.count = 0 then
    { s with ingress := { s.ingress with
        trigger := none, replay := s.ingress.replay.map fun (r : Replay) => { r with ending := true } } }
  else if s.ingress.replay.isSome then
    { s with ingress := { s.ingress with trigger := some g } }
  else if s.seq.running && s.wallReaches s.comingBoundary g.start then s.activateReplay g
  else { s with ingress := { s.ingress with trigger := some g } }

/-- CUE_COPY_DONE: the copy of the step's cue is in the next store (R55). Only a complete cue is
copied; after an error response on port 2 the copy is not finished (R287); without a copy under way
there is nothing to end. -/
def State.doCueCopyDone (s : State) : State :=
  match s.ingress.replay with
  | none => s
  | some r =>
    if r.copied ∨ r.spoiled then s
    else match s.pageFault (tget [] r.cue s.ingress.pages) with
      | some x =>
        let s1 := s.errorResponse 2 x.1 x.2
        { s1 with ingress := { s1.ingress with replay := some { r with spoiled := true } } }
      | none =>
        let s1 := if s.ve 0x3500 r.cue 0x01 = 2 then
            s.putNext { s.frameAt (.cue r.cue) with cue := some r.cue, number := none }
          else s
        { s1 with ingress := { s1.ingress with replay := some { r with copied := true } } }

/-- The trigger held in 3040.01 to 3040.04 (R55). -/
def State.heldTrigger (s : State) : Trigger :=
  { start := s.v 0x3040 0x01, first := s.v 0x3040 0x02, count := s.v 0x3040 0x03,
    loops := s.v 0x3040 0x04 }

/-! ### Layer data (R41, R90) -/

/-- The body of a layer data parcel fits its buffer and its fields are good (R41, R42). -/
def State.layerFieldsOk (s : State) (body : Bytes) : Bool :=
  decide (field body 0 1 ≤ 63) && field body 1 3 == 0 &&
  decide (field body 4 4 + (body.length - 8) ≤ s.ve 0x3020 (field body 0 1) 0x02)

/-- Writes layer data to its buffer and records the frame number (R41) and the bytes written with
that number (R90). -/
def State.writeLayer (s : State) (frame : Nat) (body : Bytes) : State :=
  let n := field body 0 1
  let len := body.length - 8
  match s.dramWrite 1 (s.ve 0x3020 n 0x01 + field body 4 4) (body.drop 8) with
  | (false, s1) => s1
  | (true, s1) =>
    let before := if s1.ve 0x3020 n 0x03 = frame then s1.ve 0x4030 n 0x01 else 0
    ((s1.pute 0x3020 n 0x03 frame).pute 0x4030 n 0x01 before).adde 0x4030 n 0x01 len

/-! ### Meanings -/

/-- PARCEL_HEADER_ARRIVES (R43, R44, R45). -/
def execParcelHeaderArrives (t port : Nat) (hdr : Bytes) (s : State) : Result :=
  guarded (decide (port < 8)) ((s.enter t).doParcelHeader port hdr)

/-- RELAY_PARCEL_START (R45). -/
def execRelayParcelStart (t port : Nat) (s : State) : Result :=
  guarded (decide (port < 8)) ((s.enter t).doRelayStart port)

/-- The block payloads of a parcel (R36). -/
def parcelBlocks (bs : Bytes) : List Bytes :=
  (List.range (parcelHdr bs).blocks).map fun i =>
    let b := slice bs (64 * i) 64
    b ++ zeros (64 - b.length)

/-- A whole parcel has arrived on a port: its header is decided on where it has not been (R43, R44), and
the blocks that have not passed go on to the ports that relay it. Answers whether the tile keeps it. -/
def State.parcelArrives (s : State) (port : Nat) (bs : Bytes) : Bool × State :=
  let known := fun (st : State) => (st.inbound? port).filter fun i => i.hdr == bs.take 24
  let begun := (s.inbound? port).any fun i => i.hdr == []
  let s1 := if (known s).isSome then s
    else (if begun then s else s.dropPartial port).doParcelHeader port (bs.take 24)
  match known s1 with
  | none => (false, s1)
  | some i => (i.keep, ((parcelBlocks bs).drop i.got).foldl (State.passBlock port) s1 |>.endInbound port)

/-- A whole parcel of the command's kind: the tile judges it where the relay decision keeps it (R42 to
R44). A parcel of another kind is not the command's. -/
def State.wholeParcel (s : State) (port kind : Nat) (bs : Bytes) (act : State → State) : State :=
  let x := s.parcelArrives port bs
  if x.1 && field bs 1 1 == kind then act x.2 else x.2

/-- TILE (R37, R42, R46 to R51, R54). -/
def execTile (t port : Nat) (parcel : Bytes) (s : State) : Result :=
  guarded (decide (port < 8)) ((s.enter t).wholeParcel port 1 parcel fun st =>
    st.judged parcel (tileFieldsOk st.mode (parcelBody parcel)) fun u => u.fileKept parcel)

/-- FRAME_HEADER (R38, R42, R47 to R51, R54). -/
def execFrameHeader (t port : Nat) (parcel : Bytes) (s : State) : Result :=
  guarded (decide (port < 8)) ((s.enter t).wholeParcel port 2 parcel fun st =>
    st.judged parcel (headerFieldsOk (parcelHdr parcel).cueLoad (parcelBody parcel)) fun u =>
      u.fileKept parcel)

/-- FRAME_CLOSE (R39, R42, R47 to R51, R54). -/
def execFrameClose (t port : Nat) (parcel : Bytes) (s : State) : Result :=
  guarded (decide (port < 8)) ((s.enter t).wholeParcel port 3 parcel fun st =>
    st.judged parcel (closeFieldsOk (parcelHdr parcel) (parcelBody parcel)) fun u =>
      u.fileKept parcel)

/-- CUE_TRIGGER (R40, R55). -/
def execCueTrigger (t port : Nat) (parcel : Bytes) (s : State) : Result :=
  guarded (decide (port < 8)) ((s.enter t).wholeParcel port 4 parcel fun st =>
    st.judged parcel (triggerFieldsOk (parcelBody parcel)) fun u =>
      u.takeTrigger (triggerOf (parcelBody parcel)))

/-- LAYER_DATA (R41). -/
def execLayerData (t port : Nat) (parcel : Bytes) (s : State) : Result :=
  guarded (decide (port < 8)) ((s.enter t).wholeParcel port 5 parcel fun st =>
    st.judged parcel (st.layerFieldsOk (parcelBody parcel)) fun u =>
      u.writeLayer (field parcel 12 4) (parcelBody parcel))

/-- SPILL_COPY_DONE (R49). -/
def execSpillCopyDone (t : Nat) (s : State) : Result := .next (s.enter t).doSpillCopyDone

/-- CUE_COPY_DONE (R55). -/
def execCueCopyDone (t : Nat) (s : State) : Result := .next (s.enter t).doCueCopyDone

end Sys2Proof.Machine
end

