-- ==== Sys2Proof/Machine/Resources.lean ====
section
/-!
DEFINITION. Units that can be fenced: ray engines and decode lanes with their spares (R66, R72, R116,
R117), stage-store banks (R265 to R269), the fit calculation (R109, R110), the reduction factor
(R401, R402) and the loss of the display floor while display runs (R397).
-/

namespace Sys2Proof.Machine

/-! ### Unit gates (R304, R308) -/

/-- First elements of 2030 of each kind of unit (R304). -/
def gateEngine : Nat := 0
def gateDlane : Nat := 0x88
def gateClane : Nat := 0x198
def gateBank : Nat := 0x1A8
def gateLane : Nat := 0x2A8
def gateChannel : Nat := 0x368
def gateEth : Nat := 0x36C
def gateComp : Nat := 0x36E
def gateScan : Nat := 0x36F

/-- A unit's gate is not closed: a closed unit is unavailable (R308). -/
def State.gateOpen? (s : State) (element : Nat) : Bool := s.ve 0x2030 element 0x02 != 0

/-! ### Pools of ray engines and decode lanes -/

/-- A pool of units with an active role: object, number of units, greatest number of active ones,
first unit gate. -/
structure Pool where
  object : Nat
  units : Nat
  cap : Nat
  gate : Nat

/-- Decode lanes (R66) and ray engines (R116). -/
def dlanes : Pool := { object := 0x3810, units := 272, cap := 256, gate := gateDlane }
def engines : Pool := { object := 0x4810, units := 136, cap := 128, gate := gateEngine }

/-- Units of a pool in a state: 0 active, 1 spare, 2 fenced, 3 returned. -/
def State.inState (s : State) (p : Pool) (st : Nat) : List Nat :=
  (List.range p.units).filter fun n => s.ve p.object n 0x01 == st

/-- Active decode lanes m, and active engines e. -/
def State.lanesActive (s : State) : Nat := (s.inState dlanes 0).length
def State.enginesActive (s : State) : Nat := (s.inState engines 0).length

/-- The lowest-numbered spares take free active roles (R72, R116); a closed spare takes none (R308). -/
def State.promote (s : State) (p : Pool) : State :=
  let free := p.cap - (s.inState p 0).length
  let spares := ((s.inState p 1).filter fun n => s.gateOpen? (p.gate + n)).take free
  spares.foldl (fun st n => st.pute p.object n 0x01 0) s

/-! ### The fit calculation (R109, R110) -/

/-- The write slots of one codec cycle (R68): every lane with output ready takes one of the 256
writes; the rest go, one each, to lanes with output still ready from the round-robin position on.
Entries are words that a lane still has to write; 0 is an idle lane. Answers the lanes from the new
round-robin position on. -/
def writeCycle (lanes : List Nat) : List Nat :=
  let busy := (lanes.filter (0 < ·)).length
  let after := lanes.map (· - 1)
  let rec second : Nat → List Nat → List Nat → List Nat
    | _, [], done => done.reverse
    | 0, rest, done => rest ++ done.reverse
    | k + 1, x :: rest, done =>
      if 0 < x then second k rest ((x - 1) :: done) else second (k + 1) rest (x :: done)
  second (256 - busy) after []

/-- Codec cycles until `waiting` further tiles of 8 192 words and the tiles on the lanes are done. -/
def laneCycles : Nat → List Nat → Nat → Nat
  | 0, _, _ => 0
  | fuel + 1, lanes, waiting =>
    let idle := (lanes.filter (· == 0)).length
    let start := min idle waiting
    let rec load : Nat → List Nat → List Nat
      | _, [] => []
      | k, x :: r => if x = 0 ∧ 0 < k then 8192 :: load (k - 1) r else x :: load k r
    let l1 := load start lanes
    if l1.all (· == 0) then 0 else laneCycles fuel (writeCycle l1) (waiting - start) + 1

/-- Codec cycles that R68 gives for a band of `k` tiles of 32 768 bytes with `m` active lanes, from
round-robin position 0. With at most 128 lanes, or with all tiles on the lanes at once, the rate of
R68 gives them outright. -/
def bandCycles (m k : Nat) : Nat :=
  if m = 0 then 0
  else if m ≤ 128 then cdiv k m * 4096
  else if k ≤ m then max 4096 (32 * k)
  else if m = 256 then 8192 + max 4096 (32 * (k - 256))
  else laneCycles (k * 8192) (List.replicate m 0) k

/-- The predicted finish of R110 for S sub-views and a plane cap, with the RAY ratio x, e engines and
m lanes. -/
def Mode.finish (md : Mode) (sv pc x e m : Nat) : Nat :=
  let d := bandCycles m (min 384 (pc * md.cols)) * 4
  let step := fun (a : Nat × Nat × Nat) (b : Nat) =>
    let dec := max a.1 a.2.2 + d
    let syn := max dec a.2.1 + cdiv (md.tileH b * cdiv (md.h * sv) 16) e * pc * x
    (dec, syn, a.2.1)
  ((List.range md.bands).foldl step (0, 0, 0)).2.1

/-- fits(S, Pc) of R110; without an engine or a lane nothing fits. -/
def State.fits (s : State) (md : Mode) (window sv pc x e m : Nat) : Bool :=
  decide (0 < e ∧ 0 < m) && decide (md.finish sv pc x e m + s.v 0x4800 0x05 ≤ window)

/-! ### The reduction factor (R402) and the floor (R397) -/

/-- The smallest factor of a mode slot that fits, or the largest that exists (R402). -/
def State.reductionOf (s : State) (slot : Nat) : Nat :=
  let base := s.modeSlot slot
  let exist := [1, 2, 4].filter base.hasDerived
  let ok := exist.filter fun k =>
    let md := base.derived k
    s.fits md md.window1 1 (min (s.v 0x1891 0x02) (md.pmax 1)) (s.ve 0x2010 6 0x02)
      s.enginesActive s.lanesActive
  match ok with
  | k :: _ => k
  | [] => exist.getLast?.getD 1

/-- h of the mode in force (R402). -/
def State.reduction (s : State) : Nat := s.reductionOf (s.v 0x5001 0x04)

/-- Recomputes h and shows it with the derived figures in 1891.04 to 1891.08 (R402). -/
def State.recomputeReduction (s : State) : State :=
  let k := s.reduction
  let md := (s.modeSlot (s.v 0x5001 0x04)).derived k
  ((((s.put 0x1891 0x04 k).put 0x1891 0x05 md.f).put 0x1891 0x06 md.ls).put 0x1891 0x07 md.w).put
    0x1891 0x08 md.gap

/-- Active engines or lanes fall below the floor while display runs: the bits of 1891.01 are set; with
none left display stops at the next nut mark (R397). The bits follow the order of R399's display
row: 3 ray engines, 4 decode lanes. -/
def State.judgeUnits (s : State) : State :=
  let e := s.enginesActive
  let m := s.lanesActive
  let s1 := (s.putBit 0x1891 0x01 3 (decide (e < 32))).putBit 0x1891 0x01 4 (decide (m < 64))
  if e = 0 ∨ m = 0 then s1.requestStop else s1

/-- What the active and spare units of both pools show (R66, R68, R116). -/
def State.showUnits (s : State) : State :=
  let m := s.lanesActive
  let sp := fun p => (s.inState p 1).length
  ((((((s.put 0x3801 0x01 m).put 0x3801 0x02 (sp dlanes)).put 0x3801 0x03 (min 1024 (8 * m))).put
    0x4801 0x04 s.enginesActive).put 0x4801 0x05 (sp engines)).recomputeReduction).judgeUnits

/-- A unit leaves service, and the lowest spare takes its role (R72, R116). -/
def State.fenceUnit (s : State) (p : Pool) (n : Nat) : State :=
  ((s.pute p.object n 0x01 2).promote p).showUnits

/-- A fenced unit is returned: it takes no role until its self-test (R72, R117). -/
def State.returnUnit (s : State) (p : Pool) (n : Nat) : State :=
  if s.ve p.object n 0x01 = 2 then (s.pute p.object n 0x01 3).showUnits else s

/-- The fence of a unit, set by its self-test, still waits (R72, R116). -/
def State.waitsFence (s : State) (p : Pool) (n : Nat) : Bool :=
  (if p.object = 0x3810 then s.codec.fenceDue else s.ray.fenceDue).contains n

/-- No fence of the unit waits from here on. -/
def State.dropFence (s : State) (p : Pool) (n : Nat) : State :=
  if p.object = 0x3810 then
    { s with codec := { s.codec with fenceDue := s.codec.fenceDue.filter (· != n) } }
  else { s with ray := { s.ray with fenceDue := s.ray.fenceDue.filter (· != n) } }

/-- A fence that still waits takes effect. -/
def State.settleFence (s : State) (p : Pool) (n : Nat) : State :=
  if s.waitsFence p n then (s.dropFence p n).fenceUnit p n else s

/-- The owner's act on the fenced member of a unit at its apply point (R72, R116): 1 fences; 0 returns,
after a fence of the self-test that still waits. -/
def State.ownFence (s : State) (p : Pool) (n v : Nat) : State :=
  let s1 := s.putKept p.object n 0x02 v
  if v = 1 then s1.fenceUnit p n else (s1.settleFence p n).returnUnit p n

/-- A unit's self-test passes: its run of failures ends; a returned unit becomes a spare, which takes
a free active role. -/
def State.testPassed (s : State) (p : Pool) (n : Nat) : State :=
  if s.ve p.object n 0x01 = 3 then ((s.pute p.object n 0x01 1).promote p).showUnits else s

/-- The units that a self-test of a pool takes: active ones, spares and returned ones while the test
is enabled in a frame in which it runs; otherwise returned ones alone (R71, R72, R117). -/
def State.testTakes (s : State) (p : Pool) (full : Bool) (n : Nat) : Bool :=
  let st := s.ve p.object n 0x01
  st == 3 || (full && (st == 0 || st == 1))

/-! ### Stage-store banks (R265 to R269) -/

/-- Lines of 128 bytes in a bank. -/
def bankLines : Nat := 7168

/-- Region of a logical bank (R266): 0 and 1 fret output buffer copies, 2 and 3 compressed frame
stores, 4 and 5 band decode buffers, 6 working space; 7 none. -/
def regionOf (logical : Nat) : Nat :=
  if logical ≤ 60 then 0 else if logical ≤ 121 then 1 else if logical ≤ 163 then 2
  else if logical ≤ 205 then 3 else if logical ≤ 219 then 4 else if logical ≤ 233 then 5
  else if logical ≤ 251 then 6 else 7

/-- First logical bank of a region, and its banks (R266). -/
def regionBase (r : Nat) : Nat := [0, 61, 122, 164, 206, 220, 234].getD r 252
def regionBanks (r : Nat) : Nat := [61, 61, 42, 42, 14, 14, 18].getD r 1

/-- Byte offset within its region's copy of a word of a physical bank: lines rotate across the copy's
banks in ascending logical order (R266). -/
def State.stageOffset (s : State) (e : Ecc) : Nat :=
  let l := s.ve 0x7810 e.bank 0x03
  let r := regionOf l
  (e.line * regionBanks r + (l - regionBase r)) * 128 + e.word * 8

/-- The region that a word lies in. -/
def State.stageRegion (s : State) (e : Ecc) : Nat := regionOf (s.ve 0x7810 e.bank 0x03)

/-- Spare banks that may be taken: not closed (R308). -/
def State.spareBanks (s : State) : List Nat :=
  (List.range 256).filter fun b => s.ve 0x7810 b 0x01 == 1 && s.gateOpen? (gateBank + b)

/-- 7801.03 and bit 1 of 7801.04. -/
def State.showBanks (s : State) : State :=
  (s.put 0x7801 0x03 ((List.range 256).filter fun b => s.ve 0x7810 b 0x01 == 1).length).putBit
    0x7801 0x04 1 (s.memory.copies.any fun c => !c.ended)

/-- A bank in use is fenced (R268): the lowest-numbered spare takes its logical number and the copy
begins. Without a spare it stays in service, flagged and logged (R269). -/
def State.fenceBank (s : State) (b : Nat) : State :=
  match s.spareBanks with
  | [] =>
    (s.putBit 0x7801 0x04 0 true).log
      { dom := domUnit, idx := gateBank + b, level := 1, sev := 1, object := 0x7801, element := 0,
        member := 0x04, cause := 0, d1 := b, d2 := 0 }
  | sp :: _ =>
    let l := s.ve 0x7810 b 0x03
    let s1 := (((s.putKept 0x7810 b 0x02 1).pute 0x7810 b 0x01 3).pute 0x7810 sp 0x01 3).pute
      0x7810 sp 0x03 l
    ((({ s1 with memory := { s1.memory with
        copies := s1.memory.copies ++
          [({ src := b, dst := sp, logical := l, ended := false } : BankCopy)] } }).inc
      0x7802 0x03).recover domUnit (gateBank + b) 1).showBanks

/-- A spare bank that is fenced leaves service at once: it holds nothing. -/
def State.fenceSpareBank (s : State) (b : Nat) : State :=
  (((s.putKept 0x7810 b 0x02 1).pute 0x7810 b 0x01 2).inc 0x7802 0x03).showBanks

/-- The owner's act on 7810[b].02 at its apply point (R268, R269): 1 fences; 0 returns a bank that has
left service as a spare once it passes the test of R270, whose outcome is a free value. A spare to which
a bank is being copied is fenced once it serves. -/
def State.ownBank (s : State) (b v : Nat) : State :=
  let st := s.ve 0x7810 b 0x01
  if v = 1 then
    if st = 0 then s.fenceBank b
    else if st = 1 then s.fenceSpareBank b
    else if s.memory.copies.any fun c => c.dst == b then
      let s1 := s.putKept 0x7810 b 0x02 1
      { s1 with memory := { s1.memory with fenceDue := b :: s1.memory.fenceDue.filter (· != b) } }
    else s
  else if st = 2 then
    let (pass, s1) := s.draw 2
    if pass = 1 then ((s1.putKept 0x7810 b 0x02 0).pute 0x7810 b 0x01 1).showBanks else s1
  else s

/-- Ended copies take effect: the spare serves, and the fenced bank leaves service (R268). A spare that was to
be fenced meanwhile is fenced now. -/
def State.retireBanks (s : State) : State :=
  let done := s.memory.copies.filter fun c => c.ended
  let due := s.memory.fenceDue.filter fun b => done.any fun c => c.dst == b
  let s1 := { s with memory := { s.memory with
    copies := s.memory.copies.filter fun c => !c.ended,
    fenceDue := s.memory.fenceDue.filter fun b => !(due.contains b) } }
  let s2 := (done.foldl (fun st c =>
    ((((st.pute 0x7810 c.dst 0x01 0).pute 0x7810 c.src 0x01 2).pute 0x7810 c.src 0x03 255).recovered
      domUnit (gateBank + c.src))) s1).showBanks
  due.foldl State.fenceBank s2

/-- BANK_COPY_DONE: the oldest copy under way ends (R268); the spare serves from the next fret
boundary, or at once while there are no fret boundaries. -/
def State.endBankCopy (s : State) : State :=
  let rec mark : List BankCopy → List BankCopy
    | [] => []
    | c :: r => if c.ended then c :: mark r else ({ c with ended := true } : BankCopy) :: r
  let s1 := { s with memory := { s.memory with copies := mark s.memory.copies } }
  if s.seq.running then s1.showBanks else s1.retireBanks

/-- One ECC finding (R265, R268): counted; an uncorrectable one is logged with its bank and line; a
bank that meets an error limit within 1 s is fenced at once. -/
def State.eccFound (s : State) (e : Ecc) : State :=
  let recent := fun (l : List (Nat × Nat)) =>
    (l.filter fun x => x.1 == e.bank && decide (s.now < x.2 + secCycles)).length
  let inUse := s.ve 0x7810 e.bank 0x01 = 0
  if e.uncorrectable then
    let s1 := ((s.ince 0x7810 e.bank 0x05).inc 0x7802 0x02).log
      { dom := domUnit, idx := gateBank + e.bank, level := 0, sev := 1, object := 0x7802,
        element := 0, member := 0x02, cause := 0, d1 := e.bank, d2 := e.line }
    let s2 := { s1 with memory := { s1.memory with
      recentUE := (e.bank, s.now) :: s1.memory.recentUE.filter fun x =>
        decide (s.now < x.2 + secCycles) } }
    if 1 ≤ recent s.memory.recentUE ∧ inUse then s2.fenceBank e.bank else s2
  else
    let s1 := (s.ince 0x7810 e.bank 0x04).inc 0x7802 0x01
    let s2 := { s1 with memory := { s1.memory with
      recentCE := (e.bank, s.now) :: s1.memory.recentCE.filter fun x =>
        decide (s.now < x.2 + secCycles) } }
    if s.v 0x7800 0x08 ≤ recent s.memory.recentCE ∧ inUse then s2.fenceBank e.bank else s2

/-- All ECC findings of a command, in order. -/
def State.eccAll (s : State) (l : List Ecc) : State := l.foldl State.eccFound s

/-- Every finding names a bank, a line and a word that the stage store has. -/
def eccOk (l : List Ecc) : Bool :=
  l.all fun e => decide (e.bank < 256 ∧ e.line < bankLines ∧ e.word < 16)

end Sys2Proof.Machine
end

