-- ==== Sys2Proof/Machine/Lanes.lean ====
section
/-!
DEFINITION. Serial lanes and links (10_serial_lanes.md, R238 to R264): bring-up, acknowledgement and
replay, lane maps, ports up and down, sleep.
-/

namespace Sys2Proof.Machine

/-! ### Lanes entering service -/

/-- Bring-up of a lane begins (R253): the transmitter takes its preset (R256) and sends training blocks. A
lane whose gate is closed is unavailable (R308). -/
def State.beginBringUp (s : State) (lane : Nat) : State :=
  if s.gateOpen? (gateLane + lane) then
    let r := s.lane lane
    let p := s.ve 0x7010 lane 0x05
    ((((s.putLane lane { r with
      syncs := 0, inverse := false, sinceMarker := none, farStage := 0, markerNo := 0, markerAt := 0,
      ownPreset := 255, txPreset := if p < 8 then p else r.farPreset.getD 3, auto := decide (p = 8),
      markersSent := 0, fifo := [], txAsleep := false, rxAsleep := false, waking := false }).pute
      0x7010 lane 0x01 1).pute 0x7010 lane 0x03 0).pute 0x7010 lane 0x06 0).sendTraining lane
  else s

/-- A bring-up stage is reached (7010[n].03); the training blocks report it. -/
def State.reachStage (s : State) (lane stage : Nat) : State :=
  (s.pute 0x7010 lane 0x03 stage).sendTraining lane

/-- The far end numbers the lanes of a port in reverse (R254). -/
def State.reversed (s : State) (p : Nat) : Bool := (portLanes p).any fun l => (s.ve 0x7010 l 0x06).testBit 1

/-- The lanes that the last lane map names, in the far end's rank order (R245, R254, R258). -/
def State.rxOrder (s : State) (p : Nat) : List Nat :=
  let ls := bitLanes p (s.group (meshLane p)).rxMap
  if s.reversed p then ls.reverse else ls

/-- A lane's receiver has lock, or is asleep or waking and keeps its place (R262). -/
def State.receives (s : State) (lane : Nat) : Bool := s.laneServes lane || (s.lane lane).waking

/-- The receive lanes in service of a port: those named that have not lost lock. -/
def State.rxLanes (s : State) (p : Nat) : List Nat := (s.rxOrder p).filter s.receives

/-- 7003[p].07 shows the receive lanes in service. -/
def State.showRx (s : State) (p : Nat) : State :=
  s.pute 0x7003 p 0x07 ((s.rxLanes p).foldl (fun a l => a + 2 ^ ((l - 128) % 8)) 0)

/-- The device sends a lane map row on the lanes in service that stay in service and changes its transmit
mapping (R258); blocks from a replayed sequence on that are still held are sent again under it. -/
def State.sendLaneMap (s : State) (p w : Nat) : State :=
  let lane := meshLane p
  let q := (s.group lane).txSeq
  let s1 := ((s.txLanes p).filter fun l => w.testBit ((l - 128) % 8)).foldl
    (fun (st : State) l => st.putBlock l 11 q (beBytes 1 w ++ zeros 63)) (s.padRow lane q)
  let g := s1.group lane
  let s2 := (s1.putGroup lane { g with slot := 0, rows := g.rows + 1 }).pute 0x7003 p 0x06 w
  match g.replay with
  | none => s2
  | some r => s2.resendHeld lane (g.held.filter fun b => decide ((b.seq + 4096 - r) % 4096 < 2048))

/-- A port goes down (R259): a parcel that arrives on it or is relayed on it ends, what waits for it is
discarded. With `err` it is counted and logged. Every lane of the port then trains anew, so both
directions have no lane in service. -/
def State.portDown (s : State) (p : Nat) (err : Bool) : State :=
  let s0 := if err then
      ((s.inc 0x7002 0x09).log (domSpec domPort p 1 1 0x7002 0 0x09)).recover domPort p 1
    else s
  let s1 := ((s0.dropPartial p).relayPortDown p).putGroup (meshLane p) Group.reset
  ((((s1.pute 0x3010 p 0x01 0).pute 0x7003 p 0x05 0).pute 0x7003 p 0x06 0).pute 0x7003 p 0x07 0).pute
    0x7003 p 0x09 0

/-- An enabled port starts bring-up of every lane that is not out of service (R253, R259). -/
def State.portTrain (s : State) (p : Nat) : State :=
  if s.ve 0x7003 p 0x02 = 1 then
    ((portLanes p).filter fun l => s.laneState l != 3).foldl State.beginBringUp (s.pute 0x7003 p 0x05 1)
  else s.pute 0x7003 p 0x05 3

/-- The port falls below 7003[p].03 lanes in a direction: it goes down and trains anew (R259). -/
def State.portCheck (s : State) (p : Nat) : State :=
  let need := s.ve 0x7003 p 0x03
  if s.ve 0x7003 p 0x05 = 2 ∧ ((s.txLanes p).length < need ∨ (s.rxLanes p).length < need) then
    (s.portDown p true).portTrain p
  else s

/-- The port comes up once no lane of it is in bring-up and enough have completed it (R259): the
group's sequences start at 0, and fillers are sent (R253). -/
def State.portTryUp (s : State) (p : Nat) : State :=
  let up := (portLanes p).filter fun l => s.laneState l == 2
  let w := up.foldl (fun a l => a + 2 ^ ((l - 128) % 8)) 0
  if s.ve 0x7003 p 0x05 = 1 ∧ ((portLanes p).all fun l => s.laneState l != 1) ∧
      s.ve 0x7003 p 0x03 ≤ up.length then
    ((((((s.putGroup (meshLane p) { Group.reset with rxMap := w }).pute 0x7003 p 0x05 2).pute 0x7003 p 0x06 w).pute
      0x7003 p 0x07 w).pute 0x3010 p 0x01 1).recovered domPort p).fillerRow (meshLane p)
  else s

/-- The device's receiver of a panel lane sleeps in display (R263). -/
def State.receiverSleeps (s : State) (lane : Nat) : Bool :=
  decide (lane < 128 ∧ 4 ≤ lane % 64) && s.ve 0x7010 lane 0x04 == 1 && s.displayRuns

/-- The receiver of a panel lane that is up goes to sleep or wakes as R263 asks. -/
def State.setReceiver (s : State) (lane : Nat) : State :=
  if lane < 128 ∧ s.laneServes lane = true then
    (s.putLane lane { s.lane lane with rxAsleep := s.receiverSleeps lane }).showSleep lane
  else s

/-- The receivers of the panel lanes follow display (R263). -/
def State.setReceivers (s : State) : State := (List.range 128).foldl State.setReceiver s

/-- A lane's link is up (R253, stage 8) after three further training blocks: the sequence of a panel lane
starts at 0 and fillers follow; a mesh lane joins its port's transmit mapping by a lane map row, or the
port may come up. -/
def State.linkUp (s : State) (lane : Nat) : State :=
  let s0 := ((s.trainingBlock lane).trainingBlock lane).trainingBlock lane
  let s1 := (((s0.pute 0x7010 lane 0x01 2).pute 0x7010 lane 0x03 8).putLane lane
    { s0.lane lane with byMaster := false, retrain := false }).recovered domLane lane
  if lane < 128 then ((s1.putGroup lane Group.reset).fillerRow lane).setReceiver lane
  else
    let p := portOfLane lane
    if s1.ve 0x7003 p 0x05 = 2 then
      s1.sendLaneMap p (setBit (s1.ve 0x7003 p 0x06) ((lane - 128) % 8) true)
    else s1.portTryUp p

/-! ### Lanes leaving service (R250, R257, R258, R261) -/

/-- A lane leaves service: a panel lane carries no rows until its half's mapping changes (R257); a mesh
lane leaves the transmit mapping, and the port is checked. -/
def State.leavePort (s : State) (lane : Nat) : State :=
  if lane < 128 then
    let x := s.half (lane / 64)
    s.putHalf (lane / 64) { x with gone := lane :: x.gone }
  else
    let p := portOfLane lane
    if s.ve 0x7003 p 0x05 = 2 then
      (s.sendLaneMap p (setBit (s.ve 0x7003 p 0x06) ((lane - 128) % 8) false)).portCheck p
    else s.portTryUp p

/-- A lane goes out of service and is counted in 7002.08 (R261). -/
def State.laneOut (s : State) (lane : Nat) : State :=
  (((s.pute 0x7010 lane 0x01 3).inc 0x7002 0x08).recovered domLane lane).leavePort lane

/-- A lane goes out of service for an error: logged at the level of R261 above a re-train. -/
def State.laneOutLogged (s : State) (lane : Nat) : State :=
  (s.log (domSpec domLane lane 3 1 0x7002 0 0x08)).laneOut lane

/-- The re-train of a lane (R250, R261): counted and logged; with 7000.01 = 0 the lane goes out of
service without one. -/
def State.retrainLane (s : State) (lane : Nat) : State :=
  if s.b 0x7000 0x01 then
    let s1 := (((s.inc 0x7002 0x06).ince 0x7010 lane 0x09).log
      (domSpec domLane lane 2 1 0x7002 0 0x06)).recover domLane lane 2
    ((s1.putLane lane { s1.lane lane with retrain := true, byMaster := false }).beginBringUp
      lane).leavePort lane
  else s.laneOutLogged lane

/-- A bring-up fails with the given stage not reached (R253); during a re-train the lane goes out of
service (R261). -/
def State.bringUpFails (s : State) (lane stage : Nat) : State :=
  let s1 := (s.inc 0x7002 0x07).log
    { dom := domLane, idx := lane, level := if (s.lane lane).retrain then 3 else 2, sev := 1,
      object := 0x7002, element := 0, member := 0x07, cause := 0, d1 := stage, d2 := 0 }
  let s2 := s1.putLane lane { s1.lane lane with byMaster := false, retrain := false, waking := false }
  if (s.lane lane).retrain then s2.escalate.laneOut lane
  else ((s2.pute 0x7010 lane 0x01 5).recovered domLane lane).leavePort lane

/-- A bad block (R248): counted; the NAK of a mesh port goes out. During a re-train of the lane it
takes the lane out of service (R261, R405). -/
def State.badBlock (s : State) (lane : Nat) : State :=
  let s1 := (s.ince 0x7010 lane 0x07).inc 0x7002 0x01
  if (s.lane lane).retrain then s1.escalate.laneOutLogged lane
  else if lane < 128 then s1
  else
    let p := portOfLane lane
    let rank := ((s1.rxOrder p).takeWhile (· != lane)).length
    (s1.putGroup lane { s1.group lane with nak := true, nakRank := rank }).sendAck p

/-- Sequence `a` is at or before `b` in the 12-bit sequence order. -/
def seqUpTo (a b : Nat) : Bool := decide ((b + 4096 - a) % 4096 < 2048)

/-- The receiver's judgement of a good replayable block on a mesh lane (R248): accepted in sequence; a
duplicate is discarded; any other is an error, and while a NAK is outstanding it is discarded. -/
def State.inSequence (s : State) (lane : Nat) (b : Bytes) (act : State → State) : State :=
  let g := s.group lane
  let q := blockSeq b
  if q = g.rxSeq then act (s.putGroup lane { g with rxSeq := (q + 1) % 4096, nak := false })
  else if seqUpTo q ((g.rxSeq + 4095) % 4096) || g.nak then s
  else s.badBlock lane

/-! ### Acknowledgement and replay (R247 to R252) -/

/-- Two flush blocks on a panel lane (R252). -/
def State.sendFlush (s : State) (lane : Nat) : State :=
  ((s.sendBlock lane 6 (zeros 64) []).sendBlock lane 6 (zeros 64) []).add 0x7002 0x0C 2

/-- The round trip of a lane, or of every lane of a port, is shown (R249). -/
def State.showRoundTrip (s : State) (lane n : Nat) : State :=
  (if lane < 128 then [lane] else portLanes (portOfLane lane)).foldl
    (fun (st : State) l => st.pute 0x7010 l 0x0A n) s

/-- An acknowledgement covers every held block up to a sequence (R249): they are freed, the round trip
is shown, and a replay that it covers has ended. -/
def State.ackOn (s : State) (lane q : Nat) : State :=
  let g := s.group lane
  let done := g.held.filter fun b => seqUpTo b.seq q
  match done.getLast? with
  | none => s
  | some b =>
    let ended := match g.replay with
      | none => false
      | some r => seqUpTo r q
    ((s.putGroup lane { g with
        held := g.held.filter (fun b => !(seqUpTo b.seq q)),
        replay := if ended then none else g.replay, fails := if ended then 0 else g.fails }).showRoundTrip
      lane (s.now - b.sentAt)).drainQueue lane

/-- Sends again every held block from a sequence on, charged to a lane (R249). -/
def State.resend (s : State) (lane q charged : Nat) : State :=
  let g := s.group lane
  (((s.putGroup lane { g with replay := some q, replayAt := s.now }).resendHeld lane
    (g.held.filter fun b => seqUpTo q b.seq)).inc 0x7002 0x03).ince 0x7010 charged 0x08

/-- A replay of `q` has failed (R250): counted; the fourth in a row re-trains the lanes given (R261,
R405). The blocks from `q` on stay due, and go out again under the mapping without those lanes (R258). -/
def State.replayFails (s : State) (lane q charged : Nat) (lanes : List Nat) : State :=
  let g := s.group lane
  let s1 := s.inc 0x7002 0x04
  if 4 ≤ g.fails + 1 then
    lanes.foldl (fun (st : State) l => st.escalate.retrainLane l) (s1.putGroup lane { g with fails := 0 })
  else (s1.putGroup lane { g with fails := g.fails + 1 }).resend lane q charged

/-- Takes rows' hashes of a panel half away. -/
def State.dropHashes (s : State) (h : Nat) (rows : List Nat) : State :=
  s.putHalf h { s.half h with hashes := (s.half h).hashes.filter fun e => !(rows.contains e.1) }

/-- A NAK names a sequence of a group (R249, R252): what comes before it is good; a block of a closed
load is not sent again, its rows lose their hashes and two flush blocks answer it; otherwise the
blocks from it on are sent again, unless its resending is younger than one round trip. -/
def State.nakOn (s : State) (lane q rank : Nat) : State :=
  let s1 := s.ackOn lane ((q + 4095) % 4096)
  let g := s1.group lane
  let closed := lane < 128 && (match g.closed with
    | none => false
    | some f => seqUpTo q ((f + 4095) % 4096))
  let charged := if lane < 128 then lane else (s1.txLanes (portOfLane lane)).getD rank lane
  if closed then
    let f := g.closed.getD 0
    let rows := ((g.held.filter fun b => b.seq == q).map Held.rows).flatten
    ((s1.dropHashes (lane / 64) rows).putGroup lane { g with
      held := g.held.filter fun b => !(seqUpTo b.seq ((f + 4095) % 4096)) }).sendFlush lane
  else if !(g.held.any fun b => b.seq == q) then s1
  else if g.replay = some q then
    if s1.now < g.replayAt + s1.ve 0x7010 charged 0x0A then s1
    else s1.replayFails lane q charged [charged]
  else (s1.putGroup lane { g with fails := 0 }).resend lane q charged

/-- One entry of an acknowledge block that arrived on a lane (R247): on return lane k of a half it
names a forward lane 16k to 16k + 15. -/
def State.ackEntry (onLane : Nat) (s : State) (e : AckEntry) : State :=
  let panel := decide (onLane < 128)
  let target := if panel then onLane / 64 * 64 + e.lane else meshLane (portOfLane onLane)
  let fits := if panel then decide (e.lane < 64) && e.lane / 16 == onLane % 64 else e.lane == 0xFF
  if !fits then s
  else if e.nak then s.nakOn target e.seq e.rank
  else s.ackOn target e.seq

/-! ### Blocks in slot order (R245, R248) -/

/-- A received block in its place: a reserved type or a bad CRC is an error; the blocks of a parcel go on
in sequence; acknowledgements are taken out of the stream (R241, R245 to R248). -/
def State.takeBlock (s : State) (lane : Nat) (b : Bytes) : State :=
  let p := portOfLane lane
  let ty := blockType b
  if 12 ≤ ty then (s.inc 0x7002 0x0B).badBlock lane
  else if !(blockOk b) then s.badBlock lane
  else if ty = 5 then (ackEntries b).foldl (State.ackEntry lane) s
  else if lane < 128 then s
  else if ty = 1 then s.inSequence lane b fun st => st.parcelBlock p (blockPayload b)
  else if ty = 2 then s.inSequence lane b fun st => st.startParcel p (blockPayload b)
  else if ty = 4 then s.inSequence lane b fun st => st.dropPartial p
  else if ty = 3 then s.inSequence lane b id
  else s

/-- The slot of the row at which a port's receiver stands has been taken. -/
def State.rxNext (s : State) (p n : Nat) : State :=
  let g := s.group (meshLane p)
  s.putGroup (meshLane p) { g with rxSlot := if g.rxSlot + 1 < n then g.rxSlot + 1 else 0 }

/-- The receiver of a port restores the slot order (R245): the block of the next slot is taken once it has
arrived on the lane of that rank; the slots of a lane that has lost lock are discarded (R258). -/
def State.restoreSlots (p : Nat) : Nat → State → State
  | 0, s => s
  | fuel + 1, s =>
    let ls := s.rxOrder p
    match ls[(s.group (meshLane p)).rxSlot]? with
    | none => s
    | some l =>
      let r := s.lane l
      match r.fifo with
      | b :: rest =>
        State.restoreSlots p fuel
          (((s.putLane l { r with fifo := rest }).rxNext p ls.length).takeBlock l b)
      | [] =>
        if !(s.receives l) && ls.any (fun x => !((s.lane x).fifo).isEmpty) then
          State.restoreSlots p fuel (s.rxNext p ls.length)
        else s

/-- A block of a single slot arrives on a lane (R245): on a panel lane that is up it is taken at once, on a
mesh lane it waits for its place. A bad block elsewhere is only counted. -/
def State.receiveBlock (s : State) (lane : Nat) (b : Bytes) : State :=
  let s1 := s.heard lane b
  let p := portOfLane lane
  let r := s1.lane lane
  if lane < 128 then
    if s1.laneServes lane && !r.rxAsleep then s1.takeBlock lane b
    else if blockOk b then s1 else s1.badBlock lane
  else if s1.ve 0x7003 p 0x05 = 2 ∧ s1.laneServes lane = true ∧ (s1.rxOrder p).contains lane = true then
    let s2 := s1.putLane lane { r with fifo := r.fifo ++ [b] }
    s2.restoreSlots p (8 * ((portLanes p).foldl (fun a l => a + (s2.lane l).fifo.length) 1))
  else if blockOk b then s1 else s1.badBlock lane

/-! ### Bring-up (R253 to R256) -/

/-- The 48-byte training pattern and its complement (R254). -/
def trainingPattern : Bytes := (trainingPayload 0 0).take 48
def trainingInverse : Bytes := trainingPattern.map fun b => ~~~b

/-- Root cycles of two blocks at a port's rate (R239, R254): 560 line bits at 25, 12.5 or 6.25 Gb/s. -/
def State.twoBlocks (s : State) (p : Nat) : Nat := 224 * 2 ^ s.ve 0x7003 p 0x01

/-- Once every lane of the port in bring-up has marker lock and the same marker row has arrived on them,
their lane numbers are compared: rank order or reverse passes stage 6, any other order fails it for the
port; a lane whose marker came more than two blocks after the first fails stage 7 (R253, R254; DESIGN
CHOICE, log entry 92: skew counts from the earliest lane). -/
def State.portOrder (s : State) (p : Nat) : State :=
  let ls := (portLanes p).filter fun l => s.laneState l == 1 && !((s.lane l).waking)
  let same := ls.all fun l => ls.all fun k => (s.lane l).markerNo == (s.lane k).markerNo
  let direct := ls.all fun l => s.ve 0x7010 l 0x0C == (l - 128) % 8
  let reverse := ls.all fun l => s.ve 0x7010 l 0x0C == 7 - (l - 128) % 8
  if (ls.all fun l => decide (5 ≤ s.ve 0x7010 l 0x03)) && same then
    if direct || reverse then
      let late := fun l => ls.any fun k => decide ((s.lane k).markerAt + s.twoBlocks p < (s.lane l).markerAt)
      (ls.filter fun l => s.ve 0x7010 l 0x03 == 5).foldl (fun (st : State) l =>
        let st1 := st.pute 0x7010 l 0x06 (setBit (st.ve 0x7010 l 0x06) 1 (!direct))
        if late l then (st1.pute 0x7010 l 0x03 6).bringUpFails l 7 else st1.reachStage l 7) s
    else ls.foldl (fun (st : State) l => st.bringUpFails l 6) s
  else s

/-- TRAINING (R253, R254, R256): sixteen patterns one after the other in stages 2 and 3; afterwards the far
end's stage and the preset that it requests. -/
def State.doTraining (s : State) (lane : Nat) (b : Bytes) : State :=
  let p := blockPayload b
  let r := s.lane lane
  let stage := s.ve 0x7010 lane 0x03
  let inverted := (s.ve 0x7010 lane 0x06).testBit 0
  let inv := p.take 48 == trainingInverse && !inverted
  if s.laneState lane ≠ 1 then s
  else if stage = 2 ∨ stage = 3 then
    if p.take 48 = trainingPattern ∨ inv = true then
      let n := if r.inverse = inv then r.syncs + 1 else 1
      if n < 16 then s.putLane lane { r with syncs := n, inverse := inv }
      else
        let s1 := s.putLane lane { r with syncs := 0, inverse := false, sinceMarker := none }
        if inv then
          (s1.pute 0x7010 lane 0x06 (setBit (s.ve 0x7010 lane 0x06) 0 true)).reachStage lane 3
        else s1.reachStage lane 4
    else s.putLane lane { r with syncs := 0 }
  else if 4 ≤ stage ∧ blockOk b = true then
    let want := field p 49 1
    let r1 := { r with farStage := field p 48 1, sinceMarker := r.sinceMarker.map (· + 1) }
    if r.auto = true ∧ want < 8 ∧ r.txPreset ≠ want then
      (s.putLane lane { r with farPreset := some want, txPreset := want, syncs := 0,
                               sinceMarker := none }).reachStage lane 1
    else
      let s1 := s.putLane lane r1
      if stage = 7 ∧ 7 ≤ field p 48 1 then s1.linkUp lane else s1
  else s.putLane lane { r with sinceMarker := r.sinceMarker.map (· + 1) }

/-- A good marker of stage 4 (R253): the second of two that stand 64 blocks apart gives marker lock; a panel
lane, which skips stages 6 and 7, and a lane that wakes (R262) have no more stages before link up. -/
def State.markerLock (s : State) (lane : Nat) : State :=
  let r := s.lane lane
  if r.sinceMarker ≠ some 63 then s.putLane lane { r with sinceMarker := some 0 }
  else if r.waking then
    (((s.putLane lane { r with waking := false, rxAsleep := false, sinceMarker := none }).pute
      0x7010 lane 0x01 2).pute 0x7010 lane 0x03 8).showSleep lane
  else
    let s1 := s.putLane lane { r with sinceMarker := none }
    if lane < 128 then s1.reachStage lane 7
    else (s1.reachStage lane 5).portOrder (portOfLane lane)

/-- MARKER (R243, R253, R255, R262): the lane number, the far end's coordinates and the marker row that it
tells. In stages 2 and 3 it breaks the row of training patterns. A polarity of 0xA5 in stage 4 shows an
inverted lane: it is inverted, and stage 3 is repeated. -/
def State.doMarker (s : State) (lane : Nat) (b : Bytes) : State :=
  let p := blockPayload b
  let st := s.laneState lane
  let stage := s.ve 0x7010 lane 0x03
  if st = 1 ∧ (stage = 2 ∨ stage = 3) then s.putLane lane { s.lane lane with syncs := 0 }
  else if st = 1 ∧ stage = 4 ∧ field p 0 1 = 0xA5 then
    ((s.putLane lane { s.lane lane with syncs := 0, sinceMarker := none }).pute 0x7010 lane 0x06
      (setBit (s.ve 0x7010 lane 0x06) 0 (!(s.ve 0x7010 lane 0x06).testBit 0))).reachStage lane 3
  else if !(blockOk b) then (if s.laneServes lane then s.badBlock lane else s)
  else if field p 0 1 ≠ 0x5A ∨ (st ≠ 1 ∧ !(s.laneServes lane)) then s
  else
    let s1 := (s.pute 0x7010 lane 0x0C (field p 1 1)).putLane lane
      { s.lane lane with markerNo := field p 8 4, markerAt := s.now }
    let s2 := if lane < 128 then s1 else s1.pute 0x7003 (portOfLane lane) 0x08 (field p 4 2)
    if st = 1 ∧ stage = 4 then s2.markerLock lane
    else if st = 1 ∧ stage = 5 ∧ 128 ≤ lane then s2.portOrder (portOfLane lane)
    else s2

/-- FILLER (R244): the elastic buffer deletes above a fill of 3 blocks and inserts below 1. -/
def State.doFiller (s : State) (lane : Nat) (b : Bytes) (fill : Nat) : State :=
  let g := s.group lane
  if !(blockOk b) then s.badBlock lane
  else if 3 < fill then (s.putGroup lane { g with elastic := fill - 1 }).inc 0x7002 0x0A
  else if fill < 1 then (s.putGroup lane { g with elastic := fill + 1 }).inc 0x7002 0x0A
  else s.putGroup lane { g with elastic := fill }

/-- SLEEP (R262): the receiver of a lane that is up powers down its CDR. -/
def State.doSleep (s : State) (lane : Nat) (b : Bytes) : State :=
  if !(blockOk b) then s.badBlock lane
  else if s.laneServes lane then
    (s.putLane lane { s.lane lane with rxAsleep := true }).showSleep lane
  else s

/-- A BITS8 of lane ranks of the full port as lanes: with the far end's order reversed, rank k is lane
7 − k (R254). -/
def turned (w : Nat) : Nat := (List.range 8).foldl (fun a k => if w.testBit k then a + 2 ^ (7 - k) else a) 0

/-- LANE_MAP (R258): the lanes in service of the receive direction from the next row on. -/
def State.doLaneMap (s : State) (lane : Nat) (b : Bytes) : State :=
  let p := portOfLane lane
  if !(blockOk b) then s.badBlock lane
  else if 128 ≤ lane ∧ s.ve 0x7003 p 0x05 = 2 then
    let w := field (blockPayload b) 0 1
    let g := s.group lane
    ((s.putGroup lane { g with rxMap := if s.reversed p then turned w else w, rxSlot := 0 }).showRx
      p).portCheck p
  else s

/-- SIGNAL_DETECT (R253, R262): stage 1, or the start of a wake from sleep; a receiver that sleeps by
R263 stays asleep. -/
def State.doSignal (s : State) (lane : Nat) : State :=
  if s.laneState lane = 1 ∧ s.ve 0x7010 lane 0x03 = 0 then s.reachStage lane 1
  else if s.laneServes lane && (s.lane lane).rxAsleep && !(s.receiverSleeps lane) then
    ((s.putLane lane { s.lane lane with waking := true, syncs := 0, sinceMarker := none }).pute
      0x7010 lane 0x01 1).pute 0x7010 lane 0x03 1
  else s

/-- LANE_LOCK_LOSS (R257, R258): a panel lane is re-trained. The slots of a mesh lane are discarded; while
the last lane map names it, the first missing sequence is NAKed and the loss is counted in 7002.08. The lane
is brought up again, and its own transmitter, which trains, leaves its direction by a lane map row. -/
def State.doLockLoss (s : State) (lane : Nat) : State :=
  let st := s.laneState lane
  if st = 1 then
    if (s.lane lane).retrain then s.escalate.laneOutLogged lane
    else (s.putLane lane { s.lane lane with syncs := 0, sinceMarker := none }).pute 0x7010 lane 0x03 0
  else if !(s.laneServes lane) then s
  else if lane < 128 then s.retrainLane lane
  else
    let p := portOfLane lane
    let order := s.rxOrder p
    let s1 := if order.contains lane then
        ((s.putGroup lane { s.group lane with
          nak := true, nakRank := (order.takeWhile (· != lane)).length }).sendAck p).inc 0x7002 0x08
      else s
    ((s1.beginBringUp lane).showRx p).leavePort lane

/-- PORT_SLEEP_TIMER (R263): a transmit direction with nothing but fillers to send sleeps, after two sleep
blocks on each lane (R262). -/
def State.doPortSleep (s : State) (p : Nat) : State :=
  let g := s.group (meshLane p)
  if s.ve 0x7003 p 0x04 ≠ 0 ∧ s.ve 0x7003 p 0x05 = 2 ∧ s.ve 0x7003 p 0x09 = 0 ∧ g.held = [] ∧
      g.queue = [] ∧ g.nak = false ∧ !(s.ingress.busy.contains p) then
    ((s.txLanes p).foldl (fun (st : State) l =>
      (st.putBlock l 10 g.txSeq (zeros 64)).putBlock l 10 g.txSeq (zeros 64)) s).pute 0x7003 p 0x09 1
  else s

/-- The forward lanes of a panel half go to sleep while the half is parked (R263): two sleep blocks on each
lane that is up (R262). -/
def State.sleepHalf (s : State) (h : Nat) : State :=
  (((List.range 64).map (64 * h + ·)).filter fun l => s.laneServes l && !((s.lane l).txAsleep)).foldl
    (fun (st : State) l =>
      let st1 := (st.sendBlock l 10 (zeros 64) []).sendBlock l 10 (zeros 64) []
      (st1.putLane l { st1.lane l with txAsleep := true }).showSleep l) s

/-! ### A master's acts (R259, R260) -/

/-- The owner's act on 7010[n].02 (R260): 1 re-train, 2 out of service, 3 return by bring-up. -/
def State.ownLaneCmd (s : State) (lane v : Nat) : State :=
  let begin_ := fun (st : State) =>
    (st.putLane lane { st.lane lane with byMaster := true, retrain := false }).beginBringUp lane
  match v with
  | 1 =>
    let s1 := (s.inc 0x7002 0x06).ince 0x7010 lane 0x09
    ((s1.putLane lane { s1.lane lane with byMaster := true, retrain := true }).beginBringUp lane).leavePort
      lane
  | 2 => s.laneOut lane
  | 3 =>
    if s.laneServes lane then s
    else
      let s1 := begin_ s
      if lane < 128 ∨ s1.ve 0x7003 (portOfLane lane) 0x05 ≠ 0 then s1
      else s1.pute 0x7003 (portOfLane lane) 0x05 1
  | _ => s

/-- The owner's act on 7003[p].01 (R259): a change brings the port down and up again. -/
def State.ownPortRate (s : State) (p v : Nat) : State :=
  let s1 := s.putKept 0x7003 p 0x01 v
  if s.ve 0x7003 p 0x01 = v then s1 else (s1.portDown p false).portTrain p

/-- The owner's act on 7003[p].02 (R259): 0 holds the port down, 1 releases it. -/
def State.ownPortEnable (s : State) (p v : Nat) : State :=
  let s1 := s.putKept 0x7003 p 0x02 v
  if s.ve 0x7003 p 0x02 = v then s1
  else if v = 0 then
    (portLanes p).foldl (fun st l => if st.laneState l = 3 then st else st.pute 0x7010 l 0x01 0)
      ((s1.portDown p false).pute 0x7003 p 0x05 3)
  else s1.portTrain p

/-- The test that a lane command is taken (R260): no other lane of the half or port is in a bring-up
that a master started; a half that shows keeps R156; a port keeps 7003[p].03 lanes. A serviced and
parked half may train all its lanes together. -/
def State.laneCmdOk (s : State) (lane v : Nat) : Bool :=
  let h := lane / 64
  let parkedService := decide (lane < 128) && s.serviced h && s.seq.service.activity == 0
  let mates := if lane < 128 then (List.range 64).map (64 * h + ·) else portLanes (portOfLane lane)
  let busy := mates.any fun l => l != lane && s.laneState l == 1 && (s.lane l).byMaster
  let p := portOfLane lane
  let without := fun (ls : List Nat) => (ls.filter (· != lane)).length
  let live := without (mates.filter s.laneServes)
  let port := ((s.txLanes p).contains lane || (s.rxLanes p).contains lane)
  let left := min (without (s.txLanes p)) (without (s.rxLanes p))
  (parkedService || !busy) &&
  (!(v == 1 || v == 2) ||
    (if lane < 128 then
      !(s.laneServes lane) || !(s.showing h) || s.v 0x5001 0x03 == 0 || s.figures.loadFits live
     else !port || decide (s.ve 0x7003 p 0x03 ≤ left)))

/-! ### Meanings -/

/-- A lane of the device. -/
def laneOk (lane : Nat) : Bool := decide (lane < 192)

/-- BLOCK_DATA (R36, R45, R240, R241, R245, R248). -/
def execBlockData (t lane : Nat) (block : Bytes) (s : State) : Result :=
  guarded (laneOk lane) ((s.enter t).receiveBlock lane block)

/-- PARCEL_START (R36, R245, R246, R248). -/
def execParcelStart (t lane : Nat) (block : Bytes) (s : State) : Result :=
  guarded (laneOk lane) ((s.enter t).receiveBlock lane block)

/-- PARCEL_ABORT (R245, R246). -/
def execParcelAbort (t lane : Nat) (block : Bytes) (s : State) : Result :=
  guarded (laneOk lane) ((s.enter t).receiveBlock lane block)

/-- ACKNOWLEDGE (R245, R247, R249, R250, R252). -/
def execAcknowledge (t lane : Nat) (block : Bytes) (s : State) : Result :=
  guarded (laneOk lane) ((s.enter t).receiveBlock lane block)

/-- REPLAY_TIMEOUT (R249, R250): a resend from the oldest held block; on a mesh port the fourth failure
is every lane's. -/
def execReplayTimeout (t lane : Nat) (s : State) : Result :=
  let s1 := s.enter t
  guarded (laneOk lane) (match (s1.group lane).held with
    | [] => s1
    | b :: _ =>
      let g := groupOf lane
      let s2 := s1.inc 0x7002 0x05
      if (s1.group lane).replay = some b.seq then
        s2.replayFails g b.seq g (if lane < 128 then [lane] else s2.txLanes (portOfLane lane))
      else (s2.putGroup lane { s2.group lane with fails := 0 }).resend g b.seq g)

/-- ACK_SEND_TIMER (R247, R248): a mesh receiver of a port that is up sends its acknowledge block. -/
def execAckSendTimer (t port : Nat) (s : State) : Result :=
  let s1 := s.enter t
  guarded (decide (port < 8)) (if s1.ve 0x7003 port 0x05 = 2 then s1.sendAck port else s1)

/-- MARKER (R243, R253, R255). -/
def execMarker (t lane : Nat) (block : Bytes) (s : State) : Result :=
  guarded (laneOk lane) (((s.enter t).heard lane block).doMarker lane block)

/-- FILLER (R244). -/
def execFiller (t lane : Nat) (block : Bytes) (fill : Nat) (s : State) : Result :=
  guarded (laneOk lane) (((s.enter t).heard lane block).doFiller lane block fill)

/-- TRAINING (R253, R254, R256). -/
def execTraining (t lane : Nat) (block : Bytes) (s : State) : Result :=
  guarded (laneOk lane) (((s.enter t).heard lane block).doTraining lane block)

/-- SLEEP (R262). -/
def execSleep (t lane : Nat) (block : Bytes) (s : State) : Result :=
  guarded (laneOk lane) (((s.enter t).heard lane block).doSleep lane block)

/-- LANE_MAP (R258). -/
def execLaneMap (t lane : Nat) (block : Bytes) (s : State) : Result :=
  guarded (laneOk lane) (((s.enter t).heard lane block).doLaneMap lane block)

/-- RESERVED_BLOCK (R241, R248): discarded and counted, even when its CRC is good. -/
def execReservedBlock (t lane : Nat) (block : Bytes) (s : State) : Result :=
  guarded (laneOk lane) ((s.enter t).receiveBlock lane block)

/-- SIGNAL_DETECT (R253, R262). -/
def execSignalDetect (t lane : Nat) (s : State) : Result :=
  guarded (laneOk lane) ((s.enter t).doSignal lane)

/-- CDR_LOCK (R253, R256): stage 2, with the preset that gives the best margin and that margin. -/
def execCdrLock (t lane preset margin : Nat) (s : State) : Result :=
  let s1 := s.enter t
  guarded (laneOk lane)
    (if s1.laneState lane = 1 ∧ s1.ve 0x7010 lane 0x03 = 1 then
      ((s1.putLane lane { s1.lane lane with ownPreset := preset % 8, syncs := 0 }).pute
        0x7010 lane 0x0B (margin % 65536)).reachStage lane 2
     else s1)

/-- BRING_UP_STAGE_TIMEOUT (R253). -/
def execBringUpStageTimeout (t lane : Nat) (s : State) : Result :=
  let s1 := s.enter t
  guarded (laneOk lane)
    (if s1.laneState lane = 1 then s1.bringUpFails lane (s1.ve 0x7010 lane 0x03 + 1) else s1)

/-- BRING_UP_RETRY (R253): never with 7000.02 = 0. -/
def execBringUpRetry (t lane : Nat) (s : State) : Result :=
  let s1 := s.enter t
  let p := portOfLane lane
  guarded (laneOk lane)
    (if s1.laneState lane = 5 ∧ s1.v 0x7000 0x02 ≠ 0 then
      (if 128 ≤ lane ∧ s1.ve 0x7003 p 0x05 = 0 then s1.pute 0x7003 p 0x05 1 else s1).beginBringUp lane
     else s1)

/-- LANE_LOCK_LOSS (R257, R258, R261). -/
def execLaneLockLoss (t lane : Nat) (s : State) : Result :=
  guarded (laneOk lane) ((s.enter t).doLockLoss lane)

/-- PORT_SLEEP_TIMER (R263). -/
def execPortSleepTimer (t port : Nat) (s : State) : Result :=
  guarded (decide (port < 8)) ((s.enter t).doPortSleep port)

end Sys2Proof.Machine
end

