-- ==== Sys2Proof/Machine/Codec.lean ====
section
/-!
DEFINITION. Compressed tile streams: the decoder of R58 to R63 and the compression of R73
(03_codec.md). A hogel is held as its 32-bit value R, G, B, A, most significant byte first.
-/

namespace Sys2Proof.Machine

/-! ### Decoding (R58 to R63) -/

/-- What a decoder leaves: the reason of R63 at which it stopped, 0 for a good stream, and the bytes
of the whole hogels that it wrote. -/
structure Decoded where
  reason : Nat
  raw : Bytes
  deriving DecidableEq, Repr

/-- Bytes of a list of hogels. -/
def hogelBytes (l : List Nat) : Bytes := l.flatMap (beBytes 4)

/-- A varint (R60): the reason it breaks (4 or 5), or its value and the bytes after it. -/
def readVarint (bs : Bytes) : Except Nat (Nat × Bytes) :=
  match bs with
  | [] => .error 5
  | a :: r =>
    if a = 0x80#8 then .error 4
    else if a.toNat < 128 then .ok (a.toNat, r)
    else
      match r with
      | [] => .error 5
      | b :: r =>
        let v := (a.toNat - 128) * 128
        if b.toNat < 128 then .ok (v + b.toNat, r)
        else
          match r with
          | [] => .error 5
          | c :: r =>
            if c.toNat < 128 then .ok ((v + (b.toNat - 128)) * 128 + c.toNat, r) else .error 4

/-- `k` hogels, each a copy of the hogel `d` positions before it, onto the output, which is held
newest first (R61). -/
def copyBack (d : Nat) : Nat → List Nat → List Nat
  | 0, out => out
  | k + 1, out => copyBack d k (out.getD (d - 1) 0 :: out)

/-- `k` literal hogels onto the output: the output, the bytes that are left, and whether all came. -/
def takeLiterals : Nat → Bytes → List Nat → List Nat × Bytes × Bool
  | 0, bs, out => (out, bs, true)
  | k + 1, bs, out =>
    match bs with
    | r :: g :: b :: a :: rest => takeLiterals k rest (beNat [r, g, b, a] :: out)
    | _ => (out, [], false)

/-- The commands of a coded stream (R59 to R61, R63): `n` hogels of a tile `w` wide, output newest
first. Each command takes at least one byte, so the length of the stream bounds their number. -/
def runCommands (n w : Nat) : Nat → Bytes → List Nat → Nat × List Nat
  | 0, _, out => (6, out)
  | fuel + 1, bs, out =>
    match bs with
    | [] => (if out.length < n then 6 else 0, out)
    | c :: rest =>
      if n ≤ out.length then (7, out)
      else
        let kind := c.toNat / 64
        let k := c.toNat % 64
        let base := if kind = 3 then 2 else 1
        if k < 63 ∧ n < out.length + k + base then (3, out)
        else if kind = 2 ∧ out.length < w then (4, out)
        else
          match (if k < 63 then .ok (0, rest) else readVarint rest : Except Nat (Nat × Bytes)) with
          | .error e => (e, out)
          | .ok (v, rest) =>
            let count := k + base + v
            if n < out.length + count then (3, out)
            else
              match kind with
              | 0 =>
                match takeLiterals count rest out with
                | (out', rest', true) => runCommands n w fuel rest' out'
                | (out', _, false) => (5, out')
              | 1 => runCommands n w fuel rest (copyBack 1 count out)
              | 2 => runCommands n w fuel rest (copyBack w count out)
              | _ =>
                match readVarint rest with
                | .error e => (e, out)
                | .ok (d, rest') =>
                  if d = 0 ∨ out.length < d then (4, out)
                  else runCommands n w fuel rest' (copyBack d count out)

/-- Decodes a stream of a tile of raw size `n` bytes and width `w` (R58, R62, R63). A stored or fill
stream of the wrong length breaks its rule at the mode byte, since the store knows the length: with
no output (log entry 12). -/
def decodeStream (n w : Nat) (bs : Bytes) : Decoded :=
  match bs with
  | [] => { reason := 5, raw := [] }
  | m :: rest =>
    let mode := m.toNat / 64
    if mode = 3 ∨ m.toNat % 64 ≠ 0 then { reason := 1, raw := [] }
    else if mode = 1 then
      if rest.length = n then { reason := 0, raw := rest } else { reason := 2, raw := [] }
    else if mode = 2 then
      if rest.length = 4 then { reason := 0, raw := (List.replicate (n / 4) rest).flatten }
      else { reason := 2, raw := [] }
    else
      let r := runCommands (n / 4) w rest.length.succ rest []
      { reason := r.1, raw := hogelBytes r.2.reverse }

/-! ### Compression (R73) -/

/-- The shortest varint of a value (R60). -/
def varint (v : Nat) : Bytes :=
  if v < 128 then beBytes 1 v
  else if v < 16384 then beBytes 1 (128 + v / 128) ++ beBytes 1 (v % 128)
  else beBytes 1 (128 + v / 16384) ++ beBytes 1 (128 + v / 128 % 128) ++ beBytes 1 (v % 128)

/-- A command byte of a kind with a count, and the varint that follows a full count code (R59). -/
def command (kind count : Nat) : Bytes :=
  let base := if kind = 3 then 2 else 1
  if count - base < 63 then beBytes 1 (kind * 64 + (count - base))
  else beBytes 1 (kind * 64 + 63) ++ varint (count - base - 63)

/-- The hogels of a raw tile. -/
def hogelsOf : Bytes → List Nat
  | r :: g :: b :: a :: rest => beNat [r, g, b, a] :: hogelsOf rest
  | _ => []

/-- Equal hogels at the front of two lists. -/
def agree : List Nat → List Nat → Nat
  | x :: xs, y :: ys => if x = y then agree xs ys + 1 else 0
  | _, _ => 0

/-- Hogels at the front of a list that equal `x`. -/
def runLen (x : Nat) : List Nat → Nat
  | [] => 0
  | y :: ys => if y = x then runLen x ys + 1 else 0

/-- Rotation of a 32-bit value left by 11 bits. -/
def rotl11 (x : Nat) : Nat := (x * 2048) % 2 ^ 32 + x / 2 ^ 21

/-- The hash of two hogels (R73). -/
def hogelHash (x y : Nat) : Nat := ((x ^^^ rotl11 y) * 0x4F1BBCDD) % 2 ^ 32 / 2 ^ 20

/-- What the searches at a position find: run, up, and the best copy with its distance. -/
structure Found where
  run : Nat
  up : Nat
  copy : Nat
  dist : Nat
  deriving DecidableEq, Repr

/-- The source of a compression: hogels as a list with random access, and the tile's width. -/
structure PackSrc where
  src : Array Nat
  w : Nat
  level : Nat

/-- Hogels from a position onward. -/
def PackSrc.from (p : PackSrc) (i : Nat) : List Nat := (p.src.extract i p.src.size).toList

/-- The hash of the position `i`, which needs two hogels. -/
def PackSrc.hash (p : PackSrc) (i : Nat) : Nat := hogelHash (p.src.getD i 0) (p.src.getD (i + 1) 0)

/-- The longest agreement among candidate positions, the first found on a tie. -/
def bestOf (p : PackSrc) (i : Nat) (here : List Nat) : List Nat → Nat × Nat → Nat × Nat
  | [], b => b
  | j :: js, b =>
    let c := agree (p.from j) here
    bestOf p i here js (if b.1 < c then (c, i - j) else b)

/-- Inserted positions with their hashes, most recent first: the chains of R73. -/
abbrev Chains := List (Nat × Nat)

/-- A position enters the head of its chain, unless it is one of the last that have no second
hogel. -/
def PackSrc.link (p : PackSrc) (ch : Chains) (i : Nat) : Chains :=
  if i + 2 ≤ p.src.size then (p.hash i, i) :: ch else ch

/-- run, up and best at a position, and the chains after best has linked it (R73). -/
def PackSrc.search (p : PackSrc) (ch : Chains) (i : Nat) : Found × Chains :=
  let here := p.from i
  let r := runLen (if i = 0 then 0 else p.src.getD (i - 1) 0) here
  let u := if i < p.w then 0 else agree (p.from (i - p.w)) here
  if p.src.size < i + 2 then ({ run := r, up := u, copy := 0, dist := 0 }, ch)
  else
    let h := p.hash i
    let cands := ((ch.filter fun e => e.1 == h).take (2 ^ p.level)).map (·.2)
    let b := bestOf p i here cands (0, 0)
    ({ run := r, up := u, copy := if b.1 < 2 then 0 else b.1, dist := b.2 }, p.link ch i)

/-- The compressor's variables (R73): position, start of the literals, chains, the results kept from
a look-ahead, highest position inserted plus 1, and the stream so far. -/
structure PackState where
  i : Nat
  lit : Nat
  chains : Chains
  memo : Option Found
  inserted : Nat
  out : Bytes

/-- A literal command for the hogels `lit` to `i - 1`, if there are any. -/
def PackSrc.literals (p : PackSrc) (lit i : Nat) : Bytes :=
  if lit < i then command 0 (i - lit) ++ hogelBytes (p.src.extract lit i).toList else []

/-- The loop of R73. -/
def PackSrc.loop (p : PackSrc) : Nat → PackState → PackState
  | 0, st => st
  | fuel + 1, st =>
    if p.src.size ≤ st.i then st
    else
      let (f, ch) := match st.memo with
        | some f => (f, st.chains)
        | none => p.search st.chains st.i
      let isCopy := !(decide (1 ≤ f.run) && decide (f.up ≤ f.run) && decide (f.copy ≤ f.run)) &&
        !(decide (1 ≤ f.up) && decide (f.copy ≤ f.up)) && decide (2 ≤ f.copy)
      let isRun := decide (1 ≤ f.run) && decide (f.up ≤ f.run) && decide (f.copy ≤ f.run)
      let isUp := !isRun && decide (1 ≤ f.up) && decide (f.copy ≤ f.up)
      let lazy := isCopy && decide (5 ≤ p.level) && decide (st.i + 1 < p.src.size)
      let (g, ch2) := if lazy then p.search ch (st.i + 1) else (f, ch)
      let better := lazy && decide (f.copy < max g.run (max g.up g.copy))
      let none_ := better || !(isRun || isUp || isCopy)
      let upTo := st.i + (if lazy then 2 else 1)
      if none_ then
        p.loop fuel { st with
          i := st.i + 1, chains := ch2, memo := if lazy then some g else none, inserted := upTo }
      else
        let m := if isRun then f.run else if isUp then f.up else f.copy
        let cmd := if isRun then command 1 m else if isUp then command 2 m
          else command 3 m ++ varint f.dist
        let from_ := max upTo st.inserted
        let ch3 := (List.range (st.i + m - from_)).foldl (fun c k => p.link c (from_ + k)) ch2
        p.loop fuel
          { i := st.i + m, lit := st.i + m, chains := ch3,
            memo := none, inserted := max (st.i + m) from_,
            out := st.out ++ p.literals st.lit st.i ++ cmd }

/-- The stream of a source tile at a level (R73), and whether the stored mode was taken because
coding did not shrink the tile. -/
def compress (level w : Nat) (raw : Bytes) : Bytes × Bool :=
  let stored := 0x40#8 :: raw
  let hs := hogelsOf raw
  if level = 0 then (stored, false)
  else if hs.all (· == hs.headD 0) then (0x80#8 :: raw.take 4, false)
  else
    let p : PackSrc := { src := hs.toArray, w := w, level := level }
    let st := p.loop (hs.length + 1)
      { i := 0, lit := 0, chains := [], memo := none, inserted := 0, out := [0#8] }
    let coded := st.out ++ p.literals st.lit hs.length
    if 1 + raw.length ≤ coded.length then (stored, true) else (coded, false)

end Sys2Proof.Machine
end

