-- ==== Sys2Proof/Machine/Light.lean ====
section
/-!
DEFINITION. Code values and linear light: the Mbosis perceptual curve (R78) and the 16-bit linear
values of the compositor and the array (R79).
-/

namespace Sys2Proof.Machine

/-- lin14 of a code of `k` bits (R78). -/
def lin14 (k u : Nat) : Nat :=
  let n := 2 ^ k - 1
  let d := 2 * n ^ 3
  (16383 * u ^ 2 * (u + n) + d / 2) / d

/-- L16 of a code of `k` bits (R79). -/
def linear16 (k u : Nat) : Nat := 4 * lin14 k u + lin14 k u / 4096

/-- The distance of two numbers. -/
def dist (a b : Nat) : Nat := max a b - min a b

/-- enc8 (R79): the smallest 8-bit code whose L16 lies nearest. -/
def enc8 (l : Nat) : Nat :=
  (List.range 256).foldl (fun v u => if dist l (linear16 8 u) < dist l (linear16 8 v) then u else v) 0

/-- A premultiplied hogel or pixel: red, green, blue and alpha, 16 bits each. -/
structure Pm where
  r : Nat
  g : Nat
  b : Nat
  a : Nat
  deriving DecidableEq, Repr

def Pm.clear : Pm := { r := 0, g := 0, b := 0, a := 0 }

/-- A hogel of codes R, G, B and coverage A (R32) as premultiplied linear values (R88, R100). -/
def premultiply (r g b a : Nat) : Pm :=
  let a16 := 257 * a
  let c := fun u => rdiv (linear16 8 u * a16) 65535
  { r := c r, g := c g, b := c b, a := a16 }

/-- The hogel at hogel index `i` of a raw tile as four codes. -/
def hogelAt (raw : Bytes) (i : Nat) : Nat × Nat × Nat × Nat :=
  (field raw (4 * i) 1, field raw (4 * i + 1) 1, field raw (4 * i + 2) 1, field raw (4 * i + 3) 1)

/-- One premultiplied value over another: what a sample with alpha leaves of what lies beneath (R88). -/
def Pm.over (top base : Pm) : Pm :=
  let c := fun t u => t + rdiv (u * (65535 - top.a)) 65535
  { r := c top.r base.r, g := c top.g base.g, b := c top.b base.b, a := c top.a base.a }

end Sys2Proof.Machine
end

