-- ==== Sys2Proof/Machine/Compositor.lean ====
section
/-!
DEFINITION. Layer compositor and compression lanes (04_compositor.md, R78 to R95; R65, R73 to R76):
sources, placement, scaling, blending, capture.
-/

namespace Sys2Proof.Machine

/-! ### Sources (R81 to R83) -/

/-- Bytes of a pixel (R81). -/
def bpp (format : Nat) : Nat := match format with | 0 => 2 | 1 => 3 | _ => 4

/-- A pixel as read from a buffer (R81): the codes for the key and for the curve with their width in
bits, and a8. -/
structure Pixel where
  bits : Nat
  r : Nat
  g : Nat
  b : Nat
  a8 : Nat
  deriving DecidableEq, Repr

/-- Expands a 5- or 6-bit field to 8 bits (R81). -/
def expand5 (v : Nat) : Nat := (v * 8) ||| (v / 4)
def expand6 (v : Nat) : Nat := (v * 4) ||| (v / 16)

/-- Reads a pixel's bytes in a format (R81). -/
def readPixel (format : Nat) (bs : Bytes) : Pixel :=
  match format with
  | 0 =>
    let w := field bs 0 2
    { bits := 8, r := expand5 (w / 2048), g := expand6 (w / 32 % 64), b := expand5 (w % 32), a8 := 255 }
  | 1 => { bits := 8, r := field bs 0 1, g := field bs 1 1, b := field bs 2 1, a8 := 255 }
  | 2 => { bits := 8, r := field bs 0 1, g := field bs 1 1, b := field bs 2 1, a8 := field bs 3 1 }
  | _ =>
    let w := field bs 0 4
    { bits := 10, r := w / 2 ^ 22, g := w / 2 ^ 12 % 1024, b := w / 4 % 1024, a8 := 85 * (w % 4) }

/-- A code lies within a key field, bounds included (R83): 8-bit codes compare with its low 8 bits. -/
def inKey (bits code lo hi : Nat) : Bool :=
  if bits = 8 then decide (lo % 256 ≤ code ∧ code ≤ hi % 256) else decide (lo ≤ code ∧ code ≤ hi)

/-- All three codes of a pixel lie within the key ranges of a graphic layer (R83). -/
def Layer.keyed (l : Layer) (p : Pixel) : Bool :=
  l.graphic && l.keyEnable &&
  inKey p.bits p.r (l.keyLo / 2 ^ 20 % 1024) (l.keyHi / 2 ^ 20 % 1024) &&
  inKey p.bits p.g (l.keyLo / 2 ^ 10 % 1024) (l.keyHi / 2 ^ 10 % 1024) &&
  inKey p.bits p.b (l.keyLo % 1024) (l.keyHi % 1024)

/-- The premultiplied value of a source pixel (R83). -/
def Layer.premul (l : Layer) (p : Pixel) : Pm :=
  let a16 := if l.keyed p then 0 else rdiv (p.a8 * l.opacity * 257) 255
  let c := fun u => rdiv (linear16 p.bits u * a16) 65535
  { r := c p.r, g := c p.g, b := c p.b, a := a16 }

/-- A range of DRAM cannot be read for the composition under way (R287). -/
def State.pixelsLost (s : State) (a n : Nat) : Bool :=
  s.dramFault a n != 0 || s.comp.unread.any fun r => decide (a < r.1 + r.2 ∧ r.1 < a + n)

/-- The source pixel (i, j) of a layer; a read with an error response gives zero bytes (R81, R287). -/
def State.sourcePixel (s : State) (l : Layer) (i j : Nat) : Pm :=
  let a := s.ve 0x3020 l.buf 0x01 + j * l.stride + i * bpp l.format
  let bs := if s.pixelsLost a (bpp l.format) then [] else mreads s.memory.dram a (bpp l.format)
  l.premul (readPixel l.format bs)

/-! ### Scaling (R86, R87) -/

/-- One pass for one destination index: weighted sum of samples (R86). -/
def scaleAt (size dst i : Nat) (sample : Nat → Pm) : Pm :=
  let step := size * 65536 / dst
  let h := max 65536 step
  let p : Int := (((2 * i + 1) * step / 2 : Nat) : Int) - 32768
  let lo := (p - h) / 65536
  let n := (2 * h / 65536) + 2
  let ks := ((List.range n).map fun k => lo + k).filter fun k => decide ((k * 65536 - p).natAbs < h)
  let wt := fun (k : Int) => h - (k * 65536 - p).natAbs
  let at_ := fun (k : Int) => sample (min k.toNat (size - 1))
  let sum := (ks.map wt).sum
  let c := fun (f : Pm → Nat) => rdiv ((ks.map fun k => wt k * f (at_ k)).sum) sum
  { r := c Pm.r, g := c Pm.g, b := c Pm.b, a := c Pm.a }

/-- The layer's premultiplied sample for a hogel; nothing where it does not cover it (R85, R86). -/
def State.layerSample (s : State) (l : Layer) (x y : Nat) : Option Pm :=
  let i := (x : Int) - l.dstX
  let j := (y : Int) - l.dstY
  if 0 ≤ i ∧ i < l.dstW ∧ 0 ≤ j ∧ j < l.dstH then
    if l.graphic then some (s.sourcePixel l i.toNat j.toNat)
    else some (scaleAt l.srcH l.dstH j.toNat fun row =>
      scaleAt l.srcW l.dstW i.toNat fun col => s.sourcePixel l col row)
  else none

/-- Clipped extent of a layer in a dimension of `n` hogels: first and one past the last (R85). -/
def clip (d : Int) (len n : Nat) : Nat × Nat :=
  ((max 0 d).toNat, (min (n : Int) (d + len)).toNat)

/-- Columns and rows that a layer covers in a mode (R85). -/
def Layer.cols (l : Layer) (m : Mode) : Nat × Nat := clip l.dstX l.dstW m.h
def Layer.rows (l : Layer) (m : Mode) : Nat × Nat := clip l.dstY l.dstH m.v

/-- Something of the layer lies on the tile (R85). -/
def Layer.visible (l : Layer) (m : Mode) : Bool :=
  decide ((l.cols m).1 < (l.cols m).2) && decide ((l.rows m).1 < (l.rows m).2)

/-- The scale limits of R87. -/
def Layer.scaleOk (l : Layer) (m : Mode) : Bool :=
  l.graphic ||
  (let wc := (l.cols m).2 - (l.cols m).1
   decide (l.srcH * 65536 / l.dstH ≤ min 32 (20480 / wc) * 32768) &&
   decide (l.srcW * 65536 / l.dstW ≤ 1048576))

/-! ### Taking part (R80, R82, R90) -/

/-- A layer as its members stand: video layer `i`, or graphic layer `i - 8`. -/
def State.layerAt (s : State) (frame : Nat) (replay : Bool) (i : Nat) : Layer :=
  let n := i % 8
  let parity := fun sync buf => if sync = 2 ∧ !replay then buf + frame % 2 else buf
  if i < 8 then
    let g := fun m => s.ve 0x4010 n m
    { graphic := false, index := n, plane := 0, buf := parity (g 0x0D) (g 0x02), format := g 0x03,
      srcW := g 0x04, srcH := g 0x05, stride := g 0x06, dstX := toS 16 (g 0x07),
      dstY := toS 16 (g 0x08), dstW := g 0x09, dstH := g 0x0A, opacity := g 0x0C,
      keyEnable := false, keyLo := 0, keyHi := 0 }
  else
    let g := fun m => s.ve 0x4020 n m
    { graphic := true, index := n, plane := 0, buf := parity (g 0x0B) (g 0x02), format := g 0x03,
      srcW := g 0x04, srcH := g 0x05, stride := g 0x06, dstX := toS 16 (g 0x07),
      dstY := toS 16 (g 0x08), dstW := g 0x04, dstH := g 0x05, opacity := g 0x0A,
      keyEnable := g 0x0C == 1, keyLo := g 0x0D, keyHi := g 0x0E }

/-- ENABLE, SYNC and DISPARITY of layer `i`. -/
def State.layerEnabled (s : State) (i : Nat) : Bool :=
  (if i < 8 then s.ve 0x4010 i 0x01 else s.ve 0x4020 (i - 8) 0x01) == 1
def State.layerSync (s : State) (i : Nat) : Nat :=
  if i < 8 then s.ve 0x4010 i 0x0D else s.ve 0x4020 (i - 8) 0x0B
def State.layerDisparity (s : State) (i : Nat) : Int :=
  toS 16 (if i < 8 then s.ve 0x4010 i 0x0B else s.ve 0x4020 (i - 8) 0x09)

/-- The first source byte after the layer's last one. -/
def Layer.extent (l : Layer) : Nat := (l.srcH - 1) * l.stride + l.srcW * bpp l.format

/-- A buffer holds the layer's source (R82). -/
def State.sourceFits (s : State) (l : Layer) (b : Nat) : Bool :=
  decide (s.ve 0x3020 b 0x02 ≠ 0) && decide (l.extent ≤ s.ve 0x3020 b 0x02)

/-- The source checks of R82; in pair mode, which a cue replay does not have (R90), both buffers are
checked. A zero size is one of the source: a layer with a zero destination size covers nothing and is not
placed (R85; DEDUCED, log entry 91). -/
def State.sourceOk (s : State) (replay : Bool) (l : Layer) (i : Nat) : Bool :=
  let b := if i < 8 then s.ve 0x4010 i 0x02 else s.ve 0x4020 (i - 8) 0x02
  decide (0 < l.srcW ∧ 0 < l.srcH) && decide (l.srcW * bpp l.format ≤ l.stride) &&
  s.sourceFits l b && (replay || s.layerSync i != 2 || s.sourceFits l (b + 1))

/-- A waited layer is ready for a content frame (R90). -/
def State.layerReady (s : State) (frame : Nat) (replay : Bool) (i : Nat) : Bool :=
  let l := s.layerAt frame replay i
  replay || s.layerSync i == 0 ||
  (s.ve 0x3020 l.buf 0x03 == frame && decide (l.extent ≤ s.ve 0x4030 l.buf 0x01))

/-- Content frame number of a frame for the compositor: a replayed cue has its cue number (R35). -/
def Frame.contentNo (f : Frame) : Nat := f.number.getD (f.cue.getD 0)

/-- Indexes of the enabled layers, in blend order (R80); none with 4000.01 = 0. -/
def State.enabledLayers (s : State) : List Nat :=
  if s.b 0x4000 0x01 then (List.range 16).filter s.layerEnabled else []

/-- Layers that would be placed on a frame now: they pass R82 and R87 and cover something. -/
def State.placeable (s : State) (f : Frame) : List Nat :=
  s.enabledLayers.filter fun i =>
    let l := s.layerAt f.contentNo f.cue.isSome i
    s.sourceOk f.cue.isSome l i && l.visible s.mode && l.scaleOk s.mode

/-- The frame is complete (R51, R93). -/
def State.frameComplete (s : State) (f : Frame) : Bool :=
  f.counted && (f.comp == 2 || f.comp == 3 || (f.comp == 0 && (s.placeable f).isEmpty))

/-! ### Placement (R84) -/

/-- Moves a tile to the plane above when its plane is at or beyond `i` (R84). -/
def Tile.renumber (i : Nat) (t : Tile) : Tile :=
  if i ≤ queuePlane t.q then { t with q := t.q + 512 } else t

/-- A new plane at index `i` of a frame, with all tiles absent (R84). -/
def Frame.createPlane (f : Frame) (i : Nat) (d : Int) : Frame :=
  let up := fun q => if i ≤ queuePlane q then q + 512 else q
  { f with
    header := f.header.map fun (h : FrameHdr) =>
      { h with planes := h.planes + 1, d := h.d.take i ++ d :: h.d.drop i },
    tiles := f.tiles.map (Tile.renumber i), received := f.received.map up,
    removed := f.removed.map up, created := f.created ++ [i] }

/-- What placement makes: the frame, the placed layers, and the skips for 4002.01 to 4002.03. -/
structure Placement where
  frame : Frame
  layers : List Layer
  source : Nat
  scale : Nat
  full : Nat

/-- Places layer `i` on a plane of its disparity, or on a new one (R82, R84, R85, R87). A plane that
is created moves the layers placed at or beyond it. A layer with nothing left is dropped before its scale
is judged (DEDUCED, log entry 91). -/
def State.placeLayer (s : State) (p : Placement) (i : Nat) : Placement :=
  let l := s.layerAt p.frame.contentNo p.frame.cue.isSome i
  let d := s.layerDisparity i
  if !(s.sourceOk p.frame.cue.isSome l i) then { p with source := p.source + 1 }
  else if !(l.visible s.mode) then p
  else if !(l.scaleOk s.mode) then { p with scale := p.scale + 1 }
  else
    match p.frame.header with
    | none => p
    | some h =>
      match h.d.findIdx? (· == d) with
      | some k => { p with layers := p.layers ++ [{ l with plane := k }] }
      | none =>
        if h.planes = 64 then { p with full := p.full + 1 }
        else
          let k := (h.d.filter fun e => decide (d < e)).length
          let moved := p.layers.map fun (x : Layer) =>
            if k ≤ x.plane then { x with plane := x.plane + 1 } else x
          { p with frame := p.frame.createPlane k d, layers := moved ++ [{ l with plane := k }] }

/-- Tile columns and bands that a layer touches (R85). -/
def Layer.touches (l : Layer) (m : Mode) : List Nat :=
  if l.visible m then
    let c0 := (l.cols m).1 / 128
    let c1 := ((l.cols m).2 - 1) / 128
    let b0 := (l.rows m).1 / 64
    let b1 := ((l.rows m).2 - 1) / 64
    (List.range (b1 + 1 - b0)).flatMap fun b =>
      (List.range (c1 + 1 - c0)).map fun c => queueOf l.plane (m.tileIndex (b0 + b) (c0 + c))
  else []

/-- Inserts a number into a rising list without repeats. -/
def insertNat (n : Nat) : List Nat → List Nat
  | [] => [n]
  | x :: r => if n < x then n :: x :: r else if n = x then x :: r else x :: insertNat n r

/-- The touched queues of a composition in ascending order (R85, R92). -/
def touchedQueues (m : Mode) (ls : List Layer) : List Nat :=
  (ls.flatMap fun l => l.touches m).foldl (fun acc q => insertNat q acc) []

/-! ### Blending (R88, R89) -/

/-- The result of one hogel (R88, R89): the base codes and the samples of the covering layers in blend
order. -/
def blendHogel (base : Nat × Nat × Nat × Nat) (samples : List Pm) : Nat × Nat × Nat × Nat :=
  if samples.all fun p => p.a == 0 then base
  else
    let x := samples.foldl (fun acc p => p.over acc) (premultiply base.1 base.2.1 base.2.2.1 base.2.2.2)
    let a8 := (x.a + 128) / 257
    if a8 = 0 then (0, 0, 0, 0)
    else
      let c := fun v => enc8 (min 65535 (rdiv (v * 65535) (a8 * 257)))
      (c x.r, c x.g, c x.b, a8)

/-- The composed raw tile of a queue over its base raw tile (R88). -/
def State.blendTile (s : State) (m : Mode) (q : Nat) (base : Bytes) : Bytes :=
  let b := m.bandOf q
  let c := m.colOf q
  let w := m.tileW c
  let ls := s.comp.layers.filter fun l => l.plane == queuePlane q
  (List.range (m.tileH b)).flatMap fun r => (List.range w).flatMap fun k =>
    let x := 128 * c + k
    let y := 64 * b + r
    let res := blendHogel (hogelAt base (r * w + k)) (ls.filterMap fun l => s.layerSample l x y)
    beBytes 1 res.1 ++ beBytes 1 res.2.1 ++ beBytes 1 res.2.2.1 ++ beBytes 1 res.2.2.2

/-- Every hogel of a raw tile has A = 0 (R89). -/
def allClear (raw : Bytes) : Bool :=
  (List.range (raw.length / 4)).all fun i => field raw (4 * i + 3) 1 == 0

/-! ### Bad tiles (R64, R65, R440) -/

/-- A stop under R63 on a tile of a store is counted, recorded in 3803 and logged, for the unit whose
decoder stopped (R64, R65). -/
def State.reportBad (s : State) (store unit q : Nat) (d : Decoded) : State :=
  let f := s.storeAt store
  let isCue := f.cue.isSome
  let cueBit := if isCue then 1 else 0
  let out := d.raw.length
  let s1 := (((((s.inc 0x3802 d.reason).put 0x3803 0x01 q).put 0x3803 0x02 f.contentNo).put
    0x3803 0x03 d.reason).put 0x3803 0x04 out).put 0x3803 0x05 cueBit
  if f.badLogged < s.v 0x3804 0x01 then
    (s1.putStore store { f with badLogged := f.badLogged + 1 }).log
      { dom := domUnit, idx := unit, level := 0, sev := 1, object := 0x3802, element := 0,
        member := d.reason, cause := d.reason, d1 := f.contentNo,
        d2 := cueBit * 2 ^ 31 + q * 2 ^ 16 + out }
  else s1.inc 0x3802 0x0B

/-! ### Composition (R91 to R93) -/

/-- The next latch point (R133), from the figures in force. -/
def State.comingLatch (s : State) : Nat :=
  let m := s.figures
  s.comingBoundary - m.fretPeriod

/-- The time to the latch point that would take the frame has fallen to 4000.02 (R91). -/
def State.waitLimitReached (s : State) (f : Frame) : Bool :=
  let tp := match f.header with
    | none => 0
    | some h => if f.cue.isSome then 0 else h.tp
  s.seq.running && s.wallReaches (s.comingBoundary + 7500) tp &&
    decide (s.comingLatch ≤ s.now + 5000 * s.v 0x4000 0x02)

/-- Enabled layers whose source is not ready for a frame (R90). -/
def State.unready (s : State) (f : Frame) : List Nat :=
  s.enabledLayers.filter fun i => !(s.layerReady f.contentNo f.cue.isSome i)

/-- The next frame may be composed as far as it is concerned itself: its count condition holds, a cue's
copy has finished, and its composition has not begun (R91). While a master holds the compositor's gate
closed it composes nothing (R308). -/
def State.composable (s : State) : Bool :=
  let f := s.nextStore
  let replayOk := match s.ingress.replay with
    | some r => r.copied || f.cue.isNone
    | none => true
  f.counted && f.comp == 0 && replayOk && s.gateOpen? gateComp

/-- The composition of the next frame waits for a source (R91, 4001.01). -/
def State.awaitsSource (s : State) : Bool :=
  s.composable && !(s.unready s.nextStore).isEmpty && !(s.placeable s.nextStore).isEmpty

/-- COMPOSITION_START (R91): the conditions of R91 hold and a layer would be placed; the snapshot is
taken, the layers are placed and the touched tiles wait for lanes. A layer that is not ready is
counted (R91); a frame that no layer touches is not composed. -/
def State.doCompositionStart (s : State) : State :=
  let f := s.nextStore
  let ls := s.enabledLayers
  let unready := s.unready f
  if s.composable && !ls.isEmpty then
    if unready.isEmpty || s.waitLimitReached f then
      let p := ls.foldl s.placeLayer { frame := f, layers := [], source := 0, scale := 0, full := 0 }
      let m := s.mode
      let qs := touchedQueues m p.layers
      let s1 := (((s.add 0x4002 0x01 p.source).add 0x4002 0x02 p.scale).add 0x4002 0x03 p.full).add
        0x4002 0x04 unready.length
      if qs.isEmpty then s1.putNext { p.frame with comp := 3 }
      else
        let cap := s.v 0x4000 0x03
        let capturing := decide (cap < 64) && decide (cap < p.frame.planes)
        let s2 := s1.putNext { p.frame with comp := 1 }
        let s3 := { s2 with comp := {
          layers := p.layers, todo := qs, open_ := qs, capturing := capturing, capPlane := cap,
          capSlot := (s.v 0x4001 0x05 + 1) % s.v 0x4000 0x05, capBase := s.v 0x4000 0x04,
          captured := [], unread := [] } }
        ((s3.put 0x4001 0x01 2).put 0x4001 0x02 f.contentNo).put 0x4001 0x03 qs.length
    else s
  else s

/-- The composition has ended: every touched tile is written or removed and the capture has finished
(R93). -/
def State.endComposition (s : State) : State :=
  if s.nextStore.comp = 1 ∧ s.comp.open_ = [] ∧ s.comp.capturing = false then
    ((s.putNext { s.nextStore with comp := 2 }).inc 0x4002 0x05).put 0x4001 0x01 0
  else s

/-- A bad mark on a tile of a store, for as long as its frame stays there (R64, R65, R267). -/
def State.markBad (s : State) (store q : Nat) : State :=
  let f := s.storeAt store
  s.putStore store { f with
    tiles := f.tiles.map fun (t : Tile) => if t.q = q then { t with bad := true } else t }

/-- The base tile of a queue in the next store, decoded on a verify decoder: absent, bad and newly
created tiles are transparent; one that stops is marked, counted and logged (R65, R88). -/
def State.baseTile (s : State) (lane q : Nat) : Bytes × State :=
  let m := s.mode
  let n := m.rawSize (m.bandOf q) (m.colOf q)
  match s.nextStore.tile? q with
  | none => (zeros n, s)
  | some t =>
    let d := decodeStream n (m.tileW (m.colOf q)) t.stream
    let store := 1 - s.ingress.sel
    if t.bad then (zeros n, s)
    else if d.reason = 0 then (d.raw, s)
    else (zeros n, (s.markBad store q).reportBad store (gateClane + lane) q d)

/-- Compression lanes that are idle and may take a tile (R75, R92, R308). -/
def State.idleClanes (s : State) : List Nat :=
  (List.range 16).filter fun k =>
    s.ve 0x3820 k 0x03 == 0 && s.ve 0x3820 k 0x04 == 0 && s.gateOpen? (gateClane + k)

/-- What ECC finds in the store as the base tile is read: an uncorrectable word in its stream or directory
entry makes it bad without a reason (R265, R267). -/
def State.baseEcc (s : State) (q : Nat) (ecc : List Ecc) : State :=
  let broken := ecc.any fun e => e.uncorrectable && s.stageRegion e == 3 - s.ingress.sel
  let s1 := s.eccAll ecc
  if broken then s1.markBad (1 - s1.ingress.sel) q else s1

/-- The layers of a tile whose source reaches where DRAM answers with an error: one error response each
on port 3 (R287). -/
def State.layerFaults (s : State) (m : Mode) (q : Nat) : State :=
  (s.comp.layers.filter fun l => (l.touches m).contains q).foldl (fun (st : State) l =>
    let a := st.ve 0x3020 l.buf 0x01
    let k := st.dramFault a ((l.srcH - 1) * l.stride + l.srcW * bpp l.format)
    if k = 0 then st else st.errorResponse 3 k a) s

/-- TILE_COMPRESS_START (R92): the lowest touched queue goes to the lowest idle lane, which decodes,
blends and compresses it; the result of a tile of the captured plane is kept for the capture (R94). -/
def State.doCompressStart (s : State) (ecc : List Ecc) : State :=
  match s.comp.todo, s.idleClanes with
  | q :: rest, k :: _ =>
    let m := s.mode
    let (base, s0) := (s.baseEcc q ecc).baseTile k q
    let s1 := s0.layerFaults m q
    let src := s1.blendTile m q base
    let (stream, bySize) := compress (s.v 0x3800 0x01) (m.tileW (m.colOf q)) src
    let f := s1.nextStore
    let job : CompressJob := {
      lane := k, q := q, source := src, stream := stream, bySize := bySize,
      dark := allClear src, store := 1 - s.ingress.sel, frameId := (f.number, f.cue) }
    ({ s1 with
      comp := { s1.comp with
        todo := rest,
        captured := if s.comp.capturing && queuePlane q == s.comp.capPlane then
            tput q src s1.comp.captured
          else s1.comp.captured },
      codec := { s1.codec with cjobs := job :: s1.codec.cjobs } }).pute 0x3820 k 0x03 1
  | _, _ => s

/-- What a lane shows when it has no tile: fenced or idle (R75). -/
def State.clanRest (s : State) (k : Nat) : State :=
  s.pute 0x3820 k 0x03 (if s.ve 0x3820 k 0x04 = 1 then 2 else 0)

/-- 3801.04: compression lanes not fenced. -/
def State.showClanes (s : State) : State :=
  s.put 0x3801 0x04 ((List.range 16).filter fun k => s.ve 0x3820 k 0x04 == 0).length

/-- The owner's act on 3820[k].04 (R75): a lane at work finishes its tile first. -/
def State.ownClane (s : State) (k v : Nat) : State :=
  let s1 := s.putKept 0x3820 k 0x04 v
  (if s.ve 0x3820 k 0x03 = 1 then s1 else s1.clanRest k).showClanes

/-- A verify mismatch (R75): counted and logged; the second within 4 096 consecutive tiles of a lane
fences it. -/
def State.verifyMismatch (s : State) (k : Nat) : State :=
  let near := match tget? k s.codec.sinceMismatch with
    | some n => decide (n < 4096)
    | none => false
  let s1 := ((s.inc 0x3802 0x08).ince 0x3820 k 0x02).log
    { dom := domUnit, idx := gateClane + k, level := if near then 1 else 0, sev := 1,
      object := 0x3820, element := k, member := 0x02, cause := 0, d1 := 0, d2 := 0 }
  let s2 := { s1 with codec := { s1.codec with sinceMismatch := tput k 0 s1.codec.sinceMismatch } }
  if near then (s2.putKept 0x3820 k 0x04 1).showClanes else s2

/-- Writes a result into the next store, or removes its tile when it is all clear; it counts as
received (R76, R89). -/
def State.storeResult (s : State) (j : CompressJob) (stream : Bytes) : State :=
  let f := s.nextStore
  let got := if f.received.contains j.q then f.received else j.q :: f.received
  if j.dark then
    s.putNext { f with received := got, tiles := f.tiles.filter fun t => t.q != j.q }
  else
    let x := { f with received := got }.insert s.mode { q := j.q, stream := stream, bad := false }
    ((s.putNext x.frame).add 0x3002 0x09 x.bandDrops).add 0x3002 0x0A x.granuleDrops

/-- COMPRESSION_DONE (R75, R76): the verified stream replaces the tile in the next store; a result
whose frame is no longer there is discarded and counted in 3802.0A. -/
def State.doCompressionDone (s : State) (k : Nat) (mismatch : Bool) : State :=
  match s.codec.cjobs.find? fun j => j.lane == k with
  | none => s
  | some j =>
    let count := match tget? k s.codec.sinceMismatch with
      | some n => tput k (n + 1) s.codec.sinceMismatch
      | none => s.codec.sinceMismatch
    let s1 := { s with codec := { s.codec with
      cjobs := s.codec.cjobs.filter (fun x => x.lane != k), sinceMismatch := count } }
    let s2 := s1.ince 0x3820 k 0x01
    let s3 := if j.bySize then s2.inc 0x3802 0x09 else s2
    let s4 := (if mismatch then s3.verifyMismatch k else s3).clanRest k
    let f := s4.nextStore
    if j.store = 1 - s4.ingress.sel ∧ j.frameId = (f.number, f.cue) ∧ f.comp = 1 then
      let s5 := s4.storeResult j (if mismatch then 0x40#8 :: j.source else j.stream)
      ({ s5 with comp := { s5.comp with
        open_ := s5.comp.open_.filter (· != j.q) } }).endComposition
    else s4.inc 0x3802 0x0A

/-! ### Capture (R94) -/

/-- One row of the captured plane: composed tiles as they were composed, the others decoded; absent tiles,
and those whose stream stops, as zero bytes. The latter are not counted as bad here (DESIGN CHOICE, log
entry 94). -/
def State.captureRow (s : State) (m : Mode) (plane y : Nat) : Bytes :=
  (List.range m.cols).flatMap fun c =>
    let b := y / 64
    let w := m.tileW c
    let n := m.rawSize b c
    let q := queueOf plane (m.tileIndex b c)
    match tget? q s.comp.captured, s.nextStore.tile? q with
    | some raw, _ => slice raw (y % 64 * w * 4) (4 * w)
    | none, none => zeros (4 * w)
    | none, some t =>
      let d := decodeStream n w t.stream
      if d.reason = 0 then slice d.raw (y % 64 * w * 4) (4 * w) else zeros (4 * w)

/-- CAPTURE_DONE (R94): once the composed tiles of the plane are written, the image stands in its slot
and 4001.04 and 4001.05 show it; after an error response they do not (R287). -/
def State.doCaptureDone (s : State) : State :=
  let c := s.comp
  if c.capturing ∧ s.nextStore.comp = 1 ∧ (c.open_.all fun q => queuePlane q != c.capPlane) then
    let m := s.mode
    let image := (List.range m.v).flatMap (s.captureRow m c.capPlane)
    let r := s.dramWrite 4 (c.capBase + c.capSlot * (4 * m.h * m.v)) image
    let s1 := { r.2 with comp := { r.2.comp with capturing := false } }
    let s2 := if r.1 then
        ((s1.put 0x4001 0x04 s1.nextStore.contentNo).put 0x4001 0x05 c.capSlot).inc 0x4002 0x07
      else s1
    s2.endComposition
  else s

/-! ### Meanings -/

/-- COMPOSITION_START (R82, R84, R91). -/
def execCompositionStart (t : Nat) (s : State) : Result := .next (s.enter t).doCompositionStart

/-- TILE_COMPRESS_START (R73, R88, R92, R265, R267). -/
def execTileCompressStart (read : StageRead) (s : State) : Result :=
  guarded (eccOk read.ecc) ((s.enter read.t).doCompressStart read.ecc)

/-- COMPRESSION_DONE (R46, R75, R76). -/
def execCompressionDone (t lane : Nat) (mismatch : Bool) (s : State) : Result :=
  guarded (decide (lane < 16)) ((s.enter t).doCompressionDone lane mismatch)

/-- CAPTURE_DONE (R94). -/
def execCaptureDone (t : Nat) (s : State) : Result := .next (s.enter t).doCaptureDone

end Sys2Proof.Machine
end

