-- ==== Sys2Proof/Machine/Synthesis.lean ====
section
/-!
DEFINITION. Decoding for every fret and the ray synthesis array (R20 to R22, R64, R66 to R72, R96 to
R118): dispatch, bands, rays, commits, deadlines and self-tests.
-/

namespace Sys2Proof.Machine

/-! ### Windows (R20) -/

/-- The synthesis window of a fret opens for the codec and the array (R20). -/
def State.openWindow (s : State) (frame fret : Nat) : State :=
  { s with
    codec := { s.codec with
      window := true, fret := fret, nextBand := 0, band := none, list := [], jobs := [],
      buf0 := BandBuf.empty, buf1 := BandBuf.empty,
      tested := fret != 0 && s.codec.tested },
    ray := { s.ray with
      window := true, frame := frame, fret := fret, band := none, engines := [], done := 0,
      staging := [], missed := [], tested := fret != 0 && s.ray.tested } }

/-- Work for a fret that will not be displayed is abandoned without a count (R147). -/
def State.closeWindows (s : State) : State :=
  { s with
    codec := { s.codec with
      window := false, band := none, list := [], jobs := [], buf0 := BandBuf.empty,
      buf1 := BandBuf.empty },
    ray := { s.ray with window := false, band := none, engines := [], staging := [] } }

/-- The band decode buffer of a band: the two take turns (R67). -/
def State.bufOf (s : State) (b : Nat) : BandBuf := if b % 2 = 0 then s.codec.buf0 else s.codec.buf1
def State.putBuf (s : State) (b : Nat) (x : BandBuf) : State :=
  if b % 2 = 0 then { s with codec := { s.codec with buf0 := x } }
  else { s with codec := { s.codec with buf1 := x } }

/-! ### Dispatch and decoding (R64, R67) -/

/-- The band in decode ends when no tile is on a lane and none waits (R67). -/
def State.endBand (s : State) : State :=
  match s.codec.band with
  | none => s
  | some b =>
    if s.codec.jobs = [] ∧ s.codec.list = [] then
      let s1 := s.putBuf b { s.bufOf b with ended := true }
      { s1 with codec := { s1.codec with band := none } }
    else s

/-- Pairs lanes with the tiles at the front of a list. -/
def giveTiles : List Nat → List (Nat × Nat) → List DecodeJob × List (Nat × Nat)
  | l :: ls, x :: xs =>
    let r := giveTiles ls xs
    ({ lane := l, slot := x.1, q := x.2 } :: r.1, r.2)
  | _, xs => ([], xs)

/-- BAND_DISPATCH (R67, R112): the occupied tiles of the next band below the plane cap and without a
bad mark, in ascending queue number, go to slots and lanes; tiles at or above the cap are skipped,
and each is counted once for the frame. -/
def State.doBandDispatch (s : State) : State :=
  let m := s.figures
  let b := s.codec.nextBand
  if s.codec.window && s.codec.band.isNone && decide (b < m.bands) && (s.bufOf b).band.isNone then
    let here := s.curStore.tiles.filter fun t => m.bandOf t.q == b
    let pc := s.v 0x4801 0x02
    let skip := (here.filter fun t => decide (pc ≤ queuePlane t.q)).map (·.q)
    let fresh := skip.filter fun q => !(s.ray.skipped.contains q)
    let todo := (here.filter fun t => decide (queuePlane t.q < pc) && !t.bad).map (·.q)
    let given := giveTiles (s.inState dlanes 0) ((List.range todo.length).zip todo)
    let s1 := { s with
      codec := { s.codec with
        nextBand := b + 1, band := some b, jobs := given.1, list := given.2 },
      ray := { s.ray with skipped := s.ray.skipped ++ fresh } }
    ((s1.putBuf b { band := some b, ended := false, slots := [] }).add 0x4802 0x02
      fresh.length).endBand
  else s

/-- The lane takes its next tile from the list while it is active (R67, R72). -/
def State.nextTile (s : State) (lane : Nat) : State :=
  match s.codec.list with
  | x :: xs =>
    if s.ve 0x3810 lane 0x01 = 0 then
      { s with codec := { s.codec with
          list := xs,
          jobs := ({ lane := lane, slot := x.1, q := x.2 } : DecodeJob) :: s.codec.jobs } }
    else s
  | [] => s

/-- TILE_DECODE_DONE (R62 to R64, R67, R267): the tile's bytes stand in its slot, or the tile is bad
and its slot absent. An uncorrectable word in its stream or directory entry makes it bad without a
reason. -/
def State.doTileDecodeDone (s : State) (lane : Nat) (ecc : List Ecc) : State :=
  match s.codec.jobs.find? fun j => j.lane == lane, s.codec.band with
  | some j, some b =>
    let s1 := { s with codec := { s.codec with
      jobs := s.codec.jobs.filter fun x => x.lane != lane } }
    let broken := ecc.any fun e => e.uncorrectable && s.stageRegion e == 2 + s.ingress.sel
    let s2 := s1.eccAll ecc
    let m := s.figures
    let c := m.colOf j.q
    let s3 := match s2.curStore.tile? j.q with
      | none => s2
      | some t =>
        if broken then s2.markBad s2.ingress.sel j.q
        else
          let d := decodeStream (m.rawSize b c) (m.tileW c) t.stream
          if d.reason = 0 then
            let buf := s2.bufOf b
            s2.putBuf b { buf with
              slots := buf.slots ++ [({ slot := j.slot, q := j.q, raw := d.raw } : BandSlot)] }
          else (s2.markBad s2.ingress.sel j.q).reportBad s2.ingress.sel (gateDlane + lane) j.q d
    (s3.nextTile lane).endBand
  | _, _ => s

/-! ### Rays (R96 to R105) -/

/-- What a fret's rays depend on besides the decoded band: mode, fret, device frame, S, plane cap,
central mode, edge mode, fret direction, lenslet order, disparities. -/
structure RaySetup where
  m : Mode
  fret : Nat
  frame : Nat
  sv : Nat
  cap : Nat
  central : Bool
  edge : Nat
  fretDir : Nat
  lensOrder : Nat
  d : List Int
  slots : List BandSlot
  band : Nat

/-- f' of R97. -/
def RaySetup.fretIndex (x : RaySetup) : Nat := if x.fretDir = 0 then x.fret else x.m.f - 1 - x.fret

/-- Mirror columns of a group under a hogel, ρ (R98). -/
def RaySetup.rho (x : RaySetup) : Nat := x.m.lw / x.sv

/-- View offset numerator of a group (R98). -/
def RaySetup.num (x : RaySetup) (g : Nat) : Int :=
  if x.central then 0
  else 2 * ((x.fretIndex * x.m.lw + g * x.rho : Nat) : Int) + (x.rho : Int) - (x.m.views : Int)

/-- Sub-view of a mirror column's lenslet position (R97). -/
def RaySetup.subView (x : RaySetup) (k : Nat) : Nat := if x.lensOrder = 0 then x.m.lw - 1 - k else k

/-- Group of a mirror column (R98). -/
def RaySetup.groupOf (x : RaySetup) (col : Nat) : Nat := x.subView (col % x.m.lw) / x.rho

/-- The premultiplied value of hogel `h` in row `r` of the band on a plane (R100). -/
def RaySetup.hogel (x : RaySetup) (p r h : Nat) : Pm :=
  let c := h / 128
  match x.slots.find? fun sl => sl.q == queueOf p (x.m.tileIndex x.band c) with
  | none => Pm.clear
  | some sl =>
    let u := hogelAt sl.raw (r * x.m.tileW c + h % 128)
    premultiply u.1 u.2.1 u.2.2.1 u.2.2.2

/-- A hogel at any column: beyond the edge it follows 4800.06 (R102). -/
def RaySetup.hogelEdge (x : RaySetup) (p r : Nat) (i : Int) : Pm :=
  if 0 ≤ i ∧ i < x.m.h then x.hogel p r i.toNat
  else if x.edge = 0 then Pm.clear
  else x.hogel p r (min i.toNat (x.m.h - 1))

/-- The shift of a plane in 1/64 hogel (R101). -/
def RaySetup.shift (x : RaySetup) (p g : Nat) : Int :=
  (x.d.getD p 0 * x.num g + 8 * x.m.views) / (16 * x.m.views)

/-- The sample of a plane for a ray (R101). -/
def RaySetup.sample (x : RaySetup) (p r h g : Nat) : Pm :=
  let xs : Int := 64 * (h : Int) + x.shift p g
  let i := xs / 64
  let f := (xs % 64).toNat
  let a := x.hogelEdge p r i
  let b := x.hogelEdge p r (i + 1)
  let mix := fun u v => ((64 - f) * u + f * v + 32) / 64
  { r := mix a.r b.r, g := mix a.g b.g, b := mix a.b b.b, a := mix a.a b.a }

/-- Compositing front to back, from plane `p` on, `n` planes at most (R103). -/
def RaySetup.composite (x : RaySetup) (r h g : Nat) : Nat → Nat → Pm → Pm
  | 0, _, acc => acc
  | n + 1, p, acc =>
    let u := x.sample p r h g
    let c := fun v t => v + rdiv (t * (65535 - acc.a)) 65535
    let acc' : Pm := { r := c acc.r u.r, g := c acc.g u.g, b := c acc.b u.b, a := c acc.a u.a }
    if 65343 ≤ acc'.a then acc' else x.composite r h g n (p + 1) acc'

/-- Dither threshold (R104). -/
def ditherT (frame fret r h g : Nat) : Nat :=
  let bayer := [[0, 8, 2, 10], [12, 4, 14, 6], [3, 11, 1, 9], [15, 7, 13, 5]]
  4 * (bayer.getD (r % 4) []).getD (h % 4) 0 + [0, 2, 1, 3].getD ((frame + g + fret) % 4) 0

/-- Reduction of an accumulated colour to 10 bits (R104). -/
def reduce10 (c t : Nat) : Nat := ((c * 65472 + 32767) / 65535 + t) / 64

/-- The three 10-bit outputs of a ray (R103, R104); `row` counts from the top of the tile. -/
def RaySetup.ray (x : RaySetup) (r h g : Nat) : List Nat :=
  let acc := x.composite r h g (min x.cap x.d.length) 0 Pm.clear
  let t := ditherT x.frame x.fret (64 * x.band + r) h (if x.central then 0 else g)
  [reduce10 acc.r t, reduce10 acc.g t, reduce10 acc.b t]

/-- Rays of one row, by synthesised column j = h × S + g (R106). -/
def RaySetup.rowRays (x : RaySetup) (r : Nat) : List (List Nat) :=
  (List.range (x.m.h * x.sv)).map fun j => x.ray r (j / x.sv) (j % x.sv)

/-- The byte `i` of a row of image 10c + k (R105). -/
def RaySetup.imageByte (x : RaySetup) (rays : List (List Nat)) (c k i : Nat) : Byte :=
  BitVec.ofNat 8 ((List.range 8).foldl (fun a t =>
    let col := 8 * i + t
    let bit := if col < x.m.h * x.m.lw then
        (rays.getD (col / x.m.lw * x.sv + x.groupOf col) []).getD c 0 / 2 ^ k % 2
      else 0
    a * 2 + bit) 0)

/-- The image bytes of a band: address in the copy and byte, images in ascending order (R105). -/
def RaySetup.bandBytes (x : RaySetup) : List (Nat × Byte) :=
  let rb := x.m.rowBytes
  (List.range (x.m.tileH x.band)).flatMap fun r =>
    let rays := x.rowRays r
    (List.range 30).flatMap fun q => (List.range rb).map fun i =>
      (q * x.m.v * rb + (64 * x.band + r) * rb + i, x.imageByte rays (q / 10) (q % 10) i)

/-- The set-up for the window that is open. -/
def State.raySetup (s : State) (b : Nat) : RaySetup :=
  { m := s.figures, fret := s.ray.fret, frame := s.ray.frame, sv := max 1 (s.v 0x4801 0x01),
    cap := s.v 0x4801 0x02, central := s.b 0x4801 0x03, edge := s.v 0x4800 0x06,
    fretDir := s.v 0x4800 0x03, lensOrder := s.v 0x4800 0x04,
    d := match s.curStore.header with
      | none => []
      | some h => h.d
    slots := (s.bufOf b).slots, band := b }

/-- The two hogels of an uncorrectable word of a band decode buffer read as zero (R267). -/
def BandBuf.zeroWord (x : BandBuf) (offset : Nat) : BandBuf :=
  { x with slots := x.slots.map fun (sl : BandSlot) =>
      if sl.slot = offset / 32768 then
        let o := offset % 32768
        { sl with raw := (sl.raw.take o ++ zeros 8 ++ sl.raw.drop (o + 8)).take sl.raw.length }
      else sl }

/-- BAND_SYNTHESIS_START (R106, R108, R267): the array takes the next band once the codec has ended
it; with no active engine it never starts. -/
def State.doBandSynthesis (s : State) (ecc : List Ecc) : State :=
  let b := s.ray.done
  if s.ray.window && s.ray.band.isNone && (s.bufOf b).band == some b && (s.bufOf b).ended &&
      decide (0 < s.enginesActive) then
    let region := 4 + b % 2
    let holes := (ecc.filter fun e => e.uncorrectable && s.stageRegion e == region).map s.stageOffset
    let s1 := s.putBuf b (holes.foldl BandBuf.zeroWord (s.bufOf b))
    let s2 := s1.eccAll ecc
    { s2 with ray := { s2.ray with
        band := some b, engines := s2.inState engines 0,
        staging := ((s2.raySetup b).bandBytes.foldl
          (fun mem e => mwrite mem e.1 e.2) []) } }
  else s

/-- Replaces the tag of a band (R143). -/
def putTag (t : Tag) (l : List Tag) : List Tag := t :: l.filter fun u => u.band != t.band

/-- The copy of the fret output buffer that is not displayed takes bytes (R21). -/
def State.hiddenCopy (s : State) : FretCopy := if s.seq.copySel = 0 then s.ray.copy1 else s.ray.copy0
def State.shownCopy (s : State) : FretCopy := if s.seq.copySel = 0 then s.ray.copy0 else s.ray.copy1
def State.putHidden (s : State) (c : FretCopy) : State :=
  if s.seq.copySel = 0 then { s with ray := { s.ray with copy1 := c } }
  else { s with ray := { s.ray with copy0 := c } }

/-- A byte address of a copy lies in the rows of a band (R105). -/
def Mode.inBand (m : Mode) (b a : Nat) : Bool :=
  let r := a / m.rowBytes % m.v
  decide (64 * b ≤ r ∧ r < 64 * b + 64)

/-- The deadline cycle of the window that is open has come (R20): the start of slot 29 of the fret on
display, or before fret 0 the start of the load of its plane 0 once its frame has begun. In glide, where
fret 0 follows the wheel, the deadline is SYNTHESIS_DEADLINE alone. -/
def State.pastDeadline (s : State) : Bool :=
  let m := s.figures
  if s.ray.fret = 0 then
    s.target?.isNone && s.v 0x5001 0x01 == s.ray.frame && decide (s.seq.frameStart + m.preload ≤ s.now)
  else decide (s.seq.fretStart + m.slotStart 29 ≤ s.now)

/-- BAND_COMMIT (R21, R108, R143, R267): the band is committed to the copy of the coming fret with its
tag, and its decode buffer is released. A band whose staging holds an uncorrectable word is not
committed. Nothing is committed in the deadline cycle or later. -/
def State.doBandCommit (s : State) (ecc : List Ecc) : State :=
  match (if s.pastDeadline then none else s.ray.band) with
  | none => s
  | some b =>
    let bad := ecc.any fun e => e.uncorrectable && s.stageRegion e == 6
    let s1 := s.eccAll ecc
    let s2 := s1.putBuf b BandBuf.empty
    let s3 := { s2 with ray := { s2.ray with
      band := none, engines := [], done := b + 1, staging := [],
      missed := if bad then s2.ray.missed ++ [b] else s2.ray.missed } }
    if bad then s3
    else
      let m := s.figures
      let old := s3.hiddenCopy
      let kept := old.bytes.filter fun e => !(m.inBand b e.1)
      s3.putHidden {
        bytes := s.ray.staging.foldl (fun mem e => mwrite mem e.1 e.2) kept,
        tags := putTag { band := b, frame := s.ray.frame, fret := s.ray.fret } old.tags }

/-! ### The deadline (R20, R22, R70, R115) -/

/-- The bands that are not committed at the deadline. -/
def State.lateBands (s : State) : List Nat :=
  s.ray.missed ++ ((List.range s.figures.bands).filter fun b => decide (s.ray.done ≤ b))

/-- SYNTHESIS_DEADLINE (R20): the codec abandons its bands (R70), and each band that is not committed
is counted as reused and recorded (R22, R115, R144). -/
def State.doDeadline (s : State) : State :=
  if s.ray.window then
    let m := s.figures
    let abandoned := (m.bands - s.codec.nextBand) + (if s.codec.band.isSome then 1 else 0)
    let late := s.lateBands
    let s1 := (s.add 0x3802 0x0C abandoned).add 0x4802 0x01 late.length
    let s2 := match late.getLast? with
      | none => s1
      | some b =>
        (((s1.inc 0x4802 0x07).put 0x4803 0x01 s.ray.frame).put 0x4803 0x02 s.ray.fret).put 0x4803 0x03 b
    let s3 := s2.closeWindows
    { s3 with ray := { s3.ray with late := (late.map fun (b : Nat) =>
        ({ band := b, frame := s.ray.frame, fret := s.ray.fret } : Tag)) ++ s3.ray.late } }
  else s

/-! ### Self-tests (R71, R117) -/

/-- One unit's self-test result: a failure is counted; two in consecutive frames, or one of a returned
unit, fence the unit, from the next fret boundary (R71, R72, R117). `runs` are the counts of
consecutive failing frames; `due` the fences that wait. -/
structure TestRun where
  s : State
  runs : Tbl Nat
  due : List Nat

def TestRun.unit (p : Pool) (counter : Nat × Nat) (failing : List Nat) (x : TestRun) (n : Nat) : TestRun :=
  if failing.contains n then
    let s1 := (x.s.ince p.object n 0x03).inc counter.1 counter.2
    let returned := x.s.ve p.object n 0x01 == 3
    let k := tget 0 n x.runs + 1
    if returned || decide (2 ≤ k) then
      let s2 := (s1.putKept p.object n 0x02 1).log
        { dom := domUnit, idx := p.gate + n, level := 1, sev := 1, object := p.object, element := n,
          member := 0x03, cause := 0, d1 := 0, d2 := 0 }
      { s := if returned then (s2.pute p.object n 0x01 2).showUnits else s2,
        runs := tset 0 n 0 x.runs, due := if returned then x.due else x.due ++ [n] }
    else { s := s1, runs := tset 0 n k x.runs, due := x.due }
  else { s := x.s.testPassed p n, runs := tset 0 n 0 x.runs, due := x.due }

/-- DECODE_SELFTEST (R71, R72): once in the window of fret 0, after its last band; returned lanes are
tested in that window whatever 3800.02 holds, and while display is stopped. A frame without a test, also
one in which 3800.02 reads 0, keeps every lane's count of consecutive failing frames (R71; for 3800.02
DESIGN CHOICE, log entry 90). -/
def State.doDecodeSelftest (s : State) (failing : List Nat) : State :=
  let inWindow := s.codec.window && s.codec.fret == 0 &&
    decide (s.figures.bands ≤ s.codec.nextBand) && s.codec.band.isNone
  if !s.seq.running || inWindow then
    let full := s.seq.running && s.b 0x3800 0x02 && !s.codec.tested
    let units := (List.range dlanes.units).filter (s.testTakes dlanes full)
    let r := units.foldl (TestRun.unit dlanes (0x3802, 0x0D) failing)
      { s := s, runs := s.codec.failRuns, due := s.codec.fenceDue }
    { r.s with codec := { r.s.codec with
      failRuns := r.runs, fenceDue := r.due, tested := s.seq.running } }
  else s

/-- ENGINE_SELFTEST (R117): once in the window of fret 0, after its last band was committed and when none
was late; returned engines are tested whatever 4800.07 holds, and while display is stopped. -/
def State.doEngineSelftest (s : State) (failing : List Nat) : State :=
  let inWindow := s.ray.window && s.ray.fret == 0 && decide (s.figures.bands ≤ s.ray.done) &&
    s.ray.missed == [] &&
    s.ray.band.isNone
  if !s.seq.running || inWindow then
    let full := s.seq.running && s.b 0x4800 0x07 && !s.ray.tested
    let units := (List.range engines.units).filter (s.testTakes engines full)
    let r := units.foldl (TestRun.unit engines (0x4802, 0x06) failing)
      { s := s, runs := s.ray.failRuns, due := s.ray.fenceDue }
    { r.s with ray := { r.s.ray with
      failRuns := r.runs, fenceDue := r.due, tested := s.seq.running } }
  else s

/-- Fences that wait take effect (R72, R116). -/
def State.applyFences (s : State) : State :=
  let s1 := s.codec.fenceDue.foldl (fun st n => st.fenceUnit dlanes n) s
  let s2 := s.ray.fenceDue.foldl (fun st n => st.fenceUnit engines n) s1
  { s2 with codec := { s2.codec with fenceDue := [] }, ray := { s2.ray with fenceDue := [] } }

/-! ### The choice of views and planes (R111 to R114) -/

/-- The RAY ratio x of R111: the larger of the ratio now and the one its ramp is heading for. -/
def State.rayRatio (s : State) : Nat := 
  max (s.ve 0x2010 6 0x01) (max (s.ve 0x2010 6 0x02) (s.ve 0x2010 6 0x03))

/-- The largest plane count from `n` down to 1 that fits with S = 1. -/
def State.largestCap (s : State) (md : Mode) (window x e m : Nat) : Nat → Option Nat
  | 0 => none
  | n + 1 =>
    if s.fits md window 1 (n + 1) x e m then some (n + 1) else s.largestCap md window x e m n

/-- The choice of S and Pc for the coming frame (R111 to R113), with the figures of that frame, its
synthesis window W1, and whether central mode is requested. -/
def State.chooseViews (s : State) (md : Mode) (central : Bool) : State :=
  let x := s.rayRatio
  let e := s.enginesActive
  let m := s.lanesActive
  let planes := match s.curStore.header with
    | none => 1
    | some h => h.planes
  let sm := if central then 1 else min (s.v 0x4800 0x01) md.lw
  let pl := min planes (s.v 0x4800 0x02)
  let cands := [4, 2, 1].filter fun k => decide (k ≤ sm)
  let fitting := cands.filter fun k => s.fits md md.window1 k (min pl (md.pmax k)) x e m
  let (sv, pc, state) := match fitting with
    | k :: _ => (k, min pl (md.pmax k), if k = sm then 0 else 1)
    | [] =>
      match s.largestCap md md.window1 x e m (min pl (md.pmax 1)) with
      | some c => (1, c, 2)
      | none => (1, 1, 3)
  let s1 := (((((((s.put 0x4801 0x01 sv).put 0x4801 0x02 pc).put 0x4801 0x03
    (if central then 1 else 0)).put 0x4801 0x04 e).put 0x4801 0x06 x).put 0x4801 0x07
    (md.finish sv pc x e m)).put 0x4801 0x08 state)
  let s2 := { s1 with ray := { s1.ray with skipped := [], central := central } }
  match state with
  | 1 => s2.inc 0x4802 0x03
  | 2 => s2.inc 0x4802 0x04
  | 3 => (s2.inc 0x4802 0x05).log (noteSpec 1 0x4802 0 0x05 0 x (e * 65536 + m))
  | _ => s2

/-! ### Meanings -/

/-- BAND_DISPATCH (R67, R112). -/
def execBandDispatch (t : Nat) (s : State) : Result := .next (s.enter t).doBandDispatch

/-- TILE_DECODE_DONE (R62 to R64, R67, R265 to R268). -/
def execTileDecodeDone (t lane : Nat) (ecc : List Ecc) (s : State) : Result :=
  guarded (decide (lane < 272) && eccOk ecc) ((s.enter t).doTileDecodeDone lane ecc)

/-- DECODE_SELFTEST (R71, R72). -/
def execDecodeSelftest (t : Nat) (failing : List Nat) (s : State) : Result :=
  guarded (failing.all (decide <| · < 272)) ((s.enter t).doDecodeSelftest failing)

/-- BAND_SYNTHESIS_START (R100 to R108, R267). -/
def execBandSynthesisStart (t : Nat) (ecc : List Ecc) (s : State) : Result :=
  guarded (eccOk ecc) ((s.enter t).doBandSynthesis ecc)

/-- BAND_COMMIT (R21, R108, R143, R267). -/
def execBandCommit (t : Nat) (ecc : List Ecc) (s : State) : Result :=
  guarded (eccOk ecc) ((s.enter t).doBandCommit ecc)

/-- ENGINE_SELFTEST (R117). -/
def execEngineSelftest (t : Nat) (failing : List Nat) (s : State) : Result :=
  guarded (failing.all (decide <| · < 136)) ((s.enter t).doEngineSelftest failing)

end Sys2Proof.Machine
end

