-- ==== Sys2Proof/Machine/Panel.lean ====
section
/-!
DEFINITION. Panel drive (07): command blocks, reset groups and bias phase, plane loads with row
skipping and cutoff, temperature bands, waveform tables, rails, clear-before-light, park and
discharge, panel faults and the panel's part of drone mode.
-/

namespace Sys2Proof.Machine

/-! ### Command blocks (R150, R152) -/

/-- The lanes of a half, and those in service (R150, R257). -/
def halfLanes (h : Nat) : List Nat := (List.range 64).map fun k => 64 * h + k
def State.liveLanes (s : State) (h : Nat) : List Nat := (halfLanes h).filter s.laneServes

/-- A lane of the mapping carries blocks: in service, and without a break since the mapping was made. -/
def State.carries (s : State) (lane : Nat) : Bool :=
  s.laneServes lane && !((s.half (lane / 64)).gone.contains lane)

/-- A payload filled up with zeros to 64 bytes. -/
def pad64 (bs : Bytes) : Bytes := bs ++ zeros (64 - bs.length)

/-- Sends a command block on the given lanes of the mapping that are in service. -/
def State.sendPanel (s : State) (lanes : List Nat) (payload : Bytes) : State :=
  (lanes.filter s.carries).foldl (fun st lane => st.sendBlock lane 3 (pad64 payload) []) s

/-- The highest-ranked in-service lane of a half's mapping. -/
def State.topLane (s : State) (h : Nat) : List Nat :=
  (((s.half h).mapped.filter s.carries).getLast?).toList

/-- Every row hash of a half is invalid (R159). -/
def State.dropAllHashes (s : State) (h : Nat) : State := s.putHalf h { s.half h with hashes := [] }

/-- CONFIG on every in-service lane of a half (R152, R159). -/
def State.sendConfig (s : State) (h : Nat) : State :=
  let m := s.mode
  let x := s.half h
  (s.sendPanel x.mapped ([0x08#8, 0#8, 0#8, 0#8] ++ beBytes 2 m.hb ++ beBytes 2 m.v ++
    beBytes 1 x.mapped.length ++ beBytes 1 h)).dropAllHashes h

/-- The hash of a row of zeros (R159). -/
def Mode.zeroHash (m : Mode) : Nat := crc32c (zeros (m.hb / 8))

/-- FILL of every shadow row of a half with a value (R152, R159). -/
def State.sendFill (s : State) (h : Nat) (v : Byte) : State :=
  let s1 := s.sendPanel (s.half h).mapped [0x03#8, 0#8, 0#8, 0#8, v]
  if v = 0#8 then
    let z := s.mode.zeroHash
    s1.putHalf h { s1.half h with hashes := (List.range s.mode.v).map fun r => (r, z) }
  else s1.dropAllHashes h

/-- The phase counter c of a half, 5801.08 or 5801.09, and its advance (R161). -/
def State.phase (s : State) (h : Nat) : Nat := s.v 0x5801 (0x08 + h)
def State.advancePhase (s : State) (h : Nat) : State :=
  s.put 0x5801 (0x08 + h) ((s.phase h + 1) % 2 ^ 32)

/-- The bias phases of the groups of a half: group k at (h + k + c) mod 2 (R161). -/
def phaseMask (h c : Nat) : Nat :=
  (List.range 8).foldl (fun w k => w + (h + k + c) % 2 * 2 ^ k) 0

/-- BIAS_ON for every group (R152, R161). -/
def State.sendBias (s : State) (h : Nat) : State :=
  s.sendPanel (s.topLane h) [0x06#8, 0#8, 0#8, 0#8, 0xFF#8, BitVec.ofNat 8 (phaseMask h (s.phase h))]

/-- The half's RESET blocks name the band that its last STATUS gave (R163). -/
def State.applyBand (s : State) (h : Nat) : State :=
  s.putHalf h { s.half h with band := s.v 0x5801 (0x02 + h) }

/-- Lanes of a half on which blocks of the load that ended were dropped send their two flush blocks, in the
two slots after the RESET (R252). -/
def State.flushLanes (s : State) (h : Nat) : State :=
  ((s.half h).mapped.filter fun l => (s.group l).flushDue).foldl (fun (st : State) l =>
    (st.putGroup l { st.group l with flushDue := false }).sendFlush l) s

/-- RESET of every group of a half, a timed command (R152, R153, R161, R163). While display is stopped
a band change applies from the next RESET. The fine delay places the reset between line bits; the spec
gives no value for it, so it is a free one. -/
def State.sendReset (s : State) (h : Nat) : State :=
  let s1 := if s.v 0x5001 0x03 = 0 then s.applyBand h else s
  let (fine, s2) := s1.draw 560
  (match s2.topLane h with
  | lane :: _ =>
    s2.sendBlock lane 7 (pad64 ([0x02#8, 0#8, 0#8, 0#8, 0xFF#8,
      BitVec.ofNat 8 (phaseMask h (s2.phase h))] ++
      beBytes 1 (s2.ve 0x5811 (s2.half h).band 0x01) ++ [0#8] ++ beBytes 2 fine)) []
  | [] => s2).flushLanes h

/-! ### Plane loads (R150 to R158) -/

/-- A block belongs to a plane load: row data or PLANE_OPEN. -/
def Held.ofLoad (b : Held) : Bool := b.kind == 1 || (b.kind == 3 && b.payload.head? == some 0x01#8)

/-- The load window ends (R154, R252, R257): rows with a block not sent or awaiting replay (`late`), or
on a lane that has left service, are undelivered and lose their hashes; the others are delivered and
their hashes are kept. On a lane whose blocks of the load are dropped, two flush blocks are due. -/
def State.closeLoad (s : State) (h : Nat) (late : List Nat) : State :=
  let x := s.half h
  let n := x.mapped.length
  let queued := (x.mapped.map fun lane =>
    ((s.group lane).queue.filter Held.ofLoad).flatMap Held.rows).flatten
  let bad := fun (r : Nat) => late.contains r || queued.contains r ||
    !(s.carries (x.mapped.getD (r % n) 0))
  let lost := (x.rows.map Prod.fst).filter bad
  let kept := x.rows.filter fun e => !(bad e.1)
  let hashes := kept.foldl (fun (t : Tbl Nat) e => tput e.1 e.2 t)
    (x.hashes.filter fun e => !(lost.contains e.1))
  let s1 := (s.putHalf h { x with hashes := hashes, rows := [] }).add 0x5802 0x01 kept.length
  let s2 := if lost = [] then s1 else (s1.add 0x5802 0x03 lost.length).inc 0x5802 0x04
  x.mapped.foldl (fun (st : State) lane =>
    let g := st.group lane
    let stays := fun (b : Held) => !(b.rows.any lost.contains)
    let q := g.queue.filter fun b => !b.ofLoad
    let held := g.held.filter stays
    let dropped := decide (q.length < g.queue.length) || decide (held.length < g.held.length)
    st.putGroup lane { g with
      queue := q, held := held, closed := some g.txSeq, flushDue := g.flushDue || dropped }) s2

/-- The row mask of segment `g` of a lane's PLANE_OPEN (R152). -/
def rowMask (rows : List Nat) (g : Nat) : Bytes :=
  (List.range 56).map fun k => BitVec.ofNat 8 ((List.range 8).foldl (fun w b =>
    if rows.contains (448 * g + 8 * k + b) then w + 2 ^ b else w) 0)

/-- The data blocks of a lane: its rows packed end to end, with the rows that each block carries. -/
def dataBlocks (bytes : Bytes) (rows : List Nat) (rb : Nat) : List (Bytes × List Nat) :=
  (List.range (cdiv bytes.length 64)).map fun x =>
    (pad64 (slice bytes (64 * x) 64),
     (rows.drop (64 * x / rb)).take ((64 * x + 63) / rb + 1 - 64 * x / rb))

/-- One lane's part of a plane load (R151, R244): PLANE_OPEN blocks, row data and one filler. -/
def State.loadLane (s : State) (h p rank lane : Nat) (rows : List Nat) (data : Nat → Bytes) : State :=
  let m := s.mode
  let n := (s.half h).mapped.length
  let segs := cdiv (cdiv m.v n) 448
  let idx := rows.map (· / n)
  let s1 := (List.range segs).foldl (fun (st : State) g =>
    st.sendBlock lane 3 (pad64 ([0x01#8, 0#8] ++ beBytes 2 p ++ beBytes 1 n ++ beBytes 1 rank ++
      beBytes 1 g ++ beBytes 1 segs ++ rowMask idx g)) rows) s
  let s2 := (dataBlocks (rows.flatMap data) rows (m.hb / 8)).foldl
    (fun (st : State) b => st.sendBlock lane 1 b.1 b.2) s1
  s2.sendBlock lane 0 (zeros 64) []

/-- A plane load of a half (R150 to R152, R157, R158): a row is left out when its hash is valid and
unchanged and no forced refresh falls on it. -/
def State.load (s : State) (h : Nat) (all : Bool) (data : Nat → Bytes) : State :=
  let s0 := (s.closeLoad h []).flushLanes h
  let x := s0.half h
  let n := x.mapped.length
  if n = 0 then s0
  else
    let m := s0.mode
    let p := (x.load + 1) % 65536
    let d := s0.v 0x5800 0x08
    let skip := s0.b 0x5800 0x09 && !all
    let rows := (List.range m.v).map fun r => (r, crc32c (data r))
    let forced := fun (r : Nat) => decide (0 < d) && (r / n + p) % d == 0
    let sent := rows.filter fun e => !(skip && tget? e.1 x.hashes == some e.2 && !(forced e.1))
    let s1 := (s0.putHalf h { x with load := p, rows := sent }).add 0x5802 0x02 (m.v - sent.length)
    (List.range n).foldl (fun (st : State) rank =>
      let lane := x.mapped.getD rank 0
      if st.carries lane then
        st.loadLane h p rank lane ((sent.map Prod.fst).filter fun r => r % n == rank) data
      else st) s1

/-- The level of a pattern pixel for a colour at mirror column and row (R132). -/
def Service.level (v : Service) (c col row : Nat) : Nat :=
  let q := 2 ^ v.patPeriod
  let lit := match v.patKind with
    | 0 => true
    | 1 => col / q % 2 == 0
    | 2 => row / q % 2 == 0
    | _ => (col / q + row / q) % 2 == 0
  if lit then v.patLevel / 2 ^ (20 - 10 * c) % 1024 else 0

/-- A row of a half of a pattern image (R105, R132). -/
def Service.row (v : Service) (m : Mode) (h c k r : Nat) : Bytes :=
  (List.range (m.hb / 8)).map fun i => BitVec.ofNat 8 ((List.range 8).foldl (fun a t =>
    a * 2 + v.level c (h * m.hb + 8 * i + t) r / 2 ^ k % 2) 0)

/-- The half sends the pattern in place of the fret output buffer (R130, R132). -/
def State.patterned (s : State) (h : Nat) : Bool :=
  (s.serviced h && s.seq.service.activity != 0) || (!s.seq.service.independent && s.seq.service.pattern)

/-- The half latches planes: it takes part in display, is not parked, and shows or is in lit pattern
(R130). -/
def State.latching (s : State) (h : Nat) : Bool :=
  let x := s.half h
  x.joined && x.park == 0 && (s.showing h || (s.serviced h && s.seq.service.activity == 2))

/-- The half is in load test: it takes loads, and its resets are suppressed (R130). A panel fault parks it
(R167). -/
def State.loadTest (s : State) (h : Nat) : Bool :=
  s.serviced h && s.seq.service.activity == 1 && !(s.half h).lack && !s.panel.faulted

/-- The half takes loads: it latches, or is in load test (R130). -/
def State.loading (s : State) (h : Nat) : Bool := s.latching h || s.loadTest h

/-- An uncorrectable word of a copy of the fret output buffer reads as eight zero bytes (R267). -/
def wipe (mem : List Host.Cell) (o : Nat) : List Host.Cell :=
  mem.filter fun c => !(decide (o ≤ c.1 ∧ c.1 < o + 8))

/-- The load of plane j of fret f begins on every half that takes loads (R19, R127, R151); on a half in load
test 5000.06 root cycles later (R130). -/
def State.loadPlane (s : State) (copy : Nat) (f j : Nat) (ecc : List Ecc) : State :=
  let m := s.mode
  let c := slotColour f j
  let k := slotBit f j
  let cells := ((ecc.filter fun e => e.uncorrectable && s.stageRegion e == copy).map
    s.stageOffset).foldl wipe (if copy = 0 then s.ray.copy0 else s.ray.copy1).bytes
  let svc := s.seq.service
  ([0, 1].filter s.loading).foldl (fun (st : State) h =>
    st.atCycle (st.now + if st.loadTest h then svc.delay else 0) fun x => x.load h false fun r =>
      if st.patterned h then svc.row m h c k r
      else mreads cells (((10 * c + k) * m.v + r) * m.rowBytes + h * (m.hb / 8)) (m.hb / 8)) s

/-- The slot's load (R18, R19): slot j < 29 loads plane j + 1 of the fret shown; slot 29 loads plane 0
of the next fret from the other copy, but for the last fret of a frame, whose next plane 0 is loaded in
the nut gap. -/
def State.slotLoad (s : State) (f j : Nat) (ecc : List Ecc) : State :=
  if j < 29 then s.loadPlane s.seq.copySel f (j + 1) ecc
  else if f + 1 < s.figures.f then s.loadPlane (1 - s.seq.copySel) (f + 1) 0 ecc
  else s

/-- Every latching half is reset for a slot (R153, R161); a half in load test has no reset, and its flush
blocks go out at once. -/
def State.slotResets (s : State) : State :=
  ([0, 1].filter s.loading).foldl (fun (st : State) h =>
    if s.latching h then st.sendReset h else st.flushLanes h) s

/-! ### Panel state, lanes (R156) -/

/-- 5801.01, which stays at 7 while the panel is faulted, and at 6 in drone mode. -/
def State.panelState (s : State) (v : Nat) : State :=
  if s.panel.faulted then s else s.put 0x5801 0x01 (if s.v 0x5001 0x03 = 4 then 6 else v)

/-- Every rail is up (R165). -/
def State.railsUp (s : State) : Bool :=
  s.v 0x5801 0x04 / 16 == 15 && s.panel.rail == 0

/-- The panel-clear flag of a half. -/
def State.putClear (s : State) (h : Nat) (b : Bool) : State := s.putBit 0x5801 0x05 h b

/-- Parks the halves given (R167): loads stop, and PARK goes to every group of those under bias. -/
def State.park (s : State) (hs : List Nat) : State :=
  let biased := hs.filter fun h => (s.half h).park == 0
  hs.foldl (fun (st : State) h =>
    let st1 := ((st.closeLoad h []).flushLanes h).putClear h false
    let x := st1.half h
    let y := { x with joined := false, clearing := false, clearLeft := 0 }
    if biased.contains h then
      (st1.putHalf h { y with park := 1, dstep := 0, both := decide (biased.length = 2) }).sendPanel
        (st1.topLane h) [0x04#8, 0#8, 0#8, 0#8, 0xFF#8] |>.dropAllHashes h
    else st1.putHalf h y) s

/-- The end of the emission window of slot 29 of the fret on display. -/
def State.lastWindowEnd (s : State) : Nat :=
  let m := s.figures
  s.seq.fretStart + m.slotStart 29 + m.settle + m.w

/-- Parking for a stop begins at the end of the emission window of slot 29 of fret F - 1 (R147, R167), unless
drone mode follows (R169). No command stands for that moment: what comes first after it finds the park begun
then (DEDUCED, log entry 23). -/
def State.stopPark (s : State) : State :=
  if s.seq.running && s.v 0x5001 0x03 == 5 && !s.seq.droneDue && !s.seq.inGap && s.seq.slots == 30 &&
      s.v 0x5001 0x02 + 1 == s.figures.f && decide (s.lastWindowEnd ≤ s.now) then
    s.atCycle s.lastWindowEnd fun x => x.park [0, 1]
  else s

/-- Clear-before-light begins on a half with this many exercise latches (R166). -/
def State.startClear (s : State) (h count : Nat) : State :=
  let s1 := (s.closeLoad h []).putClear h false
  let s2 := s1.putHalf h { s1.half h with
    park := 0, dstep := 0, clearing := true, clearLeft := count, clearTotal := count, lack := false }
  let s3 := (((s2.sendConfig h).sendFill h 0#8).sendBias h).sendReset h
  if s3.displayRuns && ((s3.half 0).joined || (s3.half 1).joined) then s3 else s3.panelState 2

/-- Exercise latches of the short form (R166). -/
def shortForm : Nat := 16

/-- The half's lane mapping follows its lanes in service (R156, R257): while the panel load condition
holds it changes with CONFIG; when it fails the half parks. A half that was parked for lack of lanes
returns by the short form. -/
def State.remap (s : State) (h : Nat) : State :=
  let x := s.half h
  let want := s.liveLanes h
  if want = x.mapped ∧ x.gone = [] ∧ !x.lack then s
  else if s.mode.loadFits want.length then
    let s0 := (s.closeLoad h []).flushLanes h
    let s1 := (s0.putHalf h { s0.half h with mapped := want, gone := [] }).put 0x5801 (0x06 + h) want.length
    if x.lack then
      if s1.railsUp ∧ !s1.panel.faulted then
        let s2 := s1.startClear h shortForm
        s2.putHalf h { s2.half h with joined := s2.displayRuns }
      else s1.putHalf h { s1.half h with lack := false }
    else s1.sendConfig h
  else if x.lack then s.put 0x5801 (0x06 + h) want.length
  else
    let s1 := (s.inc 0x5802 0x09).log (domSpec domPort (8 + h) 1 1 0x5802 0 0x09)
    let s2 := (s1.park [h]).put 0x5801 (0x06 + h) want.length
    s2.putHalf h { s2.half h with lack := true }

/-! ### Rails (R165, R168) -/

/-- The panel lanes of both halves that are not out of service begin their bring-up (R255). -/
def State.bringUpPanel (s : State) : State :=
  ((List.range 128).filter fun l => s.laneState l != 3).foldl (fun (st : State) l =>
    (((st.putGroup l Group.reset).putLane l LaneRec.reset).pute 0x7010 l 0x01 0).beginBringUp l) s

/-- Power-good of rail n after its enable (R165): the delay to the next enable, or the rails are up and the
panel lanes begin their bring-up (R255). -/
def State.pgGood (s : State) (n : Nat) : State :=
  if n = 3 then ({ s with panel := { s.panel with rail := 0, railNo := 0 } }).bringUpPanel
  else { s with panel := { s.panel with rail := 2, railNo := n } }

/-- Asserts enable n (R165). -/
def State.railEnable (s : State) (n : Nat) : State :=
  let s1 := s.putBit 0x5801 0x04 (4 + n) true
  if s.bit 0x5801 0x04 n then s1.pgGood n
  else { s1 with panel := { s1.panel with rail := 1, railNo := n } }

/-- The rails come up (R165) when 5800.0F = 1 and no rail sequence runs; not after a power failure. -/
def State.railsOn (s : State) : State :=
  if s.panel.faulted ∨ s.v 0x5800 0x0F ≠ 1 ∨ s.panel.rail ≠ 0 ∨ s.railsUp ∨ s.clock.pfailRun then s
  else (s.panelState 1).railEnable 0

/-- Every rail is down; a request to power the panel that came meanwhile is served. -/
def State.railsOff (s : State) : State :=
  (({ s with panel := { s.panel with rail := 0, railNo := 0 } }).panelState 0).railsOn

/-- Panel rails go down one step: the highest asserted enable is released (R165). Kind 3 waits 5800.05
between releases, kind 4 is that of R168. -/
def State.railRelease (s : State) (kind : Nat) : State :=
  let en := s.v 0x5801 0x04 / 16
  match [3, 2, 1, 0].find? fun n => en.testBit n with
  | none => s.railsOff
  | some n =>
    let s1 := s.putBit 0x5801 0x04 (4 + n) false
    if s1.v 0x5801 0x04 / 16 = 0 then s1.railsOff
    else { s1 with panel := { s1.panel with rail := kind, railNo := n } }

/-- Rails go down: neither half is clear any more, and the next clear is a full one. -/
def State.railsDown (s : State) (kind : Nat) : State :=
  let s1 := (s.putClear 0 false).putClear 1 false
  let s2 := s1.putHalf 0 { s1.half 0 with needFull := true, park := 3, clearing := false }
  let s3 := s2.putHalf 1 { s2.half 1 with needFull := true, park := 3, clearing := false }
  s3.railRelease kind

/-- A power-good is not seen in time (R165). -/
def State.pgFails (s : State) : State :=
  let s1 := (s.railsDown 3).inc 0x5802 0x08
  let s2 := (s1.log (domSpec domPort 8 1 1 0x5802 0 0x08)).put 0x5801 0x01 7
  { s2 with panel := { s2.panel with faulted := true } }

/-- Discharge of a half is complete (R165, R167, R168): rails follow after a power failure and after a
write of 0 to 5800.0F. -/
def State.parked (s : State) : State :=
  let a := (s.half 0).park
  let b := (s.half 1).park
  if a = 3 ∧ b = 3 then
    if s.clock.pfailRun then s.railsDown 4
    else if s.v 0x5800 0x0F = 0 then s.railsDown 3
    else s.panelState 5
  else s

/-- A discharge step of a half: group s of both halves together, groups 2s and 2s + 1 alone (R167). When
the last one has ended, the half's forward lanes go to sleep (R263; DESIGN CHOICE, log entry 92). -/
def State.discharge (s : State) (h : Nat) : State :=
  let x := s.half h
  let steps := if x.both then 8 else 4
  if x.dstep < steps then
    let mask := if x.both then 2 ^ x.dstep else 3 * 4 ^ x.dstep
    (s.putHalf h { x with park := 2, dstep := x.dstep + 1 }).sendPanel (s.topLane h)
      [0x05#8, 0#8, 0#8, 0#8, BitVec.ofNat 8 mask]
  else ((s.putHalf h { x with park := 3, dstep := 0 }).sleepHalf h).parked

/-! ### Drone mode (R169, R170) and panel faults (R167) -/

/-- Drone mode ends: the strings are blanked, the slate stays latched, every hash is invalid, the short form
is due. -/
def State.endDrone (s : State) : State :=
  if s.v 0x5001 0x03 = 4 then
    let s0 := s.darken (List.range 16)
    let s1 := ((s0.put 0x5001 0x03 0).put 0x5800 0x0A 0).panelState 3
    let s2 := (s1.dropAllHashes 0).dropAllHashes 1
    let s3 := s2.putHalf 0 { s2.half 0 with short := true, joined := false }
    s3.putHalf 1 { s3.half 1 with short := true, joined := false }
  else s

/-- A panel fault (R167), counted in the given member of 5802. -/
def State.panelFault (s : State) (m : Nat) : State :=
  if s.panel.faulted then s
  else
    let s1 := (s.endDrone.blankAll 5).park [0, 1]
    let s2 := ((s1.put 0x5801 0x01 7).inc 0x5802 m).log (domSpec domPort 8 1 1 0x5802 0 m)
    (({ s2 with panel := { s2.panel with faulted := true } }).dropAllHashes 0).dropAllHashes 1

/-- A write of 1 to 5800.10 (R167): the blanking is released and clear-before-light runs; rails that are
down come up first. -/
def State.rearmPanel (s : State) : State :=
  if !s.panel.faulted then s
  else
    let s1 := { s with panel := { s.panel with faulted := false } }.releaseAll 5
    let s2 := s1.putHalf 0 { s1.half 0 with needFull := true }
    let s3 := (s2.putHalf 1 { s2.half 1 with needFull := true }).panelState 5
    if s3.railsUp ∧ s3.v 0x5801 0x04 % 16 = 15 then
      ([0, 1].filter fun h => !(s3.half h).lack && !(s3.half h).mapped.isEmpty).foldl
        (fun (st : State) h => st.startClear h (st.v 0x5800 0x06)) s3
    else s3.railsOn

/-- The rays of a slate under central mode (R98, R169): a mirror is set when its green value reaches
5800.0E. A tile whose stream stops is absent (R64). -/
def State.slateOfView (s : State) : List Host.Cell :=
  let m := s.mode
  let th := s.v 0x5800 0x0E
  let f := s.curStore
  let d := match f.header with
    | none => []
    | some h => h.d
  (List.range m.bands).foldl (fun (mem : List Host.Cell) b =>
    let slots := f.tiles.filterMap fun (t : Tile) =>
      let d := decodeStream (m.rawSize b (m.colOf t.q)) (m.tileW (m.colOf t.q)) t.stream
      if m.bandOf t.q = b ∧ !t.bad ∧ d.reason = 0 then
        some ({ slot := 0, q := t.q, raw := d.raw } : BandSlot)
      else none
    let x : RaySetup := { m := m, fret := 0, frame := s.v 0x5001 0x01, sv := 1, cap := 64, central := true,
                          edge := s.v 0x4800 0x06, fretDir := s.v 0x4800 0x03,
                          lensOrder := s.v 0x4800 0x04, d := d, slots := slots, band := b }
    (List.range (m.tileH b)).foldl (fun (mem : List Host.Cell) r =>
      let rays := x.rowRays r
      mwrites mem ((64 * b + r) * m.rowBytes) ((List.range m.rowBytes).map fun i =>
        BitVec.ofNat 8 ((List.range 8).foldl (fun a t =>
          let col := 8 * i + t
          a * 2 + (if col < m.h * m.lw ∧ th ≤ (rays.getD (col / m.lw) []).getD 1 0 then 1 else 0)) 0))) mem) []

/-- The device takes the slate (R169): dark, the DRAM image at 5800.0C, of which what cannot be read is dark
(R287), or the central view. -/
def State.takeSlate (s : State) : State :=
  let m := s.mode
  match s.v 0x5800 0x0B with
  | 1 =>
    let n := m.rowBytes * m.v
    let (r, s1) := s.dramReadZero 5 (n / s.grain + 2) (s.v 0x5800 0x0C) n
    { s1 with panel := { s1.panel with slate := mwrites [] 0 r } }
  | 2 => { s with panel := { s.panel with slate := s.slateOfView } }
  | _ => { s with panel := { s.panel with slate := [] } }

/-- The halves that show the slate: those that are not parked. -/
def State.droneHalves (s : State) : List Nat := [0, 1].filter fun h => (s.half h).park == 0

/-- The root cycle until which a refresh of the slate that begins now keeps the strings dark (R200):
SETTLE after its reset, which comes 5800.01 after the RESET block (R153). A block takes 120 root cycles,
the load those of the busiest lane (R153, R155; DEDUCED, log entry 95). -/
def State.refreshEnd (s : State) : Nat :=
  let m := s.mode
  let load := s.droneHalves.foldl (fun a h => max a (m.loadBlocks (s.half h).mapped.length)) 0
  s.now + 120 * (load + 1) + s.v 0x5800 0x01 + m.settle

/-- The strings are dark until a root cycle: gates of the drone period that reach past it open then
(R200). -/
def State.droneDark (s : State) (t : Nat) : State :=
  let s1 := (s.cutSamples (List.range 16)).emits (allStrings.map Output.gateDark)
  ({ s1 with panel := { s1.panel with darkUntil := t } }).emits
    ((s1.bridge.droneGates.filter fun (g : Nat × Nat × Nat) => decide (t < g.2.2)).map
      fun (g : Nat × Nat × Nat) =>
      Output.gate g.1 (max g.2.1 t) g.2.2)

/-- A refresh of the slate (R169, R200): every row, then a RESET of every group with c advanced, while the
strings are dark. -/
def State.refreshSlate (s0 : State) : State :=
  let s := s0.droneDark s0.refreshEnd
  let m := s.mode
  let slate := s.panel.slate
  s.droneHalves.foldl (fun (st : State) h =>
    ((((st.applyBand h).load h true fun r =>
      mreads slate (r * m.rowBytes + h * (m.hb / 8)) (m.hb / 8))).advancePhase h).sendReset h) s

/-- The device is in drone mode: slate, first refresh, and the members that show it (R169). -/
def State.beginDrone (s : State) : State :=
  let s1 := ((s.put 0x5001 0x03 4).panelState 6).takeSlate
  ({ s1 with seq := { s1.seq with droneDue := false } }).refreshSlate

/-! ### Bands, STATUS and waveform tables (R163, R164, R167) -/

/-- Threshold T1 to T7 in 1/16 °C (5810). -/
def State.bandThreshold (s : State) (k : Nat) : Int := toS 16 (s.ve 0x5810 (k - 1) 0x01)

/-- The band after a STATUS at temperature `T` (R163). -/
def State.bandAfter (s : State) (b : Nat) (T : Int) : Nat :=
  let ups := ((List.range 8).filter fun k => decide (b < k ∧ s.bandThreshold k ≤ T))
  match ups.getLast? with
  | some k => k
  | none =>
    if 0 < b ∧ T < s.bandThreshold b - 32 then
      (((List.range 8).filter fun k => decide (0 < k ∧ s.bandThreshold k - 32 ≤ T)).getLast?).getD 0
    else b

/-- A STATUS block's payload (R152, R154, R163, R164, R167). -/
def State.takeStatus (s : State) (h : Nat) (p : Bytes) : State :=
  let flags := statusFlags p % 16
  let w := s.v 0x5801 0x05
  let w' := (setBit w (2 + h) false) - (w / 2 ^ (4 + 4 * h) % 16) * 2 ^ (4 + 4 * h) +
    flags * 2 ^ (4 + 4 * h)
  let s1 := ((s.put 0x5801 0x05 w').put 0x5801 (0x0A + h) (ofS 16 (statusTemp p))).add 0x5802 0x05
    (statusRejects p)
  let b := s1.v 0x5801 (0x02 + h)
  let b' := s1.bandAfter b (statusTemp p)
  let s3 := if b' = b then s1 else (s1.put 0x5801 (0x02 + h) b').inc 0x5802 0x06
  let table := s3.ve 0x5811 (s3.half h).band 0x01
  let sent := s3.panel.waveSent.contains table || s3.ve 0x5812 table 0x02 == 1
  if flags % 8 ≠ 0 ∨ (flags.testBit 3 ∧ sent) then s3.panelFault 0x07 else s3

/-- A half can take a waveform table: its lane of rank 0 carries blocks (R152). -/
def State.takesWave (s : State) (h : Nat) : Bool := ((s.half h).mapped.take 1).any s.carries

/-- Sends a waveform table to a half, in chunks of 56 bytes (R152, R164). -/
def State.sendWave (s : State) (x : Nat × Nat) : State :=
  let tab := s.blob 0x5812 x.2 0x01
  (List.range (cdiv tab.length 56)).foldl (fun (st : State) c =>
    st.sendPanel ((st.half x.1).mapped.take 1)
      ([0x07#8, 0#8, 0#8, 0#8] ++ beBytes 1 x.2 ++ beBytes 1 c ++ beBytes 2 tab.length ++
        slice tab (56 * c) 56)) s

/-- Sends the waveform tables that wait to every half that can take them; a table has been sent when no half
waits for it any more (R164). -/
def State.sendWaves (s : State) : State :=
  if s.railsUp then
    let go := s.panel.waveDue.filter fun x => s.takesWave x.1
    let left := s.panel.waveDue.filter fun x => !(s.takesWave x.1)
    let done := ((go.map Prod.snd).filter fun n => !(left.any fun x => x.2 == n)).eraseDups
    let s1 := go.foldl State.sendWave s
    { s1 with panel := { s1.panel with
        waveSent := s.panel.waveSent.filter (fun n => !(done.contains n)) ++ done, waveDue := left } }
  else s

/-- A waveform table is written (R164): it waits for a nut gap; while display is stopped it is sent at
once. -/
def State.ownWave (s : State) (n : Nat) : State :=
  let s1 := s.pute 0x5812 n 0x02 0
  let s2 := { s1 with panel := { s1.panel with
    waveDue := s1.panel.waveDue.filter (fun x => x.2 != n) ++ [(0, n), (1, n)],
    waveSent := s1.panel.waveSent.filter (· != n) } }
  if s2.v 0x5001 0x03 = 0 then s2.sendWaves else s2

/-- Tables whose last chunk has been sent are in use from a fret boundary (R164). -/
def State.useWaves (s : State) : State :=
  let s1 := s.panel.waveSent.foldl (fun (st : State) n => st.pute 0x5812 n 0x02 1) s
  { s1 with panel := { s1.panel with waveSent := [] } }

/-! ### Frame and fret points -/

/-- The panel's part of a nut mark (R131, R156, R161, R164): lane mappings, halves that join display,
the nut-gap RESET in the opposite phase, and waveform tables. A half in clear-before-light has the
resets of that. -/
def State.nutPanel (s : State) : State :=
  let s1 := ([0, 1].filter fun h => !(s.half h).mapped.isEmpty).foldl State.remap s
  let s2 := [0, 1].foldl (fun (st : State) h =>
    let x := st.half h
    if x.park = 0 ∧ st.halfClear h ∧ !st.panel.faulted then st.putHalf h { x with joined := true }
    else st) s1
  let s3 := ([0, 1].filter fun h => s2.latching h && !(s2.half h).clearing).foldl
    (fun (st : State) h => (st.advancePhase h).sendReset h) s2
  (if (s3.half 0).joined || (s3.half 1).joined then s3.panelState 4 else s3).sendWaves

/-- The panel's part of a fret boundary (R161 to R164). -/
def State.fretPanel (s : State) : State :=
  let s1 := [0, 1].foldl State.applyBand s
  (([0, 1].filter s1.latching).foldl State.advancePhase s1).useWaves

/-- The service setting in force for display changes (R130, R131): a half that stops showing and is not
in lit pattern parks; one that returns to showing, or begins a lit pattern from a park, runs the short
form. -/
def State.changeService (s : State) (v : Service) : State :=
  let before := fun (h : Nat) => (s.showing h, s.serviced h && s.seq.service.activity == 2)
  let s1 := { s with seq := { s.seq with service := v } }
  let after := fun (h : Nat) => (s1.showing h, s1.serviced h && v.activity == 2)
  let off := [0, 1].filter fun h => !(after h).1 && !(after h).2 && ((before h).1 || (before h).2)
  let on := [0, 1].filter fun h =>
    ((after h).1 && !(before h).1) || ((after h).2 && (s1.half h).park != 0)
  let s2 := s1.park off
  on.foldl (fun (st : State) h =>
    let st1 := st.dropAllHashes h
    if st1.railsUp ∧ !st1.panel.faulted ∧ !(st1.half h).lack then
      let st2 := st1.startClear h shortForm
      st2.putHalf h { st2.half h with joined := st2.displayRuns }
    else st1) s2

/-! ### Meanings -/

def halfOk (h : Nat) : Bool := decide (h < 2)

/-- CLEAR_BEFORE_LIGHT (R156, R166): rails up, lanes enough, and the half parked: the full form after
the rails came up or after a fault, else the short one. -/
def State.doClear (s : State) (h : Nat) : State :=
  let s1 := s.remap h
  let x := s1.half h
  if s1.railsUp ∧ !s1.panel.faulted ∧ s1.v 0x5800 0x0F = 1 ∧ x.park = 3 ∧ !x.lack ∧ !x.mapped.isEmpty ∧
      !(s1.displayRuns && s1.serviced h) then
    (s1.startClear h (if x.needFull then s1.v 0x5800 0x06 else shortForm)).sendWaves
  else s1

/-- EXERCISE_LATCH (R161, R166). -/
def State.doLatch (s : State) (h : Nat) : State :=
  let x := s.half h
  if !x.clearing then s
  else
    let s1 := s.advancePhase h
    if 0 < x.clearLeft then
      let k := x.clearTotal - x.clearLeft + 1
      ((s1.putHalf h { s1.half h with clearLeft := x.clearLeft - 1 }).sendFill h
        (if k % 2 = 1 then 0xFF#8 else 0#8)).sendReset h
    else
      let s2 := (s1.sendFill h 0#8).sendReset h
      let s3 := (s2.putHalf h { s2.half h with clearing := false, needFull := false, short := false }).putClear
        h true
      let busy := (s3.half 0).joined || (s3.half 1).joined
      if s3.displayRuns && busy then s3.panelState 4
      else if (s3.half (1 - h)).clearing then s3
      else s3.panelState 3

/-- CLEAR_BEFORE_LIGHT (R166). -/
def execClearBeforeLight (t half : Nat) (s : State) : Result :=
  guarded (halfOk half) ((s.enter t).doClear half)

/-- EXERCISE_LATCH (R166). -/
def execExerciseLatch (t half : Nat) (s : State) : Result :=
  guarded (halfOk half) ((s.enter t).doLatch half)

/-- LOAD_CUTOFF (R154, R252). -/
def execLoadCutoff (t half : Nat) (undelivered : List Nat) (s : State) : Result :=
  guarded (halfOk half) ((s.enter t).closeLoad half undelivered)

/-- PANEL_STATUS_LOST (R167): the status-lost bit, counted once until STATUS returns. -/
def execPanelStatusLost (t half : Nat) (s : State) : Result :=
  let s1 := s.enter t
  guarded (halfOk half)
    (if s1.railsUp ∧ !(s1.bit 0x5801 0x05 (2 + half)) then
      (s1.putBit 0x5801 0x05 (2 + half) true).inc 0x5802 0x05
     else s1)

/-- A power-good is not given any more: a fault while its enable is asserted (R167). -/
def State.pgLost (s : State) (n : Nat) : State :=
  let s1 := s.putBit 0x5801 0x04 n false
  if s.bit 0x5801 0x04 n ∧ s1.bit 0x5801 0x04 (4 + n) then s1.panelFault 0x08 else s1

/-- A new level of PNL_PG[n] comes through the filter (R165, R392): a chattering input counts as power not
good (R393). -/
def State.pgLevel (s : State) (n : Nat) (good : Bool) : State :=
  let s1 := s.transitions (1 + n) 1
  if !good || s1.chatters (1 + n) then s1.pgLost n
  else
    let s2 := s1.putBit 0x5801 0x04 n true
    if s2.panel.rail = 1 ∧ s2.panel.railNo = n then s2.pgGood n else s2

/-- RAIL_DELAY_EXPIRY (R165, R168). -/
def execRailDelayExpiry (t : Nat) (s : State) : Result :=
  let s1 := s.enter t
  .next (match s1.panel.rail with
    | 2 => s1.railEnable (s1.panel.railNo + 1)
    | 3 => s1.railRelease 3
    | 4 => s1.railRelease 4
    | _ => s1)

/-- PG_TIMEOUT (R165). -/
def execPgTimeout (t : Nat) (s : State) : Result :=
  let s1 := s.enter t
  .next (if s1.panel.rail = 1 then s1.pgFails else s1)

/-- PARK_TIME_EXPIRY (R167): the first discharge step. A park for a stop may have begun before the nut
mark. -/
def execParkTimeExpiry (t half : Nat) (s : State) : Result :=
  let s1 := (s.enter t).stopPark
  guarded (halfOk half) (if (s1.half half).park = 1 then s1.discharge half else s1)

/-- DISCHARGE_STEP_EXPIRY (R167). -/
def execDischargeStepExpiry (t half : Nat) (s : State) : Result :=
  let s1 := s.enter t
  guarded (halfOk half) (if (s1.half half).park = 2 then s1.discharge half else s1)

/-- DRONE_REFRESH (R169, R190): a drone period, too, at which a release waits no longer. -/
def execDroneRefresh (t : Nat) (s : State) : Result :=
  let s1 := s.enter t
  .next (if s1.v 0x5001 0x03 = 4 then s1.refreshSlate else s1)

end Sys2Proof.Machine
end

