-- ==== Sys2Proof/Machine/Bridge.lean ====
section
/-!
DEFINITION. The bridge (08): plucks and amplitude codes, course links, blanking, pilots, string power
loops, linearity trims, freezes and thaws, and drone plucks.
-/

namespace Sys2Proof.Machine

/-! ### Tuning values (R196 to R198) -/

/-- The tuning that a string has from manufacture. -/
def factoryTune (n : Nat) : Tuning :=
  let v := fun (k : Nat) => Config.factoryTuning n k % 65536
  let sets := (List.range 5).map fun i =>
    ({ b := v (6 * i), k1 := v (6 * i + 1), k2 := v (6 * i + 2), k4 := v (6 * i + 3),
       k8 := v (6 * i + 4), cmax := v (6 * i + 5) } : TuningSet)
  { sets := sets, tgt := v 30, oldSets := sets, oldTgt := v 30 }

/-- The tuning of a string. -/
def State.tuning (s : State) (n : Nat) : Tuning := (tget? n s.bridge.tuning).getD (factoryTune n)

/-- The values of a set in the order B, K[1], K[2], K[4], K[8], Cmax. -/
def TuningSet.values (t : TuningSet) : List Nat := [t.b, t.k1, t.k2, t.k4, t.k8, t.cmax]

/-- Frames of the ramp that have run, 256 outside a ramp (R384, 2831[c].02). -/
def State.rampFrame (s : State) (course : Nat) : Nat := 256 - s.ve 0x2831 course 0x02

/-- A value while it ramps in (R384). -/
def ramped (old new j : Nat) : Int := (old : Int) + rdivs (((new : Int) - old) * j) 256

/-- Value `k` of set `i` of a string in force (R196, R384). -/
def State.setValue (s : State) (n i k : Nat) : Int :=
  let t := s.tuning n
  ramped (((t.oldSets.map TuningSet.values).getD i []).getD k 0)
    (((t.sets.map TuningSet.values).getD i []).getD k 0) (s.rampFrame (n / 3))

/-- The pilot target TGT in force. -/
def State.target (s : State) (n : Nat) : Int :=
  ramped (s.tuning n).oldTgt (s.tuning n).tgt (s.rampFrame (n / 3))

/-- Value `k` of a string interpolated for a temperature band (R198). -/
def State.tuned (s : State) (n band k : Nat) : Nat :=
  let i := min 3 (band / 10)
  let w : Nat := 40 * band - 400 * i
  let a := s.setValue n i k
  let b := s.setValue n (i + 1) k
  (a + rdivs ((b - a) * w) 400).toNat

/-- Index of K[a] among the values of a set. -/
def ampIndex (a : Nat) : Nat := if a = 8 then 4 else if a = 4 then 3 else if a = 2 then 2 else 1

/-- The trim of a string at a relative amplitude (R178, R193); trim[1] = 0. -/
def trimMember (a : Nat) : Nat := if a = 2 then 0x08 else if a = 4 then 0x09 else 0x0A
def State.trim (s : State) (n a : Nat) : Int :=
  if a = 1 then 0 else toS 16 (s.ve 0x6010 n (trimMember a))

/-- E_k of R178. -/
def Mode.roundFactor (m : Mode) (k : Nat) : Nat :=
  if 6 ≤ k then 32768 else rdiv (m.w * 32768) (2 ^ (6 - k) * m.dur k)

/-- The amplitude code of R178 before the limit of Cmax, with a gain and a trim. -/
def State.rawCode (s : State) (n band a ek g : Nat) (trim : Int) : Nat :=
  let x := rdiv (s.tuned n band (ampIndex a) * (32768 + trim).toNat) 32768
  let y := rdiv (x * g) 32768
  s.tuned n band 0 + rdiv (y * ek) 32768

/-- The amplitude code of a string (R178); one limited by Cmax is counted. -/
def State.code (s : State) (n a ek : Nat) : Nat × State :=
  let band := s.ve 0x6020 (n / 3) 0x03
  let c := s.rawCode n band a ek (s.ve 0x6010 n 0x07) (s.trim n a)
  let top := s.tuned n band 5
  if top < c then (top % 65536, (s.ince 0x6010 n 0x0B).inc 0x6002 0x09) else (c % 65536, s)

/-! ### Course links (R179 to R186) -/

/-- Sends a downlink frame on a course link (R182); with P = 1 it asks for a status frame, due from the
end of the frame (R185), which takes 1 040 root cycles (R181). -/
def State.sendDown (s : State) (c ty i : Nat) (m p : Bool) (code slot : Nat) : State :=
  let x := s.course c
  let s1 := (s.putCourse c { x with seq := (x.seq + 1) % 65536 }).emit
    (.downlink c (downlink ty i m p code slot c x.seq))
  if p then
    { s1 with bridge := { s1.bridge with expect := s1.bridge.expect ++
      [({ course := c, kind := 3, string := 0, amp := 0, seq := x.seq, fall := s.now + 1040 } : Expect)] } }
  else s1

/-- A sample is asked for: it is due from the fall of the gate (R185). -/
def State.expect (s : State) (x : Expect) : State :=
  { s with bridge := { s.bridge with expect := s.bridge.expect ++ [x] } }

/-- The frame that an uplink frame of a course answers: its sequence, and a kind that its type can
have. -/
def State.asked (s : State) (c seq : Nat) (kinds : List Nat) : Option Expect :=
  s.bridge.expect.find? fun (x : Expect) => x.course == c && x.seq == seq && kinds.contains x.kind

/-- An expected frame is no longer expected. -/
def State.unexpect (s : State) (x : Expect) : State :=
  { s with bridge := { s.bridge with expect := s.bridge.expect.erase x } }

/-! ### Freezing (R194, R195) -/

/-- A string freezes when a count of R194 reaches 16: its loop's integrators are frozen. -/
def State.freezeCheck (s : State) (n : Nat) : State :=
  let x := s.str n
  if x.frozen ∨ (x.monRun < 16 ∧ x.s1Run < 16) then s
  else
    (((s.putStr n { x with frozen := true, openLoop := false, goodRun := 0, goodFirst := none,
                           goodDiffer := false }).freezeLoop n true).inc 0x6002 0x07)

/-- A monitor sample of a string arrived, or was lost (R194, R195). -/
def State.monitor (s : State) (n : Nat) (v : Option Nat) : State :=
  let x := s.str n
  let s1 := match v with
    | some u => s.pute 0x6010 n 0x04 u
    | none => s
  let prev := if v.isSome then v else x.monPrev
  if x.frozen then
    match v with
    | none => s1.putStr n { x with goodRun := 0, goodFirst := none, goodDiffer := false }
    | some u => s1.putStr n { x with
        goodRun := x.goodRun + 1, goodFirst := some (x.goodFirst.getD u), monPrev := prev,
        goodDiffer := x.goodDiffer || (match x.goodFirst with
          | some w => w != u
          | none => false) }
  else
    let bad := v.isNone || v == x.monPrev
    (s1.putStr n { x with monRun := if bad then x.monRun + 1 else 0, monPrev := prev }).freezeCheck n

/-- A frozen string thaws at a valid s1 after 16 valid monitor samples that are not all equal (R195):
its slot is preset to the G in use (R208). -/
def State.thawCheck (s : State) (n : Nat) : State :=
  let x := s.str n
  if 16 ≤ x.goodRun ∧ x.goodDiffer then
    ((s.putStr n { x with frozen := false, openLoop := false, monRun := 0, s1Run := 0, goodRun := 0,
                          goodFirst := none, goodDiffer := false }).presetLoop n
      (s.ve 0x6010 n 0x07) 32768).freezeLoop n false
  else s

/-! ### Uplink frames (R183, R185, R186) -/

/-- The link of a course is lost (R186): the course is blanked, and the samples of its strings that are
outstanding, of whatever kind, are lost. A calibration whose present course it is ends (R386). -/
def State.loseLink (s : State) (c : Nat) : State :=
  let mons := s.bridge.expect.filter fun (x : Expect) => x.course == c && x.kind == 1
  let s1 := (s.pute 0x6020 c 0x04 3).putCourse c
    { s.course c with linkBlank := true, linkRelease := false, good := 0, lost := 0 }
  let s2 := ((mons.foldl (fun (st : State) x => st.monitor x.string none) s1).inc 0x6002 0x06)
  let s3 := s2.fastInhibit 6 [c]
  let s4 := { s3 with bridge := { s3.bridge with
    expect := s3.bridge.expect.filter fun (x : Expect) => x.course != c || x.kind == 3 } }
  if s.health.cal.any fun k => k.course == c then s4.calEnd else s4

/-- An expected uplink frame is lost (R185, R186). -/
def State.lostUp (s : State) (x : Expect) : State :=
  let c := x.course
  let s1 := ((s.unexpect x).ince 0x6020 c 0x07).inc 0x6002 0x05
  let s2 := if x.kind = 1 then s1.monitor x.string none else s1
  let r := s2.course c
  let s3 := s2.putCourse c { r with good := 0, lost := r.lost + 1 }
  if 4 ≤ r.lost + 1 ∧ s3.ve 0x6020 c 0x04 = 2 then s3.loseLink c else s3

/-- The oldest frame that a course owes is lost; the driver sends its frames in order (R185). -/
def State.loseOldest (s : State) (c : Nat) : State :=
  match s.bridge.expect.find? fun (x : Expect) => x.course == c with
  | some x => s.lostUp x
  | none => s

/-- An uplink frame is good (R183). -/
def upGood (f : BitVec 64) : Bool := frame64Ok f && decide (1 ≤ upType f ∧ upType f ≤ 3)

/-- Every course link enters training: the BRIDGE island starts (R186). -/
def State.trainCourses (s : State) : State :=
  let s1 := (List.range 16).foldl (fun (st : State) c => st.pute 0x6020 c 0x04 1) s
  { s1 with bridge := { s1.bridge with courses := [], expect := [] } }

/-- A good uplink frame ends a run of lost ones. -/
def State.courseHeard (s : State) (c : Nat) : State := s.putCourse c { s.course c with lost := 0 }

/-- The course's temperature band follows the case temperature (R197): it changes at the next fret
boundary or drone period, and is held during a calibration (R384). -/
def State.courseBand (s : State) (c : Nat) (T : Int) : State :=
  let r := s.course c
  let b := r.bandDue.getD (s.ve 0x6020 c 0x03)
  if s.calHolds c then s
  else if 52 < (T - (40 * (b : Int) - 320)).natAbs then
    let bn := min 40 (max 0 ((T + 340) / 40)).toNat
    s.putCourse c { r with bandDue := if bn = s.ve 0x6020 c 0x03 then none else some bn }
  else s

/-- A good status frame (R183, R185, R186, R188, R197). -/
def State.statusUp (s : State) (c : Nat) (f : BitVec 64) : State :=
  let T := toS 16 (upValue f)
  let fl := upFlags f
  let s0 := match s.asked c (upSeq f) [3] with
    | some x => s.unexpect x
    | none => s
  let s1 := ((s0.courseHeard c).pute 0x6020 c 0x02 (ofS 16 T)).pute 0x6020 c 0x05 fl
  let s2 := if fl.testBit 2 then (s1.ince 0x6020 c 0x06).inc 0x6002 0x04 else s1
  let r := s2.course c
  let s3 : State :=
    if s2.ve 0x6020 c 0x04 = 2 then s2
    else if 16 ≤ r.good + 1 then
      (s2.pute 0x6020 c 0x04 2).putCourse c { r with good := 0, linkRelease := r.linkBlank }
    else s2.putCourse c { r with good := r.good + 1 }
  let r3 := s3.course c
  let s4 : State :=
    if fl.testBit 0 || fl.testBit 1 || fl.testBit 3 then
      let x := s3.putCourse c { r3 with flagBlank := true, flagRelease := false, clean := 0 }
      if r3.flagBlank && !r3.flagRelease then x else x.fastInhibit 7 [c]
    else if r3.flagBlank then
      s3.putCourse c { r3 with clean := r3.clean + 1, flagRelease := decide (16 ≤ r3.clean + 1) }
    else s3
  let s5 := if s4.v 0x5001 0x03 = 0 then
      -- with no fret boundary to wait for, a release is at once
      let x := s4.course c
      s4.putCourse c { x with flagBlank := x.flagBlank && !x.flagRelease,
                              linkBlank := x.linkBlank && !x.linkRelease,
                              flagRelease := false, linkRelease := false }
    else s4
  s5.courseBand c T

/-! ### Pilots (R191 to R193) -/

/-- The relative amplitude of pilot i in device frame n (R191). -/
def pilotAmp (i n : Nat) : Nat := if i < 3 then 1 else if n % 3 = 0 then 2 else if n % 3 = 1 then 4 else 8

/-- The limits of the string power loop's output (R192). -/
def gainDest : LoopDest := { frac := 15, lo := 8192, hi := 65535 }

/-- The linearity trim step (R193); the spec states no quotient for a zero s1, so the new trim is then a
free value in its range. -/
def State.trimStep (s : State) (n a s1 sa : Nat) : State :=
  let x := s.str n
  let cur := match x.trimDue with
    | some (b, v) => if b = a then v else s.trim n a
    | none => s.trim n a
  let (new, st) :=
    if a * s1 = 0 then
      let (f, st) := s.draw 2623
      ((f : Int) - 1311, st)
    else
      let d := truncDiv (((a * s1 : Nat) : Int) * 512 - (sa : Int) * 512) ((a * s1 : Nat) : Int)
      (clampI (-1311) 1311 (cur + d), s)
  let st1 := st.putStr n { x with trimDue := some (a, new) }
  if new.natAbs = 1311 then st1.inc 0x6002 0x0B else st1

/-- The loop input of R192; none is stated for TGT = 0, so it is then a free value in its range. -/
def State.loopInput (s : State) (n sample : Nat) : Int × State :=
  let t := s.target n
  if t = 0 then
    let (f, st) := s.draw 65535
    ((f : Int) - 32767, st)
  else (clampI (-32767) 32767 (truncDiv ((t - sample) * 32768) t), s)

/-- A pilot sample s1 of a string (R192, R195). -/
def State.pilotFirst (s : State) (n v : Nat) : State :=
  let s1 := (s.pute 0x6010 n 0x05 v).putStr n { s.str n with s1 := some v }
  if (s1.str n).frozen then s1.thawCheck n
  else if s1.ve 0x6810 n 0x03 = 1 then s1
  else
    let (e, s2) := s1.loopInput n v
    let (g, s3) := s2.stepLoop n e 32768 gainDest
    s3.putStr n { s3.str n with gainDue := some g.toNat }

/-- A good sample frame of type 2: a pilot (R192, R193), or a calibration pluck (R381). -/
def State.pilotUp (s : State) (c : Nat) (f : BitVec 64) : State :=
  match s.asked c (upSeq f) [2, 4] with
  | none => s
  | some x =>
    let s1 := (s.unexpect x).courseHeard c
    let v := upValue f
    if x.kind = 4 then
      { s1 with health := { s1.health with cal := s1.health.cal.map fun (k : Cal) =>
          { k with diode := k.diode ++
              [(4 * (x.string % 3) + (if x.amp = 8 then 3 else if x.amp = 4 then 2 else x.amp - 1), v)] } } }
    else if x.amp = 1 then s1.pilotFirst x.string v
    else
      let s2 := s1.pute 0x6010 x.string 0x06 v
      match (s2.str x.string).s1 with
      | some u => if s2.b 0x6000 0x04 then s2.trimStep x.string x.amp u v else s2
      | none => s2

/-- A good monitor sample frame (R194). -/
def State.monitorUp (s : State) (c : Nat) (f : BitVec 64) : State :=
  match s.asked c (upSeq f) [1] with
  | none => s
  | some x => ((s.unexpect x).courseHeard c).monitor x.string (some (upValue f))

/-- An uplink frame of a course: a bad one is lost (R181, R183). -/
def State.uplink (s : State) (c : Nat) (f : BitVec 64) : State :=
  if !(upGood f) then s.loseOldest c
  else match upType f with
    | 1 => s.monitorUp c f
    | 2 => s.pilotUp c f
    | _ => s.statusUp c f

/-- The reference window of the frame fits (R124, R228). -/
def State.windowFits (s : State) : Bool :=
  let m := s.figures
  let gap := if s.v 0x5001 0x05 = 255 then m.gap
    else min m.gap ((s.modeSlot s.seq.glideFrom).derived s.seq.factor).gap
  let d := s.v 0x6800 0x0D
  decide (m.settle ≤ d) && decide (d + s.v 0x6800 0x0E ≤ gap - (m.ls - 1)) && !s.seq.overlap

/-- A frame ends: frames without a valid s1 in a row are counted, for whatever reason there is none
(R194; DEDUCED, log entry 33). -/
def State.judgePilots (s : State) : State :=
  allStrings.foldl (fun (st : State) n =>
    let x := st.str n
    (st.putStr n { x with s1Run := if x.s1.isNone then x.s1Run + 1 else 0, s1 := none }).freezeCheck n) s

/-- No s1 of an earlier frame is held when display starts. -/
def State.forgetPilots (s : State) : State :=
  allStrings.foldl (fun (st : State) n => st.putStr n { st.str n with s1 := none }) s

/-- REFERENCE_WINDOW_OPEN (R191, R228): the window opens, or the frame is counted in 6802.07. -/
def State.doWindow (s : State) : State :=
  if !s.seq.running then s
  else if s.windowFits then
    { s with bridge := { s.bridge with window := some (s.seq.frameStart + s.v 0x6800 0x0D) } }
  else ({ s with bridge := { s.bridge with window := none } }).inc 0x6802 0x07

/-- PILOT_FIRE (R191): the pilot frame, and the gate when the course may emit. -/
def State.doPilot (s : State) (c i : Nat) : State :=
  match s.bridge.window with
  | none => s
  | some w =>
    let n := 3 * c + i % 3
    let a := pilotAmp i (s.v 0x5001 0x01)
    let lit := s.courseLit c
    let (code, s1) := s.code n a 32768
    let seq := (s1.course c).seq
    let s2 := s1.sendDown c 2 (if lit then i % 3 else 3) lit false code 31
    if lit then
      let t := w + 20000 * i
      let fall := t + 18000 - s.ve 0x6010 n 0x02
      (s2.emit (.gate n (t + 10000 - s.ve 0x6010 n 0x01) fall)).expect
        { course := c, kind := 2, string := n, amp := a, seq := seq, fall := fall }
    else s2

/-! ### Slots and plucks (R175, R176, R184) -/

/-- The slot frames at the start of a display slot (R175, R178, R184); a blanked course's carries
i = 3. -/
def State.slotBridge (s : State) (f j : Nat) : State :=
  let m := s.figures
  let col := slotColour f j
  let k := slotBit f j
  let s0 := { s with bridge := { s.bridge with slotColour := col, slotBit := k, slotStart := s.now } }
  (List.range 16).foldl (fun (st : State) c =>
    let lit := st.courseLit c
    let (code, st1) := st.code (3 * c + col) (bitAmp k) (m.roundFactor k)
    st1.sendDown c 1 (if lit then col else 3) (k == 9) (j == 0) code j) s0

/-- Position of a pluck in the emission window (R176). -/
def State.pluckPos (s : State) (m : Mode) (k : Nat) : Nat :=
  if 6 ≤ k then 0
  else match s.v 0x6000 0x02 with
    | 0 => 0
    | 1 => (m.w - m.dur k) / 2
    | _ => m.w - m.dur k

/-- PLUCK (R175, R176): the gate of the course's string of the slot; bit 9 asks for a monitor sample. -/
def State.doPluck (s : State) (c : Nat) : State :=
  if !s.seq.running ∨ s.seq.inGap ∨ !(s.courseLit c) then s
  else
    let m := s.figures
    let k := s.bridge.slotBit
    let n := 3 * c + s.bridge.slotColour
    let open_ := s.bridge.slotStart + m.settle + s.pluckPos m k
    let fall := open_ + m.dur k - s.ve 0x6010 n 0x02
    let s1 := s.emit (.gate n (open_ - s.ve 0x6010 n 0x01) fall)
    if k = 9 then
      s1.expect { course := c, kind := 1, string := n, amp := 8, seq := ((s.course c).seq + 65535) % 65536,
                  fall := fall }
    else s1

/-- What falls due at a fret boundary or drone period (R186, R189, R190, R192, R193, R199): releases,
temperature bands, gains and trims, together. -/
def State.fretBridge (s : State) : State :=
  let s1 := (List.range 16).foldl (fun (st : State) c =>
    let r := st.course c
    match r.bandDue with
    | some b => ((st.putCourse c { r with bandDue := none }).pute 0x6020 c 0x03 b).inc 0x6002 0x0A
    | none => st) s.applyReleases
  allStrings.foldl (fun (st : State) n =>
    let x := st.str n
    let st1 := match x.gainDue with
      | some g => st.pute 0x6010 n 0x07 g
      | none => st
    let st2 := match x.trimDue with
      | some (a, v) => st1.pute 0x6010 n (trimMember a) (ofS 16 v)
      | none => st1
    if x.gainDue.isNone ∧ x.trimDue.isNone then st2
    else st2.putStr n { x with gainDue := none, trimDue := none }) s1

/-- Every trim is set to 0 (R193). -/
def State.linReset (s : State) : State :=
  allStrings.foldl (fun (st : State) n =>
    let st1 := ((st.pute 0x6010 n 0x08 0).pute 0x6010 n 0x09 0).pute 0x6010 n 0x0A 0
    if (st1.str n).trimDue.isSome then st1.putStr n { st1.str n with trimDue := none } else st1) s

/-- The strings at a start-up: closed loop with G = 1.0 and no trim (R193, R208). -/
def State.freshStrings (s : State) : State :=
  let s1 := allStrings.foldl (fun (st : State) n => st.pute 0x6010 n 0x07 32768) s.linReset
  { s1 with bridge := { s1.bridge with strings := [] } }

/-! ### Drone plucks (R200) -/

/-- DRONE_PERIOD (R189, R199, R200): the frames of the period on every course, and its gates, so far as no
slate refresh keeps the strings dark. -/
def State.doDronePeriod (s : State) : State :=
  if s.v 0x5001 0x03 ≠ 4 then s
  else
    let s0 := s.fretBridge
    let s1 := { s0 with bridge := { s0.bridge with droneGates := [] } }
    if !s1.permitted then s1
    else
      (List.range 48).foldl (fun (st : State) x =>
        let i := x / 16
        let c := x % 16
        let n := 3 * c + i
        let (code, st1) := st.code n 1 32768
        let t := st.now + [0, 16667, 33334].getD i 0
        let fall := t + 10000 + st.v 0x6000 0x03 - st.ve 0x6010 n 0x02
        let rise := max (t + 10000 - st.ve 0x6010 n 0x01) st.panel.darkUntil
        let lit := st.courseLit c && decide (st.panel.darkUntil < fall)
        let st2 := st1.sendDown c 5 (if lit then i else 3) false false code 31
        if lit ∧ rise < fall then
          ({ st2 with bridge := { st2.bridge with
              droneGates := st2.bridge.droneGates ++ [(n, rise, fall)] } }).emit (.gate n rise fall)
        else st2) s1

/-! ### EMIT_INH_N and chatter (R189, R392, R393) -/

/-- EMIT_INH_N falls: every string goes dark with no filter (R188, R189). A fall while the input is
still taken as asserted has a rise before it that the filter did not pass. -/
def State.doEmitAssert (s : State) : State :=
  let s1 := s.transitions inEmit (if s.bridge.emitInh then 2 else 1)
  ({ s1 with bridge := { s1.bridge with emitInh := true } }).blankAll 1

/-- EMIT_INH_N has read high for 200 ns: released, unless it chatters, be it from this transition on
(R189). -/
def State.doEmitRelease (s : State) : State :=
  let s1 := if s.bridge.emitInh then s.transitions inEmit 1 else s
  if !s1.bridge.emitInh ∨ s1.chatters inEmit then s1
  else
    ({ s1 with bridge := { s1.bridge with emitInh := false, stuck := false } }).releaseAll 1

/-- EMIT_INH_N has been asserted for 1 s: once per episode (R189). -/
def State.doEmitStuck (s : State) : State :=
  if !s.bridge.emitInh ∨ s.bridge.stuck then s
  else
    ((({ s with bridge := { s.bridge with stuck := true } }).inc 0x6002 0x03).event 0x6001 0 0x01 0).log
      (noteSpec 1 0x6002 0 0x03 0 0 0)

/-! ### Meanings -/

def courseOk (c : Nat) : Bool := decide (c < 16)

/-- PLUCK (R176). -/
def execPluck (t course : Nat) (s : State) : Result :=
  guarded (courseOk course) ((s.enter t).doPluck course)

/-- COURSE_POLL_TIMER (R184, R186): a configure frame while the link is down or training, and a poll frame
while there are no fret boundaries. Both ask for a status frame. -/
def execCoursePollTimer (t course : Nat) (s : State) : Result :=
  let s1 := s.enter t
  let s2 := if s1.ve 0x6020 course 0x04 ≤ 1 then s1.sendDown course 4 3 false true 0 31 else s1
  guarded (courseOk course) (if s2.seq.running then s2 else s2.sendDown course 3 3 false true 0 31)

/-- REFERENCE_WINDOW_OPEN (R228). -/
def execReferenceWindowOpen (t : Nat) (s : State) : Result := .next (s.enter t).doWindow

/-- PILOT_FIRE (R191). -/
def execPilotFire (t course pilot : Nat) (s : State) : Result :=
  guarded (courseOk course && decide (pilot < 6)) ((s.enter t).doPilot course pilot)

/-- MONITOR_SAMPLE (R183, R185, R194). -/
def execMonitorSample (t course : Nat) (frame : BitVec 64) (s : State) : Result :=
  guarded (courseOk course) ((s.enter t).uplink course frame)

/-- PILOT_SAMPLE (R183, R185, R192, R193, R195). -/
def execPilotSample (t course : Nat) (frame : BitVec 64) (s : State) : Result :=
  guarded (courseOk course) ((s.enter t).uplink course frame)

/-- DRIVER_STATUS_FRAME (R183, R185, R186, R188, R197). -/
def execDriverStatusFrame (t course : Nat) (frame : BitVec 64) (s : State) : Result :=
  guarded (courseOk course) ((s.enter t).uplink course frame)

/-- BAD_UPLINK_FRAME (R181, R183). -/
def execBadUplinkFrame (t course : Nat) (frame : BitVec 64) (s : State) : Result :=
  guarded (courseOk course)
    (if upGood frame then s.enter t else (s.enter t).loseOldest course)

/-- UPLINK_TIMEOUT (R185, R186). -/
def execUplinkTimeout (t course : Nat) (s : State) : Result :=
  guarded (courseOk course) ((s.enter t).loseOldest course)

/-- EMIT_INH_ASSERT (R188). -/
def execEmitInhAssert (t : Nat) (s : State) : Result := .next (s.enter t).doEmitAssert

/-- EMIT_INH_RELEASE (R189). -/
def execEmitInhRelease (t : Nat) (s : State) : Result := .next (s.enter t).doEmitRelease

/-- EMIT_INH_STUCK (R189). -/
def execEmitInhStuck (t : Nat) (s : State) : Result := .next (s.enter t).doEmitStuck

/-- CHATTER_END (R189, R393): the input is filtered normally again. -/
def execChatterEnd (t input : Nat) (s : State) : Result :=
  let s1 := s.enter t
  guarded (decide (input < 7))
    { s1 with clock := { s1.clock with
        chatter := s1.clock.chatter.filter (· != input),
        edges := s1.clock.edges.filter fun e => e.1 != input } }

/-- OPEN_LOOP_FALLBACK (R195): G becomes 1.0 at the next fret boundary (R199). -/
def execOpenLoopFallback (t string : Nat) (s : State) : Result :=
  let s1 := s.enter t
  let x := s1.str string
  guarded (decide (string < 48))
    (if x.frozen ∧ !x.openLoop then
      (s1.putStr string { x with openLoop := true, gainDue := some 32768 }).inc 0x6002 0x08
     else s1)

/-- DRONE_PERIOD (R200). -/
def execDronePeriod (t : Nat) (s : State) : Result := .next (s.enter t).doDronePeriod

end Sys2Proof.Machine
end

