-- ==== Sys2Proof/Machine/Wheel.lean ====
section
/-!
DEFINITION. The view wheel (09): encoder counts and ticks, the drive link, the speed and phase loops,
lock, prediction, wheel states, encoder loss and faulted coast.
-/

namespace Sys2Proof.Machine

/-! ### Members of the wheel -/

/-- Q of R211. -/
def State.encCounts (s : State) : Nat := 4 * s.v 0x6800 0x02

/-- The wheel state of R229, 6801.01. -/
def State.wheel (s : State) : Nat := s.v 0x6801 0x01

/-- Enters a wheel state; bit 0 of 6801.03 shows whether the speed loop is closed. -/
def State.putWheel (s : State) (st : Nat) : State :=
  (s.put 0x6801 0x01 st).putBit 0x6801 0x03 0 (decide (3 ≤ st ∧ st ≤ 8))

/-- The phase loop is engaged: bit 1 of 6801.03. -/
def State.engaged (s : State) : Bool := s.bit 0x6801 0x03 1

/-- The torque last commanded, 6801.0C. -/
def State.torque (s : State) : Int := toS 16 (s.v 0x6801 0x0C)
def State.putTorque (s : State) (x : Int) : State := s.put 0x6801 0x0C (ofS 16 x)

/-- A value held within a signed 32-bit member; beyond its width the spec states none. -/
def State.putS32 (s : State) (o m : Nat) (x : Int) : State :=
  if -(2 ^ 31) ≤ x ∧ x < 2 ^ 31 then s.put o m (ofS 32 x)
  else
    let (f, s1) := s.draw (2 ^ 32)
    s1.put o m f

/-- The stamp of an encoder edge (R211, R212): in LOOP cycles, eight root cycles each, less the 200 ns
of the filter. -/
def encStamp (t : Nat) : Nat := (t - 1000) / 8 * 8

/-- The period goal P_goal of R222, none while braking. -/
def State.periodGoal (s : State) : Option Nat :=
  if s.wheel = 8 then none
  else if s.v 0x5001 0x03 = 4 then some 500000000
  else match s.target? with
    | some g => some g.frame
    | none => some s.mode.frame

/-- The frame period that the phase loop works with (R221). -/
def State.gridFrame (s : State) : Nat := (s.periodGoal).getD s.mode.frame

/-! ### Fractions (f_t, R222) -/

/-- A fraction in lowest terms. -/
def lowest (n d : Nat) : Nat × Nat := (n / Nat.gcd n d, d / Nat.gcd n d)

/-- f_t moves towards a goal by at most a limit (R222). -/
def rampTo (f goal lim : Nat × Nat) : Nat × Nat :=
  let gap := fun (a b : Nat × Nat) => (a.1 * b.2 - b.1 * a.2, a.2 * b.2)
  let le := fun (a b : Nat × Nat) => decide (a.1 * b.2 ≤ b.1 * a.2)
  if le f goal then
    if le (gap goal f) lim then goal
    else lowest (f.1 * lim.2 + lim.1 * f.2) (f.2 * lim.2)
  else
    if le (gap f goal) lim then goal
    else lowest (f.1 * lim.2 - lim.1 * f.2) (f.2 * lim.2)

/-- P_t = round(5 × 10^9 / f_t) (R222). -/
def periodOf (f : Nat × Nat) : Nat := (2 * secCycles * f.2 + f.1) / (2 * f.1)

/-- Speed measured by the last tick interval, in revolutions per second. -/
def State.speed? (s : State) : Option (Nat × Nat) :=
  if s.loop.tt = 0 then none else some (lowest secCycles (64 * s.loop.tt))

/-! ### Drive link (R216 to R220) -/

/-- Sends the command frame that the wheel state asks for (R217, R219, R229); in a faulted coast the
line is held in a break. -/
def State.sendDrive (s : State) : State :=
  let st := s.wheel
  if st = 11 then s
  else
    let ty := if 2 ≤ st ∧ st ≤ 8 then 1 else if 9 ≤ st then 2 else 3
    ({ s with loop := { s.loop with
        dseq := (s.loop.dseq + 1) % 256, dwait := s.loop.dwait ++ [s.loop.dseq] } }).emit
      (.driveFrame (driveFrame ty (if ty = 1 then s.torque else 0) s.loop.dseq (ty == 1)))

/-! ### Leaving closed loops (R223, R224, R232, R233) -/

/-- Lock is lost (R224): counted; after 6801.05 has been set, bit 6 and an event. A calibration ends
(R386). -/
def State.unlock (s : State) : State :=
  if s.b 0x6801 0x04 then
    let s1 := ((s.put 0x6801 0x04 0).inc 0x6802 0x06).calEnd
    if s1.b 0x6801 0x05 then (s1.putBit 0x6801 0x06 6 true).event 0x6801 0 0x06 0 else s1
  else s

/-- The phase loop is disengaged: slot 49 freezes (R223) and lock is lost (R224). -/
def State.disengage (s : State) : State :=
  if s.engaged then
    ((({ s with loop := { s.loop with inRun := 0, outRun := 0 } }).putBit 0x6801 0x03 1 false).put
      0x6801 0x0D 0 |>.freezeLoop 49 true).unlock
  else s

/-- The wheel coasts (R232, R233): slots 48 and 49 frozen, no torque, lock achieved cleared, display
stopped at the next nut mark. State 10 sends coast frames; state 11 holds a break. -/
def State.coast (s : State) (st : Nat) : State :=
  let s1 := (((s.disengage.freezeLoop 48 true).freezeLoop 49 true).putTorque 0).put 0x6801 0x05 0
  let s2 := ({ s1 with loop := { s1.loop with rearm := 0, brakeDue := false } }).requestStop.putWheel st
  if st = 11 then s2.emit .driveBreak else s2.sendDrive

/-- The encoder is lost by rule `rule` of R232 with a count (R232, R233). -/
def State.encoderLost (s : State) (rule : Nat) (count : Int) : State :=
  if s.loop.lost then s
  else
    let s1 := ({ s with loop := { s.loop with lost := true } }).inc 0x6802 0x09
    if s1.wheel = 11 then s1
    else
      ((((s1.putBit 0x6801 0x06 0 true).log
        { dom := domNone, idx := 0, level := 0, sev := 2, object := 0x6802, element := 0, member := 0x09,
          cause := rule, d1 := rule, d2 := ofS 32 count }).blankAll 4).coast 10)

/-- Faulted coast for the cause of a flag bit of 6801.06 (R233); the drive link is a link domain. -/
def State.faultedCoast (s : State) (bit : Nat) : State :=
  let s1 := s.putBit 0x6801 0x06 bit true
  if s1.wheel = 11 then s1
  else
    let spec : LogSpec :=
      { dom := if bit = 4 ∨ bit = 5 then domPort else domNone, idx := if bit = 4 ∨ bit = 5 then 28 else 0,
        level := if bit = 4 ∨ bit = 5 then 1 else 0, sev := 1, object := 0x6801, element := 0,
        member := 0x06, cause := bit, d1 := 0, d2 := 0 }
    (if bit = 1 ∨ bit = 7 then s1 else s1.log spec).coast 11

/-! ### Phase loop (R221, R223, R224, R226) -/

/-- The root cycle at which the wall-time estimate reaches a time in 2^-16 ns (R221): the first whole
cycle, found from the present cycle by steps that converge, as the estimate runs within parts in a
million of the root clock. -/
def State.cycleOf (s : State) (u : Int) : Option Int :=
  match s.wallAt? s.now with
  | none => none
  | some _ =>
    some ((List.range 4).foldl (fun (c : Int) _ =>
      c - (((s.wallAt? c.toNat).getD 0 - u) * 5) / 65536) (s.now : Int))

/-- The wall time of tick `i` of grid frame `g` (R221), in 2^-16 ns. -/
def State.gridTime (s : State) (g : Int) (i : Nat) : Int :=
  unitsOfTime (s.v 0x6800 0x0C) + (64 * g + i) * s.gridFrame * 1024 / 5

/-- The phase loop is engaged (R208, R223): the grid frame nearest the last nut mark, slot 49 preset to
0. Without wall time it is not. -/
def State.engage (s : State) (acq : Bool) : State :=
  match s.wallAt? s.loop.lastNut with
  | none => s
  | some w =>
    let per : Int := s.gridFrame * 65536
    let g := ((w - unitsOfTime (s.v 0x6800 0x0C)) * 10 + per) / (2 * per)
    let s1 := { s with loop := { s.loop with
      grid := g, acquiring := acq, errs := [], inRun := 0, outRun := 0 } }
    ((((s1.freezeLoop 49 false).presetLoop 49 0 1).putBit 0x6801 0x03 1 true).put 0x6801 0x0D 0).putWheel 4

/-- The lock rules at a tick with phase error `e` (R224). On lock, encoder-loss blanking is released at
the next fret boundary (R234). -/
def State.lockTick (s : State) (e : Int) : State :=
  let x := s.loop
  if e.natAbs ≤ s.v 0x6800 0x09 then
    let s1 := if s.b 0x6801 0x04 ∧ 0 < x.outRun ∧ x.outRun < 4 then s.inc 0x6802 0x05 else s
    let s2 := { s1 with loop := { s1.loop with outRun := 0, inRun := x.inRun + 1 } }
    if !(s.b 0x6801 0x04) ∧ 512 ≤ x.inRun + 1 then
      ((({ s2 with loop := { s2.loop with acquiring := false } }).put 0x6801 0x04 1).putWheel 5).releaseAll 4
    else s2
  else
    let s1 := { s with loop := { s.loop with inRun := 0, outRun := x.outRun + 1 } }
    if s.b 0x6801 0x04 ∧ 4 ≤ x.outRun + 1 then s1.unlock.putWheel 4 else s1

/-- The phase slot steps at tick `i` with a stamp (R223); answers u. -/
def State.phaseTick (s : State) (i stamp : Nat) : Int × State :=
  match s.cycleOf (s.gridTime s.loop.grid i) with
  | none => (toS 32 (s.v 0x6801 0x0D), s)
  | some target =>
    let e := (stamp : Int) - target
    let l := if s.loop.acquiring then s.v 0x6800 0x0B else s.v 0x6800 0x0A
    let lim : Int := ((2 * l * 2 ^ 32 + 1000000) / 2000000 : Nat)
    let s1 := ({ s with loop := { s.loop with errs := (e :: s.loop.errs).take 64 } }).putS32 0x6801 0x0B e
    let (u, s2) := s1.stepLoop 49 e s.gridFrame { frac := 32, lo := -lim, hi := lim }
    (u, (s2.putS32 0x6801 0x0D u).lockTick e)

/-! ### Speed loop (R222) -/

/-- The speed slot steps at a tick (R222, R229): the ramp moves, the torque is set; a ramp that reaches
its goal enters drone speed or engages the phase loop; braking ends below 1 revolution per second. -/
def State.loopTick (s : State) (i stamp : Nat) : State :=
  match s.loop.ft.or s.speed? with
  | none => s
  | some f =>
    let tt := s.loop.tt
    let goal := match s.periodGoal with
      | some p => lowest secCycles p
      | none => (1, 2)
    let acc := if f.1 * goal.2 < goal.1 * f.2 then s.v 0x6800 0x04 else s.v 0x6800 0x05
    let f' := rampTo f goal (lowest (acc * tt) (100 * secCycles))
    let s0 := { s with loop := { s.loop with ft := some f' } }
    let (u, s1) := if s0.engaged then s0.phaseTick i stamp else (0, s0)
    let pt := periodOf f'
    let pp : Int := pt - (u * pt + 2 ^ 31) / 2 ^ 32
    let (d, s2) := s1.stepLoop 48 (64 * (tt : Int) - pp) (64 * tt)
      { frac := 15, lo := -(s.v 0x6800 0x08 : Int), hi := s.v 0x6800 0x07 }
    let s3 := if s1.ve 0x6810 48 0x03 = 1 then s2 else s2.putTorque d
    let st := s3.wheel
    let s4 :=
      if f' = goal ∧ s3.periodGoal.isSome then
        if st = 3 then (if s3.v 0x5001 0x03 = 4 then s3.putWheel 7 else s3.engage true)
        else if st = 6 then s3.engage false
        else s3
      else s3
    if st = 8 ∧ secCycles < 64 * tt then (s4.putTorque 0).putWheel 9 else s4

/-- Closes the speed loop (R208, R230, R231, R234): slot 48 is preset to the torque then commanded and
f_t starts from the measured speed. -/
def State.closeSpeed (s : State) : State :=
  let s1 := (s.freezeLoop 48 false).presetLoop 48 s.torque 32768
  ({ s1 with loop := { s1.loop with ft := s.speed?, acquiring := true, rearm := 0 } }).putWheel 3

/-- A tick with its index and stamp (R215, R219, R222 to R224, R230). -/
def State.doTick (s : State) (i stamp : Nat) : State :=
  let tt := match s.loop.lastTick with
    | some p => if p < stamp then stamp - p else s.loop.tt
    | none => s.loop.tt
  let s1 := { s with loop := { s.loop with lastTick := some stamp, tick := i, tt := tt } }
  let st := s1.wheel
  let s2 :=
    if st = 2 then (if 0 < tt ∧ 64 * tt ≤ secCycles then s1.closeSpeed else s1)
    else if 3 ≤ st ∧ st ≤ 8 ∧ 0 < tt then s1.loopTick i stamp
    else s1
  let s3 :=
    if s2.loop.lockWait ∧ s2.b 0x6801 0x04 ∧ s2.displayRuns then
      ({ s2 with loop := { s2.loop with lockWait := false } }).put 0x6801 0x05 1
    else s2
  s3.sendDrive

/-- Braking begins (R229, R231). -/
def State.brake (s : State) : State :=
  let st := s.wheel
  let s0 := { s with loop := { s.loop with brakeDue := false } }
  if 3 ≤ st ∧ st ≤ 7 then s0.disengage.putWheel 8
  else if st = 2 then
    let s1 := s0.presetLoop 48 s.torque 32768
    ({ s1 with loop := { s1.loop with ft := s.speed?.or (some (1, 2)) } }).putWheel 8
  else if st = 1 then s0.putWheel 0
  else s0

/-! ### Encoder (R212 to R215) -/

/-- Direction of a quadrature transition with A leading B: +1, -1, or 0 where not exactly one input has
changed (R212). -/
def quadrature (a b a' b' : Bool) : Int :=
  if a = a' ∧ b = b' then 0
  else if a ≠ a' ∧ b ≠ b' then 0
  else if a ≠ a' then (if a' = b then -1 else 1)
  else (if b' = a then 1 else -1)

/-- ENCODER_EDGE (R212, R213, R215, R232). -/
def State.doEdge (s : State) (a b : Bool) : State :=
  let x := s.loop
  if a ≠ x.a ∧ b ≠ x.b then ({ s with loop := { x with a := a, b := b } }).inc 0x6802 0x02
  else
    let q := quadrature x.a x.b a b
    let dir := if s.v 0x6800 0x03 = 0 then q else -q
    if dir = 0 then s
    else
      let stamp := encStamp s.now
      let n := x.count + dir
      let s1 := { s with loop := { x with a := a, b := b, count := n,
                                          edges := (stamp :: x.edges).take 5 } }
      let counts := s.encCounts
      let step : Nat := counts / 64
      let i := n.toNat / step
      let s2 := if 0 < dir ∧ 0 < n ∧ 0 < step ∧ n.toNat % step = 0 ∧ i < 64 ∧ x.tick < i then
          s1.doTick i stamp
        else s1
      if 3 * counts ≤ 2 * n.toNat then s2.encoderLost 2 n else s2

/-- The position from the last nut mark, in units of 1/65536 count, at the present LOOP cycle (R213). The
fraction is 0 until the edge four before the latest one is known. -/
def State.position (s : State) : Int :=
  let frac : Nat := match s.loop.edges with
    | k :: e =>
      match e[3]? with
      | some j => min 65535 ((s.now / 8 * 8 - k) * 65536 * 4 / (k - j))
      | none => 0
    | [] => 0
  s.loop.count * 65536 + (frac : Int)

/-- The measured revolution is judged (R226, R227, R233, R235); answers whether the speed is reported
outside its window. -/
def State.judgeRev (s : State) (rev : Nat) : Bool × State :=
  let s0 := ({ s with loop := { s.loop with rev := some rev } })
  let s1 := if rev < 2 ^ 32 then s0.put 0x6801 0x02 rev
    else
      let (f, x) := s0.draw (2 ^ 32)
      x.put 0x6801 0x02 f
  let s2 := if 100 * rev < 95 * 83333333 then s1.faultedCoast 3 else s1
  let run := if s2.v 0x5001 0x03 = 4 ∧ 495000000 ≤ rev ∧ rev ≤ 505000000 then s2.loop.droneRun + 1 else 0
  let s3 := { s2 with loop := { s2.loop with droneRun := run } }
  let s4 := if 4 ≤ run then s3.putBit 0x6801 0x03 2 true else s3
  let frame := s4.mode.frame
  let judged := s4.wheel == 5 || (s4.wheel == 4 && !s4.loop.acquiring)
  let out := judged && decide (frame < 1000 * ((rev : Int) - frame).natAbs)
  (out, s4.putBit 0x6801 0x03 3 out)

/-- The encoder's part of a measured nut mark (R214, R215, R223, R232, R234); answers whether the speed
is reported outside its window (R227). The second good nut mark of a re-arm closes the speed loop, and
the wheel brakes at once if 6800.01 has become 0 (R231, R234). -/
def State.wheelNut (s : State) : Bool × State :=
  let x := s.loop
  let stamp := encStamp s.now
  let d := x.count - s.encCounts
  let judged := decide (0 < x.nuts)
  let s1 :=
    if judged && decide (8 ≤ d.natAbs) then s.encoderLost 3 d
    else if judged && decide (d ≠ 0) then (s.inc 0x6802 0x03).put 0x6801 0x07 (ofS 16 d)
    else s
  let s2 := { s1 with loop := { s1.loop with
    count := 0, nuts := x.nuts + 1, lastNut := stamp,
    grid := if s1.engaged then s1.loop.grid + 1 else s1.loop.grid } }
  let (out, s3) := if judged then s2.judgeRev (stamp - x.lastNut) else (false, s2)
  let s4 := s3.doTick 0 stamp
  let s5 :=
    if s4.wheel = 9 ∧ 0 < s4.loop.rearm ∧ !(judged && decide (8 ≤ d.natAbs)) then
      let y := { s4 with loop := { s4.loop with rearm := s4.loop.rearm - 1 } }
      if y.loop.rearm = 0 ∧ 0 < y.loop.tt then
        let z := (y.putTorque 0).closeSpeed
        if z.b 0x6800 0x01 then z else z.brake
      else y
    else s4
  (out, s5)

/-- The nut mark that the loop engine predicts (R226): none, or a root cycle that may lie in the
past. -/
def State.prediction (s : State) : Option Int :=
  let grid := if s.engaged then s.cycleOf (s.gridTime (s.loop.grid + 1) 0) else none
  match grid with
  | some c =>
    let n := s.loop.errs.length
    some (c + (if n = 0 then 0 else (2 * s.loop.errs.foldl (fun (a b : Int) => a + b) 0 + n) / (2 * n)))
  | none =>
    match s.loop.rev with
    | some r => if 0 < s.loop.nuts then some ((s.loop.lastNut + r : Nat) : Int) else none
    | none => none

/-! ### Wheel states (R229 to R236) -/

/-- Slots 48 and 49 each have a section (R210, R230). -/
def State.wheelConfigured (s : State) : Bool :=
  decide (0 < s.ve 0x6810 48 0x01) && decide (0 < s.ve 0x6810 49 0x01)

/-- A resting wheel shows why it rests: unconfigured, or off (R229). -/
def State.showRest (s : State) : State :=
  if s.wheel ≠ 0 ∧ s.wheel ≠ 1 then s
  else s.putWheel (if s.b 0x6800 0x01 && !s.wheelConfigured then 1 else 0)

/-- Spin-up begins when its conditions hold (R230) and the loop engine's gate is open (R308); otherwise the
wheel shows why it rests. -/
def State.spinUp (s : State) : State :=
  if s.wheel ≠ 0 ∧ s.wheel ≠ 1 then s
  else if !(s.b 0x6800 0x01) ∨ !s.wheelConfigured ∨ s.v 0x6801 0x09 ≠ 2 ∨ !(s.gateOpen? 0x372) then s.showRest
  else
    let s1 := { s with loop := { s.loop with
      nuts := 0, rev := none, lastTick := none, tt := 0, edges := [], ft := none, acquiring := true } }
    ((s1.freezeLoop 48 false).putTorque (s.v 0x6800 0x06)).putWheel 2

/-- The owner's act on 6800.01 (R231): braking, once display has stopped; or the wheel spins up again,
from states 8 and 9 at once with f_t from the measured speed, from state 9 under the conditions of R230
and not while a re-arm waits for its nut marks. -/
def State.ownWheel (s : State) (v : Nat) : State :=
  if v = 0 then
    if s.displayRuns then ({ s with loop := { s.loop with brakeDue := true } }).requestStop
    else s.brake
  else
    let s0 := { s with loop := { s.loop with brakeDue := false } }
    if s0.wheel = 8 then
      ({ s0 with loop := { s0.loop with ft := s0.speed?.or s0.loop.ft, acquiring := true } }).putWheel 3
    else if s0.wheel = 9 then
      if s0.loop.rearm = 0 && s0.speed?.isSome && s0.wheelConfigured && s0.v 0x6801 0x09 == 2 then
        s0.closeSpeed
      else s0
    else s0.spinUp

/-- The owner's act on 6800.0F, a re-arm (R234): from rest by spin-up, else after two good nut marks,
for which the wheel coasts. -/
def State.rearmWheel (s : State) : State :=
  let s1 := ({ s with loop := { s.loop with lost := false, nuts := 0 } }).freezeLoop 48 false
  let s2 := s1.freezeLoop 49 false
  let rest := match s.loop.edges with
    | e :: _ => decide (e + 500000000 ≤ s.now)
    | [] => true
  if rest then (s2.putWheel 0).spinUp
  else ({ s2 with loop := { s2.loop with rearm := 2 } }).putWheel 9

/-- A write of 1 to 6800.0F is accepted (R234); PFAIL_N counts as asserted while it chatters (R392). -/
def State.rearmOk (s : State) : Bool :=
  (s.wheel == 10 || s.wheel == 11) && s.v 0x6801 0x09 == 2 && s.v 0x6801 0x08 % 8 == 0 &&
    s.clock.locked && s.clock.hclk && !s.clock.pfail && !(s.chatters 0)

/-- The wheel's part of glide (R236): the phase loop is disengaged and the ramp runs; under the second
and third cases of R138 it restarts from the measured speed. -/
def State.glideWheel (s : State) (measured : Bool) : State :=
  if 3 ≤ s.wheel ∧ s.wheel ≤ 5 then
    let s1 := if measured ∧ s.speed?.isSome then
        { s with loop := { s.loop with ft := s.speed? } }
      else s
    s1.disengage.putWheel 6
  else s

/-- The wheel's part of entering drone mode (R224, R235). -/
def State.droneWheel (s : State) : State :=
  let s1 := ((s.disengage.put 0x6801 0x05 0).putBit 0x6801 0x03 2 false)
  let s2 := { s1 with loop := { s1.loop with droneRun := 0, lockWait := false } }
  if 3 ≤ s2.wheel ∧ s2.wheel ≤ 6 then s2.putWheel 3 else s2

/-- The wheel's part of leaving drone mode (R235). -/
def State.droneWheelEnds (s : State) : State :=
  let s1 := s.putBit 0x6801 0x03 2 false
  let s2 := { s1 with loop := { s1.loop with droneRun := 0, acquiring := true } }
  if s2.wheel = 7 then s2.putWheel 3 else s2

/-- A good status frame from the motor driver (R218, R220): it answers the command frame that it names. -/
def State.driveGood (s : State) (f : BitVec 48) : State :=
  let fl := drvFlags f % 256
  let q := drvSeq f
  let asked := s.loop.dwait.contains q
  let s1 := ({ s with loop := { s.loop with
    dlost := if asked then 0 else s.loop.dlost, dwait := s.loop.dwait.erase q } }).put 0x6801 0x08 fl
  let s2 :=
    if s1.v 0x6801 0x09 = 2 then s1
    else if 16 ≤ s1.loop.dgood + 1 then
      ({ s1 with loop := { s1.loop with dgood := 0 } }).put 0x6801 0x09 2
    else { s1 with loop := { s1.loop with dgood := s1.loop.dgood + 1 } }
  if fl % 8 = 0 then s2 else s2.faultedCoast 4

/-- A status frame is missing or fails its check (R220): the oldest expected one is lost. One that nothing
asked for only breaks a run of good frames. -/
def State.driveLost (s : State) : State :=
  let s0 : State := { s with loop := { s.loop with dgood := 0 } }
  if s0.loop.dwait = [] then s0
  else
    let n := s0.loop.dlost + 1
    let s1 := ({ s0 with loop := { s0.loop with dlost := n, dwait := s0.loop.dwait.drop 1 } }).inc 0x6802 0x04
    if 4 ≤ n ∧ s1.v 0x6801 0x09 = 2 then (s1.put 0x6801 0x09 3).faultedCoast 5 else s1

/-! ### Meanings -/

/-- ENCODER_EDGE (R212, R213, R215, R232). -/
def execEncoderEdge (t : Nat) (a b : Bool) (s : State) : Result := .next ((s.enter t).doEdge a b)

/-- COUNT_EDGE_TIMEOUT (R232): while the speed loop is closed. -/
def execCountEdgeTimeout (t : Nat) (s : State) : Result :=
  let s1 := s.enter t
  .next (if 3 ≤ s1.wheel ∧ s1.wheel ≤ 8 then s1.encoderLost 1 s1.loop.count else s1)

/-- DRIVE_COMMAND_TIMER (R219). -/
def execDriveCommandTimer (t : Nat) (s : State) : Result := .next (s.enter t).sendDrive

/-- DRIVE_STATUS (R218, R220). -/
def execDriveStatus (t : Nat) (frame : BitVec 48) (s : State) : Result :=
  .next (if frame48Ok frame && drvType frame == 1 then (s.enter t).driveGood frame
    else (s.enter t).driveLost)

/-- DRIVE_STATUS_TIMEOUT (R219, R220). -/
def execDriveStatusTimeout (t : Nat) (s : State) : Result :=
  let s1 := s.enter t
  .next (if s1.loop.dwait = [] then s1 else s1.driveLost)

/-- SPIN_UP (R230). -/
def execSpinUp (t : Nat) (s : State) : Result := .next (s.enter t).spinUp

/-- SPIN_UP_TIMEOUT (R230). -/
def execSpinUpTimeout (t : Nat) (s : State) : Result :=
  let s1 := s.enter t
  .next (if s1.wheel = 2 then (s1.inc 0x6802 0x08).faultedCoast 2 else s1)

/-- WHEEL_REST_TIMEOUT (R229, R234). -/
def execWheelRestTimeout (t : Nat) (s : State) : Result :=
  let s1 := s.enter t
  .next (if s1.wheel = 9 then
      (({ s1 with loop := { s1.loop with rearm := 0 } }).putWheel 0).showRest
    else s1)

end Sys2Proof.Machine
end

