-- ==== Sys2Proof/Machine/Calibration.lean ====
section
/-!
DEFINITION. Calibration against the probe (R379 to R386): pluck frames, readings, the fits, the
correction of the tuning sets, and how a calibration ends.
-/

namespace Sys2Proof.Machine

/-- Changes the calibration under way. -/
def State.mapCal (s : State) (f : Cal → Cal) : State :=
  { s with health := { s.health with cal := s.health.cal.map f } }

/-- Courses that a calibration holds. -/
def Cal.held (k : Cal) : List Nat := if k.tile then List.range 16 else [k.course]

/-- A calibration of a course or of the tile is accepted and waits for its nut mark N0 (R385). -/
def State.startCal (s : State) (tile : Bool) (c : Nat) : State :=
  let k : Cal := { tile := tile, course := c, phase := 0, inPhase := 0, n0 := 0, probe := [], diode := [],
                   dark := [], measured := 0, pluck := 0, pair := none, passed := [], failed := [],
                   ending := false, window := false }
  ({ s with health := { s.health with cal := some k } }).put 0x2830 0x02
    (if tile then 2 else 1)

/-- The course's half is parked or in load test, so it cannot be measured (R416). -/
def State.unmeasured (s : State) (c : Nat) : Bool :=
  (s.half (c / 8)).park != 0 || (s.serviced (c / 8) && s.seq.service.activity != 2)

/-- The answer to a write of 2830.01 (R385, R416): 0, 4 refused by rule, 7 busy. -/
def State.calCode (s : State) (v : Nat) : Nat :=
  if v = 255 then 0
  else if 16 < v then 4
  else if s.v 0x5001 0x03 ≠ 2 ∨ !(s.b 0x6801 0x04) ∨ !(s.b 0x2820 0x04) ∨
      (List.range 3).any (fun i => s.ve 0x2820 i 0x01 == 0) ∨ (v < 16 ∧ s.unmeasured v) then 4
  else if s.health.cal.isSome ∨
      (List.range 16).any (fun c => (v == 16 || v == c) && s.ve 0x2831 c 0x02 != 0) then 7
  else 0

/-- The owner's act on 2830.01. -/
def State.ownCal (s : State) (v : Nat) : State :=
  if v = 255 then s.calEnd else s.startCal (decide (v = 16)) (v % 16)

/-! ### Release -/

/-- Held courses are released: the frozen slots thaw, preset to the G in use (R385). -/
def State.calRelease (s : State) (k : Cal) : State :=
  (k.held.flatMap courseStrings).foldl (fun (st : State) n =>
    if (st.str n).frozen then st
    else (st.presetLoop n (st.ve 0x6010 n 0x07) 32768).freezeLoop n false) s

/-- Calibration is over. -/
def State.calClose (s : State) (k : Cal) : State :=
  let s1 := if k.phase = 0 then s else s.calRelease k
  let s2 := ((((s1.put 0x2830 0x02 0).put 0x2830 0x03 255).put 0x2830 0x04
    (if k.failed = [] then 1 else 2)).put 0x2830 0x05 s1.wallTime)
  { s2 with health := { s2.health with cal := none } }

/-- A course fails (R386). -/
def State.courseFails (s : State) (c : Nat) : State := (s.pute 0x2831 c 0x01 2).inc 0x2802 0x07

/-- The calibration ends now, and its current course fails (R386). -/
def State.calFinish (s : State) : State :=
  match s.health.cal with
  | none => s
  | some k =>
    let s1 := if k.failed.contains k.course then s else s.courseFails k.course
    s1.calClose { k with failed := k.failed ++ [k.course] }

/-! ### Pluck frames (R381) -/

/-- The calibration plucks fit before the load of plane 0 of fret 0, in a frame outside glide. -/
def State.calFits (s : State) : Bool :=
  s.v 0x5001 0x05 == 255 &&
  decide (s.v 0x6800 0x0D + s.v 0x6800 0x0E + 60000 + 1600000 ≤ s.figures.preload)

/-- A measurement frame begins, or a frame in which no plucks run, which is counted. -/
def State.calFrame (s : State) : State :=
  let fits := s.calFits
  let s1 := s.mapCal fun k => { k with window := fits, pluck := 0, pair := none }
  if fits then s1 else s1.inc 0x2802 0x09

/-- Pair of pluck `k`, none for a dark reading (R382). -/
def calPair (k : Nat) : Option Nat := if k % 4 = 0 then none else some (k - 1 - k / 4)

/-- The code of a calibration pluck (R178, R381): G, the trim and E stand at 1. -/
def State.calCodeOf (s : State) (n a : Nat) : Nat × Bool :=
  let band := s.ve 0x6020 (n / 3) 0x03
  let c := s.rawCode n band a 32768 32768 0
  let top := s.tuned n band 5
  if top < c then (top % 65536, true) else (c % 65536, false)

/-- CAL_PLUCK (R381, R382): pluck k of the frame, of the 16 that its window holds. Where something other
than the calibration blanks the course, no gate rises and no sample is expected (R187, R188). -/
def State.doCalPluck (s : State) : State :=
  match s.health.cal with
  | none => s
  | some k =>
    if k.phase ≠ 2 ∨ !k.window ∨ 16 ≤ k.pluck then s
    else
      let s1 := s.mapCal fun x => { x with pluck := k.pluck + 1, pair := calPair k.pluck }
      let s2 := s1.emit (.probeTrig (s.now + 8000) (s.now + 20000))
      match calPair k.pluck with
      | none => s2
      | some p =>
        let n := 3 * k.course + p / 4
        let a := 2 ^ (p % 4)
        let lit := s.permitted && !(s.courseOut k.course)
        let (code, high) := s2.calCodeOf n a
        let s3 := if high then (s2.ince 0x6010 n 0x0B).inc 0x6002 0x09 else s2
        let seq := (s3.course k.course).seq
        let s4 := s3.sendDown k.course 2 (if lit then p / 4 else 3) lit false code 31
        if lit then
          let fall := s.now + 18000 - s4.ve 0x6010 n 0x02
          (s4.emit (.gate n (s.now + 10000 - s4.ve 0x6010 n 0x01) fall)).expect
            { course := k.course, kind := 4, string := n, amp := a, seq := seq, fall := fall }
        else s4

/-! ### Readings (R379) -/

/-- A probe word is valid: its check holds, and it is not the overrange value. -/
def probeValid (w : BitVec 32) : Bool :=
  crc8 (beBytes 3 (w.toNat / 256)) == w.toNat % 256 && w.toNat / 256 != 0xFFFFFF

/-- PROBE_READING (R379, R382, R386). -/
def State.doProbeReading (s : State) (w : BitVec 32) : State :=
  let v := w.toNat / 256
  if probeValid w then
    let s1 := (({ s with health := { s.health with probeBad := 0 } }).put 0x2820 0x05 v).put 0x2820 0x04 1
    s1.mapCal fun k =>
      if k.phase ≠ 2 ∨ k.pluck = 0 then k
      else match k.pair with
        | none => { k with dark := k.dark ++ [v] }
        | some p => { k with probe := k.probe ++ [(p, v)] }
  else
    let n := s.health.probeBad + 1
    let s1 := { s with health := { s.health with probeBad := n } }
    let s2 := if s.health.cal.isSome then s1.inc 0x2802 0x08 else s1
    if 16 ≤ n then (s2.put 0x2820 0x04 0).calEnd else s2

/-! ### The fits (R383) -/

/-- The readings of a pair. -/
def pairOf (p : Nat) (l : List (Nat × Nat)) : List Nat := (l.filter fun x => x.1 == p).map (·.2)

/-- The mean of readings, 0 for none. -/
def meanOf (l : List Nat) : Rat := (l.foldl (· + ·) 0 : Nat) / (l.length : Rat)

/-- The least-squares line reading = slope × (code − base) through points (code, reading): slope and
base; none when the points give no line. -/
def fitLine (pts : List (Nat × Rat)) : Option (Rat × Rat) :=
  let n : Rat := pts.length
  let sx := pts.foldl (fun (a : Rat) p => a + p.1) 0
  let sy := pts.foldl (fun (a : Rat) p => a + p.2) 0
  let sxx := pts.foldl (fun (a : Rat) p => a + p.1 * p.1) 0
  let sxy := pts.foldl (fun (a : Rat) p => a + p.1 * p.2) 0
  let d := n * sxx - sx * sx
  if d = 0 then none
  else
    let g := (n * sxy - sx * sy) / d
    if g = 0 then none else some (g, sx / n - sy / (n * g))

/-- Rounding to an integer, half away from zero. -/
def roundRat (x : Rat) : Int := rdivs x.num x.den

/-- Amplitudes of the four points. -/
def calAmps : List Nat := [1, 2, 4, 8]

/-- The points of a string's line: code and reading less the dark reading. -/
def State.calPoints (s : State) (n : Nat) (l : List (Nat × Nat)) (z : Rat) : List (Nat × Rat) :=
  (List.range 4).map fun j =>
    ((s.calCodeOf n (2 ^ j)).1, meanOf (pairOf (4 * (n % 3) + j) l) - z)

/-- The corrected values of a set: B_s′, K_s′[a] in the order of `calAmps`, Cmax (R384). -/
def correctedSet (t : TuningSet) (db : Int) (kt : List Nat) (kn : List Int) : List Int :=
  let k := fun (old i : Nat) => rdivs ((old : Int) * kn.getD i 0) (kt.getD i 1)
  [(t.b : Int) + db, k t.k1 0, k t.k2 1, k t.k4 2, k t.k8 3, (t.cmax : Int)]

/-- The result for a string: whether it passes, its corrected sets, and TGT′ when the photodiode's line
gives one (R383, R384). -/
def State.calString (s : State) (k : Cal) (n : Nat) : Bool × List (List Int) × Option Int :=
  let band := s.ve 0x6020 (n / 3) 0x03
  let z := meanOf k.dark
  let pts := s.calPoints n k.probe z
  let bt : Int := s.tuned n band 0
  let kt := (List.range 4).map fun i => s.tuned n band (i + 1)
  match fitLine pts with
  | none => (false, [], none)
  | some (g, base) =>
    let b' := roundRat base
    let kn := calAmps.map fun a => roundRat ((a : Rat) * (s.ve 0x2820 (n % 3) 0x01 : Rat) / g)
    let sets := (s.tuning n).sets.map fun t => correctedSet t (b' - bt) kt kn
    let near := pts.all fun p =>
      let line := g * ((p.1 : Rat) - base)
      decide (100 * |p.2 - line| ≤ |line|)
    let k1 := kn.getD 0 0
    let kt1 : Int := kt.getD 0 0
    let pass := decide (0 < g) && near && decide ((b' - bt).natAbs ≤ 4096) &&
      decide (0 < kt1 ∧ kt1 ≤ 2 * k1 ∧ k1 ≤ 2 * kt1) && kt.all (· != 0) &&
      sets.all fun v => decide (v.getD 0 0 + v.getD 4 0 ≤ v.getD 5 0)
    let tgt := if (List.range 4).all fun j => !(pairOf (4 * (n % 3) + j) k.diode).isEmpty then
        (fitLine (s.calPoints n k.diode 0)).map fun h =>
          roundRat (h.1 * ((b' : Rat) + (k1 : Rat) - h.2))
      else none
    (pass, sets, tgt)

/-- A value for a 16-bit tuning member; the spec states none beyond its range. -/
def State.fit16 (s : State) (v : Option Int) : Nat × State :=
  match v with
  | some x => if 0 ≤ x ∧ x < 65536 then (x.toNat, s) else s.draw 65536
  | none => s.draw 65536

/-- The values of a corrected set. -/
def State.fitSet (s : State) (v : List Int) : TuningSet × State :=
  let (b, s1) := s.fit16 (some (v.getD 0 0))
  let (k1, s2) := s1.fit16 (some (v.getD 1 0))
  let (k2, s3) := s2.fit16 (some (v.getD 2 0))
  let (k4, s4) := s3.fit16 (some (v.getD 3 0))
  let (k8, s5) := s4.fit16 (some (v.getD 4 0))
  ({ b := b, k1 := k1, k2 := k2, k4 := k4, k8 := k8, cmax := (v.getD 5 0).toNat }, s5)

/-- The corrected values of a passed string are written to the tuning region (R272), to ramp in from the
release (R384). -/
def State.correctString (s : State) (n : Nat) (sets : List (List Int)) (tgt : Option Int) : State :=
  let old := s.tuning n
  let (new, s1) := sets.foldl (fun (a : List TuningSet × State) v =>
    let (t, st) := a.2.fitSet v
    (a.1 ++ [t], st)) (([] : List TuningSet), s)
  let (tg, s2) := s1.fit16 tgt
  ({ s2 with
    bridge := { s2.bridge with
      tuning := tput n ({ sets := new, tgt := tg, oldSets := old.sets, oldTgt := old.tgt } : Tuning)
        s2.bridge.tuning },
    memory := { s2.memory with tuneOld := tput n old s2.memory.tuneOld } }).writeTuneRecord n

/-- The results of the course that has been measured (R383, R384). -/
def State.courseResult (s : State) (k : Cal) : Bool × State :=
  let rs := (courseStrings k.course).map fun n => (n, s.calString k n)
  if rs.all fun r => r.2.1 then
    let s1 := rs.foldl (fun (st : State) r => st.correctString r.1 r.2.2.1 r.2.2.2) s
    let s2 := (((s1.pute 0x2831 k.course 0x01 1).pute 0x2831 k.course 0x02 256).pute 0x2831 k.course 0x03
      s1.wallTime).inc 0x2802 0x06
    (true, s2)
  else (false, s.courseFails k.course)

/-! ### Nut marks (R385) -/

/-- Every pair and the dark set have 48 valid readings (R382). -/
def Cal.enough (k : Cal) : Bool :=
  decide (64 ≤ k.measured) && decide (48 ≤ k.dark.length) &&
  (List.range 12).all fun p => decide (48 ≤ (pairOf p k.probe).length)

/-- The next course that can be measured, from `c` on; the others fail (R416). -/
def State.nextCourse (s : State) (k : Cal) (c : Nat) : Nat → State
  | 0 => s.calClose k
  | fuel + 1 =>
    if !k.tile ∨ 16 ≤ c then s.calClose k
    else if s.unmeasured c then
      (s.courseFails c).nextCourse { k with course := c, failed := k.failed ++ [c] } (c + 1) fuel
    else
      ({ s with health := { s.health with cal := some { k with
          course := c, phase := 1, inPhase := 0, probe := [], diode := [], dark := [], measured := 0,
          window := false } } }).put 0x2830 0x03 c

/-- Nut mark N0: the held courses are dark and their slots frozen (R385). -/
def State.calBegin (s : State) (k : Cal) : State :=
  let s1 := (k.held.flatMap courseStrings).foldl (fun (st : State) n => st.freezeLoop n true) s
  let k1 : Cal := { k with phase := 1, inPhase := 0, n0 := s.now }
  if k.tile then s1.nextCourse k1 0 17
  else ({ s1 with health := { s1.health with cal := some k1 } }).put 0x2830 0x03 k.course

/-- A nut mark passes for a calibration (R385, R386). -/
def State.calNut (s : State) : State :=
  match s.health.cal with
  | none => s
  | some k =>
    if k.ending then s.calFinish
    else match k.phase with
      | 0 => s.calBegin k
      | 1 =>
        if 4 ≤ k.inPhase + 1 then (s.mapCal fun x => { x with phase := 2, inPhase := 0 }).calFrame
        else s.mapCal fun x => { x with inPhase := k.inPhase + 1 }
      | 2 =>
        let k1 : Cal := { k with measured := k.measured + (if k.window then 1 else 0) }
        let s1 := s.mapCal fun _ => k1
        if k1.enough then
          s1.mapCal fun x => { x with phase := 3, inPhase := 0, window := false }
        else s1.calFrame
      | 3 =>
        if 4 ≤ k.inPhase + 1 then
          let (ok, s1) := s.courseResult k
          let k1 : Cal := if ok then { k with passed := k.passed ++ [k.course] }
            else { k with failed := k.failed ++ [k.course] }
          s1.nextCourse k1 (k.course + 1) 17
        else s.mapCal fun x => { x with inPhase := k.inPhase + 1 }
      | _ => s.nextCourse k (k.course + 1) 17

/-- CAL_TIMEOUT (R385): the limit of a course, or of a tile calibration: at the next nut mark the tile
goes on with its next course, or everything is released. -/
def State.calLimit (s : State) : State :=
  match s.health.cal with
  | none => s
  | some k =>
    if k.phase = 0 then s
    else if k.tile ∧ k.n0 + 22 * secCycles ≤ s.now then
      let left := (List.range 16).filter fun c =>
        !(k.passed.contains c) && !(k.failed.contains c) && c != k.course
      let s1 := left.foldl State.courseFails s
      (s1.mapCal fun x => { x with failed := x.failed ++ left }).calEnd
    else if k.tile then
      (s.courseFails k.course).mapCal fun x =>
        { x with phase := 4, window := false, failed := x.failed ++ [k.course] }
    else s.calEnd

/-- Ramps of released courses move on at fret 0 of a frame (R196, R384). -/
def State.calRamps (s : State) : State :=
  (List.range 16).foldl (fun (st : State) c =>
    let r := st.ve 0x2831 c 0x02
    if r = 0 ∨ st.calHolds c then st else st.pute 0x2831 c 0x02 (r - 1)) s

/-- PROBE_PRESENCE_TIMER (R379): a reading without a pluck, outside a calibration. -/
def State.doPresence (s : State) : State :=
  if s.health.cal.isSome then s else s.emit (.probeTrig (s.now + 8000) (s.now + 20000))

/-! ### Meanings -/

/-- PROBE_PRESENCE_TIMER (R379). -/
def execProbePresenceTimer (t : Nat) (s : State) : Result := .next (s.enter t).doPresence

/-- PROBE_READING (R379). -/
def execProbeReading (t : Nat) (word : BitVec 32) (s : State) : Result :=
  .next ((s.enter t).doProbeReading word)

/-- CAL_PLUCK (R381). -/
def execCalPluck (t : Nat) (s : State) : Result := .next (s.enter t).doCalPluck

/-- CAL_TIMEOUT (R385). -/
def execCalTimeout (t : Nat) (s : State) : Result := .next (s.enter t).calLimit

end Sys2Proof.Machine
end

