-- ==== Sys2Proof/Machine/Power.lean ====
section
/-!
DEFINITION. What several chapters do together: the end of the timeline (R147, R309, R412), display
stopped at once, self-refresh and the islands outside the service floor, the device hold (R407), the
power-fail sequence (R412, R414) and the parts of the display floor (R395, R397, R399, R400).
-/

namespace Sys2Proof.Machine

/-! ### Islands -/

/-- An island runs: its source is not "stopped" (R301). -/
def State.islandRuns (s : State) (i : Nat) : Bool := s.ve 0x2010 i 0x04 != 2

/-- An island stops: it will start from /32 (R301). -/
def State.stopIsland (s : State) (i : Nat) : State :=
  let s1 := (s.pute 0x2010 i 0x01 32).pute 0x2010 i 0x04 2
  { s1 with clock := { s1.clock with ramping := s1.clock.ramping.filter (· != i) } }

/-- The islands outside the service floor: all but AON, MGMT, MEM, and NET, which may serve it (R399). -/
def outsideService : List Nat := [3, 4, 5, 6, 7, 8, 9, 10, 11, 12]

/-- Every island outside the service floor is closed (R407, R412), those that were still to open among
them. -/
def State.closeIslands (s : State) : State :=
  let s1 := outsideService.foldl State.stopIsland s
  let stays := fun (i : Nat) => !(outsideService.contains i)
  { s1 with clock := { s1.clock with
    islandsStopped := true, islandsDue := false, opening := s1.clock.opening.filter stays,
    openingNow := s1.clock.openingNow.filter stays } }

/-- The DDR5 channels in service go into self-refresh (R278, R309, R407, R412). -/
def State.selfRefresh (s : State) : State :=
  ((List.range 4).filter s.chanServes).foldl State.enterRefresh s

/-! ### The end of display -/

/-- The timeline ends (R147, R309, R412): work for frets that will not be displayed is abandoned without
a count, and a glide that was under way ends. Writes that still wait take effect afterwards (R136). -/
def State.endTimeline (s : State) : State :=
  let s0 := s.closeWindows
  let s1 : State := { s0 with
    seq := { s0.seq with
      running := false, nextNut := none, inGap := true, slot := 0, slots := 0, shownA := [],
      shownB := [], overlap := false, stopDue := false, stopLit := false, glideDue := none, glideVia := [],
      glideWait := 0, ending := false,
      factor := 1, factorDue := none, cut := false, ended := true },
    bridge := { s0.bridge with window := none },
    loop := { s0.loop with lockWait := false } }
  (((((s1.put 0x5001 0x02 255).put 0x5001 0x03 0).put 0x5001 0x05 255).put 0x5001 0x06 0).put
    0x5001 0x04 (s1.v 0x5000 0x01)).setReceivers

/-- Display stops at once (R309, R407, R412), and so does drone mode. A calibration ends, its courses
released at once (R386). -/
def State.stopNow (s : State) : State :=
  if s.v 0x5001 0x03 = 4 then (s.endDrone.droneWheelEnds).calFinish
  else if s.displayRuns then s.endTimeline.calFinish
  else s

/-! ### Device level (R407) -/

/-- The device hold: it lasts until a warm restart or RESET_N. -/
def State.deviceHold (s : State) : State :=
  if s.v 0x1890 0x01 = 6 then s
  else
    let s1 := ((s.blankQuiet 6).stopNow).park [0, 1]
    let s2 := if s1.wheel = 11 then s1 else s1.coast 11
    let s3 := s2.selfRefresh.closeIslands
    ((s3.inc 0x1801 0x06).log (domSpec domDevice 0 0 2 0x1801 0 0x06)).put 0x1890 0x01 6

/-! ### Power failure (R412 to R415) -/

/-- The power-fail sequence (R412): whole, and once until a new start-up. What has already been done
stays done (R312, R414). -/
def State.powerFail (s : State) : State :=
  if s.clock.pfailRun then s
  else
    let s0 := { s with clock := { s.clock with pfailRun := true, pfailReleased := false } }
    let s1 := (((s0.blankAll 2).faultedCoast 7).stopNow).park [0, 1]
    let s2 := if (s1.half 0).park = 3 ∧ (s1.half 1).park = 3 ∧ s1.v 0x5801 0x04 / 16 ≠ 0 then
        s1.railsDown 4
      else s1
    (s2.startCommit.selfRefresh.closeIslands).put 0x1890 0x01 4

/-- A shutdown record is pending (R378): the newest record's byte 158 is 1. -/
def State.shutdownPending (s : State) : Bool :=
  match s.health.records with
  | r :: _ => field r 158 1 == 1
  | [] => false

/-! ### The display floor (R395, R397, R399, R400) -/

/-- A complete cue is held. -/
def State.anyCueComplete (s : State) : Bool := s.ingress.cues.any fun e => s.ve 0x3500 e.1 0x01 == 2

/-- A scan-out half passes R156 and its engine runs and is open. -/
def State.halfServes (s : State) (h : Nat) : Bool :=
  s.mode.loadFits (s.liveLanes h).length && s.islandRuns (8 + h) && s.gateOpen? (gateScan + h)

/-- The missing parts of the display floor, bit k in the order of R399's display row (R400). A part
whose island is stopped, or whose gate a master holds closed, is missing (R308). BRIDGE counts with its
course links whatever their state, since a link that is lost only blanks its course (DEDUCED from R186,
log entry 40). -/
def State.floorMissing (s : State) : Nat :=
  let b := fun (k : Nat) (x : Bool) => if x then 0 else 2 ^ k
  let fenced := ((List.range 256).filter fun n => s.ve 0x7810 n 0x01 == 2).length
  b 0 (s.islandRuns 7 && decide (fenced ≤ 4)) +
  b 1 (s.dramUp || s.v 0x3000 0x09 == 0) +
  b 2 ((s.islandRuns 3 && s.gateOpen? 0x373 && (List.range 8).any s.portUp) || s.anyCueComplete) +
  b 3 (s.islandRuns 6 && decide (32 ≤ s.enginesActive)) +
  b 4 (s.islandRuns 4 && decide (64 ≤ s.lanesActive)) +
  b 5 (s.halfServes 0 || s.halfServes 1) +
  b 6 (s.islandRuns 10 && s.gateOpen? 0x371) +
  b 7 (s.islandRuns 11 && s.gateOpen? 0x372 && s.v 0x6801 0x09 == 2)

/-- Halves that are to show when display starts: those that pass R156 and are not to be serviced. -/
def State.toShow (s : State) : List Nat :=
  [0, 1].filter fun h => s.halfServes h && !(s.serviced h)

/-- A step of R394 is complete. -/
def State.stepDone (s : State) (k : Nat) : Bool := s.bit 0x1890 0x02 k
def State.putStep (s : State) (k : Nat) : State := s.putBit 0x1890 0x02 k true

/-- The conditions under which display starts (R395), the prediction of a nut mark apart. -/
def State.canStart (s : State) : Bool :=
  s.v 0x5001 0x03 == 0 && s.b 0x5000 0x02 && s.floorMissing == 0 &&
  !s.toShow.isEmpty && s.toShow.all s.halfClear && (s.wheel == 4 || s.wheel == 5) &&
  !s.shutdownPending && s.v 0x1890 0x01 == 0 && s.stepDone 6 && !s.panel.faulted &&
  s.v 0x2001 0x01 == 2 && (s.modeSlot (s.v 0x5000 0x01)).valid

/-- What 1890.01 reads (R394, R397, R417): the holds first, then a running display, then a missing part
once the steps that bring parts have ended, then the wait for lock. -/
def State.startState (s : State) : Nat :=
  let held := s.v 0x1890 0x01
  if s.shutdownPending then 5
  else if held ≠ 0 then held
  else if s.v 0x5001 0x03 = 2 ∨ s.v 0x5001 0x03 = 3 then 2
  else
    let lacks := s.floorMissing
    let due := if s.stepDone 7 then lacks else if lacks.testBit 2 then lacks - 4 else lacks
    let due2 := if s.stepDone 8 then due else if due.testBit 1 then due - 2 else due
    let due3 := if s.v 0x6801 0x09 = 1 ∧ due2.testBit 7 then due2 - 128 else due2
    if s.stepDone 6 ∧ due3 ≠ 0 then 3
    else if s.stepDone 7 ∧ s.stepDone 8 ∧ !s.toShow.isEmpty ∧ s.toShow.all s.halfClear ∧
        !(s.b 0x6801 0x04) then 1
    else 0

/-- What 1890.02 reads (R394): steps 9 to 11 by what is there. -/
def State.stepsDone (s : State) : Nat :=
  let b := fun (k : Nat) (x : Bool) => if x && s.stepDone 6 then 2 ^ k else 0
  s.v 0x1890 0x02 + b 9 (!s.toShow.isEmpty && s.toShow.all s.halfClear) + b 10 (s.b 0x6801 0x04) +
  b 11 (s.v 0x5001 0x03 == 2)

end Sys2Proof.Machine
end

