-- ==== Sys2Proof/Machine/Memory.lean ====
section
/-!
DEFINITION. The memory system (11): stage-store bank copies, the retained store's journal (R272 to
R276), the DDR5 controller (R277 to R288), training and re-training (R279, R289), migration of a
channel and its return (R290 to R292).
-/

namespace Sys2Proof.Machine

/-! ### The retained store (R271 to R276) -/

/-- Elements of an array object that one record holds (R272): at most 256, and at most 4 096 bytes of
data. A section of 6820 keeps 21 bytes, a waveform of 5812 up to 1 024 with its length; the other array
objects keep at most 16 bytes an element, or have few elements (DEDUCED, log entry 100). -/
def recordSpan (o : Nat) : Nat :=
  match o with
  | 0x6820 => 195
  | 0x5812 => 3
  | _ => 256

/-- The record that a member lies in, by object and first element (R272). -/
def recordKey (o e : Nat) : Nat := 65536 * o + e / recordSpan o * recordSpan o

/-- Bytes of a record's data for each element of an object: its kept members, a BLOB at its greatest
length with its length (R4, R272). -/
def keptBytes (o : Nat) : Nat :=
  memberRows.foldl (fun a r =>
    if r.object == o && r.kept then
      a + (r.last + 1 - r.first) * (if r.ty = .blob then (if o = 0x5812 then 1026 else 34) else r.ty.width / 8)
    else a) 0

/-- Blocks of a record: the header of 16 bytes and the data, 252 bytes in a block (R272). -/
def recordBlocks (key : Nat) : Nat :=
  let o := keyObjectOfRecord key
  let n := match rowOfMember o 0x01 with
    | some r => min (recordSpan o) (r.elements - key % 65536)
    | none => 1
  cdiv (16 + n * keptBytes o) 252
where keyObjectOfRecord (k : Nat) : Nat := k / 65536

/-- Every block of a copy of a record is written (R272, R276). -/
def State.wearRecord (s : State) (key copy : Nat) : State :=
  (List.range (recordBlocks key)).foldl (fun (st : State) i => st.wearBlock (recordWear key copy i)) s

/-- Entries of a table that lie in a record, put over those of another table. -/
def copyRecord {α : Type} (key : Nat) (src dst : Tbl α) : Tbl α :=
  let inRec := fun (e : Nat × α) => recordKey (keyObject e.1) (keyElement e.1) == key
  (src.filter inRec).foldl (fun (t : Tbl α) e => tput e.1 e.2 t) (dst.filter fun e => !(inRec e))

/-- The newer copy of a record becomes the older one, as its next version is about to be written (R272). -/
def State.ageRecord (s : State) (key : Nat) : State :=
  let m := s.memory
  { s with memory := { m with
      keptOld := copyRecord key m.kept m.keptOld,
      keptBlobsOld := copyRecord key m.keptBlobs m.keptBlobsOld } }

/-- A new version of a record is written into the copy whose sequence is older (R272). -/
def State.writeRecord (s : State) (key : Nat) : State :=
  let q := tget (0, 0) key s.memory.recSeq
  ({ s with memory := { s.memory with recSeq := tput key (nextSeqs q) s.memory.recSeq } }).wearRecord
    key (if writesFirst q then 0 else 1)

/-- A journal entry's value goes into the record of its member. -/
def State.applyEntry (s : State) (j : JEntry) : State :=
  let k := mkey j.object j.element j.member
  { s with memory := { s.memory with
      kept := if j.data = [] then tput k j.value s.memory.kept else s.memory.kept,
      keptBlobs := if j.data = [] then s.memory.keptBlobs else tput k j.data s.memory.keptBlobs } }

/-- The entries of a journal half, and the half with other entries. -/
def State.halfEntries (s : State) (h : Nat) : List JEntry :=
  if h = 0 then s.memory.half0 else s.memory.half1
def State.putHalfEntries (s : State) (h : Nat) (l : List JEntry) : State :=
  if h = 0 then { s with memory := { s.memory with half0 := l } }
  else { s with memory := { s.memory with half1 := l } }

/-- The records that a list of entries touches, each once. -/
def touchedRecords (l : List JEntry) : List Nat :=
  l.foldl (fun acc j => let k := recordKey j.object j.element
                        if acc.contains k then acc else acc ++ [k]) []

/-- The entries of a commit stand in the active half: its blocks are written, and the commit is counted (R273,
R276). -/
def State.committed (s : State) (l : List JEntry) : State :=
  let h := s.memory.activeHalf
  let n := journalBlocks l
  let s1 := (List.range n).foldl (fun (st : State) i =>
    st.wearBlock (journalKey h (s.memory.activeUsed - n + i))) (s.putHalfEntries h (s.halfEntries h ++ l))
  ({ s1 with memory := { s1.memory with committing := none } }).inc 0x9000 0x07

/-- A commit has been written (R272 to R276): its entries stand in the active half, and a commit that
is due follows. While MEM restarts the writes wait (R406). -/
def State.commitDone (s : State) : State :=
  match s.memory.committing with
  | none => s
  | some l =>
    if s.storeWaits then s
    else
      let s1 := s.committed l
      if s1.memory.commitWaits ∨ 16384 ≤ journalBytes s1.memory.journal then s1.startCommit else s1

/-- The half that is not active has been emptied: every record it touches has been rewritten (R272,
R273). A commit that waited follows. -/
def State.halfEmptied (s : State) : State :=
  if s.memory.emptying ∧ !s.storeWaits then
    let h := 1 - s.memory.activeHalf
    let l := s.halfEntries h
    let s0 := (touchedRecords l).foldl State.ageRecord s
    let s1 := (touchedRecords l).foldl State.writeRecord (l.foldl State.applyEntry s0)
    let s2 := s1.putHalfEntries h []
    let s3 := { s2 with memory := { s2.memory with emptying := false } }
    if s3.memory.commitWaits then s3.startCommit else s3
  else s

/-- A kept member's write is refused as busy while a commit waits for the other half (R273), and when the
journal buffer has no room for its entry (DESIGN CHOICE, log entry 97). -/
def State.journalBusy (s : State) (size : Nat) : Bool :=
  (s.memory.commitWaits && s.memory.emptying && s.memory.committing.isNone) ||
  decide (journalLimit < journalBytes s.memory.journal + 12 + size)

/-! ### Channels -/

/-- The state of a channel, 7820[c].01. -/
def State.chanState (s : State) (c : Nat) : Nat := s.ve 0x7820 c 0x01

/-- A channel enters a state; 7801.02 shows the channels in service. -/
def State.putChanState (s : State) (c st : Nat) : State :=
  (s.pute 0x7820 c 0x01 st).putBit 0x7801 0x02 c (decide (st = 2))

/-- A channel leaves self-refresh. -/
def State.leaveRefresh (s : State) (c : Nat) : State :=
  let r := s.chan c
  if r.selfRefresh then (s.putChan c { r with selfRefresh := false, drains := false }).emit (.ddr c 4 0)
  else s.putChan c { r with drains := false }

/-- Chunks in a channel's data region. -/
def State.chunksOf (s : State) : Nat := s.chanData / s.grain

/-! ### Error responses and escalation (R287, R288) -/

/-- Requests of a list without the one with this id. -/
def State.dropRequest (s : State) (id : Nat) : State :=
  { s with memory := { s.memory with requests := s.memory.requests.filter fun (r : DramReq) => r.id != id } }

/-- The part of an address range that lies in a region. -/
def overlaps (a n base size : Nat) : Bool := decide (a < base + size ∧ base < a + n)

/-- The bytes of a failed write are undefined: free values. -/
def State.spoil (s : State) (a n : Nat) : State :=
  let (junk, s1) := s.freeBytes n
  { s1 with memory := { s1.memory with dram := mwrites s1.memory.dram a junk } }

/-- The frame whose parcels in spill lie in an address range (R50). -/
def State.spilledAt (s : State) (a n : Nat) : Option Nat :=
  ((s.ingress.spill.find? fun r => overlaps a n (s.v 0x3000 0x07 + r.off) r.len).map Spilled.frame)

/-- The loading cue whose pages an address range touches (R54). -/
def State.cueAt (s : State) (a n : Nat) : Option Nat :=
  (s.ingress.pages.find? fun (e : Nat × List Nat) => s.ve 0x3500 e.1 0x01 == 1 &&
    e.2.any fun p => overlaps a n (s.v 0x3000 0x08 + 65536 * p) 65536).map Prod.fst

/-- What an error response does to its requester (R287): the dictionary access is refused with code 15
(R330); a failed write of port 1 discards the spilled frame or fails the loading cue that it is for;
pixels read as zero bytes in the composition under way. -/
def State.portEffect (s : State) (port a n : Nat) : State :=
  match port with
  | 0 => { s with mgmt := { s.mgmt with lastCode := 15 } }
  | 1 =>
    match s.spilledAt a n, s.cueAt a n with
    | some frame, _ => s.passSpilled frame
    | none, some cue => s.pute 0x3500 cue 0x01 3
    | none, none => s
  | 3 =>
    if s.nextStore.comp = 1 then { s with comp := { s.comp with unread := (a, n) :: s.comp.unread } } else s
  | 2 =>
    match s.ingress.spillCopy, s.nextStore.number with
    | true, some frame => s.passSpilled frame
    | _, _ =>
    { s with ingress := { s.ingress with
        replay := s.ingress.replay.map fun (r : Replay) =>
          if r.copied then r else { r with spoiled := true } } }
  | 4 => { s with comp := { s.comp with capturing := false } }
  | 5 =>
    let base := s.v 0x5800 0x0C
    { s with panel := { s.panel with
        slate := s.panel.slate.filter fun c => !(decide (a ≤ c.1 + base ∧ c.1 + base < a + n)) } }
  | 6 =>
    let lo := a / s.grain * s.grain
    { s with memory := { s.memory with
        dram := s.memory.dram.filter fun c => !(decide (lo ≤ c.1 ∧ c.1 < lo + s.grain)) } }
  | _ => s

/-- An in-place re-train begins (R288, R289): the channel drains its issued commands and goes into
self-refresh, and its requests wait. -/
def State.beginRetrain (s : State) (c : Nat) : State :=
  if s.chanServes c ∧ s.chanState c ≠ 5 then
    let s1 := (s.enterRefresh c).putChanState c 5
    ((s1.inc 0x7802 0x0C).log (domSpec domChannel c 2 1 0x7802 0 0x0C)).recover domChannel c 2
  else s

/-- A channel may go offline (R290): havens are kept, every other populated channel is in service, and
it is not the only one. -/
def State.canOffline (s : State) (c : Nat) : Bool :=
  s.v 0x7800 0x04 == 1 && decide (1 < s.populated.length) && s.memory.migrating.isNone &&
  (s.populated.filter (· != c)).all fun d => s.chanState d == 2

/-- The chunks of a channel begin to move to the havens (R290). -/
def State.beginMigration (s : State) (c : Nat) : State :=
  let s1 := (s.putChan c { s.chan c with retrained := false, offline := false }).putChanState c 3
  (({ s1 with memory := { s1.memory with migrating := some c, returning := false, nextChunk := 0 } }).pute
    0x7820 c 0x06 0).inc 0x7802 0x0E

/-- A failed channel answers every request with an error response (R289). -/
def State.failRequests (s : State) (c : Nat) : State :=
  (s.memory.requests.filter fun (r : DramReq) => r.channel == c).foldl (fun (st : State) r =>
    let st1 := if r.write.isSome then st.spoil r.addr r.len else st
    ((st1.dropRequest r.id).errorResponse r.port 4 r.addr).portEffect r.port r.addr r.len) s

/-- A re-train has failed (R288): the channel goes offline where the havens allow it, else it has failed;
with the last channel in service the device reaches device level. -/
def State.chanFails (s : State) (c : Nat) : State :=
  if s.canOffline c then
    ((s.escalate.log (domSpec domChannel c 3 1 0x7802 0 0x0D)).recovered domChannel c).beginMigration c
  else
    let s1 := ((s.escalate.putChanState c 7).log (domSpec domChannel c 3 1 0x7802 0 0x0D)).recovered domChannel c
    let m := s1.memory
    let s2 := if m.migrating = some c then { s1 with memory := { m with migrating := none } } else s1
    let s3 := s2.failRequests c
    if s3.dramUp then s3 else s3.escalate.deviceHold

/-- An error response to a request (R287), and the re-train that a second one within 1 s brings
(R288). -/
def State.requestFails (s : State) (r : DramReq) (kind : Nat) : State :=
  let s1 := if r.write.isSome then s.spoil r.addr r.len else s
  let s2 := ((s1.dropRequest r.id).errorResponse r.port kind r.addr).portEffect r.port r.addr r.len
  let x := s2.chan r.channel
  let soon := match x.lastError with
    | some t => decide (s2.now < t + secCycles)
    | none => false
  let s3 := s2.putChan r.channel { x with lastError := some s2.now }
  if soon then s3.beginRetrain r.channel else s3

/-! ### Activates (R281, R285, R286) -/

/-- One number for a bank of a channel: rank, bank group, bank and subchannel. -/
def bankNumber (d : Nat × Nat × Nat × Nat × Nat × Nat) : Nat :=
  ((d.1 * 8 + d.2.2.1) * 4 + d.2.2.2.1) * 2 + d.2.2.2.2.2

/-- Rows of a bank (R281). -/
def State.bankRows (s : State) : Nat := s.rankSize / 2 ^ (15 + (if s.v 0x7800 0x0C = 0 then 2 else 3))

/-- Activates count towards RFM (R286): at the initial threshold a refresh management command goes to
the bank. That it lowers the count by that threshold is DDR5's own rule (PRESUMED, log entry 42). -/
def State.countActs (s : State) (c bank n : Nat) : State :=
  if s.ve 0x7820 c 0x05 = 1 then
    let x := s.chan c
    let a := tget 0 bank x.acts + n
    if x.rfmInitial ≤ a then
      ((s.putChan c { x with acts := tput bank (a - x.rfmInitial) x.acts }).emit (.ddr c 2 bank)).inc
        0x7802 0x0A
    else s.putChan c { x with acts := tput bank a x.acts }
  else s

/-- The memory's maximum blocks further activates of a bank until it has had its refresh management command
(R286). -/
def State.rfmBlocked (s : State) (c bank : Nat) : Bool :=
  s.ve 0x7820 c 0x05 == 1 && decide ((s.chan c).rfmMaximum ≤ tget 0 bank (s.chan c).acts)

/-- A row is activated (R285): the channel's LFSR, whose polynomial the spec does not give, moves to a
free value, and with probability 2^-k the neighbours are refreshed. -/
def State.activate (s : State) (c bank row : Nat) : State :=
  let (f, s0) := s.draw (2 ^ 32)
  let s1 := s0.putChan c { s0.chan c with lfsr := f, openRows := tput bank row (s0.chan c).openRows }
  let s2 := s1.countActs c bank 1
  if f % 2 ^ s.v 0x7800 0x05 = 0 then
    let rows := (if 0 < row then [row - 1] else []) ++ (if row + 1 < s.bankRows then [row + 1] else [])
    ((s2.emits (rows.map fun n => .ddrRow c bank n)).add 0x7802 0x09 rows.length).countActs c bank rows.length
  else s2

/-! ### Scheduling (R283, R284) -/

/-- A channel takes controller commands: it serves, does not re-train, and is neither in self-refresh
nor about to enter it. -/
def State.chanActive (s : State) (c : Nat) : Bool :=
  s.chanServes c && s.chanState c != 5 && !(s.chan c).selfRefresh && !(s.chan c).drains

/-- A write that is pending: not yet issued, or being replayed (R284). -/
def DramReq.pendingWrite (r : DramReq) : Bool :=
  r.write.isSome && (r.issued.isNone || decide (0 < r.replays))

/-- The requests of a bank, oldest first. -/
def State.bankQueue (s : State) (c bank : Nat) : List DramReq :=
  s.memory.requests.filter fun (r : DramReq) => r.channel == c && r.bank == bank

/-- The bank is served strictly in arrival order, for the sake of a pending write (R284). -/
def State.bankOrdered (s : State) (c bank : Nat) : Bool :=
  (s.bankQueue c bank).any fun r => r.guards && r.pendingWrite

/-- The row of a request is open in its bank. -/
def State.rowOpen (s : State) (r : DramReq) : Bool :=
  tget? r.bank (s.chan r.channel).openRows == some r.row

/-- A request may be issued: its bank has no issued command to complete (DESIGN CHOICE, log entry 96),
it is the oldest where the bank is served in arrival order (R284), and it needs no activate that RFM
blocks (R286). -/
def State.issuable (s : State) (c : Nat) (r : DramReq) : Bool :=
  let q := s.bankQueue c r.bank
  r.channel == c && r.issued.isNone && !(q.any fun x => x.issued.isSome) &&
  (!(s.bankOrdered c r.bank) || (q.head?.map DramReq.id) == some r.id) &&
  (s.rowOpen r || !(s.rfmBlocked c r.bank))

/-- Rank of a request: urgency first, then, below urgency 3, an open row (R283). -/
def State.rankOf (s : State) (r : DramReq) : Nat :=
  2 * r.urgency + (if r.urgency < 3 && s.rowOpen r then 1 else 0)

/-- The request that a channel issues first: the oldest of the highest rank (R283). -/
def State.firstRequest (s : State) (c : Nat) : Option DramReq :=
  (s.memory.requests.filter (s.issuable c)).foldl (fun (best : Option DramReq) r =>
    match best with
    | none => some r
    | some b => if s.rankOf b < s.rankOf r then some r else best) none

/-- Latency of a request from its acceptance, judged against its port's target in MEM cycles of 4 root cycles
(R283). -/
def State.judgeLatency (s : State) (r : DramReq) : State :=
  let cycles := s.now / 4 - r.start / 4
  let ns := cycles * 4 / 5
  let s1 := if s.ve 0x7830 r.port 0x02 < ns then s.pute 0x7830 r.port 0x02 (min ns (2 ^ 32 - 1)) else s
  if s1.ve 0x7830 r.port 0x01 * 5 < cycles * 4 then (s1.ince 0x7830 r.port 0x03).inc 0x7802 0x0B else s1

/-- The command of a request goes to its channel; a write of a chunk that moves goes to both places (R291). -/
def State.sendRequest (s : State) (r : DramReq) : State :=
  let cmd := if r.write.isSome then 8 else 7
  (if s.rowOpen r then s else s.activate r.channel r.bank r.row).emits
    (.ddr r.channel cmd r.loc :: (match r.also with
      | some p => [.ddr p.1 cmd p.2]
      | none => []))

/-- A request is issued; a write has met its target or missed it (R283). -/
def State.issue (s : State) (r : DramReq) : State :=
  let s1 := (s.sendRequest r)
  let s2 := { s1 with memory := { s1.memory with
    requests := s1.memory.requests.map fun (q : DramReq) =>
      if q.id = r.id then { q with issued := some s1.now } else q } }
  if r.write.isSome then s2.judgeLatency r else s2

/-- A channel issues what it can, in the order of R283; `fuel` bounds the number of its requests. -/
def State.issueFrom (c : Nat) : Nat → State → State
  | 0, s => s
  | fuel + 1, s =>
    match s.firstRequest c with
    | none => s
    | some r => State.issueFrom c fuel (s.issue r)

/-- A channel goes on: it enters the self-refresh that waited for its issued commands, or issues what
waits. -/
def State.chanGoesOn (s : State) (c : Nat) : State :=
  if (s.chan c).drains then (if s.inFlight c then s else s.enterRefresh c)
  else if s.chanActive c then State.issueFrom c s.memory.requests.length s
  else s

/-- Where else a write to an address goes while its chunk moves (R291): the haven of a chunk that moves
out, its home when it returns. -/
def State.alsoAt (s : State) (a : Nat) : Option (Nat × Nat) :=
  let home := s.chunkChannel (s.chunkOf a)
  let i := s.chunkOf a / s.populated.length
  if s.memory.migrating = some home ∧ s.memory.nextChunk = i then
    if s.memory.returning then some (home, s.localAddr a)
    else
      let h := s.havenPlace home i
      some (h.1, h.2 + a % s.grain)
  else none

/-- DRAM_REQUEST (R280, R283 to R287): a request at or beyond the usable size, or on a failed channel,
gets an error response; any other is accepted, and a write's bytes are what reads return from then
on. One that enters a bank behind a pending write to its row puts the bank in arrival order (R284). -/
def State.doDramRequest (s : State) (port a n : Nat) (data : Option Bytes) : State :=
  let k := s.dramFault a n
  if k ≠ 0 then
    let s1 := if k = 4 ∧ data.isSome then s.spoil a n else s
    (s1.errorResponse port k a).portEffect port a n
  else
    let p := s.placeOf a
    let d := s.decodeLocal p.2
    let bank := bankNumber d
    let row := d.2.1
    let r : DramReq := {
      id := s.memory.nextReq, port := port, addr := a, len := n, write := data, urgency := 0, start := s.now,
      replays := 0, channel := p.1, row := row, bank := bank, loc := p.2,
      also := if data.isSome then s.alsoAt a else none, issued := none, guards := false }
    let behind := fun (q : DramReq) => q.channel == p.1 && q.bank == bank && q.row == row && q.pendingWrite
    let switch := (s.memory.requests.any behind) && !(s.bankOrdered p.1 bank)
    let s1 := { s with memory := { s.memory with
      requests := (s.memory.requests.map fun (q : DramReq) =>
        if behind q then { q with guards := true } else q) ++ [r],
      nextReq := s.memory.nextReq + 1,
      dram := match data with
        | some bs => mwrites s.memory.dram a bs
        | none => s.memory.dram } }
    (if switch then s1.inc 0x7802 0x08 else s1).chanGoesOn p.1

/-- The request with an id, if its command has been issued. -/
def State.issued? (s : State) (id : Nat) : Option DramReq :=
  s.memory.requests.find? fun (r : DramReq) => r.id == id && r.issued.isSome

/-- A request fails its CRC (R287, R288): it is replayed up to 3 times; after the third failed replay it
gets an error response. An error while another access of the channel is being replayed brings a
re-train. -/
def State.crcFails (s : State) (r : DramReq) (counter kind : Nat) : State :=
  let s1 := s.inc 0x7802 counter
  let others := s.memory.requests.any fun (q : DramReq) =>
    q.channel == r.channel && q.id != r.id && decide (0 < q.replays)
  let s2 :=
    if r.replays < 3 then
      (({ s1 with memory := { s1.memory with
          requests := s1.memory.requests.map fun (q : DramReq) =>
            if q.id = r.id then { q with replays := q.replays + 1 } else q } }).inc 0x7802 0x06).sendRequest r
    else s1.requestFails r kind
  (if others then s2.escalate.beginRetrain r.channel else s2).chanGoesOn r.channel

/-- DRAM_REQUEST_DONE (R283, R284, R287): the data of an issued read is here, or an issued write has
passed. -/
def State.doRequestDone (s : State) (id : Nat) (crcOk : Bool) : State :=
  match s.issued? id with
  | none => s
  | some r =>
    if r.write.isNone ∧ !crcOk ∧ s.ve 0x7820 r.channel 0x04 = 1 then s.crcFails r 0x05 2
    else ((if r.write.isNone then s.judgeLatency r else s).dropRequest id).chanGoesOn r.channel

/-- DDR_ALERT (R284, R287): the memory rejects a write's CRC. -/
def State.doAlert (s : State) (id : Nat) : State :=
  match s.issued? id with
  | none => s
  | some r => if r.write.isSome then s.crcFails r 0x04 1 else s

/-! ### Training (R279, R289, R292) -/

/-- Step 8 of R394: every populated channel is in service. -/
def State.judgeDdr (s : State) : State :=
  if s.populated.all fun c => s.chanState c == 2 then s.putStep 8 else s

/-- Training of a channel begins. -/
def State.beginTraining (s : State) (c : Nat) : State := s.putChanState c 1

/-- Chunks begin to come back to a channel (R292), or there are none. -/
def State.beginReturn (s : State) (c : Nat) : State :=
  let s1 := s.putChan c { s.chan c with returnDue := false, offline := false, retrained := false }
  match tget? c s1.memory.redirects with
  | none => s1.putChanState c 2
  | some r =>
    ({ s1.putChanState c 6 with memory := { s1.memory with
        migrating := some c, returning := true, nextChunk := r.1 } }).pute 0x7820 c 0x06 0

/-- What the end of a training leaves in a channel's record, and what its members show (R278, R279, R286). -/
def State.trainedChan (s : State) (c : Nat) (x : DdrTraining) : State :=
  let r := s.chan c
  let s1 := (s.leaveRefresh c).putChan c { r with
    rfmInitial := x.rfmInitial, rfmMaximum := x.rfmMaximum, trained := true, selfRefresh := false,
    drains := false, acts := [], openRows := [], oscBase := none, drift := 0 }
  ((s1.pute 0x7820 c 0x03 s1.chanSize).pute 0x7820 c 0x04
    (if x.readCrc && s1.b 0x7800 0x06 then 1 else 0)).pute 0x7820 c 0x05 (if x.rfm then 1 else 0)

/-- The state that a trained channel goes on in: its migration or return, or service. -/
def State.serviceState (s : State) (c : Nat) : Nat :=
  if s.memory.migrating = some c then (if s.memory.returning then 6 else 3) else 2

/-- DDR_TRAINING_DONE (R278, R279, R286, R292): the fast restore, where results are kept, or else the
full flow, whose results are kept from then on. -/
def State.doTrainingDone (s : State) (c : Nat) (x : DdrTraining) : State :=
  if s.chanState c ≠ 1 then s
  else
    let s1 := s.put 0x7801 0x05 (x.micros % 2 ^ 32)
    let r := s1.chan c
    let fast := r.trained && x.fastOk
    if fast || x.fullOk then
      let s2 := s1.trainedChan c x
      let s3 := if fast then s2 else s2.writeTuneRecord (64 + c)
      if r.returnDue then (s3.beginReturn c).chanGoesOn c
      else if r.offline then
        (s3.putChan c { s3.chan c with retrained := true }).putChanState c 4
      else ((s3.putChanState c (s3.serviceState c)).judgeDdr).chanGoesOn c
    else
      let s2 := ((s1.inc 0x7802 0x0D).putChanState c 7).log (domSpec domChannel c 3 1 0x7802 0 0x0D)
      let s3 := s2.putChan c { s2.chan c with returnDue := false, offline := false }
      let m := s3.memory
      (if m.migrating = some c then { s3 with memory := { m with migrating := none } } else s3).failRequests c

/-- INPLACE_RETRAIN_DONE (R279, R288, R289): the re-train has run since the channel went into self-refresh. -/
def State.doRetrainDone (s : State) (c : Nat) (ok : Bool) : State :=
  let r := s.chan c
  if s.chanState c ≠ 5 ∨ !r.selfRefresh then s
  else
    let s1 := s.put 0x7801 0x05 ((s.now - r.refreshAt) / 5000 % 2 ^ 32)
    if ok then
      let s2 := s1.putChan c { r with oscBase := none, drift := 0 }
      (((s2.leaveRefresh c).putChanState c (s2.serviceState c)).recovered domChannel c).chanGoesOn c
    else (s1.inc 0x7802 0x0D).chanFails c

/-! ### Commands to a channel (R290 to R292) -/

/-- A write of 7820[c].02 may be accepted: 0, or the code of its refusal (R290, R292, R416). -/
def State.chanCmdCode (s : State) (c v : Nat) : Nat :=
  let st := s.chanState c
  let other := match s.memory.migrating with
    | some d => d != c
    | none => false
  if st = 5 then 7
  else if other then 4
  else match v with
    | 1 => if st = 2 ∧ s.canOffline c then 0 else 4
    | 2 => if st = 4 then 0 else 4
    | 3 => if st = 4 ∨ st = 7 then 0 else 4
    | _ => 4

/-- The owner's act on 7820[c].02. -/
def State.ownChannel (s : State) (c v : Nat) : State :=
  match v with
  | 1 => s.beginMigration c
  | 2 => (s.putChan c { s.chan c with offline := true }).beginTraining c
  | 3 =>
    if s.chanState c = 4 ∧ (s.chan c).retrained then s.beginReturn c
    else (s.putChan c { s.chan c with returnDue := true, offline := false }).beginTraining c
  | _ => s

/-- A write issued or waiting for the chunk that moves has not completed (R291). -/
def State.chunkWritten (s : State) : Bool :=
  s.memory.requests.any fun (r : DramReq) => r.write.isSome && r.also.isSome

/-- CHUNK_MOVE_DONE (R291, R292): the chunk's copy and every write issued to it have completed, and its
redirect is set, or cleared when it returns; after the last chunk the channel is offline, or in service
again. -/
def State.doChunkMove (s : State) : State :=
  match s.memory.migrating, s.chunkWritten with
  | none, _ => s
  | _, true => s
  | some c, false =>
    let i := s.memory.nextChunk
    let m := s.memory
    if s.memory.returning then
      let hi := (tget (0, 0) c m.redirects).2
      let s1 := { s with memory := { m with redirects := tput c (i + 1, hi) m.redirects, nextChunk := i + 1 } }
      let s2 := s1.adde 0x7820 c 0x06 s.grain
      if i + 1 < hi then s2
      else
        ({ s2 with memory := { s2.memory with
            redirects := tdel c s2.memory.redirects, migrating := none, returning := false } }).putChanState c 2
    else
      let s1 := { s with memory := { m with redirects := tput c (0, i + 1) m.redirects, nextChunk := i + 1 } }
      let s2 := s1.adde 0x7820 c 0x06 s.grain
      if i + 1 < s.chunksOf then s2
      else ({ s2 with memory := { s2.memory with migrating := none } }).putChanState c 4

/-! ### Refresh and calibration (R278, R286) -/

/-- DDR_REFRESH_TIMER: an all-bank refresh; it lowers every activate count (R286), by the initial
threshold (PRESUMED, as at RFM, log entry 42). -/
def State.doRefresh (s : State) (c : Nat) : State :=
  if s.chanActive c then
    let x := s.chan c
    ((s.putChan c { x with openRows := [],
                           acts := x.acts.map fun (e : Nat × Nat) => (e.1, e.2 - x.rfmInitial) }).emit
      (.ddr c 1 0)).chanGoesOn c
  else s

/-! ### Meanings -/

def chanOk (c : Nat) : Bool := decide (c < 4)

/-- BANK_COPY_DONE (R268). -/
def execBankCopyDone (t : Nat) (s : State) : Result := .next (s.enter t).endBankCopy

/-- JOURNAL_COMMIT_TIMER (R273). -/
def execJournalCommitTimer (t : Nat) (s : State) : Result := .next (s.enter t).startCommit

/-- JOURNAL_COMMIT_DONE (R272 to R276). -/
def execJournalCommitDone (t : Nat) (s : State) : Result := .next (s.enter t).commitDone

/-- JOURNAL_HALF_EMPTIED (R272, R273). -/
def execJournalHalfEmptied (t : Nat) (s : State) : Result := .next (s.enter t).halfEmptied

/-- DRAM_REQUEST (R280 to R287). -/
def execDramRequest (t port addr len : Nat) (data : Option Bytes) (s : State) : Result :=
  guarded (decide (port < 7 ∧ 0 < len) && (match data with
    | some bs => bs.length == len
    | none => true)) ((s.enter t).doDramRequest port addr len data)

/-- URGENCY_RISE (R283): the urgency of a request rises by one, to 3 at most. -/
def execUrgencyRise (t request : Nat) (s : State) : Result :=
  let s1 := s.enter t
  .next { s1 with memory := { s1.memory with
    requests := s1.memory.requests.map fun (r : DramReq) =>
      if r.id = request then { r with urgency := min 3 (r.urgency + 1) } else r } }

/-- DDR_REFRESH_TIMER (R278, R286). -/
def execDdrRefreshTimer (t channel : Nat) (s : State) : Result :=
  guarded (chanOk channel) ((s.enter t).doRefresh channel)

/-- DQS_OSC_TIMER (R278, R279): the interval oscillator's count is taken, and the write timing tracks
its drift from the first count after the training (DEDUCED, log entry 98). -/
def execDqsOscTimer (t channel count : Nat) (s : State) : Result :=
  let s1 := s.enter t
  guarded (chanOk channel)
    (if s1.chanActive channel then
      let r := s1.chan channel
      let base := r.oscBase.getD count
      (s1.putChan channel { r with oscillator := count, oscBase := some base,
                                   drift := (count : Int) - base }).emit (.ddr channel 6 0)
     else s1)

/-- ZQ_CAL_TIMER (R278). -/
def execZqCalTimer (t channel : Nat) (s : State) : Result :=
  let s1 := s.enter t
  guarded (chanOk channel) (if s1.chanActive channel then s1.emit (.ddr channel 5 0) else s1)

/-- DDR_TRAINING_DONE (R279, R292). -/
def execDdrTrainingDone (t channel : Nat) (result : DdrTraining) (s : State) : Result :=
  guarded (chanOk channel) ((s.enter t).doTrainingDone channel result)

/-- CHUNK_MOVE_DONE (R291, R292). -/
def execChunkMoveDone (t : Nat) (s : State) : Result := .next (s.enter t).doChunkMove

end Sys2Proof.Machine
end

