-- ==== Sys2Proof/Machine/Clocks.lean ====
section
/-!
DEFINITION. Clocks and power (12): islands and their ramps (R298 to R302), forced switches (R303), the
gate tree (R304 to R308), the root PLL (R295 to R297), the phases of a coast (R310, R311) and the rails
(R316).
-/

namespace Sys2Proof.Machine

/-! ### Islands and ramps (R298 to R302) -/

/-- The order in which the islands open after AON, MGMT and MEM (R302). -/
def openOrder : List Nat := [2, 12, 3, 7, 4, 5, 6, 8, 9, 11, 10]

/-- Ratios that 2010[i].02 may take (R298). -/
def ratioOk (i v : Nat) : Bool :=
  match i with
  | 1 => decide (8 ≤ v ∧ v ≤ 16)
  | 5 => decide (4 ≤ v ∧ v ≤ 16)
  | 6 => decide (4 ≤ v ∧ v ≤ 8)
  | _ => v == nominalRatio i

/-- The ratio that an island heads for (R299). -/
def State.ratioTarget (s : State) (i : Nat) : Nat :=
  if i = 6 then max (s.ve 0x2010 6 0x02) (s.ve 0x2010 6 0x03) else s.ve 0x2010 i 0x02

/-- A running island whose ratio is not its target is on a ramp (R300). -/
def State.startRamp (s : State) (i : Nat) : State :=
  if s.ve 0x2010 i 0x04 = 1 ∧ s.ve 0x2010 i 0x01 ≠ s.ratioTarget i ∧ !(s.clock.ramping.contains i) then
    { s with clock := { s.clock with ramping := s.clock.ramping ++ [i] } }
  else s

/-- An island starts on its divider at /32 and ramps to its target (R301). -/
def State.openIsland (s : State) (i : Nat) : State :=
  ((s.pute 0x2010 i 0x01 32).pute 0x2010 i 0x04 1).startRamp i

/-- The next island of the order opens, or, where it runs on its divider already, begins its ramp (R302). -/
def State.openNext (s : State) : State :=
  match s.clock.opening with
  | [] => { s with clock := { s.clock with openingNow := none } }
  | i :: r =>
    let s1 : State := { s with clock := { s.clock with opening := r, openingNow := some i } }
    if s1.ve 0x2010 i 0x04 = 1 then s1.startRamp i else s1.openIsland i

/-- The islands whose ramps follow one another begin, unless one of them is on its way (R302). -/
def State.openOn (s : State) : State := if s.clock.openingNow.isSome then s else s.openNext

/-- The island of the order whose ramp runs gets no further: the next one follows. -/
def State.openPast (s : State) (i : Nat) : State := if s.clock.openingNow = some i then s.openNext else s

/-- Islands that belong wholly to a subsystem (R306). -/
def islandsOf (sub : Nat) : List Nat :=
  match sub with
  | 1 => [3] | 2 => [4] | 3 => [5] | 4 => [6] | 5 => [8, 9] | 6 => [8, 9] | 7 => [10] | 8 => [11]
  | 10 => [12] | _ => []

/-- Subsystem gates that act together (R306). -/
def gatesWith (sub : Nat) : List Nat := if sub = 5 ∨ sub = 6 then [5, 6] else [sub]

/-- The subsystem gate that covers an island is not closed. -/
def State.islandGateOpen (s : State) (i : Nat) : Bool :=
  (List.range 14).all fun n => !((islandsOf n).contains i) || s.ve 0x2020 n 0x02 != 0

/-- Every island that does not run and whose gate is open opens, one after the other and after what is
still to ramp: MGMT and MEM (R302, R311). An island that runs keeps its ratio, which changes by ramp
alone (R300). Without lock the islands wait for it. -/
def State.openIslands (s : State) : State :=
  if s.v 0x2001 0x01 ≠ 2 then s else
  let due := openOrder.filter fun i =>
    s.islandGateOpen i && !(s.islandRuns i) && !(s.clock.opening.contains i) && !(s.clock.restarting.contains i)
  ({ s with clock := { s.clock with
    opening := s.clock.opening ++ due, islandsDue := true, islandsStopped := false } }).openOn

/-- The gate of a subsystem that was opening is open once its islands have reached their targets
(R307); with BRIDGE open the course links train (R186). -/
def State.gateRamped (s : State) : State :=
  match s.clock.gateReq with
  | some r =>
    if !r.closing && !r.unit && (islandsOf r.element).all fun i => !(s.clock.ramping.contains i) then
      let s1 := (gatesWith r.element).foldl
        (fun (st : State) n => (st.pute 0x2020 n 0x02 1).pute 0x2020 n 0x01 1)
        { s with clock := { s.clock with gateReq := none } }
      if r.element = 7 then s1.trainCourses else s1
    else s
  | none => s

/-- RATIO_RAMP_STEP (R300, R302): one integer towards the target; a ramp is frozen while the PLL is not
locked (R312). -/
def State.rampStep (s : State) (i : Nat) : State :=
  if s.v 0x2001 0x01 = 2 ∧ s.clock.ramping.contains i then
    let r := s.ve 0x2010 i 0x01
    let g := s.ratioTarget i
    let r' := if r < g then r + 1 else if g < r then r - 1 else r
    let s1 := s.pute 0x2010 i 0x01 r'
    if r' = g then
      let s2 := { s1 with clock := { s1.clock with ramping := s1.clock.ramping.filter (· != i) } }
      s2.gateRamped.openPast i
    else s1
  else s

/-- The owner's act on 2010[i].02 (R27, R299, R300). -/
def State.ownRatio (s : State) (i v : Nat) : State :=
  let s1 := (s.putKept 0x2010 i 0x02 v).startRamp i
  if i = 6 then s1.recomputeReduction else s1

/-- The thermal model requests a RAY ratio (R299, R371). -/
def State.thermalRatio (s : State) (r : Nat) : State := (s.pute 0x2010 6 0x03 r).startRamp 6

/-- The input that a mux is forced to: the other one. A mux never goes to HCLK while that makes no edge, and a
stopped island has no input in use. -/
def State.otherInput (s : State) (i : Nat) : Option Nat :=
  match s.ve 0x2010 i 0x04 with
  | 0 => some 1
  | 1 => if s.clock.hclk then some 0 else none
  | _ => none

/-- A source mux is forced across (R303): noted, and the island runs from the other input, HCLK being
/32 of the root and a divider being entered at /32 (R301, R302). A mux that already stands where it
would be forced to is left. -/
def State.forcedSwitch (s : State) (i : Nat) : State :=
  match s.otherInput i with
  | none => s
  | some x =>
    let s1 := (((s.putBit 0x2001 0x02 2 true).ince 0x2010 i 0x05).inc 0x2002 0x03).log
      (noteSpec 1 0x2002 0 0x03 0 0 0)
    let s2 := (s1.pute 0x2010 i 0x01 32).pute 0x2010 i 0x04 x
    if x = 1 then s2.startRamp i
    else { s2 with clock := { s2.clock with ramping := s2.clock.ramping.filter (· != i) } }

/-! ### The gate tree (R304 to R308) -/

/-- The parent subsystem of a unit gate (R304). -/
def unitParent (e : Nat) : Nat :=
  if e < 0x88 then 4 else if e < 0x1A8 then 2 else if e < 0x2A8 then 9 else if e < 0x368 then 10
  else if e < 0x36C then 9 else if e < 0x36E then 12
  else if e = 0x36E then 3 else if e = 0x36F then 5 else if e = 0x370 then 6 else if e = 0x371 then 7
  else if e = 0x372 then 8 else 1

/-- Display is stopped and drone mode is off. -/
def State.displayOff (s : State) : Bool := s.v 0x5001 0x03 == 0

/-- An Ethernet port is up and carries the session that asks, by the path of its request. A request with no
session, a command of the table, is taken to be one of a session that is open on that port (log entry 99). -/
def State.portCarries (s : State) (path : Option Nat) (p : Nat) : Bool :=
  s.ve 0x8020 p 0x02 == 1 &&
  match path with
  | some q => q == p + 1
  | none => s.mgmt.masters.any fun e =>
      match e.2.session with
      | some x => x.path == p + 1
      | none => false

/-- The unit may be closed (R304), on a request that came over a path. -/
def State.unitClosable (s : State) (path : Option Nat) (e : Nat) : Bool :=
  if e < 0x88 then s.ve 0x4810 e 0x01 == 1 || s.ve 0x4810 e 0x01 == 2
  else if e < 0x198 then s.ve 0x3810 (e - 0x88) 0x01 == 1 || s.ve 0x3810 (e - 0x88) 0x01 == 2
  else if e < 0x1A8 then s.ve 0x3820 (e - 0x198) 0x04 == 1
  else if e < 0x2A8 then s.ve 0x7810 (e - 0x1A8) 0x01 == 1 || s.ve 0x7810 (e - 0x1A8) 0x01 == 2
  else if e < 0x368 then s.ve 0x7010 (e - 0x2A8) 0x01 == 3 || s.ve 0x7010 (e - 0x2A8) 0x01 == 5
  else if e < 0x36C then
    let st := s.ve 0x7820 (e - 0x368) 0x01
    st == 4 || st == 7 || st == 0
  else if e < 0x36E then s.portCarries path (1 - (e - 0x36C))
  else if e = 0x36E then s.v 0x4000 0x01 == 0
  else if e ≤ 0x370 then s.displayOff || (s.half (e - 0x36F)).park == 3
  else if e = 0x371 then s.displayOff
  else if e = 0x372 then (s.wheel == 0 || s.wheel == 1) && s.v 0x6800 0x01 == 0
  else s.displayOff && (List.range 8).all fun p => !(s.portUp p)

/-- Every unit gate of the given subsystems is closed. -/
def State.unitsClosed (s : State) (subs : List Nat) : Bool :=
  (List.range 0x374).all fun e => !(subs.contains (unitParent e)) || s.ve 0x2030 e 0x02 == 0

/-- State member of a gate. -/
def gateObject (unit : Bool) : Nat := if unit then 0x2030 else 0x2020
def State.gateState (s : State) (unit : Bool) (e : Nat) : Nat := s.ve (gateObject unit) e 0x02

/-- A gate request may not begin now (R307, R317): another one is in progress, islands are opening one
after the other, or the clock state is other than 2. A ramp to another ratio is no ramp of a gate. -/
def State.gateBusy (s : State) : Bool :=
  s.clock.gateReq.isSome || s.clock.openingNow.isSome || s.v 0x2001 0x01 != 2

/-- What a gate request that came over a path answers: 0 accepted, 7 busy, 4 refused by rule (R304 to R307,
R317). -/
def State.gateCode (s : State) (path : Option Nat) (unit : Bool) (e : Nat) (closing : Bool) : Nat :=
  if s.gateBusy then 7
  else if unit then
    if closing then if s.gateState true e = 0 ∨ s.unitClosable path e then 0 else 4
    else if s.gateState false (unitParent e) = 0 then 4
    else 0
  else if closing then
    if e = 0 ∨ e = 9 ∨ e = 11 ∨ e = 12 ∨ e = 13 then 4
    else if s.gateState false e = 0 ∨ s.unitsClosed (gatesWith e) then 0
    else 4
  else if e ≠ 0 ∧ s.gateState false 0 = 0 then 4
  else 0

/-- A refused gate request is counted (R305, R306). -/
def State.gateRefused (s : State) (code : Nat) : State :=
  if code = 7 then (s.putBit 0x2001 0x02 3 true).inc 0x2002 0x04 else s.inc 0x2002 0x05

/-- A gate takes a state, and its request member follows. -/
def State.putGate (s : State) (unit : Bool) (e st : Nat) : State :=
  let s1 := s.pute (gateObject unit) e 0x02 st
  if st = 0 then s1.pute (gateObject unit) e 0x01 0
  else if st = 1 then s1.pute (gateObject unit) e 0x01 1
  else s1

/-- The owner's act on a gate member (R305 to R307): an accepted close waits for the handshakes; a unit
opens at once; a subsystem ramps its islands. -/
def State.ownGate (s : State) (unit : Bool) (e v : Nat) : State :=
  let closing := decide (v = 0)
  let code := s.gateCode none unit e closing
  if code ≠ 0 then s.gateRefused code
  else if closing then
    if s.gateState unit e = 0 then s
    else
      let s1 := { s with clock := { s.clock with
        gateReq := some ({ unit := unit, element := e, closing := true } : GateReq) } }
      if unit then s1.putGate true e 3
      else (gatesWith e).foldl (fun (st : State) n => st.putGate false n 3) s1
  else if s.gateState unit e ≠ 0 then s
  else if unit then s.putGate true e 1
  else
    let gs := gatesWith e
    let s1 := gs.foldl (fun (st : State) n => st.putGate false n 2)
      { s with clock := { s.clock with
          gateReq := some ({ unit := false, element := e, closing := false } : GateReq) } }
    ((islandsOf e).foldl State.openIsland s1).gateRamped

/-- GATE_IDLE (R301, R305): every handshake is idle and the gate closes. -/
def State.gateIdle (s : State) : State :=
  match s.clock.gateReq with
  | some r =>
    if r.closing then
      let s1 := { s with clock := { s.clock with gateReq := none } }
      if r.unit then s1.putGate true r.element 0
      else
        (islandsOf r.element).foldl State.stopIsland
          ((gatesWith r.element).foldl (fun (st : State) n => st.putGate false n 0) s1)
    else s
  | none => s

/-- The gate request under way is refused as busy (R305, R312): a gate that was closing stays open, one
that was opening stays closed. -/
def State.gateAbandon (s : State) : State :=
  match s.clock.gateReq with
  | some r =>
    let s1 := ({ s with
      clock := { s.clock with gateReq := none }, mgmt := { s.mgmt with lastCode := 7 } }).gateRefused 7
    if r.closing then
      if r.unit then s1.putGate true r.element 1
      else (gatesWith r.element).foldl (fun (st : State) n => st.putGate false n 1) s1
    else
      (islandsOf r.element).foldl State.stopIsland
        ((gatesWith r.element).foldl (fun (st : State) n => st.putGate false n 0) s1)
  | none => s

/-! ### The root PLL (R295 to R297, R302, R310, R311) -/

/-- AON, MGMT and MEM run from HCLK (R301, R311). -/
def State.coreOnHclk (s : State) : State :=
  [0, 1, 13].foldl (fun (st : State) i =>
    let st1 := (st.pute 0x2010 i 0x01 32).pute 0x2010 i 0x04 0
    { st1 with clock := { st1.clock with ramping := st1.clock.ramping.filter (· != i) } }) s

/-- AON, MGMT and MEM switch to their dividers at /32; MGMT and then MEM ramp to their targets: the whole
sequence of ramps takes the sum of them all (R302; DEDUCED, log entry 101). -/
def State.coreOnDividers (s : State) : State :=
  let s1 := [0, 1, 13].foldl (fun (st : State) i => (st.pute 0x2010 i 0x01 32).pute 0x2010 i 0x04 1) s
  ({ s1 with clock := { s1.clock with
    ramping := s1.clock.ramping.filter fun i => i != 1 && i != 13, opening := [1, 13] } }).openNext

/-- Acquisition begins. -/
def State.acquire (s : State) (st : Nat) : State :=
  ({ s with clock := { s.clock with acqStart := s.now, locked := false } }).put 0x2001 0x01 st

/-- PLL_LOCK (R295, R302, R311): the first lock after RESET_N is step 3 of R394; a later one brings the
islands back. -/
def State.pllLock (s : State) : State :=
  let st := s.v 0x2001 0x01
  if s.clock.resetN ∧ s.clock.hclk ∧ (st = 0 ∨ st = 1 ∨ st = 5) then
    let us := (s.now - s.clock.acqStart) / 5000
    let s1 := ((({ s with clock := { s.clock with locked := true } }).put 0x2001 0x01 2).put 0x2001 0x03
      (us % 2 ^ 32)).coreOnDividers
    if s.stepDone 3 then
      if s.stepDone 5 ∧ !s.clock.pfailRun ∧ s.v 0x1890 0x01 ≠ 6 ∧ !s.shutdownPending then s1.openIslands
      else s1
    else s1.putStep 3
  else s

/-- PLL_LOCK_TIMEOUT (R297). -/
def State.lockTimeout (s : State) : State :=
  if s.clock.resetN ∧ !s.clock.locked then
    let s1 := (s.inc 0x2002 0x07).putBit 0x2001 0x02 4 true
    ({ s1 with clock := { s1.clock with lockIrq := true, acqStart := s1.now } }).updateHirq
  else s

/-- HOLD_PHASE_END (R310, R311): the islands other than AON, MGMT and MEM stop; the low phase follows, or
acquisition when HCLK has been qualified. -/
def State.holdPhaseEnd (s : State) : State :=
  if s.v 0x2001 0x01 = 3 then
    let s1 := (2 :: outsideService).foldl State.stopIsland s
    let s2 : State := { s1 with clock := { s1.clock with hold := false } }
    if s2.clock.qualified then
      (({ s2 with clock := { s2.clock with qualified := false } }).coreOnHclk).acquire 5
    else s2.put 0x2001 0x01 4
  else s

/-- HCLK_QUALIFIED (R311). -/
def State.hclkQualified (s : State) : State :=
  let s1 := { s with clock := { s.clock with hclk := true } }
  match s.v 0x2001 0x01 with
  | 3 => { s1 with clock := { s1.clock with qualified := true } }
  | 4 => s1.coreOnHclk.acquire 5
  | 0 => if s.clock.resetN then s1.coreOnHclk.acquire 1 else s1
  | _ => s1

/-! ### Rails (R316) -/

/-- A rail leaves its limits while RESET_N is high: counted and recorded as fatal. -/
def State.railFault (s : State) (r v : Nat) : State :=
  let s1 := s.pute 0x2040 r 0x01 v
  if s.clock.resetN then
    let s2 : State := { s1 with clock := { s1.clock with
      badRails := if s1.clock.badRails.contains r then s1.clock.badRails else s1.clock.badRails ++ [r] } }
    ((s2.ince 0x2040 r 0x02).inc 0x2002 0x06).log (noteSpec 2 0x2040 r 0x02 0 0 0)
  else s1

/-! ### Meanings -/

def islandOk (i : Nat) : Bool := decide (i < 14)

/-- PLL_LOCK (R295, R302, R311). -/
def execPllLock (t : Nat) (s : State) : Result := .next (s.enter t).pllLock

/-- PLL_LOCK_TIMEOUT (R297). -/
def execPllLockTimeout (t : Nat) (s : State) : Result := .next (s.enter t).lockTimeout

/-- HOLD_PHASE_END (R310, R311). -/
def execHoldPhaseEnd (t : Nat) (s : State) : Result := .next (s.enter t).holdPhaseEnd

/-- HCLK_QUALIFIED (R311). -/
def execHclkQualified (t : Nat) (s : State) : Result := .next (s.enter t).hclkQualified

/-- RATIO_RAMP_STEP (R300). -/
def execRatioRampStep (t island : Nat) (s : State) : Result :=
  guarded (islandOk island) ((s.enter t).rampStep island)

/-- MUX_FORCED_SWITCH (R303). -/
def execMuxForcedSwitch (t island : Nat) (s : State) : Result :=
  guarded (islandOk island) ((s.enter t).forcedSwitch island)

/-- RAIL_OVERVOLTAGE (R316): recorded, and no power-fail. -/
def execRailOvervoltage (t rail : Nat) (s : State) : Result :=
  guarded (decide (rail < 7)) ((s.enter t).railFault rail 2)

/-- RAIL_RETURN (R316): the rail is in tolerance again. -/
def execRailReturn (t rail : Nat) (s : State) : Result :=
  let s1 := (s.enter t).pute 0x2040 rail 0x01 1
  guarded (decide (rail < 7))
    { s1 with clock := { s1.clock with badRails := s1.clock.badRails.filter (· != rail) } }

end Sys2Proof.Machine
end

