-- ==== Sys2Proof/Machine/Health.lean ====
section
/-!
DEFINITION. Health (15): the thermal model and its evaluations (R365 to R369), the throttle (R370 to
R373), thermal shutdown (R376 to R378), life figures (R375) and the check-value units (R387 to R390).
-/

namespace Sys2Proof.Machine

/-! ### Temperatures -/

/-- Temperatures are held to 1/256 °C and shown to 1/16 °C, to the nearest, halves up. -/
def toSixteenths (x : Int) : Int := (x + 8) / 16

/-- A signed 16-bit member; the spec states no value beyond its range. -/
def State.putS16 (s : State) (o e m : Nat) (x : Int) : State :=
  if -(2 ^ 15) ≤ x ∧ x < 2 ^ 15 then s.pute o e m (ofS 16 x)
  else
    let (f, s1) := s.draw 65536
    s1.pute o e m f

/-- Ton of R370, in 1/256 °C. -/
def State.onset (s : State) : Int := toS 16 (s.v 0x2800 0x01) * 16

/-- An evaluation follows the one before it in the fast interval (R367): bit 0 of 2801.05. -/
def State.fastEval (s : State) : Bool := s.bit 0x2801 0x05 0

/-- Node temperatures in range: 20 bits hold them to 1/256 °C. -/
def nodeRange (x : Int) : Int := toS 20 (ofS 20 x)

/-- The nodes before the first evaluation stand at the greater of the coolant temperature and the
hottest diode reading (R367). -/
def State.firstNodes (s : State) (diodes : List Int) : List Int :=
  List.replicate 32 (16 * diodes.foldl max (toS 16 (s.v 0x2800 0x02)))

/-- The nodes after an evaluation (R366, R367). -/
def State.nextNodes (s : State) (powers : List Nat) (diodes : List Int) : List Int :=
  let before := if s.health.history = [] then s.firstNodes diodes else s.health.nodes
  let interval := if s.fastEval then 312500 else msCycles
  let after := Config.thermalStep before powers interval (toS 16 (s.v 0x2800 0x02))
    (toS 16 (s.v 0x2800 0x04)) (s.v 0x2800 0x03)
  (List.range 32).map fun n => nodeRange (after.getD n 0)

/-- Tg in 1/256 °C and its source (R368): the lowest-numbered node among those that share it, and a
diode only where no node does. -/
def governing (nodes diodes : List Int) : Int × Nat :=
  let cands := ((List.range 28).map fun n => (nodes.getD n 0, n)) ++
    ((List.range 4).map fun d => (16 * diodes.getD d 0, 32 + d))
  cands.foldl (fun (b : Int × Nat) c => if b.1 < c.1 then c else b) (nodes.getD 0 0, 0)

/-- AON cycles are 32 root cycles (R298). -/
def aonCycle (t : Nat) : Nat := t / 32

/-- Tg of the last evaluation that was 256 ms or more before (R369): 40 000 000 AON cycles. -/
def oldTg (history : List (Nat × Int)) (t : Nat) : Option Int :=
  (history.find? fun h => decide (aonCycle h.1 + 40000000 ≤ aonCycle t)).map (·.2)

/-- History that later evaluations can need: back to the first entry that is old enough. -/
def pruneTg (t : Nat) : List (Nat × Int) → List (Nat × Int)
  | [] => []
  | h :: r => if aonCycle h.1 + 40000000 ≤ aonCycle t then [h] else h :: pruneTg t r

/-- The rise rate is above `c` hundredths of a °C per second; it is held in 1/256 °C in 0.256 s. -/
def riseAbove (rise : Int) (c : Int) : Bool := decide (c * 65536 < rise * 100000)
def riseBelow (rise : Int) (c : Int) : Bool := decide (rise * 100000 < c * 65536)

/-- The rise rate in 1/16 °C per second. -/
def riseShown (rise : Int) : Int := (rise * 16000 * 2 + 65536) / (65536 * 2)

/-! ### The throttle (R370 to R373) -/

/-- The target of q (R370). -/
def State.throttleTarget (s : State) : Nat :=
  (min 64 (max 0 (-((-(8 * (s.health.tg - s.onset))) / 256)))).toNat

/-- The thermal ratio after a step of q (R371). -/
def nextRatio (q r : Nat) : Nat :=
  let up := 4 + (q + 15) / 16
  if r < up then up
  else if (6 ≤ r ∧ q + 8 ≤ 16 * (r - 5)) ∨ (r = 5 ∧ q = 0) then r - 1
  else r

/-- q moves one step towards its target, and r follows; not while the fast throttle holds (R370, R371,
R373). -/
def State.throttleStep (s : State) : State :=
  if s.bit 0x2801 0x05 2 then s
  else
    let q := s.v 0x2801 0x04
    let g := s.throttleTarget
    let q' := if q < g then q + 1 else if g < q then q - 1 else q
    (s.put 0x2801 0x04 q').thermalRatio (nextRatio q' (s.ve 0x2010 6 0x03))

/-- The rise-rate alarm (R373). -/
def State.riseAlarm (s : State) (rise : Int) : State :=
  if riseAbove rise 200 ∧ !(s.bit 0x2801 0x05 1) then
    ((s.putBit 0x2801 0x05 1 true).inc 0x2802 0x01).event 0x2802 0 0x01 0
  else if riseBelow rise 100 then s.putBit 0x2801 0x05 1 false
  else s

/-- The fast throttle (R373). -/
def State.fastThrottle (s : State) (rise : Int) : State :=
  if riseAbove rise 500 then
    let s1 := if s.bit 0x2801 0x05 2 then s
      else (((s.putBit 0x2801 0x05 2 true).inc 0x2802 0x02).event 0x2802 0 0x02 0).log
        (noteSpec 1 0x2802 0 0x02 0 0 0)
    (s1.put 0x2801 0x04 64).thermalRatio 8
  else s

/-- The fast throttle ends (R373). -/
def State.fastRelease (s : State) : State :=
  if riseBelow s.health.rise 100 then s.putBit 0x2801 0x05 2 false else s

/-! ### Thermal shutdown (R376, R377) -/

/-- A shutdown record (R377). -/
def State.shutdownRecord (s : State) (seq : Nat) : Bytes :=
  beBytes 4 seq ++ beBytes 12 s.wallTime ++ beBytes 4 (s.v 0x5001 0x01) ++ beBytes 8 s.uptime ++
  beBytes 2 (s.v 0x2801 0x01) ++ beBytes 1 (s.v 0x2801 0x02) ++ beBytes 1 (s.v 0x2801 0x04) ++
  beBytes 2 (s.v 0x2801 0x03) ++ beBytes 2 (s.v 0x2801 0x06) ++
  ((List.range 32).flatMap fun n => beBytes 2 (s.ve 0x2810 n 0x01)) ++
  ((List.range 24).flatMap fun n => beBytes 2 (s.ve 0x2811 n 0x01)) ++
  ((List.range 4).flatMap fun d => beBytes 2 (s.ve 0x2812 d 0x01)) ++
  beBytes 2 (s.v 0x2800 0x02) ++ beBytes 1 1 ++ zeros 93

/-- What 2804 shows of the latest record (R391). -/
def State.showRecord (s : State) : State :=
  match s.health.records with
  | [] => s
  | r :: _ =>
    ((((s.put 0x2804 0x01 (field r 158 1)).put 0x2804 0x02 (field r 0 4)).put 0x2804 0x03
      (field r 4 12)).put 0x2804 0x04 (field r 16 4)).put 0x2804 0x05 (field r 28 2)

/-- Thermal shutdown (R376, R377); the record takes a block of the retained store (R271, R276). -/
def State.thermalShutdown (s : State) : State :=
  let s1 := s.inc 0x2802 0x04
  let r := s1.shutdownRecord (s1.v 0x2802 0x04)
  let s2 := (({ s1 with health := { s1.health with
    records := (r :: s1.health.records).take 8 } }).wearBlock
      (shutdownWear (s1.v 0x2802 0x04 % 8))).showRecord
  let s3 := (s2.putBit 0x2801 0x05 4 true).putBit 0x2801 0x05 5 true
  ((s3.event 0x2802 0 0x04 0).log (noteSpec 2 0x2802 0 0x04 0 0 0)).powerFail

/-! ### Evaluation (R365 to R369, R373, R376) -/

/-- The powers, the nodes, the diodes, Tg and the rise rate of an evaluation. -/
def State.measureHeat (s : State) (powers : List Nat) (diodes : List Int) : State :=
  let ps := (List.range 24).map fun n => powers.getD n 0 % 65536
  let ds := (List.range 4).map fun d => toS 16 (ofS 16 (diodes.getD d 0))
  let nodes := s.nextNodes ps ds
  let (tg, src) := governing nodes ds
  let rise := match oldTg s.health.history s.now with
    | some x => tg - x
    | none => 0
  let s1 := { s with health := { s.health with
    nodes := nodes, history := (s.now, tg) :: pruneTg s.now s.health.history, tg := tg, rise := rise } }
  let s2 := (List.range 32).foldl (fun (st : State) n =>
    st.putS16 0x2810 n 0x01 (toSixteenths (nodes.getD n 0))) s1
  let s3 := (List.range 24).foldl (fun (st : State) n => st.pute 0x2811 n 0x01 (ps.getD n 0)) s2
  let s4 := (List.range 4).foldl (fun (st : State) d => st.pute 0x2812 d 0x01 (ofS 16 (ds.getD d 0))) s3
  let s5 := ((s4.putS16 0x2801 0 0x01 (toSixteenths tg)).put 0x2801 0x02 src).putS16 0x2801 0 0x03
    (riseShown rise)
  let total := ps.foldl (· + ·) 0
  if total < 65536 then s5.put 0x2801 0x06 total
  else
    let (f, s6) := s5.draw 65536
    s6.put 0x2801 0x06 f

/-- The evaluation interval for the next evaluation (R367): bit 0 of 2801.05. -/
def State.judgeInterval (s : State) : State :=
  let tg := s.health.tg
  let rise := s.health.rise
  if s.onset - 6 * 256 ≤ tg ∨ riseAbove rise 100 then s.putBit 0x2801 0x05 0 true
  else if tg < s.onset - 7 * 256 ∧ !(riseAbove rise 50) then s.putBit 0x2801 0x05 0 false
  else s

/-- THERMAL_EVALUATION. -/
def State.evaluate (s : State) (powers : List Nat) (diodes : List Int) : State :=
  let s1 := (s.measureHeat powers diodes).judgeInterval
  let s2 := (s1.riseAlarm s1.health.rise).fastThrottle s1.health.rise
  if 106 * 256 ≤ s2.health.tg then
    let s3 := { s2 with health := { s2.health with hot := true } }
    if s2.health.hot then s3 else s3.thermalShutdown
  else { s2 with health := { s2.health with hot := false } }

/-- MODEL_MISMATCH (R368): once per episode. -/
def State.modelMismatch (s : State) : State :=
  (((s.putBit 0x2801 0x05 3 true).inc 0x2802 0x05).event 0x2802 0 0x05 0).log
    (noteSpec 1 0x2802 0 0x05 0 0 0)

/-! ### Life (R375) -/

/-- The bin of a Tg in 1/256 °C (2803). -/
def tempBin (tg : Int) : Nat := min 13 ((tg / 256 - 40) / 5).toNat

/-- LIFE_SECOND (R375). -/
def State.lifeSecond (s : State) : State :=
  if s.clock.resetN then
    let s1 := (s.ince 0x2803 (tempBin s.health.tg) 0x01).inc 0x2801 0x08
    let sum := s1.health.tgSum + s1.health.tg
    ({ s1 with health := { s1.health with tgSum := sum } }).putS16 0x2801 0 0x07
      (toSixteenths (sum / s1.v 0x2801 0x08))
  else s

/-! ### Check-value units (R387 to R390) -/

/-- The register of a unit, before the final XOR. -/
def State.cvReg (s : State) (u : Nat) : Nat := (tget? u s.health.cv).getD (crcInit (s.ve 0x2840 u 0x01))

/-- The result over the bytes fed (R388): 2840[u].06. -/
def State.cvResult (s : State) (u : Nat) : Nat := crcFinal (s.ve 0x2840 u 0x01) (s.cvReg u)

/-- A unit goes back to its initial value (R388). -/
def State.cvInit (s : State) (u : Nat) : State :=
  (({ s with health := { s.health with cv := tdel u s.health.cv } }).pute 0x2840 u 0x07 0).pute
    0x2840 u 0x0B 0

/-- The comparison of R390. -/
def State.cvCompare (s : State) (u : Nat) : State :=
  if s.cvResult u = s.ve 0x2840 u 0x08 then s.pute 0x2840 u 0x0B 1
  else ((s.pute 0x2840 u 0x0B 2).inc 0x2802 0x03).event 0x2840 u 0x0B 0

/-- One byte is fed; the comparison is made by itself at the set count (R388, R390). -/
def State.cvByte (s : State) (u : Nat) (b : Byte) : State :=
  let reg := crcByte (s.ve 0x2840 u 0x01) (s.cvReg u) b.toNat
  let s1 := ({ s with health := { s.health with cv := tput u reg s.health.cv } }).ince 0x2840 u 0x07
  if s1.ve 0x2840 u 0x09 ≠ 0 ∧ s1.ve 0x2840 u 0x07 = s1.ve 0x2840 u 0x09 then s1.cvCompare u else s1

/-- Another master holds the unit (R389). -/
def State.cvHeld (s : State) (u master : Nat) : Bool :=
  let o := s.ve 0x2840 u 0x0C
  o != 255 && o != master

/-- What a write to a unit answers (R388 to R390): 0, 4 or 7. -/
def State.cvCode (s : State) (u m master v : Nat) : Nat :=
  if m = 0x01 then if s.cvHeld u master then 7 else if v ≤ 3 then 0 else 4
  else if m = 0x02 then if v = 1 then 0 else 4
  else if m = 0x08 ∨ m = 0x09 then 0
  else if m = 0x0A then if s.cvHeld u master then 7 else if v = 1 then 0 else 4
  else if s.cvHeld u master then 7
  else if s.ve 0x2840 u 0x09 ≠ 0 ∧ s.ve 0x2840 u 0x09 ≤ s.ve 0x2840 u 0x07 then 4
  else 0

/-- A feed of `n` bytes, most significant first, by a master, which claims a unit that nobody holds
(R388, R389). -/
def State.cvFeed (s : State) (u n master v : Nat) : State :=
  (beBytes n v).foldl (fun (st : State) b => st.cvByte u b) (s.pute 0x2840 u 0x0C master)

/-- The owner's act on a member of a unit. -/
def State.ownCv (s : State) (u m master v : Nat) : State :=
  if m = 0x01 then (s.pute 0x2840 u 0x01 v).cvInit u
  else if m = 0x02 then (s.cvInit u).pute 0x2840 u 0x0C 255
  else if m = 0x03 then s.cvFeed u 1 master v
  else if m = 0x04 then s.cvFeed u 2 master v
  else if m = 0x05 then s.cvFeed u 4 master v
  else if m = 0x0A then s.cvCompare u
  else s.pute 0x2840 u m v

/-! ### Meanings -/

/-- MODEL_MISMATCH (R368). -/
def execModelMismatch (t diode : Nat) (s : State) : Result :=
  guarded (decide (diode < 4)) (s.enter t).modelMismatch

/-- FAST_THROTTLE_RELEASE (R373). -/
def execFastThrottleRelease (t : Nat) (s : State) : Result := .next (s.enter t).fastRelease

/-- THROTTLE_STEP_TIMER (R370): while display is stopped, in drone mode and in glide; otherwise q moves
at the latch points. -/
def execThrottleStepTimer (t : Nat) (s : State) : Result :=
  let s1 := s.enter t
  .next (if s1.displayRuns ∧ s1.v 0x5001 0x05 = 255 then s1 else s1.throttleStep)

/-- LIFE_SECOND (R375). -/
def execLifeSecond (t : Nat) (s : State) : Result := .next (s.enter t).lifeSecond

/-- CV_OWNER_TIMEOUT (R389): the claim lapses. -/
def execCvOwnerTimeout (t unit : Nat) (s : State) : Result :=
  guarded (decide (unit < 16)) ((s.enter t).pute 0x2840 unit 0x0C 255)

end Sys2Proof.Machine
end

