-- ==== Sys2Proof/Machine/Network.lean ====
section
/-!
DEFINITION. Network time (14): Ethernet frames and the relay (R349 to R352, R354, R355), domain slots
(R353, R356 to R358) and wall time (R359 to R362). The layouts of Ethernet, IPv6, ICMPv6, MLDv2 and
IEEE 1588-2019 messages are those of the standards that the chapter names.
-/

namespace Sys2Proof.Machine

/-! ### Frames: destination address to the last byte before the FCS -/

/-- The VLAN tag of a frame (TCI), if it has one. -/
def frameTag (f : Bytes) : Option Nat := if field f 12 2 = 0x8100 then some (field f 14 2) else none

/-- Offset of the bytes after the Ethertype, and the Ethertype. -/
def frameBody (f : Bytes) : Nat := if field f 12 2 = 0x8100 then 18 else 14
def frameType (f : Bytes) : Nat := field f (frameBody f - 2) 2

/-- A PAUSE frame (R349): MAC control with opcode 1. -/
def isPause (f : Bytes) : Bool := frameType f == 0x8808 && field f (frameBody f) 2 == 1

/-- The frame is IPv6 with this next header. -/
def isIp6 (f : Bytes) (next : Nat) : Bool :=
  let o := frameBody f
  frameType f == 0x86DD && field f o 1 / 16 == 6 && field f (o + 6) 1 == next

/-- Source and destination address of an IPv6 frame. -/
def ip6Src (f : Bytes) : Nat := field f (frameBody f + 8) 16
def ip6Dst (f : Bytes) : Nat := field f (frameBody f + 24) 16

/-- Where the PTP message of a frame begins: layer 2, or UDP/IPv6 on the event and general ports (R353). -/
def ptpAt (f : Bytes) : Option Nat :=
  let o := frameBody f
  if frameType f = 0x88F7 then some o
  else if isIp6 f 17 ∧ (field f (o + 42) 2 = 319 ∨ field f (o + 42) 2 = 320) then some (o + 48)
  else none

/-- The PTP message of a frame by transport: 0 layer 2, 1 UDP/IPv6. -/
def ptpTransport (f : Bytes) : Nat := if frameType f = 0x88F7 then 0 else 1

/-- The PTP message of a frame, empty for any other frame. -/
def ptpOf (f : Bytes) : Bytes :=
  match ptpAt f with
  | some o => f.drop o
  | none => []

def ptpType (m : Bytes) : Nat := field m 0 1 % 16
def ptpDomain (m : Bytes) : Nat := field m 4 1
def ptpTwoStep (m : Bytes) : Bool := (field m 6 1).testBit 1
/-- correctionField, in 2^-16 ns. -/
def ptpCorr (m : Bytes) : Int := toS 64 (field m 8 8)
def ptpSource (m : Bytes) : Nat := field m 20 10
def ptpSeq (m : Bytes) : Nat := field m 30 2
/-- logMessageInterval. -/
def ptpInterval (m : Bytes) : Nat := field m 33 1
/-- A 10-byte timestamp at an offset, in 2^-16 ns. -/
def ptpStamp (m : Bytes) (o : Nat) : Int :=
  ((field m o 6 * unitsPerSec + field m (o + 6) 4 * 65536 : Nat) : Int)

/-- Least length of a message of a type. -/
def ptpLength (ty : Nat) : Nat :=
  match ty with
  | 0 => 44 | 1 => 44 | 8 => 44 | 9 => 54 | 11 => 64 | 2 => 54 | 3 => 54 | 10 => 54 | _ => 34

/-- The message is well formed: versionPTP 2, minorVersionPTP 0 or 1, lengths that agree (R353). -/
def ptpGood (m : Bytes) : Bool :=
  field m 1 1 % 16 == 2 && decide (field m 1 1 / 16 ≤ 1) && decide (ptpLength (ptpType m) ≤ field m 2 2) &&
  decide (field m 2 2 ≤ m.length)

/-- A peer delay message. -/
def ptpPeer (ty : Nat) : Bool := ty == 2 || ty == 3 || ty == 10

/-! ### Own addresses (R352) -/

def State.mac (_ : State) : Nat := Config.factoryMac % 2 ^ 48

/-- The modified EUI-64 interface identifier, and the EUI-64 clock identity of the device. -/
def State.clockId (s : State) : Nat := s.mac / 2 ^ 24 * 2 ^ 40 + 0xFFFE * 2 ^ 24 + s.mac % 2 ^ 24
def State.interfaceId (s : State) : Nat := Nat.xor s.clockId (2 ^ 57)

/-- fe80::/64 with the interface identifier. -/
def State.linkLocal (s : State) : Nat := 0xFE80 * 2 ^ 112 + s.interfaceId

/-- The global address, when it is configured. -/
def State.globalAddr (s : State) : Option Nat :=
  let b := s.blob 0x8000 0 0x11
  if b.length = 16 then some (beNat b) else none

/-- Own addresses that may be used. -/
def State.ownAddrs (s : State) : List Nat :=
  (if s.net.linkOk then [s.linkLocal] else []) ++
  (if s.net.globalOk then s.globalAddr.toList else [])

/-- The solicited-node group of an address. -/
def solicited (a : Nat) : Nat := 0xFF0200000000000000000001FF000000 + a % 2 ^ 24

/-- The groups of PTP over IPv6. -/
def ptpGroups : List Nat := [0xFF020000000000000000000000000181, 0xFF0E0000000000000000000000000181]

/-- Groups that the device has joined. -/
def State.groups (s : State) : List Nat :=
  (s.linkLocal :: s.globalAddr.toList).map solicited ++ ptpGroups

/-- The Ethernet address of a multicast IPv6 address. -/
def groupMac (a : Nat) : Nat := 0x3333 * 2 ^ 32 + a % 2 ^ 32

/-- The device keeps a frame for itself (R350, R352). -/
def State.keepsFrame (s : State) (f : Bytes) : Bool :=
  let d := field f 0 6
  let tagOk := match frameTag f with
    | none => true
    | some t => t % 4096 == 0 || t % 4096 == s.v 0x8000 0x0F
  tagOk && (d == s.mac || d == 0xFFFFFFFFFFFF || d == 0x011B19000000 ||
    d == groupMac 1 || s.groups.any fun g => groupMac g == d)

/-- Destination, source and tag of an own frame (R352). -/
def State.ownHead (s : State) (dst ty : Nat) : Bytes :=
  let vid := s.v 0x8000 0x0F
  beBytes 6 dst ++ beBytes 6 s.mac ++
  (if vid = 0 then [] else beBytes 2 0x8100 ++ beBytes 2 (s.v 0x8000 0x10 * 8192 + vid)) ++ beBytes 2 ty

/-! ### Checksums of IPv6 payloads -/

/-- Sum of the 16-bit words of a byte string, odd strings padded. -/
def wordSum : Bytes → Nat
  | [] => 0
  | [a] => a.toNat * 256
  | a :: b :: r => a.toNat * 256 + b.toNat + wordSum r

/-- One's-complement folding. -/
def fold16 (x : Nat) : Nat :=
  let y := x / 65536 + x % 65536
  let z := y / 65536 + y % 65536
  z / 65536 + z % 65536

/-- The checksum of an upper-layer payload whose checksum field is 0. -/
def ip6Check (src dst next : Nat) (p : Bytes) : Nat :=
  65535 - fold16 (wordSum (beBytes 16 src ++ beBytes 16 dst ++ beBytes 4 p.length ++ beBytes 4 next ++ p))

/-- An IPv6 packet. -/
def ip6Packet (src dst next hop : Nat) (p : Bytes) : Bytes :=
  beBytes 4 0x60000000 ++ beBytes 2 p.length ++ beBytes 1 next ++ beBytes 1 hop ++ beBytes 16 src ++
  beBytes 16 dst ++ p

/-- An ICMPv6 message: type, code 0, checksum, body. -/
def icmp (src dst ty : Nat) (body : Bytes) : Bytes :=
  let c := ip6Check src dst 58 (beBytes 1 ty ++ [0#8, 0#8, 0#8] ++ body)
  beBytes 1 ty ++ [0#8] ++ beBytes 2 c ++ body

/-- The link of an Ethernet port is up. -/
def State.ethUp (s : State) (p : Nat) : Bool := s.ve 0x8020 p 0x02 == 1

/-- A frame of the device's own goes out of a port: behind relayed PTP messages and own frames that wait, and
ahead of every other (R351). The slot is that whose Delay_Req it is. -/
def State.sendOwn (s : State) (port : Nat) (o : Output) (slot : Option Nat) : State :=
  if s.net.queue.any fun (x : Relayed) => x.out == port && (x.ptp || x.own.isSome) then
    let x : Relayed := { out := port, ptp := false, stamp := 0, frame := [], own := some o, slot := slot }
    { s with net := { s.net with queue := s.net.queue ++ [x] } }
  else s.emit o

/-- Sends an own IPv6 packet out of a port. -/
def State.sendIp6 (s : State) (port dstMac : Nat) (pkt : Bytes) : State :=
  if s.ethUp port then s.sendOwn port (.ethFrame port (s.ownHead dstMac 0x86DD ++ pkt)) none else s

/-- A Neighbor Solicitation for an own address, for duplicate address detection (R352). -/
def State.sendDad (s : State) (a : Nat) : State :=
  [0, 1].foldl (fun (st : State) p =>
    st.sendIp6 p (groupMac (solicited a))
      (ip6Packet 0 (solicited a) 58 255 (icmp 0 (solicited a) 135 (beBytes 4 0 ++ beBytes 16 a)))) s

/-- An MLDv2 report of the joined groups (R352): it goes to ff02::16 behind a router-alert option. -/
def State.sendMld (s : State) (port : Nat) : State :=
  let dst := 0xFF020000000000000000000000000016
  let src := if s.net.linkOk then s.linkLocal else 0
  let recs := s.groups.flatMap fun g => beBytes 4 0x04000000 ++ beBytes 16 g
  let body := beBytes 4 s.groups.length ++ recs
  let msg := icmp src dst 143 body
  s.sendIp6 port (groupMac dst)
    (ip6Packet src dst 0 1 (beBytes 8 0x3A00050200000100 ++ msg))

/-- A good kept IPv6 frame with an ICMPv6 message of a type. -/
def State.icmpFor (s : State) (f : Bytes) (ty : Nat) : Bool :=
  s.keepsFrame f && isIp6 f 58 && field f (frameBody f + 40) 1 == ty

/-- NEIGHBOR_SOLICITATION (R352): answered for an own address that may be used. -/
def State.answerNs (s : State) (port : Nat) (f : Bytes) : State :=
  let o := frameBody f
  let a := field f (o + 48) 16
  if s.icmpFor f 135 ∧ s.ownAddrs.contains a then
    let probe := decide (ip6Src f = 0)
    let dst := if probe then 0xFF020000000000000000000000000001 else ip6Src f
    let flags := if probe then 0x20000000 else 0x60000000
    let body := beBytes 4 flags ++ beBytes 16 a ++ [2#8, 1#8] ++ beBytes 6 s.mac
    s.sendIp6 port (if probe then groupMac dst else field f 6 6)
      (ip6Packet a dst 58 255 (icmp a dst 136 body))
  else s

/-- ECHO_REQUEST (R352): answered for an own address that may be used. -/
def State.answerEcho (s : State) (port : Nat) (f : Bytes) : State :=
  let o := frameBody f
  let a := ip6Dst f
  if s.icmpFor f 128 ∧ s.ownAddrs.contains a then
    let body := slice f (o + 44) (field f (o + 4) 2 - 4)
    s.sendIp6 port (field f 6 6) (ip6Packet a (ip6Src f) 58 64 (icmp a (ip6Src f) 129 body))
  else s

/-- DAD_DONE (R352). -/
def State.doDad (s : State) (glob dup : Bool) : State :=
  let ok := !dup && (!glob || s.globalAddr.isSome)
  let s1 := if glob then { s with net := { s.net with globalOk := ok } }
    else { s with net := { s.net with linkOk := ok } }
  if dup then s1.putBit 0x8001 0x02 5 true
  else [0, 1].foldl (fun (st : State) p => st.sendMld p) s1

/-- The owner's act on the global address: duplicate address detection begins (R352). -/
def State.ownGlobal (s : State) (b : Bytes) : State :=
  let s1 := s.putBlobKept 0x8000 0 0x11 b
  let s2 := { s1 with net := { s1.net with globalOk := false } }
  match s2.globalAddr with
  | some a => s2.sendDad a
  | none => s2

/-! ### Time-stamps (R354), in picoseconds of root time -/

/-- The port runs at 1000BASE-X. -/
def State.slowPort (s : State) (p : Nat) : Bool := s.ve 0x8020 p 0x01 == 1

/-- Ingress time-stamp of an event message that the port's receiver marks at root cycle `t`. -/
def State.rxStamp (s : State) (p t : Nat) : Int :=
  if s.slowPort p then (200 * t : Int) - 195200 - toS 32 (s.ve 0x8020 p 0x05)
  else (200 * t : Int) - 54400 - toS 32 (s.ve 0x8020 p 0x03)

/-- Egress time-stamp of an event message that the port's transmitter marks at root cycle `t`. -/
def State.txStamp (s : State) (p t : Nat) : Int :=
  if s.slowPort p then (200 * t : Int) + 163200 + toS 32 (s.ve 0x8020 p 0x06)
  else (200 * t : Int) + 41600 + toS 32 (s.ve 0x8020 p 0x04)

/-- A span of root time in ps, in 2^-16 ns at a rate. -/
def psToUnits (ps rate : Int) : Int := (ps * 65536 * (2 ^ 40 + rate)) / (1000 * 2 ^ 40)

/-- A slot's estimate at a stamp. -/
def Slot.timePs (sl : Slot) (ps : Int) : Int := sl.base + psToUnits (ps - 200 * sl.baseAt) sl.rate

/-- delayAsymmetry of a port in 2^-16 ns. -/
def State.asym (s : State) (p : Nat) : Int := toS 32 (s.ve 0x8020 p 0x07) * 65536 / 1000

/-! ### Slots -/

def State.slot (s : State) (i : Nat) : Slot := if i = 0 then s.net.slot0 else s.net.slot1
def State.putSlot (s : State) (i : Nat) (sl : Slot) : State :=
  if i = 0 then { s with net := { s.net with slot0 := sl } }
  else { s with net := { s.net with slot1 := sl } }

/-- The domain number of a slot; 255 = none. -/
def State.domainOf (s : State) (i : Nat) : Nat := s.v 0x8000 (0x01 + i)

/-- 8010[i].01: disabled, listening, acquiring, tracking, failed. -/
def State.slotState (s : State) (i : Nat) : Nat :=
  if s.domainOf i = 255 then 0 else max 1 (s.ve 0x8010 i 0x01)
def State.putSlotState (s : State) (i v : Nat) : State := s.pute 0x8010 i 0x01 v

/-- The slot tracks its domain. -/
def State.tracks (s : State) (i : Nat) : Bool := s.slotState i == 3

/-- The rate of wall time against root cycles, y_w, in 2^-40 (R355, R358, R362). -/
def State.wallRate (s : State) : Int :=
  match s.v 0x8001 0x01 with
  | 0 => 0
  | 2 => s.net.slot0.rate
  | 3 => s.net.slot1.rate
  | _ => s.net.wallRate

/-! ### Wall time (R359 to R361) -/

/-- Wall time changes state (R359). -/
def State.setWall (s : State) (v : Nat) : State :=
  let old := s.v 0x8001 0x01
  if old = v then s
  else
    let s1 := s.put 0x8001 0x01 v
    let s2 := if old = 2 ∧ v = 3 then s1.inc 0x8002 0x01
      else if old = 3 ∧ v = 2 then s1.inc 0x8002 0x02
      else if v = 4 then
        ({ s1 with net := { s1.net with holdSince := s1.now } }).inc 0x8002 0x03
      else s1
    (s2.event 0x8001 0 0x01 0).put 0x8001 0x06 s2.wallTime

/-- Wall time takes a slot as its source with a residual (R360). -/
def State.useSlot (s : State) (i : Nat) (r : Int) : State :=
  let s1 := { s with net := { s.net with resid := r, residAt := s.now, stepTo := none } }
  (((s1.putBit 0x8001 0x02 0 (decide (r ≠ 0))).putBit 0x8001 0x02 1 false).putBit 0x8001 0x02 4 true).setWall
    (if i = 0 then 2 else 3)

/-- Wall time goes on without a source, at the rate of the last one; r stays frozen (R359). -/
def State.holdover (s : State) : State :=
  let w := s.wall
  let y := s.wallRate
  let r := if s.v 0x8001 0x01 = 2 ∨ s.v 0x8001 0x01 = 3 then s.residualAt s.now else s.net.resid
  ({ s with net := { s.net with wallBase := w, wallAt := s.now, wallRate := y, resid := r,
                                residAt := s.now } }).setWall 4

/-- A step to a slot's time (R361). -/
def State.stepWall (s : State) (i : Nat) : State :=
  ((s.inc 0x8002 0x04).putBit 0x8001 0x02 2 true).useSlot i 0

/-- A change of source (R360, R361). A source that still tracks is kept while a step is pending. -/
def State.switchWall (s : State) (i : Nat) : State :=
  let r := s.wall - (s.slot i).time s.now
  if r.natAbs ≤ 65536 * s.v 0x8000 0x08 then s.useSlot i r
  else if s.v 0x5001 0x03 = 0 then s.stepWall i
  else
    let s1 := if s.net.stepTo.isSome then { s with net := { s.net with stepTo := some i } }
      else (({ s with net := { s.net with stepTo := some i } }).putBit 0x8001 0x02 1 true).event
        0x8001 0 0x02 0
    let st := s1.v 0x8001 0x01
    if (st = 2 ∧ !(s1.tracks 0)) ∨ (st = 3 ∧ !(s1.tracks 1)) then s1.holdover else s1

/-- The table of R359, judged when a slot begins or ceases to track, or display stops (R361). -/
def State.judgeWall (s : State) : State :=
  let t0 := s.tracks 0
  let t1 := s.tracks 1
  let pick := if t0 then some 0 else if t1 then some 1 else none
  match s.v 0x8001 0x01 with
  | 0 => match pick with
    | some i => s.useSlot i 0
    | none => s
  | 2 => if t0 then s else if t1 then s.switchWall 1 else s.holdover
  | 3 =>
    if !t1 then (if t0 then s.switchWall 0 else s.holdover)
    else if s.net.stepTo = some 0 ∧ t0 then s.switchWall 0
    else s
  | _ => match pick with
    | some i => s.switchWall i
    | none => s

/-- The answer to a write of 8000.14 (R361). -/
def State.stepNowCode (s : State) (v : Nat) : Nat :=
  if v ≠ 1 ∨ !(s.tracks 0 || s.tracks 1) then 4 else 0

/-- The owner's act on 8000.14: the pending step is made. -/
def State.ownStepNow (s : State) : State :=
  if s.net.stepTo.isSome then s.stepWall (if s.tracks 0 then 0 else 1) else s

/-! ### Tracking (R356 to R358) -/

/-- A slot enters the failed state, which is counted (R356). -/
def State.markFailed (s : State) (i : Nat) : State :=
  if s.slotState i = 0 ∨ s.slotState i = 4 then s
  else
    let sl := s.slot i
    ((s.putSlot i { sl with started := false, good := 0, outliers := 0, sync := none, dreq := none,
                            lastT := none }).putSlotState i 4).inc 0x8002 0x05

/-- A slot fails, and wall time looks for its source (R356, R359). -/
def State.failSlot (s : State) (i : Nat) : State :=
  if s.slotState i = 0 ∨ s.slotState i = 4 then s else (s.markFailed i).judgeWall

/-- Both slots fail at once, when NET restarts: wall time goes to holdover (R359, R406). -/
def State.failSlots (s : State) : State := ((s.markFailed 0).markFailed 1).judgeWall

/-- A slot goes back to listening: its domain or transport has changed, or NET has stopped. -/
def State.clearSlot (s : State) (i : Nat) : State :=
  let s1 := (((s.putSlot i Slot.reset).putSlotState i 0).pute 0x8010 i 0x02 0).pute 0x8010 i 0x03 255
  let s2 := ((s1.putBlob 0x8010 i 0x04 []).pute 0x8010 i 0x09 255).pute 0x8010 i 0x0A 0
  ((s2.pute 0x8010 i 0x06 0).pute 0x8010 i 0x07 0).pute 0x8010 i 0x08 0

/-- Limits of R358 in 2^-40: 200 ppm and 220 ppm. -/
def rateLimit : Int := 219902325
def useLimit : Int := 241892558

/-- The servo's term gain × θ / τ in 2^-40, for a gain in 2^-16, θ in 2^-16 ns and τ in root cycles. -/
def servoTerm (gain : Nat) (theta : Int) (tau : Nat) : Int := (theta * gain * 1280) / (tau : Int)

/-- An accepted measurement updates the slot's rate (R358), and the estimate goes on without a step. -/
def State.servo (s : State) (i : Nat) (theta : Int) (tau : Nat) : State :=
  let sl := s.slot i
  let y := clampI (-rateLimit) rateLimit (sl.yd + servoTerm (s.v 0x8000 0x0B) theta tau)
  let u := clampI (-useLimit) useLimit (y + servoTerm (s.v 0x8000 0x0A) theta tau)
  (s.putSlot i { sl with base := sl.time s.now, baseAt := s.now, yd := y, rate := u }).pute 0x8010 i 0x07
    (ofS 32 y)

/-- The mean path delay (R357). -/
def Slot.mpd (sl : Slot) : Int :=
  if sl.delays = [] then 0 else (sl.delays.foldl (· + ·) 0) / (sl.delays.length : Int)

/-- A measurement from a Sync: t1 and the corrections in 2^-16 ns, t2 as a stamp (R357). -/
def State.measure (s : State) (i port : Nat) (t1 corr t2 : Int) : State :=
  let sl := s.slot i
  let asym := s.asym port
  if !sl.started then
    -- the first Sync of an acquisition sets the estimate so that θ = 0
    let at2 := t1 + corr + sl.mpd + asym
    let base := at2 + psToUnits (200 * s.now - t2) sl.yd
    s.putSlot i { sl with started := true, base := base, baseAt := s.now, rate := sl.yd, good := 1,
                          lastSync := s.now, lastT := some (t1, at2, corr) }
  else
    let est := sl.timePs t2
    let theta := est - t1 - corr - sl.mpd - asym
    let tau := max 1 (s.now - sl.lastSync)
    let s1 := s.putSlot i { sl with lastSync := s.now, lastT := some (t1, est, corr) }
    let far := decide (65536 * s.v 0x8000 0x05 < theta.natAbs)
    if s.tracks i then
      if far then
        if 1 ≤ sl.outliers then (s1.inc 0x8002 0x06).failSlot i
        else (s1.putSlot i { s1.slot i with outliers := 1 }).inc 0x8002 0x07
      else (s1.putSlot i { s1.slot i with outliers := 0 }).servo i theta tau
    else
      let good := if far then 0 else sl.good + 1
      (s1.putSlot i { s1.slot i with good := good }).servo i theta tau

/-- A slot that has what R357 asks begins to track. -/
def State.judgeTracking (s : State) (i : Nat) : State :=
  let sl := s.slot i
  if s.slotState i = 2 ∧ 16 ≤ sl.good ∧ 4 ≤ sl.exchanges then
    ((s.putSlot i { sl with trackSince := s.now, outliers := 0 }).putSlotState i 3).judgeWall
  else s

/-- The slot that a message of a domain concerns, if it is tracked. -/
def State.slotFor (s : State) (dom : Nat) : Option Nat :=
  if dom = s.domainOf 0 then some 0 else if dom = s.domainOf 1 ∧ dom ≠ 255 then some 1 else none

/-- The message that the device acts on in a frame (R353), with its slot: kept, on the chosen transport,
well formed, of the type, and of a tracked domain. -/
def State.ptpFor (s : State) (f : Bytes) (ty : Nat) : Option (Nat × Bytes) :=
  let m := ptpOf f
  if s.islandRuns 2 ∧ s.keepsFrame f ∧ (ptpAt f).isSome ∧ ptpTransport f = s.v 0x8000 0x03 ∧ ptpGood m ∧
      ptpType m = ty then
    (s.slotFor (ptpDomain m)).map fun i => (i, m)
  else none

/-- The message comes from the slot's selected master, on its receive port. -/
def State.fromMaster (s : State) (i port : Nat) (m : Bytes) : Bool :=
  (s.slot i).selected == some (ptpSource m, port)

/-- The selected master may be used: its class is within 8000.04. -/
def State.classOk (s : State) (i : Nat) : Bool := decide (s.ve 0x8010 i 0x03 ≤ s.v 0x8000 0x04)

/-- SYNC (R356, R357). -/
def State.doSync (s : State) (port : Nat) (f : Bytes) : State :=
  match s.ptpFor f 0 with
  | none => s
  | some (i, m) =>
    if !(s.fromMaster i port m) ∨ !(s.classOk i) then s
    else
      let t2 := s.rxStamp port s.now
      let s0 := s.pute 0x8010 i 0x08 (ptpInterval m)
      let s1 := if s0.slotState i = 1 ∨ s0.slotState i = 4 then
          ((s0.putSlot i { s0.slot i with started := false, good := 0, outliers := 0, delays := [],
                                          exchanges := 0, sync := none, dreq := none,
                                          lastT := none }).putSlotState i 2).pute 0x8010 i 0x06 0
        else s0
      if ptpTwoStep m then
        s1.putSlot i { s1.slot i with sync := some (ptpSeq m, t2, ptpCorr m) }
      else ((s1.putSlot i { s1.slot i with sync := none }).measure i port (ptpStamp m 34) (ptpCorr m)
        t2).judgeTracking i

/-- FOLLOW_UP (R357). -/
def State.doFollowUp (s : State) (port : Nat) (f : Bytes) : State :=
  match s.ptpFor f 8 with
  | none => s
  | some (i, m) =>
    match (s.slot i).sync with
    | none => s
    | some (seq, t2, c) =>
      if !(s.fromMaster i port m) ∨ seq ≠ ptpSeq m then s
      else ((s.putSlot i { s.slot i with sync := none }).measure i port (ptpStamp m 34) (c + ptpCorr m)
        t2).judgeTracking i

/-- The source port identity of the device: its clock identity and port number 1. -/
def State.ownPort (s : State) : Nat := s.clockId * 65536 + 1

/-- DELAY_RESP (R357): one delay exchange. -/
def State.doDelayResp (s : State) (port : Nat) (f : Bytes) : State :=
  match s.ptpFor f 9 with
  | none => s
  | some (i, m) =>
    let sl := s.slot i
    match sl.dreq, sl.lastT with
    | some (seq, t3), some (t1, t2, c) =>
      if !(s.fromMaster i port m) ∨ seq ≠ ptpSeq m ∨ field m 44 10 ≠ s.ownPort ∨ !sl.started then s
      else
        let up := ptpStamp m 34 - sl.timePs t3 - ptpCorr m
        let x := (t2 - t1 - c - s.asym port + up) / 2
        let s1 := s.putSlot i { sl with delays := (x :: sl.delays).take 16,
                                        exchanges := sl.exchanges + 1, dreq := none }
        (s1.pute 0x8010 i 0x06 (ofS 64 (s1.slot i).mpd)).judgeTracking i
    | _, _ => s

/-- A Delay_Req (R353): minorVersionPTP 1, the asymmetry of the port taken off its correctionField. -/
def State.delayReq (s : State) (i port seq : Nat) : Bytes :=
  [1#8, 0x12#8] ++ beBytes 2 44 ++ beBytes 1 (s.domainOf i) ++ [0#8, 0#8, 0#8] ++
  beBytes 8 (ofS 64 (-(s.asym port))) ++ zeros 4 ++ beBytes 10 s.ownPort ++ beBytes 2 seq ++
  [1#8, 0x7F#8] ++ zeros 10

/-- The frame of an own PTP event message by the chosen transport (R353). -/
def State.ptpFrame (s : State) (m : Bytes) : Bytes :=
  if s.v 0x8000 0x03 = 0 then s.ownHead 0x011B19000000 0x88F7 ++ m
  else
    let src := s.linkLocal
    let dst := 0xFF020000000000000000000000000181
    let head := beBytes 2 319 ++ beBytes 2 319 ++ beBytes 2 (m.length + 8)
    let c := ip6Check src dst 17 (head ++ zeros 2 ++ m)
    s.ownHead (groupMac dst) 0x86DD ++
      ip6Packet src dst 17 1 (head ++ beBytes 2 (if c = 0 then 65535 else c) ++ m)

/-- DELAY_REQ_SEND (R353). -/
def State.doDelayReq (s : State) (i : Nat) : State :=
  let sl := s.slot i
  match sl.selected with
  | none => s
  | some (_, port) =>
    if s.islandRuns 2 ∧ (s.slotState i = 2 ∨ s.slotState i = 3) ∧ s.ethUp port then
      let s1 := s.putSlot i { sl with dreq := some (sl.dseq, s.txStamp port s.now),
                                      dseq := (sl.dseq + 1) % 65536 }
      (s1.sendOwn port (.ethFrame port (s.ptpFrame (s.delayReq i port sl.dseq))) (some i)).inc 0x8002 0x08
    else s

/-! ### Master selection (R353, R356) -/

/-- The announce dataset in the order of comparison: priority1, class, accuracy, variance, priority2,
grandmasterIdentity, stepsRemoved. -/
def announceData (m : Bytes) : List Nat :=
  [field m 47 1, field m 48 1, field m 49 1, field m 50 2, field m 52 1, field m 53 8, field m 61 2]

/-- The first of two lists of figures is better. -/
def lexLess : List Nat → List Nat → Bool
  | a :: as, b :: bs => decide (a < b) || (a == b && lexLess as bs)
  | _, _ => false

/-- The dataset comparison of two foreign masters (R353): datasets of one grandmaster compare by the
steps removed and then by the sender, others by their figures. -/
def Foreign.better (x y : Foreign) : Bool :=
  let near := fun (z : Foreign) => [z.dataset.getD 6 0, z.identity, z.port]
  if x.dataset.getD 5 0 = y.dataset.getD 5 0 then lexLess (near x) (near y)
  else lexLess (x.dataset.take 6) (y.dataset.take 6)

/-- An announce interval of logMessageInterval n, in root cycles, `k` times. -/
def announceSpan (n : Int) (k : Nat) : Nat :=
  if 0 ≤ n then k * secCycles * 2 ^ n.toNat else k * secCycles / 2 ^ (-n).toNat

/-- A foreign master has sent 2 Announce messages within 4 announce intervals (R353). -/
def Foreign.qualified (x : Foreign) (now : Nat) : Bool :=
  decide (2 ≤ (x.stamps.filter fun a => decide (now < a + announceSpan x.interval 4)).length)

/-- The best qualified foreign master. -/
def bestForeign (l : List Foreign) (now : Nat) : Option Foreign :=
  (l.filter fun x => x.qualified now).foldl (fun (b : Option Foreign) x =>
    match b with
    | none => some x
    | some y => if x.better y then some x else b) none

/-- The selected master follows the comparison (R356). -/
def State.selectMaster (s : State) (i : Nat) : State :=
  let sl := s.slot i
  let best := bestForeign sl.foreign s.now
  let sel := best.map fun x => (x.identity, x.port)
  let s1 := match best with
    | none => ((((s.pute 0x8010 i 0x02 0).pute 0x8010 i 0x03 255).putBlob 0x8010 i 0x04 []).pute
        0x8010 i 0x09 255).pute 0x8010 i 0x0A 0
    | some x => ((((s.pute 0x8010 i 0x02 (x.dataset.getD 5 0)).pute 0x8010 i 0x03
        (x.dataset.getD 1 0)).putBlob 0x8010 i 0x04 (beBytes 10 x.identity)).pute 0x8010 i 0x09
        x.port).pute 0x8010 i 0x0A (x.dataset.getD 6 0)
  let s2 := s1.putSlot i { sl with selected := sel }
  if (sl.selected.isSome && sl.selected != sel) || (sel.isSome && !(s2.classOk i)) then s2.failSlot i else s2

/-- ANNOUNCE (R356). -/
def State.doAnnounce (s : State) (port : Nat) (f : Bytes) : State :=
  match s.ptpFor f 11 with
  | none => s
  | some (i, m) =>
    let sl := s.slot i
    let id := ptpSource m
    let old := match sl.foreign.find? fun x => x.identity == id && x.port == port with
      | some x => x.stamps
      | none => []
    let n := toS 8 (ptpInterval m)
    let x : Foreign := { port := port, identity := id, dataset := announceData m,
                         stamps := (s.now :: old).take 2, interval := n }
    (s.putSlot i { sl with foreign := x :: sl.foreign.filter fun y => !(y.identity == id && y.port == port)
      }).selectMaster i

/-- ANNOUNCE_TIMEOUT (R356): the selected master is dropped and the slot fails. -/
def State.announceLost (s : State) (i : Nat) : State :=
  let sl := s.slot i
  match sl.selected with
  | none => s
  | some (id, port) =>
    let s1 := s.putSlot i { sl with
      foreign := sl.foreign.filter fun y => !(y.identity == id && y.port == port) }
    (s1.failSlot i).selectMaster i

/-- The owner's act on a domain number or the transport: the slot listens anew. -/
def State.relisten (s : State) (slots : List Nat) : State :=
  (slots.foldl (fun (st : State) i => st.clearSlot i) s).judgeWall

/-- The owner's act on 8000.04 (R356): a slot whose master's class now exceeds it fails. -/
def State.ownClass (s : State) (v : Nat) : State :=
  [0, 1].foldl (fun (st : State) i =>
    if (st.slot i).selected.isSome ∧ !(st.classOk i) then st.failSlot i else st)
    (s.putKept 0x8000 0 0x04 v)

/-- HCLK is lost, and NET with it: no wall time is kept (R362). -/
def State.wallLost (s : State) : State :=
  let s1 := (s.clearSlot 0).clearSlot 1
  let s2 := { s1 with net := { s1.net with stepTo := none, resid := 0, queue := [], linkOk := false,
                                           globalOk := false } }
  ((s2.putBit 0x8001 0x02 0 false).putBit 0x8001 0x02 1 false).setWall 0

/-! ### The relay (R349 to R351, R355) -/

/-- Bytes held for a direction of the relay. -/
def State.relayHeld (s : State) (out : Nat) : Nat :=
  s.net.queue.foldl (fun a (x : Relayed) =>
    if x.out = out ∧ x.own.isNone then a + x.frame.length + 4 else a) 0

/-- A frame is queued for the other port, or dropped for lack of buffer (R350, R351). -/
def State.relayFrame (s : State) (out : Nat) (stamp : Int) (f : Bytes) : State :=
  if !(s.ethUp out) then s
  else if 65536 < s.relayHeld out + f.length + 4 then (s.ince 0x8020 out 0x0A).inc 0x8002 0x0B
  else
    let x : Relayed := { out := out, ptp := (ptpAt f).isSome, stamp := stamp, frame := f, own := none,
                         slot := none }
    { s with net := { s.net with queue := s.net.queue ++ [x] } }

/-- A PTP message that is not acted on and is counted for it: malformed, of a domain that is not tracked,
or a peer delay message (R353). -/
def State.ptpIgnored (s : State) (f : Bytes) : Bool :=
  (ptpAt f).isSome && (!(ptpGood (ptpOf f)) || (s.slotFor (ptpDomain (ptpOf f))).isNone ||
    ptpPeer (ptpType (ptpOf f)))

/-- ETH_FRAME_RX (R349, R350, R353). -/
def State.frameIn (s : State) (p : Nat) (f : Bytes) (fcsOk : Bool) : State :=
  if !(s.islandRuns 2) ∨ !(s.ethUp p) then s
  else if 1518 < f.length then s.inc 0x8002 0x0C
  else if !fcsOk then s.ince 0x8020 p 0x09
  else if f.length < 60 then s
  else
    let s1 := s.ince 0x8020 p 0x08
    if isPause f then s1
    else
      let s2 := if s1.ptpIgnored f then s1.inc 0x8002 0x09 else s1
      if s2.v 0x8000 0x0E = 0 ∧ field f 0 6 ≠ s2.mac then s2.relayFrame (1 - p) (s2.rxStamp p s2.now) f
      else s2

/-- The frame with a residence time added to its correctionField, and its UDP checksum adjusted. -/
def correctFrame (f : Bytes) (o : Nat) (residence : Int) : Bytes :=
  let old := slice f (o + 8) 8
  let new := beBytes 8 (ofS 64 (toS 64 (beNat old) + residence))
  let f1 := f.take (o + 8) ++ new ++ f.drop (o + 16)
  if ptpTransport f = 0 then f1
  else
    let c := o - 2
    let sum := 65535 - field f c 2 + (4 * 65535 - wordSum old) + wordSum new
    let k := 65535 - fold16 sum
    f1.take c ++ beBytes 2 (if k = 0 then 65535 else k) ++ f1.drop (c + 2)

/-- An own frame that waited leaves; a Delay_Req has its egress time-stamp now (R354, R357). -/
def State.ownOut (s : State) (p : Nat) (o : Output) (slot : Option Nat) : State :=
  match slot with
  | some i =>
    let sl := s.slot i
    (s.putSlot i { sl with dreq := sl.dreq.map fun d => (d.1, s.txStamp p s.now) }).emit o
  | none => s.emit o

/-- The order in which a port sends what waits (R351): relayed PTP messages, own frames, the others. -/
def sendOrder (p : Nat) (l : List Relayed) : List Relayed :=
  let mine := l.filter fun x => x.out == p
  mine.filter (·.ptp) ++ mine.filter (·.own.isSome) ++ mine.filter fun x => !x.ptp && x.own.isNone

/-- RELAY_FRAME_TX (R351, R355): the next frame of a port goes out. -/
def State.relayOut (s : State) (p : Nat) : State :=
  match (sendOrder p s.net.queue).head? with
  | none => s
  | some x =>
    let s1 := { s with net := { s.net with queue := s.net.queue.erase x } }
    let m := ptpOf x.frame
    match x.own, ptpAt x.frame with
    | some o, _ => s1.ownOut p o x.slot
    | none, some o =>
      if s.b 0x8000 0x0D ∧ ptpGood m ∧ ptpType m ≤ 1 then
        let r := psToUnits (s.txStamp p s.now - x.stamp) s.wallRate
        (s1.emit (.ethFrame p (correctFrame x.frame o r))).inc 0x8002 0x0A
      else s1.emit (.ethFrame p x.frame)
    | none, none => s1.emit (.ethFrame p x.frame)

/-- ETH_LINK_CHANGE (R349, R352). -/
def State.ethLink (s : State) (p : Nat) (up : Bool) : State :=
  if up ∧ (!(s.islandRuns 2) ∨ s.ve 0x8020 p 0x01 = 2) then s
  else
    let s1 := s.pute 0x8020 p 0x02 (if up then 1 else 0)
    if up then
      let s2 := s1.sendMld p
      let s3 := if s2.net.linkOk then s2 else s2.sendDad s2.linkLocal
      match s3.globalAddr with
      | some a => if s3.net.globalOk then s3 else s3.sendDad a
      | none => s3
    else s1

/-- The owner's act on 8020[p].01: the link comes down with a change of speed. -/
def State.ownSpeed (s : State) (p v : Nat) : State :=
  let s1 := s.putKept 0x8020 p 0x01 v
  if s.ve 0x8020 p 0x01 = v then s1 else s1.pute 0x8020 p 0x02 0

/-! ### Meanings -/

def ethOk (p : Nat) : Bool := decide (p < 2)

/-- ETH_FRAME_RX (R350). -/
def execEthFrameRx (t port : Nat) (frame : Bytes) (fcsOk : Bool) (s : State) : Result :=
  guarded (ethOk port) ((s.enter t).frameIn port frame fcsOk)

/-- RELAY_FRAME_TX (R351). -/
def execRelayFrameTx (t port : Nat) (s : State) : Result :=
  guarded (ethOk port) ((s.enter t).relayOut port)

/-- SYNC (R357). -/
def execSync (t port : Nat) (frame : Bytes) (s : State) : Result :=
  guarded (ethOk port) ((s.enter t).doSync port frame)

/-- FOLLOW_UP (R357). -/
def execFollowUp (t port : Nat) (frame : Bytes) (s : State) : Result :=
  guarded (ethOk port) ((s.enter t).doFollowUp port frame)

/-- DELAY_RESP (R357). -/
def execDelayResp (t port : Nat) (frame : Bytes) (s : State) : Result :=
  guarded (ethOk port) ((s.enter t).doDelayResp port frame)

/-- ANNOUNCE (R356). -/
def execAnnounce (t port : Nat) (frame : Bytes) (s : State) : Result :=
  guarded (ethOk port) ((s.enter t).doAnnounce port frame)

/-- ANNOUNCE_TIMEOUT (R356). -/
def execAnnounceTimeout (t slot : Nat) (s : State) : Result :=
  guarded (decide (slot < 2)) ((s.enter t).announceLost slot)

/-- DELAY_REQ_SEND (R353). -/
def execDelayReqSend (t slot : Nat) (s : State) : Result :=
  guarded (decide (slot < 2)) ((s.enter t).doDelayReq slot)

/-- NEIGHBOR_SOLICITATION (R352). -/
def execNeighborSolicitation (t port : Nat) (frame : Bytes) (s : State) : Result :=
  guarded (ethOk port) ((s.enter t).answerNs port frame)

/-- ECHO_REQUEST (R352). -/
def execEchoRequest (t port : Nat) (frame : Bytes) (s : State) : Result :=
  guarded (ethOk port) ((s.enter t).answerEcho port frame)

/-- DAD_DONE (R352). -/
def execDadDone (t : Nat) (globalAddr duplicate : Bool) (s : State) : Result :=
  .next ((s.enter t).doDad globalAddr duplicate)

/-- ETH_LINK_CHANGE (R349). -/
def execEthLinkChange (t port : Nat) (up : Bool) (s : State) : Result :=
  guarded (ethOk port) ((s.enter t).ethLink port up)

/-- REVERT_TIMER (R359): the primary has tracked long enough. -/
def execRevertTimer (t : Nat) (s : State) : Result :=
  let s1 := s.enter t
  .next (if s1.v 0x8001 0x01 = 3 ∧ s1.tracks 0 ∧ s1.v 0x8000 0x07 ≠ 0 ∧
      s1.net.slot0.trackSince + s1.v 0x8000 0x07 * secCycles ≤ s1.now then s1.switchWall 0 else s1)

/-- FREE_RUN_TIMER (R359): wall time runs from 0 s at the slot rate 0. -/
def execFreeRunTimer (t : Nat) (s : State) : Result :=
  let s1 := s.enter t
  .next (if s1.v 0x8001 0x01 = 0 ∧ s1.v 0x8000 0x09 ≠ 0 ∧ !(s1.tracks 0) ∧ !(s1.tracks 1) ∧
      s1.clock.t0 + s1.v 0x8000 0x09 * secCycles ≤ s1.now then
      ({ s1 with net := { s1.net with wallBase := 0, wallAt := s1.now, wallRate := 0,
                                      resid := 0 } }).setWall 1
    else s1)

/-- HOLDOVER_NOTICE (R359). -/
def execHoldoverNotice (t : Nat) (s : State) : Result :=
  let s1 := s.enter t
  .next (if s1.v 0x8001 0x01 = 4 ∧ s1.v 0x8000 0x13 ≠ 0 ∧
      s1.net.holdSince + s1.v 0x8000 0x13 * secCycles ≤ s1.now then
      (s1.putBit 0x8001 0x02 3 true).event 0x8001 0 0x02 0
    else s1)

/-- SLEW_DONE (R360): the residual has reached 0. -/
def execSlewDone (t : Nat) (s : State) : Result :=
  let s1 := s.enter t
  .next (if (s1.v 0x8001 0x01 = 2 ∨ s1.v 0x8001 0x01 = 3) ∧ s1.residualAt s1.now = 0 then
      ({ s1 with net := { s1.net with resid := 0, residAt := s1.now } }).putBit 0x8001 0x02 0 false
    else s1)

end Sys2Proof.Machine
end

