-- ==== Sys2Proof/Machine/Mgmt.lean ====
section
/-!
DEFINITION. Management (13): Yalok messages (R322 to R324), sessions (R325 to R327), access levels
(R328, R329), violations (R330, R331), chord slots (R332, R339), EVENT messages (R341) and firmware
(R343 to R347).
-/

namespace Sys2Proof.Machine

/-! ### Messages (R322, R323) -/

/-- The fields of a message. -/
structure Msg where
  version : Nat
  type : Nat
  master : Nat
  flags : Nat
  session : Nat
  seq : Nat
  chord : Nat
  body : Bytes
  /-- the bytes under the tag, and the tag -/
  head : Bytes
  tag : Bytes
  deriving DecidableEq, Repr

/-- The fields of a message whose length is its header's. -/
def parseMsg (b : Bytes) : Option Msg :=
  let n := field b 14 2
  if b.length = 32 + n ∧ n ≤ 1408 then
    some { version := field b 0 1, type := field b 1 1, master := field b 2 1, flags := field b 3 1,
           session := field b 4 4, seq := field b 8 4, chord := field b 12 2, body := slice b 16 n,
           head := b.take (16 + n), tag := b.drop (16 + n) }
  else none

/-- A message with its tag (R322). -/
def packMsg (type master flags session seq chord : Nat) (body key : Bytes) : Bytes :=
  let h := [1#8] ++ beBytes 1 type ++ beBytes 1 master ++ beBytes 1 flags ++ beBytes 4 session ++
    beBytes 4 seq ++ beBytes 2 chord ++ beBytes 2 body.length ++ body
  h ++ tagOf key h

/-- A message in the frame of the host link (R321): length, message, and the CRC-32C of both. -/
def hostFrame (msg : Bytes) : Bytes :=
  let b := beBytes 2 msg.length ++ msg
  b ++ beBytes 4 (crc32c b)

/-- The levels of HDO for a frame (R321): 16 bits of 1, a start bit of 0, and the frame, most significant bit
first. -/
def hostLine (frame : Bytes) : List Bool :=
  List.replicate 16 true ++ [false] ++ frame.flatMap fun b => (List.range 8).map fun k => b.getMsbD k

/-- A message leaves: on the host link in its frame, on an Ethernet port as a datagram to the peer, among the
port's own frames (R321, R351). -/
def State.sendOut (s : State) (path : Nat) (peer msg : Bytes) : State :=
  if path = 0 then s.emit (.yalok 0 peer (hostFrame msg))
  else s.sendOwn (path - 1) (.yalok path peer msg) none

/-- An item of a READ or WRITE (R324): the address, the flags, the value or the length wanted, and the
byte offset. -/
structure Item where
  object : Nat
  element : Nat
  member : Nat
  flags : Nat
  len : Nat
  offset : Nat
  data : Bytes
  deriving DecidableEq, Repr

/-- The items of a body, if they fill it (R324); `fuel` bounds their number. -/
def parseItems (write : Bool) : Nat → Bytes → Option (List Item)
  | _, [] => some []
  | 0, _ :: _ => none
  | fuel + 1, b =>
    let n := field b 6 2
    let k := if write then n else 0
    if b.length < 12 + k then none
    else
      let it : Item := { object := field b 0 2, element := field b 2 2, member := field b 4 1,
                         flags := field b 5 1, len := n, offset := field b 8 4, data := slice b 12 k }
      (parseItems write fuel (b.drop (12 + k))).map (it :: ·)

def Msg.items (x : Msg) (write : Bool) : Option (List Item) := parseItems write x.body.length x.body

/-- Body length of a request of a type (R323); none for READ and WRITE, whose items fill it. -/
def bodyLength (ty : Nat) : Option Nat :=
  match ty with
  | 1 => some 16 | 3 => some 0 | 7 => some 0 | 8 => some 16 | 9 => some 0 | 11 => some 4 | 12 => some 0
  | _ => none

/-- The message keeps to R323: version, type, length and reserved fields of a request. -/
def Msg.formed (x : Msg) : Bool :=
  x.version == 1 && x.flags == 0 && decide (x.master ≤ 15) &&
  (if x.type = 4 ∨ x.type = 5 then (x.items (decide (x.type = 5))).isSome
   else bodyLength x.type == some x.body.length) &&
  (x.type != 8 || (decide (field x.body 0 1 ≤ 3) && field x.body 1 3 == 0 &&
    (field x.body 0 1 == 3 || field x.body 4 12 == 0)))

/-! ### Access levels (R328, R329) -/

/-- The level of a master at the target of an object. -/
def State.level (s : State) (m o : Nat) : Nat :=
  if m = 0 then 3 else if 15 ≤ m then 0 else s.ve 0x1010 (targetOf o) 0x01 / 4 ^ m % 4

/-- The value that an access table takes from a write: the bits of masters 0 and 15 stand (R329). -/
def accessValue (v : Nat) : Nat := v % 2 ^ 30 / 4 * 4 + 3

/-- Some master from 1 to 14 has level 3. -/
def someControl (v : Nat) : Bool := (List.range 14).any fun i => v / 4 ^ (i + 1) % 4 == 3

/-- The key Km of a master (R325). -/
def State.masterKey (s : State) (m : Nat) : Bytes :=
  let b := s.blob 0x1002 m 0x01
  if b = [] then (Config.factoryKey m ++ zeros 32).take 32 else b

/-! ### Sessions (R325 to R327) -/

def State.masterRec (s : State) (m : Nat) : Master := tget Master.reset m s.mgmt.masters
def State.putMaster (s : State) (m : Nat) (x : Master) : State :=
  { s with mgmt := { s.mgmt with masters := tput m x s.mgmt.masters } }

/-- The open session of a master. -/
def State.session? (s : State) (m : Nat) : Option Session := (s.masterRec m).session

/-- The master's open session takes a new record. -/
def State.putSession (s : State) (m : Nat) (x : Session) : State :=
  s.putMaster m { s.masterRec m with session := some x }

/-- The session key (R325). -/
def sessionKey (km nm nd : Bytes) (id : Nat) : Bytes :=
  hmac km (beBytes 4 0x594C4B31 ++ nm ++ nd ++ beBytes 4 id)

/-- Sends a message in a master's open session (R326): answers it and the state. -/
def State.sendIn (s : State) (m type : Nat) (body : Bytes) : Bytes × State :=
  match s.session? m with
  | none => ([], s)
  | some x =>
    let msg := packMsg type m 0x80 x.id x.seqOut 0xFFFF body x.key
    (msg, (s.putSession m { x with seqOut := (x.seqOut + 1) % 2 ^ 32 }).sendOut x.path x.peer msg)

/-- A message of a session is held for a repeat of its request (R326). -/
def State.holdReply (s : State) (m req : Nat) (msg : Bytes) : State :=
  match s.session? m with
  | none => s
  | some x => s.putSession m { x with replies := ((req, msg) :: x.replies).take 16 }

/-- The body of a REPLY (R323): the request, its code, each item's code and value, and what is added. -/
def replyBody (req code : Nat) (items : List (Nat × Bytes)) (extra : Bytes) : Bytes :=
  beBytes 4 req ++ beBytes 2 code ++ beBytes 2 items.length ++
  (items.flatMap fun i => beBytes 2 i.1 ++ beBytes 2 i.2.length ++ i.2) ++ extra

/-- Sends a REPLY and holds it (R326); a refusal with code 13 is not held. -/
def State.reply (s : State) (m req code : Nat) (items : List (Nat × Bytes)) (extra : Bytes) : State :=
  let (msg, s1) := s.sendIn m 6 (replyBody req code items extra)
  if code = 13 then s1 else s1.holdReply m req msg

/-- The first non-zero code (R330). -/
def firstCode (codes : List Nat) : Nat := (codes.find? fun c => c != 0).getD 0

/-- A REPLY in the session of a request, if it is still open. -/
def State.replyIn (s : State) (m id seq code : Nat) (items : List (Nat × Bytes)) (extra : Bytes) :
    State :=
  if (s.session? m).map Session.id = some id then s.reply m seq code items extra else s

/-- The codes of a REPLY to a WRITE. -/
def codeItems (codes : List Nat) : List (Nat × Bytes) := codes.map fun c => (c, [])

/-- Two items belong to one request. -/
def Handoff.sameRequest (x y : Handoff) : Bool :=
  x.master == y.master && x.session == y.session && x.seq == y.seq

/-- One item's code in the REPLY that a request still waits for. -/
def Handoff.coded (h : Handoff) (code : Nat) (x : Handoff) : Handoff :=
  if x.sameRequest h then { x with codes := x.codes.set h.index code } else x

/-- A plain WRITE is answered, unless a gate close among its items still waits (R305, R335). -/
def State.answer (s : State) (h : Handoff) : State :=
  if s.mgmt.gateItem.any h.sameRequest then { s with mgmt := { s.mgmt with gateReply := some h } }
  else s.replyIn h.master h.session h.seq (firstCode h.codes) (codeItems h.codes) []

/-- The wait of a gate close ends: a refusal is the item's code, busy, and a REPLY that waited is sent
(R305). -/
def State.gateAnswer (s : State) (refused : Bool) : State :=
  match s.mgmt.gateItem with
  | none => s
  | some g =>
    let fix := fun (x : Handoff) => if refused then g.coded 7 x else x
    let s1 : State := { s with mgmt := { s.mgmt with
      handoff := s.mgmt.handoff.map fix, gateItem := none, gateReply := none } }
    match s.mgmt.gateReply with
    | some h => s1.answer (fix h)
    | none => s1

/-- The gate request under way is refused as busy, and a WRITE that waited for it is told so (R305, R312). -/
def State.gateFails (s : State) : State := s.gateAbandon.gateAnswer true

/-! ### Violations (R330, R331, R411) -/

/-- A refusal: a conflict is counted, and a code of R330 marked for it is entered in the violation log,
at most 100 in a second for a master. -/
def State.refuse (s : State) (m o e k code : Nat) : State :=
  let s0 := if code = 10 then s.inc 0x1011 0x06 else s
  if [2, 3, 8, 12, 13, 14].contains code then
    let r := s0.masterRec m
    let recent := r.viols.filter fun t => decide (s0.now < t + secCycles)
    if 100 ≤ recent.length then (s0.putMaster m { r with viols := recent }).inc 0x1011 0x03
    else
      let n := s0.v 0x1800 0x03
      let b := beBytes 2 o ++ beBytes 2 e ++ beBytes 1 k ++ beBytes 1 m ++ beBytes 1 code ++ [0#8] ++
        beBytes 12 s0.wallTime ++ beBytes 4 n
      let s1 := s0.putMaster m { r with viols := s0.now :: recent }
      ({ s1 with logs := { s1.logs with viols := tput (n % 256) b s1.logs.viols } }).put 0x1800 0x03
        ((n + 1) % 2 ^ 32)
  else s0

/-- A refusal of a whole message (R331). -/
def State.refuseMsg (s : State) (m code : Nat) : State := s.refuse m 0xFFFF 0 0 code

/-! ### Chord slots (R332, R339) -/

def State.chord (s : State) (n : Nat) : Chord := tget Chord.reset n s.mgmt.chords
def State.putChord (s : State) (n : Nat) (x : Chord) : State :=
  { s with mgmt := { s.mgmt with chords := tput n x s.mgmt.chords } }

/-- Bytes that a staged value takes (R332). -/
def Staged.size (i : Staged) : Nat :=
  match rowOf i.object i.element i.member with
  | some r => if r.ty.width = 0 then i.data.length else r.ty.width / 8
  | none => 0

/-- Address of a staged member. -/
def Staged.addr (i : Staged) : Nat := mkey i.object i.element i.member

/-- Members and bytes staged. -/
def Chord.members (x : Chord) : Nat := ((x.items.map Staged.addr).eraseDups).length
def Chord.bytes (x : Chord) : Nat := x.items.foldl (fun a i => a + i.size) 0

/-- A chord slot is free; its generation stands. -/
def State.freeChord (s : State) (n : Nat) : State :=
  let x := s.chord n
  s.putChord n { Chord.reset with gen := x.gen }

/-- A chord is aborted (R339): its handle is refused with code 11 until the slot is reused. -/
def State.abortSlot (s : State) (n : Nat) (idle : Bool) : State :=
  let x := s.chord n
  let s1 := (s.putChord n { Chord.reset with
    gen := x.gen, aborted := true, master := x.master, session := x.session }).inc 0x1011 0x05
  if idle then s1.event 0x1011 0 0x05 0 else s1

/-- The handle of a chord (R332). -/
def handleOf (gen slot : Nat) : Nat := gen % 1024 * 32 + slot

/-- The chord that a handle names in a session: the slot, or the code that refuses it (R330, R332, R339). -/
def State.findChord (s : State) (handle m session : Nat) : Nat × Nat :=
  let n := handle % 32
  let x := s.chord n
  if 32768 ≤ handle ∨ x.gen % 1024 ≠ handle / 32 % 1024 ∨ (x.state = 0 ∧ !x.aborted) then (n, 8)
  else if x.aborted then (n, 11)
  else if x.master ≠ m ∨ x.session ≠ session then (n, 8)
  else (n, 0)

/-! ### Closing (R327) -/

/-- The uncommitted chords of a session are aborted. -/
def State.abortChords (s : State) (m session : Nat) : State :=
  (List.range 32).foldl (fun (st : State) n =>
    let x := st.chord n
    if (x.state = 1 ∨ x.state = 4) ∧ x.master = m ∧ x.session = session then st.abortSlot n false
    else st) s

/-- A master's open session closes. -/
def State.closeSession (s : State) (m : Nat) : State :=
  match s.session? m with
  | none => s
  | some x => (s.putMaster m { s.masterRec m with session := none }).abortChords m x.id

/-- The silence of 1000.01 closes a master's open session; where none is open, those that are opening
(R327). -/
def State.sessionLapses (s : State) (m : Nat) : State :=
  if (s.session? m).isSome then s.closeSession m else s.putMaster m { s.masterRec m with opening := [] }

/-- Every session of a master closes, those that are opening too. -/
def State.closeMaster (s : State) (m : Nat) : State :=
  let s1 := s.closeSession m
  s1.putMaster m { s1.masterRec m with opening := [] }

/-- The owner's act on a key (R327). -/
def State.ownKey (s : State) (m : Nat) (key : Bytes) : State := (s.putBlobKept 0x1002 m 0x01 key).closeMaster m

/-- The owner's act on 1000.02 or 1000.03: sessions that the path carries close when it is disabled
(R327, R348). -/
def State.ownPath (s : State) (network : Bool) (v : Nat) : State :=
  let s1 := s.putKept 0x1000 0 (if network then 0x03 else 0x02) v
  if v = 1 then s1
  else if network then ((List.range 13).map (· + 2)).foldl State.closeMaster s1
  else s1.closeMaster 1

/-- A master has level 3 on target 1 in an open session of a path: network or host link. -/
def State.controlOn (s : State) (onPath : Nat → Bool) : Bool :=
  (List.range 14).any fun i =>
    match s.session? (i + 1) with
    | some x => onPath x.path && s.level (i + 1) 0x1000 == 3
    | none => false

/-! ### Events (R341) -/

/-- An event entry (R340). -/
def Event.bytes (e : Event) : Bytes :=
  beBytes 4 e.number ++ beBytes 2 e.object ++ beBytes 2 e.element ++ beBytes 1 e.member ++
  beBytes 1 e.cause ++ zeros 2 ++ beBytes 4 e.frame ++ beBytes 12 e.time

def State.sentTo (s : State) (m : Nat) : List (Nat × Nat) := tget [] m s.mgmt.sent

/-- Sends entries to a master in EVENT messages of up to 16 (R341); `fuel` bounds the messages. -/
def State.sendBatches (s : State) (m : Nat) (es : List Event) : Nat → State
  | 0 => s
  | fuel + 1 =>
    if es = [] then s
    else
      let now := es.take 16
      let s1 := (s.sendIn m 10 (beBytes 1 now.length ++ zeros 3 ++ now.flatMap Event.bytes)).2
      let keep := (s1.sentTo m).filter fun x => !(now.any fun (e : Event) => e.number == x.1)
      let s2 := { s1 with mgmt := { s1.mgmt with
        sent := tput m (keep ++ now.map fun (e : Event) => (e.number, s1.now)) s1.mgmt.sent } }
      s2.sendBatches m (es.drop 16) fuel

/-- Sends the queued entries of a master that are due: never sent, or sent 1 s ago (R341). -/
def State.sendEvents (s : State) (m : Nat) : State :=
  if (s.session? m).isNone then s
  else
    let due := (tget [] m s.mgmt.queues).filter fun (e : Event) =>
      match (s.sentTo m).find? fun x => x.1 == e.number with
      | some x => decide (x.2 + secCycles ≤ s.now)
      | none => true
    s.sendBatches m due 64

/-- EVENT_ACK (R341): every entry up to the number leaves the queue. -/
def State.ackEvents (s : State) (m n : Nat) : State :=
  let q := (tget [] m s.mgmt.queues).filter fun (e : Event) => decide (n < e.number)
  let s1 := { s with mgmt := { s.mgmt with
    queues := tput m q s.mgmt.queues,
    sent := tput m ((s.sentTo m).filter fun x => decide (n < x.1)) s.mgmt.sent } }
  let s2 := if s1.ve 0x1030 m 0x04 < n then s1.pute 0x1030 m 0x04 n else s1
  s2.updateHirq

/-- A session becomes active (R325): any earlier session of the master closes, and the events that wait
are sent first (R341). -/
def State.openActive (s : State) (m : Nat) (x : Session) : State :=
  let s1 := s.closeSession m
  let s2 := s1.putMaster m { s1.masterRec m with
    session := some { x with opened := s1.wallTime }, opening := [] }
  ({ s2 with mgmt := { s2.mgmt with sent := tput m [] s2.mgmt.sent } }).sendEvents m

/-! ### Firmware (R343 to R347) -/

/-- The image of a slot as written, none for the factory image or an empty slot. -/
def State.fwImage? (s : State) (slot : Nat) : Option Bytes := tget? slot s.mgmt.fw

/-- Magic, format and length of an image hold (R343). -/
def imageHeader (b : Bytes) : Bool :=
  field b 0 4 == 0x4D424B46 && field b 4 4 == 1 && decide (128 ≤ b.length) &&
  field b 12 4 == b.length - 128 && decide (field b 12 4 ≤ 6291328)

/-- The signature of an image passes under one of the four keys (R343). -/
def imageSigned (b : Bytes) : Bool :=
  decide (field b 16 1 ≤ 3) && Config.ed25519Verify (field b 16 1) (b.take 64 ++ b.drop 128) (slice b 64 64)

/-- An image is valid (R343). -/
def State.imageValid (s : State) (b : Bytes) : Bool :=
  imageHeader b && imageSigned b && decide (s.v 0x9101 0x04 ≤ field b 8 4)

/-- The version in a slot. -/
def State.fwVersion (s : State) (slot : Nat) : Nat :=
  match s.fwImage? slot with
  | some b => field b 8 4
  | none => if slot = 0 then Config.factoryVersion % 2 ^ 32 else 0

/-- A slot holds a valid image: the factory image of slot A is taken as valid. -/
def State.slotValid (s : State) (slot : Nat) : Bool :=
  match s.fwImage? slot with
  | some b => s.imageValid b
  | none => slot == 0

/-- The state of a slot, 9100[s].02: empty, loading, valid, invalid, running. -/
def State.fwState (s : State) (slot : Nat) : Nat := s.ve 0x9100 slot 0x02
def State.runningSlot (s : State) : Nat := s.v 0x9101 0x05

/-- A hand-over is under way (R345). -/
def State.handingOver (s : State) : Bool := s.mgmt.handover.isSome

/-- Bytes written into an image at an offset. -/
def spliceBytes (old : Bytes) (offset : Nat) (new : Bytes) : Bytes :=
  old.take offset ++ zeros (offset - old.length) ++ new ++ old.drop (offset + new.length)

/-- What a write of an image answers (R344): 0, 4 or 7. -/
def State.fwImageCode (s : State) (slot offset len : Nat) : Nat :=
  if 2 ≤ slot ∨ 6291456 < offset + len then 4
  else if s.runningSlot = slot then 4
  else if s.handingOver ∨ s.mgmt.verifying = some slot then 7
  else 0

/-- The owner's act on an image: it is loading (R344), and the blocks that hold the bytes are written
(R276). -/
def State.ownFwImage (s : State) (slot offset : Nat) (data : Bytes) : State :=
  let b := spliceBytes ((s.fwImage? slot).getD []) offset data
  let s0 := (blocksOf offset data.length).foldl (fun (st : State) i => st.wearBlock (imageWear slot i)) s
  let s1 := { s0 with mgmt := { s0.mgmt with fw := tput slot b s0.mgmt.fw } }
  ((s1.pute 0x9100 slot 0x02 1).pute 0x9100 slot 0x03 (field b 8 4)).pute 0x9100 slot 0x04 (field b 16 1)

/-- What a write of 9101.01 answers (R344). -/
def State.fwVerifyCode (s : State) (v : Nat) : Nat :=
  if 2 ≤ v then 4 else if s.mgmt.verifying.isSome ∨ s.handingOver then 7 else 0

def State.ownVerify (s : State) (v : Nat) : State := { s with mgmt := { s.mgmt with verifying := some v } }

/-- FW_VERIFY_DONE (R343, R344). -/
def State.verifyDone (s : State) (slot : Nat) : State :=
  if s.mgmt.verifying ≠ some slot then s
  else
    let s1 := { s with mgmt := { s.mgmt with verifying := none } }
    let ok := s1.slotValid slot
    let s2 := if s1.fwState slot = 4 then s1 else s1.pute 0x9100 slot 0x02 (if ok then 2 else 3)
    if ok then s2 else (s2.inc 0x9102 0x03).event 0x9102 0 0x03 0

/-- What a write of 9101.02 answers (R345). -/
def State.fwSwitchCode (s : State) (v : Nat) : Nat :=
  if 2 ≤ v then 4 else if s.handingOver ∨ s.mgmt.verifying = some v then 7
  else if s.fwState v ≠ 2 then 4 else 0

/-- A hand-over begins (R345); a calibration ends (R416). -/
def State.ownSwitch (s : State) (v : Nat) : State :=
  ({ s with mgmt := { s.mgmt with handover := some (v, s.now) } }).calEnd.put 0x9101 0x06 1

/-- The hand-over is complete (R345): the old core becomes the standby. -/
def State.handedOver (s : State) (slot start : Nat) : State :=
  let old := s.runningSlot
  let s1 := { s with mgmt := { s.mgmt with
    handover := none, activeCore := 1 - s.mgmt.activeCore } }
  let s2 := (s1.pute 0x9100 old 0x02 2).pute 0x9100 slot 0x02 4
  (((s2.put 0x9101 0x05 slot).put 0x9101 0x06 0).put 0x9101 0x07 ((s2.now - start) / 5000 % 2 ^ 32)).inc
    0x9102 0x01

/-- The hand-over is not complete in time: the old core keeps service (R345). -/
def State.handoverFails (s : State) : State :=
  ((({ s with mgmt := { s.mgmt with handover := none } }).put 0x9101 0x06 3).inc 0x9102 0x02).event
    0x9102 0 0x02 0

/-- The standby takes service from a core that has failed (R347): sessions and chords are lost, the
event queues are kept, and a calibration ends (R416). -/
def State.takeOver (s : State) : State :=
  let m := s.mgmt
  let s1 := { s with mgmt := { m with
    masters := m.masters.map fun (e : Nat × Master) =>
      (e.1, { e.2 with session := none, opening := [] }),
    chords := m.chords.map fun (e : Nat × Chord) => (e.1, { Chord.reset with gen := e.2.gen }),
    sent := [], handoff := [], gateItem := none, gateReply := none, handover := none, heldMsgs := [],
    verifying := none,
    activeCore := 1 - m.activeCore } }
  let s2 := if s.handingOver then s1.put 0x9101 0x06 3 else s1
  (s2.calEnd.inc 0x9102 0x05).log (noteSpec 2 0x9102 0 0x05 0 0 0)

/-- The boot of a firmware image at start-up (R346): the slot named in 9101.03, else the other one. -/
def State.bootFirmware (s : State) : State :=
  let want := s.v 0x9101 0x03
  let other := 1 - want
  let run := fun (st : State) (n : Nat) => ((st.pute 0x9100 n 0x02 4).put 0x9101 0x05 n)
  let mark := fun (st : State) (n : Nat) =>
    st.pute 0x9100 n 0x02 (if st.slotValid n then 2 else if (st.fwImage? n).isSome then 3 else 0)
  let s1 := (mark (mark s 0) 1)
  if s.slotValid want then run s1 want
  else if s.slotValid other then (run ((s1.inc 0x9102 0x04)) other).event 0x9102 0 0x04 0
  else s1

/-- Some slot runs an image; otherwise the device offers only the dictionary (R346). -/
def State.firmwareRuns (s : State) : Bool := s.fwState 0 == 4 || s.fwState 1 == 4

/-! ### Meanings -/

/-- SESSION_TIMEOUT (R327). -/
def execSessionTimeout (t master : Nat) (s : State) : Result :=
  guarded (decide (1 ≤ master ∧ master ≤ 14)) ((s.enter t).sessionLapses master)

/-- CHORD_IDLE_TIMEOUT (R339). -/
def execChordIdleTimeout (t slot : Nat) (s : State) : Result :=
  let s1 := s.enter t
  guarded (decide (slot < 32))
    (if (s1.chord slot).state = 1 ∨ (s1.chord slot).state = 4 then s1.abortSlot slot true else s1)

/-- EVENT_SEND (R341). -/
def execEventSend (t master : Nat) (s : State) : Result :=
  guarded (decide (1 ≤ master ∧ master ≤ 14)) ((s.enter t).sendEvents master)

/-- EVENT_RESEND_TIMER (R341). -/
def execEventResendTimer (t master : Nat) (s : State) : Result :=
  guarded (decide (1 ≤ master ∧ master ≤ 14)) ((s.enter t).sendEvents master)

/-- FW_VERIFY_DONE (R343, R344). -/
def execFwVerifyDone (t slot : Nat) (s : State) : Result :=
  guarded (decide (slot < 2)) ((s.enter t).verifyDone slot)

/-- WATCHDOG_TAKEOVER (R347). -/
def execWatchdogTakeover (t : Nat) (s : State) : Result := .next (s.enter t).takeOver

/-- MALFORMED_MESSAGE (R321, R323). -/
def execMalformedMessage (t path : Nat) (s : State) : Result :=
  guarded (decide (path < 3)) ((s.enter t).inc 0x1011 0x08)

end Sys2Proof.Machine
end

