-- ==== Sys2Proof/Machine/Startup.lean ====
section
/-!
DEFINITION. Start-up (16): reset, the retained store restored (R275), the firmware's boot, the islands
and the steps that follow them (R270, R302, R311, R394), warm restarts (R398) and the inputs that lead
to them (R392).
-/

namespace Sys2Proof.Machine

/-! ### Reset (R315) -/

/-- The members that the device counts through restarts: mean Tg, powered seconds, temperature bins,
shutdowns (R375, R376), calibration times and results (R391), and what the rail monitors measure (R316). -/
def outlivesReset (k : Nat) : Bool :=
  let o := keyObject k
  let m := keyMember k
  (o == 0x2801 && (m == 0x01 || m == 0x02 || m == 0x07 || m == 0x08)) || o == 0x2803 ||
  (o == 0x2802 && m == 0x04) || (o == 0x2831 && (m == 0x01 || m == 0x03)) ||
  (o == 0x2040 && m == 0x01)

/-- Blocks of a commit that is lost are free again (R274). -/
def Memory.lostBlocks (m : Memory) : Nat :=
  match m.committing with
  | some l => journalBlocks l
  | none => 0

/-- What the retained store holds when power or reset cuts in: records, journal halves, write counts and
training results (R271 to R276). DRAM contents are not kept. -/
def Memory.retained (m : Memory) : Memory :=
  { Memory.reset with
    kept := m.kept, keptBlobs := m.keptBlobs, keptOld := m.keptOld, keptBlobsOld := m.keptBlobsOld,
    recSeq := m.recSeq, tuneSeq := m.tuneSeq, tuneOld := m.tuneOld, half0 := m.half0, half1 := m.half1,
    activeHalf := m.activeHalf,
    activeUsed := m.activeUsed - m.lostBlocks, emptying := m.emptying, jseq := m.jseq, wear := m.wear,
    chans := m.chans.map fun (e : Nat × ChanRec) =>
      (e.1, { ChanRec.reset with trained := e.2.trained }) }

/-- Every island in reset (R315): all state but the retained store, the tuning sets, the logs that are
pinned, and the levels at the balls. -/
def State.afterReset (s : State) : State :=
  { State.reset with
    pending := s.pending, now := s.now, freeIdx := s.freeIdx, out := s.out,
    dict := s.dict.filter fun e => outlivesReset e.1,
    memory := s.memory.retained,
    panel := Panel.reset,
    bridge := { Bridge.reset with
      tuning := s.bridge.tuning.map fun (e : Nat × Tuning) =>
        (e.1, { e.2 with oldSets := e.2.sets, oldTgt := e.2.tgt }),
      blank := if s.bridge.emitInh then [1] else [], emitInh := s.bridge.emitInh },
    loop := { Loop.reset with a := s.loop.a, b := s.loop.b },
    clock := { Clock.reset with
      hclk := s.clock.hclk, pfail := s.clock.pfail, chatter := s.clock.chatter, edges := s.clock.edges,
      badRails := s.clock.badRails, t0 := s.clock.t0 },
    mgmt := { Mgmt.reset with fw := s.mgmt.fw },
    health := { Health.reset with records := s.health.records, tgSum := s.health.tgSum, tg := s.health.tg },
    logs := { Logs.reset with
      pinned := s.logs.pinned, pinAt := s.logs.pinAt, starts := s.logs.starts },
    tapIr := s.tapIr }

/-- The level of PNL_PG[3..0], and the highest write count (R276), which reset does not touch. -/
def State.showLevels (s : State) (before : State) : State :=
  (s.put 0x5801 0x04 (before.v 0x5801 0x04 % 16)).put 0x9000 0x05
    (before.memory.wear.foldl (fun a e => max a e.2) 0)

/-- RESET_N is asserted (R314, R315): every output is in its reset state. -/
def State.resetAssert (s : State) : State :=
  let s1 := s.afterReset.showLevels s
  let dark := (allStrings.map Output.gateDark) ++ [.driveBreak]
  s1.emits (if s.clock.hirq then dark ++ [.hirq false] else dark)

/-- The power-fail sequence is recorded as fatal and run (R409, R412). -/
def State.powerFailLogged (s : State) : State :=
  (s.log (noteSpec 2 0x1890 0 0x01 0 0 0)).powerFail

/-- RESET_N rises at root cycle `t` (R394): t = 0 of the start-up, steps 1 and 2 are complete, and the PLL
acquires when HCLK runs. A PFAIL_N that is asserted acts on the parts that exist (R414). -/
def State.resetRelease (s : State) (t : Nat) : State :=
  let s1 := s.afterReset.showLevels s
  let s2 : State := { s1 with
    now := t, clock := { s1.clock with resetN := true, t0 := t, acqStart := t },
    logs := { s1.logs with starts := s.logs.starts + 1 } }
  let s3 := (((s2.putStep 1).putStep 2).put 0x2001 0x01 (if s.clock.hclk then 1 else 0)).coreOnHclk
  if s3.clock.pfail ∨ s3.clock.chatter.contains 0 then s3.powerFailLogged else s3

/-! ### The retained store restored (R272, R275) -/

/-- A record with one valid copy is rewritten to both, the invalid one first: the sequences of copies 0 and 1
(R275). -/
def rewrittenSeqs (q : Nat × Nat) (first : Bool) : Nat × Nat :=
  if first then ((q.1 + 2) % 2 ^ 32, (q.1 + 1) % 2 ^ 32) else ((q.2 + 1) % 2 ^ 32, (q.2 + 2) % 2 ^ 32)

/-- A record that is damaged: a valid copy is read, counted and rewritten to both; with no valid copy it takes
its factory defaults. -/
def State.restoreRecord (s : State) (x : Nat × Bool × Bool) : State :=
  let key := x.1
  let q := tget (0, 0) key s.memory.recSeq
  let newest := if writesFirst q then x.2.2 else x.2.1
  let m := s.memory
  if x.2.1 && x.2.2 then s
  else if !x.2.1 && !x.2.2 then
    ({ s with memory := { m with
        kept := copyRecord key [] m.kept, keptBlobs := copyRecord key [] m.keptBlobs,
        keptOld := copyRecord key [] m.keptOld, keptBlobsOld := copyRecord key [] m.keptBlobsOld } }).putBit
      0x9000 0x01 0 true
  else
    let k := if newest then m.kept else m.keptOld
    let b := if newest then m.keptBlobs else m.keptBlobsOld
    ((({ s with memory := { m with
        kept := copyRecord key k m.kept, keptBlobs := copyRecord key b m.keptBlobs,
        keptOld := copyRecord key k m.keptOld, keptBlobsOld := copyRecord key b m.keptBlobsOld,
        recSeq := tput key (rewrittenSeqs q x.2.1) m.recSeq } }).wearRecord key 0).wearRecord key 1).inc
      0x9000 0x04

/-- The newest version of a record of the tuning region cannot be read: the older one is in force, or with no
valid copy the values from manufacture; of training results none are then kept (R272, R275, R279). -/
def State.loadTuning (s : State) (k : Nat) (older : Bool) : State :=
  if k < 48 then
    let t := if older then tget? k s.memory.tuneOld else none
    { s with bridge := { s.bridge with tuning := match t with
      | some u => tput k { u with oldSets := u.sets, oldTgt := u.tgt } s.bridge.tuning
      | none => tdel k s.bridge.tuning } }
  else if older then s
  else s.putChan (k - 64) { s.chan (k - 64) with trained := false }

/-- A record of the tuning region with one valid copy is rewritten to both (R275). -/
def State.rewriteTuning (s : State) (k : Nat) (q : Nat × Nat) (first : Bool) : State :=
  let s1 := { s with memory := { s.memory with
    tuneSeq := tput k (rewrittenSeqs q first) s.memory.tuneSeq,
    tuneOld := match tget? k s.bridge.tuning with
      | some u => tput k u s.memory.tuneOld
      | none => s.memory.tuneOld } }
  ((s1.wearBlock (tuneWear k 0)).wearBlock (tuneWear k 1)).inc 0x9000 0x04

/-- A record of the tuning region that is damaged follows the same rule in its own region (R272, R275);
one that has never been written holds nothing. -/
def State.restoreTuning (s : State) (x : Nat × Bool × Bool) : State :=
  let k := x.1
  match tget? k s.memory.tuneSeq with
  | none => s
  | some q =>
    let newest := if writesFirst q then x.2.2 else x.2.1
    if x.2.1 && x.2.2 then s
    else if !x.2.1 && !x.2.2 then
      (({ s with memory := { s.memory with
          tuneSeq := tdel k s.memory.tuneSeq, tuneOld := tdel k s.memory.tuneOld } }).loadTuning k false).putBit
        0x9000 0x01 0 true
    else (if newest then s else s.loadTuning k true).rewriteTuning k q x.2.1

/-- A journal half is cut at the first entry that fails its block check (R275). -/
def State.cutHalf (s : State) (h : Nat) (bad : Option Nat) : State :=
  match bad with
  | none => s
  | some n =>
    let l := s.halfEntries h
    (s.putHalfEntries h (l.take n)).add 0x9000 0x06 (l.length - n)

/-- The journal halves are replayed in ascending sequence: the half that is not active is the older. -/
def State.replayJournal (s : State) : State :=
  let l := s.halfEntries (1 - s.memory.activeHalf) ++ s.halfEntries s.memory.activeHalf
  if l = [] then s else (l.foldl State.applyEntry s).putBit 0x9000 0x01 1 true

/-- Kept members take their restored values (R7, R275). -/
def State.loadKept (s : State) : State :=
  let s1 := s.memory.kept.foldl (fun (st : State) e =>
    st.pute (keyObject e.1) (keyElement e.1) (keyMember e.1) e.2) s
  s1.memory.keptBlobs.foldl (fun (st : State) e =>
    st.putBlob (keyObject e.1) (keyElement e.1) (keyMember e.1) e.2) s1

/-- Units that are fenced stay out of service; spares take their roles (R72, R75, R116). -/
def State.loadFences (s : State) : State :=
  let fence := fun (p : Pool) (st : State) =>
    ((List.range p.units).filter fun n => st.ve p.object n 0x02 == 1).foldl
      (fun (u : State) n => u.pute p.object n 0x01 2) st
  let s1 := ((fence engines (fence dlanes s)).promote dlanes).promote engines
  (((List.range 16).foldl (fun (st : State) k => st.clanRest k) s1).showClanes).showUnits

/-- RETAINED_RESTORE_DONE (R275, R378): step 4. -/
def State.restoreDone (s : State) (d : RestoreDamage) : State :=
  if s.clock.resetN ∧ s.stepDone 3 ∧ !(s.stepDone 4) then
    let s1 := d.tuning.foldl State.restoreTuning (d.records.foldl State.restoreRecord s)
    let s2 := ((s1.cutHalf 0 d.half0).cutHalf 1 d.half1).replayJournal
    let s3 := if s2.bit 0x9000 0x01 0 then s2.log (noteSpec 2 0x9000 0 0x01 0 0 0) else s2
    let s4 := s3.loadKept
    let s5 := (s4.put 0x5001 0x04 (s4.v 0x5000 0x01)).loadFences.showRecord
    (if s5.shutdownPending then s5.putBit 0x2801 0x05 5 true else s5).putStep 4
  else s

/-! ### Islands and what follows them (R270, R302, R311, R394) -/

/-- The stage store is empty: both compressed frame stores are released, and the copies of the fret
output buffer are dark (R406); a frame held in spill becomes the next frame (R49). A result on a
compression lane is discarded and counted (R76). A replay's step copies its cue again. -/
def State.stageLost (s : State) : State :=
  let s0 := (s.codec.cjobs.foldl (fun (st : State) j => (st.inc 0x3802 0x0A).clanRest j.lane) s).leaveNext
  let s1 := { s0 with
    codec := { Codec.reset with failRuns := s.codec.failRuns, fenceDue := s.codec.fenceDue,
                                sinceMismatch := s.codec.sinceMismatch }
    ray := { Ray.reset with failRuns := s.ray.failRuns, fenceDue := s.ray.fenceDue }
    ingress := { s0.ingress with store0 := Frame.empty, store1 := Frame.empty }
    comp := Comp.reset }
  match s1.ingress.replay with
  | some r => s1.startStep r
  | none => s1.releaseNext

/-- Parcels that were under way are gone (R246, R406). -/
def State.meshLost (s : State) : State :=
  let s1 := (List.range 8).foldl (fun (st : State) p => (st.abortInbound p).relayPortDown p) s
  { s1 with ingress := { s1.ingress with inbound := [], busy := [], waiting := [] } }

/-- Lanes begin their bring-up: the lanes of enabled ports, and panel lanes that are not out of service once
the rails are up (R253, R255, R259). -/
def State.bringUpLanes (s : State) : State :=
  let s0 := (List.range 8).foldl (fun (st : State) p => st.portDown p false) s
  let s1 := (List.range 192).foldl (fun (st : State) l =>
    if st.laneState l = 3 then st else st.pute 0x7010 l 0x01 0)
    { s0 with lanes := Lanes.reset }
  let s2 := if s1.railsUp then s1.bringUpPanel else s1
  (List.range 8).foldl State.portTrain s2

/-- Course links and the drive link train (R186, R220). -/
def State.trainLinks (s : State) : State :=
  let s1 := s.trainCourses
  ({ s1 with loop := { s1.loop with dgood := 0, dlost := 0, dwait := [] } }).put 0x6801 0x09 1

/-- The DDR5 channels train, or come back with the fast restore (R278, R279, R311): every populated one
at a start-up, where one that was offline stays so; after a relock all but those that are offline or
have failed. -/
def State.trainDdr (s : State) (relock : Bool) : State :=
  s.populated.foldl (fun (st : State) c =>
    match st.chanState c, relock with
    | 4, false => (st.putChan c { st.chan c with offline := true }).beginTraining c
    | 4, true => st
    | 7, true => st
    | _, _ => st.beginTraining c) s

/-- The march test of R270 and the allocation of R266. -/
def State.march (s : State) (failed : List Nat) : State :=
  let s1 := (failed.filter fun b => decide (b < 256)).foldl (fun (st : State) b =>
    if st.ve 0x7810 b 0x02 = 1 then st else (st.putKept 0x7810 b 0x02 1).inc 0x7802 0x03) s
  let pass := (List.range 256).filter fun b => s1.ve 0x7810 b 0x02 == 0
  let s2 := (List.range 256).foldl (fun (st : State) b => (st.pute 0x7810 b 0x01 2).pute 0x7810 b 0x03 255) s1
  let s3 := ((List.range pass.length).zip pass).foldl (fun (st : State) e =>
    if e.1 < 252 then (st.pute 0x7810 e.2 0x01 0).pute 0x7810 e.2 0x03 e.1
    else st.pute 0x7810 e.2 0x01 1) s2
  let s4 := ({ s3 with memory := { s3.memory with copies := [], recentUE := [], recentCE := [],
                                                  fenceDue := [] } }).showBanks
  if pass.length < 252 then s4.log (noteSpec 1 0x7802 0 0x03 0 0 0) else s4

/-- Every island that was still to open runs at its target: the ramps of R302 are done (DEDUCED, log entry
101). -/
def State.rampsEnd (s : State) : State :=
  let up := s.clock.openingNow.toList ++ s.clock.opening
  let s1 := up.foldl (fun (st : State) i => (st.pute 0x2010 i 0x01 (st.ratioTarget i)).pute 0x2010 i 0x04 1) s
  { s1 with clock := { s1.clock with
    ramping := s1.clock.ramping.filter fun i => !(up.contains i), opening := [], openingNow := none,
    islandsDue := false } }

/-- Clear-before-light takes its full form on both halves, and the panel's state on its side is lost. -/
def State.fullClear (s : State) : State :=
  let s1 := s.putHalf 0 { s.half 0 with needFull := true, hashes := [], mapped := [], gone := [], rows := [] }
  s1.putHalf 1 { s1.half 1 with needFull := true, hashes := [], mapped := [], gone := [], rows := [] }

/-- The STAGE island first comes up (R270): the march test leaves the stage store empty. At a later
opening the store keeps what it holds (R309, R412). -/
def State.stageFirst (s : State) (failed : List Nat) : State :=
  if s.memory.marched then s
  else
    let s1 := s.stageLost.march failed
    { s1 with memory := { s1.memory with marched := true } }

/-- ISLAND_RAMPS_DONE (R302, R311, R394): step 6 of a start-up, after which steps 7 to 10 begin; or the
islands after a relock. -/
def State.islandRampsDone (s : State) (failed : List Nat) : State :=
  if s.v 0x2001 0x01 = 2 ∧ s.stepDone 5 ∧ s.v 0x1890 0x01 = 0 ∧ !s.shutdownPending ∧ !s.clock.islandsStopped ∧
      s.clock.islandsDue then
    let relock := s.stepDone 6
    let s2 := (s.rampsEnd.meshLost.stageFirst failed).putStep 6
    let s3 := ((s2.fullClear.bringUpLanes).trainLinks).trainDdr relock
    if relock then s3 else s3.freshStrings.freshLoops.showRest.railsOn.recomputeReduction
  else s

/-- FIRMWARE_BOOT_DONE (R346, R394): the dictionary is served; an image that runs completes step 5, and the
islands open unless something holds the device at the service floor. -/
def State.firmwareBootDone (s : State) : State :=
  if s.stepDone 4 ∧ !(s.stepDone 5) then
    let s1 := s.bootFirmware
    let s2 := { s1 with mgmt := { s1.mgmt with service := true } }
    if s2.firmwareRuns then
      let s3 := s2.putStep 5
      if s3.clock.pfailRun ∨ s3.shutdownPending then s3 else s3.openIslands
    else s2
  else s

/-! ### Warm restarts (R378, R398) -/

/-- Every gate is open after a start-up, since gate members are not kept (R307); a request that waited is
refused. -/
def State.openGates (s : State) : State :=
  let s1 := s.gateFails
  { s1 with dict := s1.dict.filter fun e => keyObject e.1 != 0x2020 && keyObject e.1 != 0x2030 }

/-- A warm restart: steps 6 to 11 again. Blanking that only a new start-up releases is released. -/
def State.warmRestart (s : State) : State :=
  let gone := fun (l : List Nat) => l.filter fun x => x != 2 && x != 6 && x != 7
  let s1 : State := { s with
    bridge := { s.bridge with blank := gone s.bridge.blank, release := gone s.bridge.release },
    clock := { s.clock with pfailRun := false, pfailReleased := false },
    logs := { s.logs with recovering := [] } }
  let s2 := ((s1.put 0x1890 0x01 0).put 0x1890 0x02 (s1.v 0x1890 0x02 % 64)).fullClear
  s2.openGates.openIslands

/-- The supply is good: PFAIL_N released and every rail in tolerance. -/
def State.supplyGood (s : State) : Bool :=
  !s.clock.pfail && !(s.clock.chatter.contains 0) && s.clock.badRails.isEmpty

/-- A write of 1890.04 is accepted (R398, R417). -/
def State.warmOk (s : State) (v : Nat) : Bool :=
  v == 1 && s.supplyGood && !s.shutdownPending && (s.v 0x1890 0x01 == 4 || s.v 0x1890 0x01 == 6)

/-- AUTO_RESTART_TIMER (R398). -/
def State.autoRestart (s : State) : State :=
  if s.b 0x1890 0x05 ∧ s.v 0x1890 0x01 = 4 ∧ s.clock.pfailReleased ∧ s.supplyGood ∧ !s.shutdownPending ∧
      s.stepDone 5 then
    s.warmRestart
  else s

/-- PFAIL_RELEASE (R392): PFAIL_N is high again. -/
def State.pfailRelease (s : State) : State :=
  if s.clock.pfail then
    let s1 := s.transitions 0 1
    { s1 with clock := { s1.clock with pfail := false, pfailReleased := true } }
  else s

/-- The answer to a write of 2804.0A (R378). -/
def State.sdClearOk (s : State) (v : Nat) : Bool :=
  s.shutdownPending && v == s.v 0x2804 0x02 && decide (s.health.tg < s.onset)

/-- The owner's act on 2804.0A (R378): the record is no longer pending, and start-up goes on from the
island step while the supply is good. -/
def State.ownSdClear (s : State) : State :=
  let s1 := { s with health := { s.health with
    records := match s.health.records with
      | r :: l => (r.take 158 ++ [0#8] ++ r.drop 159) :: l
      | [] => [] } }
  let s2 := ((s1.wearBlock (shutdownWear (s1.v 0x2802 0x04 % 8))).showRecord).putBit 0x2801 0x05 5 false
  if s2.supplyGood ∧ s2.stepDone 5 then s2.warmRestart else s2

/-! ### Meanings -/

/-- RESET_RELEASE (R394). -/
def execResetRelease (t : Nat) (s : State) : Result := .next ((s.enter t).resetRelease t)

/-- RESET_ASSERT (R315). -/
def execResetAssert (t : Nat) (s : State) : Result := .next (s.enter t).resetAssert

/-- RETAINED_RESTORE_DONE (R275). -/
def execRetainedRestoreDone (t : Nat) (damage : RestoreDamage) (s : State) : Result :=
  .next ((s.enter t).restoreDone damage)

/-- FIRMWARE_BOOT_DONE (R346, R394). -/
def execFirmwareBootDone (t : Nat) (s : State) : Result := .next (s.enter t).firmwareBootDone

/-- ISLAND_RAMPS_DONE (R270, R302, R394). -/
def execIslandRampsDone (t : Nat) (failedBanks : List Nat) (s : State) : Result :=
  guarded (failedBanks.all (decide <| · < 256)) ((s.enter t).islandRampsDone failedBanks)

/-- AUTO_RESTART_TIMER (R398). -/
def execAutoRestartTimer (t : Nat) (s : State) : Result := .next (s.enter t).autoRestart

/-- PFAIL_RELEASE (R392). -/
def execPfailRelease (t : Nat) (s : State) : Result := .next (s.enter t).pfailRelease

end Sys2Proof.Machine
end

