-- ==== Sys2Proof/Machine/View.lean ====
section
/-!
DEFINITION. What a read of the object dictionary answers (R2 to R6). A read-only member that shows the
state of an engine is computed from it here; every other member reads what `State.dict` or `State.blobs`
holds.
-/

namespace Sys2Proof.Machine

/-- A bit of a view. -/
def viewBit (k : Nat) (b : Bool) : Nat := if b then 2 ^ k else 0

/-! ### Scene stream (R57) -/

/-- 3001.03. -/
def State.nextState (s : State) : Nat :=
  let f := s.nextStore
  let spilled := s.ingress.spillFrame.isSome || s.ingress.spillCopy
  viewBit 0 f.header.isSome + viewBit 1 f.close.isSome +
  viewBit 2 (s.frameComplete f && !s.ingress.spillCopy) + viewBit 3 spilled +
  viewBit 4 (s.ingress.spillLost != [])

/-- 3100[q].01. -/
def State.queueState (s : State) (q : Nat) : Nat :=
  let a := s.nextStore
  let b := s.curStore
  viewBit 0 (a.tile? q).isSome + viewBit 1 (b.tile? q).isSome + viewBit 2 (a.removed.contains q) +
  viewBit 3 (s.ray.skipped.contains q) + viewBit 4 (b.removed.contains q)

/-- 3100[q].02. -/
def State.queueLength (s : State) (q : Nat) : Nat :=
  match s.curStore.tile? q with
  | some t => t.stream.length
  | none => 0

/-! ### Management (R348) -/

/-- 1001[m].01, .02, .04 and .05. -/
def State.sessionView (s : State) (m k : Nat) : Nat :=
  match s.session? m with
  | some x => match k with | 1 => 2 | 2 => x.path | 4 => x.seqIn | _ => x.opened
  | none =>
    if k = 1 then (if m = 0 ∨ m = 15 then 3 else if (s.masterRec m).opening = [] then 0 else 1) else 0

/-- 1020[n].01 to .05. -/
def State.chordView (s : State) (n k : Nat) : Nat :=
  let x := s.chord n
  if x.state = 0 then 0
  else match k with
    | 1 => x.state
    | 2 => x.master
    | 3 => x.members
    | 4 => x.bytes
    | _ => if x.state = 3 then x.at_ else 0

/-! ### Wall time (R364) -/

/-- 8001.03: r of R360, two's complement. -/
def State.residualView (s : State) : Nat :=
  let st := s.v 0x8001 0x01
  ofS 64 (if st = 2 ∨ st = 3 then s.residualAt s.now else s.net.resid)

/-- 8001.05: seconds in the current holdover. -/
def State.holdoverView (s : State) : Nat :=
  if s.v 0x8001 0x01 = 4 then min (2 ^ 32 - 1) ((s.now - s.net.holdSince) / secCycles) else 0

/-- 8010[i].05: slot time less wall time. -/
def State.offsetView (s : State) (i : Nat) : Nat :=
  if s.tracks i ∧ s.v 0x8001 0x01 ≠ 0 then ofS 64 ((s.slot i).time s.now - s.wall) else 0

/-- 2001.04: HCLK against wall time in parts per 10^9: the rate of wall time with its sign changed. -/
def State.hclkOffset (s : State) : Nat :=
  if s.v 0x8001 0x01 = 0 then 0 else ofS 32 (rdivs (-(s.wallRate) * 1000000000) (2 ^ 40))

/-! ### Reads -/

/-- The value of a member as the device holds it, as a raw code. 3001.01 and 3001.02 read 0 while the store
holds no numbered content frame: none, or a cue (DESIGN CHOICE, log entry 88). 6001.01 reads its default
until the BRIDGE runs (R201; DEDUCED, log entry 95). -/
def State.valueNow (s : State) (o e m : Nat) : Nat :=
  match o, m with
  | 0x0000, 0x04 => Config.factorySerial % 2 ^ 64
  | 0x0000, 0x06 => if s.firmwareRuns then s.fwVersion s.runningSlot else 0
  | 0x0000, 0x07 => s.uptime
  | 0x0000, 0x08 => s.wallTime
  | 0x1001, 0x01 => s.sessionView e 1
  | 0x1001, 0x02 => s.sessionView e 2
  | 0x1001, 0x04 => s.sessionView e 4
  | 0x1001, 0x05 => s.sessionView e 5
  | 0x1010, 0x02 => targetAreas.getD e 0
  | 0x1020, 0x01 => s.chordView e 1
  | 0x1020, 0x02 => s.chordView e 2
  | 0x1020, 0x03 => s.chordView e 3
  | 0x1020, 0x04 => s.chordView e 4
  | 0x1020, 0x05 => s.chordView e 5
  | 0x1030, 0x02 => (tget [] e s.mgmt.queues).length
  | 0x1890, 0x01 => s.startState
  | 0x1890, 0x02 => s.stepsDone
  | 0x1891, 0x01 => s.floorMissing
  | 0x2001, 0x04 => s.hclkOffset
  | 0x2840, 0x06 => s.cvResult e
  | 0x3001, 0x01 => s.nextStore.number.getD 0
  | 0x3001, 0x02 => s.curStore.number.getD 0
  | 0x3001, 0x03 => s.nextState
  | 0x3001, 0x04 => s.nextStore.granules
  | 0x3041, 0x02 => s.curStore.cue.getD 0
  | 0x3100, 0x01 => s.queueState e
  | 0x3100, 0x02 => s.queueLength e
  | 0x4001, 0x01 => if s.v 0x4001 0x01 = 2 then 2 else if s.awaitsSource then 1 else 0
  | 0x4801, 0x01 => if s.seq.running then s.v 0x4801 0x01 else 0
  | 0x4801, 0x09 => s.mode.lw
  | 0x5010, 0x09 => if (s.modeSlot e).valid then 1 else 0
  | 0x5011, 0x08 => s.genState e
  | 0x6001, 0x01 => if s.stepDone 6 then s.emitWord else 0
  | 0x6001, 0x02 => s.courseBlankWord
  | 0x6010, 0x03 => s.stringState e
  | 0x7801, 0x01 => s.usable
  | 0x8001, 0x03 => s.residualView
  | 0x8001, 0x04 => ofS 32 s.wallRate
  | 0x8001, 0x05 => s.holdoverView
  | 0x8001, 0x07 => s.mac
  | 0x8010, 0x01 => s.slotState e
  | 0x8010, 0x05 => s.offsetView e
  | 0x9000, 0x03 => journalBytes (s.memory.committing.getD []) + journalBytes s.memory.journal
  | _, _ => s.ve o e m

/-- The value of a member as a read answers it: from the latch point on, the value that waits for the nut
mark (R133). -/
def State.valueOf (s : State) (o e m : Nat) : Nat :=
  match s.seq.nutPend.reverse.find? fun (p : Pending) => p.object == o && p.element == e && p.member == m with
  | some p => p.value
  | none => s.valueNow o e m

/-- The bytes of a BLOB member as a read answers them. -/
def State.bytesOf (s : State) (o e m : Nat) : Bytes :=
  match o with
  | 0x1001 => match s.session? e with | some x => if x.path = 0 then [] else x.peer | none => []
  | 0x1810 => tget [] e s.logs.ring
  | 0x1811 => s.logs.pinned.getD e []
  | 0x1820 => tget [] e s.logs.viols
  | 0x2804 => s.health.records.flatten
  | _ => s.blob o e m

/-- A member read (R6, R324): the bytes, or the code of the refusal: 1 no such member, 3 a write-only
member, 5 a length or offset that does not match. A BLOB is read from an offset; a length of 0 takes the
rest. -/
def State.readMember (s : State) (o e m len offset : Nat) : Except Nat Bytes :=
  match rowOf o e m with
  | none => .error 1
  | some r =>
    if r.acc = .wo then .error 3
    else if r.ty = .blob then
      let b := (s.bytesOf o e m).drop offset
      .ok (if len = 0 then b else b.take len)
    else
      let w := r.ty.width / 8
      if offset ≠ 0 ∨ (len ≠ 0 ∧ len < w) then .error 5 else .ok (beBytes w (s.valueOf o e m))

end Sys2Proof.Machine
end

