-- ==== Sys2Proof/Machine/Rules.lean ====
section
/-!
DEFINITION. How a write is judged (R319, R324, R328 to R330, R333, R334): access code, level, type and
length, the range of the member's own value, and the rules that relate members to one another or to the
state of the device. Every function answers a code of R330, 0 for accepted.
-/

namespace Sys2Proof.Machine

/-- Who writes: the master, the path that its message came on (0 the host link, 1 and 2 the Ethernet
ports; none without a message), and whether the write stands in a chord. -/
structure Writer where
  master : Nat
  path : Option Nat
  chord : Bool
  deriving DecidableEq, Repr

/-! ### The range of a member's own value (R3, R4 and the object tables) -/

/-- The value lies between two limits. -/
def within (lo hi v : Nat) : Bool := decide (lo ≤ v) && decide (v ≤ hi)

/-- What a type refuses (R3, R4): a BOOL above 1, a TIME with too many nanoseconds, an FX value whose
unused high bits are no sign extension or not zero. -/
def Ty.valueOk (ty : Ty) (v : Nat) : Bool :=
  match ty with
  | .bool => decide (v ≤ 1)
  | .time => decide (v / 2 ^ 16 % 2 ^ 32 ≤ 999999999)
  | .fxs m n => let w := 1 + m + n; ofS ty.width (toS w (v % 2 ^ w)) == v
  | .fxu m n => decide (v < 2 ^ (m + n))
  | _ => true

/-- Write-only members that take the value 1 alone. -/
def onlyOne (o m : Nat) : Bool :=
  (m == 0x10 && decide (o ≠ 0x8000)) ||
  [(0x3040, 0x05), (0x3500, 0x03), (0x6000, 0x05), (0x6800, 0x0F), (0x9000, 0x02), (0x1020, 0x06),
   (0x8000, 0x14), (0x1890, 0x04), (0x2840, 0x02), (0x2840, 0x0A)].contains (o, m)

/-- Greatest values of the enumerated members. -/
def enumMax (o m : Nat) : Nat :=
  match o, m with
  | 0x4010, 0x03 => 3 | 0x4020, 0x03 => 3 | 0x4010, 0x0D => 2 | 0x4020, 0x0B => 2
  | 0x5000, 0x05 => 2 | 0x5040, 0x01 => 3 | 0x5800, 0x0B => 2 | 0x6000, 0x02 => 2
  | 0x7003, 0x01 => 2 | 0x7800, 0x01 => 5 | 0x7800, 0x02 => 8 | 0x7800, 0x0C => 2
  | 0x8020, 0x01 => 2 | 0x2840, 0x01 => 3 | _, _ => 1

/-- Ranges in areas 1000 to 4800. -/
def rangeLow (o e m v : Nat) : Bool :=
  match o, m with
  | 0x1000, 0x01 => within 5 600 v
  | 0x1010, 0x01 => decide (e ≠ 17) && (decide (e ≠ 1) || someControl (accessValue v))
  | 0x1891, 0x02 => within 1 64 v
  | 0x2010, 0x02 => ratioOk e v
  | 0x2800, 0x01 => within 1120 1504 v
  | 0x2800, 0x02 => decide (-640 ≤ toS 16 v ∧ toS 16 v ≤ 1280)
  | 0x2800, 0x03 => within 10 1000 v
  | 0x2800, 0x04 => decide (-640 ≤ toS 16 v ∧ toS 16 v ≤ 1680)
  | 0x2820, 0x01 => v == 0 || within 1000 16000000 v
  | 0x2830, 0x01 => decide (v ≤ 16) || v == 255
  | 0x3000, 0x04 => decide (v ≤ 16)
  | 0x3000, 0x07 => v % 65536 == 0
  | 0x3000, 0x08 => v % 65536 == 0
  | 0x3000, 0x09 => v % 65536 == 0
  | 0x3300, _ => decide (v ≤ 7) || v == 255
  | 0x3800, 0x01 => decide (v ≤ 8)
  | 0x3804, 0x01 => decide (v ≤ 64)
  | 0x4000, 0x02 => decide (v ≤ 16000)
  | 0x4000, 0x04 => v % 65536 == 0
  | 0x4000, 0x05 => within 1 16 v
  | 0x4010, 0x02 => decide (v ≤ 63)
  | 0x4020, 0x02 => decide (v ≤ 63)
  | 0x4020, 0x0D => decide (v < 2 ^ 30)
  | 0x4020, 0x0E => decide (v < 2 ^ 30)
  | 0x4800, 0x01 => v == 1 || v == 2 || v == 4
  | 0x4800, 0x02 => within 1 64 v
  | 0x4800, 0x05 => decide (v ≤ 262144)
  | _, _ => true

/-- Ranges in areas 5000 to 6800. -/
def rangeMid (o e m v : Nat) : Bool :=
  match o, m with
  | 0x5000, 0x01 => decide (v ≤ 7)
  | 0x5010, _ => decide (2 ≤ e)
  | 0x5040, 0x02 => decide (v < 2 ^ 30)
  | 0x5040, 0x03 => decide (v ≤ 10)
  | 0x5800, 0x01 => decide (v ≤ 20000)
  | 0x5800, 0x04 => within 1 1000 v
  | 0x5800, 0x05 => within 10 50000 v
  | 0x5800, 0x06 => within 16 4096 v
  | 0x5800, 0x07 => within 10000 100000 v
  | 0x5800, 0x0C => v % 65536 == 0
  | 0x5800, 0x0D => within 1 1000 v
  | 0x5800, 0x0E => decide (v ≤ 1023)
  | 0x5811, 0x01 => decide (v ≤ 7)
  | 0x6000, 0x03 => decide (v ≤ 1918)
  | 0x6010, 0x01 => decide (v ≤ 1000)
  | 0x6010, 0x02 => decide (v ≤ 1000)
  | 0x6020, 0x01 => decide (v ≤ 31)
  | 0x6800, 0x02 => within 256 16384 v && v % 16 == 0
  | 0x6800, 0x04 => within 10 1000 v
  | 0x6800, 0x05 => within 10 1000 v
  | 0x6800, 0x06 => within 1 32767 v
  | 0x6800, 0x07 => within 1 32767 v
  | 0x6800, 0x08 => decide (v ≤ 32767)
  | 0x6800, 0x09 => within 500 25000 v
  | 0x6800, 0x0A => within 10 900 v
  | 0x6800, 0x0B => within 10 20000 v
  | 0x6800, 0x0E => within 140000 1000000 v
  | 0x6810, 0x01 => decide (v ≤ 8)
  | 0x6810, 0x02 => decide (-32 ≤ toS 8 v ∧ toS 8 v ≤ 31)
  | 0x6810, 0x08 => decide (50 ≤ e)
  | 0x6810, 0x09 => decide (50 ≤ e)
  | 0x6820, 0x06 => decide (-32 ≤ toS 8 v ∧ toS 8 v ≤ 31)
  | _, _ => true

/-- Channels in a population word. -/
def channelsIn (v : Nat) : Nat := ((List.range 4).filter v.testBit).length

/-- Ranges in areas 7000 to 9000. -/
def rangeHigh (o e m v : Nat) : Bool :=
  match o, m with
  | 0x7000, 0x02 => v == 0 || within 10 60000 v
  | 0x7000, 0x03 => within 2000 100000 v
  | 0x7003, 0x03 => within 1 8 v
  | 0x7010, 0x02 => within 1 3 v
  | 0x7010, 0x04 => decide (e < 128)
  | 0x7010, 0x05 => decide (v ≤ 8)
  | 0x7800, 0x05 => within 8 14 v
  | 0x7800, 0x07 => within 1 32 v
  | 0x7800, 0x08 => within 1 65535 v
  | 0x7800, 0x0A => decide (v < 16) && decide (2 ≤ channelsIn v)
  | 0x7800, 0x0B => within 1 2 v
  | 0x7820, 0x02 => within 1 3 v
  | 0x7830, 0x01 => within 500 1000000 v
  | 0x8000, 0x01 => decide (v ≤ 127)
  | 0x8000, 0x02 => decide (v ≤ 127) || v == 255
  | 0x8000, 0x05 => within 100 1000000 v
  | 0x8000, 0x06 => within 100 10000 v
  | 0x8000, 0x08 => within 10000 1000000000 v
  | 0x8000, 0x0C => decide (-7 ≤ toS 8 v ∧ toS 8 v ≤ 4)
  | 0x8000, 0x0F => decide (v ≤ 4094)
  | 0x8000, 0x10 => decide (v ≤ 7)
  | 0x8000, 0x12 => within 1 128 v
  | 0x8020, 0x03 => decide (-1000000 ≤ toS 32 v ∧ toS 32 v ≤ 1000000)
  | 0x9000, 0x08 => within 100 60000 v
  | 0x9101, 0x01 => decide (v < 2)
  | 0x9101, 0x02 => decide (v < 2)
  | _, _ => true

/-- The own range of a member's value (R333). -/
def MemberRow.rangeOk (r : MemberRow) (e m v : Nat) : Bool :=
  let o := r.object
  r.ty.valueOk v && (!(r.ty == .enum8) || decide (v ≤ enumMax o m)) &&
  (!(r.acc == .wo && onlyOne o m) || v == 1) &&
  (if o < 0x5000 then rangeLow o e m v else if o < 0x7000 then rangeMid o e m v else rangeHigh o e m v)

/-- What the bytes written to a BLOB member at an offset answer by themselves: 4 outside its range, 5 for
another length than a member of fixed length has (R324). -/
def blobCode (o e len offset : Nat) : Nat :=
  match o with
  | 0x1002 => if !(within 1 14 e) ∨ offset ≠ 0 then 4 else if len = 32 then 0 else 5
  | 0x5812 => if within 1 1024 (offset + len) then 0 else 4
  | 0x8000 => if offset ≠ 0 then 4 else if len = 0 ∨ len = 16 then 0 else 5
  | 0x9100 => if offset + len ≤ 6291456 then 0 else 4
  | _ => 4

/-! ### Values proposed together (R334) -/

/-- A staged value stands in the dictionary while a chord is judged; flags, write-only members, BLOBs and
the access tables in force do not change for the judgement. -/
def State.propose (s : State) (x : Staged) : State :=
  match rowOf x.object x.element x.member with
  | none => s
  | some r =>
    if r.ty = .blob ∨ r.acc = .wo ∨ r.acc = .w1c ∨ x.object = 0x1010 then s
    else s.pute x.object x.element x.member x.value

/-- A pending item as it was staged. -/
def Pending.item (p : Pending) : Staged :=
  { object := p.object, element := p.element, member := p.member, value := p.value, data := p.data,
    offset := p.offset }

/-- The apply class of a member (R8): 0 now or stopped, 1 fret, 2 frame. -/
def MemberRow.cls (r : MemberRow) : Nat := match r.apply with | .fret => 1 | .frame => 2 | _ => 0

/-- The state with the accepted values that will have taken effect by an apply point of a class: those
that wait for the nut mark, and those of a class up to it. -/
def State.withWaiting (s : State) (cls : Nat) : State :=
  (s.seq.nutPend ++ (s.seq.pend.filter fun p => decide (p.cls ≤ cls))).foldl
    (fun (st : State) p => st.propose p.item) s

/-! ### Regions in DRAM (R282) -/

/-- Base and size of every region that masters place; a size of 0 takes no space. -/
def State.regions (s : State) : List (Nat × Nat) :=
  let md := s.modeSlot (s.v 0x5000 0x01)
  let onIf := fun (c : Bool) (n : Nat) => if c then n else 0
  [(s.v 0x3000 0x07, onIf (s.b 0x3000 0x06) spillSize), (s.v 0x3000 0x08, s.v 0x3000 0x09),
   (s.v 0x4000 0x04, onIf (decide (s.v 0x4000 0x03 < 64)) (s.v 0x4000 0x05 * 4 * md.h * md.v)),
   (s.v 0x5800 0x0C, onIf (s.v 0x5800 0x0B == 1) (md.v * md.rowBytes))] ++
  (List.range 64).map fun n => (s.ve 0x3020 n 0x01, s.ve 0x3020 n 0x02)

/-- No two regions that take space share a byte. -/
def regionsApart : List (Nat × Nat) → Bool
  | [] => true
  | x :: r =>
    (x.2 == 0 || r.all fun y => y.2 == 0 || decide (x.1 + x.2 ≤ y.1) || decide (y.1 + y.2 ≤ x.1)) &&
    regionsApart r

/-- A member that places or sizes a region. -/
def placesRegion (o m : Nat) : Bool :=
  match o with
  | 0x3000 => within 6 9 m
  | 0x3020 => within 1 2 m
  | 0x4000 => within 3 5 m
  | 0x5800 => within 0x0B 0x0C m
  | 0x5000 => m == 1
  | 0x5010 => within 1 3 m
  | _ => false

/-! ### Rules that relate members (R334) -/

/-- The factor that a mode slot is shown with (R403). -/
def State.factorOf (s : State) (slot : Nat) : Nat :=
  if s.b 0x1891 0x03 then s.reductionOf slot else 1

/-- A mode slot may be selected (R120, R139, R142). -/
def State.modeOk (s : State) (slot : Nat) : Bool :=
  let base := s.modeSlot slot
  base.valid &&
  (if s.displayRuns then
    let new := base.derived (s.factorOf slot)
    let others := s.mode :: s.target?.toList
    let lg := others.foldl (fun (a : Nat) (x : Mode) => min a x.ls) new.ls
    let fr := others.foldl (fun (a : Nat) (x : Mode) => min a x.frame) new.frame
    others.all fun x => glideFits x new lg fr
  else true)

/-- Domain and index of the unit that a command member acts on (R404, R416). -/
def commandDomain (o e m : Nat) : Option (Nat × Nat) :=
  match o, m with
  | 0x7010, 0x02 => some (domLane, e)
  | 0x7003, 0x01 => some (domPort, e)
  | 0x7003, 0x02 => some (domPort, e)
  | 0x7810, 0x02 => some (domUnit, gateBank + e)
  | 0x7820, 0x02 => some (domChannel, e)
  | _, _ => none

/-- A device-started recovery of the same domain takes precedence (R416): that of a unit lasts until its
fence, set by a self-test, takes effect (R405). -/
def State.recoveryHolds (s : State) (o e m : Nat) : Bool :=
  if m = 0x02 ∧ o = 0x3810 then s.waitsFence dlanes e
  else if m = 0x02 ∧ o = 0x4810 then s.waitsFence engines e
  else match commandDomain o e m with
  | some d => (s.recovering? d.1 d.2).isSome
  | none => false

/-- The unit of a command is closed by its gate (R308, R330): a lane, a channel, the loop engine. -/
def State.unitClosed (s : State) (o e m v : Nat) : Bool :=
  match o, m with
  | 0x6800, 0x01 => v == 1 && !(s.gateOpen? 0x372)
  | 0x6800, 0x0F => !(s.gateOpen? 0x372)
  | 0x7010, 0x02 => !(s.gateOpen? (gateLane + e))
  | 0x7820, 0x02 => !(s.gateOpen? (gateChannel + e))
  | _, _ => false

/-- What a write of an enable of a path answers (R348): it is refused when it disables the path of the
request while no session with control is open on the other. -/
def State.pathOk (s : State) (w : Writer) (network : Bool) (v : Nat) : Bool :=
  match w.path with
  | none => true
  | some p =>
    v == 1 || (network != (p != 0)) || s.controlOn (fun q => if network then q == 0 else q != 0)

/-- The code of the rules that relate a value to other members or to the state of the device: `s` is the
state as it is, `p` the state with the proposed values. -/
def State.relCode (s p : State) (w : Writer) (o e m v : Nat) : Nat :=
  let need := fun (ok : Bool) => if ok then 0 else 4
  match o, m with
  | 0x1000, 0x02 => need (s.pathOk w false v)
  | 0x1000, 0x03 => need (s.pathOk w true v)
  | 0x1020, 0x06 => let st := (s.chord e).state; need (st == 1 || st == 3 || st == 4)
  | 0x1890, 0x04 => need (s.warmOk v)
  | 0x2020, 0x01 => s.gateCode w.path false e (v == 0)
  | 0x2030, 0x01 => s.gateCode w.path true e (v == 0)
  | 0x2804, 0x0A => need (s.sdClearOk v)
  | 0x2830, 0x01 => s.calCode v
  | 0x2840, k => s.cvCode e k w.master v
  | 0x3500, 0x03 => need (!(s.cueInUse e))
  | 0x4010, 0x02 => need (!(v == 63 && p.ve 0x4010 e 0x0D == 2))
  | 0x4010, 0x0D => need (!(v == 2 && p.ve 0x4010 e 0x02 == 63))
  | 0x4020, 0x02 => need (!(v == 63 && p.ve 0x4020 e 0x0B == 2))
  | 0x4020, 0x0B => need (!(v == 2 && p.ve 0x4020 e 0x02 == 63))
  | 0x5000, 0x01 => need (p.modeOk v)
  | 0x5000, 0x06 => need (decide (v < s.mode.ls))
  | 0x5010, _ => need (!s.displayRuns || (e != s.v 0x5001 0x04 && e != s.v 0x5001 0x05))
  | 0x5800, 0x02 => need (decide (100000 + v + 8 * p.v 0x5800 0x03 ≤ 1000000))
  | 0x5800, 0x03 => need (decide (100000 + p.v 0x5800 0x02 + 8 * v ≤ 1000000))
  | 0x5800, 0x0A =>
    need (v == 0 || (!s.shutdownPending &&
      (s.displayRuns || s.v 0x5001 0x03 == 4 || s.v 0x5801 0x01 == 3)))
  | 0x5800, 0x0F => need (v == 1 || s.v 0x5001 0x03 == 0)
  | 0x5810, 0x01 =>
    need ((e == 0 || decide (toS 16 (p.ve 0x5810 (e - 1) 0x01) < toS 16 v)) &&
      (e == 6 || decide (toS 16 v < toS 16 (p.ve 0x5810 (e + 1) 0x01))))
  | 0x6010, 0x01 => need (decide (p.ve 0x6010 e 0x02 ≤ v + 200))
  | 0x6010, 0x02 => need (decide (v ≤ p.ve 0x6010 e 0x01 + 200))
  | 0x6800, 0x0F => need s.rearmOk
  | 0x6810, 0x01 =>
    need (!(v == 0 && (e == 48 || e == 49) && decide (2 ≤ s.wheel) && decide (s.wheel ≤ 8)))
  | 0x7010, 0x02 => need (s.laneCmdOk e v)
  | 0x7810, 0x02 => need (v == 0 || s.ve 0x7810 e 0x01 != 0 || !s.spareBanks.isEmpty)
  | 0x7820, 0x02 => s.chanCmdCode e v
  | 0x8000, 0x01 => need (v != p.v 0x8000 0x02)
  | 0x8000, 0x02 => need (v != p.v 0x8000 0x01)
  | 0x8000, 0x14 => s.stepNowCode v
  | 0x8020, 0x01 => need (v != 2 || w.path != some (e + 1) || s.controlOn (fun q => q == 2 - e))
  | 0x9101, 0x01 => s.fwVerifyCode v
  | 0x9101, 0x02 => s.fwSwitchCode v
  | 0x9101, 0x03 => need (s.slotValid v)
  | 0x9101, 0x04 => need (within (s.v 0x9101 0x04) (s.fwVersion s.runningSlot) v)
  | _, _ => 0

/-! ### A write judged -/

/-- Access code and level (R6, R328): a CW member and a staged write need level 3. -/
def State.accessCode (s : State) (w : Writer) (r : MemberRow) (o : Nat) : Nat :=
  if s.level w.master o < (if w.chord ∨ r.acc = .cw then 3 else 2) then 2
  else if r.acc = .ro then 3
  else if r.acc = .cw ∧ !w.chord then 14
  else 0

/-- The type, the length and the own range of a value (R324, R333). -/
def MemberRow.valueCode (r : MemberRow) (x : Staged) (len : Nat) : Nat :=
  if r.ty = .blob then blobCode x.object x.element len x.offset
  else if x.offset ≠ 0 ∨ len * 8 ≠ r.ty.width ∨ 2 ^ r.ty.width ≤ x.value then 5
  else if r.rangeOk x.element x.member x.value then 0
  else 4

/-- The rules of the device's state (R8, R273, R282, R308, R334, R416), with the values proposed in `p`. -/
def State.stateCode (s p : State) (w : Writer) (r : MemberRow) (x : Staged) : Nat :=
  if r.apply = .stopped ∧ s.displayRuns then 6
  else if r.kept ∧ s.journalBusy (if r.ty = .blob then x.data.length else r.ty.width / 8) then 7
  else if s.unitClosed x.object x.element x.member x.value then 16
  else if s.recoveryHolds x.object x.element x.member then 7
  else if r.ty = .blob then
    -- an image is loaded with plain writes (R344)
    if x.object = 0x9100 then
      if w.chord then 4 else s.fwImageCode x.element x.offset x.data.length
    else 0
  else if placesRegion x.object x.member ∧ !(regionsApart p.regions) then 4
  else s.relCode p w x.object x.element x.member x.value

/-- The code that a staged item gets at once (R333): `len` is the length of its value. -/
def State.stageCode (s : State) (w : Writer) (x : Staged) (len flags : Nat) : Nat :=
  match rowOf x.object x.element x.member with
  | none => 1
  | some r =>
    if flags ≠ 0 then 5
    else
      let a := s.accessCode w r x.object
      if a ≠ 0 then a else r.valueCode x len

/-- A value is judged beside the values that wait: with those of its own apply class or an earlier one, and
with those of each later class (R177); the first code that refuses it. -/
def firstBad (code : Nat → Nat) : Nat :=
  if code 0 ≠ 0 then code 0 else if code 1 ≠ 0 then code 1 else code 2

/-- The code that a plain write gets (R319). -/
def State.writeCode (s : State) (w : Writer) (x : Staged) (len flags : Nat) : Nat :=
  let c := s.stageCode w x len flags
  if c ≠ 0 then c
  else match rowOf x.object x.element x.member with
  | none => 1
  | some r => firstBad fun k => if k < r.cls then 0 else s.stateCode ((s.withWaiting k).propose x) w r x

/-- An item of a gate's request member. -/
def Staged.isGate (x : Staged) : Bool := x.object == 0x2020 || x.object == 0x2030

/-- The gate request takes time: a close waits for handshakes, and a subsystem's opening ramps its islands. -/
def State.gateTakesTime (s : State) (x : Staged) : Bool :=
  let unit := x.object == 0x2030
  x.isGate && (if x.value = 0 then s.gateState unit x.element != 0
    else !unit && s.gateState unit x.element == 0)

/-- The codes of a chord's items: a gate request beside an earlier one of the chord that takes time is
refused as busy (R307, R334). -/
def afterGate (s : State) : Bool → List (Staged × Nat) → List Nat
  | _, [] => []
  | busy, (x, c) :: l =>
    (if c = 0 ∧ busy ∧ x.isGate then 7 else c) :: afterGate s (busy || s.gateTakesTime x) l

/-- The first item of a chord that fails when the chord is judged as a whole, with its code (R334). -/
def State.chordFails (s : State) (w : Writer) (items : List Staged) : Option (Nat × Nat) :=
  let p := fun (k : Nat) => items.foldl State.propose (s.withWaiting k)
  let code := fun (x : Staged) =>
    match rowOf x.object x.element x.member with
    | none => 1
    | some r =>
      let a := s.accessCode w r x.object
      if a ≠ 0 then a
      else
        let c := r.valueCode x x.size
        if c ≠ 0 then c
        else firstBad fun k => if k < r.cls then 0 else s.stateCode (p k) w r x
  ((afterGate s false (items.map fun x => (x, code x))).zipIdx.find? fun e => e.1 != 0).map fun e => (e.2, e.1)

end Sys2Proof.Machine
end

