-- ==== Sys2Proof/Machine/Owner.lean ====
section
/-!
DEFINITION. How an accepted write takes effect (R8, R133 to R137, R335, R336): what the owner of a member
does with the value at its apply point, the apply points themselves, and the writes whose apply points
move when display stops.
-/

namespace Sys2Proof.Machine

/-! ### CLEAR members (R57 and the other object tables) -/

/-- The counters that the CLEAR member of an object zeroes: object, first and last member. -/
def clearedBy (o : Nat) : List (Nat × Nat × Nat) :=
  match o with
  | 0x3002 => [(0x3002, 0x01, 0x0F), (0x3002, 0x11, 0x11)]
  | 0x3802 => [(0x3802, 0x01, 0x0D)]
  | 0x4002 => [(0x4002, 0x01, 0x07)]
  | 0x4802 => [(0x4802, 0x01, 0x07)]
  | 0x5002 => [(0x5002, 0x01, 0x05), (0x5011, 0x04, 0x07)]
  | 0x5802 => [(0x5802, 0x01, 0x09)]
  | 0x6002 => [(0x6002, 0x01, 0x0B), (0x6010, 0x0B, 0x0B), (0x6020, 0x06, 0x07)]
  | 0x6802 => [(0x6802, 0x01, 0x09)]
  | 0x7002 => [(0x7002, 0x01, 0x0C), (0x7010, 0x07, 0x09)]
  | 0x7802 => [(0x7802, 0x01, 0x0E), (0x7810, 0x04, 0x05), (0x7830, 0x02, 0x03)]
  | 0x2002 => [(0x2002, 0x01, 0x07), (0x2010, 0x05, 0x05), (0x2040, 0x02, 0x02)]
  | 0x1011 => [(0x1011, 0x01, 0x08)]
  | 0x9102 => [(0x9102, 0x01, 0x05)]
  | 0x8002 => [(0x8002, 0x01, 0x0C), (0x8020, 0x08, 0x0A)]
  | 0x2802 => [(0x2802, 0x01, 0x03), (0x2802, 0x05, 0x09)]
  | 0x1801 => [(0x1801, 0x01, 0x07)]
  | _ => []

/-- A member lies in one of the ranges. -/
def inRanges (l : List (Nat × Nat × Nat)) (k : Nat) : Bool :=
  l.any fun r => r.1 == keyObject k && decide (r.2.1 ≤ keyMember k) && decide (keyMember k ≤ r.2.2)

/-- The counters of a CLEAR member read 0: their defaults are 0, so no entry is left. -/
def State.clearCounters (s : State) (o : Nat) : State :=
  { s with dict := s.dict.filter fun x => !(inRanges (clearedBy o) x.1) }

/-! ### Flags (R6) -/

/-- The bits of a W1C member that a write may clear: the others clear only by rule. -/
def State.clearable (s : State) (o m : Nat) : Nat :=
  if o = 0x8001 then 0xFC
  else if o = 0x2801 then 0x18
  else if o = 0x1880 then
    (List.range 5).foldl (fun (w : Nat) k => if s.clock.chatter.contains k then w else w + 2 ^ k) 0
  else 2 ^ memberWidth o m - 1

/-- Each 1 written clears the matching flag. -/
def State.ownFlags (s : State) (o e m v : Nat) : State :=
  let cur := s.ve o e m
  s.pute o e m (cur - (cur &&& (v &&& s.clearable o m)))

/-! ### Owners' acts on the timeline's members -/

/-- The scan-out service that the members name (R130 to R132). -/
def State.serviceSet (s : State) : Service :=
  { independent := s.v 0x5000 0x03 == 1, half := s.v 0x5000 0x04, activity := s.v 0x5000 0x05,
    delay := s.v 0x5000 0x06, pattern := s.v 0x5000 0x07 == 1, patKind := s.v 0x5040 0x01,
    patLevel := s.v 0x5040 0x02, patPeriod := s.v 0x5040 0x03 }

/-- A service member takes its value: at the coming nut mark for display, at once while display is
stopped (R131, R136). -/
def State.ownService (s : State) (o m v : Nat) : State :=
  let s1 := s.putKept o 0 m v
  if s1.displayRuns then { s1 with seq := { s1.seq with serviceDue := some s1.serviceSet } }
  else s1.changeService s1.serviceSet

/-- New geometry goes to the panel while the rails are up (R152). -/
def State.configAll (s : State) : State :=
  if s.railsUp then
    ([0, 1].filter fun h => !(s.half h).mapped.isEmpty).foldl (fun (st : State) h => st.sendConfig h) s
  else s

/-- A timing mode is selected (R120, R138, R142, R403): at once while display is stopped; otherwise glide
begins, or its target changes, at the coming nut mark, unless the mode shown is the same. -/
def State.selectMode (s : State) (slot factor : Nat) : State :=
  let new := (s.modeSlot slot).derived factor
  match s.target? with
  | some g =>
    if new = g then
      { s with seq := { s.seq with glideDue := none, factorDue := some factor } }.put 0x5001 0x05 slot
    else { s with seq := { s.seq with glideDue := some (slot, factor) } }
  | none =>
    if new = s.mode then
      { s with seq := { s.seq with glideDue := none, factor := factor } }.put 0x5001 0x04 slot
    else { s with seq := { s.seq with glideDue := some (slot, factor) } }

/-- The owner's act on 5000.01. -/
def State.ownMode (s : State) (v : Nat) : State :=
  let s1 := s.putKept 0x5000 0 0x01 v
  if s1.displayRuns then s1.selectMode v (s1.factorOf v)
  else ((s1.put 0x5001 0x04 v).recomputeReduction).configAll

/-- The owner's act on a member of a mode slot: the slot in force shows it while display is stopped. -/
def State.ownModeSlot (s : State) (n m v : Nat) : State :=
  let s1 := s.putKept 0x5010 n m v
  if n = s1.v 0x5001 0x04 ∧ !s1.displayRuns then s1.recomputeReduction.configAll else s1

/-- The owner's act on 5000.02 (R147). -/
def State.ownRun (s : State) (v : Nat) : State :=
  let s1 := s.putKept 0x5000 0 0x02 v
  if v = 0 then s1.requestStop else s1

/-- The owner's act on 5800.0A (R169, R170). -/
def State.ownDrone (s : State) (v : Nat) : State :=
  let st := s.v 0x5001 0x03
  let s1 := s.put 0x5800 0x0A v
  if v = 1 then
    if st = 4 then s1
    else if st = 0 then s1.droneWheel.beginDrone
    else ({ s1 with seq := { s1.seq with droneDue := true } }).requestStop
  else if st = 4 then s1.endDrone.droneWheelEnds
  else { s1 with seq := { s1.seq with droneDue := false } }

/-- The owner's act on 5800.0F (R165, R167): the rails go up, or down after a park and discharge. -/
def State.ownPower (s : State) (v : Nat) : State :=
  let s1 := s.putKept 0x5800 0 0x0F v
  if v = 1 then s1.railsOn
  else
    let s2 := s1.park [0, 1]
    if (s2.half 0).park = 3 ∧ (s2.half 1).park = 3 ∧ s2.v 0x5801 0x04 / 16 ≠ 0 then s2.railsDown 3 else s2

/-- The owner's act on 8000.06 (R360): the residual holds its present value as the slew changes. -/
def State.ownSlew (s : State) (v : Nat) : State :=
  let s1 := { s with net := { s.net with resid := s.residualAt s.now, residAt := s.now } }
  s1.putKept 0x8000 0 0x06 v

/-! ### What the owner of a member does -/

/-- Members of areas 1000 to 4800 with a behaviour of their own; none for the others. -/
def State.ownLow? (s : State) (master o e m v : Nat) : Option State :=
  match o, m with
  | 0x1000, 0x02 => some (s.ownPath false v)
  | 0x1000, 0x03 => some (s.ownPath true v)
  | 0x1010, 0x01 => some (s.putKept o e m (accessValue v))
  | 0x1020, 0x06 => some (s.abortSlot e false)
  | 0x1890, 0x04 => some s.warmRestart
  | 0x1891, 0x02 => some (s.putKept o e m v).recomputeReduction
  | 0x1891, 0x03 => some (s.putKept o e m v).recomputeReduction
  | 0x2010, 0x02 => some (s.ownRatio e v)
  | 0x2020, 0x01 => some (s.ownGate false e v)
  | 0x2030, 0x01 => some (s.ownGate true e v)
  | 0x2804, 0x0A => some s.ownSdClear
  | 0x2830, 0x01 => some (s.ownCal v)
  | 0x2840, k => some (s.ownCv e k master v)
  | 0x3040, 0x05 => some (s.takeTrigger s.heldTrigger)
  | 0x3500, 0x03 => some (s.emptyCue e)
  | 0x3810, 0x02 => some (s.ownFence dlanes e v)
  | 0x3820, 0x04 => some (s.ownClane e v)
  | 0x4800, 0x05 => some (s.putKept o e m v).recomputeReduction
  | 0x4810, 0x02 => some (s.ownFence engines e v)
  | _, _ => none

/-- Members of areas 5000 to 9100 with a behaviour of their own; none for the others. -/
def State.ownHigh? (s : State) (o e m v : Nat) : Option State :=
  match o, m with
  | 0x5000, 0x01 => some (s.ownMode v)
  | 0x5000, 0x02 => some (s.ownRun v)
  | 0x5000, 0x08 => none
  | 0x5000, 0x09 => none
  | 0x5000, _ => some (s.ownService o m v)
  | 0x5010, _ => some (s.ownModeSlot e m v)
  | 0x5040, _ => some (s.ownService o m v)
  | 0x5800, 0x0A => some (s.ownDrone v)
  | 0x5800, 0x0F => some (s.ownPower v)
  | 0x5800, 0x10 => some s.rearmPanel
  | 0x6000, 0x05 => some s.linReset
  | 0x6800, 0x01 => some ((s.putKept o e m v).ownWheel v)
  | 0x6800, 0x0F => some s.rearmWheel
  | 0x6810, 0x01 => some (s.ownSections e v).showRest
  | 0x6810, 0x08 => some (s.freeLoop e v)
  | 0x6810, 0x09 => some (s.freePreset e v)
  | 0x6820, 0x06 => some (s.ownSecExp e v)
  | 0x7003, 0x01 => some (s.ownPortRate e v)
  | 0x7003, 0x02 => some (s.ownPortEnable e v)
  | 0x7003, 0x03 => some ((s.putKept o e m v).portCheck e)
  | 0x7010, 0x02 => some (s.ownLaneCmd e v)
  | 0x7010, 0x04 => some ((s.putKept o e m v).setReceiver e)
  | 0x7810, 0x02 => some (s.ownBank e v)
  | 0x7820, 0x02 => some (s.ownChannel e v)
  | 0x8000, 0x01 => some ((s.putKept o e m v).relisten [0])
  | 0x8000, 0x02 => some ((s.putKept o e m v).relisten [1])
  | 0x8000, 0x03 => some ((s.putKept o e m v).relisten [0, 1])
  | 0x8000, 0x04 => some (s.ownClass v)
  | 0x8000, 0x06 => some (s.ownSlew v)
  | 0x8000, 0x14 => some s.ownStepNow
  | 0x8020, 0x01 => some (s.ownSpeed e v)
  | 0x9000, 0x02 => some s.startCommit
  | 0x9101, 0x01 => some (s.ownVerify v)
  | 0x9101, 0x02 => some (s.ownSwitch v)
  | _, _ => none

/-- Bytes written to a BLOB member. -/
def State.ownBlob (s : State) (o e m offset : Nat) (data : Bytes) : State :=
  match o with
  | 0x1002 => s.ownKey e data
  | 0x5812 => (s.putBlobKept o e m (spliceBytes (s.blob o e m) offset data)).ownWave e
  | 0x8000 => s.ownGlobal data
  | 0x9100 => s.ownFwImage e offset data
  | _ => s.putBlobKept o e m (spliceBytes (s.blob o e m) offset data)

/-- An accepted value takes effect: the owner of the member acts on it. -/
def State.own (s : State) (master : Nat) (x : Staged) : State :=
  let o := x.object
  let e := x.element
  let m := x.member
  match rowOf o e m with
  | none => s
  | some r =>
    if r.acc = .w1c then s.ownFlags o e m x.value
    else if r.ty = .blob then s.ownBlob o e m x.offset x.data
    else if r.acc = .wo ∧ m = 0x10 ∧ o ≠ 0x5800 then s.clearCounters o
    else
      match (if o < 0x5000 then s.ownLow? master o e m x.value else s.ownHigh? o e m x.value) with
      | some s1 => s1
      | none => s.putKept o e m x.value

/-! ### Apply points (R133 to R136, R336) -/

/-- The frame on display: the old one until its last fret ends (R124). -/
def State.shownFrame (s : State) : Nat :=
  let n := s.v 0x5001 0x01
  if s.seq.overlap then (n + 2 ^ 32 - 1) % 2 ^ 32 else n

/-- The apply point of a class from here on: frame and fret. -/
def State.pointOf (s : State) (cls : Nat) : Nat × Nat :=
  let n := s.v 0x5001 0x01
  let f := s.v 0x5001 0x02
  if !s.displayRuns then (n, 0xFF)
  else match cls with
    | 0 => if f = 255 then (n, 0xFF) else (s.shownFrame, f)
    | 1 =>
      if f = 255 ∨ s.seq.overlap then (n, 0)
      else if f + 1 < s.figures.f then (n, f + 1)
      else ((n + 1) % 2 ^ 32, 0)
    | _ => ((n + if s.seq.frameStart < s.seq.lastLatch then 2 else 1) % 2 ^ 32, 0)

/-- The class that a member's write takes in a commit mode: 0 now, 1 fret, 2 frame (R8, R335). -/
def classIn (mode : Nat) (r : MemberRow) : Nat :=
  let c := r.cls
  if mode = 2 then 2 else if mode = 1 ∧ c = 0 then 1 else c

/-- Two waiting values for one member and one apply point, of which one stands (R8); flags, write-only
members and the parts of a BLOB each act. -/
def replaces (r : MemberRow) (p q : Pending) : Bool :=
  !(r.acc == .wo || r.acc == .w1c || r.ty == .blob) && p.object == q.object && p.element == q.element &&
  p.member == q.member && p.cls == q.cls && p.frame == q.frame

/-- A waiting value was written after another in the sequence order of one session (R8). Requests of
different sessions have no common sequence: there the order of delivery stands for it, and a chord's
values carry the sequence of its COMMIT (DEDUCED, log entry 93). -/
def Pending.laterThan (q p : Pending) : Bool :=
  match q.origin, p.origin with
  | some (a, m), some (b, n) => q.master == p.master && a == b && decide (n < m)
  | _, _ => false

/-- A value waits for its apply point; of two values for one member and one apply point, the one written
later stands (R8). -/
def State.await (s : State) (r : MemberRow) (p : Pending) : State :=
  if s.seq.pend.any fun q => replaces r p q && q.laterThan p then s
  else { s with seq := { s.seq with pend := (s.seq.pend.filter fun q => !(replaces r p q)) ++ [p] } }

/-- An accepted item goes to its owner: at once, or to wait for its apply point, which is answered. The
origin is the session and the sequence of the request that brought it. -/
def State.deliver (s : State) (mode master : Nat) (origin chord : Option (Nat × Nat)) (x : Staged) :
    (Nat × Nat) × State :=
  match rowOf x.object x.element x.member with
  | none => ((0xFFFFFFFF, 0xFF), s)
  | some r =>
    let cls := classIn mode r
    let pt := s.pointOf cls
    if cls = 0 ∨ !s.displayRuns then (pt, s.own master x)
    else
      let p : Pending := { object := x.object, element := x.element, member := x.member,
                           value := x.value, data := x.data, offset := x.offset, cls := cls,
                           frame := pt.1, master := master, chord := chord, origin := origin }
      (pt, s.await r p)

/-- The member of an item is write-only. -/
def Staged.isWo (x : Staged) : Bool :=
  match rowOf x.object x.element x.member with
  | some r => r.acc == .wo
  | none => false

/-- Items take effect in one step: value members first, then write-only members in their order (R335). -/
def State.ownAll (s : State) (l : List Pending) : State :=
  let act := fun (st : State) (p : Pending) => st.own p.master p.item
  (l.filter fun p => p.item.isWo).foldl act ((l.filter fun p => !p.item.isWo).foldl act s)

/-- Every waiting item of a class takes effect (R133, R134). -/
def State.applyClass (s : State) (cls : Nat) : State :=
  let l := s.seq.pend.filter fun (p : Pending) => p.cls == cls
  ({ s with seq := { s.seq with pend := s.seq.pend.filter fun (p : Pending) => p.cls != cls } }).ownAll l

/-- A member whose value acts on what is displayed or emitted: skipping and forced rows, bands and their
tables, the emission enable, the pluck position and the leads. The members of 5000 and 5040 do so through
the service and the mode that take effect at the nut mark. -/
def displayedMember (o m : Nat) : Bool :=
  match o with
  | 0x5800 => m == 0x08 || m == 0x09
  | 0x5810 => true
  | 0x5811 => true
  | 0x6000 => m == 0x01 || m == 0x02
  | 0x6010 => true
  | _ => false

/-- The frame-class values take effect at the latch point, but for those that act on what is displayed:
these wait for the nut mark (R133). -/
def State.selectFrame (s : State) : State :=
  let l := s.seq.pend.filter fun (p : Pending) => p.cls == 2
  let shows := fun (p : Pending) => displayedMember p.object p.member
  ({ s with seq := { s.seq with
      pend := s.seq.pend.filter fun (p : Pending) => p.cls != 2,
      nutPend := s.seq.nutPend ++ l.filter shows } }).ownAll (l.filter fun p => !(shows p))

/-- The values that waited for the nut mark take effect (R133). -/
def State.showFrame (s : State) : State :=
  ({ s with seq := { s.seq with nutPend := [] } }).ownAll s.seq.nutPend

/-! ### Display has stopped (R136) -/

/-- The points part of a commit REPLY or APPLIED message (R336). -/
def pointBytes (first last : Nat × Nat) (fail : Nat) : Bytes :=
  beBytes 4 first.1 ++ beBytes 1 first.2 ++ beBytes 4 last.1 ++ beBytes 1 last.2 ++ beBytes 2 fail

/-- APPLIED goes to the session of a chord if it is still open (R136, R338). -/
def State.sendApplied (s : State) (master session seq code : Nat) (pts : Bytes) : State :=
  match s.session? master with
  | some x => if x.id = session then (s.sendIn master 13 (beBytes 4 seq ++ beBytes 2 code ++ pts)).2 else s
  | none => s

/-- Once display no longer runs, whatever waits takes effect in one step, and chords whose apply points
moved report it (R136); a mode change to come, drone mode to come and a pending step of wall time are
settled (R169, R361). -/
def State.settle (s : State) : State :=
  if s.displayRuns then s
  else
    let l := s.seq.pend
    let sf := s.showFrame
    let s0 := if sf.seq.droneDue then sf.put 0x5800 0x0A 0 else sf
    let s1 := ({ s0 with seq := { s0.seq with pend := [], droneDue := false } }).ownAll l
    let s2 := if s1.seq.serviceDue.isSome then
        let y := { s1 with seq := { s1.seq with serviceDue := none } }
        if y.serviceSet = y.seq.service then y else y.changeService y.serviceSet
      else s1
    let here := (s2.v 0x5001 0x01, 0xFF)
    let chords := (l.filterMap fun (p : Pending) => p.chord.map fun c => (p.master, c)).eraseDups
    let s3 := chords.foldl (fun (st : State) c =>
      st.sendApplied c.1 c.2.1 c.2.2 0 (pointBytes here here 0xFFFF)) s2
    if s3.net.stepTo.isSome then s3.judgeWall else s3

end Sys2Proof.Machine
end

