-- ==== Sys2Proof/Machine/Timeline.lean ====
section
/-!
DEFINITION. The timeline (06): fret boundaries and slots (R16 to R19, R123, R134), the freeze detector
(R143 to R146), the decisions of the latch point (R23, R52, R53, R55, R133), nut marks (R123, R124, R439),
glide (R138 to R142), and display start and stop (R147, R395).
-/

namespace Sys2Proof.Machine

/-! ### Freeze detector (R143 to R145) -/

/-- The 5 bytes of a band's tag: 0xFF where nothing has been committed since display started (R143). -/
def tagBytes (tags : List Tag) (b : Nat) : Bytes :=
  match tags.find? fun (u : Tag) => u.band == b with
  | some u => beBytes 4 u.frame ++ beBytes 1 u.fret
  | none => List.replicate 5 0xFF#8

/-- A row of a half of the image that a slot showed, in the copy of the fret (R105, R127). -/
def State.shownRow (s : State) (h f j r : Nat) : Bytes :=
  let m := s.mode
  let c := slotColour f j
  let k := slotBit f j
  if s.patterned h then s.seq.service.row m h c k r
  else mreads s.shownCopy.bytes (((10 * c + k) * m.v + r) * m.rowBytes + h * (m.hb / 8)) (m.hb / 8)

/-- The slots of the fret whose reset took place on a half (R143). -/
def State.shownSlots (s : State) (h : Nat) : List Nat := if h = 0 then s.seq.shownA else s.seq.shownB

/-- The signature of a half over the slots that the fret showed (R143). -/
def State.signature (s : State) (h f : Nat) : Nat :=
  let tags := if s.patterned h then [] else s.shownCopy.tags
  crc32c (((List.range s.mode.bands).flatMap (tagBytes tags)) ++
    (s.shownSlots h).flatMap fun j => (List.range s.mode.v).flatMap fun r => s.shownRow h f j r)

/-- A band of the copy shown carries a tag other than that of the fret, and was not reported late
(R144, reason 2). -/
def State.staleBand (s : State) (n f : Nat) : Bool :=
  (List.range s.mode.bands).any fun b =>
    !(s.shownCopy.tags.any fun (u : Tag) => u.band == b && u.frame == n && u.fret == f) &&
    !(s.ray.late.any fun (u : Tag) => u.band == b && u.frame == n && u.fret == f)

/-- An engine reports a freeze for one reason, once in a fret: its count, the event, the count of the fret in
5002.05 with its first reason, and the log entry of the first in a frame (R144). Two clean frets must follow
(R145). -/
def State.freeze (s : State) (n h : Nat) (x : Nat) : State :=
  if s.seq.found.contains (h, x) then s
  else
    let s0 := if s.seq.found.any fun r => r.1 == h then s else s.inc 0x5002 0x05
    let s1 := (s0.ince 0x5011 h (3 + x)).event 0x5011 h (3 + x) x
    let logged := if h = 0 then s.seq.frozeLoggedA else s.seq.frozeLoggedB
    let s2 := if logged then s1 else
      s1.log { dom := domNone, idx := 0, level := 0, sev := 1, object := 0x5011, element := h,
               member := 3 + x, cause := x, d1 := n, d2 := h }
    { s2 with seq := { s2.seq with
        found := (h, x) :: s2.seq.found, frozeNow := true, cleanFrets := 0,
        frozeLoggedA := s2.seq.frozeLoggedA || h == 0,
        frozeLoggedB := s2.seq.frozeLoggedB || h == 1 } }

/-- The reasons that engine `h` finds in the fret that ends, with its new signature (R144). Reasons 1
and 2 are not tested while it shows a pattern or its half is serviced; a serviced half's detector has its
timing check alone (R130). -/
def State.freezeReasons (s : State) (h n f sig : Nat) : List Nat :=
  let tested := !(s.patterned h) && !(s.serviced h)
  let signed := if h = 0 then s.seq.signedA else s.seq.signedB
  let committed := !(s.shownCopy.tags.isEmpty)
  let timing := s.target?.isNone && (s.seq.slots != 30 || s.seq.odd)
  (if tested && signed && s.ve 0x5011 h 1 == sig && (committed || s.seq.prevCommitted) then [1] else []) ++
  (if tested && s.staleBand n f then [2] else []) ++ (if timing then [3] else []) ++
  (if !(s.serviced h) && s.ingress.sel != s.ingress.named then [4] else [])

/-- One engine signs and judges the fret (R143, R144). -/
def State.signHalf (n f : Nat) (s : State) (h : Nat) : State :=
  let sig := s.signature h f
  let rs := s.freezeReasons h n f sig
  let s1 := (((s.pute 0x5011 h 1 sig).pute 0x5011 h 2 n).pute 0x5011 h 3 f)
  rs.foldl (fun (st : State) x => st.freeze n h x) s1

/-- A displayed fret ends: both engines sign and judge it (R143 to R145). -/
def State.finishFret (s : State) : State :=
  let n := s.shownFrame
  let f := s.v 0x5001 0x02
  let committed := !(s.shownCopy.tags.isEmpty)
  let s1 := [0, 1].foldl (State.signHalf n f) s
  { s1 with
    seq := { s1.seq with
      cleanFrets := if s1.seq.frozeNow then 0 else s1.seq.cleanFrets + 1,
      signedA := true, signedB := true, prevCommitted := committed },
    ray := { s1.ray with late := s1.ray.late.filter fun (u : Tag) => !(u.frame == n && u.fret == f) } }

/-- FRET_BOUNDARY_OVERDUE (R142, R144, reason 3): on the root clock, while the timeline runs and outside
glide. -/
def State.doOverdue (s : State) : State :=
  if s.seq.running && s.target?.isNone then
    [0, 1].foldl (fun (st : State) h => st.freeze s.shownFrame h 3) s
  else s

/-! ### Fret boundaries and slots (R18 to R22, R134, R140, R145) -/

/-- The fret that the next boundary begins: fret 0 from the nut gap, else the one after (R16). -/
def State.nextFret (s : State) : Nat := if s.seq.inGap then 0 else s.v 0x5001 0x02 + 1

/-- A fret in glide is cut: its slot in progress ends, later ones are not shown, and its pluck ends
(R140). -/
def State.cutFret (s : State) : State :=
  let s1 := (((s.inc 0x5002 0x02).cutSamples (List.range 16)).emits (allStrings.map Output.gateDark))
  let s2 := ([0, 1].filter s1.loading).foldl (fun (st : State) h => st.closeLoad h []) s1
  { s2 with seq := { s2.seq with cut := true } }

/-- Freeze blanking begins at the boundary after a freeze, and ends at the one after two clean frets
(R145). -/
def State.freezeBlanking (s : State) : State :=
  let on := if s.seq.frozeNow ∧ s.v 0x5000 0x08 = 1 then true
    else if 2 ≤ s.seq.cleanFrets then false
    else s.bridge.freezeBlank
  { s with bridge := { s.bridge with freezeBlank := on }, seq := { s.seq with frozeNow := false } }

/-- A fret begins (R16, R21, R72, R116, R134, R145, R161, R189, R199, R268): the copies alternate, units that
wait to be fenced are, fret-class values apply, and the synthesis window of the next fret opens. -/
def State.fretBegin (s : State) : State :=
  let f := s.nextFret
  let s1 := if s.seq.inGap then s else s.finishFret
  let early := !s.seq.inGap && s.target?.isSome && decide (s.now < s.seq.fretStart + s.figures.fretPeriod)
  let s2 := (if early then s1.cutFret else s1).freezeBlanking
  let s3 : State := { s2 with seq := { s2.seq with
    copySel := 1 - s2.seq.copySel, fret := f, fretStart := s2.now, inGap := false, slot := 0, slots := 0,
    shownA := [], shownB := [], found := [], odd := false } }
  let sf := ((((s3.put 0x5001 0x02 f).applyFences).applyClass 1).retireBanks.fretPanel).fretBridge
  let s4 := if f = 0 then sf.calRamps else sf
  if f + 1 < s4.figures.f then s4.openWindow (s4.v 0x5001 0x01) (f + 1) else s4

/-- The measured position has reached the edge of the next fret in glide (R140, R213). -/
def State.edgeReached (s : State) : Bool :=
  decide ((s.figures.fretEdge s.nextFret (s.encCounts * 65536) : Int) ≤ s.position)

/-- FRET_BOUNDARY and GLIDE_FRET_EDGE: the boundary that comes next, outside glide, or in it once the
wheel has reached its place (R140). -/
def State.doFret (s : State) (glide : Bool) : State :=
  if s.seq.running && !s.seq.overlap && s.target?.isSome == glide &&
      decide (s.nextFret < s.figures.f) && (!glide || s.edgeReached) then
    s.fretBegin.settle
  else s

/-- PLANE_SLOT_START (R18, R19, R125, R127, R143, R153, R175): the reset latches the plane on every half whose
resets take place, the load of the next one begins, and the bridge learns the slot's plane. -/
def State.doSlot (s : State) (ecc : List Ecc) : State :=
  let j := s.seq.slots
  if s.seq.running && !s.seq.inGap && decide (j < 30) then
    let f := s.v 0x5001 0x02
    let odd := s.target?.isNone && s.now != s.seq.fretStart + s.figures.slotStart j
    let s1 : State := { s with seq := { s.seq with
      slot := j, slots := j + 1, odd := s.seq.odd || odd,
      shownA := if s.latching 0 then s.seq.shownA ++ [j] else s.seq.shownA,
      shownB := if s.latching 1 then s.seq.shownB ++ [j] else s.seq.shownB } }
    (((s1.eccAll ecc).slotResets).slotLoad f j ecc).slotBridge f j
  else s

/-- SYNTHESIS_DEADLINE (R19, R20): the work for the fret that comes is over; before fret 0 of a frame the
load of its plane 0 begins then. -/
def State.doSynthesisDeadline (s : State) : State :=
  let s1 := s.doDeadline
  if s1.seq.running && s1.seq.inGap then s1.loadPlane (1 - s1.seq.copySel) 0 0 [] else s1

/-! ### Admission (R23, R52, R53) -/

/-- 1.5 µs in 2^-16 ns (R53). -/
def dueWithin : Int := 1500 * 65536

/-- The lateness k of a presentation time at Bn in frame periods, none when it is not yet due (R52, R53).
Without wall time nothing is due (DEDUCED, log entry 18). -/
def State.lateness (s : State) (tp : Nat) (bn : Option Int) : Option Nat :=
  match bn with
  | none => none
  | some b =>
    let d := b - unitsOfTime tp
    if -dueWithin ≤ d ∧ d ≤ dueWithin then some 0
    else if d < 0 then none
    else some (d * 5 / (s.figures.frame * 65536)).toNat

/-- The stores swap (R23). -/
def State.swapStores (s : State) : State :=
  let s1 := s.leaveNext
  { s1 with ingress := { s1.ingress with sel := 1 - s1.ingress.sel } }

/-- The next frame's treatment at a latch point (R52): the decision, 0 swap or 1 repeat. -/
def State.takeFrame (s : State) (bn : Option Int) : Nat × State :=
  let f := s.nextStore
  match f.number with
  | none => (1, s)
  | some n =>
    let complete := s.frameComplete f && !s.ingress.spillCopy
    let partial_ := s.v 0x3000 0x05 == 1 && f.header.isSome && f.close.isSome && !s.ingress.spillCopy
    if !complete && !partial_ then (1, s.inc 0x3002 0x0D)
    else
      match s.lateness (match f.header with | some h => h.tp | none => 0) bn with
      | none => (1, s)
      | some k =>
        if s.v 0x3000 0x04 < k then (1, (s.passOver n).releaseNext)
        else
          let s1 := if 1 ≤ k then s.inc 0x3002 0x0B else s
          let s2 := if complete then s1 else s1.inc 0x3002 0x0D
          let s3 := s2.swapStores
          (0, ({ s3 with ingress := { s3.ingress with cutoff := some n } }).releaseNext)

/-! ### Replays at a latch point (R55, R56) -/

/-- A waiting trigger replaces the replay as the next store is released. -/
def State.replaceReplay (s : State) (g : Trigger) : State :=
  ((({ s with ingress := { s.ingress with trigger := none } }).put 0x3041 0x03 0).showReplay true).startStep
    { trig := g, step := 0, copied := false, ending := false, spoiled := false }

/-- What follows a step: a waiting trigger, the end of the replay, or the next step's copy. -/
def State.afterStep (s : State) (r : Replay) (done : Bool) : State :=
  match s.ingress.trigger with
  | some g => s.replaceReplay g
  | none => if r.ending || done then s.endReplay else s.startStep r

/-- The latch point of an active replay (R55): the decision. Before step 0 is due no store is released, so a
waiting trigger goes on waiting. 3041.03 past its width shows a free value, as every count does (log entry
4). -/
def State.replayLatch (s : State) (r : Replay) (bn : Option Int) : Nat × State :=
  let due := match bn with
    | some b => decide (unitsOfTime r.trig.start ≤ b)
    | none => false
  if r.step = 0 ∧ !due then
    (1, if r.ending then s.afterStep r true else s)
  else
    let f := s.nextStore
    let ok := f.cue == some r.cue && s.frameComplete f && r.copied && !r.spoiled
    let s1 := if ok then s.swapStores else s.inc 0x3002 0x0D
    let next : Replay := { r with step := r.step + 1 }
    let loop := next.step % r.trig.count = 0
    let s2 := if loop then s1.inc 0x3041 0x03 else s1
    let done := decide (r.trig.loops ≠ 0 ∧ r.trig.loops * r.trig.count ≤ next.step)
    (if ok then 0 else 1, s2.afterStep next done)

/-- The decision of R23 with the wall time Bn of the coming nut mark: an unfinished composition is
counted (R93), then the replay or the next frame is judged, and a waiting trigger may become active
(R55). -/
def State.judgeNext (s : State) (bn : Option Int) : Nat × State :=
  let f := s.nextStore
  let s0 := if f.counted && !(s.frameComplete f) then s.inc 0x4002 0x06 else s
  match s0.ingress.replay with
  | some r => s0.replayLatch r bn
  | none =>
    let (k, s1) := s0.takeFrame bn
    match s1.ingress.trigger, bn with
    | some g, some b =>
      if unitsOfTime g.start ≤ b + cyclesToUnits s1.figures.frame 0 then (k, s1.activateReplay g) else (k, s1)
    | _, _ => (k, s1)

/-! ### The latch point (R133, R138, R141, R146, R403) -/

/-- The run of intended repeats (R146). -/
def State.countRepeat (s : State) (d : Nat) : State :=
  if d = 0 then s.put 0x5001 0x08 0
  else
    let s1 := s.inc 0x5001 0x08
    if s1.v 0x5001 0x08 = s.v 0x5000 0x09 ∧ s.v 0x5000 0x09 ≠ 0 then
      (s1.inc 0x5002 0x04).event 0x5002 0 0x04 0
    else s1

/-- A change of h while display runs is a change of timing mode (R403). -/
def State.reductionChange (s : State) : State :=
  if s.seq.glideDue.isSome ∨ s.v 0x5001 0x03 = 5 then s
  else
    let slot := if s.v 0x5001 0x05 = 255 then s.v 0x5001 0x04 else s.v 0x5001 0x05
    s.selectMode slot (s.factorOf slot)

/-- The figures of the coming frame (R111, R140, R141). -/
def State.comingMode (s : State) : Mode :=
  match s.seq.glideDue with
  | some (slot, k) =>
    let g := (s.modeSlot slot).derived k
    match s.target? with
    | some old => g.scheduled [old] s.leftMode
    | none => g.scheduled [] s.mode
  | none => if s.seq.ending then s.target?.getD s.mode else s.figures

/-- The coming nut mark is predicted, or the glide of a missing prediction may begin (R138, R226). -/
def State.foreseeNut (s : State) : State :=
  let p := match s.prediction with
    | some c => if (s.now : Int) < c then some c.toNat else none
    | none => none
  let s1 : State := { s with seq := { s.seq with
    nextNut := p, glideWait := if p.isNone && s.target?.isNone then 1 else 0 } }
  match p with
  | some c => s1.put 0x6801 0x0A (c - s1.seq.frameStart)
  | none => s1

/-- LATCH_POINT: display of fret F − 1 begins (R133). Frame-class values are selected first, those that
act on what is displayed for the coming nut mark; then follow the decision of R23, the throttle step of R372
and the choice of R111, and the synthesis of fret 0 of the next frame begins. -/
def State.doLatchPoint (s : State) : State :=
  if s.seq.running && !s.seq.overlap && !s.seq.inGap && s.v 0x5001 0x02 + 1 == s.figures.f &&
      decide (s.seq.lastLatch ≤ s.seq.frameStart) then
    let s1 := ({ s with seq := { s.seq with lastLatch := s.now } }).put 0x5001 0x09 s.wallTime
    let s2 := s1.selectFrame.reductionChange
    let ending := s2.target?.isSome && s2.v 0x5001 0x06 == 8 && s2.seq.glideDue.isNone &&
      s2.v 0x5001 0x03 != 5
    let central := s2.seq.glideDue.isSome || (s2.target?.isSome && !ending)
    let s3 := ({ s2 with seq := { s2.seq with ending := ending } }).throttleStep
    let s4 := s3.foreseeNut
    let (d, s5) := s4.judgeNext (s4.wallAt? (s4.seq.nextNut.getD (s4.now + s4.figures.fretPeriod)))
    let s6 := (s5.put 0x5001 0x07 d).countRepeat d
    let s7 : State := { s6 with ingress := { s6.ingress with named := s6.ingress.sel } }
    (((s7.chooseViews s7.comingMode central).openWindow ((s7.v 0x5001 0x01 + 1) % 2 ^ 32) 0)).settle
  else s

/-! ### Nut marks (R123, R124, R138 to R142, R147, R439) -/

/-- The device frame number advances (R439). -/
def State.advanceFrame (s : State) : State :=
  ({ s with seq := { s.seq with lastAdvance := s.now } }).put 0x5001 0x01 ((s.v 0x5001 0x01 + 1) % 2 ^ 32)

/-- Every row hash of both halves is invalid: the timing mode changes (R159). -/
def State.forgetHashes (s : State) : State := [0, 1].foldl State.dropAllHashes s

/-- Glide begins under a case of R138, with a mode slot and factor as its target; a calibration ends
(R386). A mode change that waits for the nut mark still waits. -/
def State.beginGlide (s : State) (slot k cause : Nat) : State :=
  let s1 : State := { s with seq := { s.seq with
    glideFrom := s.v 0x5001 0x04, factorDue := some k, glideVia := [], ending := false, glideWait := 0,
    cut := false } }
  let s2 := (((s1.put 0x5001 0x05 slot).put 0x5001 0x06 0).inc 0x5002 0x01).calEnd
  let s3 := if s2.v 0x5001 0x03 = 5 then s2 else s2.put 0x5001 0x03 3
  if 2 ≤ cause then (s3.inc 0x5002 0x03).glideWheel true
  else s3.forgetHashes.glideWheel false

/-- The target of the glide in progress is replaced, and its count restarts (R142); the wheel ramps to the new
target, where it had reached the old one again (R223, R236). -/
def State.retarget (s : State) (slot k : Nat) : State :=
  let s1 : State := { s with seq := { s.seq with
    glideVia := [(s.v 0x5001 0x05, s.seq.factorDue.getD s.seq.factor)],
    factorDue := some k, ending := false } }
  (((s1.put 0x5001 0x05 slot).put 0x5001 0x06 0).forgetHashes).glideWheel false

/-- Glide ends: the target mode is in force (R141); where it is another mode, CONFIG is sent and the row
hashes are invalid (R152, R159). -/
def State.endGlide (s : State) : State :=
  let s1 : State := { s with seq := { s.seq with
    factor := s.seq.factorDue.getD s.seq.factor, factorDue := none, glideVia := [], ending := false } }
  let s2 := ((s1.put 0x5001 0x04 (s.v 0x5001 0x05)).put 0x5001 0x05 255).put 0x5001 0x06 0
  let s3 := (s2.put 0x5001 0x03 (if s2.b 0x6801 0x05 then 2 else 1)).recomputeReduction
  if s3.mode = s.mode then s3 else s3.forgetHashes.configAll

/-- Display stops at a nut mark (R136, R147, R169, R231): a panel that has not parked yet parks unless drone
mode follows, what waits takes effect, then drone mode or braking begins. -/
def State.stopAtNut (s : State) : State :=
  let drone := s.seq.droneDue
  let brake := s.loop.brakeDue
  let s1 := s.endTimeline
  let s2 := (if drone then s1 else s1.park [0, 1]).calFinish
  let s3 := ({ s2 with seq := { s2.seq with droneDue := false } }).settle
  let s4 :=
    if !drone then s3
    else if s3.panel.faulted then s3.put 0x5800 0x0A 0
    else s3.droneWheel.beginDrone
  if brake then s4.brake else s4

/-- The first nut mark after lock has been achieved: display is in the running state (R395). -/
def State.enterRunning (s : State) : State :=
  if s.v 0x5001 0x03 = 1 ∧ s.b 0x6801 0x05 then
    let s1 := s.put 0x5001 0x03 2
    if s1.v 0x1890 0x03 = 0 then
      let ms := (s1.now - s1.clock.t0) / msCycles
      if ms < 2 ^ 32 then s1.put 0x1890 0x03 ms
      else
        let (f, x) := s1.draw (2 ^ 32)
        x.put 0x1890 0x03 f
    else s1
  else s

/-- A glide or a new target that was selected begins (R138, R142). -/
def State.startGlide (s : State) : State :=
  match s.seq.glideDue with
  | none => s
  | some (slot, k) =>
    let s1 : State := { s with seq := { s.seq with glideDue := none } }
    if s1.target?.isSome then s1.retarget slot k else s1.beginGlide slot k 1

/-- A glide for want of a prediction whose measured nut mark came before the end of fret F - 1 begins (R124,
R138). -/
def State.waitedGlide (s : State) : State :=
  if s.seq.glideWait = 2 then s.beginGlide (s.v 0x5001 0x04) s.seq.factor 3 else s

/-- What a nut mark does to everything displayed, latched or emitted (R124, R131, R133, R138): frame-class
values that were selected for it act, and glide ends or begins. -/
def State.nutActions (s : State) : State :=
  let s1 := if s.seq.ending && s.seq.glideDue.isNone && s.v 0x5001 0x03 != 5 then s.endGlide else s
  let s2 : State := { s1.put 0x5001 0x02 255 with
    seq := { s1.seq with inGap := true, slot := 0, slots := 0, shownA := [], shownB := [],
                         overlap := false, frozeLoggedA := false, frozeLoggedB := false },
    bridge := { s1.bridge with window := none } }
  if s2.v 0x5001 0x03 = 5 then s2.judgePilots.stopAtNut
  else
    let s3 := s2.judgePilots.showFrame.waitedGlide.startGlide.enterRunning
    let s4 := match s3.seq.serviceDue with
      | some v => ({ s3 with seq := { s3.seq with serviceDue := none } }).changeService v
      | none => s3
    s4.nutPanel.calNut

/-- NUT_MARK: a frame of the timeline begins (R16, R123, R439). One that comes before fret F − 1 has ended
leaves what is displayed to the end of that fret (R124). -/
def State.doNutMark (s0 : State) : State :=
  let s := s0.stopPark
  if s.seq.running && !s.seq.overlap then
    let early := !s.seq.inGap && decide (s.now < s.seq.fretStart + s.figures.fretPeriod)
    let s1 := if early || s.seq.inGap then s else s.finishFret
    let s2 := s1.advanceFrame
    let s3 : State := { s2 with seq := { s2.seq with frameStart := s2.now, nextNut := none, overlap := early } }
    if early then s3 else s3.nutActions.settle
  else s

/-- FRET_F_MINUS_1_END (R124): fret F − 1 of the old frame ends after an early nut mark. -/
def State.doLastFretEnd (s0 : State) : State :=
  let s := s0.stopPark
  if s.seq.running && s.seq.overlap then
    let s1 := s.finishFret
    ({ s1 with seq := { s1.seq with overlap := false } }).nutActions.settle
  else s

/-- The sequencer's part of a measured nut mark while the timeline does not run, in drone mode too (R156,
R439). -/
def State.restNut (s : State) : State :=
  let half := (s.modeSlot (s.v 0x5001 0x04)).frame / 2
  let held := s.seq.ended && decide (s.now ≤ s.seq.lastAdvance + half)
  let s1 : State := { s with seq := { s.seq with ended := false } }
  let s2 := if held then s1 else s1.advanceFrame
  if s2.railsUp ∧ !s2.panel.faulted then
    ([0, 1].filter fun h => !(s2.half h).mapped.isEmpty).foldl State.remap s2
  else s2

/-- The count of R141 in glide. -/
def State.countRev (s : State) (g : Mode) : State :=
  match s.loop.rev with
  | none => s
  | some rev =>
    let inside := 1000 * ((rev : Int) - g.frame).natAbs ≤ g.frame
    s.put 0x5001 0x06 (if inside then min 8 (s.v 0x5001 0x06 + 1) else 0)

/-- Fret F - 1 of the old frame has not ended (R124). -/
def State.fretRuns (s : State) : Bool :=
  s.seq.overlap || (!s.seq.inGap && decide (s.now < s.seq.fretStart + s.figures.fretPeriod))

/-- MEASURED_NUT_MARK: the encoder's part, then the sequencer's (R138 to R141, R214, R439). A glide under the
third case of R138 waits for the end of fret F - 1 (R124). -/
def State.doMeasuredNut (s : State) : State :=
  let (out, s1) := s.wheelNut
  let st := s1.v 0x5001 0x03
  if !s1.seq.running then s1.restNut.settle
  else
    match s1.target? with
    | some g => (s1.countRev g).settle
    | none =>
      if st = 1 ∨ st = 2 then
        if out then (s1.beginGlide (s1.v 0x5001 0x04) s1.seq.factor 2).settle
        else if s1.seq.glideWait ≠ 1 then s1.settle
        else if s1.fretRuns then ({ s1 with seq := { s1.seq with glideWait := 2 } }).settle
        else (s1.beginGlide (s1.v 0x5001 0x04) s1.seq.factor 3).settle
      else s1.settle

/-! ### Display starts (R147, R395, R403, R439) -/

/-- What the timeline holds at its start. Copy 1 of the fret output buffer counts as shown, so that fret 0 and
with it every even fret takes copy 0 (DESIGN CHOICE, log entry 89: R21 does not say which). -/
def State.freshTimeline (s : State) : State :=
  { s with
    seq := { s.seq with
      running := true, frameStart := s.now, nextNut := none, fret := 0, fretStart := 0, inGap := true,
      slot := 0, slots := 0, shownA := [], shownB := [], found := [], overlap := false, copySel := 1,
      stopDue := false, stopLit := false, nutPend := [], glideWait := 0, glideDue := none, glideVia := [],
      ending := false, factorDue := none, frozeLoggedA := false,
      frozeLoggedB := false, prevCommitted := false, signedA := false, signedB := false, lastLatch := 0,
      ended := false, cut := false, odd := false },
    ray := { s.ray with copy0 := FretCopy.dark, copy1 := FretCopy.dark, late := [] },
    loop := { s.loop with lockWait := true } }

/-- DISPLAY_START_POINT: the first predicted nut mark at which the start conditions hold (R147, R395). It
stands in for a latch point. After drone mode the short form runs on both halves (R170), and receivers that
sleep in display go to sleep (R263). -/
def State.doDisplayStart (s : State) : State :=
  if s.canStart then
    let slot := s.v 0x5000 0x01
    let counted := !s.seq.ended && s.seq.lastAdvance != 0 &&
      decide (s.now ≤ s.seq.lastAdvance + (s.modeSlot slot).frame / 2)
    let s1 := (if counted then s else s.advanceFrame).freshTimeline.forgetPilots
    let k := s1.factorOf slot
    let s2 := (({ s1 with seq := { s1.seq with factor := k } }).put 0x5001 0x04 slot).put 0x5001 0x03 1
    let s3 := (((s2.put 0x6801 0x05 0).releaseAll 3).recomputeReduction)
    let (_, s4) := s3.judgeNext (s3.wallAt? s3.now)
    let s5 := (s4.put 0x5001 0x07 2).put 0x5001 0x08 0
    let s6 : State := { s5 with ingress := { s5.ingress with named := s5.ingress.sel } }
    let s7 := (s6.chooseViews s6.mode false).openWindow (s6.v 0x5001 0x01) 0
    let s8 := ([0, 1].filter fun h => (s7.half h).short && !(s7.half h).lack &&
        ((s7.half h).park == 0 || s7.showing h)).foldl
      (fun (st : State) h =>
        let x := st.startClear h shortForm
        x.putHalf h { x.half h with joined := true }) s7
    s8.nutPanel.setReceivers
  else s

/-! ### Meanings -/

/-- LATCH_POINT (R133). -/
def execLatchPoint (t : Nat) (s : State) : Result := .next (s.enter t).doLatchPoint

/-- NUT_MARK (R16, R123, R124). -/
def execNutMark (t : Nat) (s : State) : Result := .next (s.enter t).doNutMark

/-- FRET_BOUNDARY (R134). -/
def execFretBoundary (t : Nat) (s : State) : Result := .next ((s.enter t).doFret false)

/-- GLIDE_FRET_EDGE (R140). -/
def execGlideFretEdge (t : Nat) (s : State) : Result := .next ((s.enter t).doFret true)

/-- PLANE_SLOT_START (R18). -/
def execPlaneSlotStart (t : Nat) (ecc : List Ecc) (s : State) : Result :=
  guarded (eccOk ecc) ((s.enter t).doSlot ecc)

/-- SYNTHESIS_DEADLINE (R20, R22, R70, R115). -/
def execSynthesisDeadline (t : Nat) (s : State) : Result := .next (s.enter t).doSynthesisDeadline

/-- DISPLAY_START_POINT (R147). -/
def execDisplayStartPoint (t : Nat) (s : State) : Result := .next (s.enter t).doDisplayStart

/-- MEASURED_NUT_MARK (R214). -/
def execMeasuredNutMark (t : Nat) (s : State) : Result := .next (s.enter t).doMeasuredNut

/-- FRET_BOUNDARY_OVERDUE (R144). -/
def execFretBoundaryOverdue (t : Nat) (s : State) : Result := .next (s.enter t).doOverdue

/-- FRET_F_MINUS_1_END (R124). -/
def execFretFMinus1End (t : Nat) (s : State) : Result := .next (s.enter t).doLastFretEnd

end Sys2Proof.Machine
end

