-- ==== Sys2Proof/Machine/Faults.lean ====
section
/-!
DEFINITION. Faults that cross chapters: loss of HCLK and PLL slips (R296, R309, R312), PFAIL_N and the
rails (R316, R412), island errors and restarts (R404 to R406), DRAM requests and re-trains (R287 to
R289), the thermal evaluation (R367), and the panel's faults, which end drone mode (R167).
-/

namespace Sys2Proof.Machine

/-! ### Loss of HCLK (R296, R309, R312) -/

/-- What a loss is recorded as: a flag bit of 2001.02, a counter of 2002, and a fatal log entry (R409). -/
def State.lossNoted (s : State) (slip : Bool) : State :=
  let m := if slip then 0x02 else 0x01
  let s1 : State := { s with clock := { s.clock with
    hclk := slip && s.clock.hclk, locked := false, qualified := false } }
  ((s1.putBit 0x2001 0x02 (if slip then 1 else 0) true).inc 0x2002 m).log (noteSpec 2 0x2002 0 m 0 0 0)

/-- AON, MGMT and MEM are forced onto their dividers from the VCO (R303, R312; DEDUCED, log
entry 102). -/
def State.coreForced (s : State) : State :=
  [0, 1, 13].foldl State.forcedSwitch s

/-- A lock is lost (R309): blanking, faulted coast, the end of display, the park, self-refresh, and no wall
time (R362). The hold phase begins; a gate request is refused (R312). -/
def State.lockLost (s : State) (slip : Bool) : State :=
  let s1 := (s.lossNoted slip).put 0x2001 0x01 3
  let s2 : State := { s1 with clock := { s1.clock with
    hold := true, opening := [], openingNow := none, islandsDue := false } }
  let s3 := ((s2.gateFails.blankAll 3).faultedCoast 1).stopNow
  ((s3.park [0, 1]).selfRefresh.wallLost).event 0x2002 0 (if slip then 0x02 else 0x01) 0

/-- HCLK_LOSS and PLL_SLIP by the state of the PLL, 2001.01. -/
def State.clockFails (s : State) (slip : Bool) : State :=
  if !s.clock.resetN then { s with clock := { s.clock with hclk := slip && s.clock.hclk } }
  else match s.v 0x2001 0x01 with
    | 2 => s.lockLost slip
    | 5 => if slip then s else ((s.lossNoted false).coreForced).put 0x2001 0x01 4
    | 1 => if slip then s else ((s.lossNoted false).coreForced).put 0x2001 0x01 0
    | 0 => s
    | _ =>
      if slip then s else { s with clock := { s.clock with hclk := false, qualified := false } }

/-! ### PFAIL_N and rails (R316, R412, R414) -/

/-- PFAIL_N falls. While it is taken as asserted, a fall has a rise before it that the filter did not
pass. -/
def State.pfailFalls (s : State) : State :=
  let s1 := s.transitions 0 (if s.clock.pfail then 2 else 1)
  if s.clock.pfail then s1
  else
    let s2 : State := { s1 with clock := { s1.clock with pfail := true } }
    if s2.clock.resetN then s2.powerFailLogged else s2

/-- RAIL_UNDERVOLTAGE (R316): recorded, and the power-fail sequence runs. -/
def State.railLow (s : State) (r : Nat) : State :=
  let s1 := s.railFault r 0
  if s1.clock.resetN then s1.powerFail else s1

/-! ### Island errors (R404 to R406) -/

/-- Display and drone mode stop at once; braking that waited for the stop begins (R231). -/
def State.haltDisplay (s : State) : State :=
  let brake := s.loop.brakeDue
  let s1 := s.stopNow
  if brake ∧ !s1.displayRuns then s1.brake else s1

/-- The assembly of the next frame is discarded, with what of it was still to be copied from spill (R406); a
replay's step copies its cue again. -/
def State.dropNext (s : State) : State :=
  match s.ingress.replay with
  | some r => s.startStep r
  | none =>
    let s1 := (s.leaveNext.putNext Frame.empty).keepSpill s.ingress.spillFrame
    { s1 with ingress := { s1.ingress with spillCopy := false } }

/-- The composition under way stops as unfinished (R93, R406). -/
def State.compStops (s : State) : State :=
  let f := s.nextStore
  let s1 := s.leaveNext
  if f.comp = 1 then s1.putNext { f with comp := 4 } else s1

/-- The codec gives up the band that it decodes; its bands are late (R22, R406). What the compression
lanes hold is discarded and counted (R76). -/
def State.codecStops (s : State) : State :=
  let s0 := s.codec.cjobs.foldl (fun (st : State) j => (st.inc 0x3802 0x0A).clanRest j.lane) s
  { s0 with codec := { s.codec with
      cjobs := [], nextBand := s.codec.band.getD s.codec.nextBand, band := none, list := [], jobs := [],
      buf0 := BandBuf.empty, buf1 := BandBuf.empty } }

/-- Every lane link goes down (R406): ports and lanes wait for their bring-up. -/
def State.lanesStop (s : State) : State :=
  let s1 := (List.range 8).foldl (fun (st : State) p => st.portDown p false) s
  let s2 := (List.range 192).foldl (fun (st : State) l =>
    if st.laneState l = 3 then st else st.pute 0x7010 l 0x01 0) s1
  { s2 with lanes := Lanes.reset }

/-- DRAM requests receive error responses, and channels wait for their fast restore (R406). -/
def State.memStops (s : State) : State :=
  s.populated.foldl (fun (st : State) c =>
    let st1 := st.failRequests c
    if st1.chanServes c then st1.beginTraining c else st1) s

/-- What the restart of an island does while it lasts (R406). -/
def State.islandStops (s : State) (i : Nat) : State :=
  match i with
  | 1 => s.takeOver
  | 2 =>
    let s1 := (s.failSlots.ethLink 0 false).ethLink 1 false
    { s1 with net := { s1.net with queue := [] } }
  | 3 => s.meshLost.dropNext
  | 4 => s.codecStops
  | 5 => s.compStops
  | 6 => { s with ray := { s.ray with band := none, engines := [], staging := [] } }
  | 7 => (s.haltDisplay.park [0, 1]).stageLost
  | 8 => s.park [0]
  | 9 => s.park [1]
  | 10 => s.blankQuiet 7
  | 11 => if s.wheel = 11 then s else s.coast 11
  | 12 => s.lanesStop
  | 13 => s.memStops
  | _ => s

/-- A half returns as under R131: by the short form, and it shows again when that has ended. -/
def State.halfReturns (s : State) (h : Nat) : State :=
  let s1 := s.dropAllHashes h
  if (s1.showing h ∨ (s1.serviced h ∧ s1.seq.service.activity = 2)) ∧ s1.railsUp ∧ !s1.panel.faulted ∧
      !(s1.half h).lack ∧ s1.v 0x5001 0x03 ≠ 4 then
    let s2 := s1.startClear h shortForm
    s2.putHalf h { s2.half h with joined := s2.displayRuns }
  else s1

/-- What follows a restart (R406). -/
def State.islandResumes (s : State) (i : Nat) : State :=
  match i with
  | 3 => if s.ingress.replay.isNone ∧ s.nextStore.number.isNone then s.releaseNext else s
  | 8 => s.halfReturns 0
  | 9 => s.halfReturns 1
  | 10 => s.trainCourses.releaseAll 7
  | 12 => s.bringUpLanes
  | 13 => if s.memory.commitWaits then s.startCommit else s
  | _ => s

/-- ISLAND_ERROR (R405, R406, R409): the island restarts; the AON island, and an error during a restart of the
island, reach the device level. At the device level the error is recorded and does not act. -/
def State.islandError (s : State) (i : Nat) : State :=
  let spec := domSpec domIsland i 0 2 0x1801 0 0x05
  if s.v 0x1890 0x01 = 6 then s.log spec
  else if i = 0 then (s.log spec).deviceHold
  else if s.clock.restarting.contains i then
    (s.escalate.log { spec with level := 1 }).deviceHold
  else
    let s1 := ((s.inc 0x1801 0x05).log spec).recover domIsland i 0
    let s2 := (s1.islandStops i).stopIsland i
    ({ s2 with clock := { s2.clock with
      restarting := s2.clock.restarting ++ [i], opening := s2.clock.opening.filter (· != i) } }).openPast i

/-- ISLAND_RESTART_DONE: the island has been reset; it reopens from /32 by ramp, and its units resume
(R301, R405, R406). -/
def State.islandRestarted (s : State) (i : Nat) : State :=
  if s.clock.restarting.contains i ∧ s.v 0x1890 0x01 ≠ 6 ∧ s.v 0x2001 0x01 = 2 then
    let s1 : State := { s with clock := { s.clock with restarting := s.clock.restarting.filter (· != i) } }
    ((s1.openIsland i).recovered domIsland i).islandResumes i
  else s

/-! ### Drone mode ended by a fault (R167, R235) -/

/-- Where a fault of the panel has ended drone mode, the wheel's part ends with it. -/
def State.wheelFollows (s : State) (before : State) : State :=
  if before.v 0x5001 0x03 = 4 ∧ s.v 0x5001 0x03 = 0 then s.droneWheelEnds.settle else s

/-! ### Meanings -/

/-- HCLK_LOSS (R309, R312). -/
def execHclkLoss (t : Nat) (s : State) : Result := .next ((s.enter t).clockFails false).settle

/-- PLL_SLIP (R296). -/
def execPllSlip (t : Nat) (s : State) : Result := .next ((s.enter t).clockFails true).settle

/-- PFAIL (R412). -/
def execPfail (t : Nat) (s : State) : Result := .next (s.enter t).pfailFalls.settle

/-- RAIL_UNDERVOLTAGE (R316). -/
def execRailUndervoltage (t rail : Nat) (s : State) : Result :=
  guarded (decide (rail < 7)) ((s.enter t).railLow rail).settle

/-- THERMAL_EVALUATION (R365 to R369, R373, R376). -/
def execThermalEvaluation (t : Nat) (powers : List Nat) (diodes : List Int) (s : State) : Result :=
  .next ((s.enter t).evaluate powers diodes).settle

/-- GATE_IDLE (R305): the handshakes are idle; a WRITE that waited is answered. -/
def execGateIdle (t : Nat) (s : State) : Result :=
  let s1 := s.enter t
  .next (match s1.clock.gateReq with
    | some r => if r.closing then s1.gateIdle.gateAnswer false else s1
    | none => s1)

/-- GATE_CLOSE_TIMEOUT (R305): a handshake is still busy. -/
def execGateCloseTimeout (t : Nat) (s : State) : Result :=
  let s1 := s.enter t
  .next (match s1.clock.gateReq with
    | some r => if r.closing then s1.gateFails else s1
    | none => s1)

/-- ISLAND_ERROR (R406). -/
def execIslandError (t island : Nat) (s : State) : Result :=
  guarded (islandOk island) ((s.enter t).islandError island).settle

/-- ISLAND_RESTART_DONE (R406). -/
def execIslandRestartDone (t island : Nat) (s : State) : Result :=
  guarded (islandOk island) ((s.enter t).islandRestarted island).settle

/-- DRAM_REQUEST_DONE (R283, R284, R287). -/
def execDramRequestDone (t request : Nat) (crcOk : Bool) (s : State) : Result :=
  .next ((s.enter t).doRequestDone request crcOk).settle

/-- DDR_ALERT (R284, R287). -/
def execDdrAlert (t request : Nat) (s : State) : Result :=
  .next ((s.enter t).doAlert request).settle

/-- INPLACE_RETRAIN_DONE (R288, R289). -/
def execInplaceRetrainDone (t channel : Nat) (ok : Bool) (s : State) : Result :=
  guarded (chanOk channel) ((s.enter t).doRetrainDone channel ok).settle

/-- PANEL_STATUS (R152): a block of type 3 with opcode 0x81 that is good; it is ignored while the rails
are down. -/
def execPanelStatus (t half : Nat) (block : Bytes) (s : State) : Result :=
  let s1 := s.enter t
  let p := blockPayload block
  let s2 :=
    if !(blockOk block) then s1.badBlock (64 * half)
    else if blockType block = 3 ∧ p.head? = some 0x81#8 ∧ s1.railsUp then s1.takeStatus half p
    else s1
  guarded (halfOk half) (s2.wheelFollows s)

/-- PANEL_STATUS_TIMEOUT (R167): no STATUS for 1 s while the rails are up. -/
def execPanelStatusTimeout (t half : Nat) (s : State) : Result :=
  let s1 := s.enter t
  guarded (halfOk half) ((if s1.railsUp then s1.panelFault 0x07 else s1).wheelFollows s)

/-- PNL_PG_RISE (R165, R393). -/
def execPnlPgRise (t n : Nat) (s : State) : Result :=
  guarded (decide (n < 4)) (((s.enter t).pgLevel n true).wheelFollows s)

/-- PNL_PG_FALL (R167): a fault while the enable is asserted. -/
def execPnlPgFall (t n : Nat) (s : State) : Result :=
  guarded (decide (n < 4)) (((s.enter t).pgLevel n false).wheelFollows s)

end Sys2Proof.Machine
end

