-- ==== Sys2Proof/Machine/Yalok.lean ====
section
/-!
DEFINITION. Yalok requests (13): who is served (R320, R345), OPEN and sessions (R325, R326), reads and
writes (R319, R324, R335), chords (R332 to R339), and the end of a firmware hand-over (R345).
-/

namespace Sys2Proof.Machine

/-! ### Service -/

/-- The dictionary is served on a path: the host link, or an Ethernet port whose link is up while the
network island runs (R297, R310, R320, R394). -/
def State.yalokOpen (s : State) (path : Nat) : Bool :=
  s.mgmt.service && s.v 0x2001 0x01 == 2 &&
  (path == 0 || (s.islandRuns 2 && s.ethUp (path - 1)))

/-- A master is reached over a path (R320). -/
def State.reached (s : State) (m path : Nat) : Bool :=
  if m = 1 then path == 0 && s.b 0x1000 0x02
  else 2 ≤ m && m ≤ 14 && path != 0 && s.b 0x1000 0x03

/-- A message whose tag fails: counted and logged, no reply (R325). -/
def State.badTag (s : State) (m : Nat) : State := (s.inc 0x1011 0x01).refuseMsg m 12

/-! ### OPEN (R325) -/

/-- Session identities of a master. -/
def Master.ids (r : Master) : List Nat := r.session.toList.map Session.id ++ r.opening.map Session.id

/-- The least identity from a start, never 0, that the list does not hold. -/
def freshId (used : List Nat) : Nat → Nat → Nat
  | 0, k => k
  | fuel + 1, k =>
    if k % 2 ^ 32 = 0 ∨ used.contains (k % 2 ^ 32) then freshId used fuel (k + 1) else k % 2 ^ 32

/-- OPEN (R325): at most 10 are accepted in a second; the session is opening until its first message. -/
def State.opens (s : State) (path : Nat) (peer : Bytes) (x : Msg) : State :=
  let m := x.master
  let r := s.masterRec m
  let recent := r.opens.filter fun t => decide (s.now < t + secCycles)
  let km := s.masterKey m
  if 10 ≤ recent.length then s
  else if tagOf km x.head ≠ x.tag then s.badTag m
  else
    let (k, s1) := s.draw (2 ^ 32)
    let (nd, s2) := s1.freeBytes 16
    let id := freshId r.ids (r.ids.length + 1) k
    let new : Session := { id := id, key := sessionKey km x.body nd id, path := path, peer := peer,
                           seqIn := 0, seen := [], seqOut := 1, replies := [], opened := 0 }
    (s2.putMaster m { r with opening := r.opening ++ [new], opens := s.now :: recent }).sendOut path peer
      (packMsg 2 m 0x80 id 0 0xFFFF (beBytes 4 id ++ nd ++ beBytes 2 0) km)

/-! ### Sequences (R326) -/

/-- The sequence is new to the session. -/
def Session.fresh (x : Session) (seq : Nat) : Bool :=
  decide (x.seqIn < seq) || (decide (1 ≤ seq ∧ x.seqIn ≤ seq + 64) && !x.seen.contains seq)

/-- The session takes a sequence, a path and a peer. -/
def Session.take (x : Session) (seq path : Nat) (peer : Bytes) : Session :=
  let hi := max x.seqIn seq
  { x with seqIn := hi, seen := (seq :: x.seen).filter fun q => decide (hi ≤ q + 64), path := path,
           peer := peer }

/-- The REPLY to a request is still to come. -/
def State.awaited (s : State) (m id seq : Nat) : Bool :=
  (List.range 32).any (fun n =>
    let c := s.chord n
    c.state == 2 && c.master == m && c.session == id && c.seq == seq) ||
  (s.mgmt.gateReply.toList ++ s.mgmt.handoff).any fun (h : Handoff) =>
    h.master == m && h.session == id && h.seq == seq

/-- A request outside the window, or whose REPLY is no longer held: refused with code 13. -/
def State.stale (s : State) (m : Nat) (x : Session) (path : Nat) (peer : Bytes) (seq : Nat) : State :=
  let s1 := (s.inc 0x1011 0x02).refuseMsg m 13
  let msg := packMsg 6 m 0x80 x.id x.seqOut 0xFFFF (replyBody seq 13 [] []) x.key
  let y := { x with seqOut := (x.seqOut + 1) % 2 ^ 32, path := path, peer := peer }
  let r := s1.masterRec m
  let s2 :=
    if (r.session.map Session.id) = some x.id then s1.putSession m y
    else s1.putMaster m { r with opening := r.opening.map fun z => if z.id = x.id then y else z }
  s2.sendOut path peer msg

/-! ### Items -/

/-- An item of a WRITE as a value for its member. -/
def Item.staged (i : Item) : Staged :=
  match rowOf i.object i.element i.member with
  | some r =>
    if r.ty = .blob then
      { object := i.object, element := i.element, member := i.member, value := 0, data := i.data,
        offset := i.offset }
    else
      { object := i.object, element := i.element, member := i.member, value := field i.data 0 i.len,
        data := [], offset := i.offset }
  | none =>
    { object := i.object, element := i.element, member := i.member, value := 0, data := [],
      offset := i.offset }

/-- The bytes of a staged value. -/
def Staged.bytes (x : Staged) : Bytes :=
  match rowOf x.object x.element x.member with
  | some r => if r.ty = .blob then x.data else beBytes (r.ty.width / 8) x.value
  | none => []

/-- What a READ item finds staged in the message's chord (R333): a value, none, or the code that refuses
the handle. -/
def State.stagedFor (s : State) (m id handle : Nat) (i : Item) : Except Nat (Option Bytes) :=
  if i.flags % 2 = 0 then .ok none
  else if handle = 0xFFFF then .error 8
  else
    let (n, code) := s.findChord handle m id
    if code ≠ 0 then .error code
    else .ok (((s.chord n).items.find? fun (x : Staged) =>
      x.addr == mkey i.object i.element i.member && x.offset == i.offset).map Staged.bytes)

/-- The bytes of a staged value that a READ item gets: as many as it wants of a BLOB (R323), and the whole of
any other value. -/
def Item.wanted (i : Item) (b : Bytes) : Except Nat Bytes :=
  match rowOf i.object i.element i.member with
  | none => .error 1
  | some r =>
    if r.ty = .blob then .ok (if i.len = 0 then b else b.take i.len)
    else if i.len ≠ 0 ∧ i.len < b.length then .error 5
    else .ok b

/-- The value of a READ item, or the code that refuses it (R324, R328, R330, R333): a write-only member
refuses every read, that of a staged value too (R6). -/
def State.readValue (s : State) (m id handle : Nat) (i : Item) : Except Nat Bytes :=
  if (rowOf i.object i.element i.member).isNone then .error 1
  else if i.flags / 2 ≠ 0 then .error 5
  else if s.level m i.object < 1 then .error 2
  else if i.staged.isWo then .error 3
  else
    match s.stagedFor m id handle i with
    | .error c => .error c
    | .ok (some b) => i.wanted b
    | .ok none => s.readMember i.object i.element i.member i.len i.offset

/-- A READ item is answered: a refusal is entered, and master 1's read of 2001.01 releases the interrupt
of R297. A value that the REPLY has no room for is refused with code 5. -/
def State.readItem (s : State) (m id handle size : Nat) (i : Item) : (Nat × Bytes) × State :=
  let a : (Nat × Bytes) × State :=
    match s.readValue m id handle i with
    | .error c => ((c, []), s.refuse m i.object i.element i.member c)
    | .ok b =>
      if m = 1 ∧ i.object = 0x2001 ∧ i.member = 0x01 then
        ((0, b), ({ s with clock := { s.clock with lockIrq := false } }).updateHirq)
      else ((0, b), s)
  if 1408 < size + 4 + a.1.2.length then ((5, []), a.2) else a

/-- The items of a READ in their order; `size` is the length of the REPLY's body so far. -/
def State.readItems (s : State) (m id handle : Nat) : Nat → List Item → List (Nat × Bytes) × State
  | _, [] => ([], s)
  | size, i :: r =>
    let (a, s1) := s.readItem m id handle size i
    let (l, s2) := s1.readItems m id handle (size + 4 + a.2.length) r
    (a :: l, s2)

/-! ### Plain writes (R319, R335) -/

/-- The state and the verdicts of a plain WRITE: the codes, the accepted items, and the device as the
accepted items will leave it. -/
structure WriteRun where
  codes : List Nat
  items : List Staged
  seen : State

/-- A plain write item is judged after those before it (R319); a refused gate request is counted
(R305, R306). -/
def State.writeItem (s : State) (w : Writer) (origin : Nat × Nat) (run : WriteRun) (i : Item) :
    WriteRun × State :=
  let x := i.staged
  let code := run.seen.writeCode w x i.len i.flags
  if code = 0 then
    ({ codes := run.codes ++ [0], items := run.items ++ [x],
       seen := (run.seen.deliver 0 w.master (some origin) none x).2 }, s)
  else
    let gate := x.isGate &&
      run.seen.stageCode w x i.len i.flags == 0
    let s1 := s.refuse w.master i.object i.element i.member code
    ({ run with codes := run.codes ++ [code] }, if gate then s1.gateRefused code else s1)

def State.writeItems (s : State) (w : Writer) (origin : Nat × Nat) :
    WriteRun → List Item → WriteRun × State
  | run, [] => (run, s)
  | run, i :: r =>
    let (run1, s1) := s.writeItem w origin run i
    s1.writeItems w origin run1 r

/-- A plain WRITE: accepted items wait to be handed to their owners, and the REPLY follows the last
(R335). -/
def State.writePlain (s : State) (m id seq path : Nat) (items : List Item) : State :=
  let (run, s1) := s.writeItems { master := m, path := some path, chord := false } (id, seq)
    { codes := [], items := [], seen := s } items
  if run.items = [] then s1.reply m seq (firstCode run.codes) (codeItems run.codes) []
  else
    let n := run.items.length
    let at_ := (run.codes.zipIdx.filter fun c => c.1 == 0).map Prod.snd
    let hs := run.items.mapIdx fun k x =>
      ({ item := x, master := m, session := id, seq := seq, last := k + 1 == n,
         codes := run.codes, index := at_.getD k 0 } : Handoff)
    { s1 with mgmt := { s1.mgmt with handoff := s1.mgmt.handoff ++ hs } }

/-- What a gate member's owner answers to an item that is handed over (R305 to R307): 0 for another member. -/
def State.gateAtHand (s : State) (x : Staged) : Nat :=
  if x.isGate then s.gateCode none (x.object == 0x2030) x.element (x.value == 0) else 0

/-- A gate that is closing waits for its handshakes. -/
def State.gateWaits (s : State) : Bool := s.clock.gateReq.any GateReq.closing

/-- The first waiting item goes to its owner (R335). A gate request that is refused there has its code in the
REPLY, and the REPLY waits for a close that waits (R305). -/
def State.handItem (s : State) : State :=
  match s.mgmt.handoff with
  | [] => s
  | h :: rest =>
    let code := s.gateAtHand h.item
    let fix := fun (x : Handoff) => if code = 0 then x else h.coded code x
    let s1 := (({ s with mgmt := { s.mgmt with handoff := rest.map fix } }).deliver 0 h.master
      (some (h.session, h.seq)) none h.item).2
    let s2 := if h.item.isGate ∧ code = 0 ∧ !s.gateWaits ∧ s1.gateWaits then
        { s1 with mgmt := { s1.mgmt with gateItem := some h } }
      else s1
    (if h.last then s2.answer (fix h) else s2).settle

/-! ### Staging (R332, R333, R337) -/

/-- A pending chord holds a member (R337). -/
def State.pendingHolds (s : State) (addr : Nat) : Bool :=
  (List.range 32).any fun n =>
    (s.chord n).state == 3 && (s.chord n).items.any fun (x : Staged) => x.addr == addr

/-- An item staged: one with the same address and offset is replaced in its place. -/
def Chord.stage (c : Chord) (x : Staged) : Chord :=
  let same := fun (y : Staged) => y.addr == x.addr && y.offset == x.offset
  if c.items.any same then { c with items := c.items.map fun y => if same y then x else y }
  else { c with items := c.items ++ [x] }

/-- The code of a staged item. -/
def State.stagingCode (s : State) (w : Writer) (n : Nat) (i : Item) : Nat :=
  let x := i.staged
  let c := (s.chord n).stage x
  if (rowOf i.object i.element i.member).isNone then 1
  else if i.flags ≠ 0 then 5
  else if s.level w.master i.object < 3 then 2
  else if s.pendingHolds x.addr then 10
  else if 4096 < c.members ∨ 262144 < c.bytes then 9
  else s.stageCode w x i.len i.flags

def State.stageItem (s : State) (w : Writer) (n : Nat) (i : Item) : Nat × State :=
  let code := s.stagingCode w n i
  if code = 0 then (0, s.putChord n ((s.chord n).stage i.staged))
  else (code, s.refuse w.master i.object i.element i.member code)

def State.stageItems (s : State) (w : Writer) (n : Nat) : List Item → List Nat × State
  | [] => ([], s)
  | i :: r =>
    let (c, s1) := s.stageItem w n i
    let (l, s2) := s1.stageItems w n r
    (c :: l, s2)

/-- A refusal for a chord handle: code 8 is entered in the violation log. -/
def State.refuseHandle (s : State) (m code : Nat) : State := if code = 8 then s.refuseMsg m 8 else s

/-- The chord of a handle that a session may use in a request: the slot, and a code that refuses it. A
chord that is committing or pending is closed for staging and for COMMIT. -/
def State.openChord (s : State) (handle m id : Nat) : Nat × Nat :=
  let (n, code) := s.findChord handle m id
  if code ≠ 0 then (n, code)
  else if (s.chord n).state = 1 ∨ (s.chord n).state = 4 then (n, 0)
  else (n, 8)

/-- A WRITE with a chord handle (R333). -/
def State.writeStaged (s : State) (m id seq path handle : Nat) (items : List Item) : State :=
  let (n, code) := s.openChord handle m id
  if code ≠ 0 then (s.refuseHandle m code).reply m seq code [] []
  else
    let (codes, s1) := s.stageItems { master := m, path := some path, chord := true } n items
    s1.reply m seq (firstCode codes) (codeItems codes) []

/-! ### Chords (R332, R334 to R339) -/

/-- CHORD_BEGIN (R332). -/
def State.beginChord (s : State) (m id seq : Nat) : State :=
  match (List.range 32).find? fun n => (s.chord n).state == 0 with
  | none => s.reply m seq 9 [] []
  | some n =>
    let gen := ((s.chord n).gen + 1) % 1024
    (s.putChord n { Chord.reset with state := 1, gen := gen, master := m, session := id }).reply m seq 0
      [] (beBytes 2 (handleOf gen n))

/-- No apply point (R338). -/
def noPoint : Nat × Nat := (0xFFFFFFFF, 0xFF)
def noPoints (fail : Nat) : Bytes := pointBytes noPoint noPoint fail

/-- Root cycles from the acceptance of a COMMIT to the hand-off (R335). -/
def handoffCycles (members : Nat) : Nat := 500000 + 500 * members

/-- Every other uncommitted chord that holds one of the addresses is conflicted (R337). -/
def State.markConflicts (s : State) (n : Nat) (addrs : List Nat) : State :=
  (List.range 32).foldl (fun (st : State) k =>
    let c := st.chord k
    if k ≠ n ∧ c.state = 1 ∧ c.items.any (fun (x : Staged) => addrs.contains x.addr) then
      st.putChord k { c with state := 4 }
    else st) s

/-- A time may be named by an AT_TIME commit (R4, R338). -/
def State.atTimeOk (s : State) (raw : Nat) : Bool :=
  timeOk raw && s.v 0x8001 0x01 != 0 &&
  decide (unitsOfTime raw - s.wall ≤ ((86400 * unitsPerSec : Nat) : Int))

/-- The verdict on a COMMIT (R334, R337, R338): the code, the failing item, and its address if the refusal
is one of an item. -/
def State.commitCode (s : State) (w : Writer) (c : Chord) (mode raw : Nat) : Nat × Nat :=
  if c.state = 4 then (10, 0xFFFF)
  else match s.chordFails w c.items with
  | some (i, code) => (code, i)
  | none => if mode = 3 ∧ !(s.atTimeOk raw) then (4, 0xFFFF) else (0, 0xFFFF)

/-- The refusal of a COMMIT is entered for the item that fails, else for the message; that of a gate
request is counted (R305, R306). -/
def State.refuseCommit (s : State) (m code fail : Nat) (items : List Staged) : State :=
  match items[fail]? with
  | some x =>
    let s1 := s.refuse m x.object x.element x.member code
    if x.isGate ∧ (code = 4 ∨ code = 7) then s1.gateRefused code else s1
  | none => s.refuseMsg m code

/-- COMMIT (R334 to R338): a chord that passes waits for its hand-off, or for its named time. -/
def State.commits (s : State) (m id seq path handle mode raw : Nat) : State :=
  let (n, code) := s.openChord handle m id
  if code ≠ 0 then (s.refuseHandle m code).reply m seq code [] (noPoints 0xFFFF)
  else
    let c := s.chord n
    let w : Writer := { master := m, path := some path, chord := true }
    let (bad, fail) := s.commitCode w c mode raw
    if bad ≠ 0 then
      ((s.refuseCommit m bad fail c.items).abortSlot n false).reply m seq bad [] (noPoints fail)
    else
      let s1 := (s.markConflicts n (c.items.map Staged.addr)).inc 0x1011 0x04
      if mode = 3 then
        (s1.putChord n { c with state := 3, mode := 3, at_ := raw, seq := seq }).reply m seq 0 []
          (noPoints 0xFFFF)
      else
        s1.putChord n { c with state := 2, mode := mode, seq := seq,
                               at_ := s.now + handoffCycles c.members }

/-- Order of apply points (R336): by frames from the present one, a nut gap before the frets. -/
def pointKey (now : Nat) (p : Nat × Nat) : Nat :=
  (p.1 + 2 ^ 32 + 2 ^ 31 - now) % 2 ^ 32 * 256 + (p.2 + 1) % 256

/-- The first and the last of some apply points. -/
def firstLast (now : Nat) : List (Nat × Nat) → (Nat × Nat) × (Nat × Nat)
  | [] => (noPoint, noPoint)
  | p :: r => r.foldl (fun a q =>
      (if pointKey now q < pointKey now a.1 then q else a.1,
       if pointKey now a.2 < pointKey now q then q else a.2)) (p, p)

/-- The class of a staged member in a commit mode. -/
def Staged.classFor (mode : Nat) (x : Staged) : Nat :=
  match rowOf x.object x.element x.member with
  | some r => classIn mode r
  | none => 0

/-- A chord goes to the fret sequencer (R335): value members first, then write-only members in staging
order; the answer has the apply points. -/
def State.applyChord (s : State) (n : Nat) : Bytes × State :=
  let c := s.chord n
  let mode := if c.mode = 3 then 0 else c.mode
  let items := (c.items.filter fun x => !x.isWo) ++ c.items.filter Staged.isWo
  let id := (c.session, c.seq)
  let pts := firstLast (s.v 0x5001 0x01) (items.map fun x => s.pointOf (x.classFor mode))
  let s1 := items.foldl (fun (st : State) x =>
    (st.deliver mode c.master (some id) (some id) x).2) s
  (pointBytes pts.1 pts.2 0xFFFF, s1.freeChord n)

/-- The hand-off of a chord (R335, R336). -/
def State.handChord (s : State) (n : Nat) : State :=
  let c := s.chord n
  if c.state = 2 ∧ c.at_ ≤ s.now then
    let (pts, s1) := s.applyChord n
    (s1.replyIn c.master c.session c.seq 0 [] pts).settle
  else s

/-- The first stopped-class item of a chord (R338). -/
def stoppedItem (items : List Staged) : Option Nat :=
  items.findIdx? fun x =>
    match rowOf x.object x.element x.member with
    | some r => r.apply == .stopped
    | none => false

/-- The named time of a pending chord has come (R338): the stopped class is judged again. -/
def State.timeReached (s : State) (n : Nat) : State :=
  let c := s.chord n
  if c.state = 3 ∧ s.wallReaches s.now c.at_ then
    match (if s.displayRuns then stoppedItem c.items else none) with
    | some i => (s.freeChord n).sendApplied c.master c.session c.seq 6 (noPoints i)
    | none =>
      let (pts, s1) := s.applyChord n
      (s1.sendApplied c.master c.session c.seq 0 pts).settle
  else s

/-- ABORT (R338, R339): a chord that is being handed off can no longer be aborted. -/
def State.aborts (s : State) (m id seq handle : Nat) : State :=
  let (n, code) := s.findChord handle m id
  let k := if code = 0 ∧ (s.chord n).state = 2 then 8 else code
  if k ≠ 0 then (s.refuseHandle m k).reply m seq k [] []
  else (s.abortSlot n false).reply m seq 0 [] []

/-! ### A request is carried out -/

/-- A request that its session has accepted (R323). -/
def State.serve (s : State) (x : Msg) (path : Nat) : State :=
  let m := x.master
  match x.type with
  | 3 => (s.reply m x.seq 0 [] []).closeSession m
  | 4 =>
    let (vals, s1) := s.readItems m x.session x.chord 16 ((x.items false).getD [])
    s1.reply m x.seq (firstCode (vals.map Prod.fst)) vals []
  | 5 =>
    let items := (x.items true).getD []
    if x.chord = 0xFFFF then s.writePlain m x.session x.seq path items
    else s.writeStaged m x.session x.seq path x.chord items
  | 7 => s.beginChord m x.session x.seq
  | 8 => s.commits m x.session x.seq path x.chord (field x.body 0 1) (field x.body 4 12)
  | 9 => s.aborts m x.session x.seq x.chord
  | 11 => (s.ackEvents m (field x.body 0 4)).reply m x.seq 0 [] []
  | _ =>
    let (msg, s1) := s.sendIn m 12 []
    s1.holdReply m x.seq msg

/-- A message other than OPEN: its session, its tag and its sequence are checked (R325, R326). -/
def State.request (s : State) (path : Nat) (peer : Bytes) (x : Msg) : State :=
  let m := x.master
  let r := s.masterRec m
  match (r.session.toList ++ r.opening).find? fun (y : Session) => y.id == x.session with
  | none => s.badTag m
  | some y =>
    if tagOf y.key x.head ≠ x.tag then s.badTag m
    else if y.fresh x.seq then
      let z := y.take x.seq path peer
      (if (r.session.map Session.id) = some y.id then s.putSession m z else s.openActive m z).serve x path
    else match y.replies.find? fun e => e.1 == x.seq with
    | some e => s.sendOut path peer e.2
    | none => if s.awaited m y.id x.seq then s else s.stale m y path peer x.seq

/-- A well-formed message of a master that its path reaches (R320). -/
def State.admitMsg (s : State) (path : Nat) (peer : Bytes) (x : Msg) : State :=
  if s.reached x.master path then
    if x.type = 1 then s.opens path peer x else s.request path peer x
  else s

/-- A message is carried out whatever its type. -/
def State.receiveAny (s : State) (path : Nat) (peer msg : Bytes) : State :=
  match parseMsg msg with
  | none => s.inc 0x1011 0x08
  | some x => if x.formed then s.admitMsg path peer x else s.inc 0x1011 0x08

/-- A message of the command's own type arrives (R323); during a hand-over it is held, up to 1024
messages (R345). -/
def State.receiveAs (s : State) (is : Msg → Bool) (path : Nat) (peer msg : Bytes) : State :=
  if !(s.yalokOpen path) then s
  else if s.handingOver then
    if s.mgmt.heldMsgs.length < 1024 then
      { s with mgmt := { s.mgmt with heldMsgs := s.mgmt.heldMsgs ++ [(path, peer, msg)] } }
    else s
  else match parseMsg msg with
  | none => s.inc 0x1011 0x08
  | some x =>
    if !x.formed then s.inc 0x1011 0x08
    else if is x then s.admitMsg path peer x
    else s

/-- The messages held during a hand-over are answered in their order (R345). -/
def State.answerHeld (s : State) : State :=
  s.mgmt.heldMsgs.foldl (fun (st : State) e => st.receiveAny e.1 e.2.1 e.2.2)
    { s with mgmt := { s.mgmt with heldMsgs := [] } }

/-! ### Meanings -/

/-- A message of a type arrives on a path. -/
def arrives (t path : Nat) (peer msg : Bytes) (is : Msg → Bool) (s : State) : Result :=
  guarded (decide (path < 3)) ((s.enter t).receiveAs is path peer msg)

/-- OPEN (R325). -/
def execOpenSession (t path : Nat) (peer msg : Bytes) (s : State) : Result :=
  arrives t path peer msg (fun x => x.type == 1) s

/-- CLOSE (R327). -/
def execClose (t path : Nat) (peer msg : Bytes) (s : State) : Result :=
  arrives t path peer msg (fun x => x.type == 3) s

/-- READ (R324). -/
def execRead (t path : Nat) (peer msg : Bytes) (s : State) : Result :=
  arrives t path peer msg (fun x => x.type == 4) s

/-- WRITE (R319, R333). -/
def execWrite (t path : Nat) (peer msg : Bytes) (s : State) : Result :=
  arrives t path peer msg (fun x => x.type == 5) s

/-- CHORD_BEGIN (R332). -/
def execChordBegin (t path : Nat) (peer msg : Bytes) (s : State) : Result :=
  arrives t path peer msg (fun x => x.type == 7) s

/-- A COMMIT with a mode. -/
def Msg.commitIn (mode : Nat) (x : Msg) : Bool := x.type == 8 && field x.body 0 1 == mode

/-- COMMIT_NOW (R335). -/
def execCommitNow (t path : Nat) (peer msg : Bytes) (s : State) : Result :=
  arrives t path peer msg (Msg.commitIn 0) s

/-- COMMIT_NEXT_FRET (R335). -/
def execCommitNextFret (t path : Nat) (peer msg : Bytes) (s : State) : Result :=
  arrives t path peer msg (Msg.commitIn 1) s

/-- COMMIT_NEXT_FRAME (R335). -/
def execCommitNextFrame (t path : Nat) (peer msg : Bytes) (s : State) : Result :=
  arrives t path peer msg (Msg.commitIn 2) s

/-- COMMIT_AT_TIME (R338). -/
def execCommitAtTime (t path : Nat) (peer msg : Bytes) (s : State) : Result :=
  arrives t path peer msg (Msg.commitIn 3) s

/-- ABORT (R339). -/
def execAbortChord (t path : Nat) (peer msg : Bytes) (s : State) : Result :=
  arrives t path peer msg (fun x => x.type == 9) s

/-- KEEPALIVE (R323). -/
def execKeepalive (t path : Nat) (peer msg : Bytes) (s : State) : Result :=
  arrives t path peer msg (fun x => x.type == 12) s

/-- EVENT_ACK (R341). -/
def execEventAck (t path : Nat) (peer msg : Bytes) (s : State) : Result :=
  arrives t path peer msg (fun x => x.type == 11) s

/-- WRITE_ITEM_HANDOFF (R335). -/
def execWriteItemHandoff (t : Nat) (s : State) : Result := .next (s.enter t).handItem

/-- CHORD_HANDOFF (R335, R336). -/
def execChordHandoff (t slot : Nat) (s : State) : Result :=
  guarded (decide (slot < 32)) ((s.enter t).handChord slot)

/-- AT_TIME_REACHED (R338). -/
def execAtTimeReached (t slot : Nat) (s : State) : Result :=
  guarded (decide (slot < 32)) ((s.enter t).timeReached slot)

/-- HANDOVER_DONE (R345). -/
def execHandoverDone (t : Nat) (s : State) : Result :=
  let s1 := s.enter t
  .next (match s1.mgmt.handover with
    | some (slot, start) => (s1.handedOver slot start).answerHeld
    | none => s1)

/-- HANDOVER_TIMEOUT (R345). -/
def execHandoverTimeout (t : Nat) (s : State) : Result :=
  let s1 := s.enter t
  .next (if s1.handingOver then s1.handoverFails.answerHeld else s1)

end Sys2Proof.Machine
end

