-- ==== Sys2Proof/Machine/Writes.lean ====
section
/-!
DEFINITION. The commands that are a write of one member (R8, R319): each is judged and takes effect as a
plain write of that member does. The code of R330 that the write gets stands in `mgmt.lastCode`.
-/

namespace Sys2Proof.Machine

/-- A write of one member by a master, outside a message: judged, entered if it is refused (R331), and
handed to its owner. It is no staged write, so that a CW member refuses it (R6). -/
def State.memberWrite (s : State) (master len : Nat) (x : Staged) : State :=
  let w : Writer := { master := master, path := none, chord := false }
  let code := s.writeCode w x len 0
  let s1 := { s with mgmt := { s.mgmt with lastCode := code } }
  if code = 0 then ((s1.deliver 0 master none none x).2).settle
  else
    let gate := x.isGate && s.stageCode w x len 0 == 0
    let s2 := s1.refuse master x.object x.element x.member code
    if gate then s2.gateRefused code else s2

/-- A value for a member. -/
def stagedValue (o e m v : Nat) : Staged :=
  { object := o, element := e, member := m, value := v, data := [], offset := 0 }

/-- Bytes for a BLOB member. -/
def stagedBytes (o e m offset : Nat) (data : Bytes) : Staged :=
  { object := o, element := e, member := m, value := 0, data := data, offset := offset }

/-- The command writes a value to a member, as wide as its type. -/
def writes (t master o e m v : Nat) (s : State) : Result :=
  .next ((s.enter t).memberWrite master (memberWidth o m / 8) (stagedValue o e m v))

/-- The command writes bytes to a BLOB member. -/
def writesBytes (t o e m offset : Nat) (data : Bytes) (s : State) : Result :=
  .next ((s.enter t).memberWrite 0 data.length (stagedBytes o e m offset data))

/-! ### Meanings -/

/-- CUE_GO (R55). -/
def execCueGo (t v : Nat) (s : State) : Result :=
  writes t 0 0x3040 0 0x05 v s

/-- CUE_CLEAR (R54). -/
def execCueClear (t cue v : Nat) (s : State) : Result :=
  writes t 0 0x3500 cue 0x03 v s

/-- COUNTER_CLEAR (R57). -/
def execCounterClear (t object v : Nat) (s : State) : Result :=
  writes t 0 object 0 0x10 v s

/-- MEMBER_WRITE (R8). -/
def execMemberWrite (t object element member v : Nat) (s : State) : Result :=
  writes t 0 object element member v s

/-- DLANE_FENCED (R72). -/
def execDlaneFenced (t lane v : Nat) (s : State) : Result :=
  writes t 0 0x3810 lane 0x02 v s

/-- ENG_FENCED (R116). -/
def execEngFenced (t engine v : Nat) (s : State) : Result :=
  writes t 0 0x4810 engine 0x02 v s

/-- CLANE_FENCED (R75). -/
def execClaneFenced (t lane v : Nat) (s : State) : Result :=
  writes t 0 0x3820 lane 0x04 v s

/-- DISPLAY_RUN_START (R147). -/
def execDisplayRunStart (t : Nat) (s : State) : Result :=
  writes t 0 0x5000 0 0x02 1 s

/-- DISPLAY_RUN_STOP (R147). -/
def execDisplayRunStop (t : Nat) (s : State) : Result :=
  writes t 0 0x5000 0 0x02 0 s

/-- TIMING_MODE (R139). -/
def execTimingMode (t v : Nat) (s : State) : Result :=
  writes t 0 0x5000 0 0x01 v s

/-- FAULT_REARM (R167). -/
def execFaultRearm (t v : Nat) (s : State) : Result :=
  writes t 0 0x5800 0 0x10 v s

/-- PANEL_POWER (R165). -/
def execPanelPower (t v : Nat) (s : State) : Result :=
  writes t 0 0x5800 0 0x0F v s

/-- DRONE_ENTER (R169). -/
def execDroneEnter (t : Nat) (s : State) : Result :=
  writes t 0 0x5800 0 0x0A 1 s

/-- DRONE_LEAVE (R170). -/
def execDroneLeave (t : Nat) (s : State) : Result :=
  writes t 0 0x5800 0 0x0A 0 s

/-- LIN_RESET (R193). -/
def execLinReset (t v : Nat) (s : State) : Result :=
  writes t 0 0x6000 0 0x05 v s

/-- WHEEL_ENABLE (R230). -/
def execWheelEnable (t : Nat) (s : State) : Result :=
  writes t 0 0x6800 0 0x01 1 s

/-- WHEEL_BRAKE (R231). -/
def execWheelBrake (t : Nat) (s : State) : Result :=
  writes t 0 0x6800 0 0x01 0 s

/-- REARM (R234). -/
def execRearm (t v : Nat) (s : State) : Result :=
  writes t 0 0x6800 0 0x0F v s

/-- FREE_INPUT (R202). -/
def execFreeInput (t slot v : Nat) (s : State) : Result :=
  writes t 0 0x6810 slot 0x08 v s

/-- PRESET (R208). -/
def execPreset (t slot v : Nat) (s : State) : Result :=
  writes t 0 0x6810 slot 0x09 v s

/-- LANE_RETRAIN (R260). -/
def execLaneRetrain (t lane : Nat) (s : State) : Result :=
  writes t 0 0x7010 lane 0x02 1 s

/-- LANE_OUT_OF_SERVICE (R260). -/
def execLaneOutOfService (t lane : Nat) (s : State) : Result :=
  writes t 0 0x7010 lane 0x02 2 s

/-- LANE_RETURN (R260). -/
def execLaneReturn (t lane : Nat) (s : State) : Result :=
  writes t 0 0x7010 lane 0x02 3 s

/-- PORT_RATE (R259). -/
def execPortRate (t port v : Nat) (s : State) : Result :=
  writes t 0 0x7003 port 0x01 v s

/-- PORT_ENABLE (R259). -/
def execPortEnable (t port v : Nat) (s : State) : Result :=
  writes t 0 0x7003 port 0x02 v s

/-- BANK_FENCED (R268). -/
def execBankFenced (t bank v : Nat) (s : State) : Result :=
  writes t 0 0x7810 bank 0x02 v s

/-- RET_COMMIT (R273). -/
def execRetCommit (t v : Nat) (s : State) : Result :=
  writes t 0 0x9000 0 0x02 v s

/-- CHANNEL_OFFLINE (R290). -/
def execChannelOffline (t channel : Nat) (s : State) : Result :=
  writes t 0 0x7820 channel 0x02 1 s

/-- CHANNEL_RETRAIN (R290). -/
def execChannelRetrain (t channel : Nat) (s : State) : Result :=
  writes t 0 0x7820 channel 0x02 2 s

/-- CHANNEL_RETURN (R292). -/
def execChannelReturn (t channel : Nat) (s : State) : Result :=
  writes t 0 0x7820 channel 0x02 3 s

/-- RATIO_SET (R299). -/
def execRatioSet (t island v : Nat) (s : State) : Result :=
  writes t 0 0x2010 island 0x02 v s

/-- CHORD_KILL (R339). -/
def execChordKill (t slot v : Nat) (s : State) : Result :=
  writes t 0 0x1020 slot 0x06 v s

/-- FW_VERIFY (R344). -/
def execFwVerify (t slot : Nat) (s : State) : Result :=
  writes t 0 0x9101 0 0x01 slot s

/-- FW_SWITCH (R345). -/
def execFwSwitch (t slot : Nat) (s : State) : Result :=
  writes t 0 0x9101 0 0x02 slot s

/-- STEP_NOW (R361). -/
def execStepNow (t v : Nat) (s : State) : Result :=
  writes t 0 0x8000 0 0x14 v s

/-- SD_CLEAR (R378). -/
def execSdClear (t v : Nat) (s : State) : Result :=
  writes t 0 0x2804 0 0x0A v s

/-- CAL_COURSE (R385). -/
def execCalCourse (t course : Nat) (s : State) : Result :=
  if course < 16 then writes t 0 0x2830 0 0x01 course s else .fault .noSuchUnit

/-- CAL_TILE (R385). -/
def execCalTile (t : Nat) (s : State) : Result :=
  writes t 0 0x2830 0 0x01 16 s

/-- CAL_ABORT (R386). -/
def execCalAbort (t : Nat) (s : State) : Result :=
  writes t 0 0x2830 0 0x01 255 s

/-- WARM_RESTART (R398). -/
def execWarmRestart (t v : Nat) (s : State) : Result :=
  writes t 0 0x1890 0 0x04 v s

/-- CV_KIND (R388). -/
def execCvKind (t unit master v : Nat) (s : State) : Result :=
  writes t master 0x2840 unit 0x01 v s

/-- CV_RESET (R388). -/
def execCvReset (t unit master v : Nat) (s : State) : Result :=
  writes t master 0x2840 unit 0x02 v s

/-- CV_FEED8 (R388). -/
def execCvFeed8 (t unit master v : Nat) (s : State) : Result :=
  writes t master 0x2840 unit 0x03 v s

/-- CV_FEED16 (R388). -/
def execCvFeed16 (t unit master v : Nat) (s : State) : Result :=
  writes t master 0x2840 unit 0x04 v s

/-- CV_FEED32 (R388). -/
def execCvFeed32 (t unit master v : Nat) (s : State) : Result :=
  writes t master 0x2840 unit 0x05 v s

/-- CV_CHECK (R390). -/
def execCvCheck (t unit master v : Nat) (s : State) : Result :=
  writes t master 0x2840 unit 0x0A v s

/-- GATE_CLOSE (R305): a subsystem gate of 2020, or a unit gate of 2030. -/
def execGateClose (t : Nat) (unit : Bool) (element : Nat) (s : State) : Result :=
  writes t 0 (if unit then 0x2030 else 0x2020) element 0x01 0 s

/-- GATE_OPEN (R307). -/
def execGateOpen (t : Nat) (unit : Bool) (element : Nat) (s : State) : Result :=
  writes t 0 (if unit then 0x2030 else 0x2020) element 0x01 1 s

/-- MASTER_KEY (R327). -/
def execMasterKey (t master : Nat) (key : Bytes) (s : State) : Result :=
  writesBytes t 0x1002 master 0x01 0 key s

/-- PATH_ENABLE (R327, R348): the network ports, or the host link. -/
def execPathEnable (t : Nat) (network : Bool) (v : Nat) (s : State) : Result :=
  writes t 0 0x1000 0 (if network then 0x03 else 0x02) v s

/-- FW_IMAGE (R344). -/
def execFwImage (t slot offset : Nat) (data : Bytes) (s : State) : Result :=
  writesBytes t 0x9100 slot 0x01 offset data s

end Sys2Proof.Machine
end

