-- ==== Sys2Proof/Machine/Tap.lean ====
section
/-!
DEFINITION. The test access port (R436): what its instruction register holds after Update-IR.
-/

namespace Sys2Proof.Machine

/-- Update-IR (R436): EXTEST, CLAMP and HIGHZ give BYPASS while RESET_N is high, and every code without
a name acts as BYPASS. -/
def State.updateIr (s : State) (code : BitVec 8) : State :=
  let drives := code = 0x00#8 ∨ code = 0x02#8 ∨ code = 0x03#8
  { s with tapIr :=
      if drives then (if s.clock.resetN then 0xFF#8 else code)
      else if code = 0x01#8 then code
      else 0xFF#8 }

/-- EXTEST (R436). -/
def execExtest (t : Nat) (s : State) : Result := .next ((s.enter t).updateIr 0x00#8)

/-- SAMPLE_PRELOAD (R436). -/
def execSamplePreload (t : Nat) (s : State) : Result := .next ((s.enter t).updateIr 0x01#8)

/-- CLAMP (R436). -/
def execClamp (t : Nat) (s : State) : Result := .next ((s.enter t).updateIr 0x02#8)

/-- HIGHZ (R436). -/
def execHighz (t : Nat) (s : State) : Result := .next ((s.enter t).updateIr 0x03#8)

/-- BYPASS (R436). -/
def execBypass (t : Nat) (s : State) : Result := .next ((s.enter t).updateIr 0xFF#8)

/-- TAP_RESET (R436): Test-Logic-Reset selects BYPASS. -/
def execTapReset (t : Nat) (s : State) : Result :=
  let s1 := s.enter t
  .next { s1 with tapIr := 0xFF#8 }

end Sys2Proof.Machine
end

