-- ==== Sys2Proof/Machine/Dispatch.lean ====
section
/-! DEFINITION. Every command and its meaning, one arm for each row of the table. -/

namespace Sys2Proof.Machine

/-- The effect of a command on everything but the queue. -/
def exec (i : Instr) (s : State) : Host.Outcome State Fault Refusal :=
  match i with
  | .parcelHeaderArrives t port hdr => Sys2Proof.Machine.execParcelHeaderArrives t port hdr s
  | .relayParcelStart t port => Sys2Proof.Machine.execRelayParcelStart t port s
  | .tile t port parcel => Sys2Proof.Machine.execTile t port parcel s
  | .frameHeader t port parcel => Sys2Proof.Machine.execFrameHeader t port parcel s
  | .frameClose t port parcel => Sys2Proof.Machine.execFrameClose t port parcel s
  | .cueTrigger t port parcel => Sys2Proof.Machine.execCueTrigger t port parcel s
  | .layerData t port parcel => Sys2Proof.Machine.execLayerData t port parcel s
  | .spillCopyDone t => Sys2Proof.Machine.execSpillCopyDone t s
  | .cueCopyDone t => Sys2Proof.Machine.execCueCopyDone t s
  | .cueGo t v => Sys2Proof.Machine.execCueGo t v s
  | .cueClear t cue v => Sys2Proof.Machine.execCueClear t cue v s
  | .counterClear t object v => Sys2Proof.Machine.execCounterClear t object v s
  | .memberWrite t object element member v => Sys2Proof.Machine.execMemberWrite t object element member v s
  | .latchPoint t => Sys2Proof.Machine.execLatchPoint t s
  | .nutMark t => Sys2Proof.Machine.execNutMark t s
  | .fretBoundary t => Sys2Proof.Machine.execFretBoundary t s
  | .planeSlotStart t ecc => Sys2Proof.Machine.execPlaneSlotStart t ecc s
  | .pluck t course => Sys2Proof.Machine.execPluck t course s
  | .loadCutoff t half undelivered => Sys2Proof.Machine.execLoadCutoff t half undelivered s
  | .synthesisDeadline t => Sys2Proof.Machine.execSynthesisDeadline t s
  | .bandDispatch t => Sys2Proof.Machine.execBandDispatch t s
  | .tileDecodeDone t lane ecc => Sys2Proof.Machine.execTileDecodeDone t lane ecc s
  | .decodeSelftest t failing => Sys2Proof.Machine.execDecodeSelftest t failing s
  | .dlaneFenced t lane v => Sys2Proof.Machine.execDlaneFenced t lane v s
  | .bandSynthesisStart t ecc => Sys2Proof.Machine.execBandSynthesisStart t ecc s
  | .bandCommit t ecc => Sys2Proof.Machine.execBandCommit t ecc s
  | .engineSelftest t failing => Sys2Proof.Machine.execEngineSelftest t failing s
  | .engFenced t engine v => Sys2Proof.Machine.execEngFenced t engine v s
  | .compositionStart t => Sys2Proof.Machine.execCompositionStart t s
  | .tileCompressStart found => Sys2Proof.Machine.execTileCompressStart found s
  | .compressionDone t lane mismatch => Sys2Proof.Machine.execCompressionDone t lane mismatch s
  | .claneFenced t lane v => Sys2Proof.Machine.execClaneFenced t lane v s
  | .captureDone t => Sys2Proof.Machine.execCaptureDone t s
  | .displayStartPoint t => Sys2Proof.Machine.execDisplayStartPoint t s
  | .displayRunStart t => Sys2Proof.Machine.execDisplayRunStart t s
  | .displayRunStop t => Sys2Proof.Machine.execDisplayRunStop t s
  | .timingMode t v => Sys2Proof.Machine.execTimingMode t v s
  | .glideFretEdge t => Sys2Proof.Machine.execGlideFretEdge t s
  | .panelStatus t half block => Sys2Proof.Machine.execPanelStatus t half block s
  | .panelStatusTimeout t half => Sys2Proof.Machine.execPanelStatusTimeout t half s
  | .panelStatusLost t half => Sys2Proof.Machine.execPanelStatusLost t half s
  | .pnlPgRise t n => Sys2Proof.Machine.execPnlPgRise t n s
  | .pnlPgFall t n => Sys2Proof.Machine.execPnlPgFall t n s
  | .railDelayExpiry t => Sys2Proof.Machine.execRailDelayExpiry t s
  | .pgTimeout t => Sys2Proof.Machine.execPgTimeout t s
  | .clearBeforeLight t half => Sys2Proof.Machine.execClearBeforeLight t half s
  | .exerciseLatch t half => Sys2Proof.Machine.execExerciseLatch t half s
  | .parkTimeExpiry t half => Sys2Proof.Machine.execParkTimeExpiry t half s
  | .dischargeStepExpiry t half => Sys2Proof.Machine.execDischargeStepExpiry t half s
  | .faultRearm t v => Sys2Proof.Machine.execFaultRearm t v s
  | .panelPower t v => Sys2Proof.Machine.execPanelPower t v s
  | .droneEnter t => Sys2Proof.Machine.execDroneEnter t s
  | .droneLeave t => Sys2Proof.Machine.execDroneLeave t s
  | .droneRefresh t => Sys2Proof.Machine.execDroneRefresh t s
  | .dronePeriod t => Sys2Proof.Machine.execDronePeriod t s
  | .coursePollTimer t course => Sys2Proof.Machine.execCoursePollTimer t course s
  | .referenceWindowOpen t => Sys2Proof.Machine.execReferenceWindowOpen t s
  | .pilotFire t course pilot => Sys2Proof.Machine.execPilotFire t course pilot s
  | .monitorSample t course frame => Sys2Proof.Machine.execMonitorSample t course frame s
  | .pilotSample t course frame => Sys2Proof.Machine.execPilotSample t course frame s
  | .driverStatusFrame t course frame => Sys2Proof.Machine.execDriverStatusFrame t course frame s
  | .uplinkTimeout t course => Sys2Proof.Machine.execUplinkTimeout t course s
  | .emitInhAssert t => Sys2Proof.Machine.execEmitInhAssert t s
  | .emitInhRelease t => Sys2Proof.Machine.execEmitInhRelease t s
  | .emitInhStuck t => Sys2Proof.Machine.execEmitInhStuck t s
  | .chatterEnd t input => Sys2Proof.Machine.execChatterEnd t input s
  | .openLoopFallback t string => Sys2Proof.Machine.execOpenLoopFallback t string s
  | .linReset t v => Sys2Proof.Machine.execLinReset t v s
  | .encoderEdge t a b => Sys2Proof.Machine.execEncoderEdge t a b s
  | .measuredNutMark t => Sys2Proof.Machine.execMeasuredNutMark t s
  | .countEdgeTimeout t => Sys2Proof.Machine.execCountEdgeTimeout t s
  | .driveCommandTimer t => Sys2Proof.Machine.execDriveCommandTimer t s
  | .driveStatus t frame => Sys2Proof.Machine.execDriveStatus t frame s
  | .driveStatusTimeout t => Sys2Proof.Machine.execDriveStatusTimeout t s
  | .spinUp t => Sys2Proof.Machine.execSpinUp t s
  | .spinUpTimeout t => Sys2Proof.Machine.execSpinUpTimeout t s
  | .wheelRestTimeout t => Sys2Proof.Machine.execWheelRestTimeout t s
  | .wheelEnable t => Sys2Proof.Machine.execWheelEnable t s
  | .wheelBrake t => Sys2Proof.Machine.execWheelBrake t s
  | .rearm t v => Sys2Proof.Machine.execRearm t v s
  | .freeInput t slot v => Sys2Proof.Machine.execFreeInput t slot v s
  | .preset t slot v => Sys2Proof.Machine.execPreset t slot v s
  | .blockData t lane block => Sys2Proof.Machine.execBlockData t lane block s
  | .parcelStart t lane block => Sys2Proof.Machine.execParcelStart t lane block s
  | .parcelAbort t lane block => Sys2Proof.Machine.execParcelAbort t lane block s
  | .acknowledge t lane block => Sys2Proof.Machine.execAcknowledge t lane block s
  | .replayTimeout t lane => Sys2Proof.Machine.execReplayTimeout t lane s
  | .ackSendTimer t port => Sys2Proof.Machine.execAckSendTimer t port s
  | .marker t lane block => Sys2Proof.Machine.execMarker t lane block s
  | .filler t lane block fill => Sys2Proof.Machine.execFiller t lane block fill s
  | .training t lane block => Sys2Proof.Machine.execTraining t lane block s
  | .sleep t lane block => Sys2Proof.Machine.execSleep t lane block s
  | .laneMap t lane block => Sys2Proof.Machine.execLaneMap t lane block s
  | .reservedBlock t lane block => Sys2Proof.Machine.execReservedBlock t lane block s
  | .signalDetect t lane => Sys2Proof.Machine.execSignalDetect t lane s
  | .cdrLock t lane preset margin => Sys2Proof.Machine.execCdrLock t lane preset margin s
  | .bringUpStageTimeout t lane => Sys2Proof.Machine.execBringUpStageTimeout t lane s
  | .bringUpRetry t lane => Sys2Proof.Machine.execBringUpRetry t lane s
  | .laneLockLoss t lane => Sys2Proof.Machine.execLaneLockLoss t lane s
  | .portSleepTimer t port => Sys2Proof.Machine.execPortSleepTimer t port s
  | .laneRetrain t lane => Sys2Proof.Machine.execLaneRetrain t lane s
  | .laneOutOfService t lane => Sys2Proof.Machine.execLaneOutOfService t lane s
  | .laneReturn t lane => Sys2Proof.Machine.execLaneReturn t lane s
  | .portRate t port v => Sys2Proof.Machine.execPortRate t port v s
  | .portEnable t port v => Sys2Proof.Machine.execPortEnable t port v s
  | .bankFenced t bank v => Sys2Proof.Machine.execBankFenced t bank v s
  | .bankCopyDone t => Sys2Proof.Machine.execBankCopyDone t s
  | .journalCommitTimer t => Sys2Proof.Machine.execJournalCommitTimer t s
  | .retCommit t v => Sys2Proof.Machine.execRetCommit t v s
  | .journalCommitDone t => Sys2Proof.Machine.execJournalCommitDone t s
  | .journalHalfEmptied t => Sys2Proof.Machine.execJournalHalfEmptied t s
  | .dramRequest t port addr len data => Sys2Proof.Machine.execDramRequest t port addr len data s
  | .urgencyRise t request => Sys2Proof.Machine.execUrgencyRise t request s
  | .dramRequestDone t request crcOk => Sys2Proof.Machine.execDramRequestDone t request crcOk s
  | .ddrAlert t request => Sys2Proof.Machine.execDdrAlert t request s
  | .inplaceRetrainDone t channel ok => Sys2Proof.Machine.execInplaceRetrainDone t channel ok s
  | .ddrRefreshTimer t channel => Sys2Proof.Machine.execDdrRefreshTimer t channel s
  | .dqsOscTimer t channel count => Sys2Proof.Machine.execDqsOscTimer t channel count s
  | .zqCalTimer t channel => Sys2Proof.Machine.execZqCalTimer t channel s
  | .ddrTrainingDone t channel result => Sys2Proof.Machine.execDdrTrainingDone t channel result s
  | .channelOffline t channel => Sys2Proof.Machine.execChannelOffline t channel s
  | .channelRetrain t channel => Sys2Proof.Machine.execChannelRetrain t channel s
  | .channelReturn t channel => Sys2Proof.Machine.execChannelReturn t channel s
  | .chunkMoveDone t => Sys2Proof.Machine.execChunkMoveDone t s
  | .resetRelease t => Sys2Proof.Machine.execResetRelease t s
  | .resetAssert t => Sys2Proof.Machine.execResetAssert t s
  | .pllLock t => Sys2Proof.Machine.execPllLock t s
  | .pllSlip t => Sys2Proof.Machine.execPllSlip t s
  | .pllLockTimeout t => Sys2Proof.Machine.execPllLockTimeout t s
  | .hclkLoss t => Sys2Proof.Machine.execHclkLoss t s
  | .holdPhaseEnd t => Sys2Proof.Machine.execHoldPhaseEnd t s
  | .hclkQualified t => Sys2Proof.Machine.execHclkQualified t s
  | .ratioRampStep t island => Sys2Proof.Machine.execRatioRampStep t island s
  | .ratioSet t island v => Sys2Proof.Machine.execRatioSet t island v s
  | .muxForcedSwitch t island => Sys2Proof.Machine.execMuxForcedSwitch t island s
  | .gateClose t unit element => Sys2Proof.Machine.execGateClose t unit element s
  | .gateIdle t => Sys2Proof.Machine.execGateIdle t s
  | .gateCloseTimeout t => Sys2Proof.Machine.execGateCloseTimeout t s
  | .gateOpen t unit element => Sys2Proof.Machine.execGateOpen t unit element s
  | .railUndervoltage t rail => Sys2Proof.Machine.execRailUndervoltage t rail s
  | .railOvervoltage t rail => Sys2Proof.Machine.execRailOvervoltage t rail s
  | .openSession t path peer msg => Sys2Proof.Machine.execOpenSession t path peer msg s
  | .close t path peer msg => Sys2Proof.Machine.execClose t path peer msg s
  | .read t path peer msg => Sys2Proof.Machine.execRead t path peer msg s
  | .write t path peer msg => Sys2Proof.Machine.execWrite t path peer msg s
  | .writeItemHandoff t => Sys2Proof.Machine.execWriteItemHandoff t s
  | .chordBegin t path peer msg => Sys2Proof.Machine.execChordBegin t path peer msg s
  | .commitNow t path peer msg => Sys2Proof.Machine.execCommitNow t path peer msg s
  | .commitNextFret t path peer msg => Sys2Proof.Machine.execCommitNextFret t path peer msg s
  | .commitNextFrame t path peer msg => Sys2Proof.Machine.execCommitNextFrame t path peer msg s
  | .commitAtTime t path peer msg => Sys2Proof.Machine.execCommitAtTime t path peer msg s
  | .chordHandoff t slot => Sys2Proof.Machine.execChordHandoff t slot s
  | .atTimeReached t slot => Sys2Proof.Machine.execAtTimeReached t slot s
  | .abortChord t path peer msg => Sys2Proof.Machine.execAbortChord t path peer msg s
  | .chordIdleTimeout t slot => Sys2Proof.Machine.execChordIdleTimeout t slot s
  | .chordKill t slot v => Sys2Proof.Machine.execChordKill t slot v s
  | .keepalive t path peer msg => Sys2Proof.Machine.execKeepalive t path peer msg s
  | .eventAck t path peer msg => Sys2Proof.Machine.execEventAck t path peer msg s
  | .sessionTimeout t master => Sys2Proof.Machine.execSessionTimeout t master s
  | .eventSend t master => Sys2Proof.Machine.execEventSend t master s
  | .eventResendTimer t master => Sys2Proof.Machine.execEventResendTimer t master s
  | .masterKey t master key => Sys2Proof.Machine.execMasterKey t master key s
  | .pathEnable t network v => Sys2Proof.Machine.execPathEnable t network v s
  | .fwImage t slot offset data => Sys2Proof.Machine.execFwImage t slot offset data s
  | .fwVerify t slot => Sys2Proof.Machine.execFwVerify t slot s
  | .fwVerifyDone t slot => Sys2Proof.Machine.execFwVerifyDone t slot s
  | .fwSwitch t slot => Sys2Proof.Machine.execFwSwitch t slot s
  | .handoverDone t => Sys2Proof.Machine.execHandoverDone t s
  | .handoverTimeout t => Sys2Proof.Machine.execHandoverTimeout t s
  | .watchdogTakeover t => Sys2Proof.Machine.execWatchdogTakeover t s
  | .ethFrameRx t port frame fcsOk => Sys2Proof.Machine.execEthFrameRx t port frame fcsOk s
  | .relayFrameTx t port => Sys2Proof.Machine.execRelayFrameTx t port s
  | .sync t port frame => Sys2Proof.Machine.execSync t port frame s
  | .followUp t port frame => Sys2Proof.Machine.execFollowUp t port frame s
  | .delayResp t port frame => Sys2Proof.Machine.execDelayResp t port frame s
  | .announce t port frame => Sys2Proof.Machine.execAnnounce t port frame s
  | .announceTimeout t slot => Sys2Proof.Machine.execAnnounceTimeout t slot s
  | .delayReqSend t slot => Sys2Proof.Machine.execDelayReqSend t slot s
  | .neighborSolicitation t port frame => Sys2Proof.Machine.execNeighborSolicitation t port frame s
  | .echoRequest t port frame => Sys2Proof.Machine.execEchoRequest t port frame s
  | .dadDone t globalAddr duplicate => Sys2Proof.Machine.execDadDone t globalAddr duplicate s
  | .ethLinkChange t port up => Sys2Proof.Machine.execEthLinkChange t port up s
  | .revertTimer t => Sys2Proof.Machine.execRevertTimer t s
  | .freeRunTimer t => Sys2Proof.Machine.execFreeRunTimer t s
  | .holdoverNotice t => Sys2Proof.Machine.execHoldoverNotice t s
  | .slewDone t => Sys2Proof.Machine.execSlewDone t s
  | .stepNow t v => Sys2Proof.Machine.execStepNow t v s
  | .thermalEvaluation t powers diodes => Sys2Proof.Machine.execThermalEvaluation t powers diodes s
  | .modelMismatch t diode => Sys2Proof.Machine.execModelMismatch t diode s
  | .fastThrottleRelease t => Sys2Proof.Machine.execFastThrottleRelease t s
  | .throttleStepTimer t => Sys2Proof.Machine.execThrottleStepTimer t s
  | .lifeSecond t => Sys2Proof.Machine.execLifeSecond t s
  | .sdClear t v => Sys2Proof.Machine.execSdClear t v s
  | .probePresenceTimer t => Sys2Proof.Machine.execProbePresenceTimer t s
  | .probeReading t word => Sys2Proof.Machine.execProbeReading t word s
  | .calCourse t course => Sys2Proof.Machine.execCalCourse t course s
  | .calTile t => Sys2Proof.Machine.execCalTile t s
  | .calAbort t => Sys2Proof.Machine.execCalAbort t s
  | .calPluck t => Sys2Proof.Machine.execCalPluck t s
  | .calTimeout t => Sys2Proof.Machine.execCalTimeout t s
  | .cvKind t unit master v => Sys2Proof.Machine.execCvKind t unit master v s
  | .cvReset t unit master v => Sys2Proof.Machine.execCvReset t unit master v s
  | .cvFeed8 t unit master v => Sys2Proof.Machine.execCvFeed8 t unit master v s
  | .cvFeed16 t unit master v => Sys2Proof.Machine.execCvFeed16 t unit master v s
  | .cvFeed32 t unit master v => Sys2Proof.Machine.execCvFeed32 t unit master v s
  | .cvCheck t unit master v => Sys2Proof.Machine.execCvCheck t unit master v s
  | .cvOwnerTimeout t unit => Sys2Proof.Machine.execCvOwnerTimeout t unit s
  | .pfail t => Sys2Proof.Machine.execPfail t s
  | .autoRestartTimer t => Sys2Proof.Machine.execAutoRestartTimer t s
  | .warmRestart t v => Sys2Proof.Machine.execWarmRestart t v s
  | .retainedRestoreDone t damage => Sys2Proof.Machine.execRetainedRestoreDone t damage s
  | .firmwareBootDone t => Sys2Proof.Machine.execFirmwareBootDone t s
  | .islandRampsDone t failedBanks => Sys2Proof.Machine.execIslandRampsDone t failedBanks s
  | .islandError t island => Sys2Proof.Machine.execIslandError t island s
  | .islandRestartDone t island => Sys2Proof.Machine.execIslandRestartDone t island s
  | .extest t => Sys2Proof.Machine.execExtest t s
  | .samplePreload t => Sys2Proof.Machine.execSamplePreload t s
  | .clamp t => Sys2Proof.Machine.execClamp t s
  | .highz t => Sys2Proof.Machine.execHighz t s
  | .bypass t => Sys2Proof.Machine.execBypass t s
  | .tapReset t => Sys2Proof.Machine.execTapReset t s
  | .fretBoundaryOverdue t => Sys2Proof.Machine.execFretBoundaryOverdue t s
  | .fretFMinus1End t => Sys2Proof.Machine.execFretFMinus1End t s
  | .pfailRelease t => Sys2Proof.Machine.execPfailRelease t s
  | .railReturn t rail => Sys2Proof.Machine.execRailReturn t rail s
  | .malformedMessage t path => Sys2Proof.Machine.execMalformedMessage t path s
  | .badUplinkFrame t course frame => Sys2Proof.Machine.execBadUplinkFrame t course frame s

end Sys2Proof.Machine
end

