-- ==== Sys2Proof/WellFormed.lean ====
section
/-!
DEFINITION. Commands that name only what the device has: the units of R2, R13, R43, R72, R184, R239,
R268, R277, R299, R320, R332 and R349, and ECC findings that name a word of the stage store. A write
that names no member is well formed: the device refuses it with a code (R318, R330). A command that is not well
formed stops with the fault `noSuchUnit`.
-/

namespace Sys2Proof

/-- The findings name a bank, a 128-byte line of it and a 64-bit word of the line (R265, R267). -/
def eccListed (l : List Ecc) : Bool :=
  l.all fun e => decide (e.bank < 256 ∧ e.line < 7168 ∧ e.word < 16)

/-- The data of a DRAM write is as long as the request. -/
def lengthMatches (data : Option Bytes) (len : Nat) : Bool :=
  match data with
  | some bs => bs.length == len
  | none => true

/-- The command names only what the device has. -/
def Instr.wf (i : Instr) : Bool :=
  match i with
  | .parcelHeaderArrives _ port _ => decide (port < 8)
  | .relayParcelStart _ port => decide (port < 8)
  | .tile _ port _ => decide (port < 8)
  | .frameHeader _ port _ => decide (port < 8)
  | .frameClose _ port _ => decide (port < 8)
  | .cueTrigger _ port _ => decide (port < 8)
  | .layerData _ port _ => decide (port < 8)
  | .spillCopyDone _ => true
  | .cueCopyDone _ => true
  | .cueGo _ _ => true
  | .cueClear _ _ _ => true
  | .counterClear _ _ _ => true
  | .memberWrite _ _ _ _ _ => true
  | .latchPoint _ => true
  | .nutMark _ => true
  | .fretBoundary _ => true
  | .planeSlotStart _ ecc => eccListed ecc
  | .pluck _ course => decide (course < 16)
  | .loadCutoff _ half _ => decide (half < 2)
  | .synthesisDeadline _ => true
  | .bandDispatch _ => true
  | .tileDecodeDone _ lane ecc => decide (lane < 272) && eccListed ecc
  | .decodeSelftest _ failing => failing.all fun n => decide (n < 272)
  | .dlaneFenced _ _ _ => true
  | .bandSynthesisStart _ ecc => eccListed ecc
  | .bandCommit _ ecc => eccListed ecc
  | .engineSelftest _ failing => failing.all fun n => decide (n < 136)
  | .engFenced _ _ _ => true
  | .compositionStart _ => true
  | .tileCompressStart found => eccListed found.ecc
  | .compressionDone _ lane _ => decide (lane < 16)
  | .claneFenced _ _ _ => true
  | .captureDone _ => true
  | .displayStartPoint _ => true
  | .displayRunStart _ => true
  | .displayRunStop _ => true
  | .timingMode _ _ => true
  | .glideFretEdge _ => true
  | .panelStatus _ half _ => decide (half < 2)
  | .panelStatusTimeout _ half => decide (half < 2)
  | .panelStatusLost _ half => decide (half < 2)
  | .pnlPgRise _ n => decide (n < 4)
  | .pnlPgFall _ n => decide (n < 4)
  | .railDelayExpiry _ => true
  | .pgTimeout _ => true
  | .clearBeforeLight _ half => decide (half < 2)
  | .exerciseLatch _ half => decide (half < 2)
  | .parkTimeExpiry _ half => decide (half < 2)
  | .dischargeStepExpiry _ half => decide (half < 2)
  | .faultRearm _ _ => true
  | .panelPower _ _ => true
  | .droneEnter _ => true
  | .droneLeave _ => true
  | .droneRefresh _ => true
  | .dronePeriod _ => true
  | .coursePollTimer _ course => decide (course < 16)
  | .referenceWindowOpen _ => true
  | .pilotFire _ course pilot => decide (course < 16) && decide (pilot < 6)
  | .monitorSample _ course _ => decide (course < 16)
  | .pilotSample _ course _ => decide (course < 16)
  | .driverStatusFrame _ course _ => decide (course < 16)
  | .uplinkTimeout _ course => decide (course < 16)
  | .emitInhAssert _ => true
  | .emitInhRelease _ => true
  | .emitInhStuck _ => true
  | .chatterEnd _ input => decide (input < 7)
  | .openLoopFallback _ string => decide (string < 48)
  | .linReset _ _ => true
  | .encoderEdge _ _ _ => true
  | .measuredNutMark _ => true
  | .countEdgeTimeout _ => true
  | .driveCommandTimer _ => true
  | .driveStatus _ _ => true
  | .driveStatusTimeout _ => true
  | .spinUp _ => true
  | .spinUpTimeout _ => true
  | .wheelRestTimeout _ => true
  | .wheelEnable _ => true
  | .wheelBrake _ => true
  | .rearm _ _ => true
  | .freeInput _ _ _ => true
  | .preset _ _ _ => true
  | .blockData _ lane _ => decide (lane < 192)
  | .parcelStart _ lane _ => decide (lane < 192)
  | .parcelAbort _ lane _ => decide (lane < 192)
  | .acknowledge _ lane _ => decide (lane < 192)
  | .replayTimeout _ lane => decide (lane < 192)
  | .ackSendTimer _ port => decide (port < 8)
  | .marker _ lane _ => decide (lane < 192)
  | .filler _ lane _ _ => decide (lane < 192)
  | .training _ lane _ => decide (lane < 192)
  | .sleep _ lane _ => decide (lane < 192)
  | .laneMap _ lane _ => decide (lane < 192)
  | .reservedBlock _ lane _ => decide (lane < 192)
  | .signalDetect _ lane => decide (lane < 192)
  | .cdrLock _ lane _ _ => decide (lane < 192)
  | .bringUpStageTimeout _ lane => decide (lane < 192)
  | .bringUpRetry _ lane => decide (lane < 192)
  | .laneLockLoss _ lane => decide (lane < 192)
  | .portSleepTimer _ port => decide (port < 8)
  | .laneRetrain _ _ => true
  | .laneOutOfService _ _ => true
  | .laneReturn _ _ => true
  | .portRate _ _ _ => true
  | .portEnable _ _ _ => true
  | .bankFenced _ _ _ => true
  | .bankCopyDone _ => true
  | .journalCommitTimer _ => true
  | .retCommit _ _ => true
  | .journalCommitDone _ => true
  | .journalHalfEmptied _ => true
  | .dramRequest _ port _ len data => decide (port < 7 ∧ 0 < len) && lengthMatches data len
  | .urgencyRise _ _ => true
  | .dramRequestDone _ _ _ => true
  | .ddrAlert _ _ => true
  | .inplaceRetrainDone _ channel _ => decide (channel < 4)
  | .ddrRefreshTimer _ channel => decide (channel < 4)
  | .dqsOscTimer _ channel _ => decide (channel < 4)
  | .zqCalTimer _ channel => decide (channel < 4)
  | .ddrTrainingDone _ channel _ => decide (channel < 4)
  | .channelOffline _ _ => true
  | .channelRetrain _ _ => true
  | .channelReturn _ _ => true
  | .chunkMoveDone _ => true
  | .resetRelease _ => true
  | .resetAssert _ => true
  | .pllLock _ => true
  | .pllSlip _ => true
  | .pllLockTimeout _ => true
  | .hclkLoss _ => true
  | .holdPhaseEnd _ => true
  | .hclkQualified _ => true
  | .ratioRampStep _ island => decide (island < 14)
  | .ratioSet _ _ _ => true
  | .muxForcedSwitch _ island => decide (island < 14)
  | .gateClose _ _ _ => true
  | .gateIdle _ => true
  | .gateCloseTimeout _ => true
  | .gateOpen _ _ _ => true
  | .railUndervoltage _ rail => decide (rail < 7)
  | .railOvervoltage _ rail => decide (rail < 7)
  | .openSession _ path _ _ => decide (path < 3)
  | .close _ path _ _ => decide (path < 3)
  | .read _ path _ _ => decide (path < 3)
  | .write _ path _ _ => decide (path < 3)
  | .writeItemHandoff _ => true
  | .chordBegin _ path _ _ => decide (path < 3)
  | .commitNow _ path _ _ => decide (path < 3)
  | .commitNextFret _ path _ _ => decide (path < 3)
  | .commitNextFrame _ path _ _ => decide (path < 3)
  | .commitAtTime _ path _ _ => decide (path < 3)
  | .chordHandoff _ slot => decide (slot < 32)
  | .atTimeReached _ slot => decide (slot < 32)
  | .abortChord _ path _ _ => decide (path < 3)
  | .chordIdleTimeout _ slot => decide (slot < 32)
  | .chordKill _ _ _ => true
  | .keepalive _ path _ _ => decide (path < 3)
  | .eventAck _ path _ _ => decide (path < 3)
  | .sessionTimeout _ master => decide (1 ≤ master ∧ master ≤ 14)
  | .eventSend _ master => decide (1 ≤ master ∧ master ≤ 14)
  | .eventResendTimer _ master => decide (1 ≤ master ∧ master ≤ 14)
  | .masterKey _ _ _ => true
  | .pathEnable _ _ _ => true
  | .fwImage _ _ _ _ => true
  | .fwVerify _ _ => true
  | .fwVerifyDone _ slot => decide (slot < 2)
  | .fwSwitch _ _ => true
  | .handoverDone _ => true
  | .handoverTimeout _ => true
  | .watchdogTakeover _ => true
  | .ethFrameRx _ port _ _ => decide (port < 2)
  | .relayFrameTx _ port => decide (port < 2)
  | .sync _ port _ => decide (port < 2)
  | .followUp _ port _ => decide (port < 2)
  | .delayResp _ port _ => decide (port < 2)
  | .announce _ port _ => decide (port < 2)
  | .announceTimeout _ slot => decide (slot < 2)
  | .delayReqSend _ slot => decide (slot < 2)
  | .neighborSolicitation _ port _ => decide (port < 2)
  | .echoRequest _ port _ => decide (port < 2)
  | .dadDone _ _ _ => true
  | .ethLinkChange _ port _ => decide (port < 2)
  | .revertTimer _ => true
  | .freeRunTimer _ => true
  | .holdoverNotice _ => true
  | .slewDone _ => true
  | .stepNow _ _ => true
  | .thermalEvaluation _ _ _ => true
  | .modelMismatch _ diode => decide (diode < 4)
  | .fastThrottleRelease _ => true
  | .throttleStepTimer _ => true
  | .lifeSecond _ => true
  | .sdClear _ _ => true
  | .probePresenceTimer _ => true
  | .probeReading _ _ => true
  | .calCourse _ course => decide (course < 16)
  | .calTile _ => true
  | .calAbort _ => true
  | .calPluck _ => true
  | .calTimeout _ => true
  | .cvKind _ _ _ _ => true
  | .cvReset _ _ _ _ => true
  | .cvFeed8 _ _ _ _ => true
  | .cvFeed16 _ _ _ _ => true
  | .cvFeed32 _ _ _ _ => true
  | .cvCheck _ _ _ _ => true
  | .cvOwnerTimeout _ unit => decide (unit < 16)
  | .pfail _ => true
  | .autoRestartTimer _ => true
  | .warmRestart _ _ => true
  | .retainedRestoreDone _ _ => true
  | .firmwareBootDone _ => true
  | .islandRampsDone _ failedBanks => failedBanks.all fun n => decide (n < 256)
  | .islandError _ island => decide (island < 14)
  | .islandRestartDone _ island => decide (island < 14)
  | .extest _ => true
  | .samplePreload _ => true
  | .clamp _ => true
  | .highz _ => true
  | .bypass _ => true
  | .tapReset _ => true
  | .fretBoundaryOverdue _ => true
  | .fretFMinus1End _ => true
  | .pfailRelease _ => true
  | .railReturn _ rail => decide (rail < 7)
  | .malformedMessage _ path => decide (path < 3)
  | .badUplinkFrame _ course _ => decide (course < 16)

end Sys2Proof
end

