-- ==== Sys2Proof/Safety.lean ====
section
/-!
DEFINITION. What counts as a sound state and a safe command, in the terms the statements use: tables in
their canonical form, commands that complete, what a command leaves unchanged, and strings that stay dark.
-/

namespace Sys2Proof.Machine

/-- The member table lists rising keys and no member at its default (R2, R7). -/
def State.dictOk (s : State) : Bool :=
  keysRise s.dict && s.dict.all fun e => e.2 != dfltAt e.1

/-- The BLOB table lists rising keys and no empty value. -/
def State.blobsOk (s : State) : Bool := keysRise s.blobs && s.blobs.all fun e => e.2 != []

/-- DRAM has its canonical form. -/
def State.dramOk (s : State) : Bool := Memory.wf s.memory.dram

/-- The tables of the state have their canonical form: equal contents are equal data. -/
def State.sound (s : State) : Prop := s.dictOk = true ∧ s.blobsOk = true ∧ s.dramOk = true

/-- The command gives this next state. -/
def runs (i : Instr) (s s' : State) : Prop := exec i s = .next s'

/-- A counter went up by one, if it had room; what it shows past its largest value the spec leaves open. -/
def counted (s s' : State) (o e m : Nat) : Prop :=
  s.ve o e m + 1 < 2 ^ memberWidth o m → s'.ve o e m = s.ve o e m + 1

/-- Nothing waits for a boundary, a fret edge or a clock step: no change of members, of the scan-out
service, of drone mode or of wall time. -/
def State.calm (s : State) : Bool :=
  s.seq.pend.isEmpty && s.seq.nutPend.isEmpty && s.seq.serviceDue.isNone && !s.seq.droneDue &&
    s.net.stepTo.isNone

/-- A direct write of `len` bytes to a member by a master is accepted: its code of R330 is 0 (R8, R331). -/
def State.accepts (s : State) (t master len : Nat) (x : Staged) : Bool :=
  (s.enter t).writeCode { master := master, path := none, chord := false } x len 0 == 0

/-- A direct write of a value to a member is accepted. -/
def State.acceptsValue (s : State) (t master o e m v : Nat) : Bool :=
  s.accepts t master (memberWidth o m / 8) (stagedValue o e m v)

/-- A written value takes effect at once: the member's class is now, or display does not run (R8, R136). -/
def State.atOnce (s : State) (o e m : Nat) : Bool :=
  !s.displayRuns ||
    match rowOf o e m with
    | some r => classIn 0 r == 0
    | none => false

/-- The member takes its value and no unit acts on it. -/
def plainMember (s : State) (o e m v : Nat) : Bool :=
  match rowOf o e m with
  | some r => r.acc == .rw && r.ty != .blob &&
      (if o < 0x5000 then s.ownLow? 0 o e m v else s.ownHigh? o e m v).isNone
  | none => false

/-- No string gate rises in these outputs. -/
def dark (out : List Output) : Bool :=
  out.all fun o =>
    match o with
    | .gate _ _ _ => false
    | _ => true

/-! ### Frames -/

/-- The parts of the state beside the queue, the members, and the count of free values. -/
inductive Part where
  | now
  | out
  | blobs
  | ingress
  | codec
  | comp
  | ray
  | seq
  | panel
  | bridge
  | loop
  | lanes
  | memory
  | clock
  | mgmt
  | net
  | health
  | logs
  | tapIr
  deriving DecidableEq, Repr

/-- What may change: parts of the state, and ranges of members. A member is written 256 × object + member:
0x300201 is member 01 of object 3002, of every element. -/
structure Foot where
  parts : List Part
  keys : List (Nat × Nat)
  deriving DecidableEq, Repr

/-- The object and the member at a key, as a footprint writes them. -/
def keyCode (k : Nat) : Nat := keyObject k % 65536 * 256 + keyMember k

/-- The key is outside the footprint. -/
def Foot.free (F : Foot) (k : Nat) : Bool :=
  F.keys.all fun r => decide (keyCode k < r.1) || decide (r.2 < keyCode k)

/-- Between two states nothing outside the footprint changed: every member outside it reads as before,
and so does every part of the state that it does not name. The queue is left alone, sound tables stay
sound, and no free value is taken back. -/
structure Keeps (F : Foot) (s t : State) : Prop where
  pending : t.pending = s.pending
  sound : s.sound → t.sound
  freeIdx : s.freeIdx ≤ t.freeIdx
  keys : ∀ k, F.free k = true → tget? k t.dict = tget? k s.dict
  now : F.parts.contains .now = true ∨ t.now = s.now
  out : F.parts.contains .out = true ∨ t.out = s.out
  blobs : F.parts.contains .blobs = true ∨ t.blobs = s.blobs
  ingress : F.parts.contains .ingress = true ∨ t.ingress = s.ingress
  codec : F.parts.contains .codec = true ∨ t.codec = s.codec
  comp : F.parts.contains .comp = true ∨ t.comp = s.comp
  ray : F.parts.contains .ray = true ∨ t.ray = s.ray
  seq : F.parts.contains .seq = true ∨ t.seq = s.seq
  panel : F.parts.contains .panel = true ∨ t.panel = s.panel
  bridge : F.parts.contains .bridge = true ∨ t.bridge = s.bridge
  loop : F.parts.contains .loop = true ∨ t.loop = s.loop
  lanes : F.parts.contains .lanes = true ∨ t.lanes = s.lanes
  memory : F.parts.contains .memory = true ∨ t.memory = s.memory
  clock : F.parts.contains .clock = true ∨ t.clock = s.clock
  mgmt : F.parts.contains .mgmt = true ∨ t.mgmt = s.mgmt
  net : F.parts.contains .net = true ∨ t.net = s.net
  health : F.parts.contains .health = true ∨ t.health = s.health
  logs : F.parts.contains .logs = true ∨ t.logs = s.logs
  tapIr : F.parts.contains .tapIr = true ∨ t.tapIr = s.tapIr

/-! ### What each command may change -/

/-- The chapters that the commands come from. -/
inductive Area where
  /-- Scene stream, codec, compositor and ray synthesis (02 to 05). -/
  | content
  /-- The timeline and the panel (06, 07), and direct writes of members. -/
  | display
  /-- Strings, course links, the wheel and its loops (08, 09). -/
  | light
  /-- Lanes and memory (10, 11). -/
  | store
  /-- Clocks, power, start-up and the test access port (12, 16, 17). -/
  | supply
  /-- Management (13). -/
  | management
  /-- Network time (14). -/
  | network
  /-- Health, calibration and check values (15). -/
  | health
  deriving DecidableEq, Repr

/-- The chapter of a command. -/
def areaOf (c : Instr) : Area :=
  match c with
  | .parcelHeaderArrives .. | .relayParcelStart .. | .tile .. | .frameHeader .. | .frameClose .. |
    .cueTrigger .. | .layerData .. | .spillCopyDone .. | .cueCopyDone .. | .cueGo .. | .cueClear .. |
    .counterClear .. | .bandDispatch .. | .tileDecodeDone .. | .decodeSelftest .. | .dlaneFenced .. |
    .bandSynthesisStart .. | .engineSelftest .. | .engFenced .. | .compositionStart .. |
    .tileCompressStart .. | .compressionDone .. | .claneFenced .. | .captureDone .. | .parcelStart .. =>
    .content
  | .memberWrite .. | .latchPoint .. | .nutMark .. | .fretBoundary .. | .planeSlotStart .. | .loadCutoff
    .. | .synthesisDeadline .. | .bandCommit .. | .displayStartPoint .. | .displayRunStart .. |
    .displayRunStop .. | .timingMode .. | .glideFretEdge .. | .panelStatus .. | .panelStatusTimeout .. |
    .panelStatusLost .. | .pnlPgRise .. | .pnlPgFall .. | .railDelayExpiry .. | .pgTimeout .. |
    .clearBeforeLight .. | .exerciseLatch .. | .parkTimeExpiry .. | .dischargeStepExpiry .. |
    .faultRearm .. | .panelPower .. | .droneEnter .. | .droneLeave .. | .droneRefresh .. |
    .fretBoundaryOverdue .. | .fretFMinus1End .. => .display
  | .pluck .. | .dronePeriod .. | .coursePollTimer .. | .referenceWindowOpen .. | .pilotFire .. |
    .monitorSample .. | .pilotSample .. | .driverStatusFrame .. | .uplinkTimeout .. | .emitInhAssert ..
    | .emitInhRelease .. | .emitInhStuck .. | .openLoopFallback .. | .linReset .. | .encoderEdge .. |
    .measuredNutMark .. | .countEdgeTimeout .. | .driveCommandTimer .. | .driveStatus .. |
    .driveStatusTimeout .. | .spinUp .. | .spinUpTimeout .. | .wheelRestTimeout .. | .wheelEnable .. |
    .wheelBrake .. | .rearm .. | .freeInput .. | .preset .. | .badUplinkFrame .. => .light
  | .blockData .. | .parcelAbort .. | .acknowledge .. | .replayTimeout .. | .ackSendTimer .. | .marker
    .. | .filler .. | .training .. | .sleep .. | .laneMap .. | .reservedBlock .. | .signalDetect .. |
    .cdrLock .. | .bringUpStageTimeout .. | .bringUpRetry .. | .laneLockLoss .. | .portSleepTimer .. |
    .laneRetrain .. | .laneOutOfService .. | .laneReturn .. | .portRate .. | .portEnable .. |
    .bankFenced .. | .bankCopyDone .. | .journalCommitTimer .. | .retCommit .. | .journalCommitDone .. |
    .journalHalfEmptied .. | .dramRequest .. | .urgencyRise .. | .dramRequestDone .. | .ddrAlert .. |
    .inplaceRetrainDone .. | .ddrRefreshTimer .. | .dqsOscTimer .. | .zqCalTimer .. | .ddrTrainingDone
    .. | .channelOffline .. | .channelRetrain .. | .channelReturn .. | .chunkMoveDone .. |
    .retainedRestoreDone .. => .store
  | .chatterEnd .. | .resetRelease .. | .resetAssert .. | .pllLock .. | .pllSlip .. | .pllLockTimeout ..
    | .hclkLoss .. | .holdPhaseEnd .. | .hclkQualified .. | .ratioRampStep .. | .ratioSet .. |
    .muxForcedSwitch .. | .gateClose .. | .gateIdle .. | .gateCloseTimeout .. | .gateOpen .. |
    .railUndervoltage .. | .railOvervoltage .. | .pfail .. | .autoRestartTimer .. | .warmRestart .. |
    .islandRampsDone .. | .islandError .. | .islandRestartDone .. | .extest .. | .samplePreload .. |
    .clamp .. | .highz .. | .bypass .. | .tapReset .. | .pfailRelease .. | .railReturn .. => .supply
  | .openSession .. | .close .. | .read .. | .write .. | .writeItemHandoff .. | .chordBegin .. |
    .commitNow .. | .commitNextFret .. | .commitNextFrame .. | .commitAtTime .. | .chordHandoff .. |
    .atTimeReached .. | .abortChord .. | .chordIdleTimeout .. | .chordKill .. | .keepalive .. |
    .eventAck .. | .sessionTimeout .. | .eventSend .. | .eventResendTimer .. | .masterKey .. |
    .pathEnable .. | .fwImage .. | .fwVerify .. | .fwVerifyDone .. | .fwSwitch .. | .handoverDone .. |
    .handoverTimeout .. | .watchdogTakeover .. | .firmwareBootDone .. | .malformedMessage .. =>
    .management
  | .ethFrameRx .. | .relayFrameTx .. | .sync .. | .followUp .. | .delayResp .. | .announce .. |
    .announceTimeout .. | .delayReqSend .. | .neighborSolicitation .. | .echoRequest .. | .dadDone .. |
    .ethLinkChange .. | .revertTimer .. | .freeRunTimer .. | .holdoverNotice .. | .slewDone .. |
    .stepNow .. => .network
  | .thermalEvaluation .. | .modelMismatch .. | .fastThrottleRelease .. | .throttleStepTimer .. |
    .lifeSecond .. | .sdClear .. | .probePresenceTimer .. | .probeReading .. | .calCourse .. | .calTile
    .. | .calAbort .. | .calPluck .. | .calTimeout .. | .cvKind .. | .cvReset .. | .cvFeed8 .. |
    .cvFeed16 .. | .cvFeed32 .. | .cvCheck .. | .cvOwnerTimeout .. => .health

/-- What a command may change (see `Foot`). -/
def footOf (c : Instr) : Foot :=
  match c with
  | .parcelHeaderArrives .. =>
    ⟨[.now, .out, .ingress, .lanes], [(0x300200, 0x3002FF), (0x301002, 0x301004), (0x700309, 0x700309),
      (0x701001, 0x701001)]⟩
  | .relayParcelStart .. =>
    ⟨[.now, .out, .ingress, .lanes], [(0x301003, 0x301003), (0x700309, 0x700309), (0x701001, 0x701001)]⟩
  | .tile .. | .frameHeader .. | .frameClose .. =>
    ⟨[.now, .out, .ingress, .codec, .comp, .lanes, .memory, .logs], [(0x180002, 0x180002), (0x180101,
      0x180103), (0x300200, 0x3002FF), (0x301002, 0x301004), (0x310003, 0x310003), (0x350001, 0x350002),
      (0x400101, 0x400101), (0x700309, 0x700309), (0x701001, 0x701001), (0x780207, 0x780207), (0x780301,
      0x780303), (0x900005, 0x900005)]⟩
  | .cueTrigger .. =>
    ⟨[.now, .out, .ingress, .codec, .comp, .lanes], [(0x300200, 0x3002FF), (0x301002, 0x301004),
      (0x304101, 0x304101), (0x304103, 0x304103), (0x400101, 0x400101), (0x700309, 0x700309), (0x701001,
      0x701001)]⟩
  | .layerData .. =>
    ⟨[.now, .out, .ingress, .lanes, .memory, .logs], [(0x180002, 0x180002), (0x180101, 0x180103),
      (0x300200, 0x3002FF), (0x301002, 0x301004), (0x302003, 0x302003), (0x403001, 0x403001), (0x700309,
      0x700309), (0x701001, 0x701001), (0x780207, 0x780207), (0x780301, 0x780303), (0x900005,
      0x900005)]⟩
  | .spillCopyDone .. =>
    ⟨[.now, .out, .ingress, .codec, .comp, .memory, .logs], [(0x180002, 0x180002), (0x180101, 0x180103),
      (0x300201, 0x300202), (0x300208, 0x30020A), (0x30020C, 0x30020C), (0x30020E, 0x30020E), (0x310003,
      0x310003), (0x350001, 0x350001), (0x400101, 0x400101), (0x780207, 0x780207), (0x780301, 0x780303),
      (0x900005, 0x900005)]⟩
  | .cueCopyDone .. =>
    ⟨[.now, .out, .ingress, .memory, .logs], [(0x180002, 0x180002), (0x180101, 0x180103), (0x780207,
      0x780207), (0x780301, 0x780303), (0x900005, 0x900005)]⟩
  | .cueGo .. =>
    ⟨[.now, .out, .ingress, .codec, .comp, .seq, .mgmt, .logs], [(0x101103, 0x101103), (0x101106,
      0x101106), (0x180003, 0x180003), (0x30020C, 0x30020C), (0x304101, 0x304101), (0x304103, 0x304103),
      (0x400101, 0x400101)]⟩
  | .cueClear .. =>
    ⟨[.now, .out, .ingress, .seq, .mgmt, .logs], [(0x101103, 0x101103), (0x101106, 0x101106), (0x180003,
      0x180003), (0x350001, 0x350002)]⟩
  | .counterClear _ object _ =>
    ⟨[.now, .out, .seq, .mgmt, .logs], [(0x101103, 0x101103), (0x101106, 0x101106), (0x180003,
      0x180003), (object * 256, object * 256 + 255)]⟩
  | .memberWrite .. | .writeItemHandoff .. | .chordHandoff .. | .atTimeReached .. | .handoverDone .. |
    .handoverTimeout .. =>
    ⟨[.now, .out, .blobs, .ingress, .codec, .comp, .ray, .seq, .panel, .bridge, .loop, .lanes, .memory,
      .clock, .mgmt, .net, .health, .logs], [(0x000000, 0xFFFFFF)]⟩
  | .latchPoint .. =>
    ⟨[.now, .out, .ingress, .codec, .comp, .ray, .seq, .memory, .clock, .mgmt, .logs], [(0x101107,
      0x101107), (0x103003, 0x103003), (0x180002, 0x180002), (0x180101, 0x180103), (0x201003, 0x201003),
      (0x280104, 0x280104), (0x30020B, 0x30020D), (0x304101, 0x304101), (0x304103, 0x304103), (0x400101,
      0x400101), (0x400206, 0x400206), (0x480101, 0x480104), (0x480106, 0x480108), (0x480203, 0x480205),
      (0x500104, 0x500105), (0x500107, 0x500109), (0x500204, 0x500204), (0x68010A, 0x68010A), (0x900005,
      0x900005)]⟩
  | .nutMark .. =>
    ⟨[.now, .out, .codec, .ray, .seq, .panel, .bridge, .loop, .lanes, .memory, .clock, .mgmt, .health,
      .logs], [(0x101107, 0x101107), (0x103003, 0x103003), (0x180002, 0x180002), (0x180101, 0x180103),
      (0x189003, 0x189003), (0x189104, 0x189108), (0x280206, 0x280207), (0x280209, 0x280209), (0x283002,
      0x283005), (0x283101, 0x283103), (0x500101, 0x500106), (0x500201, 0x500201), (0x500203, 0x500203),
      (0x500205, 0x500205), (0x501100, 0x5011FF), (0x58000A, 0x58000A), (0x580100, 0x5801FF), (0x580201,
      0x580204), (0x580209, 0x580209), (0x600207, 0x600207), (0x680101, 0x680101), (0x680103, 0x680106),
      (0x68010D, 0x68010D), (0x680206, 0x680206), (0x681003, 0x681003), (0x681006, 0x681007), (0x68100A,
      0x68100A), (0x70020C, 0x70020C), (0x700309, 0x700309), (0x701001, 0x701001), (0x780207, 0x780207),
      (0x780301, 0x780303), (0x900005, 0x900005)]⟩
  | .fretBoundary .. | .glideFretEdge .. =>
    ⟨[.now, .out, .codec, .ray, .seq, .panel, .bridge, .lanes, .memory, .clock, .mgmt, .health, .logs],
      [(0x101107, 0x101107), (0x103003, 0x103003), (0x180002, 0x180002), (0x180101, 0x180103),
      (0x189101, 0x189101), (0x189104, 0x189108), (0x283102, 0x283102), (0x380100, 0x3802FF), (0x381000,
      0x3810FF), (0x480100, 0x4802FF), (0x481000, 0x4810FF), (0x500102, 0x500103), (0x500202, 0x500202),
      (0x500205, 0x500205), (0x501100, 0x5011FF), (0x580100, 0x5801FF), (0x580201, 0x580201), (0x580203,
      0x580204), (0x581202, 0x581202), (0x60020A, 0x60020A), (0x601000, 0x6010FF), (0x602003, 0x602003),
      (0x780103, 0x780104), (0x780203, 0x780203), (0x781001, 0x781003), (0x900005, 0x900005)]⟩
  | .planeSlotStart .. =>
    ⟨[.now, .out, .seq, .panel, .bridge, .lanes, .memory, .logs], [(0x180002, 0x180002), (0x180101,
      0x180103), (0x580201, 0x580204), (0x600209, 0x600209), (0x60100B, 0x60100B), (0x70020C, 0x70020C),
      (0x700309, 0x700309), (0x701001, 0x701001), (0x780103, 0x780104), (0x780201, 0x780203), (0x781001,
      0x781005), (0x900005, 0x900005)]⟩
  | .pluck .. | .coursePollTimer .. =>
    ⟨[.now, .out, .bridge], []⟩
  | .loadCutoff .. =>
    ⟨[.now, .out, .panel, .lanes], [(0x580201, 0x580201), (0x580203, 0x580204)]⟩
  | .synthesisDeadline .. =>
    ⟨[.now, .out, .codec, .ray, .panel, .lanes], [(0x38020C, 0x38020C), (0x480201, 0x480201), (0x480207,
      0x480207), (0x480301, 0x480303), (0x580201, 0x580204), (0x70020C, 0x70020C), (0x700309, 0x700309),
      (0x701001, 0x701001)]⟩
  | .bandDispatch .. =>
    ⟨[.now, .out, .codec, .ray], [(0x480202, 0x480202)]⟩
  | .tileDecodeDone .. =>
    ⟨[.now, .out, .ingress, .codec, .memory, .logs], [(0x180002, 0x180002), (0x180101, 0x180103),
      (0x380200, 0x3802FF), (0x380301, 0x380305), (0x780103, 0x780104), (0x780201, 0x780203), (0x781001,
      0x781005), (0x900005, 0x900005)]⟩
  | .decodeSelftest .. =>
    ⟨[.now, .out, .codec, .seq, .memory, .health, .logs], [(0x180002, 0x180002), (0x180101, 0x180103),
      (0x189101, 0x189101), (0x189104, 0x189108), (0x380100, 0x3802FF), (0x381000, 0x3810FF), (0x480100,
      0x4802FF), (0x481000, 0x4810FF), (0x500103, 0x500103), (0x900005, 0x900005)]⟩
  | .dlaneFenced .. | .engFenced .. =>
    ⟨[.now, .out, .codec, .ray, .seq, .memory, .mgmt, .health, .logs], [(0x101103, 0x101103), (0x101106,
      0x101106), (0x180003, 0x180003), (0x189101, 0x189101), (0x189104, 0x189108), (0x380100, 0x3802FF),
      (0x381000, 0x3810FF), (0x480100, 0x4802FF), (0x481000, 0x4810FF), (0x500103, 0x500103)]⟩
  | .bandSynthesisStart .. | .bandCommit .. =>
    ⟨[.now, .out, .codec, .ray, .memory, .logs], [(0x180002, 0x180002), (0x180101, 0x180103), (0x780103,
      0x780104), (0x780201, 0x780203), (0x781001, 0x781005), (0x900005, 0x900005)]⟩
  | .engineSelftest .. =>
    ⟨[.now, .out, .ray, .seq, .memory, .health, .logs], [(0x180002, 0x180002), (0x180101, 0x180103),
      (0x189101, 0x189101), (0x189104, 0x189108), (0x380100, 0x3802FF), (0x381000, 0x3810FF), (0x480100,
      0x4802FF), (0x481000, 0x4810FF), (0x500103, 0x500103), (0x900005, 0x900005)]⟩
  | .compositionStart .. =>
    ⟨[.now, .out, .ingress, .comp], [(0x400101, 0x400103), (0x400201, 0x400204)]⟩
  | .tileCompressStart .. =>
    ⟨[.now, .out, .ingress, .codec, .comp, .memory, .logs], [(0x180002, 0x180002), (0x180101, 0x180103),
      (0x380200, 0x3802FF), (0x380301, 0x380305), (0x382003, 0x382003), (0x780103, 0x780104), (0x780201,
      0x780203), (0x780207, 0x780207), (0x780301, 0x780303), (0x781001, 0x781005), (0x900005,
      0x900005)]⟩
  | .compressionDone .. =>
    ⟨[.now, .out, .ingress, .codec, .comp, .memory, .logs], [(0x180002, 0x180002), (0x180101, 0x180103),
      (0x300209, 0x30020A), (0x380104, 0x380104), (0x380208, 0x38020A), (0x382001, 0x382004), (0x400101,
      0x400101), (0x400205, 0x400205), (0x900005, 0x900005)]⟩
  | .claneFenced .. =>
    ⟨[.now, .out, .seq, .memory, .mgmt, .logs], [(0x101103, 0x101103), (0x101106, 0x101106), (0x180003,
      0x180003), (0x380104, 0x380104), (0x382003, 0x382004)]⟩
  | .captureDone .. =>
    ⟨[.now, .out, .ingress, .comp, .memory, .logs], [(0x180002, 0x180002), (0x180101, 0x180103),
      (0x400101, 0x400101), (0x400104, 0x400105), (0x400205, 0x400205), (0x400207, 0x400207), (0x780207,
      0x780207), (0x780301, 0x780303), (0x900005, 0x900005)]⟩
  | .displayStartPoint .. =>
    ⟨[.now, .out, .ingress, .codec, .comp, .ray, .seq, .panel, .bridge, .loop, .lanes, .memory, .logs],
      [(0x180002, 0x180002), (0x180101, 0x180103), (0x189104, 0x189108), (0x30020B, 0x30020D),
      (0x304101, 0x304101), (0x304103, 0x304103), (0x400101, 0x400101), (0x400206, 0x400206), (0x480101,
      0x480104), (0x480106, 0x480108), (0x480203, 0x480205), (0x500101, 0x500101), (0x500103, 0x500104),
      (0x500107, 0x500108), (0x580100, 0x5801FF), (0x580201, 0x580201), (0x580203, 0x580204), (0x580209,
      0x580209), (0x680105, 0x680105), (0x70020C, 0x70020C), (0x700309, 0x700309), (0x701001, 0x701001),
      (0x900005, 0x900005)]⟩
  | .displayRunStart .. | .displayRunStop .. =>
    ⟨[.now, .out, .seq, .memory, .mgmt, .health, .logs], [(0x101103, 0x101103), (0x101106, 0x101106),
      (0x180003, 0x180003), (0x500002, 0x500002), (0x500103, 0x500103)]⟩
  | .timingMode .. =>
    ⟨[.now, .out, .seq, .panel, .lanes, .memory, .mgmt, .logs], [(0x101103, 0x101103), (0x101106,
      0x101106), (0x180003, 0x180003), (0x189104, 0x189108), (0x500001, 0x500001), (0x500104, 0x500105),
      (0x700309, 0x700309), (0x701001, 0x701001)]⟩
  | .panelStatus .. =>
    ⟨[.now, .out, .ingress, .panel, .bridge, .loop, .lanes, .memory, .health, .logs], [(0x180002,
      0x180002), (0x180101, 0x180104), (0x300202, 0x300202), (0x300205, 0x300205), (0x301001, 0x301001),
      (0x301004, 0x301004), (0x500103, 0x500103), (0x58000A, 0x58000A), (0x580100, 0x5802FF), (0x600103,
      0x600103), (0x600201, 0x600201), (0x680101, 0x680101), (0x680103, 0x680103), (0x700201, 0x700202),
      (0x700208, 0x700209), (0x70020C, 0x70020C), (0x700305, 0x700307), (0x700309, 0x700309), (0x701001,
      0x701001), (0x701003, 0x701003), (0x701006, 0x701007), (0x900005, 0x900005)]⟩
  | .panelStatusTimeout .. =>
    ⟨[.now, .out, .panel, .bridge, .loop, .lanes, .memory, .health, .logs], [(0x180002, 0x180002),
      (0x180101, 0x180103), (0x500103, 0x500103), (0x58000A, 0x58000A), (0x580101, 0x580101), (0x580105,
      0x580105), (0x580200, 0x5802FF), (0x600103, 0x600103), (0x600201, 0x600201), (0x680101, 0x680101),
      (0x680103, 0x680103), (0x70020C, 0x70020C), (0x700309, 0x700309), (0x701001, 0x701001), (0x900005,
      0x900005)]⟩
  | .panelStatusLost .. =>
    ⟨[.now, .out], [(0x580105, 0x580105), (0x580205, 0x580205)]⟩
  | .pnlPgRise .. | .pnlPgFall .. =>
    ⟨[.now, .out, .panel, .bridge, .loop, .lanes, .memory, .clock, .mgmt, .health, .logs], [(0x101107,
      0x101107), (0x103003, 0x103003), (0x180002, 0x180002), (0x180101, 0x180103), (0x180107, 0x180107),
      (0x188001, 0x188001), (0x500103, 0x500103), (0x58000A, 0x58000A), (0x580101, 0x580101), (0x580104,
      0x580105), (0x580200, 0x5802FF), (0x600103, 0x600103), (0x600201, 0x600202), (0x680101, 0x680101),
      (0x680103, 0x680103), (0x70020C, 0x70020C), (0x700309, 0x700309), (0x701001, 0x701001), (0x701003,
      0x701003), (0x701006, 0x701006), (0x900005, 0x900005)]⟩
  | .railDelayExpiry .. =>
    ⟨[.now, .out, .panel, .lanes], [(0x580101, 0x580101), (0x580104, 0x580104), (0x701001, 0x701001),
      (0x701003, 0x701003), (0x701006, 0x701006)]⟩
  | .pgTimeout .. =>
    ⟨[.now, .out, .panel, .lanes, .memory, .logs], [(0x180002, 0x180002), (0x180101, 0x180103),
      (0x580101, 0x580101), (0x580104, 0x580105), (0x580208, 0x580208), (0x701001, 0x701001), (0x701003,
      0x701003), (0x701006, 0x701006), (0x900005, 0x900005)]⟩
  | .clearBeforeLight .. =>
    ⟨[.now, .out, .panel, .lanes, .memory, .logs], [(0x180002, 0x180002), (0x180101, 0x180103),
      (0x580100, 0x5801FF), (0x580201, 0x580201), (0x580203, 0x580204), (0x580209, 0x580209), (0x70020C,
      0x70020C), (0x700309, 0x700309), (0x701001, 0x701001), (0x900005, 0x900005)]⟩
  | .exerciseLatch .. =>
    ⟨[.now, .out, .panel, .lanes], [(0x580100, 0x5801FF), (0x70020C, 0x70020C), (0x700309, 0x700309),
      (0x701001, 0x701001)]⟩
  | .parkTimeExpiry .. =>
    ⟨[.now, .out, .panel, .lanes], [(0x580101, 0x580101), (0x580104, 0x580105), (0x580201, 0x580201),
      (0x580203, 0x580204), (0x70020C, 0x70020C), (0x700309, 0x700309), (0x701001, 0x701001), (0x701003,
      0x701003), (0x701006, 0x701006)]⟩
  | .dischargeStepExpiry .. =>
    ⟨[.now, .out, .panel, .lanes], [(0x580101, 0x580101), (0x580104, 0x580105), (0x700309, 0x700309),
      (0x701001, 0x701001), (0x701003, 0x701003), (0x701006, 0x701006)]⟩
  | .faultRearm .. =>
    ⟨[.now, .out, .seq, .panel, .bridge, .lanes, .mgmt, .logs], [(0x101103, 0x101103), (0x101106,
      0x101106), (0x180003, 0x180003), (0x580101, 0x580101), (0x580104, 0x580105), (0x580201, 0x580201),
      (0x580203, 0x580204), (0x70020C, 0x70020C), (0x700309, 0x700309), (0x701001, 0x701001), (0x701003,
      0x701003), (0x701006, 0x701006)]⟩
  | .panelPower .. =>
    ⟨[.now, .out, .seq, .panel, .lanes, .memory, .mgmt, .logs], [(0x101103, 0x101103), (0x101106,
      0x101106), (0x180003, 0x180003), (0x58000F, 0x58000F), (0x580101, 0x580101), (0x580104, 0x580105),
      (0x580201, 0x580201), (0x580203, 0x580204), (0x70020C, 0x70020C), (0x700309, 0x700309), (0x701001,
      0x701001), (0x701003, 0x701003), (0x701006, 0x701006)]⟩
  | .droneEnter .. | .droneLeave .. =>
    ⟨[.now, .out, .seq, .panel, .bridge, .loop, .lanes, .memory, .clock, .mgmt, .health, .logs],
      [(0x101103, 0x101103), (0x101106, 0x101107), (0x103003, 0x103003), (0x180002, 0x180003),
      (0x180101, 0x180103), (0x500103, 0x500103), (0x58000A, 0x58000A), (0x580100, 0x5801FF), (0x580201,
      0x580204), (0x680101, 0x680101), (0x680103, 0x680106), (0x68010D, 0x68010D), (0x680206, 0x680206),
      (0x681003, 0x681003), (0x70020C, 0x70020C), (0x700309, 0x700309), (0x701001, 0x701001), (0x780207,
      0x780207), (0x780301, 0x780303), (0x900005, 0x900005)]⟩
  | .droneRefresh .. =>
    ⟨[.now, .out, .panel, .bridge, .lanes], [(0x580100, 0x5801FF), (0x580201, 0x580204), (0x70020C,
      0x70020C), (0x700309, 0x700309), (0x701001, 0x701001)]⟩
  | .dronePeriod .. =>
    ⟨[.now, .out, .bridge], [(0x600209, 0x60020A), (0x601000, 0x6010FF), (0x602003, 0x602003)]⟩
  | .referenceWindowOpen .. =>
    ⟨[.now, .out, .bridge], [(0x680207, 0x680207)]⟩
  | .pilotFire .. =>
    ⟨[.now, .out, .bridge], [(0x600209, 0x600209), (0x60100B, 0x60100B)]⟩
  | .monitorSample .. | .pilotSample .. | .driverStatusFrame .. =>
    ⟨[.now, .out, .bridge, .loop, .clock, .mgmt, .health], [(0x101107, 0x101107), (0x103003, 0x103003),
      (0x600103, 0x600103), (0x600201, 0x600201), (0x600204, 0x600207), (0x60020B, 0x60020B), (0x601004,
      0x601006), (0x602002, 0x602002), (0x602004, 0x602007), (0x680201, 0x680201), (0x681003, 0x681007),
      (0x68100A, 0x68100A), (0x682007, 0x682007)]⟩
  | .uplinkTimeout .. | .badUplinkFrame .. =>
    ⟨[.now, .out, .bridge, .health], [(0x600103, 0x600103), (0x600201, 0x600201), (0x600205, 0x600207),
      (0x601004, 0x601004), (0x602004, 0x602004), (0x602007, 0x602007), (0x681003, 0x681003)]⟩
  | .emitInhAssert .. =>
    ⟨[.now, .out, .bridge, .clock, .mgmt, .health], [(0x101107, 0x101107), (0x103003, 0x103003),
      (0x180107, 0x180107), (0x188001, 0x188001), (0x600103, 0x600103), (0x600201, 0x600202)]⟩
  | .emitInhRelease .. =>
    ⟨[.now, .out, .bridge, .clock, .mgmt], [(0x101107, 0x101107), (0x103003, 0x103003), (0x180107,
      0x180107), (0x188001, 0x188001), (0x600202, 0x600202)]⟩
  | .emitInhStuck .. =>
    ⟨[.now, .out, .bridge, .memory, .clock, .mgmt, .logs], [(0x101107, 0x101107), (0x103003, 0x103003),
      (0x180002, 0x180002), (0x180101, 0x180103), (0x600203, 0x600203), (0x900005, 0x900005)]⟩
  | .chatterEnd .. =>
    ⟨[.now, .out, .clock], []⟩
  | .openLoopFallback .. =>
    ⟨[.now, .out, .bridge], [(0x600208, 0x600208)]⟩
  | .linReset .. =>
    ⟨[.now, .out, .seq, .bridge, .mgmt, .logs], [(0x101103, 0x101103), (0x101106, 0x101106), (0x180003,
      0x180003), (0x601008, 0x60100A)]⟩
  | .encoderEdge .. =>
    ⟨[.now, .out, .seq, .bridge, .loop, .memory, .clock, .mgmt, .health, .logs], [(0x101107, 0x101107),
      (0x103003, 0x103003), (0x180002, 0x180002), (0x180101, 0x180103), (0x500103, 0x500103), (0x600103,
      0x600103), (0x600201, 0x600201), (0x680101, 0x680101), (0x680103, 0x680106), (0x68010B, 0x68010D),
      (0x680201, 0x680202), (0x680205, 0x680206), (0x680209, 0x680209), (0x681003, 0x681007), (0x68100A,
      0x68100A), (0x682007, 0x682007), (0x900005, 0x900005)]⟩
  | .measuredNutMark .. =>
    ⟨[.now, .out, .seq, .panel, .bridge, .loop, .lanes, .memory, .clock, .mgmt, .health, .logs],
      [(0x101107, 0x101107), (0x103003, 0x103003), (0x180002, 0x180002), (0x180101, 0x180103),
      (0x500101, 0x500101), (0x500103, 0x500103), (0x500105, 0x500106), (0x500201, 0x500201), (0x500203,
      0x500203), (0x580100, 0x5801FF), (0x580201, 0x580201), (0x580203, 0x580204), (0x580209, 0x580209),
      (0x600103, 0x600103), (0x600201, 0x600201), (0x680101, 0x680107), (0x68010B, 0x68010D), (0x680201,
      0x680201), (0x680203, 0x680203), (0x680205, 0x680206), (0x680209, 0x680209), (0x681003, 0x681007),
      (0x68100A, 0x68100A), (0x682007, 0x682007), (0x70020C, 0x70020C), (0x700309, 0x700309), (0x701001,
      0x701001), (0x900005, 0x900005)]⟩
  | .countEdgeTimeout .. =>
    ⟨[.now, .out, .seq, .bridge, .loop, .memory, .clock, .mgmt, .health, .logs], [(0x101107, 0x101107),
      (0x103003, 0x103003), (0x180002, 0x180002), (0x180101, 0x180103), (0x500103, 0x500103), (0x600103,
      0x600103), (0x600201, 0x600201), (0x680101, 0x680101), (0x680103, 0x680106), (0x68010C, 0x68010D),
      (0x680206, 0x680206), (0x680209, 0x680209), (0x681003, 0x681003), (0x900005, 0x900005)]⟩
  | .driveCommandTimer .. =>
    ⟨[.now, .out, .loop], []⟩
  | .driveStatus .. =>
    ⟨[.now, .out, .seq, .loop, .memory, .clock, .mgmt, .health, .logs], [(0x101107, 0x101107),
      (0x103003, 0x103003), (0x180002, 0x180002), (0x180101, 0x180103), (0x500103, 0x500103), (0x680101,
      0x680101), (0x680103, 0x680106), (0x680108, 0x680109), (0x68010C, 0x68010D), (0x680204, 0x680204),
      (0x680206, 0x680206), (0x681003, 0x681003), (0x900005, 0x900005)]⟩
  | .driveStatusTimeout .. =>
    ⟨[.now, .out, .seq, .loop, .memory, .clock, .mgmt, .health, .logs], [(0x101107, 0x101107),
      (0x103003, 0x103003), (0x180002, 0x180002), (0x180101, 0x180103), (0x500103, 0x500103), (0x680101,
      0x680101), (0x680103, 0x680106), (0x680109, 0x680109), (0x68010C, 0x68010D), (0x680204, 0x680204),
      (0x680206, 0x680206), (0x681003, 0x681003), (0x900005, 0x900005)]⟩
  | .spinUp .. =>
    ⟨[.now, .out, .loop], [(0x680101, 0x680101), (0x680103, 0x680103), (0x68010C, 0x68010C), (0x681003,
      0x681003)]⟩
  | .spinUpTimeout .. =>
    ⟨[.now, .out, .seq, .loop, .memory, .clock, .mgmt, .health, .logs], [(0x101107, 0x101107),
      (0x103003, 0x103003), (0x180002, 0x180002), (0x180101, 0x180103), (0x500103, 0x500103), (0x680101,
      0x680101), (0x680103, 0x680106), (0x68010C, 0x68010D), (0x680206, 0x680206), (0x680208, 0x680208),
      (0x681003, 0x681003), (0x900005, 0x900005)]⟩
  | .wheelRestTimeout .. =>
    ⟨[.now, .out, .loop], [(0x680101, 0x680101), (0x680103, 0x680103)]⟩
  | .wheelEnable .. | .wheelBrake .. =>
    ⟨[.now, .out, .seq, .loop, .memory, .clock, .mgmt, .health, .logs], [(0x101103, 0x101103),
      (0x101106, 0x101107), (0x103003, 0x103003), (0x180003, 0x180003), (0x500103, 0x500103), (0x680001,
      0x680001), (0x680101, 0x680101), (0x680103, 0x680104), (0x680106, 0x680106), (0x68010C, 0x68010D),
      (0x680206, 0x680206), (0x681003, 0x681003), (0x681006, 0x681007), (0x68100A, 0x68100A)]⟩
  | .rearm .. =>
    ⟨[.now, .out, .seq, .loop, .mgmt, .logs], [(0x101103, 0x101103), (0x101106, 0x101106), (0x180003,
      0x180003), (0x680101, 0x680101), (0x680103, 0x680103), (0x68010C, 0x68010C), (0x681003,
      0x681003)]⟩
  | .freeInput .. =>
    ⟨[.now, .out, .seq, .loop, .clock, .mgmt, .logs], [(0x101103, 0x101103), (0x101106, 0x101107),
      (0x103003, 0x103003), (0x180003, 0x180003), (0x680201, 0x680201), (0x681004, 0x681007), (0x68100A,
      0x68100A), (0x682007, 0x682007)]⟩
  | .preset .. =>
    ⟨[.now, .out, .seq, .loop, .mgmt, .logs], [(0x101103, 0x101103), (0x101106, 0x101106), (0x180003,
      0x180003), (0x681006, 0x681007), (0x68100A, 0x68100A)]⟩
  | .blockData .. | .parcelStart .. | .parcelAbort .. | .acknowledge .. | .reservedBlock .. =>
    ⟨[.now, .out, .ingress, .panel, .lanes, .memory, .logs], [(0x180002, 0x180002), (0x180101,
      0x180104), (0x300202, 0x300202), (0x300205, 0x300205), (0x301001, 0x301001), (0x301004, 0x301004),
      (0x700201, 0x700204), (0x700206, 0x700206), (0x700208, 0x700209), (0x70020B, 0x70020C), (0x700305,
      0x700307), (0x700309, 0x700309), (0x701001, 0x701001), (0x701003, 0x701003), (0x701006, 0x70100A),
      (0x900005, 0x900005)]⟩
  | .replayTimeout .. =>
    ⟨[.now, .out, .ingress, .panel, .lanes, .memory, .logs], [(0x180002, 0x180002), (0x180101,
      0x180104), (0x300202, 0x300202), (0x300205, 0x300205), (0x301001, 0x301001), (0x301004, 0x301004),
      (0x700203, 0x700206), (0x700208, 0x700209), (0x700305, 0x700307), (0x700309, 0x700309), (0x701001,
      0x701001), (0x701003, 0x701003), (0x701006, 0x701006), (0x701008, 0x701009), (0x900005,
      0x900005)]⟩
  | .ackSendTimer .. =>
    ⟨[.now, .out, .lanes], [(0x700202, 0x700202), (0x700309, 0x700309), (0x701001, 0x701001)]⟩
  | .marker .. =>
    ⟨[.now, .out, .ingress, .panel, .lanes, .memory, .logs], [(0x180002, 0x180002), (0x180101,
      0x180104), (0x300202, 0x300202), (0x300205, 0x300205), (0x301001, 0x301001), (0x301004, 0x301004),
      (0x700201, 0x700202), (0x700207, 0x700209), (0x700305, 0x700309), (0x701001, 0x701001), (0x701003,
      0x701003), (0x701006, 0x701007), (0x70100C, 0x70100C), (0x900005, 0x900005)]⟩
  | .filler .. =>
    ⟨[.now, .out, .ingress, .panel, .lanes, .memory, .logs], [(0x180002, 0x180002), (0x180101,
      0x180104), (0x300202, 0x300202), (0x300205, 0x300205), (0x301001, 0x301001), (0x301004, 0x301004),
      (0x700201, 0x700202), (0x700208, 0x70020A), (0x700305, 0x700307), (0x700309, 0x700309), (0x701001,
      0x701001), (0x701003, 0x701003), (0x701006, 0x701007), (0x900005, 0x900005)]⟩
  | .training .. =>
    ⟨[.now, .out, .lanes, .logs], [(0x301001, 0x301001), (0x700305, 0x700307), (0x701001, 0x701001),
      (0x701003, 0x701003), (0x701006, 0x701006)]⟩
  | .sleep .. | .laneMap .. =>
    ⟨[.now, .out, .ingress, .panel, .lanes, .memory, .logs], [(0x180002, 0x180002), (0x180101,
      0x180104), (0x300202, 0x300202), (0x300205, 0x300205), (0x301001, 0x301001), (0x301004, 0x301004),
      (0x700201, 0x700202), (0x700208, 0x700209), (0x700305, 0x700307), (0x700309, 0x700309), (0x701001,
      0x701001), (0x701003, 0x701003), (0x701006, 0x701007), (0x900005, 0x900005)]⟩
  | .signalDetect .. =>
    ⟨[.now, .out, .lanes], [(0x701001, 0x701001), (0x701003, 0x701003)]⟩
  | .cdrLock .. =>
    ⟨[.now, .out, .lanes], [(0x701003, 0x701003), (0x70100B, 0x70100B)]⟩
  | .bringUpStageTimeout .. =>
    ⟨[.now, .out, .ingress, .panel, .lanes, .memory, .logs], [(0x180002, 0x180002), (0x180101,
      0x180104), (0x300202, 0x300202), (0x300205, 0x300205), (0x301001, 0x301001), (0x301004, 0x301004),
      (0x700207, 0x700209), (0x700305, 0x700307), (0x700309, 0x700309), (0x701001, 0x701001), (0x701003,
      0x701003), (0x701006, 0x701006), (0x900005, 0x900005)]⟩
  | .bringUpRetry .. =>
    ⟨[.now, .out, .lanes], [(0x700305, 0x700305), (0x701001, 0x701001), (0x701003, 0x701003), (0x701006,
      0x701006)]⟩
  | .laneLockLoss .. =>
    ⟨[.now, .out, .ingress, .panel, .lanes, .memory, .logs], [(0x180002, 0x180002), (0x180101,
      0x180104), (0x300202, 0x300202), (0x300205, 0x300205), (0x301001, 0x301001), (0x301004, 0x301004),
      (0x700202, 0x700202), (0x700206, 0x700206), (0x700208, 0x700209), (0x700305, 0x700307), (0x700309,
      0x700309), (0x701001, 0x701001), (0x701003, 0x701003), (0x701006, 0x701006), (0x701009, 0x701009),
      (0x900005, 0x900005)]⟩
  | .portSleepTimer .. =>
    ⟨[.now, .out, .lanes], [(0x700309, 0x700309)]⟩
  | .laneRetrain .. | .laneOutOfService .. | .laneReturn .. =>
    ⟨[.now, .out, .ingress, .seq, .panel, .lanes, .memory, .mgmt, .logs], [(0x101103, 0x101103),
      (0x101106, 0x101106), (0x180002, 0x180003), (0x180101, 0x180103), (0x300202, 0x300202), (0x300205,
      0x300205), (0x301001, 0x301001), (0x301004, 0x301004), (0x700206, 0x700206), (0x700208, 0x700209),
      (0x700305, 0x700307), (0x700309, 0x700309), (0x701001, 0x701001), (0x701003, 0x701003), (0x701006,
      0x701006), (0x701009, 0x701009), (0x900005, 0x900005)]⟩
  | .portRate .. =>
    ⟨[.now, .out, .ingress, .seq, .lanes, .memory, .mgmt, .logs], [(0x101103, 0x101103), (0x101106,
      0x101106), (0x180002, 0x180003), (0x180101, 0x180103), (0x300202, 0x300202), (0x300205, 0x300205),
      (0x301001, 0x301001), (0x301004, 0x301004), (0x700209, 0x700209), (0x700301, 0x700301), (0x700305,
      0x700307), (0x700309, 0x700309), (0x701001, 0x701001), (0x701003, 0x701003), (0x701006, 0x701006),
      (0x900005, 0x900005)]⟩
  | .portEnable .. =>
    ⟨[.now, .out, .ingress, .seq, .lanes, .memory, .mgmt, .logs], [(0x101103, 0x101103), (0x101106,
      0x101106), (0x180002, 0x180003), (0x180101, 0x180103), (0x300202, 0x300202), (0x300205, 0x300205),
      (0x301001, 0x301001), (0x301004, 0x301004), (0x700209, 0x700209), (0x700302, 0x700302), (0x700305,
      0x700307), (0x700309, 0x700309), (0x701001, 0x701001), (0x701003, 0x701003), (0x701006, 0x701006),
      (0x900005, 0x900005)]⟩
  | .bankFenced .. =>
    ⟨[.now, .out, .seq, .memory, .mgmt, .logs], [(0x101103, 0x101103), (0x101106, 0x101106), (0x180002,
      0x180003), (0x180101, 0x180103), (0x780103, 0x780104), (0x780203, 0x780203), (0x781001, 0x781003),
      (0x900005, 0x900005)]⟩
  | .bankCopyDone .. =>
    ⟨[.now, .out, .memory, .logs], [(0x180002, 0x180002), (0x180101, 0x180103), (0x780103, 0x780104),
      (0x780203, 0x780203), (0x781001, 0x781003), (0x900005, 0x900005)]⟩
  | .journalCommitTimer .. | .urgencyRise .. | .dqsOscTimer .. =>
    ⟨[.now, .out, .memory], []⟩
  | .retCommit .. =>
    ⟨[.now, .out, .seq, .memory, .mgmt, .logs], [(0x101103, 0x101103), (0x101106, 0x101106), (0x180003,
      0x180003)]⟩
  | .journalCommitDone .. =>
    ⟨[.now, .out, .memory], [(0x900005, 0x900005), (0x900007, 0x900007)]⟩
  | .journalHalfEmptied .. =>
    ⟨[.now, .out, .memory], [(0x900005, 0x900005)]⟩
  | .dramRequest .. =>
    ⟨[.now, .out, .ingress, .codec, .comp, .panel, .memory, .mgmt, .logs], [(0x180002, 0x180002),
      (0x180101, 0x180103), (0x30020C, 0x30020C), (0x350001, 0x350001), (0x400101, 0x400101), (0x780207,
      0x78020B), (0x780301, 0x780303), (0x783002, 0x783003), (0x900005, 0x900005)]⟩
  | .dramRequestDone .. | .ddrAlert .. =>
    ⟨[.now, .out, .ingress, .codec, .comp, .panel, .memory, .mgmt, .logs], [(0x180002, 0x180002),
      (0x180101, 0x180104), (0x30020C, 0x30020C), (0x350001, 0x350001), (0x400101, 0x400101), (0x780102,
      0x780102), (0x780200, 0x7802FF), (0x780301, 0x780303), (0x782001, 0x782001), (0x783002, 0x783003),
      (0x900005, 0x900005)]⟩
  | .inplaceRetrainDone .. =>
    ⟨[.now, .out, .ingress, .codec, .comp, .ray, .seq, .panel, .bridge, .loop, .lanes, .memory, .clock,
      .mgmt, .health, .logs], [(0x101107, 0x101107), (0x103003, 0x103003), (0x180002, 0x180002),
      (0x180101, 0x180104), (0x180106, 0x180106), (0x189001, 0x189001), (0x201001, 0x201001), (0x201004,
      0x201004), (0x280207, 0x280207), (0x283002, 0x283005), (0x283101, 0x283101), (0x30020C, 0x30020C),
      (0x350001, 0x350001), (0x400101, 0x400101), (0x500102, 0x500106), (0x58000A, 0x58000A), (0x580101,
      0x580101), (0x580105, 0x580105), (0x580201, 0x580201), (0x580203, 0x580204), (0x680101, 0x680101),
      (0x680103, 0x680106), (0x68010C, 0x68010D), (0x680206, 0x680206), (0x681003, 0x681003), (0x681006,
      0x681007), (0x68100A, 0x68100A), (0x70020C, 0x70020C), (0x700309, 0x700309), (0x701001, 0x701001),
      (0x780102, 0x780102), (0x780105, 0x780105), (0x780207, 0x780207), (0x780209, 0x78020B), (0x78020D,
      0x78020E), (0x780301, 0x780303), (0x782001, 0x782001), (0x782006, 0x782006), (0x783002, 0x783003),
      (0x900005, 0x900005)]⟩
  | .ddrRefreshTimer .. =>
    ⟨[.now, .out, .memory], [(0x780209, 0x78020B), (0x783002, 0x783003)]⟩
  | .zqCalTimer .. | .probePresenceTimer .. =>
    ⟨[.now, .out], []⟩
  | .ddrTrainingDone .. =>
    ⟨[.now, .out, .ingress, .codec, .comp, .panel, .memory, .mgmt, .logs], [(0x180002, 0x180002),
      (0x180101, 0x180103), (0x189002, 0x189002), (0x30020C, 0x30020C), (0x350001, 0x350001), (0x400101,
      0x400101), (0x780102, 0x780102), (0x780105, 0x780105), (0x780207, 0x780207), (0x780209, 0x78020B),
      (0x78020D, 0x78020D), (0x780301, 0x780303), (0x782001, 0x782001), (0x782003, 0x782006), (0x783002,
      0x783003), (0x900005, 0x900005)]⟩
  | .channelOffline .. | .channelRetrain .. | .channelReturn .. =>
    ⟨[.now, .out, .seq, .memory, .mgmt, .logs], [(0x101103, 0x101103), (0x101106, 0x101106), (0x180003,
      0x180003), (0x780102, 0x780102), (0x78020E, 0x78020E), (0x782001, 0x782001), (0x782006,
      0x782006)]⟩
  | .chunkMoveDone .. =>
    ⟨[.now, .out, .memory], [(0x780102, 0x780102), (0x782001, 0x782001), (0x782006, 0x782006)]⟩
  | .resetRelease .. | .resetAssert .. =>
    ⟨[.now, .out, .blobs, .ingress, .codec, .comp, .ray, .seq, .panel, .bridge, .loop, .lanes, .memory,
      .clock, .mgmt, .net, .health, .logs, .tapIr], [(0x000000, 0xFFFFFF)]⟩
  | .pllLock .. =>
    ⟨[.now, .out, .clock], [(0x189002, 0x189002), (0x200101, 0x200101), (0x200103, 0x200103), (0x201001,
      0x201001), (0x201004, 0x201004)]⟩
  | .pllSlip .. | .hclkLoss .. =>
    ⟨[.now, .out, .blobs, .codec, .ray, .seq, .panel, .bridge, .loop, .lanes, .memory, .clock, .mgmt,
      .net, .health, .logs], [(0x101107, 0x101107), (0x103003, 0x103003), (0x180002, 0x180002),
      (0x180101, 0x180103), (0x200101, 0x200102), (0x200200, 0x2002FF), (0x201001, 0x201001), (0x201004,
      0x201005), (0x202000, 0x2020FF), (0x203000, 0x2030FF), (0x280207, 0x280207), (0x283002, 0x283005),
      (0x283101, 0x283101), (0x500102, 0x500106), (0x58000A, 0x58000A), (0x580101, 0x580101), (0x580105,
      0x580105), (0x580201, 0x580201), (0x580203, 0x580204), (0x600103, 0x600103), (0x600201, 0x600201),
      (0x680101, 0x680101), (0x680103, 0x680106), (0x68010C, 0x68010D), (0x680206, 0x680206), (0x681003,
      0x681003), (0x681006, 0x681007), (0x68100A, 0x68100A), (0x70020C, 0x70020C), (0x700309, 0x700309),
      (0x701001, 0x701001), (0x800101, 0x800102), (0x800106, 0x800106), (0x800201, 0x800203), (0x801001,
      0x801003), (0x801006, 0x80100A), (0x900005, 0x900005)]⟩
  | .pllLockTimeout .. =>
    ⟨[.now, .out, .clock], [(0x200102, 0x200102), (0x200207, 0x200207)]⟩
  | .holdPhaseEnd .. | .hclkQualified .. =>
    ⟨[.now, .out, .clock], [(0x200101, 0x200101), (0x201001, 0x201001), (0x201004, 0x201004)]⟩
  | .ratioRampStep .. =>
    ⟨[.now, .out, .bridge, .clock], [(0x201001, 0x201001), (0x201004, 0x201004), (0x202001, 0x202002),
      (0x602004, 0x602004)]⟩
  | .ratioSet .. =>
    ⟨[.now, .out, .seq, .memory, .clock, .mgmt, .logs], [(0x101103, 0x101103), (0x101106, 0x101106),
      (0x180003, 0x180003), (0x189104, 0x189108), (0x201002, 0x201002)]⟩
  | .muxForcedSwitch .. =>
    ⟨[.now, .out, .memory, .clock, .logs], [(0x180002, 0x180002), (0x180101, 0x180103), (0x200102,
      0x200102), (0x200203, 0x200203), (0x201001, 0x201001), (0x201004, 0x201005), (0x900005,
      0x900005)]⟩
  | .gateClose .. | .gateOpen .. =>
    ⟨[.now, .out, .seq, .bridge, .clock, .mgmt, .logs], [(0x101103, 0x101103), (0x101106, 0x101106),
      (0x180003, 0x180003), (0x200102, 0x200102), (0x200204, 0x200205), (0x201001, 0x201001), (0x201004,
      0x201004), (0x202000, 0x2020FF), (0x203000, 0x2030FF), (0x602004, 0x602004)]⟩
  | .gateIdle .. =>
    ⟨[.now, .out, .clock, .mgmt, .net], [(0x201001, 0x201001), (0x201004, 0x201004), (0x202000,
      0x2020FF), (0x203000, 0x2030FF)]⟩
  | .gateCloseTimeout .. =>
    ⟨[.now, .out, .clock, .mgmt, .net], [(0x200102, 0x200102), (0x200204, 0x200205), (0x201001,
      0x201001), (0x201004, 0x201004), (0x202000, 0x2020FF), (0x203000, 0x2030FF)]⟩
  | .railUndervoltage .. =>
    ⟨[.now, .out, .codec, .ray, .seq, .panel, .bridge, .loop, .lanes, .memory, .clock, .mgmt, .health,
      .logs], [(0x101107, 0x101107), (0x103003, 0x103003), (0x180002, 0x180002), (0x180101, 0x180103),
      (0x189001, 0x189001), (0x200206, 0x200206), (0x201001, 0x201001), (0x201004, 0x201004), (0x204001,
      0x204002), (0x280207, 0x280207), (0x283002, 0x283005), (0x283101, 0x283101), (0x500102, 0x500106),
      (0x58000A, 0x58000A), (0x580101, 0x580101), (0x580104, 0x580105), (0x580201, 0x580201), (0x580203,
      0x580204), (0x600103, 0x600103), (0x600201, 0x600201), (0x680101, 0x680101), (0x680103, 0x680106),
      (0x68010C, 0x68010D), (0x680206, 0x680206), (0x681003, 0x681003), (0x681006, 0x681007), (0x68100A,
      0x68100A), (0x70020C, 0x70020C), (0x700309, 0x700309), (0x701001, 0x701001), (0x701003, 0x701003),
      (0x701006, 0x701006), (0x900005, 0x900005)]⟩
  | .railOvervoltage .. =>
    ⟨[.now, .out, .memory, .clock, .logs], [(0x180002, 0x180002), (0x180101, 0x180103), (0x200206,
      0x200206), (0x204001, 0x204002), (0x900005, 0x900005)]⟩
  | .openSession .. | .close .. | .read .. | .write .. | .chordBegin .. | .commitNow .. |
    .commitNextFret .. | .commitNextFrame .. | .commitAtTime .. | .abortChord .. | .keepalive .. |
    .eventAck .. =>
    ⟨[.now, .out, .clock, .mgmt, .logs], [(0x101101, 0x101108), (0x103000, 0x1030FF), (0x180003,
      0x180003)]⟩
  | .chordIdleTimeout .. | .sessionTimeout .. =>
    ⟨[.now, .out, .clock, .mgmt], [(0x101105, 0x101105), (0x101107, 0x101107), (0x103003, 0x103003)]⟩
  | .chordKill .. =>
    ⟨[.now, .out, .seq, .clock, .mgmt, .logs], [(0x101103, 0x101103), (0x101105, 0x101107), (0x103003,
      0x103003), (0x180003, 0x180003)]⟩
  | .eventSend .. | .eventResendTimer .. =>
    ⟨[.now, .out, .mgmt, .net], []⟩
  | .masterKey .. =>
    ⟨[.now, .out, .blobs, .seq, .memory, .clock, .mgmt, .logs], [(0x101103, 0x101103), (0x101105,
      0x101107), (0x103003, 0x103003), (0x180003, 0x180003)]⟩
  | .pathEnable .. =>
    ⟨[.now, .out, .seq, .memory, .clock, .mgmt, .logs], [(0x100000, 0x1000FF), (0x101103, 0x101103),
      (0x101105, 0x101107), (0x103003, 0x103003), (0x180003, 0x180003)]⟩
  | .fwImage .. =>
    ⟨[.now, .out, .seq, .memory, .mgmt, .logs], [(0x101103, 0x101103), (0x101106, 0x101106), (0x180003,
      0x180003), (0x900005, 0x900005), (0x910002, 0x910004)]⟩
  | .fwVerify .. =>
    ⟨[.now, .out, .seq, .mgmt, .logs], [(0x101103, 0x101103), (0x101106, 0x101106), (0x180003,
      0x180003)]⟩
  | .fwVerifyDone .. =>
    ⟨[.now, .out, .clock, .mgmt], [(0x101107, 0x101107), (0x103003, 0x103003), (0x910002, 0x910002),
      (0x910203, 0x910203)]⟩
  | .fwSwitch .. =>
    ⟨[.now, .out, .seq, .mgmt, .health, .logs], [(0x101103, 0x101103), (0x101106, 0x101106), (0x180003,
      0x180003), (0x910106, 0x910106)]⟩
  | .watchdogTakeover .. =>
    ⟨[.now, .out, .memory, .mgmt, .health, .logs], [(0x180002, 0x180002), (0x180101, 0x180103),
      (0x900005, 0x900005), (0x910106, 0x910106), (0x910205, 0x910205)]⟩
  | .ethFrameRx .. =>
    ⟨[.now, .out, .net], [(0x800209, 0x800209), (0x80020B, 0x80020C), (0x802008, 0x80200A)]⟩
  | .relayFrameTx .. =>
    ⟨[.now, .out, .net], [(0x80020A, 0x80020A)]⟩
  | .sync .. =>
    ⟨[.now, .out, .clock, .mgmt, .net], [(0x101107, 0x101107), (0x103003, 0x103003), (0x800101,
      0x800102), (0x800106, 0x800106), (0x800201, 0x800207), (0x801001, 0x801001), (0x801006,
      0x801008)]⟩
  | .followUp .. =>
    ⟨[.now, .out, .clock, .mgmt, .net], [(0x101107, 0x101107), (0x103003, 0x103003), (0x800101,
      0x800102), (0x800106, 0x800106), (0x800201, 0x800207), (0x801001, 0x801001), (0x801007,
      0x801007)]⟩
  | .delayResp .. =>
    ⟨[.now, .out, .clock, .mgmt, .net], [(0x101107, 0x101107), (0x103003, 0x103003), (0x800101,
      0x800102), (0x800106, 0x800106), (0x800201, 0x800204), (0x801001, 0x801001), (0x801006,
      0x801006)]⟩
  | .announce .. | .announceTimeout .. =>
    ⟨[.now, .out, .blobs, .clock, .mgmt, .net], [(0x101107, 0x101107), (0x103003, 0x103003), (0x800101,
      0x800102), (0x800106, 0x800106), (0x800201, 0x800205), (0x801001, 0x801003), (0x801009,
      0x80100A)]⟩
  | .delayReqSend .. =>
    ⟨[.now, .out, .net], [(0x800208, 0x800208)]⟩
  | .neighborSolicitation .. | .echoRequest .. =>
    ⟨[.now, .out, .net], []⟩
  | .dadDone .. | .slewDone .. =>
    ⟨[.now, .out, .net], [(0x800102, 0x800102)]⟩
  | .ethLinkChange .. =>
    ⟨[.now, .out, .net], [(0x802002, 0x802002)]⟩
  | .revertTimer .. =>
    ⟨[.now, .out, .clock, .mgmt, .net], [(0x101107, 0x101107), (0x103003, 0x103003), (0x800101,
      0x800102), (0x800106, 0x800106), (0x800201, 0x800204)]⟩
  | .freeRunTimer .. =>
    ⟨[.now, .out, .clock, .mgmt, .net], [(0x101107, 0x101107), (0x103003, 0x103003), (0x800101,
      0x800101), (0x800106, 0x800106), (0x800201, 0x800203)]⟩
  | .holdoverNotice .. =>
    ⟨[.now, .out, .clock, .mgmt], [(0x101107, 0x101107), (0x103003, 0x103003), (0x800102, 0x800102)]⟩
  | .stepNow .. =>
    ⟨[.now, .out, .seq, .clock, .mgmt, .net, .logs], [(0x101103, 0x101103), (0x101106, 0x101107),
      (0x103003, 0x103003), (0x180003, 0x180003), (0x800101, 0x800102), (0x800106, 0x800106), (0x800201,
      0x800204)]⟩
  | .thermalEvaluation .. =>
    ⟨[.now, .out, .codec, .ray, .seq, .panel, .bridge, .loop, .lanes, .memory, .clock, .mgmt, .health,
      .logs], [(0x101107, 0x101107), (0x103003, 0x103003), (0x180002, 0x180002), (0x180101, 0x180103),
      (0x189001, 0x189001), (0x201001, 0x201001), (0x201003, 0x201004), (0x280101, 0x280107), (0x280201,
      0x280202), (0x280204, 0x280204), (0x280207, 0x280207), (0x280401, 0x280405), (0x281001, 0x281001),
      (0x281101, 0x281101), (0x281201, 0x281201), (0x283002, 0x283005), (0x283101, 0x283101), (0x500102,
      0x500106), (0x58000A, 0x58000A), (0x580101, 0x580101), (0x580104, 0x580105), (0x580201, 0x580201),
      (0x580203, 0x580204), (0x600103, 0x600103), (0x600201, 0x600201), (0x680101, 0x680101), (0x680103,
      0x680106), (0x68010C, 0x68010D), (0x680206, 0x680206), (0x681003, 0x681003), (0x681006, 0x681007),
      (0x68100A, 0x68100A), (0x70020C, 0x70020C), (0x700309, 0x700309), (0x701001, 0x701001), (0x701003,
      0x701003), (0x701006, 0x701006), (0x900005, 0x900005)]⟩
  | .modelMismatch .. =>
    ⟨[.now, .out, .memory, .clock, .mgmt, .logs], [(0x101107, 0x101107), (0x103003, 0x103003),
      (0x180002, 0x180002), (0x180101, 0x180103), (0x280105, 0x280105), (0x280205, 0x280205), (0x900005,
      0x900005)]⟩
  | .fastThrottleRelease .. =>
    ⟨[.now, .out], [(0x280105, 0x280105)]⟩
  | .throttleStepTimer .. =>
    ⟨[.now, .out, .clock], [(0x201003, 0x201003), (0x280104, 0x280104)]⟩
  | .lifeSecond .. =>
    ⟨[.now, .out, .health], [(0x280101, 0x280101), (0x280103, 0x280103), (0x280107, 0x280108),
      (0x280301, 0x280301), (0x281001, 0x281001)]⟩
  | .sdClear .. =>
    ⟨[.now, .out, .seq, .panel, .bridge, .memory, .clock, .mgmt, .net, .health, .logs], [(0x101103,
      0x101103), (0x101106, 0x101106), (0x180003, 0x180003), (0x189001, 0x189002), (0x200102, 0x200102),
      (0x200204, 0x200205), (0x201001, 0x201001), (0x201004, 0x201004), (0x202000, 0x2020FF), (0x203000,
      0x2030FF), (0x280105, 0x280105), (0x280401, 0x280405), (0x900005, 0x900005)]⟩
  | .probeReading .. =>
    ⟨[.now, .out, .health], [(0x280208, 0x280208), (0x282004, 0x282005)]⟩
  | .calCourse .. | .calTile .. | .calAbort .. =>
    ⟨[.now, .out, .seq, .mgmt, .health, .logs], [(0x101103, 0x101103), (0x101106, 0x101106), (0x180003,
      0x180003), (0x283002, 0x283002)]⟩
  | .calPluck .. =>
    ⟨[.now, .out, .bridge, .health], [(0x600209, 0x600209), (0x60100B, 0x60100B)]⟩
  | .calTimeout .. =>
    ⟨[.now, .out, .health], [(0x280207, 0x280207), (0x283101, 0x283101)]⟩
  | .cvKind .. | .cvReset .. | .cvFeed8 .. | .cvFeed16 .. | .cvFeed32 .. | .cvCheck .. =>
    ⟨[.now, .out, .seq, .clock, .mgmt, .health, .logs], [(0x101103, 0x101103), (0x101106, 0x101107),
      (0x103003, 0x103003), (0x180003, 0x180003), (0x280203, 0x280203), (0x284000, 0x2840FF)]⟩
  | .cvOwnerTimeout .. =>
    ⟨[.now, .out], [(0x28400C, 0x28400C)]⟩
  | .pfail .. =>
    ⟨[.now, .out, .codec, .ray, .seq, .panel, .bridge, .loop, .lanes, .memory, .clock, .mgmt, .health,
      .logs], [(0x101107, 0x101107), (0x103003, 0x103003), (0x180002, 0x180002), (0x180101, 0x180103),
      (0x180107, 0x180107), (0x188001, 0x188001), (0x189001, 0x189001), (0x201001, 0x201001), (0x201004,
      0x201004), (0x280207, 0x280207), (0x283002, 0x283005), (0x283101, 0x283101), (0x500102, 0x500106),
      (0x58000A, 0x58000A), (0x580101, 0x580101), (0x580104, 0x580105), (0x580201, 0x580201), (0x580203,
      0x580204), (0x600103, 0x600103), (0x600201, 0x600202), (0x680101, 0x680101), (0x680103, 0x680106),
      (0x68010C, 0x68010D), (0x680206, 0x680206), (0x681003, 0x681003), (0x681006, 0x681007), (0x68100A,
      0x68100A), (0x70020C, 0x70020C), (0x700309, 0x700309), (0x701001, 0x701001), (0x701003, 0x701003),
      (0x701006, 0x701006), (0x900005, 0x900005)]⟩
  | .autoRestartTimer .. =>
    ⟨[.now, .out, .panel, .bridge, .clock, .mgmt, .net, .logs], [(0x189001, 0x189002), (0x200102,
      0x200102), (0x200204, 0x200205), (0x201001, 0x201001), (0x201004, 0x201004), (0x202000, 0x2020FF),
      (0x203000, 0x2030FF)]⟩
  | .warmRestart .. =>
    ⟨[.now, .out, .seq, .panel, .bridge, .clock, .mgmt, .net, .logs], [(0x101103, 0x101103), (0x101106,
      0x101106), (0x180003, 0x180003), (0x189001, 0x189002), (0x200102, 0x200102), (0x200204, 0x200205),
      (0x201001, 0x201001), (0x201004, 0x201004), (0x202000, 0x2020FF), (0x203000, 0x2030FF)]⟩
  | .retainedRestoreDone .. =>
    ⟨[.now, .out, .blobs, .seq, .bridge, .memory, .health, .logs], [(0x000000, 0xFFFFFF)]⟩
  | .firmwareBootDone .. =>
    ⟨[.now, .out, .clock, .mgmt], [(0x101107, 0x101107), (0x103003, 0x103003), (0x189002, 0x189002),
      (0x201001, 0x201001), (0x201004, 0x201004), (0x910002, 0x910002), (0x910105, 0x910105), (0x910204,
      0x910204)]⟩
  | .islandRampsDone .. =>
    ⟨[.now, .out, .ingress, .codec, .comp, .ray, .panel, .bridge, .loop, .lanes, .memory, .clock,
      .logs], [(0x180002, 0x180002), (0x180101, 0x180103), (0x189002, 0x189002), (0x189104, 0x189108),
      (0x201001, 0x201001), (0x201004, 0x201004), (0x300202, 0x300202), (0x300205, 0x300205), (0x301001,
      0x301001), (0x301004, 0x301004), (0x38020A, 0x38020A), (0x382003, 0x382003), (0x400101, 0x400101),
      (0x580101, 0x580101), (0x580104, 0x580104), (0x601007, 0x60100A), (0x602004, 0x602004), (0x680101,
      0x680101), (0x680103, 0x680103), (0x680109, 0x680109), (0x681000, 0x6810FF), (0x682007, 0x682007),
      (0x700209, 0x700209), (0x700305, 0x700307), (0x700309, 0x700309), (0x701001, 0x701001), (0x701003,
      0x701003), (0x701006, 0x701006), (0x780102, 0x780104), (0x780203, 0x780203), (0x781001, 0x781003),
      (0x782001, 0x782001), (0x900005, 0x900005)]⟩
  | .islandError .. =>
    ⟨[.now, .out, .ingress, .codec, .comp, .ray, .seq, .panel, .bridge, .loop, .lanes, .memory, .clock,
      .mgmt, .net, .health, .logs], [(0x101107, 0x101107), (0x103003, 0x103003), (0x180002, 0x180002),
      (0x180101, 0x180106), (0x189001, 0x189001), (0x201001, 0x201001), (0x201004, 0x201004), (0x280207,
      0x280207), (0x283002, 0x283005), (0x283101, 0x283101), (0x300202, 0x300202), (0x300205, 0x300205),
      (0x30020C, 0x30020C), (0x301001, 0x301001), (0x301004, 0x301004), (0x350001, 0x350001), (0x38020A,
      0x38020A), (0x382003, 0x382003), (0x400101, 0x400101), (0x500102, 0x500106), (0x58000A, 0x58000A),
      (0x580101, 0x580101), (0x580105, 0x580105), (0x580201, 0x580201), (0x580203, 0x580204), (0x680101,
      0x680101), (0x680103, 0x680106), (0x68010C, 0x68010D), (0x680206, 0x680206), (0x681003, 0x681003),
      (0x681006, 0x681007), (0x68100A, 0x68100A), (0x700209, 0x700209), (0x70020C, 0x70020C), (0x700305,
      0x700307), (0x700309, 0x700309), (0x701001, 0x701001), (0x780102, 0x780102), (0x780207, 0x780207),
      (0x780301, 0x780303), (0x782001, 0x782001), (0x800101, 0x800102), (0x800106, 0x800106), (0x800201,
      0x800205), (0x801001, 0x801001), (0x802002, 0x802002), (0x900005, 0x900005), (0x910106, 0x910106),
      (0x910205, 0x910205)]⟩
  | .islandRestartDone .. =>
    ⟨[.now, .out, .ingress, .codec, .comp, .panel, .bridge, .lanes, .memory, .clock, .logs], [(0x180002,
      0x180002), (0x180101, 0x180103), (0x201001, 0x201001), (0x201004, 0x201004), (0x300202, 0x300202),
      (0x300205, 0x300205), (0x301001, 0x301001), (0x301004, 0x301004), (0x400101, 0x400101), (0x580101,
      0x580101), (0x580105, 0x580105), (0x580201, 0x580201), (0x580203, 0x580204), (0x602004, 0x602004),
      (0x700209, 0x700209), (0x70020C, 0x70020C), (0x700305, 0x700307), (0x700309, 0x700309), (0x701001,
      0x701001), (0x701003, 0x701003), (0x701006, 0x701006), (0x900005, 0x900005)]⟩
  | .extest .. | .samplePreload .. | .clamp .. | .highz .. | .bypass .. | .tapReset .. =>
    ⟨[.now, .out, .tapIr], []⟩
  | .fretBoundaryOverdue .. =>
    ⟨[.now, .out, .seq, .memory, .clock, .mgmt, .logs], [(0x101107, 0x101107), (0x103003, 0x103003),
      (0x180002, 0x180002), (0x180101, 0x180103), (0x500205, 0x500205), (0x501100, 0x5011FF), (0x900005,
      0x900005)]⟩
  | .fretFMinus1End .. =>
    ⟨[.now, .out, .codec, .ray, .seq, .panel, .bridge, .loop, .lanes, .memory, .clock, .mgmt, .health,
      .logs], [(0x101107, 0x101107), (0x103003, 0x103003), (0x180002, 0x180002), (0x180101, 0x180103),
      (0x189003, 0x189003), (0x189104, 0x189108), (0x280206, 0x280207), (0x280209, 0x280209), (0x283002,
      0x283005), (0x283101, 0x283103), (0x500102, 0x500106), (0x500201, 0x500201), (0x500203, 0x500203),
      (0x500205, 0x500205), (0x501100, 0x5011FF), (0x58000A, 0x58000A), (0x580100, 0x5801FF), (0x580201,
      0x580204), (0x580209, 0x580209), (0x600207, 0x600207), (0x680101, 0x680101), (0x680103, 0x680106),
      (0x68010D, 0x68010D), (0x680206, 0x680206), (0x681003, 0x681003), (0x681006, 0x681007), (0x68100A,
      0x68100A), (0x70020C, 0x70020C), (0x700309, 0x700309), (0x701001, 0x701001), (0x780207, 0x780207),
      (0x780301, 0x780303), (0x900005, 0x900005)]⟩
  | .pfailRelease .. =>
    ⟨[.now, .out, .clock, .mgmt], [(0x101107, 0x101107), (0x103003, 0x103003), (0x180107, 0x180107),
      (0x188001, 0x188001), (0x600202, 0x600202)]⟩
  | .railReturn .. =>
    ⟨[.now, .out, .clock], [(0x204001, 0x204001)]⟩
  | .malformedMessage .. =>
    ⟨[.now, .out], [(0x101108, 0x101108)]⟩

/-- After the command, whatever waits for a boundary may take effect, or the members that it writes wait
themselves: its footprint holds while nothing waits. -/
def waits (c : Instr) : Bool :=
  match c with
  | .cueGo .. | .cueClear .. | .counterClear .. | .latchPoint .. | .nutMark .. | .fretBoundary .. |
    .decodeSelftest .. | .dlaneFenced .. | .engineSelftest .. | .engFenced .. | .claneFenced .. |
    .displayRunStart .. | .displayRunStop .. | .timingMode .. | .glideFretEdge .. | .panelStatus .. |
    .panelStatusTimeout .. | .pnlPgRise .. | .pnlPgFall .. | .faultRearm .. | .panelPower .. |
    .droneEnter .. | .droneLeave .. | .linReset .. | .encoderEdge .. | .measuredNutMark .. |
    .wheelEnable .. | .wheelBrake .. | .rearm .. | .freeInput .. | .preset .. | .laneRetrain .. |
    .laneOutOfService .. | .laneReturn .. | .portRate .. | .portEnable .. | .bankFenced .. | .retCommit
    .. | .dramRequestDone .. | .ddrAlert .. | .inplaceRetrainDone .. | .channelOffline .. |
    .channelRetrain .. | .channelReturn .. | .pllSlip .. | .hclkLoss .. | .ratioSet .. | .gateClose .. |
    .gateIdle .. | .gateCloseTimeout .. | .gateOpen .. | .railUndervoltage .. | .chordKill .. |
    .masterKey .. | .pathEnable .. | .fwImage .. | .fwVerify .. | .fwSwitch .. | .stepNow .. |
    .thermalEvaluation .. | .lifeSecond .. | .sdClear .. | .calCourse .. | .calTile .. | .calAbort .. |
    .cvKind .. | .cvReset .. | .cvFeed8 .. | .cvFeed16 .. | .cvFeed32 .. | .cvCheck .. | .pfail .. |
    .autoRestartTimer .. | .warmRestart .. | .islandError .. | .islandRestartDone .. | .fretFMinus1End
    .. => true
  | _ => false

/-! ### Terms of the statements -/

/-- The latch point of the frame on display has come (R133). -/
def State.latchDue (s : State) : Bool :=
  s.seq.running && !s.seq.overlap && !s.seq.inGap && s.v 0x5001 0x02 + 1 == s.figures.f &&
    decide (s.seq.lastLatch ≤ s.seq.frameStart)

/-- A whole parcel of a kind whose header and body are as R42 asks. -/
def State.goodParcel (s : State) (kind : Nat) (bs : Bytes) : Bool :=
  field bs 1 1 == kind && hdrFieldsOk (parcelHdr bs) && bodyCheckOk bs &&
    (match kind with
     | 1 => tileFieldsOk s.mode (parcelBody bs)
     | 2 => headerFieldsOk (parcelHdr bs).cueLoad (parcelBody bs)
     | 3 => closeFieldsOk (parcelHdr bs) (parcelBody bs)
     | 4 => triggerFieldsOk (parcelBody bs)
     | _ => s.layerFieldsOk (parcelBody bs))

/-- The next store assembles the frame of a streamed parcel (R48). -/
def State.assembles (s : State) (bs : Bytes) : Bool :=
  s.ingress.replay.isNone && s.nextStore.number == some (parcelHdr bs).frame && !s.ingress.spillCopy &&
    !(parcelHdr bs).cueLoad

/-- The queue under which a tile parcel is filed in the next store (R34, R84). -/
def State.tileQueue (s : State) (bs : Bytes) : Nat :=
  queueOf (renumbered s.nextStore.created (field (parcelBody bs) 0 1))
    (s.mode.tileIndex (field (parcelBody bs) 1 1) (field (parcelBody bs) 2 1))

/-- The tile keeps a whole parcel: its header has been decided on so, or is decided on so now (R43, R44, R308). -/
def State.keepsParcel (s : State) (port : Nat) (bs : Bytes) : Bool :=
  match (s.inbound? port).filter fun i => i.hdr == bs.take 24 with
  | some i => i.keep
  | none => hdrCheckOk (bs.take 24) && (parcelHdr (bs.take 24)).wall == s.v 0x3000 0x01 &&
      (s.relayDecision port (parcelHdr (bs.take 24))).keep && s.ve 0x2030 0x373 0x02 != 0

/-- A block arrives on the lane whose slot the receiver of a port that is up takes next, and nothing waits
behind it for a place (R245). -/
def State.inTurn (s : State) (lane : Nat) : Bool :=
  decide (128 ≤ lane ∧ lane < 192) && s.ve 0x7003 (portOfLane lane) 0x05 == 2 && s.laneServes lane &&
    (s.rxOrder (portOfLane lane))[(s.group lane).rxSlot]? == some lane &&
    (portLanes (portOfLane lane)).all fun l => (s.lane l).fifo.isEmpty

/-- A good block of a type that arrives in its turn and in sequence (R245, R248). -/
def State.nextBlock (s : State) (lane ty : Nat) (b : Bytes) : Bool :=
  s.inTurn lane && blockOk b && blockType b == ty && blockSeq b == (s.group lane).rxSeq

/-- A request of an open session (R322). -/
def requestIn (y : Session) (ty m seq chord : Nat) (body : Bytes) : Bytes :=
  packMsg ty m 0 y.id seq chord body y.key

/-- A reply of the device in a session (R323). -/
def replyOut (y : Session) (m seq code : Nat) (items : List (Nat × Bytes)) (extra : Bytes) : Bytes :=
  packMsg 6 m 0x80 y.id y.seqOut 0xFFFF (replyBody seq code items extra) y.key

/-- A frame of the device's own has left an Ethernet port, or waits there behind PTP messages and own frames
(R351). -/
def State.sentOwn (s : State) (port : Nat) (o : Output) : Prop :=
  o ∈ s.out ∨ ∃ x ∈ s.net.queue, x.out = port ∧ x.own = some o

/-- A message has left on a path: in its frame on the host link, or as an Ethernet port's own frame (R321). -/
def State.hasSent (s : State) (path : Nat) (peer msg : Bytes) : Prop :=
  if path = 0 then .yalok 0 peer (hostFrame msg) ∈ s.out else s.sentOwn (path - 1) (.yalok path peer msg)

/-- A master may send a request in its open session: it is reached and served, and the sequence is new
(R320, R326, R345). -/
def State.canAsk (s : State) (path m seq : Nat) (y : Session) : Bool :=
  s.yalokOpen path && decide (path < 3) && !s.handingOver && s.reached m path &&
    s.session? m == some y && y.fresh seq && decide (seq < 2 ^ 32 ∧ y.id < 2 ^ 32 ∧ y.seqOut < 2 ^ 32)

/-- The state in which a request is carried out: its session has taken the sequence, path and peer. -/
def State.asks (s : State) (t path : Nat) (peer : Bytes) (m seq : Nat) (y : Session) : State :=
  (s.enter t).putSession m (y.take seq path peer)

/-- A parcel of kind 1, 2 or 3. -/
def parcelIn (kind t port : Nat) (bs : Bytes) : Instr :=
  match kind with
  | 1 => .tile t port bs
  | 2 => .frameHeader t port bs
  | _ => .frameClose t port bs

/-- The commands that bring parcels. -/
def bringsParcel (c : Instr) : Bool :=
  match c with
  | .parcelHeaderArrives .. | .relayParcelStart .. | .tile .. | .frameHeader .. | .frameClose ..
  | .cueTrigger .. | .layerData .. | .spillCopyDone .. | .cueCopyDone .. | .blockData .. | .parcelStart ..
  | .parcelAbort .. => true
  | _ => false

end Sys2Proof.Machine
end

