-- ==== Sys2Proof/Certificates/Slice0/Obligations.lean ====
section
/-!
DEFINITION. The statements about the block, from the spec's numbered rules. Those on what commands do have
as their conclusion that a command answers a next state, under hypotheses on the state and the operands
alone; those on what commands leave unchanged speak through `Keeps` and `footOf` of Safety.lean.
-/

open Sys2Proof Sys2Proof.Machine

/-! ### The queue, reset and soundness -/

/-- R9: a step takes the command at the front of the queue and runs it with the queue's rest. That it
idles on an empty queue is the model's choice (log entry 1). -/
def Obligations.StepTakesTheFront : Prop :=
  (∀ (s : State) (c : Instr) (l : List Instr), s.pending = c :: l →
    step s = exec c { s with pending := l }) ∧
  (∀ s : State, s.pending = [] → step s = .next s)

/-- R7, R54, R123, R436: reset leaves every member at its default, nothing under way, and the instruction
register of the test access port at BYPASS; its tables have their canonical form. -/
def Obligations.ResetHoldsTheDefaults : Prop :=
  State.reset.sound ∧ State.reset.pending = [] ∧ State.reset.tapIr = 0xFF#8 ∧
  (∀ o e m, State.reset.ve o e m = dfltAt (mkey o e m)) ∧
  State.reset.displayRuns = false ∧ State.reset.permitted = false ∧ State.reset.seq.running = false ∧
  State.reset.curStore = Frame.empty ∧ State.reset.nextStore = Frame.empty ∧
  (∀ n, State.reset.session? n = none) ∧ State.reset.ingress.cues = []

/-- The tables of the state stay sound at every step: rising keys, no member at its default, no empty
BLOB, no DRAM byte at its fill value; and no free value is taken back. -/
def Obligations.StepKeepsSound : Prop :=
  ∀ (s s' : State), s.sound → step s = .next s' → s'.sound ∧ s.freeIdx ≤ s'.freeIdx

/-- A command that names only what the device has runs; one that does not stops with `noSuchUnit`. The
fault is the model's (log entry 5). -/
def Obligations.WellFormedCommandsRun : Prop :=
  (∀ (c : Instr) (s : State), c.wf = true → ∃ s', runs c s s') ∧
  (∀ (c : Instr) (s : State), c.wf = false → exec c s = .fault .noSuchUnit)

/-- R187, R188, R189: no command raises a string gate unless emission is permitted and the string's course
is in service. -/
def Obligations.GatesNeedPermission : Prop :=
  ∀ (c : Instr) (s s' : State) (n rise fall : Nat), runs c s s' → Output.gate n rise fall ∈ s'.out →
    n < 48 ∧ s'.permitted = true ∧ s'.courseOut (n / 3) = false

/-! ### Geometry and slots -/

/-- R30, R31: columns, bands, tile indexes, and the places and raw sizes of tiles. -/
def Obligations.TilesOfAMode : Prop :=
  (∀ m : Mode, m.h ≤ 128 * m.cols ∧ 128 * m.cols < m.h + 128 ∧ m.v ≤ 64 * m.bands ∧
    64 * m.bands < m.v + 64 ∧ (m.valid = true → m.cols * m.bands ≤ 512)) ∧
  (∀ (m : Mode) (b c : Nat), m.tileIndex b c = b * m.cols + c ∧
    (b < m.bands → c < m.cols → m.tileIndex b c < m.cols * m.bands)) ∧
  (∀ (m : Mode) (b c : Nat), m.tileW c = min 128 (m.h - 128 * c) ∧ m.tileH b = min 64 (m.v - 64 * b) ∧
    m.rawSize b c = m.tileW c * m.tileH b * 4) ∧
  (∀ (m : Mode) (x y : Nat), x < m.h → y < m.v →
    x / 128 < m.cols ∧ x < 128 * (x / 128) + m.tileW (x / 128) ∧
    y / 64 < m.bands ∧ y < 64 * (y / 64) + m.tileH (y / 64)) ∧
  ((State.reset.modeSlot 0).cols = 20 ∧ (State.reset.modeSlot 0).bands = 23 ∧
    (State.reset.modeSlot 0).tileIndex 22 19 = 459 ∧
    (∀ b c, b ≤ 21 → c < 20 → (State.reset.modeSlot 0).rawSize b c = 32768) ∧
    (∀ c, c < 20 → (State.reset.modeSlot 0).rawSize 22 c = 16384)) ∧
  ((State.reset.modeSlot 1).cols = 10 ∧ (State.reset.modeSlot 1).bands = 12 ∧
    (State.reset.modeSlot 1).tileIndex 11 9 = 119 ∧
    (∀ c, c < 10 → (State.reset.modeSlot 1).rawSize 11 c = 8192))

/-- R125: the colour and the bit of a slot, and the mirrored order of odd frets. -/
def Obligations.PlanesOfASlot : Prop :=
  (∀ f j, f % 2 = 0 → slotColour f j = j / 10 ∧ slotBit f j = 9 - j % 10) ∧
  (∀ f j, f % 2 = 1 → slotColour f j = 2 - j / 10 ∧ slotBit f j = j % 10) ∧
  (∀ f g j, f % 2 = 0 → g % 2 = 1 → j < 30 →
    slotColour g j = slotColour f (29 - j) ∧ slotBit g j = slotBit f (29 - j)) ∧
  (∀ m : Mode, m.valid = true → m.f % 2 = 0)

/-- R109: the greatest plane count with S sub-views, S being at most Lw at the small tile. -/
def Obligations.PlaneLimits : Prop :=
  (∀ (m : Mode) (sv : Nat), m.pmax sv = if m.f * sv ≤ 128 then 64 else 32) ∧
  ((State.reset.modeSlot 0).pmax 4 = 32 ∧ (State.reset.modeSlot 0).pmax 2 = 64 ∧
    (State.reset.modeSlot 0).pmax 1 = 64) ∧
  (∀ sv, 0 < sv → sv ≤ (State.reset.modeSlot 1).lw → (State.reset.modeSlot 1).pmax sv = 64)

/-- R18, R121, R125: the 30 slots of a fret follow one another without a gap and fill it, and every bit of
every colour has exactly one slot. -/
def Obligations.SlotsFillTheFret : Prop :=
  (∀ m : Mode, 0 < m.ls → m.slotStart 0 = 0 ∧ m.slotStart 30 = m.fretPeriod ∧
    ∀ j, j < 30 → m.slotStart (j + 1) = m.slotStart j + m.slotLen j) ∧
  (∀ f c k, c < 3 → k < 10 → ∃ j, j < 30 ∧ slotColour f j = c ∧ slotBit f j = k ∧
    ∀ i, i < 30 → slotColour f i = c → slotBit f i = k → i = j) ∧
  (∀ m : Mode, m.valid = true → m.f * m.fretPeriod + m.gap = m.frame ∧ m.window1 < m.fretPeriod)

/-! ### Codes -/

/-- R62: a decoder never writes beyond the raw size of the tile, and a stream that decodes correctly
reaches it exactly. -/
def Obligations.DecodedStreamsFillTheTile : Prop :=
  ∀ (n w : Nat) (bs : Bytes), n % 4 = 0 →
    (decodeStream n w bs).raw.length ≤ n ∧
    ((decodeStream n w bs).reason = 0 → (decodeStream n w bs).raw.length = n)

/-- R73, R75: what a compression lane produces decodes to the source tile, at every level. -/
def Obligations.CompressedTilesDecodeBack : Prop :=
  ∀ (level w : Nat) (raw : Bytes), level ≤ 8 → 0 < w → 0 < raw.length → raw.length ≤ 32768 →
    raw.length % 4 = 0 →
    decodeStream raw.length w (compress level w raw).1 = { reason := 0, raw := raw }

/-- R242: stuffing is undone at the receiver, the scrambler by the descrambler, and the line never
carries more than 48 equal bits. -/
def Obligations.LineCodeRoundTrip : Prop :=
  (∀ (last : Bool) (run : Nat) (bits : List Bool), run < 48 →
    unstuff last run false (stuff last run bits) = bits) ∧
  (∀ (h : Nat) (bits : List Bool), descramble h (scramble h bits) = bits) ∧
  (∀ (last : Bool) (run : Nat) (bits pre post : List Bool) (x : Bool), run < 48 →
    stuff last run bits ≠ pre ++ List.replicate 49 x ++ post)

/-- R181, R182, R216, R217, R240: blocks, course-link frames and drive frames carry what was put into
them, and pass their own check. -/
def Obligations.FramesRoundTrip : Prop :=
  (∀ (ty seq : Nat) (payload : Bytes), ty < 16 → seq < 4096 → payload.length = 64 →
    blockOk (mkBlock ty seq payload) = true ∧ blockType (mkBlock ty seq payload) = ty ∧
    blockSeq (mkBlock ty seq payload) = seq ∧ blockPayload (mkBlock ty seq payload) = payload) ∧
  (∀ (ty i code slot course seq : Nat) (m p : Bool), ty < 16 → i < 4 → code < 2 ^ 16 → slot < 32 →
    course < 2 ^ 11 → seq < 2 ^ 16 →
    frame64Ok (downlink ty i m p code slot course seq) = true ∧
    upType (downlink ty i m p code slot course seq) = ty ∧
    upString (downlink ty i m p code slot course seq) = i ∧
    upValue (downlink ty i m p code slot course seq) = code ∧
    upSeq (downlink ty i m p code slot course seq) = seq) ∧
  (∀ (ty seq : Nat) (torque : Int) (en : Bool), ty < 16 → seq < 256 → -32768 ≤ torque → torque ≤ 32767 →
    frame48Ok (driveFrame ty torque seq en) = true ∧ drvType (driveFrame ty torque seq en) = ty ∧
    drvSeq (driveFrame ty torque seq en) = seq)

/-- R322, R323: a message that is packed is read back as it was: every field, the body, and the tag. -/
def Obligations.MessagesRoundTrip : Prop :=
  (∀ (ty m flags session seq chord : Nat) (body key : Bytes), ty < 256 → m < 256 → flags < 256 →
    session < 2 ^ 32 → seq < 2 ^ 32 → chord < 2 ^ 16 → body.length ≤ 1408 →
    ∃ x, parseMsg (packMsg ty m flags session seq chord body key) = some x ∧ x.version = 1 ∧
      x.type = ty ∧ x.master = m ∧ x.flags = flags ∧ x.session = session ∧ x.seq = seq ∧
      x.chord = chord ∧ x.body = body ∧ x.tag = tagOf key x.head) ∧
  (∀ (b : Bytes) (x : Msg), parseMsg b = some x →
    b = x.head ++ x.tag ∧ x.head.length = 16 + x.body.length ∧ x.tag.length = 16)

/-- R24: a parcel for a frame whose store has become current, or that has been passed over, is discarded
and counted; no parcel is ever written into the current store. -/
def Obligations.LateParcelsAreDiscarded : Prop :=
  (∀ (s : State) (t port kind : Nat) (bs : Bytes), port < 8 → 1 ≤ kind → kind ≤ 3 →
    s.keepsParcel port bs = true → s.goodParcel kind bs = true → (parcelHdr bs).cueLoad = false →
    s.afterCutoff (parcelHdr bs).frame = false → s.nextStore.number ≠ some (parcelHdr bs).frame →
    ∃ s', runs (parcelIn kind t port bs) s s' ∧ s'.nextStore = s.nextStore ∧
      s'.ingress.spill = s.ingress.spill ∧ s'.ingress.cues = s.ingress.cues ∧
      counted s s' 0x3002 0 (if s.ingress.replay.isSome then 0x0F else 0x06)) ∧
  (∀ (c : Instr) (s s' : State), bringsParcel c = true → runs c s s' → s'.curStore = s.curStore)

/-! ### What commands leave unchanged -/

/-- R8, R136: a plain write that is accepted and takes effect at once changes that one member, whatever
the element, and no part of any unit. -/
def Obligations.PlainWritesChangeOneMember : Prop :=
  ∀ (s s' : State) (t o e m v : Nat), s.acceptsValue t 0 o e m v = true → s.atOnce o e m = true →
    s.calm = true → plainMember (s.enter t) o e m v = true → runs (.memberWrite t o e m v) s s' →
    Keeps ⟨[.now, .out, .mgmt, .memory], [(o * 256 + m, o * 256 + m)]⟩ s s' ∧
    ∀ k, k ≠ mkey o e m → tget? k s'.dict = tget? k s.dict

/-- Every well-formed command of the scene stream, the codec, the compositor and the array completes,
and changes only what `footOf` gives it. -/
def Obligations.ContentCommandsKeepTheRest : Prop :=
  ∀ (c : Instr) (s : State), areaOf c = .content → c.wf = true →
    ∃ s', runs c s s' ∧ ((waits c = true → s.calm = true) → Keeps (footOf c) s s')

/-- Every well-formed command of the timeline and the panel completes, and changes only what `footOf`
gives it. -/
def Obligations.DisplayCommandsKeepTheRest : Prop :=
  ∀ (c : Instr) (s : State), areaOf c = .display → c.wf = true →
    ∃ s', runs c s s' ∧ ((waits c = true → s.calm = true) → Keeps (footOf c) s s')

/-- Every well-formed command of strings, course links, the wheel and its loops completes, and changes
only what `footOf` gives it. -/
def Obligations.LightCommandsKeepTheRest : Prop :=
  ∀ (c : Instr) (s : State), areaOf c = .light → c.wf = true →
    ∃ s', runs c s s' ∧ ((waits c = true → s.calm = true) → Keeps (footOf c) s s')

/-- Every well-formed command of lanes and memories completes, and changes only what `footOf` gives it. -/
def Obligations.StoreCommandsKeepTheRest : Prop :=
  ∀ (c : Instr) (s : State), areaOf c = .store → c.wf = true →
    ∃ s', runs c s s' ∧ ((waits c = true → s.calm = true) → Keeps (footOf c) s s')

/-- Every well-formed command of clocks, power, start-up and test completes, and changes only what
`footOf` gives it. -/
def Obligations.SupplyCommandsKeepTheRest : Prop :=
  ∀ (c : Instr) (s : State), areaOf c = .supply → c.wf = true →
    ∃ s', runs c s s' ∧ ((waits c = true → s.calm = true) → Keeps (footOf c) s s')

/-- Every well-formed command of management completes, and changes only what `footOf` gives it. -/
def Obligations.ManagementCommandsKeepTheRest : Prop :=
  ∀ (c : Instr) (s : State), areaOf c = .management → c.wf = true →
    ∃ s', runs c s s' ∧ ((waits c = true → s.calm = true) → Keeps (footOf c) s s')

/-- Every well-formed command of network time, health, calibration and check values completes, and
changes only what `footOf` gives it. -/
def Obligations.NetworkAndHealthCommandsKeepTheRest : Prop :=
  ∀ (c : Instr) (s : State), areaOf c = .network ∨ areaOf c = .health → c.wf = true →
    ∃ s', runs c s s' ∧ ((waits c = true → s.calm = true) → Keeps (footOf c) s s')

/-! ### What each command does -/

/-- R8, R57, R331: A plain member takes the value that a command writes to it; CLEAR sets its
counters to 0. While display runs, a value of class fret or frame waits for its boundary. A write
that is refused changes no member of the unit: its code is kept and entered. -/
def Obligations.MemberWrites : Prop :=
  (∀ (s : State) (t o e m v : Nat), s.acceptsValue t 0 o e m v = true → s.atOnce o e m = true →
    s.calm = true → plainMember (s.enter t) o e m v = true →
    ∃ s', runs (.memberWrite t o e m v) s s' ∧ s'.mgmt.lastCode = 0 ∧ s'.ve o e m = v) ∧
  (∀ (s : State) (t o v : Nat), s.acceptsValue t 0 o 0 0x10 v = true → s.calm = true → o ≠ 0x5800 →
    (rowOf o 0 0x10).any (fun r => r.acc == .wo) = true →
    ∃ s', runs (.counterClear t o v) s s' ∧ s'.mgmt.lastCode = 0 ∧
      ∀ k, inRanges (clearedBy o) k = true → tget? k s'.dict = none) ∧
  (∀ (s : State) (t o e m v : Nat), s.acceptsValue t 0 o e m v = true → s.atOnce o e m = false →
    ∃ s', runs (.memberWrite t o e m v) s s' ∧ s'.mgmt.lastCode = 0 ∧ s'.dict = s.dict ∧
      ∃ p, s'.seq.pend.getLast? = some p ∧ p.object = o ∧ p.element = e ∧ p.member = m ∧ p.value = v ∧
        p.frame = (s.pointOf p.cls).1) ∧
  (∀ (s : State) (t o e m v : Nat), s.acceptsValue t 0 o e m v = false → o ≠ 0x2020 → o ≠ 0x2030 →
    ∃ s', runs (.memberWrite t o e m v) s s' ∧ s'.mgmt.lastCode ≠ 0 ∧
      Keeps ⟨[.now, .out, .mgmt, .logs],
        [(0x101103, 0x101103), (0x101106, 0x101106), (0x180003, 0x180003)]⟩ s s')

/-- R54, R55, R72, R75, R116: CUE_GO takes the trigger of 3040, and CUE_CLEAR empties a cue. A
fenced unit is out of service, and a returned one waits for its self-test. -/
def Obligations.CueAndPoolWrites : Prop :=
  (∀ (s : State) (t v : Nat), s.acceptsValue t 0 0x3040 0 0x05 v = true → s.calm = true →
    s.ingress.replay = none → s.seq.running = false → s.heldTrigger.count ≠ 0 →
    ∃ s', runs (.cueGo t v) s s' ∧ s'.mgmt.lastCode = 0 ∧ s'.ingress.trigger = some s.heldTrigger) ∧
  (∀ (s : State) (t cue v : Nat), s.acceptsValue t 0 0x3500 cue 0x03 v = true → s.calm = true →
    ∃ s', runs (.cueClear t cue v) s s' ∧ s'.mgmt.lastCode = 0 ∧ s'.ve 0x3500 cue 0x01 = 0 ∧
      s'.ve 0x3500 cue 0x02 = 0 ∧ tget? cue s'.ingress.cues = none) ∧
  (∀ (s : State) (t n v : Nat), s.acceptsValue t 0 0x3810 n 0x02 v = true → s.displayRuns = false →
    s.calm = true →
    ∃ s', runs (.dlaneFenced t n v) s s' ∧ s'.mgmt.lastCode = 0 ∧ s'.ve 0x3810 n 0x02 = v ∧
      (v = 1 → s'.ve 0x3810 n 0x01 = 2) ∧
      (v = 0 → s.ve 0x3810 n 0x01 = 2 → s'.ve 0x3810 n 0x01 = 3)) ∧
  (∀ (s : State) (t n v : Nat), s.acceptsValue t 0 0x4810 n 0x02 v = true → s.displayRuns = false →
    s.calm = true →
    ∃ s', runs (.engFenced t n v) s s' ∧ s'.mgmt.lastCode = 0 ∧ s'.ve 0x4810 n 0x02 = v ∧
      (v = 1 → s'.ve 0x4810 n 0x01 = 2) ∧
      (v = 0 → s.ve 0x4810 n 0x01 = 2 → s'.ve 0x4810 n 0x01 = 3)) ∧
  (∀ (s : State) (t n v : Nat), s.acceptsValue t 0 0x3820 n 0x04 v = true → s.calm = true →
    ∃ s', runs (.claneFenced t n v) s s' ∧ s'.mgmt.lastCode = 0 ∧ s'.ve 0x3820 n 0x04 = v ∧
      (s.ve 0x3820 n 0x03 ≠ 1 → s'.ve 0x3820 n 0x03 = if v = 1 then 2 else 0))

/-- R139, R147, R169, R170: Display run and stop, timing modes, and drone mode. -/
def Obligations.DisplayWrites : Prop :=
  (∀ (s : State) (t : Nat), s.acceptsValue t 0 0x5000 0 0x02 1 = true → s.calm = true →
    ∃ s', runs (.displayRunStart t) s s' ∧ s'.mgmt.lastCode = 0 ∧ s'.v 0x5000 0x02 = 1) ∧
  (∀ (s : State) (t : Nat), s.acceptsValue t 0 0x5000 0 0x02 0 = true → s.displayRuns = true →
    ∃ s', runs (.displayRunStop t) s s' ∧ s'.mgmt.lastCode = 0 ∧ s'.v 0x5000 0x02 = 0 ∧
      s'.v 0x5001 0x03 = 5 ∧ s'.seq.stopDue = true) ∧
  (∀ (s : State) (t v : Nat), s.acceptsValue t 0 0x5000 0 0x01 v = true → s.displayRuns = false →
    s.calm = true →
    ∃ s', runs (.timingMode t v) s s' ∧ s'.mgmt.lastCode = 0 ∧ s'.v 0x5000 0x01 = v ∧
      s'.v 0x5001 0x04 = v) ∧
  (∀ (s : State) (t : Nat), s.acceptsValue t 0 0x5800 0 0x0A 1 = true → s.v 0x5001 0x03 = 0 →
    s.calm = true →
    ∃ s', runs (.droneEnter t) s s' ∧ s'.mgmt.lastCode = 0 ∧ s'.v 0x5001 0x03 = 4 ∧
      s'.v 0x5800 0x0A = 1) ∧
  (∀ (s : State) (t : Nat), s.acceptsValue t 0 0x5800 0 0x0A 1 = true → s.displayRuns = true →
    ∃ s', runs (.droneEnter t) s s' ∧ s'.mgmt.lastCode = 0 ∧ s'.v 0x5001 0x03 = 5 ∧
      s'.seq.droneDue = true) ∧
  (∀ (s : State) (t : Nat), s.acceptsValue t 0 0x5800 0 0x0A 0 = true → s.v 0x5001 0x03 = 4 →
    s.calm = true →
    ∃ s', runs (.droneLeave t) s s' ∧ s'.mgmt.lastCode = 0 ∧ s'.v 0x5001 0x03 = 0 ∧
      s'.v 0x5800 0x0A = 0)

/-- R165, R167, R193, R202, R208, R230, R231, R234: Panel power and re-arm, the linearity reset, the
wheel's run bit and re-arm, and the free slots of the loop engine. -/
def Obligations.DriveWrites : Prop :=
  (∀ (s : State) (t v : Nat), s.acceptsValue t 0 0x5800 0 0x10 v = true → s.calm = true →
    ∃ s', runs (.faultRearm t v) s s' ∧ s'.mgmt.lastCode = 0 ∧ s'.panel.faulted = false) ∧
  (∀ (s : State) (t v : Nat), s.acceptsValue t 0 0x5800 0 0x0F v = true → s.calm = true →
    ∃ s', runs (.panelPower t v) s s' ∧ s'.mgmt.lastCode = 0 ∧ s'.v 0x5800 0x0F = v) ∧
  (∀ (s : State) (t v : Nat), s.acceptsValue t 0 0x6000 0 0x05 v = true → s.calm = true →
    ∃ s', runs (.linReset t v) s s' ∧ s'.mgmt.lastCode = 0 ∧
      ∀ n, n < 48 → s'.ve 0x6010 n 0x08 = 0 ∧ s'.ve 0x6010 n 0x09 = 0 ∧ s'.ve 0x6010 n 0x0A = 0) ∧
  (∀ (s : State) (t : Nat), s.acceptsValue t 0 0x6800 0 0x01 1 = true → s.calm = true →
    ∃ s', runs (.wheelEnable t) s s' ∧ s'.mgmt.lastCode = 0 ∧ s'.v 0x6800 0x01 = 1 ∧
      s'.loop.brakeDue = false) ∧
  (∀ (s : State) (t : Nat), s.acceptsValue t 0 0x6800 0 0x01 0 = true → s.displayRuns = false →
    s.calm = true → 3 ≤ s.wheel → s.wheel ≤ 7 →
    ∃ s', runs (.wheelBrake t) s s' ∧ s'.mgmt.lastCode = 0 ∧ s'.v 0x6800 0x01 = 0 ∧ s'.wheel = 8) ∧
  (∀ (s : State) (t : Nat), s.acceptsValue t 0 0x6800 0 0x01 0 = true → s.displayRuns = true →
    ∃ s', runs (.wheelBrake t) s s' ∧ s'.mgmt.lastCode = 0 ∧ s'.v 0x6800 0x01 = 0 ∧
      s'.loop.brakeDue = true ∧ s'.v 0x5001 0x03 = 5) ∧
  (∀ (s : State) (t v : Nat), s.acceptsValue t 0 0x6800 0 0x0F v = true → s.calm = true →
    ∃ s', runs (.rearm t v) s s' ∧ s'.mgmt.lastCode = 0 ∧ s'.loop.lost = false ∧ s'.loop.nuts = 0) ∧
  (∀ (s : State) (t slot v : Nat), s.acceptsValue t 0 0x6810 slot 0x08 v = true → s.calm = true →
    50 ≤ slot → s.ve 0x6810 slot 0x03 ≠ 1 →
    ∃ s', runs (.freeInput t slot v) s s' ∧ s'.mgmt.lastCode = 0 ∧ counted s s' 0x6810 slot 0x04) ∧
  (∀ (s : State) (t slot v : Nat), s.acceptsValue t 0 0x6810 slot 0x09 v = true → s.calm = true →
    50 ≤ slot → s.slotSections slot ≠ 0 →
    ∃ s', runs (.preset t slot v) s s' ∧ s'.mgmt.lastCode = 0 ∧
      (s'.secState slot (s.slotSections slot - 1)).y1 = (satMant (toS 32 v)).1 ∧
      (s'.secState slot (s.slotSections slot - 1)).x1 = 0)

/-- R259, R260, R268, R273, R290, R292: The commands of lanes and ports. The commands of the bank
pool, the retained store and DRAM channels. -/
def Obligations.LinkAndMemoryWrites : Prop :=
  (∀ (s : State) (t lane : Nat), s.acceptsValue t 0 0x7010 lane 0x02 1 = true → s.calm = true →
    ∃ s', runs (.laneRetrain t lane) s s' ∧ s'.mgmt.lastCode = 0 ∧ counted s s' 0x7002 0 0x06 ∧
      counted s s' 0x7010 lane 0x09) ∧
  (∀ (s : State) (t lane : Nat), s.acceptsValue t 0 0x7010 lane 0x02 2 = true → s.calm = true →
    ∃ s', runs (.laneOutOfService t lane) s s' ∧ s'.mgmt.lastCode = 0 ∧ s'.laneState lane = 3 ∧
      counted s s' 0x7002 0 0x08) ∧
  (∀ (s : State) (t lane : Nat), s.acceptsValue t 0 0x7010 lane 0x02 3 = true → s.calm = true →
    s.laneServes lane = false → s.gateOpen? (gateLane + lane) = true →
    ∃ s', runs (.laneReturn t lane) s s' ∧ s'.mgmt.lastCode = 0 ∧ s'.laneState lane = 1) ∧
  (∀ (s : State) (t port v : Nat), s.acceptsValue t 0 0x7003 port 0x01 v = true → s.calm = true →
    ∃ s', runs (.portRate t port v) s s' ∧ s'.mgmt.lastCode = 0 ∧ s'.ve 0x7003 port 0x01 = v ∧
      (s.ve 0x7003 port 0x01 ≠ v →
        s'.ve 0x7003 port 0x05 = if s.ve 0x7003 port 0x02 = 1 then 1 else 3)) ∧
  (∀ (s : State) (t port v : Nat), s.acceptsValue t 0 0x7003 port 0x02 v = true → s.calm = true →
    ∃ s', runs (.portEnable t port v) s s' ∧ s'.mgmt.lastCode = 0 ∧ s'.ve 0x7003 port 0x02 = v ∧
      (s.ve 0x7003 port 0x02 ≠ v → s'.ve 0x7003 port 0x05 = if v = 1 then 1 else 3)) ∧
  (∀ (s : State) (t bank v : Nat), s.acceptsValue t 0 0x7810 bank 0x02 v = true →
    s.displayRuns = false → s.calm = true → v = 1 → s.spareBanks ≠ [] →
    (s.ve 0x7810 bank 0x01 = 0 ∨ s.ve 0x7810 bank 0x01 = 1) →
    ∃ s', runs (.bankFenced t bank v) s s' ∧ s'.mgmt.lastCode = 0 ∧ s'.ve 0x7810 bank 0x02 = 1 ∧
      s'.ve 0x7810 bank 0x01 = (if s.ve 0x7810 bank 0x01 = 0 then 3 else 2) ∧
      counted s s' 0x7802 0 0x03) ∧
  (∀ (s : State) (t v : Nat), s.acceptsValue t 0 0x9000 0 0x02 v = true → s.calm = true →
    s.memory.journal ≠ [] → s.memory.committing = none →
    s.memory.activeUsed + journalBlocks s.memory.journal ≤ 128 →
    ∃ s', runs (.retCommit t v) s s' ∧ s'.mgmt.lastCode = 0 ∧
      s'.memory.committing = some s.memory.journal ∧ s'.memory.journal = [] ∧
      s'.memory.activeUsed = s.memory.activeUsed + journalBlocks s.memory.journal) ∧
  (∀ (s : State) (t c : Nat), s.acceptsValue t 0 0x7820 c 0x02 1 = true → s.calm = true →
    ∃ s', runs (.channelOffline t c) s s' ∧ s'.mgmt.lastCode = 0 ∧ s'.chanState c = 3 ∧
      s'.memory.migrating = some c ∧ counted s s' 0x7802 0 0x0E) ∧
  (∀ (s : State) (t c : Nat), s.acceptsValue t 0 0x7820 c 0x02 2 = true → s.calm = true →
    ∃ s', runs (.channelRetrain t c) s s' ∧ s'.mgmt.lastCode = 0 ∧ s'.chanState c = 1 ∧
      (s'.chan c).offline = true) ∧
  (∀ (s : State) (t c : Nat), s.acceptsValue t 0 0x7820 c 0x02 3 = true → s.calm = true →
    ¬(s.chanState c = 4 ∧ (s.chan c).retrained = true) →
    ∃ s', runs (.channelReturn t c) s s' ∧ s'.mgmt.lastCode = 0 ∧ s'.chanState c = 1 ∧
      (s'.chan c).returnDue = true) ∧
  (∀ (s : State) (t c : Nat), s.acceptsValue t 0 0x7820 c 0x02 3 = true → s.calm = true →
    s.chanState c = 4 → (s.chan c).retrained = true →
    ∃ s', runs (.channelReturn t c) s s' ∧ s'.mgmt.lastCode = 0 ∧
      s'.chanState c = if (tget? c s.memory.redirects).isSome then 6 else 2)

/-- R299, R305, R307, R361, R378, R398: A clock ratio, the gates, a step of wall time, and restarts. -/
def Obligations.ClockWrites : Prop :=
  (∀ (s : State) (t island v : Nat), s.acceptsValue t 0 0x2010 island 0x02 v = true → s.calm = true →
    ∃ s', runs (.ratioSet t island v) s s' ∧ s'.mgmt.lastCode = 0 ∧ s'.ve 0x2010 island 0x02 = v) ∧
  (∀ (s : State) (t e : Nat) (unit : Bool), s.acceptsValue t 0 (gateObject unit) e 0x01 0 = true →
    s.calm = true → s.gateState unit e ≠ 0 →
    ∃ s', runs (.gateClose t unit e) s s' ∧ s'.mgmt.lastCode = 0 ∧ s'.gateState unit e = 3 ∧
      s'.clock.gateReq = some { unit := unit, element := e, closing := true }) ∧
  (∀ (s : State) (t e : Nat) (unit : Bool), s.acceptsValue t 0 (gateObject unit) e 0x01 1 = true →
    s.calm = true → s.gateState unit e = 0 →
    ∃ s', runs (.gateOpen t unit e) s s' ∧ s'.mgmt.lastCode = 0 ∧
      (unit = true → s'.gateState unit e = 1) ∧
      (unit = false → s'.gateState unit e = 1 ∨ s'.gateState unit e = 2)) ∧
  (∀ (s : State) (t v w : Nat), s.acceptsValue t 0 0x8000 0 0x14 v = true → s.displayRuns = true →
    s.net.stepTo = some w →
    ∃ s', runs (.stepNow t v) s s' ∧ s'.mgmt.lastCode = 0 ∧ counted s s' 0x8002 0 0x04 ∧
      s'.bit 0x8001 0x02 2 = true) ∧
  (∀ (s : State) (t v : Nat), s.acceptsValue t 0 0x2804 0 0x0A v = true → s.calm = true →
    ∃ s', runs (.sdClear t v) s s' ∧ s'.mgmt.lastCode = 0 ∧ s'.bit 0x2801 0x05 5 = false) ∧
  (∀ (s : State) (t v : Nat), s.acceptsValue t 0 0x1890 0 0x04 v = true → s.calm = true →
    ∃ s', runs (.warmRestart t v) s s' ∧ s'.mgmt.lastCode = 0 ∧ s'.clock.pfailRun = false ∧
      s'.logs.recovering = [] ∧ ∀ b ∈ [2, 6, 7], b ∉ s'.bridge.blank)

/-- R327, R339, R344, R345, R348: Keys, paths, chords and firmware. -/
def Obligations.ManagementWrites : Prop :=
  (∀ (s : State) (t master : Nat) (key : Bytes),
    s.accepts t 0 key.length (stagedBytes 0x1002 master 0x01 0 key) = true → s.calm = true →
    key.length = 32 →
    ∃ s', runs (.masterKey t master key) s s' ∧ s'.mgmt.lastCode = 0 ∧ s'.blob 0x1002 master 0x01 = key) ∧
  (∀ (s : State) (t v : Nat) (network : Bool),
    s.acceptsValue t 0 0x1000 0 (if network then 0x03 else 0x02) v = true → s.calm = true →
    ∃ s', runs (.pathEnable t network v) s s' ∧ s'.mgmt.lastCode = 0 ∧
      s'.v 0x1000 (if network then 0x03 else 0x02) = v ∧
      (v = 0 → ∀ m, (if network then 2 ≤ m ∧ m ≤ 14 else m = 1) → s'.session? m = none)) ∧
  (∀ (s : State) (t slot v : Nat), s.acceptsValue t 0 0x1020 slot 0x06 v = true → s.calm = true →
    ∃ s', runs (.chordKill t slot v) s s' ∧ s'.mgmt.lastCode = 0 ∧ counted s s' 0x1011 0 0x05 ∧
      (s'.chord slot).aborted = true ∧ (s'.chord slot).items = []) ∧
  (∀ (s : State) (t slot offset : Nat) (data : Bytes),
    s.accepts t 0 data.length (stagedBytes 0x9100 slot 0x01 offset data) = true → s.calm = true →
    ∃ s', runs (.fwImage t slot offset data) s s' ∧ s'.mgmt.lastCode = 0 ∧ s'.ve 0x9100 slot 0x02 = 1 ∧
      tget? slot s'.mgmt.fw = some (spliceBytes ((s.fwImage? slot).getD []) offset data)) ∧
  (∀ (s : State) (t slot : Nat), s.acceptsValue t 0 0x9101 0 0x01 slot = true → s.calm = true →
    ∃ s', runs (.fwVerify t slot) s s' ∧ s'.mgmt.lastCode = 0 ∧ s'.mgmt.verifying = some slot) ∧
  (∀ (s : State) (t slot : Nat), s.acceptsValue t 0 0x9101 0 0x02 slot = true → s.calm = true →
    ∃ s', runs (.fwSwitch t slot) s s' ∧ s'.mgmt.lastCode = 0 ∧ s'.v 0x9101 0x06 = 1 ∧
      s'.mgmt.handover = some (slot, max s.now t))

/-- R385, R386, R388, R389, R390: Calibrations and check-value units. -/
def Obligations.MeasurementWrites : Prop :=
  (∀ (s : State) (t course : Nat), course < 16 → s.acceptsValue t 0 0x2830 0 0x01 course = true →
    ∃ s', runs (.calCourse t course) s s' ∧ s'.mgmt.lastCode = 0 ∧ s'.v 0x2830 0x02 = 1 ∧
      ∃ k ∈ s'.health.cal, k.tile = false ∧ k.course = course ∧ k.phase = 0) ∧
  (∀ (s : State) (t : Nat), s.acceptsValue t 0 0x2830 0 0x01 16 = true →
    ∃ s', runs (.calTile t) s s' ∧ s'.mgmt.lastCode = 0 ∧ s'.v 0x2830 0x02 = 2 ∧
      ∃ k ∈ s'.health.cal, k.tile = true ∧ k.phase = 0) ∧
  (∀ (s : State) (t : Nat), s.acceptsValue t 0 0x2830 0 0x01 255 = true → s.calm = true →
    ∃ s', runs (.calAbort t) s s' ∧ s'.mgmt.lastCode = 0 ∧ ∀ k ∈ s'.health.cal, k.ending = true) ∧
  (∀ (s : State) (t u master v : Nat), s.acceptsValue t master 0x2840 u 0x01 v = true → s.calm = true →
    ∃ s', runs (.cvKind t u master v) s s' ∧ s'.mgmt.lastCode = 0 ∧ s'.ve 0x2840 u 0x01 = v ∧
      s'.cvReg u = crcInit v ∧ s'.ve 0x2840 u 0x07 = 0 ∧ s'.ve 0x2840 u 0x0B = 0) ∧
  (∀ (s : State) (t u master v : Nat), s.acceptsValue t master 0x2840 u 0x02 v = true → s.calm = true →
    ∃ s', runs (.cvReset t u master v) s s' ∧ s'.mgmt.lastCode = 0 ∧ s'.ve 0x2840 u 0x0C = 255 ∧
      s'.cvReg u = crcInit (s.ve 0x2840 u 0x01) ∧ s'.ve 0x2840 u 0x07 = 0) ∧
  (∀ (s : State) (t u master v : Nat), s.acceptsValue t master 0x2840 u 0x03 v = true → s.calm = true →
    ∃ s', runs (.cvFeed8 t u master v) s s' ∧ s'.mgmt.lastCode = 0 ∧ s'.ve 0x2840 u 0x0C = master ∧
      s'.cvReg u = crcByte (s.ve 0x2840 u 0x01) (s.cvReg u) (v % 256)) ∧
  (∀ (s : State) (t u master v : Nat), s.acceptsValue t master 0x2840 u 0x04 v = true → s.calm = true →
    ∃ s', runs (.cvFeed16 t u master v) s s' ∧ s'.mgmt.lastCode = 0 ∧ s'.ve 0x2840 u 0x0C = master ∧
      s'.cvReg u = crcByte (s.ve 0x2840 u 0x01) (crcByte (s.ve 0x2840 u 0x01) (s.cvReg u)
        (v / 256 % 256)) (v % 256)) ∧
  (∀ (s : State) (t u master v : Nat), s.acceptsValue t master 0x2840 u 0x05 v = true → s.calm = true →
    ∃ s', runs (.cvFeed32 t u master v) s s' ∧ s'.mgmt.lastCode = 0 ∧ s'.ve 0x2840 u 0x0C = master ∧
      s'.cvReg u = (beBytes 4 v).foldl
        (fun (r : Nat) b => crcByte (s.ve 0x2840 u 0x01) r b.toNat) (s.cvReg u)) ∧
  (∀ (s : State) (t u master v : Nat), s.acceptsValue t master 0x2840 u 0x0A v = true → s.calm = true →
    ∃ s', runs (.cvCheck t u master v) s s' ∧ s'.mgmt.lastCode = 0 ∧
      s'.ve 0x2840 u 0x0B = if s.cvResult u = s.ve 0x2840 u 0x08 then 1 else 2)

/-- R8, R23, R133, R16, R123, R124, R141, R147, R214, R439: At the latch point frame-class values
take effect, those that act on what is displayed wait for the nut mark, the decision on the coming
frame falls, and the synthesis window of its fret 0 opens. At a nut mark the device frame number
advances, and the frame begins in its nut gap, or, when fret F − 1 has not ended, after that fret; a
requested stop ends display; a measured nut mark ends the revolution, and counts in glide. -/
def Obligations.LatchPointAndNutMarks : Prop :=
  (∀ (s : State) (t : Nat), s.latchDue = true → s.displayRuns = true →
    s.seq.pend.all (fun p => p.cls != 2) = true →
    ∃ s', runs (.latchPoint t) s s' ∧ s'.seq.lastLatch = max s.now t ∧ s'.seq.pend = s.seq.pend ∧
      s'.ingress.named = s'.ingress.sel ∧ s'.codec.window = true ∧ s'.ray.window = true ∧
      s'.ray.fret = 0 ∧ s'.codec.nextBand = 0 ∧ s'.ray.frame = (s.v 0x5001 0x01 + 1) % 2 ^ 32 ∧
      s'.v 0x5001 0x01 = s.v 0x5001 0x01 ∧ (s'.v 0x5001 0x07 = 0 ∨ s'.v 0x5001 0x07 = 1)) ∧
  (∀ (s : State) (t : Nat) (p : Pending), s.latchDue = true → s.displayRuns = true → s.seq.pend = [p] →
    p.cls = 2 → displayedMember p.object p.member = false →
    plainMember (s.enter t) p.object p.element p.member p.value = true →
    ∃ s', runs (.latchPoint t) s s' ∧ s'.ve p.object p.element p.member = p.value ∧ s'.seq.pend = []) ∧
  (∀ (s : State) (t : Nat) (p : Pending), s.latchDue = true → s.displayRuns = true → s.seq.pend = [p] →
    p.cls = 2 → displayedMember p.object p.member = true →
    ∃ s', runs (.latchPoint t) s s' ∧ s'.seq.nutPend = s.seq.nutPend ++ [p] ∧ s'.seq.pend = []) ∧
  (∀ (s : State) (t : Nat), s.seq.running = true → s.seq.overlap = false → s.displayRuns = true →
    s.v 0x5001 0x03 ≠ 5 → (s.seq.inGap = true ∨ s.seq.fretStart + s.figures.fretPeriod ≤ max s.now t) →
    s.seq.nutPend.all (fun p => displayedMember p.object p.member) = true →
    ∃ s', runs (.nutMark t) s s' ∧ s'.v 0x5001 0x01 = (s.v 0x5001 0x01 + 1) % 2 ^ 32 ∧
      s'.v 0x5001 0x02 = 255 ∧ s'.seq.frameStart = max s.now t ∧ s'.seq.inGap = true ∧
      s'.seq.slots = 0 ∧ s'.seq.overlap = false ∧ s'.seq.nutPend = []) ∧
  (∀ (s : State) (t : Nat), s.seq.running = true → s.seq.overlap = false → s.seq.inGap = false →
    max s.now t < s.seq.fretStart + s.figures.fretPeriod →
    ∃ s', runs (.nutMark t) s s' ∧ s'.v 0x5001 0x01 = (s.v 0x5001 0x01 + 1) % 2 ^ 32 ∧
      s'.v 0x5001 0x02 = s.v 0x5001 0x02 ∧ s'.seq.frameStart = max s.now t ∧ s'.seq.overlap = true) ∧
  (∀ (s : State) (t : Nat), s.seq.running = true → s.seq.overlap = true → s.displayRuns = true →
    s.v 0x5001 0x03 ≠ 5 → s.seq.nutPend.all (fun p => displayedMember p.object p.member) = true →
    ∃ s', runs (.fretFMinus1End t) s s' ∧ s'.seq.overlap = false ∧ s'.seq.inGap = true ∧
      s'.v 0x5001 0x02 = 255 ∧ s'.v 0x5001 0x01 = s.v 0x5001 0x01 ∧ s'.seq.nutPend = []) ∧
  (∀ (s : State) (t : Nat), s.seq.running = false → s.displayRuns = false → s.seq.ended = false →
    s.calm = true →
    ∃ s', runs (.measuredNutMark t) s s' ∧ s'.v 0x5001 0x01 = (s.v 0x5001 0x01 + 1) % 2 ^ 32 ∧
      s'.seq.running = false) ∧
  (∀ (s : State) (t : Nat), s.seq.running = true → s.seq.overlap = false → s.v 0x5001 0x03 = 5 →
    s.calm = true → (s.seq.inGap = true ∨ s.seq.fretStart + s.figures.fretPeriod ≤ max s.now t) →
    ∃ s', runs (.nutMark t) s s' ∧ s'.seq.running = false ∧ s'.v 0x5001 0x03 = 0 ∧ s'.seq.stopDue = false ∧
      s'.v 0x5001 0x01 = (s.v 0x5001 0x01 + 1) % 2 ^ 32) ∧
  (∀ (s : State) (t : Nat), s.seq.running = true → s.calm = true →
    ∃ s', runs (.measuredNutMark t) s s' ∧ s'.v 0x5001 0x01 = s.v 0x5001 0x01 ∧ s'.loop.count = 0 ∧
      s'.loop.nuts = s.loop.nuts + 1 ∧ s'.loop.lastNut = encStamp (max s.now t)) ∧
  (∀ (s : State) (t : Nat) (g : Mode), s.seq.running = true → s.calm = true → s.target? = some g →
    0 < s.loop.nuts →
    ∃ s', runs (.measuredNutMark t) s s' ∧
      s'.v 0x5001 0x06 =
        if 1000 * (((encStamp (max s.now t) - s.loop.lastNut : Nat) : Int) - g.frame).natAbs ≤ g.frame then
          min 8 (s.v 0x5001 0x06 + 1)
        else 0)

/-- R134, R140, R144, R145, R213, R18, R20, R143, R147, R395: At a fret boundary, in glide or
outside it, the next fret is displayed from the other copy, and the fret-class values take effect;
an overdue boundary is a freeze. Plane slots, the synthesis deadline, and the start of display. -/
def Obligations.FretsAndSlots : Prop :=
  (∀ (s : State) (t : Nat), s.seq.running = true → s.seq.overlap = false → s.target?.isSome = false →
    s.nextFret < s.figures.f → s.displayRuns = true → s.seq.pend.all (fun p => p.cls != 1) = true →
    ∃ s', runs (.fretBoundary t) s s' ∧ s'.v 0x5001 0x02 = s.nextFret ∧ s'.seq.fret = s.nextFret ∧
      s'.seq.fretStart = max s.now t ∧ s'.seq.inGap = false ∧ s'.seq.slots = 0 ∧
      s'.seq.copySel = 1 - s.seq.copySel ∧ s'.seq.pend = s.seq.pend) ∧
  (∀ (s : State) (t : Nat), s.seq.running = true → s.seq.overlap = false → s.target?.isSome = true →
    s.nextFret < s.figures.f → (s.enter t).edgeReached = true → s.displayRuns = true →
    s.seq.pend.all (fun p => p.cls != 1) = true →
    ∃ s', runs (.glideFretEdge t) s s' ∧ s'.v 0x5001 0x02 = s.nextFret ∧ s'.seq.fret = s.nextFret ∧
      s'.seq.fretStart = max s.now t ∧ s'.seq.inGap = false ∧ s'.seq.copySel = 1 - s.seq.copySel) ∧
  (∀ (s : State) (t : Nat), s.seq.running = true → s.target?.isNone = true →
    ∃ s', runs (.fretBoundaryOverdue t) s s' ∧ (0, 3) ∈ s'.seq.found ∧ (1, 3) ∈ s'.seq.found ∧
      (s.seq.found = [] → s'.seq.frozeNow = true ∧ counted s s' 0x5011 0 0x06 ∧ counted s s' 0x5011 1 0x06) ∧
      s'.v 0x5001 0x02 = s.v 0x5001 0x02) ∧
  (∀ (s : State) (t : Nat) (p : Pending), s.seq.running = true → s.seq.overlap = false →
    s.target?.isSome = false → s.nextFret < s.figures.f → s.displayRuns = true → s.seq.pend = [p] → p.cls = 1 →
    plainMember (s.enter t) p.object p.element p.member p.value = true →
    ∃ s', runs (.fretBoundary t) s s' ∧ s'.ve p.object p.element p.member = p.value ∧ s'.seq.pend = []) ∧
  (∀ (s : State) (t : Nat) (ecc : List Ecc), eccOk ecc = true → s.seq.running = true →
    s.seq.inGap = false → s.seq.slots < 30 →
    ∃ s', runs (.planeSlotStart t ecc) s s' ∧ s'.seq.slots = s.seq.slots + 1 ∧
      s'.seq.slot = s.seq.slots ∧
      s'.seq.shownA = (if s.latching 0 then s.seq.shownA ++ [s.seq.slots] else s.seq.shownA) ∧
      s'.seq.shownB = (if s.latching 1 then s.seq.shownB ++ [s.seq.slots] else s.seq.shownB) ∧
      s'.v 0x5001 0x02 = s.v 0x5001 0x02) ∧
  (∀ (s : State) (t : Nat), s.ray.window = true →
    ∃ s', runs (.synthesisDeadline t) s s' ∧ s'.ray.window = false ∧ s'.codec.window = false) ∧
  (∀ (s : State) (t : Nat), (s.enter t).canStart = true →
    ∃ s', runs (.displayStartPoint t) s s' ∧ s'.v 0x5001 0x03 = 1 ∧ s'.seq.running = true ∧
      s'.v 0x5001 0x04 = s.v 0x5000 0x01 ∧ s'.v 0x5001 0x07 = 2 ∧ s'.v 0x5001 0x08 = 0 ∧
      s'.seq.inGap = true ∧ s'.seq.copySel = 1 ∧ s'.seq.frameStart = max s.now t)

/-- R175, R187, R189, R188, R195, R393: A pluck raises its string's gate at the place of its bit; a
course that is not lit stays dark. The emission inhibit input, the end of chatter, and the open-loop
fallback. -/
def Obligations.PlucksAndInhibit : Prop :=
  (∀ (s : State) (t course : Nat), course < 16 → s.seq.running = true → s.seq.inGap = false →
    s.courseLit course = true →
    ∃ s', runs (.pluck t course) s s' ∧
      s'.out = [.gate (3 * course + s.bridge.slotColour)
        (s.bridge.slotStart + s.figures.settle + s.pluckPos s.figures s.bridge.slotBit -
          s.ve 0x6010 (3 * course + s.bridge.slotColour) 0x01)
        (s.bridge.slotStart + s.figures.settle + s.pluckPos s.figures s.bridge.slotBit +
          s.figures.dur s.bridge.slotBit - s.ve 0x6010 (3 * course + s.bridge.slotColour) 0x02)] ∧
      s'.bridge.expect.length = s.bridge.expect.length + (if s.bridge.slotBit = 9 then 1 else 0)) ∧
  (∀ (s : State) (t course : Nat), course < 16 → s.courseLit course = false →
    ∃ s', runs (.pluck t course) s s' ∧ s'.out = [] ∧ s'.bridge = s.bridge) ∧
  (∀ (s : State) (t : Nat),
    ∃ s', runs (.emitInhAssert t) s s' ∧ s'.bridge.emitInh = true ∧ 1 ∈ s'.bridge.blank) ∧
  (∀ (s : State) (t : Nat), s.bridge.emitInh = true →
    ((s.enter t).transitions inEmit 1).chatters inEmit = false →
    ∃ s', runs (.emitInhRelease t) s s' ∧ s'.bridge.emitInh = false ∧ s'.bridge.stuck = false) ∧
  (∀ (s : State) (t : Nat), s.bridge.emitInh = true → s.bridge.stuck = false →
    ∃ s', runs (.emitInhStuck t) s s' ∧ s'.bridge.stuck = true ∧ counted s s' 0x6002 0 0x03) ∧
  (∀ (s : State) (t input : Nat), input < 7 →
    ∃ s', runs (.chatterEnd t input) s s' ∧ s'.clock.chatter = s.clock.chatter.filter (· != input) ∧
      s'.bridge = s.bridge ∧ s'.dict = s.dict) ∧
  (∀ (s : State) (t string : Nat), string < 48 → (s.str string).frozen = true →
    (s.str string).openLoop = false →
    ∃ s', runs (.openLoopFallback t string) s s' ∧ (s'.str string).openLoop = true ∧
      (s'.str string).gainDue = some 32768 ∧ counted s s' 0x6002 0 0x08)

/-- R184, R186, R191, R228: Configure and poll frames, the reference window, and the pilots in it. -/
def Obligations.CourseTimers : Prop :=
  (∀ (s : State) (t course : Nat), course < 16 → s.ve 0x6020 course 0x04 ≤ 1 → s.seq.running = true →
    ∃ s', runs (.coursePollTimer t course) s s' ∧
      s'.out = [.downlink course (downlink 4 3 false true 0 31 course (s.course course).seq)] ∧
      (s'.course course).seq = ((s.course course).seq + 1) % 65536 ∧
      s'.bridge.expect.length = s.bridge.expect.length + 1) ∧
  (∀ (s : State) (t course : Nat), course < 16 → 1 < s.ve 0x6020 course 0x04 → s.seq.running = false →
    ∃ s', runs (.coursePollTimer t course) s s' ∧
      s'.out = [.downlink course (downlink 3 3 false true 0 31 course (s.course course).seq)] ∧
      (s'.course course).seq = ((s.course course).seq + 1) % 65536 ∧
      s'.bridge.expect.length = s.bridge.expect.length + 1) ∧
  (∀ (s : State) (t : Nat), s.seq.running = true → s.windowFits = true →
    ∃ s', runs (.referenceWindowOpen t) s s' ∧
      s'.bridge.window = some (s.seq.frameStart + s.v 0x6800 0x0D)) ∧
  (∀ (s : State) (t : Nat), s.seq.running = true → s.windowFits = false →
    ∃ s', runs (.referenceWindowOpen t) s s' ∧ s'.bridge.window = none ∧ counted s s' 0x6802 0 0x07) ∧
  (∀ (s : State) (t course pilot w : Nat), course < 16 → pilot < 6 → s.bridge.window = some w →
    s.courseLit course = true →
    ∃ s', runs (.pilotFire t course pilot) s s' ∧
      .gate (3 * course + pilot % 3)
        (w + 20000 * pilot + 10000 - s.ve 0x6010 (3 * course + pilot % 3) 0x01)
        (w + 20000 * pilot + 18000 - s.ve 0x6010 (3 * course + pilot % 3) 0x02) ∈ s'.out ∧
      ∃ x, s'.bridge.expect.getLast? = some x ∧ x.course = course ∧ x.kind = 2 ∧
        x.string = 3 * course + pilot % 3 ∧ x.amp = pilotAmp pilot (s.v 0x5001 0x01)) ∧
  (∀ (s : State) (t : Nat), s.v 0x5001 0x03 = 4 → ((s.enter t).fretBridge).permitted = true →
    ∃ s', runs (.dronePeriod t) s s' ∧ ∀ c, c < 16 → ∃ f, Output.downlink c f ∈ s'.out) ∧
  (∀ (s : State) (t course : Nat), course < 16 → s.ve 0x6020 course 0x04 ≤ 1 → s.seq.running = false →
    ∃ s', runs (.coursePollTimer t course) s s' ∧
      s'.out = [.downlink course (downlink 4 3 false true 0 31 course (s.course course).seq),
        .downlink course (downlink 3 3 false true 0 31 course (((s.course course).seq + 1) % 65536))] ∧
      s'.bridge.expect.length = s.bridge.expect.length + 2)

/-- R183, R185, R186, R192, R194, R197: What good uplink frames bring, and what bad or missing ones
count. -/
def Obligations.UplinkFrames : Prop :=
  (∀ (s : State) (t course : Nat) (f : BitVec 64) (x : Expect), course < 16 → upGood f = true →
    upType f = 1 → s.asked course (upSeq f) [1] = some x →
    ∃ s', runs (.monitorSample t course f) s s' ∧ s'.ve 0x6010 x.string 0x04 = upValue f ∧
      s'.bridge.expect = s.bridge.expect.erase x ∧ (s'.course course).lost = 0) ∧
  (∀ (s : State) (t course : Nat) (f : BitVec 64) (x : Expect), course < 16 → upGood f = true →
    upType f = 2 → s.asked course (upSeq f) [2, 4] = some x → x.kind ≠ 4 →
    ∃ s', runs (.pilotSample t course f) s s' ∧ s'.bridge.expect = s.bridge.expect.erase x ∧
      s'.ve 0x6010 x.string (if x.amp = 1 then 0x05 else 0x06) = upValue f) ∧
  (∀ (s : State) (t course : Nat) (f : BitVec 64), course < 16 → upGood f = true → upType f = 3 →
    ∃ s', runs (.driverStatusFrame t course f) s s' ∧
      s'.ve 0x6020 course 0x02 = ofS 16 (toS 16 (upValue f)) ∧ s'.ve 0x6020 course 0x05 = upFlags f ∧
      (s'.course course).lost = 0) ∧
  (∀ (s : State) (t course : Nat) (f : BitVec 64) (x : Expect), course < 16 → upGood f = false →
    s.bridge.expect.find? (fun y => y.course == course) = some x →
    ∃ s', runs (.badUplinkFrame t course f) s s' ∧ counted s s' 0x6020 course 0x07 ∧
      counted s s' 0x6002 0 0x05) ∧
  (∀ (s : State) (t course : Nat) (x : Expect), course < 16 →
    s.bridge.expect.find? (fun y => y.course == course) = some x →
    ∃ s', runs (.uplinkTimeout t course) s s' ∧ counted s s' 0x6020 course 0x07 ∧
      counted s s' 0x6002 0 0x05)

/-- R154, R167, R169, R165, R168, R393: A load closes at its cut-off, STATUS is lost once, and the
drone slate is refreshed. The rails rise one after the other, each on the power-good of the one
before, and fall in the reverse order; a chattering power-good is not good. -/
def Obligations.PanelTimersAndRails : Prop :=
  (∀ (s : State) (t half : Nat) (undelivered : List Nat), half < 2 →
    ∃ s', runs (.loadCutoff t half undelivered) s s' ∧ (s'.half half).rows = [] ∧
      (s'.half half).mapped = (s.half half).mapped ∧
      ∀ r ∈ undelivered, r ∈ (s.half half).rows.map Prod.fst → tget? r (s'.half half).hashes = none) ∧
  (∀ (s : State) (t half : Nat), half < 2 → s.railsUp = true → s.bit 0x5801 0x05 (2 + half) = false →
    ∃ s', runs (.panelStatusLost t half) s s' ∧ s'.bit 0x5801 0x05 (2 + half) = true ∧
      counted s s' 0x5802 0 0x05 ∧ s'.panel = s.panel) ∧
  (∀ (s : State) (t : Nat), s.v 0x5001 0x03 = 4 →
    ∃ s', runs (.droneRefresh t) s s' ∧ s'.panel.darkUntil = (s.enter t).refreshEnd) ∧
  (∀ (s : State) (t n : Nat), n < 4 → s.panel.rail = 1 → s.panel.railNo = n →
    ((s.enter t).transitions (1 + n) 1).chatters (1 + n) = false →
    ∃ s', runs (.pnlPgRise t n) s s' ∧ s'.bit 0x5801 0x04 n = true ∧
      s'.panel.rail = (if n = 3 then 0 else 2)) ∧
  (∀ (s : State) (t n : Nat), n < 4 → ¬(s.panel.rail = 1 ∧ s.panel.railNo = n) →
    ((s.enter t).transitions (1 + n) 1).chatters (1 + n) = false →
    ∃ s', runs (.pnlPgRise t n) s s' ∧ s'.bit 0x5801 0x04 n = true ∧ s'.panel = s.panel) ∧
  (∀ (s : State) (t n : Nat), n < 4 → s.bit 0x5801 0x04 n = false →
    ((s.enter t).transitions (1 + n) 1).chatters (1 + n) = true →
    ∃ s', runs (.pnlPgRise t n) s s' ∧ s'.bit 0x5801 0x04 n = false ∧ s'.panel = s.panel) ∧
  (∀ (s : State) (t : Nat), s.panel.rail = 2 → s.panel.railNo < 3 →
    ∃ s', runs (.railDelayExpiry t) s s' ∧ s'.bit 0x5801 0x04 (4 + (s.panel.railNo + 1)) = true) ∧
  (∀ (s : State) (t : Nat), s.panel.rail = 3 → s.v 0x5801 0x04 / 16 = 15 →
    ∃ s', runs (.railDelayExpiry t) s s' ∧ s'.v 0x5801 0x04 / 16 = 7 ∧ s'.panel.rail = 3) ∧
  (∀ (s : State) (t : Nat), s.panel.rail = 1 →
    ∃ s', runs (.pgTimeout t) s s' ∧ s'.panel.faulted = true ∧ s'.v 0x5801 0x01 = 7 ∧
      counted s s' 0x5802 0 0x08)

/-- R156, R161, R166, R167, R152, R165: The clear before light, its latches, and the discharge after
a park. STATUS of a half, and the faults of the panel. -/
def Obligations.ClearParkAndPanelFaults : Prop :=
  (∀ (s : State) (t half : Nat), half < 2 → s.liveLanes half = (s.half half).mapped →
    (s.half half).gone = [] → (s.half half).lack = false → s.railsUp = true → s.panel.faulted = false →
    s.v 0x5800 0x0F = 1 → (s.half half).park = 3 → (s.half half).mapped ≠ [] → s.displayRuns = false →
    ∃ s', runs (.clearBeforeLight t half) s s' ∧ (s'.half half).clearing = true ∧
      (s'.half half).park = 0 ∧
      (s'.half half).clearLeft = (if (s.half half).needFull then s.v 0x5800 0x06 else shortForm) ∧
      s'.bit 0x5801 0x05 half = false) ∧
  (∀ (s : State) (t half : Nat), half < 2 → (s.half half).clearing = true → 0 < (s.half half).clearLeft →
    ∃ s', runs (.exerciseLatch t half) s s' ∧ (s'.half half).clearLeft = (s.half half).clearLeft - 1 ∧
      (s'.half half).clearing = true) ∧
  (∀ (s : State) (t half : Nat), half < 2 → (s.half half).clearing = true → (s.half half).clearLeft = 0 →
    ∃ s', runs (.exerciseLatch t half) s s' ∧ (s'.half half).clearing = false ∧
      (s'.half half).needFull = false ∧ s'.bit 0x5801 0x05 half = true) ∧
  (∀ (s : State) (t half : Nat), half < 2 → (s.half half).park = 1 → (s.half half).dstep < 4 →
    ∃ s', runs (.parkTimeExpiry t half) s s' ∧ (s'.half half).park = 2 ∧
      (s'.half half).dstep = (s.half half).dstep + 1) ∧
  (∀ (s : State) (t half : Nat), half < 2 → (s.half half).park = 2 → (s.half half).dstep < 4 →
    ∃ s', runs (.dischargeStepExpiry t half) s s' ∧ (s'.half half).park = 2 ∧
      (s'.half half).dstep = (s.half half).dstep + 1) ∧
  (∀ (s : State) (t half : Nat), half < 2 → (s.half half).park = 2 → 8 ≤ (s.half half).dstep →
    ∃ s', runs (.dischargeStepExpiry t half) s s' ∧ (s'.half half).park = 3 ∧ (s'.half half).dstep = 0) ∧
  (∀ (s : State) (t half : Nat) (b : Bytes), half < 2 → blockOk b = true → blockType b = 3 →
    (blockPayload b).head? = some 0x81#8 → s.railsUp = true → s.calm = true →
    statusFlags (blockPayload b) % 16 = 0 →
    ∃ s', runs (.panelStatus t half b) s s' ∧
      s'.v 0x5801 (0x0A + half) = ofS 16 (statusTemp (blockPayload b)) ∧
      s'.bit 0x5801 0x05 (2 + half) = false ∧ s'.panel = s.panel) ∧
  (∀ (s : State) (t half : Nat), half < 2 → s.railsUp = true → s.panel.faulted = false → s.calm = true →
    ∃ s', runs (.panelStatusTimeout t half) s s' ∧ s'.panel.faulted = true ∧ s'.v 0x5801 0x01 = 7 ∧
      counted s s' 0x5802 0 0x07 ∧ 5 ∈ s'.bridge.blank) ∧
  (∀ (s : State) (t n : Nat), n < 4 → s.bit 0x5801 0x04 n = true → s.bit 0x5801 0x04 (4 + n) = true →
    s.panel.faulted = false → s.calm = true →
    ∃ s', runs (.pnlPgFall t n) s s' ∧ s'.bit 0x5801 0x04 n = false ∧ s'.panel.faulted = true ∧
      s'.v 0x5801 0x01 = 7 ∧ counted s s' 0x5802 0 0x08) ∧
  (∀ (s : State) (t n : Nat), n < 4 → s.bit 0x5801 0x04 (4 + n) = false →
    ∃ s', runs (.pnlPgFall t n) s s' ∧ s'.bit 0x5801 0x04 n = false ∧ s'.panel = s.panel)

/-- R43, R44, R45, R47, R48: A parcel's header decides whether it is kept and where it goes, and a
waiting parcel starts on its port, kinds 2 to 4 first. Tiles, frame header and frame close of the
next frame are filed in its store. -/
def Obligations.ParcelsAndFrames : Prop :=
  (∀ (s : State) (t port : Nat) (hdr : Bytes), port < 8 → hdrCheckOk hdr = true →
    (parcelHdr hdr).wall = s.v 0x3000 0x01 → (parcelHdr hdr).rect = false →
    (parcelHdr hdr).x0 = s.v 0x3000 0x02 → (parcelHdr hdr).y0 = s.v 0x3000 0x03 →
    (parcelHdr hdr).version = 1 → 1 ≤ (parcelHdr hdr).kind → (parcelHdr hdr).kind ≤ 5 →
    s.ve 0x2030 0x373 0x02 ≠ 0 →
    ∃ s', runs (.parcelHeaderArrives t port hdr) s s' ∧ counted s s' 0x3010 port 0x02 ∧
      ∃ i ∈ s'.ingress.inbound.head?, i.port = port ∧ i.hdr = hdr ∧ i.keep = true ∧ i.outs = []) ∧
  (∀ (s : State) (t port : Nat) (hdr : Bytes), port < 8 →
    (hdrCheckOk hdr = false ∨ (parcelHdr hdr).wall ≠ s.v 0x3000 0x01) →
    ∃ s', runs (.parcelHeaderArrives t port hdr) s s' ∧ counted s s' 0x3002 0 0x01 ∧
      ∀ i ∈ s'.ingress.inbound, i.port = port → i.keep = false ∧ i.outs = []) ∧
  (∀ (s : State) (t port o : Nat) (hdr : Bytes), port < 8 → o < 8 → hdrCheckOk hdr = true →
    (parcelHdr hdr).wall = s.v 0x3000 0x01 → (s.relayDecision port (parcelHdr hdr)).outs = [o] →
    o ∉ s.ingress.busy → s.portAsleep o = false → s.ingress.inbound = [] →
    ∃ s', runs (.parcelHeaderArrives t port hdr) s s' ∧ counted s s' 0x3010 o 0x03 ∧
      Output.meshParcel o (relayHdr hdr) ∈ s'.out) ∧
  (∀ (s : State) (t port : Nat) (x : Waiting), port < 8 →
    s.ingress.waiting.filter (fun w => w.out == port) = [x] →
    ∃ s', runs (.relayParcelStart t port) s s' ∧ counted s s' 0x3010 port 0x03 ∧
      Output.meshParcel port x.hdr ∈ s'.out ∧ port ∈ s'.ingress.busy ∧ x ∉ s'.ingress.waiting) ∧
  (∀ (s : State) (t port : Nat) (x y : Waiting), port < 8 →
    s.ingress.waiting.filter (fun w => w.out == port) = [x, y] → (x.kind = 1 ∨ x.kind = 5) →
    2 ≤ y.kind → y.kind ≤ 4 →
    ∃ s', runs (.relayParcelStart t port) s s' ∧ Output.meshParcel port y.hdr ∈ s'.out ∧
      s'.ingress.waiting.filter (fun w => w.out == port) = [x]) ∧
  (∀ (s : State) (t port : Nat) (bs : Bytes), port < 8 → s.keepsParcel port bs = true →
    s.goodParcel 1 bs = true → s.assembles bs = true → s.tileQueue bs ∉ s.nextStore.received →
    (s.nextStore.counted = false ∨
      renumbered s.nextStore.created (field (parcelBody bs) 0 1) < s.nextStore.planes) →
    renumbered s.nextStore.created (field (parcelBody bs) 0 1) < 64 →
    ∃ s', runs (.tile t port bs) s s' ∧ s'.nextStore.accepted = s.nextStore.accepted + 1 ∧
      s'.nextStore.received = s.tileQueue bs :: s.nextStore.received ∧
      counted s s' 0x3100 (s.tileQueue bs) 0x03) ∧
  (∀ (s : State) (t port : Nat) (bs : Bytes), port < 8 → s.keepsParcel port bs = true →
    s.goodParcel 2 bs = true → s.assembles bs = true → s.nextStore.header = none →
    ∃ s', runs (.frameHeader t port bs) s s' ∧ s'.nextStore.accepted = s.nextStore.accepted ∧
      ∃ h ∈ s'.nextStore.header, h.planes = field (parcelBody bs) 0 1 ∧ h.tp = field (parcelBody bs) 4 12) ∧
  (∀ (s : State) (t port : Nat) (bs : Bytes), port < 8 → s.keepsParcel port bs = true →
    s.goodParcel 3 bs = true → s.assembles bs = true → s.nextStore.close = none →
    ∃ s', runs (.frameClose t port bs) s s' ∧ s'.nextStore.close = some (field (parcelBody bs) 0 4) ∧
      s'.nextStore.accepted = s.nextStore.accepted) ∧
  (∀ (s : State) (t port : Nat) (bs : Bytes), port < 8 → s.keepsParcel port bs = true →
    s.goodParcel 1 bs = true → s.assembles bs = true → s.tileQueue bs ∈ s.nextStore.received →
    ∃ s', runs (.tile t port bs) s s' ∧ s'.nextStore = s.nextStore ∧ counted s s' 0x3002 0 0x08)

/-- R41, R49, R55: Triggers, layer data, and the ends of copies. -/
def Obligations.CuesAndLayers : Prop :=
  (∀ (s : State) (t port : Nat) (bs : Bytes), port < 8 → s.keepsParcel port bs = true →
    s.goodParcel 4 bs = true → (triggerOf (parcelBody bs)).count = 0 →
    ∃ s', runs (.cueTrigger t port bs) s s' ∧ s'.ingress.trigger = none ∧
      (s'.ingress.replay.isSome = s.ingress.replay.isSome) ∧ ∀ r ∈ s'.ingress.replay, r.ending = true) ∧
  (∀ (s : State) (t port : Nat) (bs : Bytes), port < 8 → s.keepsParcel port bs = true →
    s.goodParcel 4 bs = true → (triggerOf (parcelBody bs)).count ≠ 0 →
    (s.ingress.replay.isSome = true ∨ s.seq.running = false ∨
      s.wallReaches s.comingBoundary (triggerOf (parcelBody bs)).start = false) →
    ∃ s', runs (.cueTrigger t port bs) s s' ∧ s'.ingress.trigger = some (triggerOf (parcelBody bs)) ∧
      s'.ingress.replay = s.ingress.replay) ∧
  (∀ (s : State) (t port : Nat) (bs : Bytes), port < 8 → s.keepsParcel port bs = true →
    s.goodParcel 4 bs = true → (triggerOf (parcelBody bs)).count ≠ 0 → s.ingress.replay = none →
    s.seq.running = true →
    s.wallReaches s.comingBoundary (triggerOf (parcelBody bs)).start = true →
    ∃ s', runs (.cueTrigger t port bs) s s' ∧ s'.ingress.trigger = none ∧ s'.v 0x3041 0x01 = 1 ∧
      s'.nextStore.cue = some ((triggerOf (parcelBody bs)).first % 65536) ∧
      ∃ r ∈ s'.ingress.replay, r.trig = triggerOf (parcelBody bs) ∧ r.step = 0 ∧ r.copied = false) ∧
  (∀ (s : State) (t port : Nat) (bs : Bytes), port < 8 → s.keepsParcel port bs = true →
    s.goodParcel 5 bs = true →
    s.dramFault (s.ve 0x3020 (field (parcelBody bs) 0 1) 0x01 + field (parcelBody bs) 4 4)
      ((parcelBody bs).drop 8).length = 0 →
    ∃ s', runs (.layerData t port bs) s s' ∧
      s'.ve 0x3020 (field (parcelBody bs) 0 1) 0x03 = (parcelHdr bs).frame ∧
      s'.memory.dram = mwrites s.memory.dram
        (s.ve 0x3020 (field (parcelBody bs) 0 1) 0x01 + field (parcelBody bs) 4 4)
        ((parcelBody bs).drop 8)) ∧
  (∀ (s : State) (t n : Nat), s.ingress.spillCopy = true → s.nextStore.number = some n →
    ((s.ingress.spill.filter fun r => r.frame == n).all fun r =>
      s.dramFault (s.v 0x3000 0x07 + r.off) r.len == 0) = true →
    ∃ s', runs (.spillCopyDone t) s s' ∧ s'.ingress.spillCopy = false ∧
      s'.ingress.spillFrame = s.ingress.spillFrame ∧
      s'.ingress.spill = s.ingress.spill.filter fun r => some r.frame == s.ingress.spillFrame) ∧
  (∀ (s : State) (t : Nat) (r : Replay), s.ingress.replay = some r → r.copied = false →
    r.spoiled = false → s.pageFault (tget [] r.cue s.ingress.pages) = none →
    s.ve 0x3500 r.cue 0x01 = 2 →
    ∃ s', runs (.cueCopyDone t) s s' ∧ s'.ingress.replay = some { r with copied := true } ∧
      s'.nextStore = { s.frameAt (.cue r.cue) with cue := some r.cue, number := none })

/-- R67, R108, R71, R72, R117: Bands are dispatched in order, and a decoded tile stands in its slot.
The array takes a band that the codec has ended, and commits it to the copy of the coming fret.
While display is stopped, a returned lane or engine passes its self-test and serves again, or fails
it and is fenced. -/
def Obligations.DecodingAndSynthesis : Prop :=
  (∀ (s : State) (t : Nat), s.codec.window = true → s.codec.band = none →
    s.codec.nextBand < s.figures.bands → (s.bufOf s.codec.nextBand).band = none →
    ∃ s', runs (.bandDispatch t) s s' ∧ s'.codec.nextBand = s.codec.nextBand + 1 ∧
      (s'.bufOf s.codec.nextBand).band = some s.codec.nextBand ∧
      (s'.bufOf s.codec.nextBand).slots = []) ∧
  (∀ (s : State) (t lane b : Nat) (j : DecodeJob) (x : Tile), lane < 272 →
    s.codec.jobs.find? (fun j => j.lane == lane) = some j → s.codec.band = some b →
    s.curStore.tile? j.q = some x →
    (decodeStream (s.figures.rawSize b (s.figures.colOf j.q)) (s.figures.tileW (s.figures.colOf j.q))
      x.stream).reason = 0 →
    ∃ s', runs (.tileDecodeDone t lane []) s s' ∧
      ∃ y ∈ (s'.bufOf b).slots.getLast?, y.slot = j.slot ∧ y.q = j.q ∧
        y.raw = (decodeStream (s.figures.rawSize b (s.figures.colOf j.q))
          (s.figures.tileW (s.figures.colOf j.q)) x.stream).raw) ∧
  (∀ (s : State) (t lane b : Nat) (j : DecodeJob) (ecc : List Ecc), lane < 272 → eccOk ecc = true →
    s.codec.jobs.find? (fun j => j.lane == lane) = some j → s.codec.band = some b → s.codec.list = [] →
    ∃ s', runs (.tileDecodeDone t lane ecc) s s' ∧ ∀ x ∈ s'.codec.jobs, x.lane ≠ lane) ∧
  (∀ (s : State) (t : Nat) (ecc : List Ecc), eccOk ecc = true → s.ray.window = true →
    s.ray.band = none → (s.bufOf s.ray.done).band = some s.ray.done →
    (s.bufOf s.ray.done).ended = true → 0 < s.enginesActive →
    ∃ s', runs (.bandSynthesisStart t ecc) s s' ∧ s'.ray.band = some s.ray.done ∧
      s'.ray.done = s.ray.done) ∧
  (∀ (s : State) (t b : Nat) (ecc : List Ecc), eccOk ecc = true → s.ray.band = some b →
    ∃ s', runs (.bandCommit t ecc) s s' ∧ s'.ray.band = none ∧ s'.ray.done = b + 1 ∧
      (ecc = [] → { band := b, frame := s.ray.frame, fret := s.ray.fret } ∈ s'.hiddenCopy.tags ∧
        s'.shownCopy = s.shownCopy)) ∧
  (∀ (s : State) (t n : Nat) (failing : List Nat), failing.all (decide <| · < 272) = true →
    s.seq.running = false → n < 272 → s.ve 0x3810 n 0x01 = 3 →
    ∃ s', runs (.decodeSelftest t failing) s s' ∧
      (n ∉ failing → s'.ve 0x3810 n 0x01 = 0 ∨ s'.ve 0x3810 n 0x01 = 1) ∧
      (n ∈ failing → s'.ve 0x3810 n 0x01 = 2 ∧ counted s s' 0x3810 n 0x03)) ∧
  (∀ (s : State) (t n : Nat) (failing : List Nat), failing.all (decide <| · < 136) = true →
    s.seq.running = false → n < 136 → s.ve 0x4810 n 0x01 = 3 →
    ∃ s', runs (.engineSelftest t failing) s s' ∧
      (n ∉ failing → s'.ve 0x4810 n 0x01 = 0 ∨ s'.ve 0x4810 n 0x01 = 1) ∧
      (n ∈ failing → s'.ve 0x4810 n 0x01 = 2 ∧ counted s s' 0x4810 n 0x03))

/-- R75, R91, R92, R94: Composition, its compressed tiles, and the capture. -/
def Obligations.Composition : Prop :=
  (∀ (s : State) (t : Nat), s.composable = true → s.enabledLayers ≠ [] →
    (s.unready s.nextStore = [] ∨ (s.enter t).waitLimitReached s.nextStore = true) →
    ∃ s', runs (.compositionStart t) s s' ∧ (s'.nextStore.comp = 1 ∨ s'.nextStore.comp = 3) ∧
      (s'.nextStore.comp = 1 → s'.v 0x4001 0x01 = 2 ∧ s'.v 0x4001 0x02 = s.nextStore.contentNo)) ∧
  (∀ (s : State) (found : StageRead) (q k : Nat) (rest l : List Nat), eccOk found.ecc = true →
    s.comp.todo = q :: rest → s.idleClanes = k :: l →
    ∃ s', runs (.tileCompressStart found) s s' ∧ s'.comp.todo = rest ∧ s'.ve 0x3820 k 0x03 = 1 ∧
      ∃ j ∈ s'.codec.cjobs.head?, j.lane = k ∧ j.q = q) ∧
  (∀ (s : State) (t k : Nat) (mismatch : Bool) (j : CompressJob), k < 16 →
    s.codec.cjobs.find? (fun j => j.lane == k) = some j →
    ∃ s', runs (.compressionDone t k mismatch) s s' ∧ counted s s' 0x3820 k 0x01 ∧
      (∀ x ∈ s'.codec.cjobs, x.lane ≠ k) ∧
      (s'.ve 0x3820 k 0x03 = 0 ∨ s'.ve 0x3820 k 0x03 = 2)) ∧
  (∀ (s : State) (t : Nat), s.comp.capturing = true → s.nextStore.comp = 1 →
    s.comp.open_.all (fun q => queuePlane q != s.comp.capPlane) = true →
    ∃ s', runs (.captureDone t) s s' ∧ s'.comp.capturing = false ∧
      ((s.dramWrite 4 (s.comp.capBase + s.comp.capSlot * (4 * s.mode.h * s.mode.v))
          ((List.range s.mode.v).flatMap (s.captureRow s.mode s.comp.capPlane))).1 = true →
        s'.v 0x4001 0x05 = s.comp.capSlot ∧ s'.v 0x4001 0x04 = s.nextStore.contentNo))

/-- R296, R309, R312, R412, R404, R405, R406: The loss of the reference, a slip, and the supply
inputs. An island error restarts its island; an error of the AON island holds the device. -/
def Obligations.SupplyAndIslandFaults : Prop :=
  (∀ (s : State) (t : Nat), s.clock.resetN = true → s.v 0x2001 0x01 = 2 → s.calm = true →
    ∃ s', runs (.hclkLoss t) s s' ∧ s'.v 0x2001 0x01 = 3 ∧ s'.clock.hclk = false ∧
      s'.clock.locked = false ∧ s'.bit 0x2001 0x02 0 = true ∧ counted s s' 0x2002 0 0x01 ∧
      3 ∈ s'.bridge.blank ∧ s'.displayRuns = false) ∧
  (∀ (s : State) (t : Nat), s.clock.resetN = true → s.v 0x2001 0x01 = 2 → s.calm = true →
    ∃ s', runs (.pllSlip t) s s' ∧ s'.v 0x2001 0x01 = 3 ∧ s'.clock.hclk = s.clock.hclk ∧
      s'.clock.locked = false ∧ s'.bit 0x2001 0x02 1 = true ∧ counted s s' 0x2002 0 0x02 ∧
      3 ∈ s'.bridge.blank ∧ s'.displayRuns = false) ∧
  (∀ (s : State) (t : Nat), s.clock.resetN = true → s.clock.pfail = false → s.clock.pfailRun = false →
    s.calm = true →
    ∃ s', runs (.pfail t) s s' ∧ s'.clock.pfail = true ∧ s'.clock.pfailRun = true ∧
      2 ∈ s'.bridge.blank ∧ s'.displayRuns = false ∧ s'.v 0x1890 0x01 = 4) ∧
  (∀ (s : State) (t rail : Nat), rail < 7 → s.clock.resetN = true → s.clock.pfailRun = false →
    s.calm = true →
    ∃ s', runs (.railUndervoltage t rail) s s' ∧ s'.ve 0x2040 rail 0x01 = 0 ∧
      counted s s' 0x2040 rail 0x02 ∧ counted s s' 0x2002 0 0x06 ∧ rail ∈ s'.clock.badRails ∧
      s'.clock.pfailRun = true ∧ 2 ∈ s'.bridge.blank ∧ s'.displayRuns = false) ∧
  (∀ (s : State) (t i : Nat), 0 < i → i < 14 → s.v 0x1890 0x01 ≠ 6 → i ∉ s.clock.restarting →
    s.calm = true →
    ∃ s', runs (.islandError t i) s s' ∧ i ∈ s'.clock.restarting ∧ counted s s' 0x1801 0 0x05) ∧
  (∀ (s : State) (t : Nat), s.v 0x1890 0x01 ≠ 6 → s.calm = true →
    ∃ s', runs (.islandError t 0) s s' ∧ s'.v 0x1890 0x01 = 6 ∧ s'.displayRuns = false) ∧
  (∀ (s : State) (t i : Nat), i < 14 → i ∈ s.clock.restarting → s.v 0x1890 0x01 ≠ 6 →
    s.v 0x2001 0x01 = 2 → s.calm = true →
    ∃ s', runs (.islandRestartDone t i) s s' ∧ i ∉ s'.clock.restarting ∧
      s'.ve 0x2010 i 0x01 = 32 ∧ s'.ve 0x2010 i 0x04 = 1 ∧
      (s.ratioTarget i ≠ 32 → i ∈ s'.clock.ramping) ∧ s'.recovering? domIsland i = none)

/-- R212, R213, R219, R220, R229, R230, R232, R234: Encoder edges and the drive link. Spin-up and
its limit, lost count edges, and rest. -/
def Obligations.EncoderAndWheel : Prop :=
  (∀ (s : State) (t : Nat) (a b : Bool), a ≠ s.loop.a → b ≠ s.loop.b →
    ∃ s', runs (.encoderEdge t a b) s s' ∧ counted s s' 0x6802 0 0x02 ∧ s'.loop.a = a ∧
      s'.loop.b = b ∧ s'.loop.count = s.loop.count) ∧
  (∀ (s : State) (t : Nat) (a b : Bool), (a ≠ s.loop.a ↔ b = s.loop.b) →
    ∃ s', runs (.encoderEdge t a b) s s' ∧ s'.loop.a = a ∧ s'.loop.b = b ∧
      s'.loop.count = s.loop.count +
        (if s.v 0x6800 0x03 = 0 then quadrature s.loop.a s.loop.b a b
         else -quadrature s.loop.a s.loop.b a b)) ∧
  (∀ (s : State) (t : Nat), s.wheel ≠ 11 →
    ∃ s', runs (.driveCommandTimer t) s s' ∧ s'.loop.dseq = (s.loop.dseq + 1) % 256 ∧
      s'.loop.dwait = s.loop.dwait ++ [s.loop.dseq] ∧ (s.wheel < 2 →
        s'.out = [.driveFrame (driveFrame 3 0 s.loop.dseq false)])) ∧
  (∀ (s : State) (t : Nat) (f : BitVec 48), frame48Ok f = true → drvType f = 1 → drvFlags f % 8 = 0 →
    ∃ s', runs (.driveStatus t f) s s' ∧ s'.v 0x6801 0x08 = drvFlags f % 256 ∧
      (drvSeq f ∈ s.loop.dwait → s'.loop.dlost = 0) ∧ s'.loop.dwait = s.loop.dwait.erase (drvSeq f) ∧
      (15 ≤ s.loop.dgood → s'.v 0x6801 0x09 = 2)) ∧
  (∀ (s : State) (t : Nat) (q : Nat) (l : List Nat), s.loop.dwait = q :: l →
    ∃ s', runs (.driveStatusTimeout t) s s' ∧ counted s s' 0x6802 0 0x04 ∧ s'.loop.dgood = 0 ∧
      s'.loop.dlost = s.loop.dlost + 1 ∧ s'.loop.dwait = l ∧
      (3 ≤ s.loop.dlost → s.v 0x6801 0x09 = 2 → s'.v 0x6801 0x09 = 3 ∧ s'.bit 0x6801 0x06 5 = true)) ∧
  (∀ (s : State) (t : Nat), 3 ≤ s.wheel → s.wheel ≤ 8 → s.loop.lost = false →
    ∃ s', runs (.countEdgeTimeout t) s s' ∧ s'.loop.lost = true ∧ s'.wheel = 10 ∧
      counted s s' 0x6802 0 0x09 ∧ 4 ∈ s'.bridge.blank) ∧
  (∀ (s : State) (t : Nat), (s.wheel = 0 ∨ s.wheel = 1) → s.b 0x6800 0x01 = true →
    s.wheelConfigured = true → s.v 0x6801 0x09 = 2 → s.gateOpen? 0x372 = true →
    ∃ s', runs (.spinUp t) s s' ∧ s'.wheel = 2 ∧ s'.torque = s.v 0x6800 0x06 ∧ s'.loop.nuts = 0) ∧
  (∀ (s : State) (t : Nat), (s.wheel = 0 ∨ s.wheel = 1) → s.b 0x6800 0x01 = true →
    s.wheelConfigured = false →
    ∃ s', runs (.spinUp t) s s' ∧ s'.wheel = 1) ∧
  (∀ (s : State) (t : Nat), s.wheel = 2 →
    ∃ s', runs (.spinUpTimeout t) s s' ∧ s'.wheel = 11 ∧ s'.bit 0x6801 0x06 2 = true ∧
      counted s s' 0x6802 0 0x08) ∧
  (∀ (s : State) (t : Nat), s.wheel = 9 →
    ∃ s', runs (.wheelRestTimeout t) s s' ∧ s'.loop.rearm = 0 ∧
      s'.wheel = if s.b 0x6800 0x01 && !s.wheelConfigured then 1 else 0)

/-- R36, R246, R248, R241: Blocks in sequence are accepted, and parcels start, go on and are
aborted. Bad blocks and blocks of reserved types are counted, a mesh receiver NAKs them, and they do
nothing else to parcels. -/
def Obligations.BlocksAccepted : Prop :=
  (∀ (s : State) (t lane : Nat) (b : Bytes), s.nextBlock lane 1 b = true →
    ∃ s', runs (.blockData t lane b) s s' ∧ (s'.group lane).rxSeq = (blockSeq b + 1) % 4096 ∧
      (s'.group lane).nak = false) ∧
  (∀ (s : State) (t lane : Nat) (b : Bytes), s.nextBlock lane 2 b = true →
    ∃ s', runs (.parcelStart t lane b) s s' ∧ (s'.group lane).rxSeq = (blockSeq b + 1) % 4096 ∧
      ∃ i ∈ s'.ingress.inbound.head?, i.port = portOfLane lane ∧ i.first = blockPayload b ∧ i.hdr = []) ∧
  (∀ (s : State) (t lane : Nat) (b : Bytes), s.nextBlock lane 4 b = true →
    ∃ s', runs (.parcelAbort t lane b) s s' ∧ (s'.group lane).rxSeq = (blockSeq b + 1) % 4096 ∧
      (∀ i ∈ s'.ingress.inbound, i.port ≠ portOfLane lane) ∧
      (s.ingress.inbound.any (fun i => i.port == portOfLane lane) = true → counted s s' 0x3002 0 0x02)) ∧
  (∀ (s : State) (t lane : Nat) (b : Bytes), 128 ≤ lane → lane < 192 → blockOk b = false →
    blockType b < 12 → (s.inTurn lane = true ∨ s.laneServes lane = false) → (s.lane lane).retrain = false →
    ∃ s', runs (.blockData t lane b) s s' ∧ counted s s' 0x7010 lane 0x07 ∧ counted s s' 0x7002 0 0x01 ∧
      (s'.group lane).nak = true ∧ (s'.group lane).rxSeq = (s.group lane).rxSeq ∧
      s'.ingress = s.ingress) ∧
  (∀ (s : State) (t lane : Nat) (b : Bytes), s.inTurn lane = true → 12 ≤ blockType b →
    (s.lane lane).retrain = false →
    ∃ s', runs (.reservedBlock t lane b) s s' ∧ counted s s' 0x7002 0 0x0B ∧
      counted s s' 0x7010 lane 0x07 ∧ counted s s' 0x7002 0 0x01 ∧ (s'.group lane).nak = true ∧
      (s'.group lane).rxSeq = (s.group lane).rxSeq ∧ s'.ingress = s.ingress) ∧
  (∀ (s : State) (t lane : Nat) (b : Bytes), lane < 128 → 12 ≤ blockType b → s.laneServes lane = true →
    (s.lane lane).rxAsleep = false → (s.lane lane).retrain = false →
    ∃ s', runs (.reservedBlock t lane b) s s' ∧ counted s s' 0x7002 0 0x0B ∧
      counted s s' 0x7010 lane 0x07 ∧ counted s s' 0x7002 0 0x01 ∧ s'.lanes.groups = s.lanes.groups ∧
      s'.ingress = s.ingress ∧ s'.out = [])

/-- R247, R249, R243, R244, R253, R254, R258, R262: Acknowledgements free what they cover, a replay
timeout sends again, and a receiver acknowledges by timer, or repeats the NAK that is outstanding.
Markers, fillers, training, sleep and lane maps. -/
def Obligations.AcknowledgementsAndLaneBlocks : Prop :=
  (∀ (s : State) (t lane q : Nat) (b : Bytes), s.inTurn lane = true → blockOk b = true →
    blockType b = 5 → ackEntries b = [{ lane := 0xFF, nak := false, rank := 0, seq := q }] →
    (s.group lane).queue = [] →
    ∃ s', runs (.acknowledge t lane b) s s' ∧ (∀ x ∈ (s'.group lane).held, seqUpTo x.seq q = false) ∧
      (s'.group lane).txSeq = (s.group lane).txSeq) ∧
  (∀ (s : State) (t lane k q : Nat) (b : Bytes), lane < 128 → s.laneServes lane = true →
    (s.lane lane).rxAsleep = false → blockOk b = true → blockType b = 5 → k < 64 → k / 16 = lane % 64 →
    ackEntries b = [{ lane := k, nak := false, rank := 0, seq := q }] →
    (s.group (lane / 64 * 64 + k)).queue = [] →
    ∃ s', runs (.acknowledge t lane b) s s' ∧
      (∀ x ∈ (s'.group (lane / 64 * 64 + k)).held, seqUpTo x.seq q = false) ∧
      (s'.group (lane / 64 * 64 + k)).txSeq = (s.group (lane / 64 * 64 + k)).txSeq) ∧
  (∀ (s : State) (t lane : Nat) (b : Held) (l : List Held), lane < 192 →
    (s.group lane).held = b :: l → (s.group lane).replay ≠ some b.seq →
    ∃ s', runs (.replayTimeout t lane) s s' ∧ (s'.group lane).replay = some b.seq ∧
      (s'.group lane).replayAt = max s.now t ∧ (s'.group lane).fails = 0 ∧
      counted s s' 0x7002 0 0x05 ∧ counted s s' 0x7002 0 0x03) ∧
  (∀ (s : State) (t port l : Nat), port < 8 → s.ve 0x7003 port 0x05 = 2 → s.ve 0x7003 port 0x09 = 0 →
    (s.group (meshLane port)).nak = false → s.slotLane? (meshLane port) = some l →
    ∃ s', runs (.ackSendTimer t port) s s' ∧
      s'.out.getLast? = some (.block l 5 (s.group (meshLane port)).txSeq
        (ackPayload 0xFF false 0 (((s.group (meshLane port)).rxSeq + 4095) % 4096)))) ∧
  (∀ (s : State) (t port l : Nat), port < 8 → s.ve 0x7003 port 0x05 = 2 → s.ve 0x7003 port 0x09 = 0 →
    (s.group (meshLane port)).nak = true → s.slotLane? (meshLane port) = some l →
    ∃ s', runs (.ackSendTimer t port) s s' ∧ counted s s' 0x7002 0 0x02 ∧
      s'.out.getLast? = some (.block l 5 (s.group (meshLane port)).txSeq
        (ackPayload 0xFF true (s.group (meshLane port)).nakRank (s.group (meshLane port)).rxSeq))) ∧
  (∀ (s : State) (t lane : Nat) (b : Bytes), lane < 192 → blockOk b = true →
    field (blockPayload b) 0 1 = 0x5A → s.laneState lane = 2 →
    ∃ s', runs (.marker t lane b) s s' ∧ s'.ve 0x7010 lane 0x0C = field (blockPayload b) 1 1 ∧
      s'.laneState lane = 2 ∧ (s'.lane lane).markerNo = field (blockPayload b) 8 4 ∧
      (128 ≤ lane → s'.ve 0x7003 (portOfLane lane) 0x08 = field (blockPayload b) 4 2)) ∧
  (∀ (s : State) (t lane : Nat) (b : Bytes), lane < 128 → blockOk b = true →
    field (blockPayload b) 0 1 = 0x5A → s.laneState lane = 1 → s.ve 0x7010 lane 0x03 = 4 →
    (s.lane lane).waking = false →
    ∃ s', runs (.marker t lane b) s s' ∧
      s'.ve 0x7010 lane 0x03 = (if (s.lane lane).sinceMarker = some 63 then 7 else 4) ∧
      ((s.lane lane).sinceMarker ≠ some 63 → (s'.lane lane).sinceMarker = some 0)) ∧
  (∀ (s : State) (t lane : Nat) (b : Bytes), lane < 192 → s.laneState lane = 1 →
    s.ve 0x7010 lane 0x03 = 4 → field (blockPayload b) 0 1 = 0xA5 →
    ∃ s', runs (.marker t lane b) s s' ∧ s'.ve 0x7010 lane 0x03 = 3 ∧
      (s'.ve 0x7010 lane 0x06).testBit 0 = !(s.ve 0x7010 lane 0x06).testBit 0) ∧
  (∀ (s : State) (t lane fill : Nat) (b : Bytes), lane < 192 → blockOk b = true →
    ∃ s', runs (.filler t lane b fill) s s' ∧
      (s'.group lane).elastic = (if 3 < fill then fill - 1 else if fill < 1 then fill + 1 else fill) ∧
      (fill < 1 ∨ 3 < fill → counted s s' 0x7002 0 0x0A)) ∧
  (∀ (s : State) (t lane : Nat) (b : Bytes), lane < 192 → s.laneState lane = 1 →
    (s.ve 0x7010 lane 0x03 = 2 ∨ s.ve 0x7010 lane 0x03 = 3) → (s.lane lane).inverse = false →
    (blockPayload b).take 48 = trainingPattern →
    ∃ s', runs (.training t lane b) s s' ∧
      s'.ve 0x7010 lane 0x03 = (if 15 ≤ (s.lane lane).syncs then 4 else s.ve 0x7010 lane 0x03) ∧
      ((s.lane lane).syncs < 15 → (s'.lane lane).syncs = (s.lane lane).syncs + 1)) ∧
  (∀ (s : State) (t lane : Nat) (b : Bytes), lane < 192 → s.laneState lane = 1 →
    s.ve 0x7010 lane 0x03 = 2 → (s.lane lane).inverse = true → (s.lane lane).syncs = 15 →
    (s.ve 0x7010 lane 0x06).testBit 0 = false → (blockPayload b).take 48 = trainingInverse →
    ∃ s', runs (.training t lane b) s s' ∧ s'.ve 0x7010 lane 0x03 = 3 ∧
      (s'.ve 0x7010 lane 0x06).testBit 0 = true) ∧
  (∀ (s : State) (t lane : Nat) (b : Bytes), lane < 192 → blockOk b = true → s.laneServes lane = true →
    ∃ s', runs (.sleep t lane b) s s' ∧ s'.laneState lane = 4 ∧ (s'.lane lane).rxAsleep = true) ∧
  (∀ (s : State) (t lane : Nat) (b : Bytes), 128 ≤ lane → lane < 192 → blockOk b = true →
    s.ve 0x7003 (portOfLane lane) 0x05 = 2 → s.reversed (portOfLane lane) = false →
    s.ve 0x7003 (portOfLane lane) 0x03 ≤ (s.txLanes (portOfLane lane)).length →
    s.ve 0x7003 (portOfLane lane) 0x03 ≤ ((bitLanes (portOfLane lane)
      (field (blockPayload b) 0 1)).filter s.receives).length →
    ∃ s', runs (.laneMap t lane b) s s' ∧ s'.ve 0x7003 (portOfLane lane) 0x05 = 2 ∧
      (s'.group lane).rxSlot = 0 ∧
      s'.rxOrder (portOfLane lane) = bitLanes (portOfLane lane) (field (blockPayload b) 0 1) ∧
      ((bitLanes (portOfLane lane) (field (blockPayload b) 0 1)).all s.receives = true →
        s'.ve 0x7003 (portOfLane lane) 0x07 = field (blockPayload b) 0 1))

/-- R253, R257, R262, R263: The steps of a bring-up, its failure and retry, lost lock, and sleep. -/
def Obligations.BringUp : Prop :=
  (∀ (s : State) (t lane : Nat), lane < 192 → s.laneState lane = 1 → s.ve 0x7010 lane 0x03 = 0 →
    ∃ s', runs (.signalDetect t lane) s s' ∧ s'.ve 0x7010 lane 0x03 = 1) ∧
  (∀ (s : State) (t lane : Nat), lane < 192 → s.laneState lane = 4 →
    (s.lane lane).rxAsleep = true → s.receiverSleeps lane = false →
    ∃ s', runs (.signalDetect t lane) s s' ∧ s'.laneState lane = 1 ∧ s'.ve 0x7010 lane 0x03 = 1 ∧
      (s'.lane lane).waking = true) ∧
  (∀ (s : State) (t lane preset margin : Nat), lane < 192 → s.laneState lane = 1 →
    s.ve 0x7010 lane 0x03 = 1 →
    ∃ s', runs (.cdrLock t lane preset margin) s s' ∧ s'.ve 0x7010 lane 0x03 = 2 ∧
      s'.ve 0x7010 lane 0x0B = margin % 65536 ∧ (s'.lane lane).ownPreset = preset % 8) ∧
  (∀ (s : State) (t lane : Nat), lane < 192 → s.laneState lane = 1 → (s.lane lane).retrain = false →
    (lane < 128 ∨ s.ve 0x7003 (portOfLane lane) 0x05 ≠ 2) →
    ∃ s', runs (.bringUpStageTimeout t lane) s s' ∧ s'.laneState lane = 5 ∧
      counted s s' 0x7002 0 0x07) ∧
  (∀ (s : State) (t lane : Nat), lane < 192 → s.laneState lane = 5 → s.v 0x7000 0x02 ≠ 0 →
    s.gateOpen? (gateLane + lane) = true →
    ∃ s', runs (.bringUpRetry t lane) s s' ∧ s'.laneState lane = 1 ∧ s'.ve 0x7010 lane 0x03 = 0) ∧
  (∀ (s : State) (t lane : Nat), lane < 192 → s.laneState lane = 1 → (s.lane lane).retrain = false →
    ∃ s', runs (.laneLockLoss t lane) s s' ∧ s'.laneState lane = 1 ∧ s'.ve 0x7010 lane 0x03 = 0 ∧
      (s'.lane lane).syncs = 0) ∧
  (∀ (s : State) (t lane : Nat), lane < 128 → s.laneState lane = 2 → s.b 0x7000 0x01 = true →
    s.gateOpen? (gateLane + lane) = true →
    ∃ s', runs (.laneLockLoss t lane) s s' ∧ s'.laneState lane = 1 ∧ counted s s' 0x7002 0 0x06 ∧
      counted s s' 0x7010 lane 0x09 ∧ (s'.lane lane).retrain = true ∧
      lane ∈ (s'.half (lane / 64)).gone) ∧
  (∀ (s : State) (t port : Nat), port < 8 → s.ve 0x7003 port 0x04 ≠ 0 → s.ve 0x7003 port 0x05 = 2 →
    s.ve 0x7003 port 0x09 = 0 → (s.group (meshLane port)).held = [] →
    (s.group (meshLane port)).nak = false →
    (s.group (meshLane port)).queue = [] → port ∉ s.ingress.busy →
    ∃ s', runs (.portSleepTimer t port) s s' ∧ s'.ve 0x7003 port 0x09 = 1 ∧
      s'.out.length = 2 * (s.txLanes port).length)

/-- R268, R272, R273, R406: Bank copies, and commits of the retained store, which wait while MEM
restarts. -/
def Obligations.RetainedStore : Prop :=
  (∀ (s : State) (t : Nat) (c : BankCopy) (l : List BankCopy), s.seq.running = true →
    s.memory.copies = c :: l → c.ended = false →
    ∃ s', runs (.bankCopyDone t) s s' ∧ s'.memory.copies = { c with ended := true } :: l) ∧
  (∀ (s : State) (t : Nat) (l rest : List JEntry), fitJournal 0 s.memory.journal = (l, rest) → l ≠ [] →
    s.memory.committing = none → s.storeWaits = false → s.memory.activeUsed + journalBlocks l ≤ 128 →
    ∃ s', runs (.journalCommitTimer t) s s' ∧ s'.memory.committing = some l ∧
      s'.memory.journal = rest ∧ s'.memory.activeHalf = s.memory.activeHalf ∧
      s'.memory.activeUsed = s.memory.activeUsed + journalBlocks l) ∧
  (∀ (s : State) (t : Nat) (l rest : List JEntry), fitJournal 0 s.memory.journal = (l, rest) → l ≠ [] →
    s.memory.committing = none → s.storeWaits = false → 128 < s.memory.activeUsed + journalBlocks l →
    s.memory.emptying = false →
    ∃ s', runs (.journalCommitTimer t) s s' ∧ s'.memory.committing = some l ∧
      s'.memory.journal = rest ∧ s'.memory.activeHalf = 1 - s.memory.activeHalf ∧
      s'.memory.emptying = true ∧ s'.memory.activeUsed = journalBlocks l) ∧
  (∀ (s : State) (t : Nat) (l rest : List JEntry), fitJournal 0 s.memory.journal = (l, rest) → l ≠ [] →
    s.memory.committing = none → 128 < s.memory.activeUsed + journalBlocks l →
    s.memory.emptying = true →
    ∃ s', runs (.journalCommitTimer t) s s' ∧ s'.memory.commitWaits = true ∧
      s'.memory.committing = none ∧ s'.memory.journal = s.memory.journal) ∧
  (∀ (s : State) (t : Nat) (l : List JEntry), s.memory.committing = some l →
    s.memory.commitWaits = false → s.storeWaits = false → journalBytes s.memory.journal < 16384 →
    ∃ s', runs (.journalCommitDone t) s s' ∧ s'.memory.committing = none ∧
      counted s s' 0x9000 0 0x07 ∧
      s'.halfEntries s.memory.activeHalf = s.halfEntries s.memory.activeHalf ++ l) ∧
  (∀ (s : State) (t : Nat), s.memory.emptying = true → s.memory.commitWaits = false →
    s.storeWaits = false →
    ∃ s', runs (.journalHalfEmptied t) s s' ∧ s'.memory.emptying = false ∧
      s'.halfEntries (1 - s.memory.activeHalf) = [])

/-- R283, R287, R284, R288, R289: A request that is served joins the controller's list, and a
write's bytes are what reads return; an idle channel issues it at once. One beyond the usable size
changes no byte. Requests end, are replayed, and a channel comes back from a re-train. -/
def Obligations.DramRequests : Prop :=
  (∀ (s : State) (t port a n : Nat) (data : Option Bytes), port < 7 → 0 < n →
    (∀ bs ∈ data, bs.length = n) → s.dramFault a n = 0 →
    ∃ s', runs (.dramRequest t port a n data) s s' ∧
      s'.memory.requests.map DramReq.id = s.memory.requests.map DramReq.id ++ [s.memory.nextReq] ∧
      s'.memory.nextReq = s.memory.nextReq + 1 ∧
      (∃ r ∈ s'.memory.requests.getLast?, r.port = port ∧ r.addr = a ∧ r.len = n ∧ r.write = data ∧
        r.urgency = 0 ∧ r.replays = 0 ∧ r.start = max s.now t ∧ (r.channel, r.loc) = s.placeOf a) ∧
      s'.memory.dram = match data with
        | some bs => mwrites s.memory.dram a bs
        | none => s.memory.dram) ∧
  (∀ (s : State) (t port a n : Nat) (data : Option Bytes), port < 7 → 0 < n →
    (∀ bs ∈ data, bs.length = n) → s.dramFault a n = 0 → s.chanActive (s.placeOf a).1 = true →
    (s.memory.requests.all fun q => q.channel != (s.placeOf a).1) = true →
    s.rfmBlocked (s.placeOf a).1 (bankNumber (s.decodeLocal (s.placeOf a).2)) = false →
    ∃ s', runs (.dramRequest t port a n data) s s' ∧
      (∃ r ∈ s'.memory.requests.getLast?, r.issued = some (max s.now t)) ∧
      Output.ddr (s.placeOf a).1 (if data.isSome then 8 else 7) (s.placeOf a).2 ∈ s'.out) ∧
  (∀ (s : State) (t port a n : Nat) (data : Option Bytes), port = 0 ∨ port = 3 → 0 < n →
    (∀ bs ∈ data, bs.length = n) → s.dramFault a n = 3 →
    ∃ s', runs (.dramRequest t port a n data) s s' ∧ s'.memory.requests = s.memory.requests ∧
      s'.memory.dram = s.memory.dram ∧ s'.v 0x7803 0x03 = 3 ∧ counted s s' 0x7802 0 0x07 ∧
      (port = 0 → s'.mgmt.lastCode = 15)) ∧
  (∀ (s : State) (t id : Nat) (r : DramReq), r ∈ s.memory.requests → r.id = id →
    ∃ s', runs (.urgencyRise t id) s s' ∧ s'.dict = s.dict ∧
      s'.memory.requests.length = s.memory.requests.length ∧
      { r with urgency := min 3 (r.urgency + 1) } ∈ s'.memory.requests) ∧
  (∀ (s : State) (t id : Nat) (r : DramReq), s.issued? id = some r →
    ∃ s', runs (.dramRequestDone t id true) s s' ∧ s'.issued? id = none ∧
      s'.memory.dram = s.memory.dram ∧
      s'.memory.requests.map DramReq.id = (s.memory.requests.map DramReq.id).filter (· != id)) ∧
  (∀ (s : State) (t id : Nat) (r : DramReq), s.issued? id = some r →
    r.write = none → r.replays < 3 → s.ve 0x7820 r.channel 0x04 = 1 →
    ∃ s', runs (.dramRequestDone t id false) s s' ∧ counted s s' 0x7802 0 0x05 ∧
      counted s s' 0x7802 0 0x06 ∧ Output.ddr r.channel 7 r.loc ∈ s'.out ∧
      ∃ q ∈ s'.memory.requests, q.id = id ∧ q.replays = r.replays + 1) ∧
  (∀ (s : State) (t id : Nat) (r : DramReq), s.issued? id = some r →
    r.write.isSome = true → r.replays < 3 →
    ∃ s', runs (.ddrAlert t id) s s' ∧ counted s s' 0x7802 0 0x04 ∧ counted s s' 0x7802 0 0x06 ∧
      Output.ddr r.channel 8 r.loc ∈ s'.out ∧
      ∃ q ∈ s'.memory.requests, q.id = id ∧ q.replays = r.replays + 1) ∧
  (∀ (s : State) (t id : Nat) (r : DramReq), s.issued? id = some r → s.calm = true →
    r.write = none → 3 ≤ r.replays → s.ve 0x7820 r.channel 0x04 = 1 →
    ∃ s', runs (.dramRequestDone t id false) s s' ∧ s'.v 0x7803 0x01 = r.addr % 2 ^ 64 ∧
      s'.v 0x7803 0x02 = r.port % 2 ^ 8 ∧ s'.v 0x7803 0x03 = 2 ∧ counted s s' 0x7802 0 0x05 ∧
      counted s s' 0x7802 0 0x07 ∧ s'.issued? id = none) ∧
  (∀ (s : State) (t c : Nat), c < 4 → s.chanState c = 5 → (s.chan c).selfRefresh = true →
    ∃ s', runs (.inplaceRetrainDone t c true) s s' ∧ s'.chanState c = s.serviceState c ∧
      (s'.chan c).selfRefresh = false ∧ Output.ddr c 4 0 ∈ s'.out ∧
      s'.v 0x7801 0x05 = (max s.now t - (s.chan c).refreshAt) / 5000 % 2 ^ 32 ∧
      s'.recovering? domChannel c = none) ∧
  (∀ (s : State) (t c : Nat), c < 4 → s.chanState c = 5 → (s.chan c).selfRefresh = true → s.calm = true →
    ∃ s', runs (.inplaceRetrainDone t c false) s s' ∧ counted s s' 0x7802 0 0x0D ∧
      s'.chanState c = if s.canOffline c then 3 else 7)

/-- R278, R279, R286, R289, R291, R292: Timers of a channel, its training, and the moves of its
chunks. -/
def Obligations.Channels : Prop :=
  (∀ (s : State) (t c : Nat), c < 4 → s.chanActive c = true →
    ∃ s', runs (.ddrRefreshTimer t c) s s' ∧ s'.out.head? = some (.ddr c 1 0) ∧
      ((s.memory.requests.all fun q => q.channel != c || q.issued.isSome) = true →
        s'.out = [.ddr c 1 0] ∧ (s'.chan c).openRows = [] ∧ s'.dict = s.dict)) ∧
  (∀ (s : State) (t c count : Nat), c < 4 → s.chanActive c = true →
    ∃ s', runs (.dqsOscTimer t c count) s s' ∧ s'.out = [.ddr c 6 0] ∧
      (s'.chan c).oscillator = count ∧
      (s'.chan c).drift = (count : Int) - (s.chan c).oscBase.getD count ∧ s'.dict = s.dict) ∧
  (∀ (s : State) (t c : Nat), c < 4 → s.chanActive c = true →
    ∃ s', runs (.zqCalTimer t c) s s' ∧ s'.out = [.ddr c 5 0] ∧ s'.memory = s.memory ∧
      s'.dict = s.dict) ∧
  (∀ (s : State) (t c : Nat) (x : DdrTraining), c < 4 → s.chanState c = 1 →
    ((s.chan c).trained && x.fastOk || x.fullOk) = true → (s.chan c).returnDue = false →
    (s.chan c).offline = false →
    ∃ s', runs (.ddrTrainingDone t c x) s s' ∧ s'.chanState c = s.serviceState c ∧
      (s'.chan c).trained = true ∧ s'.ve 0x7820 c 0x03 = s.chanSize ∧
      s'.v 0x7801 0x05 = x.micros % 2 ^ 32) ∧
  (∀ (s : State) (t c : Nat) (x : DdrTraining), c < 4 → s.chanState c = 1 →
    ((s.chan c).trained && x.fastOk || x.fullOk) = true → (s.chan c).returnDue = true →
    ∃ s', runs (.ddrTrainingDone t c x) s s' ∧
      s'.chanState c = (if (tget? c s.memory.redirects).isNone then 2 else 6) ∧
      (s'.chan c).trained = true) ∧
  (∀ (s : State) (t c : Nat) (x : DdrTraining), c < 4 → s.chanState c = 1 →
    ((s.chan c).trained && x.fastOk || x.fullOk) = true → (s.chan c).returnDue = false →
    (s.chan c).offline = true →
    ∃ s', runs (.ddrTrainingDone t c x) s s' ∧ s'.chanState c = 4 ∧ (s'.chan c).retrained = true) ∧
  (∀ (s : State) (t c : Nat) (x : DdrTraining), c < 4 → s.chanState c = 1 →
    ((s.chan c).trained && x.fastOk || x.fullOk) = false →
    ∃ s', runs (.ddrTrainingDone t c x) s s' ∧ s'.chanState c = 7 ∧ counted s s' 0x7802 0 0x0D ∧
      (s'.memory.requests.all fun q => q.channel != c) = true) ∧
  (∀ (s : State) (t c : Nat), c < 4 → s.memory.migrating = some c → s.memory.returning = false →
    s.chunkWritten = false →
    ∃ s', runs (.chunkMoveDone t) s s' ∧ s'.memory.nextChunk = s.memory.nextChunk + 1 ∧
      tget? c s'.memory.redirects = some (0, s.memory.nextChunk + 1) ∧
      (s.chunksOf ≤ s.memory.nextChunk + 1 → s'.memory.migrating = none ∧ s'.chanState c = 4)) ∧
  (∀ (s : State) (t c : Nat), c < 4 → s.memory.migrating = some c → s.memory.returning = true →
    s.chunkWritten = false → (tget (0, 0) c s.memory.redirects).2 ≤ s.memory.nextChunk + 1 →
    ∃ s', runs (.chunkMoveDone t) s s' ∧ tget? c s'.memory.redirects = none ∧
      s'.memory.migrating = none ∧ s'.chanState c = 2) ∧
  (∀ (s : State) (t : Nat), s.chunkWritten = true →
    ∃ s', runs (.chunkMoveDone t) s s' ∧ s'.memory = s.memory ∧ s'.dict = s.dict)

/-- R314, R315, R394, R275, R302, R346, R392, R398: What a reset leaves, and the first steps of a
start-up. The later steps of a start-up, and restarts. -/
def Obligations.ResetAndStartup : Prop :=
  (∀ (s : State) (t : Nat),
    ∃ s', runs (.resetAssert t) s s' ∧ s'.clock.resetN = false ∧ s'.displayRuns = false ∧
      s'.wheel = 0 ∧ s'.seq.running = false ∧ s'.memory.requests = [] ∧ s'.memory.kept = s.memory.kept ∧
      s'.mgmt.masters = [] ∧ ∀ n, n < 48 → Output.gateDark n ∈ s'.out) ∧
  (∀ (s : State) (t : Nat), s.clock.pfail = false → s.clock.chatter = [] →
    ∃ s', runs (.resetRelease t) s s' ∧ s'.clock.resetN = true ∧ s'.now = t ∧ s'.clock.t0 = t ∧
      s'.v 0x2001 0x01 = (if s.clock.hclk then 1 else 0) ∧ s'.stepDone 1 = true ∧
      s'.stepDone 2 = true ∧ s'.stepDone 3 = false ∧ s'.v 0x1890 0x01 = 0) ∧
  (∀ (s : State) (t : Nat) (d : RestoreDamage), s.clock.resetN = true → s.stepDone 3 = true →
    s.stepDone 4 = false →
    ∃ s', runs (.retainedRestoreDone t d) s s' ∧ s'.stepDone 4 = true ∧
      s'.v 0x5001 0x04 = s'.v 0x5000 0x01) ∧
  (∀ (s : State) (t : Nat), s.stepDone 4 = true → s.stepDone 5 = false → s.v 0x9101 0x03 < 2 →
    s.slotValid (s.v 0x9101 0x03) = true →
    ∃ s', runs (.firmwareBootDone t) s s' ∧ s'.stepDone 5 = true ∧ s'.mgmt.service = true ∧
      s'.v 0x9101 0x05 = s.v 0x9101 0x03 ∧ s'.fwState (s.v 0x9101 0x03) = 4) ∧
  (∀ (s : State) (t : Nat) (failed : List Nat), failed.all (decide <| · < 256) = true →
    s.v 0x2001 0x01 = 2 → s.stepDone 5 = true → s.v 0x1890 0x01 = 0 →
    s.shutdownPending = false → s.clock.islandsStopped = false → s.clock.islandsDue = true →
    ∃ s', runs (.islandRampsDone t failed) s s' ∧ s'.stepDone 6 = true ∧ s'.clock.openingNow = none ∧
      s'.clock.opening = [] ∧ s'.clock.islandsDue = false ∧ s'.memory.marched = true ∧
      (s.memory.marched = false → ∀ b ∈ failed, s'.ve 0x7810 b 0x02 = 1 ∧ s'.ve 0x7810 b 0x01 = 2)) ∧
  (∀ (s : State) (t : Nat), s.b 0x1890 0x05 = true → s.v 0x1890 0x01 = 4 →
    s.clock.pfailReleased = true → s.supplyGood = true → s.shutdownPending = false →
    s.stepDone 5 = true →
    ∃ s', runs (.autoRestartTimer t) s s' ∧ s'.v 0x1890 0x01 = 0 ∧ s'.clock.pfailRun = false ∧
      s'.v 0x1890 0x02 = s.v 0x1890 0x02 % 64) ∧
  (∀ (s : State) (t : Nat), s.clock.pfail = true →
    ∃ s', runs (.pfailRelease t) s s' ∧ s'.clock.pfail = false ∧ s'.clock.pfailReleased = true)

/-- R295, R297, R302, R310, R311, R300, R303, R305, R316: Lock, its timeout, and the phases of a
coast. Ramps, forced switches, gates and rails. -/
def Obligations.PllAndClockTree : Prop :=
  (∀ (s : State) (t : Nat), s.clock.resetN = true → s.clock.hclk = true →
    (s.v 0x2001 0x01 = 0 ∨ s.v 0x2001 0x01 = 1 ∨ s.v 0x2001 0x01 = 5) →
    ∃ s', runs (.pllLock t) s s' ∧ s'.v 0x2001 0x01 = 2 ∧ s'.clock.locked = true ∧
      s'.stepDone 3 = true ∧
      (∀ i ∈ [0, 1, 13], s'.ve 0x2010 i 0x04 = 1 ∧ s'.ve 0x2010 i 0x01 = 32) ∧
      s'.v 0x2001 0x03 = (max s.now t - s.clock.acqStart) / 5000 % 2 ^ 32) ∧
  (∀ (s : State) (t : Nat), s.clock.resetN = true → s.clock.locked = false →
    ∃ s', runs (.pllLockTimeout t) s s' ∧ counted s s' 0x2002 0 0x07 ∧ s'.bit 0x2001 0x02 4 = true ∧
      s'.clock.lockIrq = true ∧ s'.clock.acqStart = max s.now t) ∧
  (∀ (s : State) (t : Nat), s.v 0x2001 0x01 = 3 →
    ∃ s', runs (.holdPhaseEnd t) s s' ∧ s'.v 0x2001 0x01 = (if s.clock.qualified then 5 else 4) ∧
      s'.clock.hold = false ∧ s'.clock.opening = [] ∧
      ∀ i, 2 ≤ i → i ≤ 12 → s'.ve 0x2010 i 0x04 = 2 ∧ s'.ve 0x2010 i 0x01 = 32) ∧
  (∀ (s : State) (t : Nat), s.v 0x2001 0x01 = 4 →
    ∃ s', runs (.hclkQualified t) s s' ∧ s'.v 0x2001 0x01 = 5 ∧ s'.clock.hclk = true ∧
      s'.clock.acqStart = max s.now t) ∧
  (∀ (s : State) (t : Nat), s.v 0x2001 0x01 = 3 →
    ∃ s', runs (.hclkQualified t) s s' ∧ s'.v 0x2001 0x01 = 3 ∧ s'.clock.qualified = true) ∧
  (∀ (s : State) (t i : Nat), i < 14 → s.v 0x2001 0x01 = 2 → i ∈ s.clock.ramping →
    s.ve 0x2010 i 0x01 + 1 < s.ratioTarget i →
    ∃ s', runs (.ratioRampStep t i) s s' ∧ s'.ve 0x2010 i 0x01 = s.ve 0x2010 i 0x01 + 1 ∧
      s'.clock = s.clock) ∧
  (∀ (s : State) (t i : Nat), i < 14 → s.v 0x2001 0x01 = 2 → i ∈ s.clock.ramping →
    s.ratioTarget i + 1 < s.ve 0x2010 i 0x01 →
    ∃ s', runs (.ratioRampStep t i) s s' ∧ s'.ve 0x2010 i 0x01 = s.ve 0x2010 i 0x01 - 1 ∧
      s'.clock = s.clock) ∧
  (∀ (s : State) (t i : Nat), i < 14 → s.v 0x2001 0x01 = 2 → i ∈ s.clock.ramping →
    s.clock.gateReq = none → s.clock.openingNow ≠ some i → s.ve 0x2010 i 0x01 + 1 = s.ratioTarget i →
    ∃ s', runs (.ratioRampStep t i) s s' ∧ s'.ve 0x2010 i 0x01 = s.ratioTarget i ∧
      i ∉ s'.clock.ramping) ∧
  (∀ (s : State) (t i x : Nat), i < 14 → s.otherInput i = some x →
    ∃ s', runs (.muxForcedSwitch t i) s s' ∧ s'.bit 0x2001 0x02 2 = true ∧
      counted s s' 0x2010 i 0x05 ∧ counted s s' 0x2002 0 0x03 ∧ s'.ve 0x2010 i 0x04 = x ∧
      s'.ve 0x2010 i 0x01 = 32) ∧
  (∀ (s : State) (t i : Nat), i < 14 → s.otherInput i = none →
    ∃ s', runs (.muxForcedSwitch t i) s s' ∧ s'.dict = s.dict ∧ s'.clock = s.clock) ∧
  (∀ (s : State) (t : Nat) (r : GateReq), s.clock.gateReq = some r → r.closing = true →
    ∃ s', runs (.gateIdle t) s s' ∧ s'.clock.gateReq = none ∧ s'.gateState r.unit r.element = 0 ∧
      s'.ve (gateObject r.unit) r.element 0x01 = 0) ∧
  (∀ (s : State) (t : Nat) (r : GateReq), s.clock.gateReq = some r → r.closing = true →
    ∃ s', runs (.gateCloseTimeout t) s s' ∧ s'.clock.gateReq = none ∧
      s'.gateState r.unit r.element = 1 ∧ counted s s' 0x2002 0 0x04 ∧ s'.bit 0x2001 0x02 3 = true) ∧
  (∀ (s : State) (t rail : Nat), rail < 7 → s.clock.resetN = true →
    ∃ s', runs (.railOvervoltage t rail) s s' ∧ s'.ve 0x2040 rail 0x01 = 2 ∧
      counted s s' 0x2040 rail 0x02 ∧ counted s s' 0x2002 0 0x06 ∧ rail ∈ s'.clock.badRails ∧
      s'.clock.pfailRun = s.clock.pfailRun) ∧
  (∀ (s : State) (t rail : Nat), rail < 7 →
    ∃ s', runs (.railReturn t rail) s s' ∧ s'.ve 0x2040 rail 0x01 = 1 ∧ rail ∉ s'.clock.badRails)

/-- R325, R327, R323, R341: A session opens, and it closes by CLOSE and by its timeout. Keepalives,
event acknowledgements, and the sending of events. -/
def Obligations.SessionsAndEvents : Prop :=
  (∀ (s : State) (t path m chord seq : Nat) (peer body : Bytes), s.yalokOpen path = true → path < 3 →
    s.handingOver = false → s.reached m path = true → chord < 2 ^ 16 → seq < 2 ^ 32 → body.length = 16 →
    (((s.masterRec m).opens.filter fun u => decide (max s.now t < u + secCycles)).length < 10) →
    ∃ s', runs (.openSession t path peer (packMsg 1 m 0 0 seq chord body (s.masterKey m))) s s' ∧
      (s'.masterRec m).opening.length = (s.masterRec m).opening.length + 1 ∧
      (s'.masterRec m).session = (s.masterRec m).session ∧
      (∃ z ∈ (s'.masterRec m).opening.getLast?, z.path = path ∧ z.peer = peer ∧ z.seqIn = 0) ∧
      (path = 0 → s'.out.length = 1)) ∧
  (∀ (s : State) (t path m seq : Nat) (peer : Bytes) (y : Session), s.canAsk path m seq y = true →
    ∃ s', runs (.close t path peer (requestIn y 3 m seq 0xFFFF [])) s s' ∧ s'.session? m = none ∧
      s'.hasSent path peer (replyOut y m seq 0 [] [])) ∧
  (∀ (s : State) (t m : Nat), 1 ≤ m → m ≤ 14 →
    ∃ s', runs (.sessionTimeout t m) s s' ∧ s'.session? m = none ∧
      ∀ k, k ≠ m → s'.session? k = s.session? k) ∧
  (∀ (s : State) (t path : Nat), path < 3 →
    ∃ s', runs (.malformedMessage t path) s s' ∧ counted s s' 0x1011 0 0x08 ∧ s'.out = []) ∧
  (∀ (s : State) (t path m seq : Nat) (peer : Bytes) (y : Session), s.canAsk path m seq y = true →
    ∃ s', runs (.keepalive t path peer (requestIn y 12 m seq 0xFFFF [])) s s' ∧
      s'.hasSent path peer (packMsg 12 m 0x80 y.id y.seqOut 0xFFFF [] y.key) ∧
      s'.dict = s.dict) ∧
  (∀ (s : State) (t path m seq k : Nat) (peer : Bytes) (y : Session), s.canAsk path m seq y = true →
    k < 2 ^ 32 →
    ∃ s', runs (.eventAck t path peer (requestIn y 11 m seq 0xFFFF (beBytes 4 k))) s s' ∧
      tget [] m s'.mgmt.queues = (tget [] m s.mgmt.queues).filter (fun e => decide (k < e.number)) ∧
      s'.hasSent path peer (replyOut y m seq 0 [] [])) ∧
  (∀ (s : State) (t m : Nat) (y : Session) (c : Bool), 1 ≤ m → m ≤ 14 → s.session? m = some y →
    s.sentTo m = [] → tget [] m s.mgmt.queues ≠ [] → (tget [] m s.mgmt.queues).length ≤ 16 →
    ∃ s', runs (if c then .eventSend t m else .eventResendTimer t m) s s' ∧
      s'.hasSent y.path y.peer (packMsg 10 m 0x80 y.id y.seqOut 0xFFFF
        (beBytes 1 (tget [] m s.mgmt.queues).length ++ zeros 3 ++
          (tget [] m s.mgmt.queues).flatMap Event.bytes) y.key) ∧
      s'.sentTo m = (tget [] m s.mgmt.queues).map (fun e => (e.number, max s.now t)))

/-- R319, R324, R335: A READ is answered, a WRITE is judged and handed over, item by item. -/
def Obligations.ReadsAndWrites : Prop :=
  (∀ (s : State) (t path m seq : Nat) (peer body b : Bytes) (y : Session) (i : Item),
    s.canAsk path m seq y = true → body.length ≤ 1408 → parseItems false body.length body = some [i] →
    (s.asks t path peer m seq y).readValue m y.id 0xFFFF i = .ok b → b.length ≤ 1388 →
    ∃ s', runs (.read t path peer (requestIn y 4 m seq 0xFFFF body)) s s' ∧
      s'.hasSent path peer (replyOut y m seq 0 [(0, b)] [])) ∧
  (∀ (s : State) (t path m seq code : Nat) (peer body : Bytes) (y : Session) (i : Item),
    s.canAsk path m seq y = true → body.length ≤ 1408 → parseItems false body.length body = some [i] →
    (s.asks t path peer m seq y).readValue m y.id 0xFFFF i = .error code → code ≠ 13 →
    ∃ s', runs (.read t path peer (requestIn y 4 m seq 0xFFFF body)) s s' ∧
      s'.hasSent path peer (replyOut y m seq code [(code, [])] [])) ∧
  (∀ (s : State) (t path m seq : Nat) (peer body : Bytes) (y : Session) (i : Item),
    s.canAsk path m seq y = true → body.length ≤ 1408 → parseItems true body.length body = some [i] →
    (s.asks t path peer m seq y).writeCode { master := m, path := some path, chord := false } i.staged
      i.len i.flags = 0 →
    ∃ s', runs (.write t path peer (requestIn y 5 m seq 0xFFFF body)) s s' ∧ s'.dict = s.dict ∧
      s'.mgmt.handoff = s.mgmt.handoff ++ [{
        item := i.staged, master := m, session := y.id, seq := seq, last := true, codes := [0],
        index := 0 }]) ∧
  (∀ (s : State) (t : Nat) (h : Handoff) (l : List Handoff), s.mgmt.handoff = h :: l →
    ∃ s', runs (.writeItemHandoff t) s s' ∧ s'.mgmt.handoff.length = l.length ∧
      (h.item.isGate = false → s'.mgmt.handoff = l)) ∧
  (∀ (s : State) (t v : Nat) (h : Handoff) (l : List Handoff), s.mgmt.handoff = h :: l →
    h.item = stagedValue h.item.object h.item.element h.item.member v →
    s.atOnce h.item.object h.item.element h.item.member = true → s.calm = true →
    plainMember (s.enter t) h.item.object h.item.element h.item.member v = true →
    ∃ s', runs (.writeItemHandoff t) s s' ∧
      s'.ve h.item.object h.item.element h.item.member = v)

/-- R332, R334, R335, R337, R338, R339: Chords begin, commit, are handed over, and are aborted. -/
def Obligations.Chords : Prop :=
  (∀ (s : State) (t path m seq n : Nat) (peer : Bytes) (y : Session), s.canAsk path m seq y = true →
    (List.range 32).find? (fun k => (s.chord k).state == 0) = some n →
    ∃ s', runs (.chordBegin t path peer (requestIn y 7 m seq 0xFFFF [])) s s' ∧
      (s'.chord n).state = 1 ∧ (s'.chord n).master = m ∧ (s'.chord n).session = y.id ∧
      (s'.chord n).gen = ((s.chord n).gen + 1) % 1024 ∧ (s'.chord n).items = [] ∧
      s'.hasSent path peer (replyOut y m seq 0 [] (beBytes 2 (handleOf (s'.chord n).gen n)))) ∧
  (∀ (s : State) (t path m seq n handle mode : Nat) (peer : Bytes) (y : Session),
    s.canAsk path m seq y = true → handle < 2 ^ 16 → mode < 3 →
    (s.asks t path peer m seq y).openChord handle m y.id = (n, 0) →
    ((s.asks t path peer m seq y).commitCode { master := m, path := some path, chord := true }
      (s.chord n) mode 0).1 = 0 →
    ∃ s', runs (match mode with
        | 0 => .commitNow t path peer (requestIn y 8 m seq handle (zeros 16))
        | 1 => .commitNextFret t path peer (requestIn y 8 m seq handle (beBytes 1 1 ++ zeros 15))
        | _ => .commitNextFrame t path peer (requestIn y 8 m seq handle (beBytes 1 2 ++ zeros 15))) s s' ∧
      (s'.chord n).state = 2 ∧ (s'.chord n).mode = mode ∧ (s'.chord n).items = (s.chord n).items ∧
      (s'.chord n).at_ = max s.now t + handoffCycles (s.chord n).members ∧
      counted s s' 0x1011 0 0x04) ∧
  (∀ (s : State) (t path m seq n handle raw : Nat) (peer : Bytes) (y : Session),
    s.canAsk path m seq y = true → handle < 2 ^ 16 → raw < 2 ^ 96 →
    (s.asks t path peer m seq y).openChord handle m y.id = (n, 0) →
    ((s.asks t path peer m seq y).commitCode { master := m, path := some path, chord := true }
      (s.chord n) 3 raw).1 = 0 →
    ∃ s', runs (.commitAtTime t path peer
        (requestIn y 8 m seq handle (beBytes 1 3 ++ zeros 3 ++ beBytes 12 raw))) s s' ∧
      (s'.chord n).state = 3 ∧ (s'.chord n).at_ = raw ∧ (s'.chord n).items = (s.chord n).items ∧
      counted s s' 0x1011 0 0x04 ∧
      s'.hasSent path peer (replyOut y m seq 0 [] (noPoints 0xFFFF))) ∧
  (∀ (s : State) (t path m seq n handle : Nat) (peer : Bytes) (y : Session),
    s.canAsk path m seq y = true → handle < 2 ^ 16 → s.findChord handle m y.id = (n, 0) →
    (s.chord n).state ≠ 2 →
    ∃ s', runs (.abortChord t path peer (requestIn y 9 m seq handle [])) s s' ∧
      (s'.chord n).state = 0 ∧ (s'.chord n).aborted = true ∧ counted s s' 0x1011 0 0x05 ∧
      s'.hasSent path peer (replyOut y m seq 0 [] [])) ∧
  (∀ (s : State) (t n : Nat), n < 32 → (s.chord n).state = 2 → (s.chord n).at_ ≤ max s.now t →
    ∃ s', runs (.chordHandoff t n) s s' ∧ (s'.chord n).state = 0 ∧ (s'.chord n).items = []) ∧
  (∀ (s : State) (t n : Nat), n < 32 → (s.chord n).state = 3 →
    (s.enter t).wallReaches (max s.now t) (s.chord n).at_ = true →
    ∃ s', runs (.atTimeReached t n) s s' ∧ (s'.chord n).state = 0 ∧ (s'.chord n).items = []) ∧
  (∀ (s : State) (t n : Nat), n < 32 → ((s.chord n).state = 1 ∨ (s.chord n).state = 4) →
    ∃ s', runs (.chordIdleTimeout t n) s s' ∧ (s'.chord n).state = 0 ∧ (s'.chord n).aborted = true ∧
      counted s s' 0x1011 0 0x05)

/-- R343, R344, R345, R347: An image is verified, service is handed over, and a standby takes over. -/
def Obligations.Firmware : Prop :=
  (∀ (s : State) (t slot : Nat), slot < 2 → s.mgmt.verifying = some slot → s.fwState slot ≠ 4 →
    ∃ s', runs (.fwVerifyDone t slot) s s' ∧ s'.mgmt.verifying = none ∧
      s'.fwState slot = (if s.slotValid slot then 2 else 3) ∧
      (s.slotValid slot = false → counted s s' 0x9102 0 0x03)) ∧
  (∀ (s : State) (t slot start : Nat), s.mgmt.handover = some (slot, start) → s.mgmt.heldMsgs = [] →
    ∃ s', runs (.handoverDone t) s s' ∧ s'.mgmt.handover = none ∧ s'.v 0x9101 0x05 = slot ∧
      s'.v 0x9101 0x06 = 0 ∧ s'.fwState slot = 4 ∧ counted s s' 0x9102 0 0x01 ∧
      s'.mgmt.activeCore = 1 - s.mgmt.activeCore) ∧
  (∀ (s : State) (t : Nat), s.handingOver = true → s.mgmt.heldMsgs = [] →
    ∃ s', runs (.handoverTimeout t) s s' ∧ s'.mgmt.handover = none ∧ s'.v 0x9101 0x06 = 3 ∧
      counted s s' 0x9102 0 0x02 ∧ s'.v 0x9101 0x05 = s.v 0x9101 0x05) ∧
  (∀ (s : State) (t : Nat),
    ∃ s', runs (.watchdogTakeover t) s s' ∧ counted s s' 0x9102 0 0x05 ∧ s'.mgmt.handover = none ∧
      s'.mgmt.handoff = [] ∧ (∀ m, s'.session? m = none) ∧ s'.mgmt.queues = s.mgmt.queues)

/-- R349, R350, R352: Frames that arrive, frames relayed, links, and own addresses. Neighbour
solicitations and echo requests for an own address are answered. -/
def Obligations.FramesAndAddresses : Prop :=
  (∀ (s : State) (t p : Nat) (f : Bytes), p < 2 → s.islandRuns 2 = true → s.ethUp p = true →
    60 ≤ f.length → f.length ≤ 1518 →
    ∃ s', runs (.ethFrameRx t p f true) s s' ∧ counted s s' 0x8020 p 0x08 ∧
      (isPause f = false → s.v 0x8000 0x0E = 0 → field f 0 6 ≠ s.mac → s.ethUp (1 - p) = true →
        s.relayHeld (1 - p) + f.length + 4 ≤ 65536 →
        s'.net.queue.length = s.net.queue.length + 1)) ∧
  (∀ (s : State) (t p : Nat) (f : Bytes), p < 2 → s.islandRuns 2 = true → s.ethUp p = true →
    f.length ≤ 1518 →
    ∃ s', runs (.ethFrameRx t p f false) s s' ∧ counted s s' 0x8020 p 0x09 ∧ s'.net = s.net ∧
      s'.out = []) ∧
  (∀ (s : State) (t p : Nat) (x : Relayed), p < 2 → s.net.queue = [x] → x.out = p →
    x.own = none → ptpAt x.frame = none →
    ∃ s', runs (.relayFrameTx t p) s s' ∧ s'.net.queue = [] ∧ s'.out = [.ethFrame p x.frame] ∧
      s'.dict = s.dict) ∧
  (∀ (s : State) (t p : Nat) (x : Relayed) (o : Output), p < 2 → s.net.queue = [x] → x.out = p →
    x.own = some o →
    ∃ s', runs (.relayFrameTx t p) s s' ∧ s'.net.queue = [] ∧ s'.out = [o] ∧ s'.dict = s.dict) ∧
  (∀ (s : State) (t p o : Nat) (x : Relayed), p < 2 → s.net.queue = [x] → x.out = p →
    x.own = none → ptpAt x.frame = some o → s.b 0x8000 0x0D = true → ptpGood (ptpOf x.frame) = true →
    ptpType (ptpOf x.frame) ≤ 1 →
    ∃ s', runs (.relayFrameTx t p) s s' ∧ s'.net.queue = [] ∧ counted s s' 0x8002 0 0x0A ∧
      s'.out = [.ethFrame p (correctFrame x.frame o
        (psToUnits (s.txStamp p (max s.now t) - x.stamp) s.wallRate))]) ∧
  (∀ (s : State) (t p : Nat) (up : Bool), p < 2 →
    (up = true → s.islandRuns 2 = true ∧ s.ve 0x8020 p 0x01 ≠ 2) →
    ∃ s', runs (.ethLinkChange t p up) s s' ∧ s'.ve 0x8020 p 0x02 = if up then 1 else 0) ∧
  (∀ (s : State) (t : Nat) (dup : Bool),
    ∃ s', runs (.dadDone t false dup) s s' ∧ s'.net.linkOk = !dup ∧
      (dup = true → s'.bit 0x8001 0x02 5 = true) ∧ s'.net.globalOk = s.net.globalOk) ∧
  (∀ (s : State) (t p : Nat) (f : Bytes), p < 2 → s.icmpFor f 135 = true → s.ethUp p = true →
    field f (frameBody f + 48) 16 ∈ s.ownAddrs → ip6Src f ≠ 0 →
    ∃ s', runs (.neighborSolicitation t p f) s s' ∧ s'.dict = s.dict ∧
      s'.sentOwn p (.ethFrame p (s.ownHead (field f 6 6) 0x86DD ++
        ip6Packet (field f (frameBody f + 48) 16) (ip6Src f) 58 255
          (icmp (field f (frameBody f + 48) 16) (ip6Src f) 136
            (beBytes 4 0x60000000 ++ beBytes 16 (field f (frameBody f + 48) 16) ++ [2#8, 1#8] ++
              beBytes 6 s.mac))))) ∧
  (∀ (s : State) (t p : Nat) (f : Bytes), p < 2 → s.icmpFor f 128 = true → s.ethUp p = true →
    ip6Dst f ∈ s.ownAddrs →
    ∃ s', runs (.echoRequest t p f) s s' ∧ s'.dict = s.dict ∧
      s'.sentOwn p (.ethFrame p (s.ownHead (field f 6 6) 0x86DD ++
        ip6Packet (ip6Dst f) (ip6Src f) 58 64 (icmp (ip6Dst f) (ip6Src f) 129
          (slice f (frameBody f + 44) (field f (frameBody f + 4) 2 - 4))))))

/-- R353, R354, R356, R357, R359, R360: What a domain slot does with the messages of its master. The
timers of wall time. -/
def Obligations.DomainSlotsAndWallTimers : Prop :=
  (∀ (s : State) (t p i : Nat) (f m : Bytes), p < 2 → s.ptpFor f 0 = some (i, m) →
    s.fromMaster i p m = true → s.classOk i = true → ptpTwoStep m = true →
    ∃ s', runs (.sync t p f) s s' ∧
      (s'.slot i).sync = some (ptpSeq m, s.rxStamp p (max s.now t), ptpCorr m) ∧
      s'.ve 0x8010 i 0x08 = ptpInterval m ∧
      ((s.slotState i = 1 ∨ s.slotState i = 4) → s'.slotState i = 2)) ∧
  (∀ (s : State) (t p i : Nat) (f m : Bytes) (t2 c : Int), p < 2 → s.ptpFor f 8 = some (i, m) →
    s.fromMaster i p m = true → (s.slot i).sync = some (ptpSeq m, t2, c) →
    (s.slot i).started = false →
    ∃ s', runs (.followUp t p f) s s' ∧ (s'.slot i).sync = none ∧ (s'.slot i).started = true ∧
      (s'.slot i).good = 1 ∧ (s'.slot i).lastSync = max s.now t ∧
      (s'.slot i).lastT = some (ptpStamp m 34,
        ptpStamp m 34 + (c + ptpCorr m) + (s.slot i).mpd + s.asym p, c + ptpCorr m)) ∧
  (∀ (s : State) (t p i : Nat) (f m : Bytes) (t3 t1 t2 c : Int), p < 2 →
    s.ptpFor f 9 = some (i, m) → s.fromMaster i p m = true →
    (s.slot i).dreq = some (ptpSeq m, t3) → (s.slot i).lastT = some (t1, t2, c) →
    field m 44 10 = s.ownPort → (s.slot i).started = true →
    ∃ s', runs (.delayResp t p f) s s' ∧ (s'.slot i).exchanges = (s.slot i).exchanges + 1 ∧
      (s'.slot i).dreq = none ∧
      (s'.slot i).delays = ((t2 - t1 - c - s.asym p +
        (ptpStamp m 34 - (s.slot i).timePs t3 - ptpCorr m)) / 2 :: (s.slot i).delays).take 16) ∧
  (∀ (s : State) (t p i : Nat) (f m : Bytes), p < 2 → s.ptpFor f 11 = some (i, m) →
    ∃ s', runs (.announce t p f) s s' ∧
      ∃ x ∈ (s'.slot i).foreign.head?, x.identity = ptpSource m ∧ x.port = p ∧
        x.dataset = announceData m) ∧
  (∀ (s : State) (t i id p : Nat), i < 2 → (s.slot i).selected = some (id, p) →
    ∃ s', runs (.announceTimeout t i) s s' ∧
      (s'.slot i).foreign =
        (s.slot i).foreign.filter (fun y => !(y.identity == id && y.port == p)) ∧
      (s.slotState i ≠ 0 → s'.slotState i = 4)) ∧
  (∀ (s : State) (t i id p : Nat), i < 2 → (s.slot i).selected = some (id, p) →
    s.islandRuns 2 = true → (s.slotState i = 2 ∨ s.slotState i = 3) → s.ethUp p = true →
    ∃ s', runs (.delayReqSend t i) s s' ∧ counted s s' 0x8002 0 0x08 ∧
      (s'.slot i).dreq = some ((s.slot i).dseq, s.txStamp p (max s.now t)) ∧
      (s'.slot i).dseq = ((s.slot i).dseq + 1) % 65536 ∧
      s'.sentOwn p (.ethFrame p (s.ptpFrame (s.delayReq i p (s.slot i).dseq)))) ∧
  (∀ (s : State) (t : Nat), s.v 0x8001 0x01 = 3 → s.tracks 0 = true → s.v 0x8000 0x07 ≠ 0 →
    s.net.slot0.trackSince + s.v 0x8000 0x07 * secCycles ≤ max s.now t →
    ((s.enter t).wall - (s.slot 0).time (max s.now t)).natAbs ≤ 65536 * s.v 0x8000 0x08 →
    ∃ s', runs (.revertTimer t) s s' ∧ s'.v 0x8001 0x01 = 2 ∧ counted s s' 0x8002 0 0x02 ∧
      s'.net.resid = (s.enter t).wall - (s.slot 0).time (max s.now t) ∧ s'.net.stepTo = none) ∧
  (∀ (s : State) (t : Nat), s.v 0x8001 0x01 = 0 → s.v 0x8000 0x09 ≠ 0 → s.tracks 0 = false →
    s.tracks 1 = false → s.clock.t0 + s.v 0x8000 0x09 * secCycles ≤ max s.now t →
    ∃ s', runs (.freeRunTimer t) s s' ∧ s'.v 0x8001 0x01 = 1 ∧ s'.net.wallBase = 0 ∧
      s'.net.wallAt = max s.now t ∧ s'.net.wallRate = 0 ∧ s'.net.resid = 0) ∧
  (∀ (s : State) (t : Nat), s.v 0x8001 0x01 = 4 → s.v 0x8000 0x13 ≠ 0 →
    s.net.holdSince + s.v 0x8000 0x13 * secCycles ≤ max s.now t →
    ∃ s', runs (.holdoverNotice t) s s' ∧ s'.bit 0x8001 0x02 3 = true ∧ s'.net = s.net) ∧
  (∀ (s : State) (t : Nat), (s.v 0x8001 0x01 = 2 ∨ s.v 0x8001 0x01 = 3) →
    s.residualAt (max s.now t) = 0 →
    ∃ s', runs (.slewDone t) s s' ∧ s'.bit 0x8001 0x02 0 = false ∧ s'.net.resid = 0 ∧
      s'.net.residAt = max s.now t)

/-- R368, R370, R373, R375, R389, R367, R376: The timers of health. Each evaluation takes the node
powers and diode codes, and 106 °C shuts the device down once. -/
def Obligations.Health : Prop :=
  (∀ (s : State) (t d : Nat), d < 4 →
    ∃ s', runs (.modelMismatch t d) s s' ∧ counted s s' 0x2802 0 0x05 ∧ s'.bit 0x2801 0x05 3 = true) ∧
  (∀ (s : State) (t : Nat), riseBelow s.health.rise 100 = true →
    ∃ s', runs (.fastThrottleRelease t) s s' ∧ s'.bit 0x2801 0x05 2 = false ∧ s'.health = s.health) ∧
  (∀ (s : State) (t : Nat), s.displayRuns = true → s.v 0x5001 0x05 = 255 →
    ∃ s', runs (.throttleStepTimer t) s s' ∧ s'.dict = s.dict) ∧
  (∀ (s : State) (t : Nat), s.bit 0x2801 0x05 2 = false →
    (s.displayRuns = false ∨ s.v 0x5001 0x05 ≠ 255) →
    ∃ s', runs (.throttleStepTimer t) s s' ∧
      s'.v 0x2801 0x04 = (if s.v 0x2801 0x04 < s.throttleTarget then s.v 0x2801 0x04 + 1
        else if s.throttleTarget < s.v 0x2801 0x04 then s.v 0x2801 0x04 - 1 else s.v 0x2801 0x04) ∧
      s'.ve 0x2010 6 0x03 = nextRatio (s'.v 0x2801 0x04) (s.ve 0x2010 6 0x03)) ∧
  (∀ (s : State) (t : Nat), s.clock.resetN = true →
    ∃ s', runs (.lifeSecond t) s s' ∧ counted s s' 0x2801 0 0x08 ∧
      counted s s' 0x2803 (tempBin s.health.tg) 0x01 ∧
      s'.health.tgSum = s.health.tgSum + s.health.tg) ∧
  (∀ (s : State) (t u : Nat), u < 16 →
    ∃ s', runs (.cvOwnerTimeout t u) s s' ∧ s'.ve 0x2840 u 0x0C = 255 ∧ s'.health = s.health) ∧
  (∀ (s : State) (t : Nat) (powers : List Nat) (diodes : List Int), s.calm = true →
    ∃ s', runs (.thermalEvaluation t powers diodes) s s' ∧ s'.health.nodes.length = 32 ∧
      s'.health.hot = decide (27136 ≤ s'.health.tg) ∧
      ∀ n, n < 24 → s'.ve 0x2811 n 0x01 = powers.getD n 0 % 65536) ∧
  (∀ (s : State) (t : Nat) (powers : List Nat) (diodes : List Int), s.calm = true →
    s.health.hot = false → s.clock.pfailRun = false → s.displayRuns = true →
    ∃ s', runs (.thermalEvaluation t powers diodes) s s' ∧
      (s'.health.hot = true → counted s s' 0x2802 0 0x04 ∧ s'.clock.pfailRun = true ∧
        2 ∈ s'.bridge.blank ∧ s'.displayRuns = false) ∧
      (s'.health.hot = false → s'.ve 0x2802 0 0x04 = s.ve 0x2802 0 0x04))

/-- R379, R381, R385, R386, R436: Probe readings, calibration plucks, and the limit of a
calibration. What the test access port's instruction register holds after each instruction. -/
def Obligations.CalibrationAndTap : Prop :=
  (∀ (s : State) (t : Nat), s.health.cal = none →
    ∃ s', runs (.probePresenceTimer t) s s' ∧
      s'.out = [.probeTrig (max s.now t + 8000) (max s.now t + 20000)] ∧ s'.dict = s.dict) ∧
  (∀ (s : State) (t : Nat) (w : BitVec 32), probeValid w = true →
    ∃ s', runs (.probeReading t w) s s' ∧ s'.v 0x2820 0x05 = w.toNat / 256 ∧ s'.v 0x2820 0x04 = 1 ∧
      s'.health.probeBad = 0) ∧
  (∀ (s : State) (t : Nat) (w : BitVec 32), probeValid w = false →
    ∃ s', runs (.probeReading t w) s s' ∧ s'.health.probeBad = s.health.probeBad + 1 ∧
      s'.v 0x2820 0x05 = s.v 0x2820 0x05 ∧ (15 ≤ s.health.probeBad → s'.v 0x2820 0x04 = 0)) ∧
  (∀ (s : State) (t : Nat) (k : Cal), s.health.cal = some k → k.phase = 2 → k.window = true →
    k.pluck < 16 →
    ∃ s', runs (.calPluck t) s s' ∧ s'.health.cal = some { k with
        pluck := k.pluck + 1, pair := calPair k.pluck } ∧
      .probeTrig (max s.now t + 8000) (max s.now t + 20000) ∈ s'.out ∧
      (k.pluck % 4 = 0 → s'.out.length = 1)) ∧
  (∀ (s : State) (t : Nat) (k : Cal), s.health.cal = some k → k.phase ≠ 0 → k.tile = false →
    ∃ s', runs (.calTimeout t) s s' ∧ s'.health.cal = some { k with ending := true } ∧
      s'.dict = s.dict) ∧
  (∀ (s : State) (t : Nat) (k : Cal), s.health.cal = some k → k.phase ≠ 0 → k.tile = true →
    max s.now t < k.n0 + 22 * secCycles →
    ∃ s', runs (.calTimeout t) s s' ∧ s'.ve 0x2831 k.course 0x01 = 2 ∧ counted s s' 0x2802 0 0x07 ∧
      ∃ c ∈ s'.health.cal, c.phase = 4 ∧ c.failed = k.failed ++ [k.course]) ∧
  (∀ (s : State) (t : Nat),
    (∃ s', runs (.extest t) s s' ∧ s'.tapIr = (if s.clock.resetN then 0xFF#8 else 0x00#8) ∧
      s'.dict = s.dict) ∧
    (∃ s', runs (.samplePreload t) s s' ∧ s'.tapIr = 0x01#8 ∧ s'.dict = s.dict) ∧
    (∃ s', runs (.clamp t) s s' ∧ s'.tapIr = (if s.clock.resetN then 0xFF#8 else 0x02#8) ∧
      s'.dict = s.dict) ∧
    (∃ s', runs (.highz t) s s' ∧ s'.tapIr = (if s.clock.resetN then 0xFF#8 else 0x03#8) ∧
      s'.dict = s.dict) ∧
    (∃ s', runs (.bypass t) s s' ∧ s'.tapIr = 0xFF#8 ∧ s'.dict = s.dict) ∧
    (∃ s', runs (.tapReset t) s s' ∧ s'.tapIr = 0xFF#8 ∧ s'.dict = s.dict))
end

