-- ==== Sys2Proof/Laws/State.lean ====
section
/-!
SUPPORT. The fields of the state after each named update, one lemma for each field.
-/

namespace Sys2Proof.Machine

/-! ### enter -/

@[simp] theorem State.enter_pending (s : State) (t : Nat) : (s.enter t).pending = s.pending := rfl
@[simp] theorem State.enter_now (s : State) (t : Nat) : (s.enter t).now = max s.now t := rfl
@[simp] theorem State.enter_freeIdx (s : State) (t : Nat) : (s.enter t).freeIdx = s.freeIdx := rfl
@[simp] theorem State.enter_out (s : State) (t : Nat) : (s.enter t).out = [] := rfl
@[simp] theorem State.enter_dict (s : State) (t : Nat) : (s.enter t).dict = s.dict := rfl
@[simp] theorem State.enter_blobs (s : State) (t : Nat) : (s.enter t).blobs = s.blobs := rfl
@[simp] theorem State.enter_ingress (s : State) (t : Nat) : (s.enter t).ingress = s.ingress := rfl
@[simp] theorem State.enter_codec (s : State) (t : Nat) : (s.enter t).codec = s.codec := rfl
@[simp] theorem State.enter_comp (s : State) (t : Nat) : (s.enter t).comp = s.comp := rfl
@[simp] theorem State.enter_ray (s : State) (t : Nat) : (s.enter t).ray = s.ray := rfl
@[simp] theorem State.enter_seq (s : State) (t : Nat) : (s.enter t).seq = s.seq := rfl
@[simp] theorem State.enter_panel (s : State) (t : Nat) : (s.enter t).panel = s.panel := rfl
@[simp] theorem State.enter_bridge (s : State) (t : Nat) : (s.enter t).bridge = s.bridge := rfl
@[simp] theorem State.enter_loop (s : State) (t : Nat) : (s.enter t).loop = s.loop := rfl
@[simp] theorem State.enter_lanes (s : State) (t : Nat) : (s.enter t).lanes = s.lanes := rfl
@[simp] theorem State.enter_memory (s : State) (t : Nat) : (s.enter t).memory = s.memory := rfl
@[simp] theorem State.enter_clock (s : State) (t : Nat) : (s.enter t).clock = s.clock := rfl
@[simp] theorem State.enter_mgmt (s : State) (t : Nat) : (s.enter t).mgmt = s.mgmt := rfl
@[simp] theorem State.enter_net (s : State) (t : Nat) : (s.enter t).net = s.net := rfl
@[simp] theorem State.enter_health (s : State) (t : Nat) : (s.enter t).health = s.health := rfl
@[simp] theorem State.enter_logs (s : State) (t : Nat) : (s.enter t).logs = s.logs := rfl
@[simp] theorem State.enter_tapIr (s : State) (t : Nat) : (s.enter t).tapIr = s.tapIr := rfl

/-! ### emit -/

@[simp] theorem State.emit_pending (s : State) (x : Output) : (s.emit x).pending = s.pending := rfl
@[simp] theorem State.emit_now (s : State) (x : Output) : (s.emit x).now = s.now := rfl
@[simp] theorem State.emit_freeIdx (s : State) (x : Output) : (s.emit x).freeIdx = s.freeIdx := rfl
@[simp] theorem State.emit_out (s : State) (x : Output) : (s.emit x).out = s.out ++ [x] := rfl
@[simp] theorem State.emit_dict (s : State) (x : Output) : (s.emit x).dict = s.dict := rfl
@[simp] theorem State.emit_blobs (s : State) (x : Output) : (s.emit x).blobs = s.blobs := rfl
@[simp] theorem State.emit_ingress (s : State) (x : Output) : (s.emit x).ingress = s.ingress := rfl
@[simp] theorem State.emit_codec (s : State) (x : Output) : (s.emit x).codec = s.codec := rfl
@[simp] theorem State.emit_comp (s : State) (x : Output) : (s.emit x).comp = s.comp := rfl
@[simp] theorem State.emit_ray (s : State) (x : Output) : (s.emit x).ray = s.ray := rfl
@[simp] theorem State.emit_seq (s : State) (x : Output) : (s.emit x).seq = s.seq := rfl
@[simp] theorem State.emit_panel (s : State) (x : Output) : (s.emit x).panel = s.panel := rfl
@[simp] theorem State.emit_bridge (s : State) (x : Output) : (s.emit x).bridge = s.bridge := rfl
@[simp] theorem State.emit_loop (s : State) (x : Output) : (s.emit x).loop = s.loop := rfl
@[simp] theorem State.emit_lanes (s : State) (x : Output) : (s.emit x).lanes = s.lanes := rfl
@[simp] theorem State.emit_memory (s : State) (x : Output) : (s.emit x).memory = s.memory := rfl
@[simp] theorem State.emit_clock (s : State) (x : Output) : (s.emit x).clock = s.clock := rfl
@[simp] theorem State.emit_mgmt (s : State) (x : Output) : (s.emit x).mgmt = s.mgmt := rfl
@[simp] theorem State.emit_net (s : State) (x : Output) : (s.emit x).net = s.net := rfl
@[simp] theorem State.emit_health (s : State) (x : Output) : (s.emit x).health = s.health := rfl
@[simp] theorem State.emit_logs (s : State) (x : Output) : (s.emit x).logs = s.logs := rfl
@[simp] theorem State.emit_tapIr (s : State) (x : Output) : (s.emit x).tapIr = s.tapIr := rfl

/-! ### emits -/

@[simp] theorem State.emits_pending (s : State) (x : List Output) : (s.emits x).pending = s.pending := rfl
@[simp] theorem State.emits_now (s : State) (x : List Output) : (s.emits x).now = s.now := rfl
@[simp] theorem State.emits_freeIdx (s : State) (x : List Output) : (s.emits x).freeIdx = s.freeIdx := rfl
@[simp] theorem State.emits_out (s : State) (x : List Output) : (s.emits x).out = s.out ++ x := rfl
@[simp] theorem State.emits_dict (s : State) (x : List Output) : (s.emits x).dict = s.dict := rfl
@[simp] theorem State.emits_blobs (s : State) (x : List Output) : (s.emits x).blobs = s.blobs := rfl
@[simp] theorem State.emits_ingress (s : State) (x : List Output) : (s.emits x).ingress = s.ingress := rfl
@[simp] theorem State.emits_codec (s : State) (x : List Output) : (s.emits x).codec = s.codec := rfl
@[simp] theorem State.emits_comp (s : State) (x : List Output) : (s.emits x).comp = s.comp := rfl
@[simp] theorem State.emits_ray (s : State) (x : List Output) : (s.emits x).ray = s.ray := rfl
@[simp] theorem State.emits_seq (s : State) (x : List Output) : (s.emits x).seq = s.seq := rfl
@[simp] theorem State.emits_panel (s : State) (x : List Output) : (s.emits x).panel = s.panel := rfl
@[simp] theorem State.emits_bridge (s : State) (x : List Output) : (s.emits x).bridge = s.bridge := rfl
@[simp] theorem State.emits_loop (s : State) (x : List Output) : (s.emits x).loop = s.loop := rfl
@[simp] theorem State.emits_lanes (s : State) (x : List Output) : (s.emits x).lanes = s.lanes := rfl
@[simp] theorem State.emits_memory (s : State) (x : List Output) : (s.emits x).memory = s.memory := rfl
@[simp] theorem State.emits_clock (s : State) (x : List Output) : (s.emits x).clock = s.clock := rfl
@[simp] theorem State.emits_mgmt (s : State) (x : List Output) : (s.emits x).mgmt = s.mgmt := rfl
@[simp] theorem State.emits_net (s : State) (x : List Output) : (s.emits x).net = s.net := rfl
@[simp] theorem State.emits_health (s : State) (x : List Output) : (s.emits x).health = s.health := rfl
@[simp] theorem State.emits_logs (s : State) (x : List Output) : (s.emits x).logs = s.logs := rfl
@[simp] theorem State.emits_tapIr (s : State) (x : List Output) : (s.emits x).tapIr = s.tapIr := rfl

/-! ### pute -/

@[simp] theorem State.pute_pending (s : State) (o e m v : Nat) : (s.pute o e m v).pending = s.pending := rfl
@[simp] theorem State.pute_now (s : State) (o e m v : Nat) : (s.pute o e m v).now = s.now := rfl
@[simp] theorem State.pute_freeIdx (s : State) (o e m v : Nat) : (s.pute o e m v).freeIdx = s.freeIdx := rfl
@[simp] theorem State.pute_out (s : State) (o e m v : Nat) : (s.pute o e m v).out = s.out := rfl
@[simp] theorem State.pute_dict (s : State) (o e m v : Nat) : (s.pute o e m v).dict = tset (dfltAt (mkey o e m)) (mkey o e m) v s.dict := rfl
@[simp] theorem State.pute_blobs (s : State) (o e m v : Nat) : (s.pute o e m v).blobs = s.blobs := rfl
@[simp] theorem State.pute_ingress (s : State) (o e m v : Nat) : (s.pute o e m v).ingress = s.ingress := rfl
@[simp] theorem State.pute_codec (s : State) (o e m v : Nat) : (s.pute o e m v).codec = s.codec := rfl
@[simp] theorem State.pute_comp (s : State) (o e m v : Nat) : (s.pute o e m v).comp = s.comp := rfl
@[simp] theorem State.pute_ray (s : State) (o e m v : Nat) : (s.pute o e m v).ray = s.ray := rfl
@[simp] theorem State.pute_seq (s : State) (o e m v : Nat) : (s.pute o e m v).seq = s.seq := rfl
@[simp] theorem State.pute_panel (s : State) (o e m v : Nat) : (s.pute o e m v).panel = s.panel := rfl
@[simp] theorem State.pute_bridge (s : State) (o e m v : Nat) : (s.pute o e m v).bridge = s.bridge := rfl
@[simp] theorem State.pute_loop (s : State) (o e m v : Nat) : (s.pute o e m v).loop = s.loop := rfl
@[simp] theorem State.pute_lanes (s : State) (o e m v : Nat) : (s.pute o e m v).lanes = s.lanes := rfl
@[simp] theorem State.pute_memory (s : State) (o e m v : Nat) : (s.pute o e m v).memory = s.memory := rfl
@[simp] theorem State.pute_clock (s : State) (o e m v : Nat) : (s.pute o e m v).clock = s.clock := rfl
@[simp] theorem State.pute_mgmt (s : State) (o e m v : Nat) : (s.pute o e m v).mgmt = s.mgmt := rfl
@[simp] theorem State.pute_net (s : State) (o e m v : Nat) : (s.pute o e m v).net = s.net := rfl
@[simp] theorem State.pute_health (s : State) (o e m v : Nat) : (s.pute o e m v).health = s.health := rfl
@[simp] theorem State.pute_logs (s : State) (o e m v : Nat) : (s.pute o e m v).logs = s.logs := rfl
@[simp] theorem State.pute_tapIr (s : State) (o e m v : Nat) : (s.pute o e m v).tapIr = s.tapIr := rfl

/-! ### put -/

@[simp] theorem State.put_pending (s : State) (o m v : Nat) : (s.put o m v).pending = s.pending := rfl
@[simp] theorem State.put_now (s : State) (o m v : Nat) : (s.put o m v).now = s.now := rfl
@[simp] theorem State.put_freeIdx (s : State) (o m v : Nat) : (s.put o m v).freeIdx = s.freeIdx := rfl
@[simp] theorem State.put_out (s : State) (o m v : Nat) : (s.put o m v).out = s.out := rfl
@[simp] theorem State.put_dict (s : State) (o m v : Nat) : (s.put o m v).dict = tset (dfltAt (mkey o 0 m)) (mkey o 0 m) v s.dict := rfl
@[simp] theorem State.put_blobs (s : State) (o m v : Nat) : (s.put o m v).blobs = s.blobs := rfl
@[simp] theorem State.put_ingress (s : State) (o m v : Nat) : (s.put o m v).ingress = s.ingress := rfl
@[simp] theorem State.put_codec (s : State) (o m v : Nat) : (s.put o m v).codec = s.codec := rfl
@[simp] theorem State.put_comp (s : State) (o m v : Nat) : (s.put o m v).comp = s.comp := rfl
@[simp] theorem State.put_ray (s : State) (o m v : Nat) : (s.put o m v).ray = s.ray := rfl
@[simp] theorem State.put_seq (s : State) (o m v : Nat) : (s.put o m v).seq = s.seq := rfl
@[simp] theorem State.put_panel (s : State) (o m v : Nat) : (s.put o m v).panel = s.panel := rfl
@[simp] theorem State.put_bridge (s : State) (o m v : Nat) : (s.put o m v).bridge = s.bridge := rfl
@[simp] theorem State.put_loop (s : State) (o m v : Nat) : (s.put o m v).loop = s.loop := rfl
@[simp] theorem State.put_lanes (s : State) (o m v : Nat) : (s.put o m v).lanes = s.lanes := rfl
@[simp] theorem State.put_memory (s : State) (o m v : Nat) : (s.put o m v).memory = s.memory := rfl
@[simp] theorem State.put_clock (s : State) (o m v : Nat) : (s.put o m v).clock = s.clock := rfl
@[simp] theorem State.put_mgmt (s : State) (o m v : Nat) : (s.put o m v).mgmt = s.mgmt := rfl
@[simp] theorem State.put_net (s : State) (o m v : Nat) : (s.put o m v).net = s.net := rfl
@[simp] theorem State.put_health (s : State) (o m v : Nat) : (s.put o m v).health = s.health := rfl
@[simp] theorem State.put_logs (s : State) (o m v : Nat) : (s.put o m v).logs = s.logs := rfl
@[simp] theorem State.put_tapIr (s : State) (o m v : Nat) : (s.put o m v).tapIr = s.tapIr := rfl

/-! ### putBit -/

@[simp] theorem State.putBit_pending (s : State) (o m k : Nat) (b : Bool) : (s.putBit o m k b).pending = s.pending := rfl
@[simp] theorem State.putBit_now (s : State) (o m k : Nat) (b : Bool) : (s.putBit o m k b).now = s.now := rfl
@[simp] theorem State.putBit_freeIdx (s : State) (o m k : Nat) (b : Bool) : (s.putBit o m k b).freeIdx = s.freeIdx := rfl
@[simp] theorem State.putBit_out (s : State) (o m k : Nat) (b : Bool) : (s.putBit o m k b).out = s.out := rfl
@[simp] theorem State.putBit_blobs (s : State) (o m k : Nat) (b : Bool) : (s.putBit o m k b).blobs = s.blobs := rfl
@[simp] theorem State.putBit_ingress (s : State) (o m k : Nat) (b : Bool) : (s.putBit o m k b).ingress = s.ingress := rfl
@[simp] theorem State.putBit_codec (s : State) (o m k : Nat) (b : Bool) : (s.putBit o m k b).codec = s.codec := rfl
@[simp] theorem State.putBit_comp (s : State) (o m k : Nat) (b : Bool) : (s.putBit o m k b).comp = s.comp := rfl
@[simp] theorem State.putBit_ray (s : State) (o m k : Nat) (b : Bool) : (s.putBit o m k b).ray = s.ray := rfl
@[simp] theorem State.putBit_seq (s : State) (o m k : Nat) (b : Bool) : (s.putBit o m k b).seq = s.seq := rfl
@[simp] theorem State.putBit_panel (s : State) (o m k : Nat) (b : Bool) : (s.putBit o m k b).panel = s.panel := rfl
@[simp] theorem State.putBit_bridge (s : State) (o m k : Nat) (b : Bool) : (s.putBit o m k b).bridge = s.bridge := rfl
@[simp] theorem State.putBit_loop (s : State) (o m k : Nat) (b : Bool) : (s.putBit o m k b).loop = s.loop := rfl
@[simp] theorem State.putBit_lanes (s : State) (o m k : Nat) (b : Bool) : (s.putBit o m k b).lanes = s.lanes := rfl
@[simp] theorem State.putBit_memory (s : State) (o m k : Nat) (b : Bool) : (s.putBit o m k b).memory = s.memory := rfl
@[simp] theorem State.putBit_clock (s : State) (o m k : Nat) (b : Bool) : (s.putBit o m k b).clock = s.clock := rfl
@[simp] theorem State.putBit_mgmt (s : State) (o m k : Nat) (b : Bool) : (s.putBit o m k b).mgmt = s.mgmt := rfl
@[simp] theorem State.putBit_net (s : State) (o m k : Nat) (b : Bool) : (s.putBit o m k b).net = s.net := rfl
@[simp] theorem State.putBit_health (s : State) (o m k : Nat) (b : Bool) : (s.putBit o m k b).health = s.health := rfl
@[simp] theorem State.putBit_logs (s : State) (o m k : Nat) (b : Bool) : (s.putBit o m k b).logs = s.logs := rfl
@[simp] theorem State.putBit_tapIr (s : State) (o m k : Nat) (b : Bool) : (s.putBit o m k b).tapIr = s.tapIr := rfl

/-! ### putBlob -/

@[simp] theorem State.putBlob_pending (s : State) (o e m : Nat) (b : Bytes) : (s.putBlob o e m b).pending = s.pending := rfl
@[simp] theorem State.putBlob_now (s : State) (o e m : Nat) (b : Bytes) : (s.putBlob o e m b).now = s.now := rfl
@[simp] theorem State.putBlob_freeIdx (s : State) (o e m : Nat) (b : Bytes) : (s.putBlob o e m b).freeIdx = s.freeIdx := rfl
@[simp] theorem State.putBlob_out (s : State) (o e m : Nat) (b : Bytes) : (s.putBlob o e m b).out = s.out := rfl
@[simp] theorem State.putBlob_dict (s : State) (o e m : Nat) (b : Bytes) : (s.putBlob o e m b).dict = s.dict := rfl
@[simp] theorem State.putBlob_blobs (s : State) (o e m : Nat) (b : Bytes) : (s.putBlob o e m b).blobs = tset [] (mkey o e m) b s.blobs := rfl
@[simp] theorem State.putBlob_ingress (s : State) (o e m : Nat) (b : Bytes) : (s.putBlob o e m b).ingress = s.ingress := rfl
@[simp] theorem State.putBlob_codec (s : State) (o e m : Nat) (b : Bytes) : (s.putBlob o e m b).codec = s.codec := rfl
@[simp] theorem State.putBlob_comp (s : State) (o e m : Nat) (b : Bytes) : (s.putBlob o e m b).comp = s.comp := rfl
@[simp] theorem State.putBlob_ray (s : State) (o e m : Nat) (b : Bytes) : (s.putBlob o e m b).ray = s.ray := rfl
@[simp] theorem State.putBlob_seq (s : State) (o e m : Nat) (b : Bytes) : (s.putBlob o e m b).seq = s.seq := rfl
@[simp] theorem State.putBlob_panel (s : State) (o e m : Nat) (b : Bytes) : (s.putBlob o e m b).panel = s.panel := rfl
@[simp] theorem State.putBlob_bridge (s : State) (o e m : Nat) (b : Bytes) : (s.putBlob o e m b).bridge = s.bridge := rfl
@[simp] theorem State.putBlob_loop (s : State) (o e m : Nat) (b : Bytes) : (s.putBlob o e m b).loop = s.loop := rfl
@[simp] theorem State.putBlob_lanes (s : State) (o e m : Nat) (b : Bytes) : (s.putBlob o e m b).lanes = s.lanes := rfl
@[simp] theorem State.putBlob_memory (s : State) (o e m : Nat) (b : Bytes) : (s.putBlob o e m b).memory = s.memory := rfl
@[simp] theorem State.putBlob_clock (s : State) (o e m : Nat) (b : Bytes) : (s.putBlob o e m b).clock = s.clock := rfl
@[simp] theorem State.putBlob_mgmt (s : State) (o e m : Nat) (b : Bytes) : (s.putBlob o e m b).mgmt = s.mgmt := rfl
@[simp] theorem State.putBlob_net (s : State) (o e m : Nat) (b : Bytes) : (s.putBlob o e m b).net = s.net := rfl
@[simp] theorem State.putBlob_health (s : State) (o e m : Nat) (b : Bytes) : (s.putBlob o e m b).health = s.health := rfl
@[simp] theorem State.putBlob_logs (s : State) (o e m : Nat) (b : Bytes) : (s.putBlob o e m b).logs = s.logs := rfl
@[simp] theorem State.putBlob_tapIr (s : State) (o e m : Nat) (b : Bytes) : (s.putBlob o e m b).tapIr = s.tapIr := rfl

/-! ### draw -/

@[simp] theorem State.draw_pending (s : State) (n : Nat) : (s.draw n).2.pending = s.pending := rfl
@[simp] theorem State.draw_now (s : State) (n : Nat) : (s.draw n).2.now = s.now := rfl
@[simp] theorem State.draw_freeIdx (s : State) (n : Nat) : (s.draw n).2.freeIdx = s.freeIdx + 1 := rfl
@[simp] theorem State.draw_out (s : State) (n : Nat) : (s.draw n).2.out = s.out := rfl
@[simp] theorem State.draw_dict (s : State) (n : Nat) : (s.draw n).2.dict = s.dict := rfl
@[simp] theorem State.draw_blobs (s : State) (n : Nat) : (s.draw n).2.blobs = s.blobs := rfl
@[simp] theorem State.draw_ingress (s : State) (n : Nat) : (s.draw n).2.ingress = s.ingress := rfl
@[simp] theorem State.draw_codec (s : State) (n : Nat) : (s.draw n).2.codec = s.codec := rfl
@[simp] theorem State.draw_comp (s : State) (n : Nat) : (s.draw n).2.comp = s.comp := rfl
@[simp] theorem State.draw_ray (s : State) (n : Nat) : (s.draw n).2.ray = s.ray := rfl
@[simp] theorem State.draw_seq (s : State) (n : Nat) : (s.draw n).2.seq = s.seq := rfl
@[simp] theorem State.draw_panel (s : State) (n : Nat) : (s.draw n).2.panel = s.panel := rfl
@[simp] theorem State.draw_bridge (s : State) (n : Nat) : (s.draw n).2.bridge = s.bridge := rfl
@[simp] theorem State.draw_loop (s : State) (n : Nat) : (s.draw n).2.loop = s.loop := rfl
@[simp] theorem State.draw_lanes (s : State) (n : Nat) : (s.draw n).2.lanes = s.lanes := rfl
@[simp] theorem State.draw_memory (s : State) (n : Nat) : (s.draw n).2.memory = s.memory := rfl
@[simp] theorem State.draw_clock (s : State) (n : Nat) : (s.draw n).2.clock = s.clock := rfl
@[simp] theorem State.draw_mgmt (s : State) (n : Nat) : (s.draw n).2.mgmt = s.mgmt := rfl
@[simp] theorem State.draw_net (s : State) (n : Nat) : (s.draw n).2.net = s.net := rfl
@[simp] theorem State.draw_health (s : State) (n : Nat) : (s.draw n).2.health = s.health := rfl
@[simp] theorem State.draw_logs (s : State) (n : Nat) : (s.draw n).2.logs = s.logs := rfl
@[simp] theorem State.draw_tapIr (s : State) (n : Nat) : (s.draw n).2.tapIr = s.tapIr := rfl

end Sys2Proof.Machine
end

