-- ==== Sys2Proof/Laws/Ops.lean ====
section
/-!
SUPPORT. The shared operations say once what they do: sparse tables, byte memories, members, counters,
outputs and free values.
-/

namespace Sys2Proof.Machine

/-! ### Sparse tables -/

@[simp] theorem tget?_nil {α : Type} (k : Nat) : tget? k ([] : Tbl α) = none := rfl

@[simp] theorem tget?_tput_self {α : Type} (k : Nat) (v : α) (l : Tbl α) :
    tget? k (tput k v l) = some v := by
  induction l with
  | nil => simp [tput, tget?]
  | cons e r ih =>
    obtain ⟨k', v'⟩ := e
    simp only [tput]
    split
    · simp [tget?]
    · split
      · simp [tget?]
      · simp [tget?, *]

theorem tget?_tput_ne {α : Type} {j k : Nat} (h : j ≠ k) (v : α) (l : Tbl α) :
    tget? j (tput k v l) = tget? j l := by
  induction l with
  | nil => simp [tput, tget?, h]
  | cons e r ih =>
    obtain ⟨k', v'⟩ := e
    simp only [tput]
    split
    · simp [tget?, h]
    · split
      · rename_i h1; subst h1; simp [tget?, h]
      · simp [tget?, ih]

@[simp] theorem tget?_tdel_self {α : Type} (k : Nat) (l : Tbl α) : tget? k (tdel k l) = none := by
  induction l with
  | nil => rfl
  | cons e r ih =>
    obtain ⟨k', v'⟩ := e
    simp only [tdel, List.filter_cons, bne_iff_ne, ne_eq, ite_not] at *
    split
    · exact ih
    · rename_i h; simp only [tget?]; split
      · rename_i h1; exact absurd h1.symm h
      · exact ih

theorem tget?_tdel_ne {α : Type} {j k : Nat} (h : j ≠ k) (l : Tbl α) :
    tget? j (tdel k l) = tget? j l := by
  induction l with
  | nil => rfl
  | cons e r ih =>
    obtain ⟨k', v'⟩ := e
    simp only [tdel, List.filter_cons, bne_iff_ne, ne_eq, ite_not] at *
    split
    · rename_i h1; subst h1; simp [tget?, h, ih]
    · simp [tget?, ih]

@[simp] theorem tget?_tset_self {α : Type} [DecidableEq α] (d : α) (k : Nat) (v : α) (l : Tbl α) :
    (tget? k (tset d k v l)).getD d = v := by
  unfold tset; split
  · rename_i h; simp [h]
  · simp

theorem tget?_tset_ne {α : Type} [DecidableEq α] (d : α) {j k : Nat} (h : j ≠ k) (v : α) (l : Tbl α) :
    tget? j (tset d k v l) = tget? j l := by
  unfold tset; split
  · exact tget?_tdel_ne h l
  · exact tget?_tput_ne h v l

@[simp] theorem tget_tput_self {α : Type} (d : α) (k : Nat) (v : α) (l : Tbl α) :
    tget d k (tput k v l) = v := by simp [tget]

theorem tget_tput_ne {α : Type} (d : α) {j k : Nat} (h : j ≠ k) (v : α) (l : Tbl α) :
    tget d j (tput k v l) = tget d j l := by simp [tget, tget?_tput_ne h]

/-! ### Canonical form -/

/-- Every key of the table is above `a`. -/
def Above {α : Type} (a : Nat) (l : Tbl α) : Prop := ∀ e ∈ l, a < e.1

theorem keysRise_cons {α : Type} (a : Nat) (v : α) (l : Tbl α) :
    keysRise ((a, v) :: l) = true ↔ Above a l ∧ keysRise l = true := by
  induction l generalizing a v with
  | nil => simp [keysRise, Above]
  | cons e r ih =>
    obtain ⟨b, w⟩ := e
    simp only [keysRise, Bool.and_eq_true, decide_eq_true_eq, ih b w, Above, List.mem_cons,
      forall_eq_or_imp]
    constructor
    · rintro ⟨h1, h2, h3⟩; exact ⟨⟨h1, fun e he => lt_trans h1 (h2 e he)⟩, h2, h3⟩
    · rintro ⟨⟨h1, _⟩, h2, h3⟩; exact ⟨h1, h2, h3⟩

theorem above_tput {α : Type} {a k : Nat} {v : α} {l : Tbl α} (h : Above a l) (hk : a < k) :
    Above a (tput k v l) := by
  induction l with
  | nil => simp [tput, Above, hk]
  | cons e r ih =>
    obtain ⟨b, w⟩ := e
    have hr : Above a r := fun e he => h e (List.mem_cons_of_mem _ he)
    have hb : a < b := h (b, w) List.mem_cons_self
    simp only [tput]
    split
    · intro e he; rcases List.mem_cons.1 he with rfl | he
      · exact hk
      · exact h e he
    · split
      · intro e he; rcases List.mem_cons.1 he with rfl | he
        · exact hk
        · exact hr e he
      · intro e he; rcases List.mem_cons.1 he with rfl | he
        · exact hb
        · exact ih hr e he

theorem keysRise_tput {α : Type} (k : Nat) (v : α) {l : Tbl α} (h : keysRise l = true) :
    keysRise (tput k v l) = true := by
  induction l with
  | nil => rfl
  | cons e r ih =>
    obtain ⟨b, w⟩ := e
    obtain ⟨h1, h2⟩ := (keysRise_cons b w r).1 h
    simp only [tput]
    split
    · rename_i hk
      refine (keysRise_cons _ _ _).2 ⟨?_, h⟩
      intro e he; rcases List.mem_cons.1 he with rfl | he
      · exact hk
      · exact lt_trans hk (h1 e he)
    · split
      · rename_i hk; subst hk; exact (keysRise_cons _ _ _).2 ⟨h1, h2⟩
      · rename_i hk hk'; exact (keysRise_cons _ _ _).2 ⟨above_tput h1 (by omega), ih h2⟩

theorem keysRise_filter {α : Type} (p : Nat × α → Bool) {l : Tbl α} (h : keysRise l = true) :
    keysRise (l.filter p) = true := by
  induction l with
  | nil => rfl
  | cons e r ih =>
    obtain ⟨b, w⟩ := e
    obtain ⟨h1, h2⟩ := (keysRise_cons b w r).1 h
    rw [List.filter_cons]
    split
    · exact (keysRise_cons _ _ _).2 ⟨fun e he => h1 e (List.mem_filter.1 he).1, ih h2⟩
    · exact ih h2

theorem keysRise_tset {α : Type} [DecidableEq α] (d : α) (k : Nat) (v : α) {l : Tbl α}
    (h : keysRise l = true) : keysRise (tset d k v l) = true := by
  unfold tset; split
  · exact keysRise_filter _ h
  · exact keysRise_tput k v h

theorem tget?_filter {α : Type} {p : Nat × α → Bool} {k : Nat} (hp : ∀ v, p (k, v) = true) (l : Tbl α) :
    tget? k (l.filter p) = tget? k l := by
  induction l with
  | nil => rfl
  | cons e r ih =>
    obtain ⟨b, w⟩ := e
    rw [List.filter_cons]
    by_cases hk : k = b
    · subst hk; simp [hp, tget?]
    · split <;> simp [tget?, hk, ih]

theorem mem_tput {α : Type} {k : Nat} {v : α} {l : Tbl α} {e : Nat × α} (h : e ∈ tput k v l) :
    e = (k, v) ∨ e ∈ l := by
  induction l with
  | nil => simpa [tput] using h
  | cons x r ih =>
    obtain ⟨b, w⟩ := x
    simp only [tput] at h
    split at h
    · exact List.mem_cons.1 h
    · split at h
      · rcases List.mem_cons.1 h with h | h
        · exact .inl h
        · exact .inr (List.mem_cons_of_mem _ h)
      · rcases List.mem_cons.1 h with h | h
        · exact .inr (h ▸ List.mem_cons_self)
        · exact (ih h).imp id (List.mem_cons_of_mem _)

theorem mem_tset {α : Type} [DecidableEq α] {d : α} {k : Nat} {v : α} {l : Tbl α} {e : Nat × α}
    (h : e ∈ tset d k v l) : (e = (k, v) ∧ v ≠ d) ∨ e ∈ l := by
  unfold tset at h; split at h
  · exact .inr (List.mem_filter.1 h).1
  · rename_i hv; exact (mem_tput h).imp (fun h => ⟨h, hv⟩) id

/-! ### Byte memories -/

@[simp] theorem mread_mwrite_self (m : List Host.Cell) (a : Nat) (b : Byte) :
    mread (mwrite m a b) a = b := by simp [mread, mwrite, tget]

theorem mread_mwrite_ne {a c : Nat} (h : c ≠ a) (m : List Host.Cell) (b : Byte) :
    mread (mwrite m a b) c = mread m c := by simp [mread, mwrite, tget, tget?_tset_ne _ h]

/-- Bytes outside those written stand. -/
theorem mread_mwrites_out (bs : Bytes) (m : List Host.Cell) {a c : Nat}
    (h : c < a ∨ a + bs.length ≤ c) : mread (mwrites m a bs) c = mread m c := by
  induction bs generalizing m a with
  | nil => rfl
  | cons b r ih =>
    simp only [mwrites, List.length_cons] at *
    rw [ih _ (by omega), mread_mwrite_ne (by omega)]

/-- Each byte written reads back. -/
theorem mread_mwrites_in (bs : Bytes) (m : List Host.Cell) (a i : Nat) (h : i < bs.length) :
    mread (mwrites m a bs) (a + i) = bs[i] := by
  induction bs generalizing m a i with
  | nil => simp at h
  | cons b r ih =>
    simp only [mwrites]
    cases i with
    | zero => rw [Nat.add_zero, mread_mwrites_out _ _ (by omega)]; simp
    | succ i =>
      have : a + (i + 1) = (a + 1) + i := by omega
      rw [this, ih _ _ i (by simpa using h)]; simp

theorem Memory.wf_mwrite {m : List Host.Cell} (h : Memory.wf m = true) (a : Nat) (b : Byte) :
    Memory.wf (mwrite m a b) = true := by
  simp only [Memory.wf, Bool.and_eq_true, List.all_eq_true] at *
  refine ⟨keysRise_tset _ _ _ h.1, fun e he => ?_⟩
  rcases mem_tset he with ⟨rfl, hb⟩ | he
  · simpa using hb
  · exact h.2 e he

/-- Every write keeps the canonical form. -/
theorem Memory.wf_mwrites {m : List Host.Cell} (h : Memory.wf m = true) (a : Nat) (bs : Bytes) :
    Memory.wf (mwrites m a bs) = true := by
  induction bs generalizing m a with
  | nil => exact h
  | cons b r ih => exact ih (Memory.wf_mwrite h a b) (a + 1)

/-- Dropping bytes keeps the canonical form. -/
theorem Memory.wf_filter {m : List Host.Cell} (h : Memory.wf m = true) (p : Host.Cell → Bool) :
    Memory.wf (m.filter p) = true := by
  simp only [Memory.wf, Bool.and_eq_true, List.all_eq_true] at *
  exact ⟨keysRise_filter _ h.1, fun e he => h.2 e (List.mem_filter.1 he).1⟩

@[simp] theorem Memory.wf_nil : Memory.wf [] = true := rfl

/-! ### Members -/

theorem keyObject_mkey (o e m : Nat) : keyObject (mkey o e m) = o % 65536 := by
  unfold keyObject mkey; omega

theorem keyMember_mkey (o e m : Nat) : keyMember (mkey o e m) = m % 256 := by
  unfold keyMember mkey; omega

theorem mkey_inj {o e m o' e' m' : Nat} (ho : o < 65536) (ho' : o' < 65536) (he : e < 65536) (hm : m < 256) (he' : e' < 65536)
    (hm' : m' < 256) (h : mkey o e m = mkey o' e' m') : o = o' ∧ e = e' ∧ m = m' := by
  unfold mkey at h; omega

@[simp] theorem ve_pute_self (s : State) (o e m v : Nat) : (s.pute o e m v).ve o e m = v := by
  simp [State.ve, State.pute]

theorem ve_pute_ne {o e m o' e' m' : Nat} (h : mkey o e m ≠ mkey o' e' m') (s : State) (v : Nat) :
    (s.pute o' e' m' v).ve o e m = s.ve o e m := by
  simp [State.ve, State.pute, tget?_tset_ne _ h]

@[simp] theorem v_put_self (s : State) (o m v : Nat) : (s.put o m v).v o m = v :=
  ve_pute_self s o 0 m v

@[simp] theorem ve_emit (s : State) (x : Output) (o e m : Nat) : (s.emit x).ve o e m = s.ve o e m := rfl
@[simp] theorem ve_emits (s : State) (x : List Output) (o e m : Nat) :
    (s.emits x).ve o e m = s.ve o e m := rfl
@[simp] theorem ve_enter (s : State) (t o e m : Nat) : (s.enter t).ve o e m = s.ve o e m := rfl
@[simp] theorem ve_putBlob (s : State) (o e m o' e' m' : Nat) (b : Bytes) :
    (s.putBlob o' e' m' b).ve o e m = s.ve o e m := rfl

@[simp] theorem blob_putBlob_self (s : State) (o e m : Nat) (b : Bytes) :
    (s.putBlob o e m b).blob o e m = b := by simp [State.blob, State.putBlob, tget]

/-- A counter that has room counts. -/
theorem adde_room {s : State} {o e m n : Nat} (h : s.ve o e m + n < 2 ^ memberWidth o m) :
    s.adde o e m n = s.pute o e m (s.ve o e m + n) := by simp [State.adde, h]

theorem inc_room {s : State} {o m : Nat} (h : s.v o m + 1 < 2 ^ memberWidth o m) :
    s.inc o m = s.put o m (s.v o m + 1) := adde_room h

theorem ince_room {s : State} {o e m : Nat} (h : s.ve o e m + 1 < 2 ^ memberWidth o m) :
    s.ince o e m = s.pute o e m (s.ve o e m + 1) := adde_room h

/-- Whatever a counter shows, it changes itself and the number of free values alone. -/
theorem adde_cases (s : State) (o e m n : Nat) :
    ∃ v k, s.adde o e m n = ({ s with freeIdx := k }).pute o e m v := by
  simp only [State.adde]
  split
  · exact ⟨_, s.freeIdx, rfl⟩
  · exact ⟨_, s.freeIdx + 1, rfl⟩

/-! ### Free values -/

theorem draw_lt (s : State) {n : Nat} (h : 0 < n) : (s.draw n).1 < n := Nat.mod_lt _ h
@[simp] theorem draw_ve (s : State) (n o e m : Nat) : (s.draw n).2.ve o e m = s.ve o e m := rfl

/-! ### Guards -/

@[simp] theorem guarded_true (s : State) : guarded true s = .next s := rfl
@[simp] theorem guarded_false (s : State) : guarded false s = .fault .noSuchUnit := rfl

/-- A guarded meaning answers a next state just when its command names a unit that exists. -/
theorem guarded_next {c : Bool} {s s' : State} : guarded c s = .next s' ↔ c = true ∧ s = s' := by
  cases c <;> simp [guarded]

end Sys2Proof.Machine
end

