-- ==== Sys2Proof/Laws/Keeps.lean ====
section
/-!
SUPPORT. How frames compose: what an operation that leads from one state to another may change, and the
operations over members and memories.
-/

set_option Elab.async false

namespace Sys2Proof.Machine

/-- A footprint within another. -/
def Foot.sub (G F : Foot) : Bool :=
  (G.parts.all fun i => F.parts.contains i) &&
  G.keys.all fun r => F.keys.any fun q => decide (q.1 ≤ r.1) && decide (r.2 ≤ q.2)

/-- No key is outside every member's range. -/
theorem Foot.all_keys (parts : List Part) (k : Nat) :
    ¬(⟨parts, [(0, 0xFFFFFF)]⟩ : Foot).free k = true := by
  intro hk
  have h1 : keyObject k % 65536 < 65536 := Nat.mod_lt _ (Nat.succ_pos _)
  have h2 : keyMember k < 256 := Nat.mod_lt _ (Nat.succ_pos _)
  simp only [Foot.free, keyCode, List.all_cons, List.all_nil, Bool.and_true, Bool.or_eq_true] at hk
  rcases hk with hk | hk
  · exact absurd (of_decide_eq_true hk) (Nat.not_lt_zero _)
  · have hk := of_decide_eq_true hk
    omega

theorem Foot.sub_refl (F : Foot) : F.sub F = true := by
  simp only [Foot.sub, List.all_eq_true, List.any_eq_true, Bool.and_eq_true, decide_eq_true_eq,
    List.contains_iff_mem]
  exact ⟨fun _ h => h, fun r hr => ⟨r, hr, Nat.le_refl _, Nat.le_refl _⟩⟩

namespace Keeps

theorem refl (F : Foot) (s : State) : Keeps F s s := by
  constructor <;> intros <;> first | rfl | assumption | exact Or.inr rfl

theorem part_sub {g f : List Part} {i : Part} (h : (g.all fun j => f.contains j) = true)
    (hi : g.contains i = true) : f.contains i = true :=
  List.all_eq_true.1 h i (by simpa using hi)

theorem free_sub {G F : Foot} (h : G.sub F = true) {k : Nat} (hk : F.free k = true) :
    G.free k = true := by
  simp only [Foot.sub, Bool.and_eq_true, List.all_eq_true, List.any_eq_true, decide_eq_true_eq] at h
  simp only [Foot.free, List.all_eq_true, Bool.or_eq_true, decide_eq_true_eq] at *
  intro r hr
  obtain ⟨q, hq, h1, h2⟩ := h.2 r hr
  rcases hk q hq with h3 | h3 <;> omega

/-- Operations one after the other. -/
theorem trans {F G : Foot} {s t u : State} (h : Keeps F s t) (g : Keeps G t u)
    (hs : G.sub F = true) : Keeps F s u := by
  have hb : (G.parts.all fun j => F.parts.contains j) = true := by
    simp only [Foot.sub, Bool.and_eq_true] at hs; exact hs.1
  have bits : ∀ {i : Part} {α : Type} {a b c : α}, (F.parts.contains i = true ∨ b = a) →
      (G.parts.contains i = true ∨ c = b) → (F.parts.contains i = true ∨ c = a) := by
    intro i α a b c h1 h2
    rcases h1 with h1 | h1
    · exact .inl h1
    · rcases h2 with h2 | h2
      · exact .inl (part_sub hb h2)
      · exact .inr (h2.trans h1)
  exact {
    pending := g.pending.trans h.pending
    sound := fun x => g.sound (h.sound x)
    freeIdx := h.freeIdx.trans g.freeIdx
    keys := fun k hk => (g.keys k (free_sub hs hk)).trans (h.keys k hk)
    now := bits h.now g.now
    out := bits h.out g.out
    blobs := bits h.blobs g.blobs
    ingress := bits h.ingress g.ingress
    codec := bits h.codec g.codec
    comp := bits h.comp g.comp
    ray := bits h.ray g.ray
    seq := bits h.seq g.seq
    panel := bits h.panel g.panel
    bridge := bits h.bridge g.bridge
    loop := bits h.loop g.loop
    lanes := bits h.lanes g.lanes
    memory := bits h.memory g.memory
    clock := bits h.clock g.clock
    mgmt := bits h.mgmt g.mgmt
    net := bits h.net g.net
    health := bits h.health g.health
    logs := bits h.logs g.logs
    tapIr := bits h.tapIr g.tapIr }

/-- A wider footprint. -/
theorem mono {F G : Foot} {s t : State} (g : Keeps G s t) (hs : G.sub F = true) : Keeps F s t :=
  (refl F s).trans g hs

/-- Parts of the state set in one update; DRAM stands. -/
theorem upd {F : Foot} {s t : State}
    {n : Nat} {os : List Output} {i : Ingress} {c : Codec} {cm : Comp} {r : Ray} {sq : Seq} {p : Panel} {b : Bridge} {l : Loop} {ln : Lanes} {me : Memory} {ck : Clock} {mg : Mgmt} {nt : Net} {hh : Health} {lg : Logs} {ti : BitVec 8}
    (h : Keeps F s t)
    (dram : Memory.wf t.memory.dram = true → Memory.wf me.dram = true := by exact fun x => x)
    (hn : F.parts.contains .now = true ∨ n = t.now := by exact Or.inr rfl)
    (hos : F.parts.contains .out = true ∨ os = t.out := by exact Or.inr rfl)
    (hi : F.parts.contains .ingress = true ∨ i = t.ingress := by exact Or.inr rfl)
    (hc : F.parts.contains .codec = true ∨ c = t.codec := by exact Or.inr rfl)
    (hcm : F.parts.contains .comp = true ∨ cm = t.comp := by exact Or.inr rfl)
    (hr : F.parts.contains .ray = true ∨ r = t.ray := by exact Or.inr rfl)
    (hsq : F.parts.contains .seq = true ∨ sq = t.seq := by exact Or.inr rfl)
    (hp : F.parts.contains .panel = true ∨ p = t.panel := by exact Or.inr rfl)
    (hb : F.parts.contains .bridge = true ∨ b = t.bridge := by exact Or.inr rfl)
    (hl : F.parts.contains .loop = true ∨ l = t.loop := by exact Or.inr rfl)
    (hln : F.parts.contains .lanes = true ∨ ln = t.lanes := by exact Or.inr rfl)
    (hme : F.parts.contains .memory = true ∨ me = t.memory := by exact Or.inr rfl)
    (hck : F.parts.contains .clock = true ∨ ck = t.clock := by exact Or.inr rfl)
    (hmg : F.parts.contains .mgmt = true ∨ mg = t.mgmt := by exact Or.inr rfl)
    (hnt : F.parts.contains .net = true ∨ nt = t.net := by exact Or.inr rfl)
    (hhh : F.parts.contains .health = true ∨ hh = t.health := by exact Or.inr rfl)
    (hlg : F.parts.contains .logs = true ∨ lg = t.logs := by exact Or.inr rfl)
    (hti : F.parts.contains .tapIr = true ∨ ti = t.tapIr := by exact Or.inr rfl) :
    Keeps F s ⟨t.pending, n, t.freeIdx, os, t.dict, t.blobs, i, c, cm, r, sq, p, b, l, ln, me, ck, mg, nt, hh, lg, ti⟩ := by
  refine h.trans (G := F) ?_ F.sub_refl
  exact {
      pending := rfl
      sound := fun x => ⟨x.1, x.2.1, dram x.2.2⟩
      freeIdx := Nat.le_refl _
      keys := fun k _ => rfl
      now := hn
      out := hos
      blobs := Or.inr rfl
      ingress := hi
      codec := hc
      comp := hcm
      ray := hr
      seq := hsq
      panel := hp
      bridge := hb
      loop := hl
      lanes := hln
      memory := hme
      clock := hck
      mgmt := hmg
      net := hnt
      health := hhh
      logs := hlg
      tapIr := hti }

theorem ite {F : Foot} {s a b : State} {c : Prop} [Decidable c] (h : c → Keeps F s a)
    (g : ¬c → Keeps F s b) : Keeps F s (if c then a else b) := by
  split
  · exact h ‹_›
  · exact g ‹_›

theorem dite {F : Foot} {s : State} {c : Prop} [Decidable c] {a : c → State} {b : ¬c → State}
    (h : ∀ x, Keeps F s (a x)) (g : ∀ x, Keeps F s (b x)) : Keeps F s (if x : c then a x else b x) := by
  split
  · exact h _
  · exact g _

theorem bite {F : Foot} {s a b : State} {c : Bool} (h : Keeps F s a) (g : Keeps F s b) :
    Keeps F s (bif c then a else b) := by cases c <;> assumption

theorem foldl {α : Type} {F : Foot} {f : State → α → State} {l : List α} {s t : State}
    (h : Keeps F s t) (hf : ∀ u x, Keeps F u (f u x)) : Keeps F s (l.foldl f t) := by
  induction l generalizing t with
  | nil => exact h
  | cons x r ih =>
    exact ih (h.trans (hf t x) F.sub_refl)

/-- The state of a pair that an operation answers. -/
theorem snd {α : Type} {F : Foot} {s b : State} {p : α × State} {a : α} (e : p = (a, b))
    (h : Keeps F s p.2) : Keeps F s b := by rw [e] at h; exact h

/-- An optional step before which the state is the other branch. -/
theorem optE {F : Foot} {s a b : State} {c : Prop} [Decidable c] (h : Keeps F s b)
    (g : c → Keeps F b a) : Keeps F s (if c then a else b) := by
  split
  · exact h.trans (g ‹_›) F.sub_refl
  · exact h
/-- The same, the branches the other way round. -/
theorem optT {F : Foot} {s a b : State} {c : Prop} [Decidable c] (h : Keeps F s a)
    (g : ¬c → Keeps F a b) : Keeps F s (if c then a else b) := by
  split
  · exact h
  · exact h.trans (g ‹_›) F.sub_refl
/-- A fold that carries a value beside the state. -/
theorem sndFoldl {α β : Type} {F : Foot} {f : β × State → α → β × State} {l : List α} {s : State}
    {p : β × State} (h : Keeps F s p.2) (hf : ∀ q x, Keeps F q.2 (f q x).2) :
    Keeps F s (l.foldl f p).2 := by
  induction l generalizing p with
  | nil => exact h
  | cons x r ih => exact ih (h.trans (hf p x) F.sub_refl)
/-- A fold that carries the state inside other data. -/
theorem foldlOf {α β : Type} {F : Foot} (π : β → State) {f : β → α → β} {l : List α} {s : State}
    {b : β} (h : Keeps F s (π b)) (hf : ∀ q x, Keeps F (π q) (π (f q x))) :
    Keeps F s (π (l.foldl f b)) := by
  induction l generalizing b with
  | nil => exact h
  | cons x r ih => exact ih (h.trans (hf b x) F.sub_refl)

/-- A state that an optional operation answers. -/
theorem some {F : Foot} {s u v : State} (h : Option.some v = Option.some u) (k : Keeps F s v) :
    Keeps F s u := by cases h; exact k

/-- A pair that equals another one. -/
theorem pair {α : Type} {F : Foot} {s : State} {p q : α × State} (e : p = q) (h : Keeps F s q.2) :
    Keeps F s p.2 := by rw [e]; exact h

/-- A branch between two pairs. -/
theorem sndIte {α : Type} {F : Foot} {s : State} {a b : α × State} {c : Prop} [Decidable c] (h : c → Keeps F s a.2)
    (g : ¬c → Keeps F s b.2) : Keeps F s (if c then a else b).2 := by
  split
  · exact h ‹_›
  · exact g ‹_›

/-- A member outside the footprint reads as before. -/
theorem ve {F : Foot} {s t : State} (h : Keeps F s t) (o e m : Nat)
    (hk : F.free (mkey o 0 m) = true) : t.ve o e m = s.ve o e m := by
  have hc : keyCode (mkey o e m) = keyCode (mkey o 0 m) := by
    simp [keyCode, keyObject_mkey, keyMember_mkey]
  have : F.free (mkey o e m) = true := by simpa [Foot.free, hc] using hk
  simp [State.ve, h.keys _ this]

end Keeps

/-! ### The operations that set members and memories -/

/-- One member. -/
theorem State.pute_keeps (s : State) (o e m v : Nat) (F : Foot)
    (h : ∃ r ∈ F.keys, r.1 ≤ o % 65536 * 256 + m % 256 ∧ o % 65536 * 256 + m % 256 ≤ r.2) :
    Keeps F s (s.pute o e m v) := by
  constructor
  case sound =>
    rintro ⟨h1, h2, h3⟩
    refine ⟨?_, h2, h3⟩
    simp only [State.dictOk, Bool.and_eq_true, List.all_eq_true, State.pute_dict] at *
    refine ⟨keysRise_tset _ _ _ h1.1, fun x hx => ?_⟩
    rcases mem_tset hx with ⟨rfl, hv⟩ | hx
    · simpa using hv
    · exact h1.2 x hx
  case keys =>
    intro k hk
    refine tget?_tset_ne _ ?_ _ _
    rintro rfl
    obtain ⟨r, hr, h1, h2⟩ := h
    simp only [Foot.free, List.all_eq_true, Bool.or_eq_true, decide_eq_true_eq, keyCode,
      keyObject_mkey, keyMember_mkey, Nat.mod_mod] at hk
    rcases hk r hr with h3 | h3 <;> omega
  all_goals first | rfl | exact Or.inr rfl

/-- One member of one element or another. -/
theorem State.pute_keeps1 (s : State) (o e m v : Nat) :
    Keeps ⟨[], [(o % 65536 * 256 + m % 256, o % 65536 * 256 + m % 256)]⟩ s (s.pute o e m v) :=
  State.pute_keeps _ _ _ _ _ _ ⟨_, List.mem_singleton_self _, Nat.le_refl _, Nat.le_refl _⟩

/-- Some member of one object. -/
theorem State.pute_keepsO (s : State) (o e m v : Nat) :
    Keeps ⟨[], [(o % 65536 * 256, o % 65536 * 256 + 255)]⟩ s (s.pute o e m v) :=
  State.pute_keeps _ _ _ _ _ _ ⟨_, List.mem_singleton_self _, by simp, by simp; omega⟩

/-- Some member. -/
theorem State.pute_keepsA (s : State) (o e m v : Nat) :
    Keeps ⟨[], [(0, 0xFFFFFF)]⟩ s (s.pute o e m v) :=
  State.pute_keeps _ _ _ _ _ _ ⟨_, List.mem_singleton_self _, by simp, by simp; omega⟩

/-- One BLOB member. -/
theorem State.putBlob_keeps (s : State) (o e m : Nat) (b : Bytes) :
    Keeps ⟨[.blobs], []⟩ s (s.putBlob o e m b) := by
  constructor
  case sound =>
    rintro ⟨h1, h2, h3⟩
    refine ⟨h1, ?_, h3⟩
    simp only [State.blobsOk, Bool.and_eq_true, List.all_eq_true, State.putBlob_blobs] at *
    refine ⟨keysRise_tset _ _ _ h2.1, fun x hx => ?_⟩
    rcases mem_tset hx with ⟨rfl, hv⟩ | hx
    · simpa using hv
    · exact h2.2 x hx
  all_goals intros; first | rfl | exact Or.inr rfl | exact Or.inl rfl

/-- A new content of DRAM that has its canonical form whenever the old one has. -/
theorem Keeps.dram {s u : State} {d : List Host.Cell}
    (hd : Memory.wf s.memory.dram = true → Memory.wf d = true)
    (hu : u = { s with memory := { s.memory with dram := d } }) : Keeps ⟨[.memory], []⟩ s u := by
  subst hu
  constructor
  case sound =>
    rintro ⟨h1, h2, h3⟩
    exact ⟨h1, h2, hd h3⟩
  all_goals intros; first | rfl | exact Or.inr rfl | exact Or.inl rfl

/-- A free value. -/
theorem State.draw_keeps0 (F : Foot) (s : State) (n : Nat) : Keeps F s (s.draw n).2 := by
  constructor <;> intros <;> first | rfl | assumption | exact Or.inr rfl | exact Nat.le_succ _

theorem State.draw_keeps (s : State) (n : Nat) : Keeps ⟨[], []⟩ s (s.draw n).2 :=
  State.draw_keeps0 _ _ _

/-! ### The operations over members -/

theorem State.put_keeps1 (s : State) (o m v : Nat) :
    Keeps ⟨[], [(o % 65536 * 256 + m % 256, o % 65536 * 256 + m % 256)]⟩ s (s.put o m v) := State.pute_keeps1 _ _ _ _ _

theorem State.put_keepsO (s : State) (o m v : Nat) :
    Keeps ⟨[], [(o % 65536 * 256, o % 65536 * 256 + 255)]⟩ s (s.put o m v) := State.pute_keepsO _ _ _ _ _

theorem State.put_keepsA (s : State) (o m v : Nat) :
    Keeps ⟨[], [(0, 0xFFFFFF)]⟩ s (s.put o m v) := State.pute_keepsA _ _ _ _ _

theorem State.putBit_keeps1 (s : State) (o m k : Nat) (b : Bool) :
    Keeps ⟨[], [(o % 65536 * 256 + m % 256, o % 65536 * 256 + m % 256)]⟩ s (s.putBit o m k b) := State.pute_keeps1 _ _ _ _ _

theorem State.putBit_keepsO (s : State) (o m k : Nat) (b : Bool) :
    Keeps ⟨[], [(o % 65536 * 256, o % 65536 * 256 + 255)]⟩ s (s.putBit o m k b) := State.pute_keepsO _ _ _ _ _

theorem State.putBit_keepsA (s : State) (o m k : Nat) (b : Bool) :
    Keeps ⟨[], [(0, 0xFFFFFF)]⟩ s (s.putBit o m k b) := State.pute_keepsA _ _ _ _ _

theorem State.adde_keeps1 (s : State) (o e m n : Nat) :
    Keeps ⟨[], [(o % 65536 * 256 + m % 256, o % 65536 * 256 + m % 256)]⟩ s (s.adde o e m n) := by
  simp only [State.adde]
  split
  · exact State.pute_keeps1 _ _ _ _ _
  · exact (State.draw_keeps0 _ s _).trans (State.pute_keeps1 _ _ _ _ _) (Foot.sub_refl _)

theorem State.adde_keepsO (s : State) (o e m n : Nat) :
    Keeps ⟨[], [(o % 65536 * 256, o % 65536 * 256 + 255)]⟩ s (s.adde o e m n) := by
  simp only [State.adde]
  split
  · exact State.pute_keepsO _ _ _ _ _
  · exact (State.draw_keeps0 _ s _).trans (State.pute_keepsO _ _ _ _ _) (Foot.sub_refl _)

theorem State.adde_keepsA (s : State) (o e m n : Nat) :
    Keeps ⟨[], [(0, 0xFFFFFF)]⟩ s (s.adde o e m n) := by
  simp only [State.adde]
  split
  · exact State.pute_keepsA _ _ _ _ _
  · exact (State.draw_keeps0 _ s _).trans (State.pute_keepsA _ _ _ _ _) (Foot.sub_refl _)

theorem State.add_keeps1 (s : State) (o m n : Nat) :
    Keeps ⟨[], [(o % 65536 * 256 + m % 256, o % 65536 * 256 + m % 256)]⟩ s (s.add o m n) := State.adde_keeps1 _ _ _ _ _

theorem State.add_keepsO (s : State) (o m n : Nat) :
    Keeps ⟨[], [(o % 65536 * 256, o % 65536 * 256 + 255)]⟩ s (s.add o m n) := State.adde_keepsO _ _ _ _ _

theorem State.add_keepsA (s : State) (o m n : Nat) :
    Keeps ⟨[], [(0, 0xFFFFFF)]⟩ s (s.add o m n) := State.adde_keepsA _ _ _ _ _

theorem State.inc_keeps1 (s : State) (o m : Nat) :
    Keeps ⟨[], [(o % 65536 * 256 + m % 256, o % 65536 * 256 + m % 256)]⟩ s (s.inc o m) := State.adde_keeps1 _ _ _ _ _

theorem State.inc_keepsO (s : State) (o m : Nat) :
    Keeps ⟨[], [(o % 65536 * 256, o % 65536 * 256 + 255)]⟩ s (s.inc o m) := State.adde_keepsO _ _ _ _ _

theorem State.inc_keepsA (s : State) (o m : Nat) :
    Keeps ⟨[], [(0, 0xFFFFFF)]⟩ s (s.inc o m) := State.adde_keepsA _ _ _ _ _

theorem State.ince_keeps1 (s : State) (o e m : Nat) :
    Keeps ⟨[], [(o % 65536 * 256 + m % 256, o % 65536 * 256 + m % 256)]⟩ s (s.ince o e m) := State.adde_keeps1 _ _ _ _ _

theorem State.ince_keepsO (s : State) (o e m : Nat) :
    Keeps ⟨[], [(o % 65536 * 256, o % 65536 * 256 + 255)]⟩ s (s.ince o e m) := State.adde_keepsO _ _ _ _ _

theorem State.ince_keepsA (s : State) (o e m : Nat) :
    Keeps ⟨[], [(0, 0xFFFFFF)]⟩ s (s.ince o e m) := State.adde_keepsA _ _ _ _ _


end Sys2Proof.Machine
end

