-- ==== Sys2Proof/Laws/Keeps/Ops.lean ====
section
/-! SUPPORT. What each operation of Machine/Ops.lean may change. -/

set_option Elab.async false

namespace Sys2Proof.Machine

theorem State.enter_keeps (s : State) (t : Nat) : Keeps ⟨[.now, .out], []⟩ s (State.enter s t) := by
  unfold State.enter
  refine Keeps.upd ?_ (hn := Or.inl (by decide +kernel)) (hos := Or.inl (by decide +kernel))
  exact Keeps.refl _ _

theorem State.atCycle_keepsF {F : Foot} {s t : State} {n : Nat} {act : State → State}
    (h : Keeps F s t) (hk : Foot.sub ⟨[.now], []⟩ F = true) (g : ∀ u, Keeps F u (act u)) :
    Keeps F s (t.atCycle n act) := by
  have hn : ∀ (u : State) (k : Nat), Keeps F u { u with now := k } := fun u k =>
    (Keeps.upd (F := ⟨[.now], []⟩) (Keeps.refl _ u) (hn := Or.inl (by decide +kernel))).mono hk
  unfold State.atCycle
  exact ((h.trans (hn t n) F.sub_refl).trans (g _) F.sub_refl).trans (hn _ _) F.sub_refl

theorem State.emit_keeps (s : State) (o : Output) : Keeps ⟨[.out], []⟩ s (State.emit s o) := by
  unfold State.emit
  refine Keeps.upd ?_ (hos := Or.inl (by decide +kernel))
  exact Keeps.refl _ _

theorem State.emits_keeps (s : State) (os : List Output) : Keeps ⟨[.out], []⟩ s (State.emits s os) := by
  unfold State.emits
  refine Keeps.upd ?_ (hos := Or.inl (by decide +kernel))
  exact Keeps.refl _ _

theorem State.wearBlock_keeps (s : State) (k : Nat) : Keeps ⟨[.memory], [(0x900005, 0x900005)]⟩ s
    (State.wearBlock s k) := by
  unfold State.wearBlock
  dsimp only
  refine Keeps.optE ?_ (fun _ => ?_)
  · refine Keeps.upd ?_ (hme := Or.inl (by decide +kernel))
    exact Keeps.refl _ _
  · refine Keeps.trans ?_ (State.put_keeps1 ..) (by decide +kernel)
    exact Keeps.refl _ _

theorem State.writeTuneRecord_keeps (s : State) (k : Nat) : Keeps ⟨[.memory], [(0x900005, 0x900005)]⟩ s
    (State.writeTuneRecord s k) := by
  unfold State.writeTuneRecord
  dsimp only
  refine Keeps.trans ?_ (State.wearBlock_keeps ..) (by decide +kernel)
  refine Keeps.upd ?_ (hme := Or.inl (by decide +kernel))
  exact Keeps.refl _ _

theorem State.startCommit_keeps (s : State) : Keeps ⟨[.memory], []⟩ s (State.startCommit s) := by
  unfold State.startCommit
  dsimp only
  refine Keeps.ite (fun _ => ?_) (fun _ => ?_)
  · exact Keeps.refl _ _
  · refine Keeps.ite (fun _ => ?_) (fun _ => ?_)
    · refine Keeps.upd ?_ (hme := Or.inl (by decide +kernel))
      exact Keeps.refl _ _
    · refine Keeps.ite (fun _ => ?_) (fun _ => ?_)
      · refine Keeps.upd ?_ (hme := Or.inl (by decide +kernel))
        exact Keeps.refl _ _
      · refine Keeps.ite (fun _ => ?_) (fun _ => ?_)
        · refine Keeps.upd ?_ (hme := Or.inl (by decide +kernel))
          exact Keeps.refl _ _
        · refine Keeps.upd ?_ (hme := Or.inl (by decide +kernel))
          exact Keeps.refl _ _

theorem State.journalize_keeps (s : State) (o : Nat) (e : Nat) (m : Nat) (v : Nat) (data : Bytes) :
    Keeps ⟨[.memory], []⟩ s (State.journalize s o e m v data) := by
  unfold State.journalize
  split
  · exact Keeps.refl _ _
  · refine Keeps.ite (fun _ => ?_) (fun _ => ?_)
    · dsimp only
      refine Keeps.optE ?_ (fun _ => ?_)
      · refine Keeps.upd ?_ (hme := Or.inl (by decide +kernel))
        exact Keeps.refl _ _
      · refine Keeps.trans ?_ (State.startCommit_keeps ..) (by decide +kernel)
        exact Keeps.refl _ _
    · exact Keeps.refl _ _

theorem State.putKept_keeps1 (s : State) (o e m v : Nat) :
    Keeps ⟨[.memory], [(o % 65536 * 256 + m % 256, o % 65536 * 256 + m % 256)]⟩ s (s.putKept o e m v) :=
  (State.pute_keeps _ _ _ _ _ _ ⟨_, List.mem_singleton_self _, Nat.le_refl _, Nat.le_refl _⟩).trans
    (State.journalize_keeps ..) (by simp [Foot.sub])

theorem State.putKept_keepsO (s : State) (o e m v : Nat) :
    Keeps ⟨[.memory], [(o % 65536 * 256, o % 65536 * 256 + 255)]⟩ s (s.putKept o e m v) :=
  (State.pute_keeps _ _ _ _ _ _ ⟨_, List.mem_singleton_self _, by simp, by simp; omega⟩).trans
    (State.journalize_keeps ..) (by simp [Foot.sub])

theorem State.putKept_keepsA (s : State) (o e m v : Nat) :
    Keeps ⟨[.memory], [(0, 0xFFFFFF)]⟩ s (s.putKept o e m v) :=
  (State.pute_keeps _ _ _ _ _ _ ⟨_, List.mem_singleton_self _, by simp, by simp; omega⟩).trans
    (State.journalize_keeps ..) (by simp [Foot.sub])

theorem State.putBlobKept_keeps (s : State) (o : Nat) (e : Nat) (m : Nat) (bs : Bytes) : Keeps ⟨[.blobs,
    .memory], []⟩ s (State.putBlobKept s o e m bs) := by
  unfold State.putBlobKept
  refine Keeps.trans ?_ (State.journalize_keeps ..) (by decide +kernel)
  refine Keeps.trans ?_ (State.putBlob_keeps ..) (by decide +kernel)
  exact Keeps.refl _ _

theorem State.updateHirq_keeps (s : State) : Keeps ⟨[.out, .clock], []⟩ s (State.updateHirq s) := by
  unfold State.updateHirq
  refine Keeps.ite (fun _ => ?_) (fun _ => ?_)
  · exact Keeps.refl _ _
  · refine Keeps.upd ?_ (hos := Or.inl (by decide +kernel)) (hck := Or.inl (by decide +kernel))
    exact Keeps.refl _ _

theorem State.queueEvent_keeps (s : State) (ev : Event) (m : Nat) : Keeps ⟨[.mgmt], [(0x101107,
    0x101107), (0x103003, 0x103003)]⟩ s (State.queueEvent s ev m) := by
  unfold State.queueEvent
  refine Keeps.ite (fun _ => ?_) (fun _ => ?_)
  · dsimp only
    refine Keeps.ite (fun _ => ?_) (fun _ => ?_)
    · refine Keeps.trans ?_ (State.inc_keeps1 ..) (by decide +kernel)
      refine Keeps.trans ?_ (State.ince_keeps1 ..) (by decide +kernel)
      refine Keeps.upd ?_ (hmg := Or.inl (by decide +kernel))
      exact Keeps.refl _ _
    · refine Keeps.upd ?_ (hmg := Or.inl (by decide +kernel))
      exact Keeps.refl _ _
  · exact Keeps.refl _ _

theorem State.event_keeps (s : State) (o : Nat) (e : Nat) (m : Nat) (cause : Nat) : Keeps ⟨[.out,
    .clock, .mgmt], [(0x101107, 0x101107), (0x103003, 0x103003)]⟩ s (State.event s o e m cause) := by
  unfold State.event
  dsimp only
  refine Keeps.trans ?_ (State.updateHirq_keeps ..) (by decide +kernel)
  refine Keeps.foldl ?_ (fun _ _ => ?_)
  · refine Keeps.upd ?_ (hmg := Or.inl (by decide +kernel))
    exact Keeps.refl _ _
  · refine Keeps.trans ?_ (State.queueEvent_keeps ..) (by decide +kernel)
    exact Keeps.refl _ _

theorem State.log_keeps (s : State) (l : LogSpec) : Keeps ⟨[.memory, .logs], [(0x180002, 0x180002),
    (0x180101, 0x180103), (0x900005, 0x900005)]⟩ s (State.log s l) := by
  unfold State.log
  dsimp only
  refine Keeps.optE ?_ (fun _ => ?_)
  · refine Keeps.optE ?_ (fun _ => ?_)
    · refine Keeps.trans ?_ (State.put_keeps1 ..) (by decide +kernel)
      refine Keeps.trans ?_ (State.inc_keeps1 ..) (by decide +kernel)
      refine Keeps.upd ?_ (hlg := Or.inl (by decide +kernel))
      exact Keeps.refl _ _
    · refine Keeps.trans ?_ (State.inc_keeps1 ..) (by decide +kernel)
      exact Keeps.refl _ _
  · refine Keeps.trans ?_ (State.inc_keeps1 ..) (by decide +kernel)
    refine Keeps.foldl ?_ (fun _ _ => ?_)
    · refine Keeps.upd ?_ (hlg := Or.inl (by decide +kernel))
      exact Keeps.refl _ _
    · refine Keeps.trans ?_ (State.wearBlock_keeps ..) (by decide +kernel)
      exact Keeps.refl _ _

theorem State.recover_keeps (s : State) (dom : Nat) (idx : Nat) (level : Nat) : Keeps ⟨[.logs], []⟩ s
    (State.recover s dom idx level) := by
  unfold State.recover
  dsimp only
  refine Keeps.upd ?_ (hlg := Or.inl (by decide +kernel))
  exact Keeps.refl _ _

theorem State.recovered_keeps (s : State) (dom : Nat) (idx : Nat) : Keeps ⟨[.logs], []⟩ s
    (State.recovered s dom idx) := by
  unfold State.recovered
  refine Keeps.upd ?_ (hlg := Or.inl (by decide +kernel))
  exact Keeps.refl _ _

theorem State.escalate_keeps (s : State) : Keeps ⟨[], [(0x180104, 0x180104)]⟩ s (State.escalate s) := by
  unfold State.escalate
  refine Keeps.trans ?_ (State.inc_keeps1 ..) (by decide +kernel)
  exact Keeps.refl _ _

theorem State.calEnd_keeps (s : State) : Keeps ⟨[.health], []⟩ s (State.calEnd s) := by
  unfold State.calEnd
  refine Keeps.upd ?_ (hhh := Or.inl (by decide +kernel))
  exact Keeps.refl _ _

theorem State.requestStop_keeps (s : State) : Keeps ⟨[.seq, .health], [(0x500103, 0x500103)]⟩ s
    (State.requestStop s) := by
  unfold State.requestStop
  refine Keeps.ite (fun _ => ?_) (fun _ => ?_)
  · dsimp only
    refine Keeps.trans ?_ (State.calEnd_keeps ..) (by decide +kernel)
    refine Keeps.trans ?_ (State.put_keeps1 ..) (by decide +kernel)
    refine Keeps.upd ?_ (hsq := Or.inl (by decide +kernel))
    exact Keeps.refl _ _
  · exact Keeps.refl _ _

end Sys2Proof.Machine
end

