-- ==== Sys2Proof/Laws/Keeps/Flags.lean ====
section
/-! SUPPORT. What each operation of Machine/Flags.lean may change. -/

set_option Elab.async false

namespace Sys2Proof.Machine

theorem State.putHalf_keeps (s : State) (h : Nat) (x : Half) : Keeps ⟨[.panel], []⟩ s (State.putHalf s h
    x) := by
  unfold State.putHalf
  refine Keeps.ite (fun _ => ?_) (fun _ => ?_)
  · refine Keeps.upd ?_ (hp := Or.inl (by decide +kernel))
    exact Keeps.refl _ _
  · refine Keeps.upd ?_ (hp := Or.inl (by decide +kernel))
    exact Keeps.refl _ _

theorem State.cutSamples_keeps (s : State) (courses : List Nat) : Keeps ⟨[.bridge], []⟩ s
    (State.cutSamples s courses) := by
  unfold State.cutSamples
  refine Keeps.upd ?_ (hb := Or.inl (by decide +kernel))
  exact Keeps.refl _ _

theorem State.darken_keeps (s : State) (courses : List Nat) : Keeps ⟨[.out, .bridge], []⟩ s
    (State.darken s courses) := by
  unfold State.darken
  dsimp only
  refine Keeps.trans ?_ (State.emits_keeps ..) (by decide +kernel)
  refine Keeps.upd ?_ (hb := Or.inl (by decide +kernel))
  refine Keeps.trans ?_ (State.cutSamples_keeps ..) (by decide +kernel)
  exact Keeps.refl _ _

theorem State.fastInhibit_keeps (s : State) (src : Nat) (courses : List Nat) : Keeps ⟨[.out, .bridge],
    [(0x600103, 0x600103), (0x600201, 0x600201)]⟩ s (State.fastInhibit s src courses) := by
  unfold State.fastInhibit
  refine Keeps.trans ?_ (State.darken_keeps ..) (by decide +kernel)
  refine Keeps.trans ?_ (State.inc_keeps1 ..) (by decide +kernel)
  refine Keeps.trans ?_ (State.put_keeps1 ..) (by decide +kernel)
  exact Keeps.refl _ _

theorem State.holdDark_keeps (s : State) (src : Nat) : Keeps ⟨[.bridge], []⟩ s (State.holdDark s src) :=
    by
  unfold State.holdDark
  refine Keeps.upd ?_ (hb := Or.inl (by decide +kernel))
  exact Keeps.refl _ _

theorem State.blankAll_keeps (s : State) (src : Nat) : Keeps ⟨[.out, .bridge, .health], [(0x600103,
    0x600103), (0x600201, 0x600201)]⟩ s (State.blankAll s src) := by
  unfold State.blankAll
  refine Keeps.ite (fun _ => ?_) (fun _ => ?_)
  · exact Keeps.refl _ _
  · refine Keeps.trans ?_ (State.calEnd_keeps ..) (by decide +kernel)
    refine Keeps.trans ?_ (State.fastInhibit_keeps ..) (by decide +kernel)
    refine Keeps.trans ?_ (State.holdDark_keeps ..) (by decide +kernel)
    exact Keeps.refl _ _

theorem State.blankQuiet_keeps (s : State) (src : Nat) : Keeps ⟨[.out, .bridge, .health], []⟩ s
    (State.blankQuiet s src) := by
  unfold State.blankQuiet
  refine Keeps.trans ?_ (State.calEnd_keeps ..) (by decide +kernel)
  refine Keeps.trans ?_ (State.darken_keeps ..) (by decide +kernel)
  refine Keeps.trans ?_ (State.holdDark_keeps ..) (by decide +kernel)
  exact Keeps.refl _ _

theorem State.releaseAll_keeps (s : State) (src : Nat) : Keeps ⟨[.bridge], []⟩ s (State.releaseAll s
    src) := by
  unfold State.releaseAll
  refine Keeps.ite (fun _ => ?_) (fun _ => ?_)
  · exact Keeps.refl _ _
  · refine Keeps.ite (fun _ => ?_) (fun _ => ?_)
    · refine Keeps.upd ?_ (hb := Or.inl (by decide +kernel))
      exact Keeps.refl _ _
    · refine Keeps.upd ?_ (hb := Or.inl (by decide +kernel))
      exact Keeps.refl _ _

theorem State.transitions_keeps (s : State) (input : Nat) (count : Nat) : Keeps ⟨[.out, .clock, .mgmt],
    [(0x101107, 0x101107), (0x103003, 0x103003), (0x180107, 0x180107), (0x188001, 0x188001), (0x600202,
    0x600202)]⟩ s (State.transitions s input count) := by
  unfold State.transitions
  dsimp only
  refine Keeps.ite (fun _ => ?_) (fun _ => ?_)
  · refine Keeps.upd ?_ (hck := Or.inl (by decide +kernel))
    exact Keeps.refl _ _
  · refine Keeps.ite (fun _ => ?_) (fun _ => ?_)
    · refine Keeps.trans ?_ (State.inc_keeps1 ..) (by decide +kernel)
      refine Keeps.upd ?_ (hck := Or.inl (by decide +kernel))
      exact Keeps.refl _ _
    · refine Keeps.optT ?_ (fun _ => ?_)
      · refine Keeps.upd ?_ (hck := Or.inl (by decide +kernel))
        exact Keeps.refl _ _
      · refine Keeps.trans ?_ (State.event_keeps ..) (by decide +kernel)
        refine Keeps.trans ?_ (State.inc_keeps1 ..) (by decide +kernel)
        refine Keeps.trans ?_ (State.putBit_keeps1 ..) (by decide +kernel)
        exact Keeps.refl _ _

theorem State.putCourse_keeps (s : State) (c : Nat) (x : CourseRec) : Keeps ⟨[.bridge], []⟩ s
    (State.putCourse s c x) := by
  unfold State.putCourse
  refine Keeps.upd ?_ (hb := Or.inl (by decide +kernel))
  exact Keeps.refl _ _

theorem State.putStr_keeps (s : State) (n : Nat) (x : StringRec) : Keeps ⟨[.bridge], []⟩ s (State.putStr
    s n x) := by
  unfold State.putStr
  refine Keeps.upd ?_ (hb := Or.inl (by decide +kernel))
  exact Keeps.refl _ _

theorem State.applyReleases_keeps (s : State) : Keeps ⟨[.bridge], []⟩ s (State.applyReleases s) := by
  unfold State.applyReleases
  dsimp only
  refine Keeps.upd ?_ (hb := Or.inl (by decide +kernel))
  exact Keeps.refl _ _

end Sys2Proof.Machine
end

