-- ==== Sys2Proof/Laws/Keeps/Dram.lean ====
section
/-! SUPPORT. What each operation of Machine/Dram.lean may change. -/

set_option Elab.async false

namespace Sys2Proof.Machine

theorem State.putChan_keeps (s : State) (c : Nat) (r : ChanRec) : Keeps ⟨[.memory], []⟩ s (State.putChan
    s c r) := by
  unfold State.putChan
  refine Keeps.upd ?_ (hme := Or.inl (by decide +kernel))
  exact Keeps.refl _ _

theorem State.enterRefresh_keeps (s : State) (c : Nat) : Keeps ⟨[.out, .memory], []⟩ s
    (State.enterRefresh s c) := by
  unfold State.enterRefresh
  dsimp only
  refine Keeps.ite (fun _ => ?_) (fun _ => ?_)
  · exact Keeps.refl _ _
  · refine Keeps.ite (fun _ => ?_) (fun _ => ?_)
    · refine Keeps.trans ?_ (State.putChan_keeps ..) (by decide +kernel)
      exact Keeps.refl _ _
    · refine Keeps.trans ?_ (State.emit_keeps ..) (by decide +kernel)
      refine Keeps.trans ?_ (State.putChan_keeps ..) (by decide +kernel)
      exact Keeps.refl _ _

theorem State.errorResponse_keeps (s : State) (port : Nat) (kind : Nat) (a : Nat) : Keeps ⟨[.memory,
    .logs], [(0x180002, 0x180002), (0x180101, 0x180103), (0x780207, 0x780207), (0x780301, 0x780303),
    (0x900005, 0x900005)]⟩ s (State.errorResponse s port kind a) := by
  unfold State.errorResponse
  dsimp only
  refine Keeps.trans ?_ (State.log_keeps ..) (by decide +kernel)
  refine Keeps.trans ?_ (State.put_keeps1 ..) (by decide +kernel)
  refine Keeps.trans ?_ (State.put_keeps1 ..) (by decide +kernel)
  refine Keeps.trans ?_ (State.put_keeps1 ..) (by decide +kernel)
  refine Keeps.trans ?_ (State.inc_keeps1 ..) (by decide +kernel)
  exact Keeps.refl _ _

theorem State.freeBytes_keeps (s : State) (n : Nat) : Keeps ⟨[], []⟩ s (s.freeBytes n).2 := by
  induction n generalizing s with
  | zero => exact Keeps.refl _ _
  | succ n ih => exact (State.draw_keeps s 256).trans (ih _) (by decide +kernel)

theorem State.dramWrite_keeps (s : State) (port a : Nat) (bs : Bytes) :
    Keeps ⟨[.memory, .logs], [(0x180002, 0x180002), (0x180101, 0x180103), (0x780207, 0x780207), (0x780301, 0x780303), (0x900005, 0x900005)]⟩ s (s.dramWrite port a bs).2 := by
  refine Keeps.pair (by unfold State.dramWrite; dsimp only) ?_
  refine Keeps.sndIte (fun _ => ?_) (fun _ => ?_)
  · exact (Keeps.dram (fun h => Memory.wf_mwrites h _ _) rfl).mono (by decide +kernel)
  · refine Keeps.sndIte (fun _ => ?_) (fun _ => ?_)
    · exact (State.errorResponse_keeps ..).mono (by decide +kernel)
    · refine Keeps.trans ?_ (State.errorResponse_keeps ..) (by decide +kernel)
      exact Keeps.trans ((State.freeBytes_keeps s bs.length).mono (by decide +kernel))
        (Keeps.dram (fun h => Memory.wf_mwrites h _ _) rfl) (by decide +kernel)

theorem State.dramRead_keeps (s : State) (port : Nat) (a : Nat) (len : Nat) : Keeps ⟨[.memory, .logs],
    [(0x180002, 0x180002), (0x180101, 0x180103), (0x780207, 0x780207), (0x780301, 0x780303), (0x900005,
    0x900005)]⟩ s (State.dramRead s port a len).2 := by
  refine Keeps.pair (by unfold State.dramRead; dsimp only) ?_
  refine Keeps.sndIte (fun _ => ?_) (fun _ => ?_)
  · dsimp only
    exact Keeps.refl _ _
  · dsimp only
    refine Keeps.trans ?_ (State.errorResponse_keeps ..) (by decide +kernel)
    exact Keeps.refl _ _

theorem State.dramReadZero_keeps (s : State) (port fuel a len : Nat) :
    Keeps ⟨[.memory, .logs], [(0x180002, 0x180002), (0x180101, 0x180103), (0x780207, 0x780207), (0x780301, 0x780303), (0x900005, 0x900005)]⟩ s (s.dramReadZero port fuel a len).2 := by
  induction fuel generalizing s a len with
  | zero => exact Keeps.refl _ _
  | succ fuel ih =>
    unfold State.dramReadZero
    refine Keeps.sndIte (fun _ => Keeps.refl _ _) (fun _ => ?_)
    exact ((State.dramRead_keeps ..).mono (by decide +kernel)).trans (ih _ _ _) (Foot.sub_refl _)

end Sys2Proof.Machine
end

