-- ==== Sys2Proof/Laws/Keeps/Links.lean ====
section
/-! SUPPORT. What each operation of Machine/Links.lean may change. -/

set_option Elab.async false

namespace Sys2Proof.Machine

theorem State.putGroup_keeps (s : State) (lane : Nat) (g : Group) : Keeps ⟨[.lanes], []⟩ s
    (State.putGroup s lane g) := by
  unfold State.putGroup
  refine Keeps.upd ?_ (hln := Or.inl (by decide +kernel))
  exact Keeps.refl _ _

theorem State.putLane_keeps (s : State) (lane : Nat) (r : LaneRec) : Keeps ⟨[.lanes], []⟩ s
    (State.putLane s lane r) := by
  unfold State.putLane
  refine Keeps.upd ?_ (hln := Or.inl (by decide +kernel))
  exact Keeps.refl _ _

theorem State.putBlock_keeps (s : State) (lane : Nat) (kind : Nat) (seq : Nat) (payload : Bytes) : Keeps
    ⟨[.out, .lanes], []⟩ s (State.putBlock s lane kind seq payload) := by
  unfold State.putBlock
  dsimp only
  refine Keeps.trans ?_ (State.emit_keeps ..) (by decide +kernel)
  refine Keeps.trans ?_ (State.putLane_keeps ..) (by decide +kernel)
  exact Keeps.refl _ _

theorem State.heard_keeps (s : State) (lane : Nat) (block : Bytes) : Keeps ⟨[.lanes], []⟩ s (State.heard
    s lane block) := by
  unfold State.heard
  dsimp only
  refine Keeps.trans ?_ (State.putLane_keeps ..) (by decide +kernel)
  exact Keeps.refl _ _

theorem State.sendMarker_keeps (seq : Nat) (s : State) (lane : Nat) : Keeps ⟨[.out, .lanes], []⟩ s
    (State.sendMarker seq s lane) := by
  unfold State.sendMarker
  dsimp only
  refine Keeps.trans ?_ (State.putLane_keeps ..) (by decide +kernel)
  refine Keeps.trans ?_ (State.putBlock_keeps ..) (by decide +kernel)
  exact Keeps.refl _ _

theorem State.sendFiller_keeps (seq : Nat) (s : State) (lane : Nat) : Keeps ⟨[.out, .lanes], []⟩ s
    (State.sendFiller seq s lane) := by
  unfold State.sendFiller
  refine Keeps.trans ?_ (State.putBlock_keeps ..) (by decide +kernel)
  exact Keeps.refl _ _

theorem State.sendRow_keepsF {F : Foot} {s t : State} {lane : Nat} {send : State → Nat → State}
    (h : Keeps F s t) (hk : Foot.sub ⟨[.lanes], []⟩ F = true) (g : ∀ u l, Keeps F u (send u l)) :
    Keeps F s (t.sendRow lane send) := by
  unfold State.sendRow
  dsimp only
  exact (h.trans (Keeps.foldl (Keeps.refl _ _) g) F.sub_refl).trans
    ((Keeps.mono (F := ⟨[.lanes], []⟩) (State.putGroup_keeps ..) (by decide +kernel)).mono hk) F.sub_refl

theorem State.padRow_keeps (s : State) (lane : Nat) (seq : Nat) : Keeps ⟨[.out, .lanes], []⟩ s
    (State.padRow s lane seq) := by
  unfold State.padRow
  dsimp only
  refine Keeps.ite (fun _ => ?_) (fun _ => ?_)
  · exact Keeps.refl _ _
  · refine Keeps.trans ?_ (State.putGroup_keeps ..) (by decide +kernel)
    refine Keeps.foldl ?_ (fun _ _ => ?_)
    · exact Keeps.refl _ _
    · refine Keeps.trans ?_ (State.putBlock_keeps ..) (by decide +kernel)
      exact Keeps.refl _ _

theorem State.dueRows_keeps (s : State) (lane : Nat) (seq : Nat) : Keeps ⟨[.out, .lanes], []⟩ s
    (State.dueRows s lane seq) := by
  unfold State.dueRows
  dsimp only
  refine Keeps.ite (fun _ => ?_) (fun _ => ?_)
  · exact Keeps.refl _ _
  · refine Keeps.optE ?_ (fun _ => ?_)
    · refine Keeps.ite (fun _ => ?_) (fun _ => ?_)
      · refine State.sendRow_keepsF ?_ (by decide +kernel) (fun _ _ => ?_)
        · refine Keeps.trans ?_ (State.putGroup_keeps ..) (by decide +kernel)
          exact Keeps.refl _ _
        · refine Keeps.trans ?_ (State.sendMarker_keeps ..) (by decide +kernel)
          exact Keeps.refl _ _
      · exact Keeps.refl _ _
    · refine State.sendRow_keepsF ?_ (by decide +kernel) (fun _ _ => ?_)
      · refine Keeps.trans ?_ (State.putGroup_keeps ..) (by decide +kernel)
        exact Keeps.refl _ _
      · refine Keeps.trans ?_ (State.sendFiller_keeps ..) (by decide +kernel)
        exact Keeps.refl _ _

theorem State.fillerRow_keeps (s : State) (lane : Nat) : Keeps ⟨[.out, .lanes], []⟩ s (State.fillerRow s
    lane) := by
  unfold State.fillerRow
  dsimp only
  refine State.sendRow_keepsF ?_ (by decide +kernel) (fun _ _ => ?_)
  · refine Keeps.trans ?_ (State.putGroup_keeps ..) (by decide +kernel)
    refine Keeps.trans ?_ (State.dueRows_keeps ..) (by decide +kernel)
    refine Keeps.trans ?_ (State.padRow_keeps ..) (by decide +kernel)
    exact Keeps.refl _ _
  · refine Keeps.trans ?_ (State.sendFiller_keeps ..) (by decide +kernel)
    exact Keeps.refl _ _

theorem State.sendSlot_keeps (s : State) (lane : Nat) (kind : Nat) (seq : Nat) (payload : Bytes) : Keeps
    ⟨[.out, .lanes], []⟩ s (State.sendSlot s lane kind seq payload) := by
  unfold State.sendSlot
  split
  · exact Keeps.refl _ _
  · dsimp only
    refine Keeps.trans ?_ (State.putGroup_keeps ..) (by decide +kernel)
    refine Keeps.trans ?_ (State.putBlock_keeps ..) (by decide +kernel)
    exact Keeps.refl _ _

theorem State.showSleep_keeps (s : State) (lane : Nat) : Keeps ⟨[], [(0x701001, 0x701001)]⟩ s
    (State.showSleep s lane) := by
  unfold State.showSleep
  refine Keeps.ite (fun _ => ?_) (fun _ => ?_)
  · refine Keeps.trans ?_ (State.pute_keeps1 ..) (by decide +kernel)
    exact Keeps.refl _ _
  · exact Keeps.refl _ _

theorem State.trainingBlock_keeps (s : State) (lane : Nat) : Keeps ⟨[.out, .lanes], []⟩ s
    (State.trainingBlock s lane) := by
  unfold State.trainingBlock
  refine Keeps.trans ?_ (State.putBlock_keeps ..) (by decide +kernel)
  exact Keeps.refl _ _

theorem State.sendTraining_keeps (s : State) (lane : Nat) : Keeps ⟨[.out, .lanes], []⟩ s
    (State.sendTraining s lane) := by
  unfold State.sendTraining
  refine Keeps.trans ?_ (State.trainingBlock_keeps ..) (by decide +kernel)
  refine Keeps.trans ?_ (State.sendMarker_keeps ..) (by decide +kernel)
  exact Keeps.refl _ _

theorem State.wakePort_keeps (s : State) (p : Nat) : Keeps ⟨[.out, .lanes], []⟩ s (State.wakePort s p)
    := by
  unfold State.wakePort
  refine Keeps.foldl ?_ (fun _ _ => ?_)
  · exact Keeps.refl _ _
  · refine Keeps.trans ?_ (State.sendTraining_keeps ..) (by decide +kernel)
    exact Keeps.refl _ _

theorem State.wakeTx_keeps (s : State) (lane : Nat) : Keeps ⟨[.out, .lanes], [(0x700309, 0x700309),
    (0x701001, 0x701001)]⟩ s (State.wakeTx s lane) := by
  unfold State.wakeTx
  refine Keeps.ite (fun _ => ?_) (fun _ => ?_)
  · refine Keeps.ite (fun _ => ?_) (fun _ => ?_)
    · refine Keeps.trans ?_ (State.sendTraining_keeps ..) (by decide +kernel)
      refine Keeps.trans ?_ (State.showSleep_keeps ..) (by decide +kernel)
      refine Keeps.trans ?_ (State.putLane_keeps ..) (by decide +kernel)
      exact Keeps.refl _ _
    · exact Keeps.refl _ _
  · refine Keeps.ite (fun _ => ?_) (fun _ => ?_)
    · refine Keeps.trans ?_ (State.wakePort_keeps ..) (by decide +kernel)
      refine Keeps.trans ?_ (State.pute_keeps1 ..) (by decide +kernel)
      exact Keeps.refl _ _
    · exact Keeps.refl _ _

theorem State.sendHeld_keeps (lane : Nat) (s : State) (b : Held) : Keeps ⟨[.out, .lanes], []⟩ s
    (State.sendHeld lane s b) := by
  unfold State.sendHeld
  dsimp only
  refine Keeps.trans ?_ (State.sendSlot_keeps ..) (by decide +kernel)
  refine Keeps.trans ?_ (State.putGroup_keeps ..) (by decide +kernel)
  refine Keeps.trans ?_ (State.dueRows_keeps ..) (by decide +kernel)
  exact Keeps.refl _ _

theorem State.sendNew_keeps (s : State) (lane : Nat) (b : Held) : Keeps ⟨[.out, .lanes], []⟩ s
    (State.sendNew s lane b) := by
  unfold State.sendNew
  dsimp only
  refine Keeps.trans ?_ (State.putGroup_keeps ..) (by decide +kernel)
  refine Keeps.trans ?_ (State.sendHeld_keeps ..) (by decide +kernel)
  exact Keeps.refl _ _

theorem State.sendQueued_keeps (lane : Nat) (s : State) (b : Held) : Keeps ⟨[.out, .lanes], []⟩ s
    (State.sendQueued lane s b) := by
  unfold State.sendQueued
  dsimp only
  refine Keeps.ite (fun _ => ?_) (fun _ => ?_)
  · refine Keeps.ite (fun _ => ?_) (fun _ => ?_)
    · refine Keeps.trans ?_ (State.fillerRow_keeps ..) (by decide +kernel)
      exact Keeps.refl _ _
    · refine Keeps.trans ?_ (State.sendNew_keeps ..) (by decide +kernel)
      exact Keeps.refl _ _
  · refine Keeps.trans ?_ (State.putGroup_keeps ..) (by decide +kernel)
    exact Keeps.refl _ _

theorem State.drainQueue_keeps (s : State) (lane : Nat) : Keeps ⟨[.out, .lanes], []⟩ s (State.drainQueue
    s lane) := by
  unfold State.drainQueue
  dsimp only
  refine Keeps.foldl ?_ (fun _ _ => ?_)
  · refine Keeps.trans ?_ (State.putGroup_keeps ..) (by decide +kernel)
    exact Keeps.refl _ _
  · refine Keeps.trans ?_ (State.sendQueued_keeps ..) (by decide +kernel)
    exact Keeps.refl _ _

theorem State.sendBlock_keeps (s : State) (lane : Nat) (kind : Nat) (payload : Bytes) (rows : List Nat)
    : Keeps ⟨[.out, .lanes], [(0x700309, 0x700309), (0x701001, 0x701001)]⟩ s (State.sendBlock s lane
    kind payload rows) := by
  unfold State.sendBlock
  dsimp only
  refine Keeps.ite (fun _ => ?_) (fun _ => ?_)
  · refine Keeps.trans ?_ (State.putGroup_keeps ..) (by decide +kernel)
    refine Keeps.trans ?_ (State.putBlock_keeps ..) (by decide +kernel)
    refine Keeps.trans ?_ (State.wakeTx_keeps ..) (by decide +kernel)
    exact Keeps.refl _ _
  · refine Keeps.ite (fun _ => ?_) (fun _ => ?_)
    · refine Keeps.optE ?_ (fun _ => ?_)
      · refine Keeps.trans ?_ (State.sendQueued_keeps ..) (by decide +kernel)
        refine Keeps.trans ?_ (State.wakeTx_keeps ..) (by decide +kernel)
        exact Keeps.refl _ _
      · refine Keeps.trans ?_ (State.fillerRow_keeps ..) (by decide +kernel)
        exact Keeps.refl _ _
    · refine Keeps.trans ?_ (State.sendSlot_keeps ..) (by decide +kernel)
      refine Keeps.trans ?_ (State.dueRows_keeps ..) (by decide +kernel)
      refine Keeps.trans ?_ (State.wakeTx_keeps ..) (by decide +kernel)
      exact Keeps.refl _ _

theorem State.resendHeld_keeps (s : State) (lane : Nat) (again : List Held) : Keeps ⟨[.out, .lanes], []⟩
    s (State.resendHeld s lane again) := by
  unfold State.resendHeld
  dsimp only
  refine Keeps.foldl ?_ (fun _ _ => ?_)
  · refine Keeps.trans ?_ (State.putGroup_keeps ..) (by decide +kernel)
    exact Keeps.refl _ _
  · refine Keeps.trans ?_ (State.sendHeld_keeps ..) (by decide +kernel)
    exact Keeps.refl _ _

theorem State.sendAck_keeps (s : State) (p : Nat) : Keeps ⟨[.out, .lanes], [(0x700202, 0x700202),
    (0x700309, 0x700309), (0x701001, 0x701001)]⟩ s (State.sendAck s p) := by
  unfold State.sendAck
  dsimp only
  refine Keeps.optE ?_ (fun _ => ?_)
  · refine Keeps.trans ?_ (State.sendBlock_keeps ..) (by decide +kernel)
    exact Keeps.refl _ _
  · refine Keeps.trans ?_ (State.inc_keeps1 ..) (by decide +kernel)
    exact Keeps.refl _ _

end Sys2Proof.Machine
end

