-- ==== Sys2Proof/Laws/Keeps/Ingress.lean ====
section
/-! SUPPORT. What each operation of Machine/Ingress.lean may change. -/

set_option Elab.async false

namespace Sys2Proof.Machine

theorem State.putStore_keeps (s : State) (i : Nat) (f : Frame) : Keeps ⟨[.ingress], []⟩ s
    (State.putStore s i f) := by
  unfold State.putStore
  refine Keeps.ite (fun _ => ?_) (fun _ => ?_)
  · refine Keeps.upd ?_ (hi := Or.inl (by decide +kernel))
    exact Keeps.refl _ _
  · refine Keeps.upd ?_ (hi := Or.inl (by decide +kernel))
    exact Keeps.refl _ _

theorem State.putNext_keeps (s : State) (f : Frame) : Keeps ⟨[.ingress], []⟩ s (State.putNext s f) := by
  unfold State.putNext
  refine Keeps.trans ?_ (State.putStore_keeps ..) (by decide +kernel)
  exact Keeps.refl _ _

theorem State.putFrameAt_keeps (s : State) (d : Dest) (f : Frame) : Keeps ⟨[.ingress], []⟩ s
    (State.putFrameAt s d f) := by
  unfold State.putFrameAt
  split
  · refine Keeps.trans ?_ (State.putNext_keeps ..) (by decide +kernel)
    exact Keeps.refl _ _
  · refine Keeps.upd ?_ (hi := Or.inl (by decide +kernel))
    exact Keeps.refl _ _

theorem State.judgeComplete_keeps (s : State) (d : Dest) : Keeps ⟨[.ingress], [(0x300201, 0x300201),
    (0x30020E, 0x30020E), (0x350001, 0x350001)]⟩ s (State.judgeComplete s d) := by
  unfold State.judgeComplete
  dsimp only
  refine Keeps.ite (fun _ => ?_) (fun _ => ?_)
  · refine Keeps.optE ?_ (fun _ => ?_)
    · refine Keeps.ite (fun _ => ?_) (fun _ => ?_)
      · exact Keeps.refl _ _
      · split
        · refine Keeps.trans ?_ (State.add_keeps1 ..) (by decide +kernel)
          refine Keeps.trans ?_ (State.putFrameAt_keeps ..) (by decide +kernel)
          exact Keeps.refl _ _
        · refine Keeps.trans ?_ (State.pute_keeps1 ..) (by decide +kernel)
          refine Keeps.trans ?_ (State.add_keeps1 ..) (by decide +kernel)
          refine Keeps.trans ?_ (State.putFrameAt_keeps ..) (by decide +kernel)
          exact Keeps.refl _ _
    · refine Keeps.trans ?_ (State.inc_keeps1 ..) (by decide +kernel)
      refine Keeps.trans ?_ (State.putFrameAt_keeps ..) (by decide +kernel)
      exact Keeps.refl _ _
  · exact Keeps.refl _ _

theorem State.fileTile_keeps (s : State) (d : Dest) (p : Nat) (b : Nat) (c : Nat) (stream : Bytes) :
    Keeps ⟨[.ingress], [(0x300201, 0x300201), (0x300208, 0x30020A), (0x30020E, 0x30020E), (0x310003,
    0x310003), (0x350001, 0x350001)]⟩ s (State.fileTile s d p b c stream) := by
  unfold State.fileTile
  dsimp only
  refine Keeps.ite (fun _ => ?_) (fun _ => ?_)
  · refine Keeps.trans ?_ (State.inc_keeps1 ..) (by decide +kernel)
    exact Keeps.refl _ _
  · refine Keeps.ite (fun _ => ?_) (fun _ => ?_)
    · refine Keeps.trans ?_ (State.inc_keeps1 ..) (by decide +kernel)
      exact Keeps.refl _ _
    · refine Keeps.ite (fun _ => ?_) (fun _ => ?_)
      · refine Keeps.trans ?_ (State.inc_keeps1 ..) (by decide +kernel)
        exact Keeps.refl _ _
      · refine Keeps.trans ?_ (State.judgeComplete_keeps ..) (by decide +kernel)
        refine Keeps.trans ?_ (State.ince_keeps1 ..) (by decide +kernel)
        refine Keeps.trans ?_ (State.add_keeps1 ..) (by decide +kernel)
        refine Keeps.trans ?_ (State.add_keeps1 ..) (by decide +kernel)
        refine Keeps.trans ?_ (State.putFrameAt_keeps ..) (by decide +kernel)
        exact Keeps.refl _ _

theorem State.fileHeader_keeps (s : State) (d : Dest) (h : FrameHdr) : Keeps ⟨[.ingress], [(0x300201,
    0x300201), (0x300208, 0x300208), (0x30020E, 0x30020E), (0x350001, 0x350001)]⟩ s (State.fileHeader s
    d h) := by
  unfold State.fileHeader
  dsimp only
  refine Keeps.ite (fun _ => ?_) (fun _ => ?_)
  · refine Keeps.trans ?_ (State.inc_keeps1 ..) (by decide +kernel)
    exact Keeps.refl _ _
  · refine Keeps.trans ?_ (State.judgeComplete_keeps ..) (by decide +kernel)
    refine Keeps.trans ?_ (State.putFrameAt_keeps ..) (by decide +kernel)
    exact Keeps.refl _ _

theorem State.fileClose_keeps (s : State) (d : Dest) (count : Nat) : Keeps ⟨[.ingress], [(0x300201,
    0x300201), (0x300208, 0x300208), (0x30020E, 0x30020E), (0x350001, 0x350001)]⟩ s (State.fileClose s d
    count) := by
  unfold State.fileClose
  dsimp only
  refine Keeps.ite (fun _ => ?_) (fun _ => ?_)
  · refine Keeps.trans ?_ (State.inc_keeps1 ..) (by decide +kernel)
    exact Keeps.refl _ _
  · refine Keeps.trans ?_ (State.judgeComplete_keeps ..) (by decide +kernel)
    refine Keeps.trans ?_ (State.putFrameAt_keeps ..) (by decide +kernel)
    exact Keeps.refl _ _

theorem State.fileParcel_keeps (s : State) (d : Dest) (bs : Bytes) : Keeps ⟨[.ingress], [(0x300201,
    0x300201), (0x300208, 0x30020A), (0x30020E, 0x30020E), (0x310003, 0x310003), (0x350001, 0x350001)]⟩
    s (State.fileParcel s d bs) := by
  unfold State.fileParcel
  dsimp only
  split
  · refine Keeps.trans ?_ (State.fileTile_keeps ..) (by decide +kernel)
    exact Keeps.refl _ _
  · refine Keeps.trans ?_ (State.fileHeader_keeps ..) (by decide +kernel)
    exact Keeps.refl _ _
  · refine Keeps.trans ?_ (State.fileClose_keeps ..) (by decide +kernel)
    exact Keeps.refl _ _

theorem State.keepSpill_keeps (s : State) (n : Option Nat) : Keeps ⟨[.ingress], []⟩ s (State.keepSpill s
    n) := by
  unfold State.keepSpill
  dsimp only
  refine Keeps.upd ?_ (hi := Or.inl (by decide +kernel))
  exact Keeps.refl _ _

theorem State.dropSpill_keeps (s : State) : Keeps ⟨[.ingress], []⟩ s (State.dropSpill s) := by
  unfold State.dropSpill
  dsimp only
  refine Keeps.upd ?_ (hi := Or.inl (by decide +kernel))
  refine Keeps.trans ?_ (State.keepSpill_keeps ..) (by decide +kernel)
  exact Keeps.refl _ _

theorem State.passOver_keeps (s : State) (n : Nat) : Keeps ⟨[.ingress], [(0x30020C, 0x30020C)]⟩ s
    (State.passOver s n) := by
  unfold State.passOver
  refine Keeps.trans ?_ (State.inc_keeps1 ..) (by decide +kernel)
  refine Keeps.upd ?_ (hi := Or.inl (by decide +kernel))
  exact Keeps.refl _ _

theorem State.leaveNext_keeps (s : State) : Keeps ⟨[.codec, .comp], [(0x400101, 0x400101)]⟩ s
    (State.leaveNext s) := by
  unfold State.leaveNext
  refine Keeps.ite (fun _ => ?_) (fun _ => ?_)
  · exact Keeps.refl _ _
  · refine Keeps.trans ?_ (State.put_keeps1 ..) (by decide +kernel)
    refine Keeps.upd ?_ (hc := Or.inl (by decide +kernel)) (hcm := Or.inl (by decide +kernel))
    exact Keeps.refl _ _

theorem State.releaseNext_keeps (s : State) : Keeps ⟨[.ingress, .codec, .comp], [(0x400101, 0x400101)]⟩
    s (State.releaseNext s) := by
  unfold State.releaseNext
  dsimp only
  refine Keeps.upd ?_ (hi := Or.inl (by decide +kernel))
  refine Keeps.trans ?_ (State.keepSpill_keeps ..) (by decide +kernel)
  refine Keeps.trans ?_ (State.putNext_keeps ..) (by decide +kernel)
  refine Keeps.trans ?_ (State.leaveNext_keeps ..) (by decide +kernel)
  exact Keeps.refl _ _

theorem State.passSpilled_keeps (s : State) (n : Nat) : Keeps ⟨[.ingress, .codec, .comp], [(0x30020C,
    0x30020C), (0x400101, 0x400101)]⟩ s (State.passSpilled s n) := by
  unfold State.passSpilled
  refine Keeps.ite (fun _ => ?_) (fun _ => ?_)
  · refine Keeps.trans ?_ (State.releaseNext_keeps ..) (by decide +kernel)
    refine Keeps.trans ?_ (State.passOver_keeps ..) (by decide +kernel)
    exact Keeps.refl _ _
  · dsimp only
    refine Keeps.upd ?_ (hi := Or.inl (by decide +kernel))
    refine Keeps.trans ?_ (State.passOver_keeps ..) (by decide +kernel)
    refine Keeps.trans ?_ (State.keepSpill_keeps ..) (by decide +kernel)
    exact Keeps.refl _ _

theorem State.spillFull_keeps (s : State) (n : Nat) : Keeps ⟨[.ingress], [(0x300211, 0x300211)]⟩ s
    (State.spillFull s n) := by
  unfold State.spillFull
  dsimp only
  refine Keeps.trans ?_ (State.inc_keeps1 ..) (by decide +kernel)
  refine Keeps.optE ?_ (fun _ => ?_)
  · refine Keeps.upd ?_ (hi := Or.inl (by decide +kernel))
    exact Keeps.refl _ _
  · refine Keeps.trans ?_ (State.putNext_keeps ..) (by decide +kernel)
    exact Keeps.refl _ _

theorem State.spillParcel_keeps (s : State) (n : Nat) (bs : Bytes) : Keeps ⟨[.ingress, .codec, .comp,
    .memory, .logs], [(0x180002, 0x180002), (0x180101, 0x180103), (0x300208, 0x300208), (0x30020C,
    0x30020C), (0x300211, 0x300211), (0x400101, 0x400101), (0x780207, 0x780207), (0x780301, 0x780303),
    (0x900005, 0x900005)]⟩ s (State.spillParcel s n bs) := by
  unfold State.spillParcel
  dsimp only
  refine Keeps.ite (fun _ => ?_) (fun _ => ?_)
  · refine Keeps.trans ?_ (State.inc_keeps1 ..) (by decide +kernel)
    exact Keeps.refl _ _
  · refine Keeps.ite (fun _ => ?_) (fun _ => ?_)
    · refine Keeps.trans ?_ (State.spillFull_keeps ..) (by decide +kernel)
      exact Keeps.refl _ _
    · split
      · refine Keeps.upd ?_ (hi := Or.inl (by decide +kernel))
        refine Keeps.snd (by assumption) ?_
        refine Keeps.trans ?_ (State.dramWrite_keeps ..) (by decide +kernel)
        exact Keeps.refl _ _
      · refine Keeps.trans ?_ (State.passSpilled_keeps ..) (by decide +kernel)
        refine Keeps.snd (by assumption) ?_
        refine Keeps.trans ?_ (State.dramWrite_keeps ..) (by decide +kernel)
        exact Keeps.refl _ _

theorem State.copySpilled_keeps (x : Bool × State) (r : Spilled) :
    Keeps ⟨[.ingress, .memory, .logs], [(0x180002, 0x180002), (0x180101, 0x180103), (0x300201, 0x300202), (0x300208, 0x30020A), (0x30020E, 0x30020E), (0x310003, 0x310003), (0x350001, 0x350001), (0x780207, 0x780207), (0x780301, 0x780303), (0x900005, 0x900005)]⟩ x.2 (State.copySpilled x r).2 := by
  unfold State.copySpilled
  split
  · exact Keeps.snd (by assumption) ((State.dramRead_keeps ..).mono (by decide +kernel))
  · dsimp only
    refine Keeps.ite (fun _ => ?_) (fun _ => ?_)
    · refine Keeps.trans ?_ (State.fileParcel_keeps ..) (by decide +kernel)
      exact Keeps.snd (by assumption) ((State.dramRead_keeps ..).mono (by decide +kernel))
    · refine Keeps.trans ?_ (State.inc_keeps1 ..) (by decide +kernel)
      exact Keeps.snd (by assumption) ((State.dramRead_keeps ..).mono (by decide +kernel))

theorem State.doSpillCopyDone_keeps (s : State) : Keeps ⟨[.ingress, .codec, .comp, .memory, .logs],
    [(0x180002, 0x180002), (0x180101, 0x180103), (0x300201, 0x300202), (0x300208, 0x30020A), (0x30020C,
    0x30020C), (0x30020E, 0x30020E), (0x310003, 0x310003), (0x350001, 0x350001), (0x400101, 0x400101),
    (0x780207, 0x780207), (0x780301, 0x780303), (0x900005, 0x900005)]⟩ s (State.doSpillCopyDone s) := by
  unfold State.doSpillCopyDone
  split
  · exact Keeps.refl _ _
  · refine Keeps.ite (fun _ => ?_) (fun _ => ?_)
    · split
      · dsimp only
        refine Keeps.upd ?_ (hi := Or.inl (by decide +kernel))
        refine Keeps.trans ?_ (State.keepSpill_keeps ..) (by decide +kernel)
        refine Keeps.snd (by assumption) ?_
        refine Keeps.sndFoldl ?_ (fun _ _ => ?_)
        · dsimp only
          exact Keeps.refl _ _
        · refine Keeps.trans ?_ (State.copySpilled_keeps ..) (by decide +kernel)
          exact Keeps.refl _ _
      · refine Keeps.trans ?_ (State.passSpilled_keeps ..) (by decide +kernel)
        refine Keeps.snd (by assumption) ?_
        refine Keeps.sndFoldl ?_ (fun _ _ => ?_)
        · dsimp only
          exact Keeps.refl _ _
        · refine Keeps.trans ?_ (State.copySpilled_keeps ..) (by decide +kernel)
          exact Keeps.refl _ _
    · exact Keeps.refl _ _

theorem State.fileStreamed_keeps (s : State) (n : Nat) (bs : Bytes) : Keeps ⟨[.ingress, .codec, .comp,
    .memory, .logs], [(0x180002, 0x180002), (0x180101, 0x180103), (0x300201, 0x300201), (0x300206,
    0x30020A), (0x30020C, 0x30020C), (0x30020E, 0x30020F), (0x300211, 0x300211), (0x310003, 0x310003),
    (0x350001, 0x350001), (0x400101, 0x400101), (0x780207, 0x780207), (0x780301, 0x780303), (0x900005,
    0x900005)]⟩ s (State.fileStreamed s n bs) := by
  unfold State.fileStreamed
  refine Keeps.ite (fun _ => ?_) (fun _ => ?_)
  · refine Keeps.trans ?_ (State.inc_keeps1 ..) (by decide +kernel)
    exact Keeps.refl _ _
  · split
    · refine Keeps.ite (fun _ => ?_) (fun _ => ?_)
      · refine Keeps.trans ?_ (State.fileParcel_keeps ..) (by decide +kernel)
        refine Keeps.trans ?_ (State.putNext_keeps ..) (by decide +kernel)
        exact Keeps.refl _ _
      · refine Keeps.trans ?_ (State.inc_keeps1 ..) (by decide +kernel)
        exact Keeps.refl _ _
    · refine Keeps.ite (fun _ => ?_) (fun _ => ?_)
      · refine Keeps.ite (fun _ => ?_) (fun _ => ?_)
        · refine Keeps.trans ?_ (State.spillParcel_keeps ..) (by decide +kernel)
          exact Keeps.refl _ _
        · refine Keeps.trans ?_ (State.fileParcel_keeps ..) (by decide +kernel)
          exact Keeps.refl _ _
      · refine Keeps.ite (fun _ => ?_) (fun _ => ?_)
        · refine Keeps.ite (fun _ => ?_) (fun _ => ?_)
          · refine Keeps.trans ?_ (State.inc_keeps1 ..) (by decide +kernel)
            exact Keeps.refl _ _
          · refine Keeps.ite (fun _ => ?_) (fun _ => ?_)
            · refine Keeps.trans ?_ (State.spillParcel_keeps ..) (by decide +kernel)
              refine Keeps.upd ?_ (hi := Or.inl (by decide +kernel))
              exact Keeps.refl _ _
            · refine Keeps.trans ?_ (State.inc_keeps1 ..) (by decide +kernel)
              exact Keeps.refl _ _
        · refine Keeps.trans ?_ (State.inc_keeps1 ..) (by decide +kernel)
          exact Keeps.refl _ _

theorem State.emptyCue_keeps (s : State) (cue : Nat) : Keeps ⟨[.ingress], [(0x350001, 0x350002)]⟩ s
    (State.emptyCue s cue) := by
  unfold State.emptyCue
  refine Keeps.trans ?_ (State.pute_keeps1 ..) (by decide +kernel)
  refine Keeps.trans ?_ (State.pute_keeps1 ..) (by decide +kernel)
  refine Keeps.upd ?_ (hi := Or.inl (by decide +kernel))
  exact Keeps.refl _ _

theorem State.takePages_keeps (s : State) (cue : Nat) (n : Nat) : Keeps ⟨[.ingress], []⟩ s
    (State.takePages s cue n).2 := by
  refine Keeps.pair (by unfold State.takePages; dsimp only) ?_
  dsimp only
  refine Keeps.upd ?_ (hi := Or.inl (by decide +kernel))
  exact Keeps.refl _ _

theorem State.fileCue_keeps (s : State) (cue : Nat) (bs : Bytes) : Keeps ⟨[.ingress, .memory, .logs],
    [(0x180002, 0x180002), (0x180101, 0x180103), (0x300201, 0x300201), (0x300208, 0x30020A), (0x30020E,
    0x30020F), (0x310003, 0x310003), (0x350001, 0x350002), (0x780207, 0x780207), (0x780301, 0x780303),
    (0x900005, 0x900005)]⟩ s (State.fileCue s cue bs) := by
  unfold State.fileCue
  refine Keeps.ite (fun _ => ?_) (fun _ => ?_)
  · refine Keeps.trans ?_ (State.inc_keeps1 ..) (by decide +kernel)
    exact Keeps.refl _ _
  · dsimp only
    refine Keeps.ite (fun _ => ?_) (fun _ => ?_)
    · refine Keeps.trans ?_ (State.inc_keeps1 ..) (by decide +kernel)
      refine Keeps.trans ?_ (State.pute_keeps1 ..) (by decide +kernel)
      refine Keeps.ite (fun _ => ?_) (fun _ => ?_)
      · exact Keeps.refl _ _
      · refine Keeps.trans ?_ (State.pute_keeps1 ..) (by decide +kernel)
        refine Keeps.trans ?_ (State.emptyCue_keeps ..) (by decide +kernel)
        exact Keeps.refl _ _
    · split
      · refine Keeps.trans ?_ (State.errorResponse_keeps ..) (by decide +kernel)
        refine Keeps.trans ?_ (State.pute_keeps1 ..) (by decide +kernel)
        refine Keeps.ite (fun _ => ?_) (fun _ => ?_)
        · exact Keeps.refl _ _
        · refine Keeps.trans ?_ (State.pute_keeps1 ..) (by decide +kernel)
          refine Keeps.trans ?_ (State.emptyCue_keeps ..) (by decide +kernel)
          exact Keeps.refl _ _
      · refine Keeps.trans ?_ (State.pute_keeps1 ..) (by decide +kernel)
        refine Keeps.trans ?_ (State.takePages_keeps ..) (by decide +kernel)
        refine Keeps.trans ?_ (State.fileParcel_keeps ..) (by decide +kernel)
        refine Keeps.ite (fun _ => ?_) (fun _ => ?_)
        · exact Keeps.refl _ _
        · refine Keeps.trans ?_ (State.pute_keeps1 ..) (by decide +kernel)
          refine Keeps.trans ?_ (State.emptyCue_keeps ..) (by decide +kernel)
          exact Keeps.refl _ _

theorem State.fileKept_keeps (s : State) (bs : Bytes) : Keeps ⟨[.ingress, .codec, .comp, .memory,
    .logs], [(0x180002, 0x180002), (0x180101, 0x180103), (0x300201, 0x300201), (0x300206, 0x30020A),
    (0x30020C, 0x30020C), (0x30020E, 0x30020F), (0x300211, 0x300211), (0x310003, 0x310003), (0x350001,
    0x350002), (0x400101, 0x400101), (0x780207, 0x780207), (0x780301, 0x780303), (0x900005, 0x900005)]⟩
    s (State.fileKept s bs) := by
  unfold State.fileKept
  dsimp only
  refine Keeps.ite (fun _ => ?_) (fun _ => ?_)
  · refine Keeps.trans ?_ (State.fileCue_keeps ..) (by decide +kernel)
    exact Keeps.refl _ _
  · refine Keeps.trans ?_ (State.fileStreamed_keeps ..) (by decide +kernel)
    exact Keeps.refl _ _

theorem State.judged_keepsF {F : Foot} {s t : State} {bs : Bytes} {ok : Bool} {act : State → State}
    (h : Keeps F s t) (hk : Foot.sub ⟨[], [(0x300201, 0x300202)]⟩ F = true) (g : ∀ u, Keeps F u (act u)) :
    Keeps F s (t.judged bs ok act) := by
  unfold State.judged
  have hi : ∀ m, m = 1 ∨ m = 2 → Keeps F t (t.inc 0x3002 m) := by
    rintro m (rfl | rfl)
    · exact ((State.inc_keeps1 t 0x3002 1).mono (F := ⟨[], [(0x300201, 0x300202)]⟩) (by decide +kernel)).mono hk
    · exact ((State.inc_keeps1 t 0x3002 2).mono (F := ⟨[], [(0x300201, 0x300202)]⟩) (by decide +kernel)).mono hk
  refine h.trans ?_ F.sub_refl
  refine Keeps.ite (fun _ => hi _ (.inl rfl)) (fun _ => Keeps.ite (fun _ => hi _ (.inr rfl)) (fun _ =>
    Keeps.ite (fun _ => hi _ (.inl rfl)) (fun _ => g t)))

theorem State.startRelay_keeps (s : State) (out : Nat) (hdr : Bytes) (blocks : List Bytes) : Keeps
    ⟨[.out, .ingress, .lanes], [(0x301003, 0x301003), (0x700309, 0x700309), (0x701001, 0x701001)]⟩ s
    (State.startRelay s out hdr blocks) := by
  unfold State.startRelay
  dsimp only
  split
  · refine Keeps.trans ?_ (State.emit_keeps ..) (by decide +kernel)
    refine Keeps.trans ?_ (State.ince_keeps1 ..) (by decide +kernel)
    refine Keeps.upd ?_ (hi := Or.inl (by decide +kernel))
    exact Keeps.refl _ _
  · refine Keeps.foldl ?_ (fun _ _ => ?_)
    · refine Keeps.trans ?_ (State.sendBlock_keeps ..) (by decide +kernel)
      refine Keeps.trans ?_ (State.emit_keeps ..) (by decide +kernel)
      refine Keeps.trans ?_ (State.ince_keeps1 ..) (by decide +kernel)
      refine Keeps.upd ?_ (hi := Or.inl (by decide +kernel))
      exact Keeps.refl _ _
    · refine Keeps.trans ?_ (State.sendBlock_keeps ..) (by decide +kernel)
      exact Keeps.refl _ _

theorem State.relayWaits_keeps (s : State) (src : Nat) (out : Nat) (hdr : Bytes) (blocks : List Bytes) :
    Keeps ⟨[.ingress], [(0x300205, 0x300205), (0x301004, 0x301004)]⟩ s (State.relayWaits s src out hdr
    blocks) := by
  unfold State.relayWaits
  dsimp only
  refine Keeps.ite (fun _ => ?_) (fun _ => ?_)
  · refine Keeps.upd ?_ (hi := Or.inl (by decide +kernel))
    exact Keeps.refl _ _
  · refine Keeps.trans ?_ (State.ince_keeps1 ..) (by decide +kernel)
    refine Keeps.trans ?_ (State.inc_keeps1 ..) (by decide +kernel)
    exact Keeps.refl _ _

theorem State.relayOn_keeps (src : Nat) (hdr : Bytes) (blocks : List Bytes) (s : State) (out : Nat) :
    Keeps ⟨[.out, .ingress, .lanes], [(0x300205, 0x300205), (0x301003, 0x301004), (0x700309, 0x700309),
    (0x701001, 0x701001)]⟩ s (State.relayOn src hdr blocks s out) := by
  unfold State.relayOn
  refine Keeps.ite (fun _ => ?_) (fun _ => ?_)
  · refine Keeps.trans ?_ (State.relayWaits_keeps ..) (by decide +kernel)
    exact Keeps.refl _ _
  · refine Keeps.ite (fun _ => ?_) (fun _ => ?_)
    · refine Keeps.trans ?_ (State.relayWaits_keeps ..) (by decide +kernel)
      refine Keeps.trans ?_ (State.wakePort_keeps ..) (by decide +kernel)
      refine Keeps.upd ?_ (hi := Or.inl (by decide +kernel))
      exact Keeps.refl _ _
    · refine Keeps.trans ?_ (State.startRelay_keeps ..) (by decide +kernel)
      exact Keeps.refl _ _

theorem State.freeOuts_keeps (s : State) (outs : List Nat) : Keeps ⟨[.ingress], []⟩ s (State.freeOuts s
    outs) := by
  unfold State.freeOuts
  dsimp only
  refine Keeps.upd ?_ (hi := Or.inl (by decide +kernel))
  exact Keeps.refl _ _

theorem State.endInbound_keeps (s : State) (port : Nat) : Keeps ⟨[.ingress], []⟩ s (State.endInbound s
    port) := by
  unfold State.endInbound
  split
  · exact Keeps.refl _ _
  · refine Keeps.trans ?_ (State.freeOuts_keeps ..) (by decide +kernel)
    refine Keeps.upd ?_ (hi := Or.inl (by decide +kernel))
    exact Keeps.refl _ _

theorem State.wholeInbound_keeps (s : State) (port : Nat) : Keeps ⟨[.ingress], []⟩ s (State.wholeInbound
    s port) := by
  unfold State.wholeInbound
  split
  · exact Keeps.refl _ _
  · refine Keeps.ite (fun _ => ?_) (fun _ => ?_)
    · exact Keeps.refl _ _
    · refine Keeps.ite (fun _ => ?_) (fun _ => ?_)
      · refine Keeps.trans ?_ (State.freeOuts_keeps ..) (by decide +kernel)
        refine Keeps.upd ?_ (hi := Or.inl (by decide +kernel))
        exact Keeps.refl _ _
      · refine Keeps.trans ?_ (State.endInbound_keeps ..) (by decide +kernel)
        exact Keeps.refl _ _

theorem State.doParcelHeader_keeps (s : State) (port : Nat) (hdr : Bytes) : Keeps ⟨[.out, .ingress,
    .lanes], [(0x300200, 0x3002FF), (0x301002, 0x301004), (0x700309, 0x700309), (0x701001, 0x701001)]⟩ s
    (State.doParcelHeader s port hdr) := by
  unfold State.doParcelHeader
  dsimp only
  refine Keeps.ite (fun _ => ?_) (fun _ => ?_)
  · refine Keeps.trans ?_ (State.wholeInbound_keeps ..) (by decide +kernel)
    refine Keeps.upd ?_ (hi := Or.inl (by decide +kernel))
    refine Keeps.trans ?_ (State.inc_keeps1 ..) (by decide +kernel)
    refine Keeps.trans ?_ (State.ince_keeps1 ..) (by decide +kernel)
    refine Keeps.trans ?_ (State.endInbound_keeps ..) (by decide +kernel)
    exact Keeps.refl _ _
  · refine Keeps.trans ?_ (State.wholeInbound_keeps ..) (by decide +kernel)
    refine Keeps.upd ?_ (hi := Or.inl (by decide +kernel))
    refine Keeps.foldl ?_ (fun _ _ => ?_)
    · refine Keeps.optE ?_ (fun _ => ?_)
      · refine Keeps.optT ?_ (fun _ => ?_)
        · refine Keeps.trans ?_ (State.ince_keeps1 ..) (by decide +kernel)
          refine Keeps.trans ?_ (State.endInbound_keeps ..) (by decide +kernel)
          exact Keeps.refl _ _
        · refine Keeps.trans ?_ (State.inc_keepsO ..) (by decide +kernel)
          exact Keeps.refl _ _
      · refine Keeps.trans ?_ (State.inc_keeps1 ..) (by decide +kernel)
        exact Keeps.refl _ _
    · refine Keeps.trans ?_ (State.relayOn_keeps ..) (by decide +kernel)
      exact Keeps.refl _ _

theorem State.doRelayStart_keeps (s : State) (port : Nat) : Keeps ⟨[.out, .ingress, .lanes], [(0x301003,
    0x301003), (0x700309, 0x700309), (0x701001, 0x701001)]⟩ s (State.doRelayStart s port) := by
  unfold State.doRelayStart
  dsimp only
  split
  · refine Keeps.trans ?_ (State.pute_keeps1 ..) (by decide +kernel)
    refine Keeps.upd ?_ (hi := Or.inl (by decide +kernel))
    exact Keeps.refl _ _
  · refine Keeps.trans ?_ (State.startRelay_keeps ..) (by decide +kernel)
    refine Keeps.upd ?_ (hi := Or.inl (by decide +kernel))
    refine Keeps.trans ?_ (State.pute_keeps1 ..) (by decide +kernel)
    refine Keeps.upd ?_ (hi := Or.inl (by decide +kernel))
    exact Keeps.refl _ _

theorem State.passBlock_keeps (port : Nat) (s : State) (payload : Bytes) : Keeps ⟨[.out, .ingress,
    .lanes], [(0x700309, 0x700309), (0x701001, 0x701001)]⟩ s (State.passBlock port s payload) := by
  unfold State.passBlock
  split
  · exact Keeps.refl _ _
  · dsimp only
    refine Keeps.trans ?_ (State.wholeInbound_keeps ..) (by decide +kernel)
    refine Keeps.upd ?_ (hi := Or.inl (by decide +kernel))
    refine Keeps.foldl ?_ (fun _ _ => ?_)
    · exact Keeps.refl _ _
    · refine Keeps.ite (fun _ => ?_) (fun _ => ?_)
      · refine Keeps.trans ?_ (State.sendBlock_keeps ..) (by decide +kernel)
        exact Keeps.refl _ _
      · refine Keeps.trans ?_ (State.sendBlock_keeps ..) (by decide +kernel)
        exact Keeps.refl _ _

theorem State.parcelBlock_keeps (s : State) (port : Nat) (payload : Bytes) : Keeps ⟨[.out, .ingress,
    .lanes], [(0x700309, 0x700309), (0x701001, 0x701001)]⟩ s (State.parcelBlock s port payload) := by
  unfold State.parcelBlock
  split
  · exact Keeps.refl _ _
  · refine Keeps.ite (fun _ => ?_) (fun _ => ?_)
    · exact Keeps.refl _ _
    · refine Keeps.trans ?_ (State.passBlock_keeps ..) (by decide +kernel)
      exact Keeps.refl _ _

theorem State.sendAbort_keeps (s : State) (out : Nat) : Keeps ⟨[.out, .lanes], [(0x700309, 0x700309),
    (0x701001, 0x701001)]⟩ s (State.sendAbort s out) := by
  unfold State.sendAbort
  refine Keeps.trans ?_ (State.sendBlock_keeps ..) (by decide +kernel)
  exact Keeps.refl _ _

theorem State.relayPortDown_keeps (s : State) (port : Nat) : Keeps ⟨[.out, .ingress, .lanes],
    [(0x300205, 0x300205), (0x301004, 0x301004), (0x700309, 0x700309), (0x701001, 0x701001)]⟩ s
    (State.relayPortDown s port) := by
  unfold State.relayPortDown
  dsimp only
  refine Keeps.trans ?_ (State.adde_keeps1 ..) (by decide +kernel)
  refine Keeps.trans ?_ (State.add_keeps1 ..) (by decide +kernel)
  refine Keeps.upd ?_ (hi := Or.inl (by decide +kernel))
  refine Keeps.ite (fun _ => ?_) (fun _ => ?_)
  · refine Keeps.trans ?_ (State.sendAbort_keeps ..) (by decide +kernel)
    exact Keeps.refl _ _
  · exact Keeps.refl _ _

theorem State.abortInbound_keeps (s : State) (port : Nat) : Keeps ⟨[.out, .ingress, .lanes], [(0x700309,
    0x700309), (0x701001, 0x701001)]⟩ s (State.abortInbound s port) := by
  unfold State.abortInbound
  split
  · exact Keeps.refl _ _
  · dsimp only
    refine Keeps.trans ?_ (State.endInbound_keeps ..) (by decide +kernel)
    refine Keeps.upd ?_ (hi := Or.inl (by decide +kernel))
    refine Keeps.foldl ?_ (fun _ _ => ?_)
    · exact Keeps.refl _ _
    · refine Keeps.trans ?_ (State.sendAbort_keeps ..) (by decide +kernel)
      exact Keeps.refl _ _

theorem State.dropPartial_keeps (s : State) (p : Nat) : Keeps ⟨[.out, .ingress, .lanes], [(0x300202,
    0x300202), (0x700309, 0x700309), (0x701001, 0x701001)]⟩ s (State.dropPartial s p) := by
  unfold State.dropPartial
  split
  · exact Keeps.refl _ _
  · refine Keeps.ite (fun _ => ?_) (fun _ => ?_)
    · refine Keeps.trans ?_ (State.endInbound_keeps ..) (by decide +kernel)
      exact Keeps.refl _ _
    · refine Keeps.optT ?_ (fun _ => ?_)
      · refine Keeps.trans ?_ (State.abortInbound_keeps ..) (by decide +kernel)
        exact Keeps.refl _ _
      · refine Keeps.trans ?_ (State.inc_keeps1 ..) (by decide +kernel)
        exact Keeps.refl _ _

theorem State.startParcel_keeps (s : State) (p : Nat) (payload : Bytes) : Keeps ⟨[.out, .ingress,
    .lanes], [(0x300202, 0x300202), (0x700309, 0x700309), (0x701001, 0x701001)]⟩ s (State.startParcel s
    p payload) := by
  unfold State.startParcel
  dsimp only
  refine Keeps.ite (fun _ => ?_) (fun _ => ?_)
  · refine Keeps.trans ?_ (State.passBlock_keeps ..) (by decide +kernel)
    exact Keeps.refl _ _
  · refine Keeps.upd ?_ (hi := Or.inl (by decide +kernel))
    refine Keeps.trans ?_ (State.dropPartial_keeps ..) (by decide +kernel)
    exact Keeps.refl _ _

theorem State.showReplay_keeps (s : State) (on : Bool) : Keeps ⟨[], [(0x304101, 0x304101)]⟩ s
    (State.showReplay s on) := by
  unfold State.showReplay
  refine Keeps.trans ?_ (State.put_keeps1 ..) (by decide +kernel)
  exact Keeps.refl _ _

theorem State.startStep_keeps (s : State) (r : Replay) : Keeps ⟨[.ingress, .codec, .comp], [(0x400101,
    0x400101)]⟩ s (State.startStep s r) := by
  unfold State.startStep
  dsimp only
  refine Keeps.upd ?_ (hi := Or.inl (by decide +kernel))
  refine Keeps.trans ?_ (State.putNext_keeps ..) (by decide +kernel)
  refine Keeps.trans ?_ (State.leaveNext_keeps ..) (by decide +kernel)
  exact Keeps.refl _ _

theorem State.activateReplay_keeps (s : State) (g : Trigger) : Keeps ⟨[.ingress, .codec, .comp],
    [(0x30020C, 0x30020C), (0x304101, 0x304101), (0x304103, 0x304103), (0x400101, 0x400101)]⟩ s
    (State.activateReplay s g) := by
  unfold State.activateReplay
  dsimp only
  refine Keeps.trans ?_ (State.startStep_keeps ..) (by decide +kernel)
  refine Keeps.upd ?_ (hi := Or.inl (by decide +kernel))
  refine Keeps.trans ?_ (State.put_keeps1 ..) (by decide +kernel)
  refine Keeps.trans ?_ (State.showReplay_keeps ..) (by decide +kernel)
  refine Keeps.trans ?_ (State.dropSpill_keeps ..) (by decide +kernel)
  split
  · exact Keeps.refl _ _
  · refine Keeps.trans ?_ (State.passOver_keeps ..) (by decide +kernel)
    exact Keeps.refl _ _

theorem State.endReplay_keeps (s : State) : Keeps ⟨[.ingress, .codec, .comp], [(0x304101, 0x304101),
    (0x400101, 0x400101)]⟩ s (State.endReplay s) := by
  unfold State.endReplay
  dsimp only
  refine Keeps.upd ?_ (hi := Or.inl (by decide +kernel))
  refine Keeps.trans ?_ (State.showReplay_keeps ..) (by decide +kernel)
  refine Keeps.trans ?_ (State.releaseNext_keeps ..) (by decide +kernel)
  refine Keeps.trans ?_ (State.dropSpill_keeps ..) (by decide +kernel)
  exact Keeps.refl _ _

theorem State.takeTrigger_keeps (s : State) (g : Trigger) : Keeps ⟨[.ingress, .codec, .comp],
    [(0x30020C, 0x30020C), (0x304101, 0x304101), (0x304103, 0x304103), (0x400101, 0x400101)]⟩ s
    (State.takeTrigger s g) := by
  unfold State.takeTrigger
  refine Keeps.ite (fun _ => ?_) (fun _ => ?_)
  · refine Keeps.upd ?_ (hi := Or.inl (by decide +kernel))
    exact Keeps.refl _ _
  · refine Keeps.ite (fun _ => ?_) (fun _ => ?_)
    · refine Keeps.upd ?_ (hi := Or.inl (by decide +kernel))
      exact Keeps.refl _ _
    · refine Keeps.ite (fun _ => ?_) (fun _ => ?_)
      · refine Keeps.trans ?_ (State.activateReplay_keeps ..) (by decide +kernel)
        exact Keeps.refl _ _
      · refine Keeps.upd ?_ (hi := Or.inl (by decide +kernel))
        exact Keeps.refl _ _

theorem State.doCueCopyDone_keeps (s : State) : Keeps ⟨[.ingress, .memory, .logs], [(0x180002,
    0x180002), (0x180101, 0x180103), (0x780207, 0x780207), (0x780301, 0x780303), (0x900005, 0x900005)]⟩
    s (State.doCueCopyDone s) := by
  unfold State.doCueCopyDone
  split
  · exact Keeps.refl _ _
  · refine Keeps.ite (fun _ => ?_) (fun _ => ?_)
    · exact Keeps.refl _ _
    · split
      · dsimp only
        refine Keeps.upd ?_ (hi := Or.inl (by decide +kernel))
        refine Keeps.trans ?_ (State.errorResponse_keeps ..) (by decide +kernel)
        exact Keeps.refl _ _
      · dsimp only
        refine Keeps.upd ?_ (hi := Or.inl (by decide +kernel))
        refine Keeps.ite (fun _ => ?_) (fun _ => ?_)
        · refine Keeps.trans ?_ (State.putNext_keeps ..) (by decide +kernel)
          exact Keeps.refl _ _
        · exact Keeps.refl _ _

theorem State.writeLayer_keeps (s : State) (frame : Nat) (body : Bytes) : Keeps ⟨[.memory, .logs],
    [(0x180002, 0x180002), (0x180101, 0x180103), (0x302003, 0x302003), (0x403001, 0x403001), (0x780207,
    0x780207), (0x780301, 0x780303), (0x900005, 0x900005)]⟩ s (State.writeLayer s frame body) := by
  unfold State.writeLayer
  dsimp only
  split
  · refine Keeps.snd (by assumption) ?_
    refine Keeps.trans ?_ (State.dramWrite_keeps ..) (by decide +kernel)
    exact Keeps.refl _ _
  · refine Keeps.trans ?_ (State.adde_keeps1 ..) (by decide +kernel)
    refine Keeps.trans ?_ (State.pute_keeps1 ..) (by decide +kernel)
    refine Keeps.trans ?_ (State.pute_keeps1 ..) (by decide +kernel)
    refine Keeps.snd (by assumption) ?_
    refine Keeps.trans ?_ (State.dramWrite_keeps ..) (by decide +kernel)
    exact Keeps.refl _ _

theorem State.parcelArrives_keeps (s : State) (port : Nat) (bs : Bytes) : Keeps ⟨[.out, .ingress,
    .lanes], [(0x300200, 0x3002FF), (0x301002, 0x301004), (0x700309, 0x700309), (0x701001, 0x701001)]⟩ s
    (State.parcelArrives s port bs).2 := by
  refine Keeps.pair (by unfold State.parcelArrives; dsimp only) ?_
  split
  · dsimp only
    refine Keeps.ite (fun _ => ?_) (fun _ => ?_)
    · exact Keeps.refl _ _
    · refine Keeps.trans ?_ (State.doParcelHeader_keeps ..) (by decide +kernel)
      refine Keeps.ite (fun _ => ?_) (fun _ => ?_)
      · exact Keeps.refl _ _
      · refine Keeps.trans ?_ (State.dropPartial_keeps ..) (by decide +kernel)
        exact Keeps.refl _ _
  · dsimp only
    refine Keeps.trans ?_ (State.endInbound_keeps ..) (by decide +kernel)
    refine Keeps.foldl ?_ (fun _ _ => ?_)
    · refine Keeps.ite (fun _ => ?_) (fun _ => ?_)
      · exact Keeps.refl _ _
      · refine Keeps.trans ?_ (State.doParcelHeader_keeps ..) (by decide +kernel)
        refine Keeps.ite (fun _ => ?_) (fun _ => ?_)
        · exact Keeps.refl _ _
        · refine Keeps.trans ?_ (State.dropPartial_keeps ..) (by decide +kernel)
          exact Keeps.refl _ _
    · refine Keeps.trans ?_ (State.passBlock_keeps ..) (by decide +kernel)
      exact Keeps.refl _ _

theorem State.wholeParcel_keepsF {F : Foot} {s t : State} {port kind : Nat} {bs : Bytes}
    {act : State → State} (h : Keeps F s t) (hk : Foot.sub ⟨[.out, .ingress, .lanes], [(0x300200, 0x3002FF), (0x301002, 0x301004), (0x700309, 0x700309), (0x701001, 0x701001)]⟩ F = true)
    (g : ∀ u, Keeps F u (act u)) : Keeps F s (t.wholeParcel port kind bs act) := by
  unfold State.wholeParcel
  have hi := h.trans ((Keeps.mono (F := ⟨[.out, .ingress, .lanes], [(0x300200, 0x3002FF), (0x301002, 0x301004), (0x700309, 0x700309), (0x701001, 0x701001)]⟩) (State.parcelArrives_keeps t port bs)
    (by decide +kernel)).mono hk) F.sub_refl
  exact Keeps.ite (fun _ => hi.trans (g _) F.sub_refl) (fun _ => hi)

end Sys2Proof.Machine
end

