-- ==== Sys2Proof/Laws/Keeps/Resources.lean ====
section
/-! SUPPORT. What each operation of Machine/Resources.lean may change. -/

set_option Elab.async false

namespace Sys2Proof.Machine

theorem State.promote_keeps (s : State) (p : Pool) : Keeps ⟨[], [(0x000000, 0xFFFFFF)]⟩ s (State.promote
    s p) := by
  unfold State.promote
  dsimp only
  refine Keeps.foldl ?_ (fun _ _ => ?_)
  · exact Keeps.refl _ _
  · refine Keeps.trans ?_ (State.pute_keepsA ..) (by decide +kernel)
    exact Keeps.refl _ _

theorem State.recomputeReduction_keeps (s : State) : Keeps ⟨[], [(0x189104, 0x189108)]⟩ s
    (State.recomputeReduction s) := by
  unfold State.recomputeReduction
  dsimp only
  refine Keeps.trans ?_ (State.put_keeps1 ..) (by decide +kernel)
  refine Keeps.trans ?_ (State.put_keeps1 ..) (by decide +kernel)
  refine Keeps.trans ?_ (State.put_keeps1 ..) (by decide +kernel)
  refine Keeps.trans ?_ (State.put_keeps1 ..) (by decide +kernel)
  refine Keeps.trans ?_ (State.put_keeps1 ..) (by decide +kernel)
  exact Keeps.refl _ _

theorem State.judgeUnits_keeps (s : State) : Keeps ⟨[.seq, .health], [(0x189101, 0x189101), (0x500103,
    0x500103)]⟩ s (State.judgeUnits s) := by
  unfold State.judgeUnits
  dsimp only
  refine Keeps.optE ?_ (fun _ => ?_)
  · refine Keeps.trans ?_ (State.putBit_keeps1 ..) (by decide +kernel)
    refine Keeps.trans ?_ (State.putBit_keeps1 ..) (by decide +kernel)
    exact Keeps.refl _ _
  · refine Keeps.trans ?_ (State.requestStop_keeps ..) (by decide +kernel)
    exact Keeps.refl _ _

theorem State.showUnits_keeps (s : State) : Keeps ⟨[.seq, .health], [(0x189101, 0x189101), (0x189104,
    0x189108), (0x380101, 0x380103), (0x480104, 0x480105), (0x500103, 0x500103)]⟩ s (State.showUnits s)
    := by
  unfold State.showUnits
  dsimp only
  refine Keeps.trans ?_ (State.judgeUnits_keeps ..) (by decide +kernel)
  refine Keeps.trans ?_ (State.recomputeReduction_keeps ..) (by decide +kernel)
  refine Keeps.trans ?_ (State.put_keeps1 ..) (by decide +kernel)
  refine Keeps.trans ?_ (State.put_keeps1 ..) (by decide +kernel)
  refine Keeps.trans ?_ (State.put_keeps1 ..) (by decide +kernel)
  refine Keeps.trans ?_ (State.put_keeps1 ..) (by decide +kernel)
  refine Keeps.trans ?_ (State.put_keeps1 ..) (by decide +kernel)
  exact Keeps.refl _ _

theorem State.fenceUnit_keeps (s : State) (p : Pool) (n : Nat) : Keeps ⟨[.seq, .health], [(0x000000,
    0xFFFFFF)]⟩ s (State.fenceUnit s p n) := by
  unfold State.fenceUnit
  refine Keeps.trans ?_ (State.showUnits_keeps ..) (by decide +kernel)
  refine Keeps.trans ?_ (State.promote_keeps ..) (by decide +kernel)
  refine Keeps.trans ?_ (State.pute_keepsA ..) (by decide +kernel)
  exact Keeps.refl _ _

theorem State.returnUnit_keeps (s : State) (p : Pool) (n : Nat) : Keeps ⟨[.seq, .health], [(0x000000,
    0xFFFFFF)]⟩ s (State.returnUnit s p n) := by
  unfold State.returnUnit
  refine Keeps.ite (fun _ => ?_) (fun _ => ?_)
  · refine Keeps.trans ?_ (State.showUnits_keeps ..) (by decide +kernel)
    refine Keeps.trans ?_ (State.pute_keepsA ..) (by decide +kernel)
    exact Keeps.refl _ _
  · exact Keeps.refl _ _

theorem State.dropFence_keeps (s : State) (p : Pool) (n : Nat) : Keeps ⟨[.codec, .ray], []⟩ s
    (State.dropFence s p n) := by
  unfold State.dropFence
  refine Keeps.ite (fun _ => ?_) (fun _ => ?_)
  · refine Keeps.upd ?_ (hc := Or.inl (by decide +kernel))
    exact Keeps.refl _ _
  · refine Keeps.upd ?_ (hr := Or.inl (by decide +kernel))
    exact Keeps.refl _ _

theorem State.settleFence_keeps (s : State) (p : Pool) (n : Nat) : Keeps ⟨[.codec, .ray, .seq, .health],
    [(0x000000, 0xFFFFFF)]⟩ s (State.settleFence s p n) := by
  unfold State.settleFence
  refine Keeps.ite (fun _ => ?_) (fun _ => ?_)
  · refine Keeps.trans ?_ (State.fenceUnit_keeps ..) (by decide +kernel)
    refine Keeps.trans ?_ (State.dropFence_keeps ..) (by decide +kernel)
    exact Keeps.refl _ _
  · exact Keeps.refl _ _

theorem State.ownFence_keeps (s : State) (p : Pool) (n : Nat) (v : Nat) : Keeps ⟨[.codec, .ray, .seq,
    .memory, .health], [(0x000000, 0xFFFFFF)]⟩ s (State.ownFence s p n v) := by
  unfold State.ownFence
  dsimp only
  refine Keeps.ite (fun _ => ?_) (fun _ => ?_)
  · refine Keeps.trans ?_ (State.fenceUnit_keeps ..) (by decide +kernel)
    refine Keeps.trans ?_ (State.putKept_keepsA ..) (by decide +kernel)
    exact Keeps.refl _ _
  · refine Keeps.trans ?_ (State.returnUnit_keeps ..) (by decide +kernel)
    refine Keeps.trans ?_ (State.settleFence_keeps ..) (by decide +kernel)
    refine Keeps.trans ?_ (State.putKept_keepsA ..) (by decide +kernel)
    exact Keeps.refl _ _

theorem State.testPassed_keeps (s : State) (p : Pool) (n : Nat) : Keeps ⟨[.seq, .health], [(0x000000,
    0xFFFFFF)]⟩ s (State.testPassed s p n) := by
  unfold State.testPassed
  refine Keeps.ite (fun _ => ?_) (fun _ => ?_)
  · refine Keeps.trans ?_ (State.showUnits_keeps ..) (by decide +kernel)
    refine Keeps.trans ?_ (State.promote_keeps ..) (by decide +kernel)
    refine Keeps.trans ?_ (State.pute_keepsA ..) (by decide +kernel)
    exact Keeps.refl _ _
  · exact Keeps.refl _ _

theorem State.showBanks_keeps (s : State) : Keeps ⟨[], [(0x780103, 0x780104)]⟩ s (State.showBanks s) :=
    by
  unfold State.showBanks
  refine Keeps.trans ?_ (State.putBit_keeps1 ..) (by decide +kernel)
  refine Keeps.trans ?_ (State.put_keeps1 ..) (by decide +kernel)
  exact Keeps.refl _ _

theorem State.fenceBank_keeps (s : State) (b : Nat) : Keeps ⟨[.memory, .logs], [(0x180002, 0x180002),
    (0x180101, 0x180103), (0x780103, 0x780104), (0x780203, 0x780203), (0x781001, 0x781003), (0x900005,
    0x900005)]⟩ s (State.fenceBank s b) := by
  unfold State.fenceBank
  split
  · refine Keeps.trans ?_ (State.log_keeps ..) (by decide +kernel)
    refine Keeps.trans ?_ (State.putBit_keeps1 ..) (by decide +kernel)
    exact Keeps.refl _ _
  · dsimp only
    refine Keeps.trans ?_ (State.showBanks_keeps ..) (by decide +kernel)
    refine Keeps.trans ?_ (State.recover_keeps ..) (by decide +kernel)
    refine Keeps.trans ?_ (State.inc_keeps1 ..) (by decide +kernel)
    refine Keeps.upd ?_ (hme := Or.inl (by decide +kernel))
    refine Keeps.trans ?_ (State.pute_keeps1 ..) (by decide +kernel)
    refine Keeps.trans ?_ (State.pute_keeps1 ..) (by decide +kernel)
    refine Keeps.trans ?_ (State.pute_keeps1 ..) (by decide +kernel)
    refine Keeps.trans ?_ (State.putKept_keeps1 ..) (by decide +kernel)
    exact Keeps.refl _ _

theorem State.fenceSpareBank_keeps (s : State) (b : Nat) : Keeps ⟨[.memory], [(0x780103, 0x780104),
    (0x780203, 0x780203), (0x781001, 0x781002)]⟩ s (State.fenceSpareBank s b) := by
  unfold State.fenceSpareBank
  refine Keeps.trans ?_ (State.showBanks_keeps ..) (by decide +kernel)
  refine Keeps.trans ?_ (State.inc_keeps1 ..) (by decide +kernel)
  refine Keeps.trans ?_ (State.pute_keeps1 ..) (by decide +kernel)
  refine Keeps.trans ?_ (State.putKept_keeps1 ..) (by decide +kernel)
  exact Keeps.refl _ _

theorem State.ownBank_keeps (s : State) (b : Nat) (v : Nat) : Keeps ⟨[.memory, .logs], [(0x180002,
    0x180002), (0x180101, 0x180103), (0x780103, 0x780104), (0x780203, 0x780203), (0x781001, 0x781003),
    (0x900005, 0x900005)]⟩ s (State.ownBank s b v) := by
  unfold State.ownBank
  dsimp only
  refine Keeps.ite (fun _ => ?_) (fun _ => ?_)
  · refine Keeps.ite (fun _ => ?_) (fun _ => ?_)
    · refine Keeps.trans ?_ (State.fenceBank_keeps ..) (by decide +kernel)
      exact Keeps.refl _ _
    · refine Keeps.ite (fun _ => ?_) (fun _ => ?_)
      · refine Keeps.trans ?_ (State.fenceSpareBank_keeps ..) (by decide +kernel)
        exact Keeps.refl _ _
      · refine Keeps.ite (fun _ => ?_) (fun _ => ?_)
        · refine Keeps.upd ?_ (hme := Or.inl (by decide +kernel))
          refine Keeps.trans ?_ (State.putKept_keeps1 ..) (by decide +kernel)
          exact Keeps.refl _ _
        · exact Keeps.refl _ _
  · refine Keeps.ite (fun _ => ?_) (fun _ => ?_)
    · refine Keeps.optE ?_ (fun _ => ?_)
      · refine Keeps.trans ?_ (State.draw_keeps ..) (by decide +kernel)
        exact Keeps.refl _ _
      · refine Keeps.trans ?_ (State.showBanks_keeps ..) (by decide +kernel)
        refine Keeps.trans ?_ (State.pute_keeps1 ..) (by decide +kernel)
        refine Keeps.trans ?_ (State.putKept_keeps1 ..) (by decide +kernel)
        exact Keeps.refl _ _
    · exact Keeps.refl _ _

theorem State.retireBanks_keeps (s : State) : Keeps ⟨[.memory, .logs], [(0x180002, 0x180002), (0x180101,
    0x180103), (0x780103, 0x780104), (0x780203, 0x780203), (0x781001, 0x781003), (0x900005, 0x900005)]⟩
    s (State.retireBanks s) := by
  unfold State.retireBanks
  dsimp only
  refine Keeps.foldl ?_ (fun _ _ => ?_)
  · refine Keeps.trans ?_ (State.showBanks_keeps ..) (by decide +kernel)
    refine Keeps.foldl ?_ (fun _ _ => ?_)
    · refine Keeps.upd ?_ (hme := Or.inl (by decide +kernel))
      exact Keeps.refl _ _
    · refine Keeps.trans ?_ (State.recovered_keeps ..) (by decide +kernel)
      refine Keeps.trans ?_ (State.pute_keeps1 ..) (by decide +kernel)
      refine Keeps.trans ?_ (State.pute_keeps1 ..) (by decide +kernel)
      refine Keeps.trans ?_ (State.pute_keeps1 ..) (by decide +kernel)
      exact Keeps.refl _ _
  · refine Keeps.trans ?_ (State.fenceBank_keeps ..) (by decide +kernel)
    exact Keeps.refl _ _

theorem State.endBankCopy_keeps (s : State) : Keeps ⟨[.memory, .logs], [(0x180002, 0x180002), (0x180101,
    0x180103), (0x780103, 0x780104), (0x780203, 0x780203), (0x781001, 0x781003), (0x900005, 0x900005)]⟩
    s (State.endBankCopy s) := by
  unfold State.endBankCopy
  dsimp only
  refine Keeps.ite (fun _ => ?_) (fun _ => ?_)
  · refine Keeps.trans ?_ (State.showBanks_keeps ..) (by decide +kernel)
    refine Keeps.upd ?_ (hme := Or.inl (by decide +kernel))
    exact Keeps.refl _ _
  · refine Keeps.trans ?_ (State.retireBanks_keeps ..) (by decide +kernel)
    refine Keeps.upd ?_ (hme := Or.inl (by decide +kernel))
    exact Keeps.refl _ _

theorem State.eccFound_keeps (s : State) (e : Ecc) : Keeps ⟨[.memory, .logs], [(0x180002, 0x180002),
    (0x180101, 0x180103), (0x780103, 0x780104), (0x780201, 0x780203), (0x781001, 0x781005), (0x900005,
    0x900005)]⟩ s (State.eccFound s e) := by
  unfold State.eccFound
  dsimp only
  refine Keeps.ite (fun _ => ?_) (fun _ => ?_)
  · refine Keeps.optE ?_ (fun _ => ?_)
    · refine Keeps.upd ?_ (hme := Or.inl (by decide +kernel))
      refine Keeps.trans ?_ (State.log_keeps ..) (by decide +kernel)
      refine Keeps.trans ?_ (State.inc_keeps1 ..) (by decide +kernel)
      refine Keeps.trans ?_ (State.ince_keeps1 ..) (by decide +kernel)
      exact Keeps.refl _ _
    · refine Keeps.trans ?_ (State.fenceBank_keeps ..) (by decide +kernel)
      exact Keeps.refl _ _
  · refine Keeps.optE ?_ (fun _ => ?_)
    · refine Keeps.upd ?_ (hme := Or.inl (by decide +kernel))
      refine Keeps.trans ?_ (State.inc_keeps1 ..) (by decide +kernel)
      refine Keeps.trans ?_ (State.ince_keeps1 ..) (by decide +kernel)
      exact Keeps.refl _ _
    · refine Keeps.trans ?_ (State.fenceBank_keeps ..) (by decide +kernel)
      exact Keeps.refl _ _

theorem State.eccAll_keeps (s : State) (l : List Ecc) : Keeps ⟨[.memory, .logs], [(0x180002, 0x180002),
    (0x180101, 0x180103), (0x780103, 0x780104), (0x780201, 0x780203), (0x781001, 0x781005), (0x900005,
    0x900005)]⟩ s (State.eccAll s l) := by
  unfold State.eccAll
  refine Keeps.foldl ?_ (fun _ _ => ?_)
  · exact Keeps.refl _ _
  · refine Keeps.trans ?_ (State.eccFound_keeps ..) (by decide +kernel)
    exact Keeps.refl _ _

end Sys2Proof.Machine
end

