-- ==== Sys2Proof/Laws/Keeps/Compositor.lean ====
section
/-! SUPPORT. What each operation of Machine/Compositor.lean may change. -/

set_option Elab.async false

namespace Sys2Proof.Machine

theorem State.reportBad_keeps (s : State) (store : Nat) (unit : Nat) (q : Nat) (d : Decoded) : Keeps
    ⟨[.ingress, .memory, .logs], [(0x180002, 0x180002), (0x180101, 0x180103), (0x380200, 0x3802FF),
    (0x380301, 0x380305), (0x900005, 0x900005)]⟩ s (State.reportBad s store unit q d) := by
  unfold State.reportBad
  dsimp only
  refine Keeps.ite (fun _ => ?_) (fun _ => ?_)
  · refine Keeps.trans ?_ (State.log_keeps ..) (by decide +kernel)
    refine Keeps.trans ?_ (State.putStore_keeps ..) (by decide +kernel)
    refine Keeps.trans ?_ (State.put_keeps1 ..) (by decide +kernel)
    refine Keeps.trans ?_ (State.put_keeps1 ..) (by decide +kernel)
    refine Keeps.trans ?_ (State.put_keeps1 ..) (by decide +kernel)
    refine Keeps.trans ?_ (State.put_keeps1 ..) (by decide +kernel)
    refine Keeps.trans ?_ (State.put_keeps1 ..) (by decide +kernel)
    refine Keeps.trans ?_ (State.inc_keepsO ..) (by decide +kernel)
    exact Keeps.refl _ _
  · refine Keeps.trans ?_ (State.inc_keeps1 ..) (by decide +kernel)
    refine Keeps.trans ?_ (State.put_keeps1 ..) (by decide +kernel)
    refine Keeps.trans ?_ (State.put_keeps1 ..) (by decide +kernel)
    refine Keeps.trans ?_ (State.put_keeps1 ..) (by decide +kernel)
    refine Keeps.trans ?_ (State.put_keeps1 ..) (by decide +kernel)
    refine Keeps.trans ?_ (State.put_keeps1 ..) (by decide +kernel)
    refine Keeps.trans ?_ (State.inc_keepsO ..) (by decide +kernel)
    exact Keeps.refl _ _

theorem State.doCompositionStart_keeps (s : State) : Keeps ⟨[.ingress, .comp], [(0x400101, 0x400103),
    (0x400201, 0x400204)]⟩ s (State.doCompositionStart s) := by
  unfold State.doCompositionStart
  dsimp only
  refine Keeps.ite (fun _ => ?_) (fun _ => ?_)
  · refine Keeps.ite (fun _ => ?_) (fun _ => ?_)
    · refine Keeps.ite (fun _ => ?_) (fun _ => ?_)
      · refine Keeps.trans ?_ (State.putNext_keeps ..) (by decide +kernel)
        refine Keeps.trans ?_ (State.add_keeps1 ..) (by decide +kernel)
        refine Keeps.trans ?_ (State.add_keeps1 ..) (by decide +kernel)
        refine Keeps.trans ?_ (State.add_keeps1 ..) (by decide +kernel)
        refine Keeps.trans ?_ (State.add_keeps1 ..) (by decide +kernel)
        exact Keeps.refl _ _
      · refine Keeps.trans ?_ (State.put_keeps1 ..) (by decide +kernel)
        refine Keeps.trans ?_ (State.put_keeps1 ..) (by decide +kernel)
        refine Keeps.trans ?_ (State.put_keeps1 ..) (by decide +kernel)
        refine Keeps.upd ?_ (hcm := Or.inl (by decide +kernel))
        refine Keeps.trans ?_ (State.putNext_keeps ..) (by decide +kernel)
        refine Keeps.trans ?_ (State.add_keeps1 ..) (by decide +kernel)
        refine Keeps.trans ?_ (State.add_keeps1 ..) (by decide +kernel)
        refine Keeps.trans ?_ (State.add_keeps1 ..) (by decide +kernel)
        refine Keeps.trans ?_ (State.add_keeps1 ..) (by decide +kernel)
        exact Keeps.refl _ _
    · exact Keeps.refl _ _
  · exact Keeps.refl _ _

theorem State.endComposition_keeps (s : State) : Keeps ⟨[.ingress], [(0x400101, 0x400101), (0x400205,
    0x400205)]⟩ s (State.endComposition s) := by
  unfold State.endComposition
  refine Keeps.ite (fun _ => ?_) (fun _ => ?_)
  · refine Keeps.trans ?_ (State.put_keeps1 ..) (by decide +kernel)
    refine Keeps.trans ?_ (State.inc_keeps1 ..) (by decide +kernel)
    refine Keeps.trans ?_ (State.putNext_keeps ..) (by decide +kernel)
    exact Keeps.refl _ _
  · exact Keeps.refl _ _

theorem State.markBad_keeps (s : State) (store : Nat) (q : Nat) : Keeps ⟨[.ingress], []⟩ s
    (State.markBad s store q) := by
  unfold State.markBad
  dsimp only
  refine Keeps.trans ?_ (State.putStore_keeps ..) (by decide +kernel)
  exact Keeps.refl _ _

theorem State.baseTile_keeps (s : State) (lane : Nat) (q : Nat) : Keeps ⟨[.ingress, .memory, .logs],
    [(0x180002, 0x180002), (0x180101, 0x180103), (0x380200, 0x3802FF), (0x380301, 0x380305), (0x900005,
    0x900005)]⟩ s (State.baseTile s lane q).2 := by
  refine Keeps.pair (by unfold State.baseTile; dsimp only) ?_
  split
  · dsimp only
    exact Keeps.refl _ _
  · refine Keeps.sndIte (fun _ => ?_) (fun _ => ?_)
    · dsimp only
      exact Keeps.refl _ _
    · refine Keeps.sndIte (fun _ => ?_) (fun _ => ?_)
      · dsimp only
        exact Keeps.refl _ _
      · dsimp only
        refine Keeps.trans ?_ (State.reportBad_keeps ..) (by decide +kernel)
        refine Keeps.trans ?_ (State.markBad_keeps ..) (by decide +kernel)
        exact Keeps.refl _ _

theorem State.baseEcc_keeps (s : State) (q : Nat) (ecc : List Ecc) : Keeps ⟨[.ingress, .memory, .logs],
    [(0x180002, 0x180002), (0x180101, 0x180103), (0x780103, 0x780104), (0x780201, 0x780203), (0x781001,
    0x781005), (0x900005, 0x900005)]⟩ s (State.baseEcc s q ecc) := by
  unfold State.baseEcc
  dsimp only
  refine Keeps.optE ?_ (fun _ => ?_)
  · refine Keeps.trans ?_ (State.eccAll_keeps ..) (by decide +kernel)
    exact Keeps.refl _ _
  · refine Keeps.trans ?_ (State.markBad_keeps ..) (by decide +kernel)
    exact Keeps.refl _ _

theorem State.layerFaults_keeps (s : State) (m : Mode) (q : Nat) : Keeps ⟨[.memory, .logs], [(0x180002,
    0x180002), (0x180101, 0x180103), (0x780207, 0x780207), (0x780301, 0x780303), (0x900005, 0x900005)]⟩
    s (State.layerFaults s m q) := by
  unfold State.layerFaults
  refine Keeps.foldl ?_ (fun _ _ => ?_)
  · exact Keeps.refl _ _
  · dsimp only
    refine Keeps.ite (fun _ => ?_) (fun _ => ?_)
    · exact Keeps.refl _ _
    · refine Keeps.trans ?_ (State.errorResponse_keeps ..) (by decide +kernel)
      exact Keeps.refl _ _

theorem State.doCompressStart_keeps (s : State) (ecc : List Ecc) : Keeps ⟨[.ingress, .codec, .comp,
    .memory, .logs], [(0x180002, 0x180002), (0x180101, 0x180103), (0x380200, 0x3802FF), (0x380301,
    0x380305), (0x382003, 0x382003), (0x780103, 0x780104), (0x780201, 0x780203), (0x780207, 0x780207),
    (0x780301, 0x780303), (0x781001, 0x781005), (0x900005, 0x900005)]⟩ s (State.doCompressStart s ecc)
    := by
  unfold State.doCompressStart
  split
  · dsimp only
    refine Keeps.trans ?_ (State.pute_keeps1 ..) (by decide +kernel)
    refine Keeps.upd ?_ (hc := Or.inl (by decide +kernel)) (hcm := Or.inl (by decide +kernel))
    refine Keeps.trans ?_ (State.layerFaults_keeps ..) (by decide +kernel)
    refine Keeps.trans ?_ (State.baseTile_keeps ..) (by decide +kernel)
    refine Keeps.trans ?_ (State.baseEcc_keeps ..) (by decide +kernel)
    exact Keeps.refl _ _
  · exact Keeps.refl _ _

theorem State.clanRest_keeps (s : State) (k : Nat) : Keeps ⟨[], [(0x382003, 0x382003)]⟩ s
    (State.clanRest s k) := by
  unfold State.clanRest
  refine Keeps.trans ?_ (State.pute_keeps1 ..) (by decide +kernel)
  exact Keeps.refl _ _

theorem State.showClanes_keeps (s : State) : Keeps ⟨[], [(0x380104, 0x380104)]⟩ s (State.showClanes s)
    := by
  unfold State.showClanes
  refine Keeps.trans ?_ (State.put_keeps1 ..) (by decide +kernel)
  exact Keeps.refl _ _

theorem State.ownClane_keeps (s : State) (k : Nat) (v : Nat) : Keeps ⟨[.memory], [(0x380104, 0x380104),
    (0x382003, 0x382004)]⟩ s (State.ownClane s k v) := by
  unfold State.ownClane
  dsimp only
  refine Keeps.trans ?_ (State.showClanes_keeps ..) (by decide +kernel)
  refine Keeps.optT ?_ (fun _ => ?_)
  · refine Keeps.trans ?_ (State.putKept_keeps1 ..) (by decide +kernel)
    exact Keeps.refl _ _
  · refine Keeps.trans ?_ (State.clanRest_keeps ..) (by decide +kernel)
    exact Keeps.refl _ _

theorem State.verifyMismatch_keeps (s : State) (k : Nat) : Keeps ⟨[.codec, .memory, .logs], [(0x180002,
    0x180002), (0x180101, 0x180103), (0x380104, 0x380104), (0x380208, 0x380208), (0x382002, 0x382002),
    (0x382004, 0x382004), (0x900005, 0x900005)]⟩ s (State.verifyMismatch s k) := by
  unfold State.verifyMismatch
  dsimp only
  refine Keeps.optE ?_ (fun _ => ?_)
  · refine Keeps.upd ?_ (hc := Or.inl (by decide +kernel))
    refine Keeps.trans ?_ (State.log_keeps ..) (by decide +kernel)
    refine Keeps.trans ?_ (State.ince_keeps1 ..) (by decide +kernel)
    refine Keeps.trans ?_ (State.inc_keeps1 ..) (by decide +kernel)
    exact Keeps.refl _ _
  · refine Keeps.trans ?_ (State.showClanes_keeps ..) (by decide +kernel)
    refine Keeps.trans ?_ (State.putKept_keeps1 ..) (by decide +kernel)
    exact Keeps.refl _ _

theorem State.storeResult_keeps (s : State) (j : CompressJob) (stream : Bytes) : Keeps ⟨[.ingress],
    [(0x300209, 0x30020A)]⟩ s (State.storeResult s j stream) := by
  unfold State.storeResult
  dsimp only
  refine Keeps.ite (fun _ => ?_) (fun _ => ?_)
  · refine Keeps.trans ?_ (State.putNext_keeps ..) (by decide +kernel)
    exact Keeps.refl _ _
  · refine Keeps.trans ?_ (State.add_keeps1 ..) (by decide +kernel)
    refine Keeps.trans ?_ (State.add_keeps1 ..) (by decide +kernel)
    refine Keeps.trans ?_ (State.putNext_keeps ..) (by decide +kernel)
    exact Keeps.refl _ _

theorem State.doCompressionDone_keeps (s : State) (k : Nat) (mismatch : Bool) : Keeps ⟨[.ingress,
    .codec, .comp, .memory, .logs], [(0x180002, 0x180002), (0x180101, 0x180103), (0x300209, 0x30020A),
    (0x380104, 0x380104), (0x380208, 0x38020A), (0x382001, 0x382004), (0x400101, 0x400101), (0x400205,
    0x400205), (0x900005, 0x900005)]⟩ s (State.doCompressionDone s k mismatch) := by
  unfold State.doCompressionDone
  split
  · exact Keeps.refl _ _
  · dsimp only
    refine Keeps.ite (fun _ => ?_) (fun _ => ?_)
    · refine Keeps.trans ?_ (State.endComposition_keeps ..) (by decide +kernel)
      refine Keeps.upd ?_ (hcm := Or.inl (by decide +kernel))
      refine Keeps.trans ?_ (State.storeResult_keeps ..) (by decide +kernel)
      refine Keeps.trans ?_ (State.clanRest_keeps ..) (by decide +kernel)
      refine Keeps.optE ?_ (fun _ => ?_)
      · refine Keeps.optE ?_ (fun _ => ?_)
        · refine Keeps.trans ?_ (State.ince_keeps1 ..) (by decide +kernel)
          refine Keeps.upd ?_ (hc := Or.inl (by decide +kernel))
          exact Keeps.refl _ _
        · refine Keeps.trans ?_ (State.inc_keeps1 ..) (by decide +kernel)
          exact Keeps.refl _ _
      · refine Keeps.trans ?_ (State.verifyMismatch_keeps ..) (by decide +kernel)
        exact Keeps.refl _ _
    · refine Keeps.trans ?_ (State.inc_keeps1 ..) (by decide +kernel)
      refine Keeps.trans ?_ (State.clanRest_keeps ..) (by decide +kernel)
      refine Keeps.optE ?_ (fun _ => ?_)
      · refine Keeps.optE ?_ (fun _ => ?_)
        · refine Keeps.trans ?_ (State.ince_keeps1 ..) (by decide +kernel)
          refine Keeps.upd ?_ (hc := Or.inl (by decide +kernel))
          exact Keeps.refl _ _
        · refine Keeps.trans ?_ (State.inc_keeps1 ..) (by decide +kernel)
          exact Keeps.refl _ _
      · refine Keeps.trans ?_ (State.verifyMismatch_keeps ..) (by decide +kernel)
        exact Keeps.refl _ _

theorem State.doCaptureDone_keeps (s : State) : Keeps ⟨[.ingress, .comp, .memory, .logs], [(0x180002,
    0x180002), (0x180101, 0x180103), (0x400101, 0x400101), (0x400104, 0x400105), (0x400205, 0x400205),
    (0x400207, 0x400207), (0x780207, 0x780207), (0x780301, 0x780303), (0x900005, 0x900005)]⟩ s
    (State.doCaptureDone s) := by
  unfold State.doCaptureDone
  dsimp only
  refine Keeps.ite (fun _ => ?_) (fun _ => ?_)
  · refine Keeps.trans ?_ (State.endComposition_keeps ..) (by decide +kernel)
    refine Keeps.optE ?_ (fun _ => ?_)
    · refine Keeps.upd ?_ (hcm := Or.inl (by decide +kernel))
      refine Keeps.trans ?_ (State.dramWrite_keeps ..) (by decide +kernel)
      exact Keeps.refl _ _
    · refine Keeps.trans ?_ (State.inc_keeps1 ..) (by decide +kernel)
      refine Keeps.trans ?_ (State.put_keeps1 ..) (by decide +kernel)
      refine Keeps.trans ?_ (State.put_keeps1 ..) (by decide +kernel)
      exact Keeps.refl _ _
  · exact Keeps.refl _ _

end Sys2Proof.Machine
end

