-- ==== Sys2Proof/Laws/Keeps/Synthesis.lean ====
section
/-! SUPPORT. What each operation of Machine/Synthesis.lean may change. -/

set_option Elab.async false

namespace Sys2Proof.Machine

theorem State.openWindow_keeps (s : State) (frame : Nat) (fret : Nat) : Keeps ⟨[.codec, .ray], []⟩ s
    (State.openWindow s frame fret) := by
  unfold State.openWindow
  refine Keeps.upd ?_ (hc := Or.inl (by decide +kernel)) (hr := Or.inl (by decide +kernel))
  exact Keeps.refl _ _

theorem State.closeWindows_keeps (s : State) : Keeps ⟨[.codec, .ray], []⟩ s (State.closeWindows s) := by
  unfold State.closeWindows
  refine Keeps.upd ?_ (hc := Or.inl (by decide +kernel)) (hr := Or.inl (by decide +kernel))
  exact Keeps.refl _ _

theorem State.putBuf_keeps (s : State) (b : Nat) (x : BandBuf) : Keeps ⟨[.codec], []⟩ s (State.putBuf s
    b x) := by
  unfold State.putBuf
  refine Keeps.ite (fun _ => ?_) (fun _ => ?_)
  · refine Keeps.upd ?_ (hc := Or.inl (by decide +kernel))
    exact Keeps.refl _ _
  · refine Keeps.upd ?_ (hc := Or.inl (by decide +kernel))
    exact Keeps.refl _ _

theorem State.endBand_keeps (s : State) : Keeps ⟨[.codec], []⟩ s (State.endBand s) := by
  unfold State.endBand
  split
  · exact Keeps.refl _ _
  · refine Keeps.ite (fun _ => ?_) (fun _ => ?_)
    · dsimp only
      refine Keeps.upd ?_ (hc := Or.inl (by decide +kernel))
      refine Keeps.trans ?_ (State.putBuf_keeps ..) (by decide +kernel)
      exact Keeps.refl _ _
    · exact Keeps.refl _ _

theorem State.doBandDispatch_keeps (s : State) : Keeps ⟨[.codec, .ray], [(0x480202, 0x480202)]⟩ s
    (State.doBandDispatch s) := by
  unfold State.doBandDispatch
  dsimp only
  refine Keeps.ite (fun _ => ?_) (fun _ => ?_)
  · refine Keeps.trans ?_ (State.endBand_keeps ..) (by decide +kernel)
    refine Keeps.trans ?_ (State.add_keeps1 ..) (by decide +kernel)
    refine Keeps.trans ?_ (State.putBuf_keeps ..) (by decide +kernel)
    refine Keeps.upd ?_ (hc := Or.inl (by decide +kernel)) (hr := Or.inl (by decide +kernel))
    exact Keeps.refl _ _
  · exact Keeps.refl _ _

theorem State.nextTile_keeps (s : State) (lane : Nat) : Keeps ⟨[.codec], []⟩ s (State.nextTile s lane)
    := by
  unfold State.nextTile
  split
  · refine Keeps.ite (fun _ => ?_) (fun _ => ?_)
    · refine Keeps.upd ?_ (hc := Or.inl (by decide +kernel))
      exact Keeps.refl _ _
    · exact Keeps.refl _ _
  · exact Keeps.refl _ _

theorem State.doTileDecodeDone_keeps (s : State) (lane : Nat) (ecc : List Ecc) : Keeps ⟨[.ingress,
    .codec, .memory, .logs], [(0x180002, 0x180002), (0x180101, 0x180103), (0x380200, 0x3802FF),
    (0x380301, 0x380305), (0x780103, 0x780104), (0x780201, 0x780203), (0x781001, 0x781005), (0x900005,
    0x900005)]⟩ s (State.doTileDecodeDone s lane ecc) := by
  unfold State.doTileDecodeDone
  split
  · dsimp only
    refine Keeps.trans ?_ (State.endBand_keeps ..) (by decide +kernel)
    refine Keeps.trans ?_ (State.nextTile_keeps ..) (by decide +kernel)
    split
    · refine Keeps.trans ?_ (State.eccAll_keeps ..) (by decide +kernel)
      refine Keeps.upd ?_ (hc := Or.inl (by decide +kernel))
      exact Keeps.refl _ _
    · refine Keeps.ite (fun _ => ?_) (fun _ => ?_)
      · refine Keeps.trans ?_ (State.markBad_keeps ..) (by decide +kernel)
        refine Keeps.trans ?_ (State.eccAll_keeps ..) (by decide +kernel)
        refine Keeps.upd ?_ (hc := Or.inl (by decide +kernel))
        exact Keeps.refl _ _
      · refine Keeps.ite (fun _ => ?_) (fun _ => ?_)
        · refine Keeps.trans ?_ (State.putBuf_keeps ..) (by decide +kernel)
          refine Keeps.trans ?_ (State.eccAll_keeps ..) (by decide +kernel)
          refine Keeps.upd ?_ (hc := Or.inl (by decide +kernel))
          exact Keeps.refl _ _
        · refine Keeps.trans ?_ (State.reportBad_keeps ..) (by decide +kernel)
          refine Keeps.trans ?_ (State.markBad_keeps ..) (by decide +kernel)
          refine Keeps.trans ?_ (State.eccAll_keeps ..) (by decide +kernel)
          refine Keeps.upd ?_ (hc := Or.inl (by decide +kernel))
          exact Keeps.refl _ _
  · exact Keeps.refl _ _

theorem State.doBandSynthesis_keeps (s : State) (ecc : List Ecc) : Keeps ⟨[.codec, .ray, .memory,
    .logs], [(0x180002, 0x180002), (0x180101, 0x180103), (0x780103, 0x780104), (0x780201, 0x780203),
    (0x781001, 0x781005), (0x900005, 0x900005)]⟩ s (State.doBandSynthesis s ecc) := by
  unfold State.doBandSynthesis
  dsimp only
  refine Keeps.ite (fun _ => ?_) (fun _ => ?_)
  · refine Keeps.upd ?_ (hr := Or.inl (by decide +kernel))
    refine Keeps.trans ?_ (State.eccAll_keeps ..) (by decide +kernel)
    refine Keeps.trans ?_ (State.putBuf_keeps ..) (by decide +kernel)
    exact Keeps.refl _ _
  · exact Keeps.refl _ _

theorem State.putHidden_keeps (s : State) (c : FretCopy) : Keeps ⟨[.ray], []⟩ s (State.putHidden s c) :=
    by
  unfold State.putHidden
  refine Keeps.ite (fun _ => ?_) (fun _ => ?_)
  · refine Keeps.upd ?_ (hr := Or.inl (by decide +kernel))
    exact Keeps.refl _ _
  · refine Keeps.upd ?_ (hr := Or.inl (by decide +kernel))
    exact Keeps.refl _ _

theorem State.doBandCommit_keeps (s : State) (ecc : List Ecc) : Keeps ⟨[.codec, .ray, .memory, .logs],
    [(0x180002, 0x180002), (0x180101, 0x180103), (0x780103, 0x780104), (0x780201, 0x780203), (0x781001,
    0x781005), (0x900005, 0x900005)]⟩ s (State.doBandCommit s ecc) := by
  unfold State.doBandCommit
  split
  · exact Keeps.refl _ _
  · dsimp only
    refine Keeps.optT ?_ (fun _ => ?_)
    · refine Keeps.upd ?_ (hr := Or.inl (by decide +kernel))
      refine Keeps.trans ?_ (State.putBuf_keeps ..) (by decide +kernel)
      refine Keeps.trans ?_ (State.eccAll_keeps ..) (by decide +kernel)
      exact Keeps.refl _ _
    · refine Keeps.trans ?_ (State.putHidden_keeps ..) (by decide +kernel)
      exact Keeps.refl _ _

theorem State.doDeadline_keeps (s : State) : Keeps ⟨[.codec, .ray], [(0x38020C, 0x38020C), (0x480201,
    0x480201), (0x480207, 0x480207), (0x480301, 0x480303)]⟩ s (State.doDeadline s) := by
  unfold State.doDeadline
  refine Keeps.ite (fun _ => ?_) (fun _ => ?_)
  · dsimp only
    refine Keeps.upd ?_ (hr := Or.inl (by decide +kernel))
    refine Keeps.trans ?_ (State.closeWindows_keeps ..) (by decide +kernel)
    split
    · refine Keeps.trans ?_ (State.add_keeps1 ..) (by decide +kernel)
      refine Keeps.trans ?_ (State.add_keeps1 ..) (by decide +kernel)
      exact Keeps.refl _ _
    · refine Keeps.trans ?_ (State.put_keeps1 ..) (by decide +kernel)
      refine Keeps.trans ?_ (State.put_keeps1 ..) (by decide +kernel)
      refine Keeps.trans ?_ (State.put_keeps1 ..) (by decide +kernel)
      refine Keeps.trans ?_ (State.inc_keeps1 ..) (by decide +kernel)
      refine Keeps.trans ?_ (State.add_keeps1 ..) (by decide +kernel)
      refine Keeps.trans ?_ (State.add_keeps1 ..) (by decide +kernel)
      exact Keeps.refl _ _
  · exact Keeps.refl _ _

theorem TestRun.unit_keeps (p : Pool) (c : Nat × Nat) (failing : List Nat) (x : TestRun) (n : Nat) :
    Keeps ⟨[.seq, .memory, .health, .logs], [(0x000000, 0xFFFFFF)]⟩ x.s (TestRun.unit p c failing x n).s := by
  unfold TestRun.unit
  dsimp only
  have h1 : Keeps ⟨[.seq, .memory, .health, .logs], [(0x000000, 0xFFFFFF)]⟩ x.s ((x.s.ince p.object n 3).inc c.1 c.2) :=
    Keeps.trans ((State.ince_keepsA ..).mono (by decide +kernel)) (State.inc_keepsA ..) (by decide +kernel)
  split
  · split
    · dsimp only
      refine Keeps.ite (fun _ => ?_) (fun _ => ?_)
      · refine Keeps.trans ?_ (State.showUnits_keeps ..) (by decide +kernel)
        refine Keeps.trans ?_ (State.pute_keepsA ..) (by decide +kernel)
        refine Keeps.trans ?_ (State.log_keeps ..) (by decide +kernel)
        exact Keeps.trans h1 (State.putKept_keepsA ..) (by decide +kernel)
      · refine Keeps.trans ?_ (State.log_keeps ..) (by decide +kernel)
        exact Keeps.trans h1 (State.putKept_keepsA ..) (by decide +kernel)
    · exact h1
  · exact (State.testPassed_keeps ..).mono (by decide +kernel)

theorem State.doDecodeSelftest_keeps (s : State) (failing : List Nat) : Keeps ⟨[.codec, .seq, .memory,
    .health, .logs], [(0x000000, 0xFFFFFF)]⟩ s (State.doDecodeSelftest s failing) := by
  unfold State.doDecodeSelftest
  dsimp only
  refine Keeps.ite (fun _ => ?_) (fun _ => ?_)
  · refine Keeps.upd ?_ (hc := Or.inl (by decide +kernel))
    refine Keeps.foldlOf TestRun.s ?_ (fun _ _ => ?_)
    · dsimp only
      exact Keeps.refl _ _
    · refine Keeps.trans ?_ (TestRun.unit_keeps ..) (by decide +kernel)
      exact Keeps.refl _ _
  · exact Keeps.refl _ _

theorem State.doEngineSelftest_keeps (s : State) (failing : List Nat) : Keeps ⟨[.ray, .seq, .memory,
    .health, .logs], [(0x000000, 0xFFFFFF)]⟩ s (State.doEngineSelftest s failing) := by
  unfold State.doEngineSelftest
  dsimp only
  refine Keeps.ite (fun _ => ?_) (fun _ => ?_)
  · refine Keeps.upd ?_ (hr := Or.inl (by decide +kernel))
    refine Keeps.foldlOf TestRun.s ?_ (fun _ _ => ?_)
    · dsimp only
      exact Keeps.refl _ _
    · refine Keeps.trans ?_ (TestRun.unit_keeps ..) (by decide +kernel)
      exact Keeps.refl _ _
  · exact Keeps.refl _ _

theorem State.applyFences_keeps (s : State) : Keeps ⟨[.codec, .ray, .seq, .health], [(0x000000,
    0xFFFFFF)]⟩ s (State.applyFences s) := by
  unfold State.applyFences
  dsimp only
  refine Keeps.upd ?_ (hc := Or.inl (by decide +kernel)) (hr := Or.inl (by decide +kernel))
  refine Keeps.foldl ?_ (fun _ _ => ?_)
  · refine Keeps.foldl ?_ (fun _ _ => ?_)
    · exact Keeps.refl _ _
    · refine Keeps.trans ?_ (State.fenceUnit_keeps ..) (by decide +kernel)
      exact Keeps.refl _ _
  · refine Keeps.trans ?_ (State.fenceUnit_keeps ..) (by decide +kernel)
    exact Keeps.refl _ _

theorem State.chooseViews_keeps (s : State) (md : Mode) (central : Bool) : Keeps ⟨[.ray, .memory,
    .logs], [(0x180002, 0x180002), (0x180101, 0x180103), (0x480101, 0x480104), (0x480106, 0x480108),
    (0x480203, 0x480205), (0x900005, 0x900005)]⟩ s (State.chooseViews s md central) := by
  unfold State.chooseViews
  dsimp only
  split
  · refine Keeps.trans ?_ (State.inc_keeps1 ..) (by decide +kernel)
    refine Keeps.upd ?_ (hr := Or.inl (by decide +kernel))
    refine Keeps.trans ?_ (State.put_keeps1 ..) (by decide +kernel)
    refine Keeps.trans ?_ (State.put_keeps1 ..) (by decide +kernel)
    refine Keeps.trans ?_ (State.put_keeps1 ..) (by decide +kernel)
    refine Keeps.trans ?_ (State.put_keeps1 ..) (by decide +kernel)
    refine Keeps.trans ?_ (State.put_keeps1 ..) (by decide +kernel)
    refine Keeps.trans ?_ (State.put_keeps1 ..) (by decide +kernel)
    refine Keeps.trans ?_ (State.put_keeps1 ..) (by decide +kernel)
    exact Keeps.refl _ _
  · refine Keeps.trans ?_ (State.inc_keeps1 ..) (by decide +kernel)
    refine Keeps.upd ?_ (hr := Or.inl (by decide +kernel))
    refine Keeps.trans ?_ (State.put_keeps1 ..) (by decide +kernel)
    refine Keeps.trans ?_ (State.put_keeps1 ..) (by decide +kernel)
    refine Keeps.trans ?_ (State.put_keeps1 ..) (by decide +kernel)
    refine Keeps.trans ?_ (State.put_keeps1 ..) (by decide +kernel)
    refine Keeps.trans ?_ (State.put_keeps1 ..) (by decide +kernel)
    refine Keeps.trans ?_ (State.put_keeps1 ..) (by decide +kernel)
    refine Keeps.trans ?_ (State.put_keeps1 ..) (by decide +kernel)
    exact Keeps.refl _ _
  · refine Keeps.trans ?_ (State.log_keeps ..) (by decide +kernel)
    refine Keeps.trans ?_ (State.inc_keeps1 ..) (by decide +kernel)
    refine Keeps.upd ?_ (hr := Or.inl (by decide +kernel))
    refine Keeps.trans ?_ (State.put_keeps1 ..) (by decide +kernel)
    refine Keeps.trans ?_ (State.put_keeps1 ..) (by decide +kernel)
    refine Keeps.trans ?_ (State.put_keeps1 ..) (by decide +kernel)
    refine Keeps.trans ?_ (State.put_keeps1 ..) (by decide +kernel)
    refine Keeps.trans ?_ (State.put_keeps1 ..) (by decide +kernel)
    refine Keeps.trans ?_ (State.put_keeps1 ..) (by decide +kernel)
    refine Keeps.trans ?_ (State.put_keeps1 ..) (by decide +kernel)
    exact Keeps.refl _ _
  · refine Keeps.upd ?_ (hr := Or.inl (by decide +kernel))
    refine Keeps.trans ?_ (State.put_keeps1 ..) (by decide +kernel)
    refine Keeps.trans ?_ (State.put_keeps1 ..) (by decide +kernel)
    refine Keeps.trans ?_ (State.put_keeps1 ..) (by decide +kernel)
    refine Keeps.trans ?_ (State.put_keeps1 ..) (by decide +kernel)
    refine Keeps.trans ?_ (State.put_keeps1 ..) (by decide +kernel)
    refine Keeps.trans ?_ (State.put_keeps1 ..) (by decide +kernel)
    refine Keeps.trans ?_ (State.put_keeps1 ..) (by decide +kernel)
    exact Keeps.refl _ _

end Sys2Proof.Machine
end

