-- ==== Sys2Proof/Laws/Keeps/Loops.lean ====
section
/-! SUPPORT. What each operation of Machine/Loops.lean may change. -/

set_option Elab.async false

namespace Sys2Proof.Machine

theorem State.putSec_keeps (s : State) (n : Nat) (j : Nat) (x : Section) : Keeps ⟨[.loop], []⟩ s
    (State.putSec s n j x) := by
  unfold State.putSec
  refine Keeps.upd ?_ (hl := Or.inl (by decide +kernel))
  exact Keeps.refl _ _

theorem State.slotFlag_keeps (s : State) (n : Nat) (bits : Nat) : Keeps ⟨[], [(0x681005, 0x681005)]⟩ s
    (State.slotFlag s n bits) := by
  unfold State.slotFlag
  refine Keeps.trans ?_ (State.pute_keeps1 ..) (by decide +kernel)
  exact Keeps.refl _ _

theorem State.secFlag_keeps (s : State) (n : Nat) (j : Nat) (bits : Nat) : Keeps ⟨[], [(0x681005,
    0x681005), (0x682007, 0x682007)]⟩ s (State.secFlag s n j bits) := by
  unfold State.secFlag
  refine Keeps.trans ?_ (State.slotFlag_keeps ..) (by decide +kernel)
  refine Keeps.trans ?_ (State.pute_keeps1 ..) (by decide +kernel)
  exact Keeps.refl _ _

theorem State.showLoop_keeps (s : State) (n : Nat) (m : Int) (e : Int) : Keeps ⟨[], [(0x681006,
    0x681007), (0x68100A, 0x68100A)]⟩ s (State.showLoop s n m e) := by
  unfold State.showLoop
  dsimp only
  refine Keeps.ite (fun _ => ?_) (fun _ => ?_)
  · refine Keeps.trans ?_ (State.pute_keeps1 ..) (by decide +kernel)
    refine Keeps.trans ?_ (State.pute_keeps1 ..) (by decide +kernel)
    refine Keeps.trans ?_ (State.pute_keeps1 ..) (by decide +kernel)
    exact Keeps.refl _ _
  · refine Keeps.trans ?_ (State.pute_keeps1 ..) (by decide +kernel)
    refine Keeps.trans ?_ (State.draw_keeps ..) (by decide +kernel)
    refine Keeps.trans ?_ (State.pute_keeps1 ..) (by decide +kernel)
    refine Keeps.trans ?_ (State.pute_keeps1 ..) (by decide +kernel)
    exact Keeps.refl _ _

theorem LoopRun.section_keeps (n : Nat) (x : LoopRun) (j : Nat) :
    Keeps ⟨[.loop], [(0x681005, 0x681005), (0x682007, 0x682007)]⟩ x.s (LoopRun.section n x j).s := by
  unfold LoopRun.section
  dsimp only
  refine Keeps.trans ?_ (State.putSec_keeps ..) (by decide +kernel)
  refine Keeps.optE ?_ (fun _ => (State.secFlag_keeps ..).mono (by decide +kernel))
  exact Keeps.optE (Keeps.refl _ _) (fun _ => (State.secFlag_keeps ..).mono (by decide +kernel))

theorem State.stepLoopMant_keeps (s : State) (n : Nat) (m0 : Int) (dest : Option LoopDest) :
    Keeps ⟨[.out, .loop, .clock, .mgmt], [(0x101107, 0x101107), (0x103003, 0x103003), (0x680201, 0x680201), (0x681004, 0x681007), (0x68100A, 0x68100A), (0x682007, 0x682007)]⟩ s (s.stepLoopMant n m0 dest).2 := by
  unfold State.stepLoopMant
  split
  · exact Keeps.refl _ _
  · dsimp only
    have hr : Keeps ⟨[.out, .loop, .clock, .mgmt], [(0x101107, 0x101107), (0x103003, 0x103003), (0x680201, 0x680201), (0x681004, 0x681007), (0x68100A, 0x68100A), (0x682007, 0x682007)]⟩ s (List.foldl (LoopRun.section n)
        { s := if (satMant m0).2 = true then s.slotFlag n 0x100 else s, m := (satMant m0).1,
          e := s.slotInExp n, sat := (satMant m0).2 } (List.range (s.slotSections n))).s := by
      refine Keeps.foldlOf LoopRun.s ?_ (fun q x => (LoopRun.section_keeps n q x).mono (by decide +kernel))
      exact Keeps.optE (Keeps.refl _ _) (fun _ => (State.slotFlag_keeps ..).mono (by decide +kernel))
    generalize List.foldl (LoopRun.section n) _ _ = r at hr ⊢
    have tail : ∀ (q : Int × Int × State), Keeps ⟨[.out, .loop, .clock, .mgmt], [(0x101107, 0x101107), (0x103003, 0x103003), (0x680201, 0x680201), (0x681004, 0x681007), (0x68100A, 0x68100A), (0x682007, 0x682007)]⟩ s q.2.2 →
        Keeps ⟨[.out, .loop, .clock, .mgmt], [(0x101107, 0x101107), (0x103003, 0x103003), (0x680201, 0x680201), (0x681004, 0x681007), (0x68100A, 0x68100A), (0x682007, 0x682007)]⟩ s (if r.sat = true then (q.2.1,
            if s.ve 0x6810 n 0x05 % 512 = 0 then
              (((q.2.2.showLoop n q.1 r.e).ince 0x6810 n 0x04).inc 0x6802 0x01).event 0x6810 n 0x05 0
            else ((q.2.2.showLoop n q.1 r.e).ince 0x6810 n 0x04).inc 0x6802 0x01)
          else (q.2.1, (q.2.2.showLoop n q.1 r.e).ince 0x6810 n 0x04)).2 := by
      intro q hq
      have h3 := (hq.trans (State.showLoop_keeps q.2.2 n q.1 r.e) (by decide +kernel)).trans
        (State.ince_keeps1 _ 0x6810 n 0x04) (by decide +kernel)
      refine Keeps.sndIte (fun _ => ?_) (fun _ => h3)
      dsimp only
      refine Keeps.optE (h3.trans (State.inc_keeps1 ..) (by decide +kernel)) (fun _ => ?_)
      exact (State.event_keeps ..).mono (by decide +kernel)
    refine tail _ ?_
    rcases dest with _ | t
    · exact hr
    · dsimp only
      split
      · exact hr
      · dsimp only
        refine Keeps.trans ?_ (State.slotFlag_keeps ..) (by decide +kernel)
        refine Keeps.ite (fun _ => hr) (fun _ => ?_)
        exact hr.trans (State.putSec_keeps ..) (by decide +kernel)

theorem State.stepLoop_keeps (s : State) (n : Nat) (num : Int) (den : Nat) (dest : LoopDest) : Keeps
    ⟨[.out, .loop, .clock, .mgmt], [(0x101107, 0x101107), (0x103003, 0x103003), (0x680201, 0x680201),
    (0x681004, 0x681007), (0x68100A, 0x68100A), (0x682007, 0x682007)]⟩ s (State.stepLoop s n num den
    dest).2 := by
  refine Keeps.pair (by unfold State.stepLoop; dsimp only) ?_
  refine Keeps.trans ?_ (State.stepLoopMant_keeps ..) (by decide +kernel)
  exact Keeps.refl _ _

theorem State.clearLoop_keeps (s : State) (n : Nat) : Keeps ⟨[.loop], []⟩ s (State.clearLoop s n) := by
  unfold State.clearLoop
  refine Keeps.foldl ?_ (fun _ _ => ?_)
  · exact Keeps.refl _ _
  · refine Keeps.trans ?_ (State.putSec_keeps ..) (by decide +kernel)
    exact Keeps.refl _ _

theorem State.presetMant_keeps (s : State) (n : Nat) (p : Int) : Keeps ⟨[.loop], [(0x681006, 0x681007),
    (0x68100A, 0x68100A)]⟩ s (State.presetMant s n p) := by
  unfold State.presetMant
  dsimp only
  refine Keeps.ite (fun _ => ?_) (fun _ => ?_)
  · refine Keeps.trans ?_ (State.showLoop_keeps ..) (by decide +kernel)
    refine Keeps.trans ?_ (State.clearLoop_keeps ..) (by decide +kernel)
    exact Keeps.refl _ _
  · refine Keeps.trans ?_ (State.putSec_keeps ..) (by decide +kernel)
    refine Keeps.trans ?_ (State.clearLoop_keeps ..) (by decide +kernel)
    exact Keeps.refl _ _

theorem State.presetLoop_keeps (s : State) (n : Nat) (num : Int) (den : Nat) : Keeps ⟨[.loop],
    [(0x681006, 0x681007), (0x68100A, 0x68100A)]⟩ s (State.presetLoop s n num den) := by
  unfold State.presetLoop
  refine Keeps.trans ?_ (State.presetMant_keeps ..) (by decide +kernel)
  exact Keeps.refl _ _

theorem State.freezeLoop_keeps (s : State) (n : Nat) (on : Bool) : Keeps ⟨[], [(0x681003, 0x681003)]⟩ s
    (State.freezeLoop s n on) := by
  unfold State.freezeLoop
  refine Keeps.trans ?_ (State.pute_keeps1 ..) (by decide +kernel)
  exact Keeps.refl _ _

theorem State.presetStrings_keeps (s : State) : Keeps ⟨[.loop], [(0x681006, 0x681007), (0x68100A,
    0x68100A)]⟩ s (State.presetStrings s) := by
  unfold State.presetStrings
  refine Keeps.foldl ?_ (fun _ _ => ?_)
  · exact Keeps.refl _ _
  · refine Keeps.trans ?_ (State.presetLoop_keeps ..) (by decide +kernel)
    exact Keeps.refl _ _

theorem State.freshLoops_keeps (s : State) : Keeps ⟨[.loop], [(0x681000, 0x6810FF), (0x682007,
    0x682007)]⟩ s (State.freshLoops s) := by
  unfold State.freshLoops
  dsimp only
  refine Keeps.trans ?_ (State.presetStrings_keeps ..) (by decide +kernel)
  refine Keeps.foldl ?_ (fun _ _ => ?_)
  · refine Keeps.foldl ?_ (fun _ _ => ?_)
    · refine Keeps.upd ?_ (hl := Or.inl (by decide +kernel))
      exact Keeps.refl _ _
    · refine Keeps.foldl ?_ (fun _ _ => ?_)
      · exact Keeps.refl _ _
      · refine Keeps.trans ?_ (State.pute_keepsO ..) (by decide +kernel)
        exact Keeps.refl _ _
  · refine Keeps.trans ?_ (State.pute_keeps1 ..) (by decide +kernel)
    exact Keeps.refl _ _

theorem State.ownSecExp_keeps (s : State) (element : Nat) (v : Nat) : Keeps ⟨[.loop, .memory],
    [(0x681005, 0x681005), (0x682006, 0x682007)]⟩ s (State.ownSecExp s element v) := by
  unfold State.ownSecExp
  dsimp only
  refine Keeps.optE ?_ (fun _ => ?_)
  · refine Keeps.trans ?_ (State.putSec_keeps ..) (by decide +kernel)
    refine Keeps.trans ?_ (State.putKept_keeps1 ..) (by decide +kernel)
    exact Keeps.refl _ _
  · refine Keeps.trans ?_ (State.secFlag_keeps ..) (by decide +kernel)
    exact Keeps.refl _ _

theorem State.ownSections_keeps (s : State) (n : Nat) (v : Nat) : Keeps ⟨[.loop, .memory], [(0x681001,
    0x681001)]⟩ s (State.ownSections s n v) := by
  unfold State.ownSections
  dsimp only
  refine Keeps.foldl ?_ (fun _ _ => ?_)
  · refine Keeps.trans ?_ (State.putKept_keeps1 ..) (by decide +kernel)
    exact Keeps.refl _ _
  · refine Keeps.trans ?_ (State.putSec_keeps ..) (by decide +kernel)
    exact Keeps.refl _ _

theorem State.freeLoop_keeps (s : State) (n : Nat) (v : Nat) : Keeps ⟨[.out, .loop, .clock, .mgmt],
    [(0x101107, 0x101107), (0x103003, 0x103003), (0x680201, 0x680201), (0x681004, 0x681007), (0x68100A,
    0x68100A), (0x682007, 0x682007)]⟩ s (State.freeLoop s n v) := by
  unfold State.freeLoop
  refine Keeps.ite (fun _ => ?_) (fun _ => ?_)
  · refine Keeps.trans ?_ (State.stepLoopMant_keeps ..) (by decide +kernel)
    exact Keeps.refl _ _
  · exact Keeps.refl _ _

theorem State.freePreset_keeps (s : State) (n : Nat) (v : Nat) : Keeps ⟨[.loop], [(0x681006, 0x681007),
    (0x68100A, 0x68100A)]⟩ s (State.freePreset s n v) := by
  unfold State.freePreset
  refine Keeps.ite (fun _ => ?_) (fun _ => ?_)
  · refine Keeps.trans ?_ (State.presetMant_keeps ..) (by decide +kernel)
    exact Keeps.refl _ _
  · exact Keeps.refl _ _

end Sys2Proof.Machine
end

