-- ==== Sys2Proof/Laws/Keeps/Lanes.lean ====
section
/-! SUPPORT. What each operation of Machine/Lanes.lean may change. -/

set_option Elab.async false

namespace Sys2Proof.Machine

theorem State.beginBringUp_keeps (s : State) (lane : Nat) : Keeps ⟨[.out, .lanes], [(0x701001,
    0x701001), (0x701003, 0x701003), (0x701006, 0x701006)]⟩ s (State.beginBringUp s lane) := by
  unfold State.beginBringUp
  refine Keeps.ite (fun _ => ?_) (fun _ => ?_)
  · dsimp only
    refine Keeps.trans ?_ (State.sendTraining_keeps ..) (by decide +kernel)
    refine Keeps.trans ?_ (State.pute_keeps1 ..) (by decide +kernel)
    refine Keeps.trans ?_ (State.pute_keeps1 ..) (by decide +kernel)
    refine Keeps.trans ?_ (State.pute_keeps1 ..) (by decide +kernel)
    refine Keeps.trans ?_ (State.putLane_keeps ..) (by decide +kernel)
    exact Keeps.refl _ _
  · exact Keeps.refl _ _

theorem State.reachStage_keeps (s : State) (lane : Nat) (stage : Nat) : Keeps ⟨[.out, .lanes],
    [(0x701003, 0x701003)]⟩ s (State.reachStage s lane stage) := by
  unfold State.reachStage
  refine Keeps.trans ?_ (State.sendTraining_keeps ..) (by decide +kernel)
  refine Keeps.trans ?_ (State.pute_keeps1 ..) (by decide +kernel)
  exact Keeps.refl _ _

theorem State.showRx_keeps (s : State) (p : Nat) : Keeps ⟨[], [(0x700307, 0x700307)]⟩ s (State.showRx s
    p) := by
  unfold State.showRx
  refine Keeps.trans ?_ (State.pute_keeps1 ..) (by decide +kernel)
  exact Keeps.refl _ _

theorem State.sendLaneMap_keeps (s : State) (p : Nat) (w : Nat) : Keeps ⟨[.out, .lanes], [(0x700306,
    0x700306)]⟩ s (State.sendLaneMap s p w) := by
  unfold State.sendLaneMap
  dsimp only
  split
  · refine Keeps.trans ?_ (State.pute_keeps1 ..) (by decide +kernel)
    refine Keeps.trans ?_ (State.putGroup_keeps ..) (by decide +kernel)
    refine Keeps.foldl ?_ (fun _ _ => ?_)
    · refine Keeps.trans ?_ (State.padRow_keeps ..) (by decide +kernel)
      exact Keeps.refl _ _
    · refine Keeps.trans ?_ (State.putBlock_keeps ..) (by decide +kernel)
      exact Keeps.refl _ _
  · refine Keeps.trans ?_ (State.resendHeld_keeps ..) (by decide +kernel)
    refine Keeps.trans ?_ (State.pute_keeps1 ..) (by decide +kernel)
    refine Keeps.trans ?_ (State.putGroup_keeps ..) (by decide +kernel)
    refine Keeps.foldl ?_ (fun _ _ => ?_)
    · refine Keeps.trans ?_ (State.padRow_keeps ..) (by decide +kernel)
      exact Keeps.refl _ _
    · refine Keeps.trans ?_ (State.putBlock_keeps ..) (by decide +kernel)
      exact Keeps.refl _ _

theorem State.portDown_keeps (s : State) (p : Nat) (err : Bool) : Keeps ⟨[.out, .ingress, .lanes,
    .memory, .logs], [(0x180002, 0x180002), (0x180101, 0x180103), (0x300202, 0x300202), (0x300205,
    0x300205), (0x301001, 0x301001), (0x301004, 0x301004), (0x700209, 0x700209), (0x700305, 0x700307),
    (0x700309, 0x700309), (0x701001, 0x701001), (0x900005, 0x900005)]⟩ s (State.portDown s p err) := by
  unfold State.portDown
  dsimp only
  refine Keeps.trans ?_ (State.pute_keeps1 ..) (by decide +kernel)
  refine Keeps.trans ?_ (State.pute_keeps1 ..) (by decide +kernel)
  refine Keeps.trans ?_ (State.pute_keeps1 ..) (by decide +kernel)
  refine Keeps.trans ?_ (State.pute_keeps1 ..) (by decide +kernel)
  refine Keeps.trans ?_ (State.pute_keeps1 ..) (by decide +kernel)
  refine Keeps.trans ?_ (State.putGroup_keeps ..) (by decide +kernel)
  refine Keeps.trans ?_ (State.relayPortDown_keeps ..) (by decide +kernel)
  refine Keeps.trans ?_ (State.dropPartial_keeps ..) (by decide +kernel)
  refine Keeps.ite (fun _ => ?_) (fun _ => ?_)
  · refine Keeps.trans ?_ (State.recover_keeps ..) (by decide +kernel)
    refine Keeps.trans ?_ (State.log_keeps ..) (by decide +kernel)
    refine Keeps.trans ?_ (State.inc_keeps1 ..) (by decide +kernel)
    exact Keeps.refl _ _
  · exact Keeps.refl _ _

theorem State.portTrain_keeps (s : State) (p : Nat) : Keeps ⟨[.out, .lanes], [(0x700305, 0x700305),
    (0x701001, 0x701001), (0x701003, 0x701003), (0x701006, 0x701006)]⟩ s (State.portTrain s p) := by
  unfold State.portTrain
  refine Keeps.ite (fun _ => ?_) (fun _ => ?_)
  · refine Keeps.foldl ?_ (fun _ _ => ?_)
    · refine Keeps.trans ?_ (State.pute_keeps1 ..) (by decide +kernel)
      exact Keeps.refl _ _
    · refine Keeps.trans ?_ (State.beginBringUp_keeps ..) (by decide +kernel)
      exact Keeps.refl _ _
  · refine Keeps.trans ?_ (State.pute_keeps1 ..) (by decide +kernel)
    exact Keeps.refl _ _

theorem State.portCheck_keeps (s : State) (p : Nat) : Keeps ⟨[.out, .ingress, .lanes, .memory, .logs],
    [(0x180002, 0x180002), (0x180101, 0x180103), (0x300202, 0x300202), (0x300205, 0x300205), (0x301001,
    0x301001), (0x301004, 0x301004), (0x700209, 0x700209), (0x700305, 0x700307), (0x700309, 0x700309),
    (0x701001, 0x701001), (0x701003, 0x701003), (0x701006, 0x701006), (0x900005, 0x900005)]⟩ s
    (State.portCheck s p) := by
  unfold State.portCheck
  dsimp only
  refine Keeps.ite (fun _ => ?_) (fun _ => ?_)
  · refine Keeps.trans ?_ (State.portTrain_keeps ..) (by decide +kernel)
    refine Keeps.trans ?_ (State.portDown_keeps ..) (by decide +kernel)
    exact Keeps.refl _ _
  · exact Keeps.refl _ _

theorem State.portTryUp_keeps (s : State) (p : Nat) : Keeps ⟨[.out, .lanes, .logs], [(0x301001,
    0x301001), (0x700305, 0x700307)]⟩ s (State.portTryUp s p) := by
  unfold State.portTryUp
  dsimp only
  refine Keeps.ite (fun _ => ?_) (fun _ => ?_)
  · refine Keeps.trans ?_ (State.fillerRow_keeps ..) (by decide +kernel)
    refine Keeps.trans ?_ (State.recovered_keeps ..) (by decide +kernel)
    refine Keeps.trans ?_ (State.pute_keeps1 ..) (by decide +kernel)
    refine Keeps.trans ?_ (State.pute_keeps1 ..) (by decide +kernel)
    refine Keeps.trans ?_ (State.pute_keeps1 ..) (by decide +kernel)
    refine Keeps.trans ?_ (State.pute_keeps1 ..) (by decide +kernel)
    refine Keeps.trans ?_ (State.putGroup_keeps ..) (by decide +kernel)
    exact Keeps.refl _ _
  · exact Keeps.refl _ _

theorem State.setReceiver_keeps (s : State) (lane : Nat) : Keeps ⟨[.lanes], [(0x701001, 0x701001)]⟩ s
    (State.setReceiver s lane) := by
  unfold State.setReceiver
  refine Keeps.ite (fun _ => ?_) (fun _ => ?_)
  · refine Keeps.trans ?_ (State.showSleep_keeps ..) (by decide +kernel)
    refine Keeps.trans ?_ (State.putLane_keeps ..) (by decide +kernel)
    exact Keeps.refl _ _
  · exact Keeps.refl _ _

theorem State.setReceivers_keeps (s : State) : Keeps ⟨[.lanes], [(0x701001, 0x701001)]⟩ s
    (State.setReceivers s) := by
  unfold State.setReceivers
  refine Keeps.foldl ?_ (fun _ _ => ?_)
  · exact Keeps.refl _ _
  · refine Keeps.trans ?_ (State.setReceiver_keeps ..) (by decide +kernel)
    exact Keeps.refl _ _

theorem State.linkUp_keeps (s : State) (lane : Nat) : Keeps ⟨[.out, .lanes, .logs], [(0x301001,
    0x301001), (0x700305, 0x700307), (0x701001, 0x701001), (0x701003, 0x701003)]⟩ s (State.linkUp s
    lane) := by
  unfold State.linkUp
  dsimp only
  refine Keeps.ite (fun _ => ?_) (fun _ => ?_)
  · refine Keeps.trans ?_ (State.setReceiver_keeps ..) (by decide +kernel)
    refine Keeps.trans ?_ (State.fillerRow_keeps ..) (by decide +kernel)
    refine Keeps.trans ?_ (State.putGroup_keeps ..) (by decide +kernel)
    refine Keeps.trans ?_ (State.recovered_keeps ..) (by decide +kernel)
    refine Keeps.trans ?_ (State.putLane_keeps ..) (by decide +kernel)
    refine Keeps.trans ?_ (State.pute_keeps1 ..) (by decide +kernel)
    refine Keeps.trans ?_ (State.pute_keeps1 ..) (by decide +kernel)
    refine Keeps.trans ?_ (State.trainingBlock_keeps ..) (by decide +kernel)
    refine Keeps.trans ?_ (State.trainingBlock_keeps ..) (by decide +kernel)
    refine Keeps.trans ?_ (State.trainingBlock_keeps ..) (by decide +kernel)
    exact Keeps.refl _ _
  · refine Keeps.ite (fun _ => ?_) (fun _ => ?_)
    · refine Keeps.trans ?_ (State.sendLaneMap_keeps ..) (by decide +kernel)
      refine Keeps.trans ?_ (State.recovered_keeps ..) (by decide +kernel)
      refine Keeps.trans ?_ (State.putLane_keeps ..) (by decide +kernel)
      refine Keeps.trans ?_ (State.pute_keeps1 ..) (by decide +kernel)
      refine Keeps.trans ?_ (State.pute_keeps1 ..) (by decide +kernel)
      refine Keeps.trans ?_ (State.trainingBlock_keeps ..) (by decide +kernel)
      refine Keeps.trans ?_ (State.trainingBlock_keeps ..) (by decide +kernel)
      refine Keeps.trans ?_ (State.trainingBlock_keeps ..) (by decide +kernel)
      exact Keeps.refl _ _
    · refine Keeps.trans ?_ (State.portTryUp_keeps ..) (by decide +kernel)
      refine Keeps.trans ?_ (State.recovered_keeps ..) (by decide +kernel)
      refine Keeps.trans ?_ (State.putLane_keeps ..) (by decide +kernel)
      refine Keeps.trans ?_ (State.pute_keeps1 ..) (by decide +kernel)
      refine Keeps.trans ?_ (State.pute_keeps1 ..) (by decide +kernel)
      refine Keeps.trans ?_ (State.trainingBlock_keeps ..) (by decide +kernel)
      refine Keeps.trans ?_ (State.trainingBlock_keeps ..) (by decide +kernel)
      refine Keeps.trans ?_ (State.trainingBlock_keeps ..) (by decide +kernel)
      exact Keeps.refl _ _

theorem State.leavePort_keeps (s : State) (lane : Nat) : Keeps ⟨[.out, .ingress, .panel, .lanes,
    .memory, .logs], [(0x180002, 0x180002), (0x180101, 0x180103), (0x300202, 0x300202), (0x300205,
    0x300205), (0x301001, 0x301001), (0x301004, 0x301004), (0x700209, 0x700209), (0x700305, 0x700307),
    (0x700309, 0x700309), (0x701001, 0x701001), (0x701003, 0x701003), (0x701006, 0x701006), (0x900005,
    0x900005)]⟩ s (State.leavePort s lane) := by
  unfold State.leavePort
  refine Keeps.ite (fun _ => ?_) (fun _ => ?_)
  · dsimp only
    refine Keeps.trans ?_ (State.putHalf_keeps ..) (by decide +kernel)
    exact Keeps.refl _ _
  · dsimp only
    refine Keeps.ite (fun _ => ?_) (fun _ => ?_)
    · refine Keeps.trans ?_ (State.portCheck_keeps ..) (by decide +kernel)
      refine Keeps.trans ?_ (State.sendLaneMap_keeps ..) (by decide +kernel)
      exact Keeps.refl _ _
    · refine Keeps.trans ?_ (State.portTryUp_keeps ..) (by decide +kernel)
      exact Keeps.refl _ _

theorem State.laneOut_keeps (s : State) (lane : Nat) : Keeps ⟨[.out, .ingress, .panel, .lanes, .memory,
    .logs], [(0x180002, 0x180002), (0x180101, 0x180103), (0x300202, 0x300202), (0x300205, 0x300205),
    (0x301001, 0x301001), (0x301004, 0x301004), (0x700208, 0x700209), (0x700305, 0x700307), (0x700309,
    0x700309), (0x701001, 0x701001), (0x701003, 0x701003), (0x701006, 0x701006), (0x900005, 0x900005)]⟩
    s (State.laneOut s lane) := by
  unfold State.laneOut
  refine Keeps.trans ?_ (State.leavePort_keeps ..) (by decide +kernel)
  refine Keeps.trans ?_ (State.recovered_keeps ..) (by decide +kernel)
  refine Keeps.trans ?_ (State.inc_keeps1 ..) (by decide +kernel)
  refine Keeps.trans ?_ (State.pute_keeps1 ..) (by decide +kernel)
  exact Keeps.refl _ _

theorem State.laneOutLogged_keeps (s : State) (lane : Nat) : Keeps ⟨[.out, .ingress, .panel, .lanes,
    .memory, .logs], [(0x180002, 0x180002), (0x180101, 0x180103), (0x300202, 0x300202), (0x300205,
    0x300205), (0x301001, 0x301001), (0x301004, 0x301004), (0x700208, 0x700209), (0x700305, 0x700307),
    (0x700309, 0x700309), (0x701001, 0x701001), (0x701003, 0x701003), (0x701006, 0x701006), (0x900005,
    0x900005)]⟩ s (State.laneOutLogged s lane) := by
  unfold State.laneOutLogged
  refine Keeps.trans ?_ (State.laneOut_keeps ..) (by decide +kernel)
  refine Keeps.trans ?_ (State.log_keeps ..) (by decide +kernel)
  exact Keeps.refl _ _

theorem State.retrainLane_keeps (s : State) (lane : Nat) : Keeps ⟨[.out, .ingress, .panel, .lanes,
    .memory, .logs], [(0x180002, 0x180002), (0x180101, 0x180103), (0x300202, 0x300202), (0x300205,
    0x300205), (0x301001, 0x301001), (0x301004, 0x301004), (0x700206, 0x700206), (0x700208, 0x700209),
    (0x700305, 0x700307), (0x700309, 0x700309), (0x701001, 0x701001), (0x701003, 0x701003), (0x701006,
    0x701006), (0x701009, 0x701009), (0x900005, 0x900005)]⟩ s (State.retrainLane s lane) := by
  unfold State.retrainLane
  refine Keeps.ite (fun _ => ?_) (fun _ => ?_)
  · dsimp only
    refine Keeps.trans ?_ (State.leavePort_keeps ..) (by decide +kernel)
    refine Keeps.trans ?_ (State.beginBringUp_keeps ..) (by decide +kernel)
    refine Keeps.trans ?_ (State.putLane_keeps ..) (by decide +kernel)
    refine Keeps.trans ?_ (State.recover_keeps ..) (by decide +kernel)
    refine Keeps.trans ?_ (State.log_keeps ..) (by decide +kernel)
    refine Keeps.trans ?_ (State.ince_keeps1 ..) (by decide +kernel)
    refine Keeps.trans ?_ (State.inc_keeps1 ..) (by decide +kernel)
    exact Keeps.refl _ _
  · refine Keeps.trans ?_ (State.laneOutLogged_keeps ..) (by decide +kernel)
    exact Keeps.refl _ _

theorem State.bringUpFails_keeps (s : State) (lane : Nat) (stage : Nat) : Keeps ⟨[.out, .ingress,
    .panel, .lanes, .memory, .logs], [(0x180002, 0x180002), (0x180101, 0x180104), (0x300202, 0x300202),
    (0x300205, 0x300205), (0x301001, 0x301001), (0x301004, 0x301004), (0x700207, 0x700209), (0x700305,
    0x700307), (0x700309, 0x700309), (0x701001, 0x701001), (0x701003, 0x701003), (0x701006, 0x701006),
    (0x900005, 0x900005)]⟩ s (State.bringUpFails s lane stage) := by
  unfold State.bringUpFails
  dsimp only
  refine Keeps.ite (fun _ => ?_) (fun _ => ?_)
  · refine Keeps.trans ?_ (State.laneOut_keeps ..) (by decide +kernel)
    refine Keeps.trans ?_ (State.escalate_keeps ..) (by decide +kernel)
    refine Keeps.trans ?_ (State.putLane_keeps ..) (by decide +kernel)
    refine Keeps.trans ?_ (State.log_keeps ..) (by decide +kernel)
    refine Keeps.trans ?_ (State.inc_keeps1 ..) (by decide +kernel)
    exact Keeps.refl _ _
  · refine Keeps.trans ?_ (State.leavePort_keeps ..) (by decide +kernel)
    refine Keeps.trans ?_ (State.recovered_keeps ..) (by decide +kernel)
    refine Keeps.trans ?_ (State.pute_keeps1 ..) (by decide +kernel)
    refine Keeps.trans ?_ (State.putLane_keeps ..) (by decide +kernel)
    refine Keeps.trans ?_ (State.log_keeps ..) (by decide +kernel)
    refine Keeps.trans ?_ (State.inc_keeps1 ..) (by decide +kernel)
    exact Keeps.refl _ _

theorem State.badBlock_keeps (s : State) (lane : Nat) : Keeps ⟨[.out, .ingress, .panel, .lanes, .memory,
    .logs], [(0x180002, 0x180002), (0x180101, 0x180104), (0x300202, 0x300202), (0x300205, 0x300205),
    (0x301001, 0x301001), (0x301004, 0x301004), (0x700201, 0x700202), (0x700208, 0x700209), (0x700305,
    0x700307), (0x700309, 0x700309), (0x701001, 0x701001), (0x701003, 0x701003), (0x701006, 0x701007),
    (0x900005, 0x900005)]⟩ s (State.badBlock s lane) := by
  unfold State.badBlock
  dsimp only
  refine Keeps.ite (fun _ => ?_) (fun _ => ?_)
  · refine Keeps.trans ?_ (State.laneOutLogged_keeps ..) (by decide +kernel)
    refine Keeps.trans ?_ (State.escalate_keeps ..) (by decide +kernel)
    refine Keeps.trans ?_ (State.inc_keeps1 ..) (by decide +kernel)
    refine Keeps.trans ?_ (State.ince_keeps1 ..) (by decide +kernel)
    exact Keeps.refl _ _
  · refine Keeps.optT ?_ (fun _ => ?_)
    · refine Keeps.trans ?_ (State.inc_keeps1 ..) (by decide +kernel)
      refine Keeps.trans ?_ (State.ince_keeps1 ..) (by decide +kernel)
      exact Keeps.refl _ _
    · refine Keeps.trans ?_ (State.sendAck_keeps ..) (by decide +kernel)
      refine Keeps.trans ?_ (State.putGroup_keeps ..) (by decide +kernel)
      exact Keeps.refl _ _

theorem State.inSequence_keepsF {F : Foot} {s t : State} {lane : Nat} {b : Bytes}
    {act : State → State} (h : Keeps F s t) (hk : Foot.sub ⟨[.out, .ingress, .panel, .lanes, .memory, .logs], [(0x180002, 0x180002), (0x180101, 0x180104), (0x300202, 0x300202), (0x300205, 0x300205), (0x301001, 0x301001), (0x301004, 0x301004), (0x700201, 0x700202), (0x700208, 0x700209), (0x700305, 0x700307), (0x700309, 0x700309), (0x701001, 0x701001), (0x701003, 0x701003), (0x701006, 0x701007), (0x900005, 0x900005)]⟩ F = true)
    (g : ∀ u, Keeps F u (act u)) : Keeps F s (t.inSequence lane b act) := by
  unfold State.inSequence
  have hb : Keeps F t (t.badBlock lane) :=
    (Keeps.mono (F := ⟨[.out, .ingress, .panel, .lanes, .memory, .logs], [(0x180002, 0x180002), (0x180101, 0x180104), (0x300202, 0x300202), (0x300205, 0x300205), (0x301001, 0x301001), (0x301004, 0x301004), (0x700201, 0x700202), (0x700208, 0x700209), (0x700305, 0x700307), (0x700309, 0x700309), (0x701001, 0x701001), (0x701003, 0x701003), (0x701006, 0x701007), (0x900005, 0x900005)]⟩) (State.badBlock_keeps t lane) (by decide +kernel)).mono hk
  have hp : ∀ l g', Keeps F t (t.putGroup l g') := fun l g' =>
    (Keeps.mono (F := ⟨[.out, .ingress, .panel, .lanes, .memory, .logs], [(0x180002, 0x180002), (0x180101, 0x180104), (0x300202, 0x300202), (0x300205, 0x300205), (0x301001, 0x301001), (0x301004, 0x301004), (0x700201, 0x700202), (0x700208, 0x700209), (0x700305, 0x700307), (0x700309, 0x700309), (0x701001, 0x701001), (0x701003, 0x701003), (0x701006, 0x701007), (0x900005, 0x900005)]⟩) (State.putGroup_keeps t l g') (by decide +kernel)).mono hk
  refine h.trans ?_ F.sub_refl
  exact Keeps.ite (fun _ => (hp _ _).trans (g _) F.sub_refl) (fun _ =>
    Keeps.ite (fun _ => Keeps.refl _ _) (fun _ => hb))

theorem State.sendFlush_keeps (s : State) (lane : Nat) : Keeps ⟨[.out, .lanes], [(0x70020C, 0x70020C),
    (0x700309, 0x700309), (0x701001, 0x701001)]⟩ s (State.sendFlush s lane) := by
  unfold State.sendFlush
  refine Keeps.trans ?_ (State.add_keeps1 ..) (by decide +kernel)
  refine Keeps.trans ?_ (State.sendBlock_keeps ..) (by decide +kernel)
  refine Keeps.trans ?_ (State.sendBlock_keeps ..) (by decide +kernel)
  exact Keeps.refl _ _

theorem State.showRoundTrip_keeps (s : State) (lane : Nat) (n : Nat) : Keeps ⟨[], [(0x70100A,
    0x70100A)]⟩ s (State.showRoundTrip s lane n) := by
  unfold State.showRoundTrip
  refine Keeps.foldl ?_ (fun _ _ => ?_)
  · exact Keeps.refl _ _
  · refine Keeps.trans ?_ (State.pute_keeps1 ..) (by decide +kernel)
    exact Keeps.refl _ _

theorem State.ackOn_keeps (s : State) (lane : Nat) (q : Nat) : Keeps ⟨[.out, .lanes], [(0x70100A,
    0x70100A)]⟩ s (State.ackOn s lane q) := by
  unfold State.ackOn
  dsimp only
  split
  · exact Keeps.refl _ _
  · refine Keeps.trans ?_ (State.drainQueue_keeps ..) (by decide +kernel)
    refine Keeps.trans ?_ (State.showRoundTrip_keeps ..) (by decide +kernel)
    refine Keeps.trans ?_ (State.putGroup_keeps ..) (by decide +kernel)
    exact Keeps.refl _ _

theorem State.resend_keeps (s : State) (lane : Nat) (q : Nat) (charged : Nat) : Keeps ⟨[.out, .lanes],
    [(0x700203, 0x700203), (0x701008, 0x701008)]⟩ s (State.resend s lane q charged) := by
  unfold State.resend
  dsimp only
  refine Keeps.trans ?_ (State.ince_keeps1 ..) (by decide +kernel)
  refine Keeps.trans ?_ (State.inc_keeps1 ..) (by decide +kernel)
  refine Keeps.trans ?_ (State.resendHeld_keeps ..) (by decide +kernel)
  refine Keeps.trans ?_ (State.putGroup_keeps ..) (by decide +kernel)
  exact Keeps.refl _ _

theorem State.replayFails_keeps (s : State) (lane : Nat) (q : Nat) (charged : Nat) (lanes : List Nat) :
    Keeps ⟨[.out, .ingress, .panel, .lanes, .memory, .logs], [(0x180002, 0x180002), (0x180101,
    0x180104), (0x300202, 0x300202), (0x300205, 0x300205), (0x301001, 0x301001), (0x301004, 0x301004),
    (0x700203, 0x700204), (0x700206, 0x700206), (0x700208, 0x700209), (0x700305, 0x700307), (0x700309,
    0x700309), (0x701001, 0x701001), (0x701003, 0x701003), (0x701006, 0x701006), (0x701008, 0x701009),
    (0x900005, 0x900005)]⟩ s (State.replayFails s lane q charged lanes) := by
  unfold State.replayFails
  dsimp only
  refine Keeps.ite (fun _ => ?_) (fun _ => ?_)
  · refine Keeps.foldl ?_ (fun _ _ => ?_)
    · refine Keeps.trans ?_ (State.putGroup_keeps ..) (by decide +kernel)
      refine Keeps.trans ?_ (State.inc_keeps1 ..) (by decide +kernel)
      exact Keeps.refl _ _
    · refine Keeps.trans ?_ (State.retrainLane_keeps ..) (by decide +kernel)
      refine Keeps.trans ?_ (State.escalate_keeps ..) (by decide +kernel)
      exact Keeps.refl _ _
  · refine Keeps.trans ?_ (State.resend_keeps ..) (by decide +kernel)
    refine Keeps.trans ?_ (State.putGroup_keeps ..) (by decide +kernel)
    refine Keeps.trans ?_ (State.inc_keeps1 ..) (by decide +kernel)
    exact Keeps.refl _ _

theorem State.dropHashes_keeps (s : State) (h : Nat) (rows : List Nat) : Keeps ⟨[.panel], []⟩ s
    (State.dropHashes s h rows) := by
  unfold State.dropHashes
  refine Keeps.trans ?_ (State.putHalf_keeps ..) (by decide +kernel)
  exact Keeps.refl _ _

theorem State.nakOn_keeps (s : State) (lane : Nat) (q : Nat) (rank : Nat) : Keeps ⟨[.out, .ingress,
    .panel, .lanes, .memory, .logs], [(0x180002, 0x180002), (0x180101, 0x180104), (0x300202, 0x300202),
    (0x300205, 0x300205), (0x301001, 0x301001), (0x301004, 0x301004), (0x700203, 0x700204), (0x700206,
    0x700206), (0x700208, 0x700209), (0x70020C, 0x70020C), (0x700305, 0x700307), (0x700309, 0x700309),
    (0x701001, 0x701001), (0x701003, 0x701003), (0x701006, 0x701006), (0x701008, 0x70100A), (0x900005,
    0x900005)]⟩ s (State.nakOn s lane q rank) := by
  unfold State.nakOn
  dsimp only
  refine Keeps.ite (fun _ => ?_) (fun _ => ?_)
  · refine Keeps.trans ?_ (State.sendFlush_keeps ..) (by decide +kernel)
    refine Keeps.trans ?_ (State.putGroup_keeps ..) (by decide +kernel)
    refine Keeps.trans ?_ (State.dropHashes_keeps ..) (by decide +kernel)
    refine Keeps.trans ?_ (State.ackOn_keeps ..) (by decide +kernel)
    exact Keeps.refl _ _
  · refine Keeps.optT ?_ (fun _ => ?_)
    · refine Keeps.trans ?_ (State.ackOn_keeps ..) (by decide +kernel)
      exact Keeps.refl _ _
    · refine Keeps.ite (fun _ => ?_) (fun _ => ?_)
      · refine Keeps.ite (fun _ => ?_) (fun _ => ?_)
        · exact Keeps.refl _ _
        · refine Keeps.trans ?_ (State.replayFails_keeps ..) (by decide +kernel)
          exact Keeps.refl _ _
      · refine Keeps.trans ?_ (State.resend_keeps ..) (by decide +kernel)
        refine Keeps.trans ?_ (State.putGroup_keeps ..) (by decide +kernel)
        exact Keeps.refl _ _

theorem State.ackEntry_keeps (onLane : Nat) (s : State) (e : AckEntry) : Keeps ⟨[.out, .ingress, .panel,
    .lanes, .memory, .logs], [(0x180002, 0x180002), (0x180101, 0x180104), (0x300202, 0x300202),
    (0x300205, 0x300205), (0x301001, 0x301001), (0x301004, 0x301004), (0x700203, 0x700204), (0x700206,
    0x700206), (0x700208, 0x700209), (0x70020C, 0x70020C), (0x700305, 0x700307), (0x700309, 0x700309),
    (0x701001, 0x701001), (0x701003, 0x701003), (0x701006, 0x701006), (0x701008, 0x70100A), (0x900005,
    0x900005)]⟩ s (State.ackEntry onLane s e) := by
  unfold State.ackEntry
  dsimp only
  refine Keeps.ite (fun _ => ?_) (fun _ => ?_)
  · exact Keeps.refl _ _
  · refine Keeps.ite (fun _ => ?_) (fun _ => ?_)
    · refine Keeps.trans ?_ (State.nakOn_keeps ..) (by decide +kernel)
      exact Keeps.refl _ _
    · refine Keeps.trans ?_ (State.ackOn_keeps ..) (by decide +kernel)
      exact Keeps.refl _ _

theorem State.takeBlock_keeps (s : State) (lane : Nat) (b : Bytes) : Keeps ⟨[.out, .ingress, .panel,
    .lanes, .memory, .logs], [(0x180002, 0x180002), (0x180101, 0x180104), (0x300202, 0x300202),
    (0x300205, 0x300205), (0x301001, 0x301001), (0x301004, 0x301004), (0x700201, 0x700204), (0x700206,
    0x700206), (0x700208, 0x700209), (0x70020B, 0x70020C), (0x700305, 0x700307), (0x700309, 0x700309),
    (0x701001, 0x701001), (0x701003, 0x701003), (0x701006, 0x70100A), (0x900005, 0x900005)]⟩ s
    (State.takeBlock s lane b) := by
  unfold State.takeBlock
  dsimp only
  refine Keeps.ite (fun _ => ?_) (fun _ => ?_)
  · refine Keeps.trans ?_ (State.badBlock_keeps ..) (by decide +kernel)
    refine Keeps.trans ?_ (State.inc_keeps1 ..) (by decide +kernel)
    exact Keeps.refl _ _
  · refine Keeps.ite (fun _ => ?_) (fun _ => ?_)
    · refine Keeps.trans ?_ (State.badBlock_keeps ..) (by decide +kernel)
      exact Keeps.refl _ _
    · refine Keeps.ite (fun _ => ?_) (fun _ => ?_)
      · refine Keeps.foldl ?_ (fun _ _ => ?_)
        · exact Keeps.refl _ _
        · refine Keeps.trans ?_ (State.ackEntry_keeps ..) (by decide +kernel)
          exact Keeps.refl _ _
      · refine Keeps.ite (fun _ => ?_) (fun _ => ?_)
        · exact Keeps.refl _ _
        · refine Keeps.ite (fun _ => ?_) (fun _ => ?_)
          · refine State.inSequence_keepsF ?_ (by decide +kernel) (fun _ => ?_)
            · exact Keeps.refl _ _
            · refine Keeps.trans ?_ (State.parcelBlock_keeps ..) (by decide +kernel)
              exact Keeps.refl _ _
          · refine Keeps.ite (fun _ => ?_) (fun _ => ?_)
            · refine State.inSequence_keepsF ?_ (by decide +kernel) (fun _ => ?_)
              · exact Keeps.refl _ _
              · refine Keeps.trans ?_ (State.startParcel_keeps ..) (by decide +kernel)
                exact Keeps.refl _ _
            · refine Keeps.ite (fun _ => ?_) (fun _ => ?_)
              · refine State.inSequence_keepsF ?_ (by decide +kernel) (fun _ => ?_)
                · exact Keeps.refl _ _
                · refine Keeps.trans ?_ (State.dropPartial_keeps ..) (by decide +kernel)
                  exact Keeps.refl _ _
              · refine Keeps.ite (fun _ => ?_) (fun _ => ?_)
                · refine State.inSequence_keepsF ?_ (by decide +kernel) (fun _ => ?_)
                  · exact Keeps.refl _ _
                  · exact Keeps.refl _ _
                · exact Keeps.refl _ _

theorem State.rxNext_keeps (s : State) (p : Nat) (n : Nat) : Keeps ⟨[.lanes], []⟩ s (State.rxNext s p n)
    := by
  unfold State.rxNext
  dsimp only
  refine Keeps.trans ?_ (State.putGroup_keeps ..) (by decide +kernel)
  exact Keeps.refl _ _

theorem State.restoreSlots_keeps (p fuel : Nat) (s : State) :
    Keeps ⟨[.out, .ingress, .panel, .lanes, .memory, .logs], [(0x180002, 0x180002), (0x180101, 0x180104), (0x300202, 0x300202), (0x300205, 0x300205), (0x301001, 0x301001), (0x301004, 0x301004), (0x700201, 0x700204), (0x700206, 0x700206), (0x700208, 0x700209), (0x70020B, 0x70020C), (0x700305, 0x700307), (0x700309, 0x700309), (0x701001, 0x701001), (0x701003, 0x701003), (0x701006, 0x70100A), (0x900005, 0x900005)]⟩ s (State.restoreSlots p fuel s) := by
  have hn : ∀ (u : State) n, Keeps ⟨[.out, .ingress, .panel, .lanes, .memory, .logs], [(0x180002, 0x180002), (0x180101, 0x180104), (0x300202, 0x300202), (0x300205, 0x300205), (0x301001, 0x301001), (0x301004, 0x301004), (0x700201, 0x700204), (0x700206, 0x700206), (0x700208, 0x700209), (0x70020B, 0x70020C), (0x700305, 0x700307), (0x700309, 0x700309), (0x701001, 0x701001), (0x701003, 0x701003), (0x701006, 0x70100A), (0x900005, 0x900005)]⟩ u (u.rxNext p n) := fun u n =>
    (State.rxNext_keeps u p n).mono (by decide +kernel)
  induction fuel generalizing s with
  | zero => exact Keeps.refl _ _
  | succ fuel ih =>
    unfold State.restoreSlots
    dsimp only
    split
    · exact Keeps.refl _ _
    · split
      · refine Keeps.trans ?_ (ih _) (Foot.sub_refl _)
        refine Keeps.trans ?_ (State.takeBlock_keeps ..) (by decide +kernel)
        refine Keeps.trans ?_ (hn _ _) (Foot.sub_refl _)
        exact (State.putLane_keeps ..).mono (by decide +kernel)
      · exact Keeps.ite (fun _ => (hn _ _).trans (ih _) (Foot.sub_refl _)) (fun _ => Keeps.refl _ _)

theorem State.receiveBlock_keeps (s : State) (lane : Nat) (b : Bytes) : Keeps ⟨[.out, .ingress, .panel,
    .lanes, .memory, .logs], [(0x180002, 0x180002), (0x180101, 0x180104), (0x300202, 0x300202),
    (0x300205, 0x300205), (0x301001, 0x301001), (0x301004, 0x301004), (0x700201, 0x700204), (0x700206,
    0x700206), (0x700208, 0x700209), (0x70020B, 0x70020C), (0x700305, 0x700307), (0x700309, 0x700309),
    (0x701001, 0x701001), (0x701003, 0x701003), (0x701006, 0x70100A), (0x900005, 0x900005)]⟩ s
    (State.receiveBlock s lane b) := by
  unfold State.receiveBlock
  dsimp only
  refine Keeps.ite (fun _ => ?_) (fun _ => ?_)
  · refine Keeps.ite (fun _ => ?_) (fun _ => ?_)
    · refine Keeps.trans ?_ (State.takeBlock_keeps ..) (by decide +kernel)
      refine Keeps.trans ?_ (State.heard_keeps ..) (by decide +kernel)
      exact Keeps.refl _ _
    · refine Keeps.optT ?_ (fun _ => ?_)
      · refine Keeps.trans ?_ (State.heard_keeps ..) (by decide +kernel)
        exact Keeps.refl _ _
      · refine Keeps.trans ?_ (State.badBlock_keeps ..) (by decide +kernel)
        exact Keeps.refl _ _
  · refine Keeps.ite (fun _ => ?_) (fun _ => ?_)
    · refine Keeps.trans ?_ (State.restoreSlots_keeps ..) (by decide +kernel)
      refine Keeps.trans ?_ (State.putLane_keeps ..) (by decide +kernel)
      refine Keeps.trans ?_ (State.heard_keeps ..) (by decide +kernel)
      exact Keeps.refl _ _
    · refine Keeps.optT ?_ (fun _ => ?_)
      · refine Keeps.trans ?_ (State.heard_keeps ..) (by decide +kernel)
        exact Keeps.refl _ _
      · refine Keeps.trans ?_ (State.badBlock_keeps ..) (by decide +kernel)
        exact Keeps.refl _ _

theorem State.portOrder_keeps (s : State) (p : Nat) : Keeps ⟨[.out, .ingress, .panel, .lanes, .memory,
    .logs], [(0x180002, 0x180002), (0x180101, 0x180104), (0x300202, 0x300202), (0x300205, 0x300205),
    (0x301001, 0x301001), (0x301004, 0x301004), (0x700207, 0x700209), (0x700305, 0x700307), (0x700309,
    0x700309), (0x701001, 0x701001), (0x701003, 0x701003), (0x701006, 0x701006), (0x900005, 0x900005)]⟩
    s (State.portOrder s p) := by
  unfold State.portOrder
  dsimp only
  refine Keeps.ite (fun _ => ?_) (fun _ => ?_)
  · refine Keeps.ite (fun _ => ?_) (fun _ => ?_)
    · refine Keeps.foldl ?_ (fun _ _ => ?_)
      · exact Keeps.refl _ _
      · refine Keeps.ite (fun _ => ?_) (fun _ => ?_)
        · refine Keeps.trans ?_ (State.bringUpFails_keeps ..) (by decide +kernel)
          refine Keeps.trans ?_ (State.pute_keeps1 ..) (by decide +kernel)
          refine Keeps.trans ?_ (State.pute_keeps1 ..) (by decide +kernel)
          exact Keeps.refl _ _
        · refine Keeps.trans ?_ (State.reachStage_keeps ..) (by decide +kernel)
          refine Keeps.trans ?_ (State.pute_keeps1 ..) (by decide +kernel)
          exact Keeps.refl _ _
    · refine Keeps.foldl ?_ (fun _ _ => ?_)
      · exact Keeps.refl _ _
      · refine Keeps.trans ?_ (State.bringUpFails_keeps ..) (by decide +kernel)
        exact Keeps.refl _ _
  · exact Keeps.refl _ _

theorem State.doTraining_keeps (s : State) (lane : Nat) (b : Bytes) : Keeps ⟨[.out, .lanes, .logs],
    [(0x301001, 0x301001), (0x700305, 0x700307), (0x701001, 0x701001), (0x701003, 0x701003), (0x701006,
    0x701006)]⟩ s (State.doTraining s lane b) := by
  unfold State.doTraining
  dsimp only
  refine Keeps.ite (fun _ => ?_) (fun _ => ?_)
  · exact Keeps.refl _ _
  · refine Keeps.ite (fun _ => ?_) (fun _ => ?_)
    · refine Keeps.ite (fun _ => ?_) (fun _ => ?_)
      · refine Keeps.ite (fun _ => ?_) (fun _ => ?_)
        · refine Keeps.trans ?_ (State.putLane_keeps ..) (by decide +kernel)
          exact Keeps.refl _ _
        · refine Keeps.ite (fun _ => ?_) (fun _ => ?_)
          · refine Keeps.trans ?_ (State.reachStage_keeps ..) (by decide +kernel)
            refine Keeps.trans ?_ (State.pute_keeps1 ..) (by decide +kernel)
            refine Keeps.trans ?_ (State.putLane_keeps ..) (by decide +kernel)
            exact Keeps.refl _ _
          · refine Keeps.trans ?_ (State.reachStage_keeps ..) (by decide +kernel)
            refine Keeps.trans ?_ (State.putLane_keeps ..) (by decide +kernel)
            exact Keeps.refl _ _
      · refine Keeps.trans ?_ (State.putLane_keeps ..) (by decide +kernel)
        exact Keeps.refl _ _
    · refine Keeps.ite (fun _ => ?_) (fun _ => ?_)
      · refine Keeps.ite (fun _ => ?_) (fun _ => ?_)
        · refine Keeps.trans ?_ (State.reachStage_keeps ..) (by decide +kernel)
          refine Keeps.trans ?_ (State.putLane_keeps ..) (by decide +kernel)
          exact Keeps.refl _ _
        · refine Keeps.optE ?_ (fun _ => ?_)
          · refine Keeps.trans ?_ (State.putLane_keeps ..) (by decide +kernel)
            exact Keeps.refl _ _
          · refine Keeps.trans ?_ (State.linkUp_keeps ..) (by decide +kernel)
            exact Keeps.refl _ _
      · refine Keeps.trans ?_ (State.putLane_keeps ..) (by decide +kernel)
        exact Keeps.refl _ _

theorem State.markerLock_keeps (s : State) (lane : Nat) : Keeps ⟨[.out, .ingress, .panel, .lanes,
    .memory, .logs], [(0x180002, 0x180002), (0x180101, 0x180104), (0x300202, 0x300202), (0x300205,
    0x300205), (0x301001, 0x301001), (0x301004, 0x301004), (0x700207, 0x700209), (0x700305, 0x700307),
    (0x700309, 0x700309), (0x701001, 0x701001), (0x701003, 0x701003), (0x701006, 0x701006), (0x900005,
    0x900005)]⟩ s (State.markerLock s lane) := by
  unfold State.markerLock
  dsimp only
  refine Keeps.ite (fun _ => ?_) (fun _ => ?_)
  · refine Keeps.trans ?_ (State.putLane_keeps ..) (by decide +kernel)
    exact Keeps.refl _ _
  · refine Keeps.ite (fun _ => ?_) (fun _ => ?_)
    · refine Keeps.trans ?_ (State.showSleep_keeps ..) (by decide +kernel)
      refine Keeps.trans ?_ (State.pute_keeps1 ..) (by decide +kernel)
      refine Keeps.trans ?_ (State.pute_keeps1 ..) (by decide +kernel)
      refine Keeps.trans ?_ (State.putLane_keeps ..) (by decide +kernel)
      exact Keeps.refl _ _
    · refine Keeps.ite (fun _ => ?_) (fun _ => ?_)
      · refine Keeps.trans ?_ (State.reachStage_keeps ..) (by decide +kernel)
        refine Keeps.trans ?_ (State.putLane_keeps ..) (by decide +kernel)
        exact Keeps.refl _ _
      · refine Keeps.trans ?_ (State.portOrder_keeps ..) (by decide +kernel)
        refine Keeps.trans ?_ (State.reachStage_keeps ..) (by decide +kernel)
        refine Keeps.trans ?_ (State.putLane_keeps ..) (by decide +kernel)
        exact Keeps.refl _ _

theorem State.doMarker_keeps (s : State) (lane : Nat) (b : Bytes) : Keeps ⟨[.out, .ingress, .panel,
    .lanes, .memory, .logs], [(0x180002, 0x180002), (0x180101, 0x180104), (0x300202, 0x300202),
    (0x300205, 0x300205), (0x301001, 0x301001), (0x301004, 0x301004), (0x700201, 0x700202), (0x700207,
    0x700209), (0x700305, 0x700309), (0x701001, 0x701001), (0x701003, 0x701003), (0x701006, 0x701007),
    (0x70100C, 0x70100C), (0x900005, 0x900005)]⟩ s (State.doMarker s lane b) := by
  unfold State.doMarker
  dsimp only
  refine Keeps.ite (fun _ => ?_) (fun _ => ?_)
  · refine Keeps.trans ?_ (State.putLane_keeps ..) (by decide +kernel)
    exact Keeps.refl _ _
  · refine Keeps.ite (fun _ => ?_) (fun _ => ?_)
    · refine Keeps.trans ?_ (State.reachStage_keeps ..) (by decide +kernel)
      refine Keeps.trans ?_ (State.pute_keeps1 ..) (by decide +kernel)
      refine Keeps.trans ?_ (State.putLane_keeps ..) (by decide +kernel)
      exact Keeps.refl _ _
    · refine Keeps.ite (fun _ => ?_) (fun _ => ?_)
      · refine Keeps.ite (fun _ => ?_) (fun _ => ?_)
        · refine Keeps.trans ?_ (State.badBlock_keeps ..) (by decide +kernel)
          exact Keeps.refl _ _
        · exact Keeps.refl _ _
      · refine Keeps.ite (fun _ => ?_) (fun _ => ?_)
        · exact Keeps.refl _ _
        · refine Keeps.ite (fun _ => ?_) (fun _ => ?_)
          · refine Keeps.trans ?_ (State.markerLock_keeps ..) (by decide +kernel)
            refine Keeps.optT ?_ (fun _ => ?_)
            · refine Keeps.trans ?_ (State.putLane_keeps ..) (by decide +kernel)
              refine Keeps.trans ?_ (State.pute_keeps1 ..) (by decide +kernel)
              exact Keeps.refl _ _
            · refine Keeps.trans ?_ (State.pute_keeps1 ..) (by decide +kernel)
              exact Keeps.refl _ _
          · refine Keeps.optE ?_ (fun _ => ?_)
            · refine Keeps.optT ?_ (fun _ => ?_)
              · refine Keeps.trans ?_ (State.putLane_keeps ..) (by decide +kernel)
                refine Keeps.trans ?_ (State.pute_keeps1 ..) (by decide +kernel)
                exact Keeps.refl _ _
              · refine Keeps.trans ?_ (State.pute_keeps1 ..) (by decide +kernel)
                exact Keeps.refl _ _
            · refine Keeps.trans ?_ (State.portOrder_keeps ..) (by decide +kernel)
              exact Keeps.refl _ _

theorem State.doFiller_keeps (s : State) (lane : Nat) (b : Bytes) (fill : Nat) : Keeps ⟨[.out, .ingress,
    .panel, .lanes, .memory, .logs], [(0x180002, 0x180002), (0x180101, 0x180104), (0x300202, 0x300202),
    (0x300205, 0x300205), (0x301001, 0x301001), (0x301004, 0x301004), (0x700201, 0x700202), (0x700208,
    0x70020A), (0x700305, 0x700307), (0x700309, 0x700309), (0x701001, 0x701001), (0x701003, 0x701003),
    (0x701006, 0x701007), (0x900005, 0x900005)]⟩ s (State.doFiller s lane b fill) := by
  unfold State.doFiller
  dsimp only
  refine Keeps.ite (fun _ => ?_) (fun _ => ?_)
  · refine Keeps.trans ?_ (State.badBlock_keeps ..) (by decide +kernel)
    exact Keeps.refl _ _
  · refine Keeps.ite (fun _ => ?_) (fun _ => ?_)
    · refine Keeps.trans ?_ (State.inc_keeps1 ..) (by decide +kernel)
      refine Keeps.trans ?_ (State.putGroup_keeps ..) (by decide +kernel)
      exact Keeps.refl _ _
    · refine Keeps.ite (fun _ => ?_) (fun _ => ?_)
      · refine Keeps.trans ?_ (State.inc_keeps1 ..) (by decide +kernel)
        refine Keeps.trans ?_ (State.putGroup_keeps ..) (by decide +kernel)
        exact Keeps.refl _ _
      · refine Keeps.trans ?_ (State.putGroup_keeps ..) (by decide +kernel)
        exact Keeps.refl _ _

theorem State.doSleep_keeps (s : State) (lane : Nat) (b : Bytes) : Keeps ⟨[.out, .ingress, .panel,
    .lanes, .memory, .logs], [(0x180002, 0x180002), (0x180101, 0x180104), (0x300202, 0x300202),
    (0x300205, 0x300205), (0x301001, 0x301001), (0x301004, 0x301004), (0x700201, 0x700202), (0x700208,
    0x700209), (0x700305, 0x700307), (0x700309, 0x700309), (0x701001, 0x701001), (0x701003, 0x701003),
    (0x701006, 0x701007), (0x900005, 0x900005)]⟩ s (State.doSleep s lane b) := by
  unfold State.doSleep
  refine Keeps.ite (fun _ => ?_) (fun _ => ?_)
  · refine Keeps.trans ?_ (State.badBlock_keeps ..) (by decide +kernel)
    exact Keeps.refl _ _
  · refine Keeps.ite (fun _ => ?_) (fun _ => ?_)
    · refine Keeps.trans ?_ (State.showSleep_keeps ..) (by decide +kernel)
      refine Keeps.trans ?_ (State.putLane_keeps ..) (by decide +kernel)
      exact Keeps.refl _ _
    · exact Keeps.refl _ _

theorem State.doLaneMap_keeps (s : State) (lane : Nat) (b : Bytes) : Keeps ⟨[.out, .ingress, .panel,
    .lanes, .memory, .logs], [(0x180002, 0x180002), (0x180101, 0x180104), (0x300202, 0x300202),
    (0x300205, 0x300205), (0x301001, 0x301001), (0x301004, 0x301004), (0x700201, 0x700202), (0x700208,
    0x700209), (0x700305, 0x700307), (0x700309, 0x700309), (0x701001, 0x701001), (0x701003, 0x701003),
    (0x701006, 0x701007), (0x900005, 0x900005)]⟩ s (State.doLaneMap s lane b) := by
  unfold State.doLaneMap
  dsimp only
  refine Keeps.ite (fun _ => ?_) (fun _ => ?_)
  · refine Keeps.trans ?_ (State.badBlock_keeps ..) (by decide +kernel)
    exact Keeps.refl _ _
  · refine Keeps.ite (fun _ => ?_) (fun _ => ?_)
    · refine Keeps.trans ?_ (State.portCheck_keeps ..) (by decide +kernel)
      refine Keeps.trans ?_ (State.showRx_keeps ..) (by decide +kernel)
      refine Keeps.trans ?_ (State.putGroup_keeps ..) (by decide +kernel)
      exact Keeps.refl _ _
    · exact Keeps.refl _ _

theorem State.doSignal_keeps (s : State) (lane : Nat) : Keeps ⟨[.out, .lanes], [(0x701001, 0x701001),
    (0x701003, 0x701003)]⟩ s (State.doSignal s lane) := by
  unfold State.doSignal
  refine Keeps.ite (fun _ => ?_) (fun _ => ?_)
  · refine Keeps.trans ?_ (State.reachStage_keeps ..) (by decide +kernel)
    exact Keeps.refl _ _
  · refine Keeps.ite (fun _ => ?_) (fun _ => ?_)
    · refine Keeps.trans ?_ (State.pute_keeps1 ..) (by decide +kernel)
      refine Keeps.trans ?_ (State.pute_keeps1 ..) (by decide +kernel)
      refine Keeps.trans ?_ (State.putLane_keeps ..) (by decide +kernel)
      exact Keeps.refl _ _
    · exact Keeps.refl _ _

theorem State.doLockLoss_keeps (s : State) (lane : Nat) : Keeps ⟨[.out, .ingress, .panel, .lanes,
    .memory, .logs], [(0x180002, 0x180002), (0x180101, 0x180104), (0x300202, 0x300202), (0x300205,
    0x300205), (0x301001, 0x301001), (0x301004, 0x301004), (0x700202, 0x700202), (0x700206, 0x700206),
    (0x700208, 0x700209), (0x700305, 0x700307), (0x700309, 0x700309), (0x701001, 0x701001), (0x701003,
    0x701003), (0x701006, 0x701006), (0x701009, 0x701009), (0x900005, 0x900005)]⟩ s (State.doLockLoss s
    lane) := by
  unfold State.doLockLoss
  dsimp only
  refine Keeps.ite (fun _ => ?_) (fun _ => ?_)
  · refine Keeps.ite (fun _ => ?_) (fun _ => ?_)
    · refine Keeps.trans ?_ (State.laneOutLogged_keeps ..) (by decide +kernel)
      refine Keeps.trans ?_ (State.escalate_keeps ..) (by decide +kernel)
      exact Keeps.refl _ _
    · refine Keeps.trans ?_ (State.pute_keeps1 ..) (by decide +kernel)
      refine Keeps.trans ?_ (State.putLane_keeps ..) (by decide +kernel)
      exact Keeps.refl _ _
  · refine Keeps.ite (fun _ => ?_) (fun _ => ?_)
    · exact Keeps.refl _ _
    · refine Keeps.ite (fun _ => ?_) (fun _ => ?_)
      · refine Keeps.trans ?_ (State.retrainLane_keeps ..) (by decide +kernel)
        exact Keeps.refl _ _
      · refine Keeps.trans ?_ (State.leavePort_keeps ..) (by decide +kernel)
        refine Keeps.trans ?_ (State.showRx_keeps ..) (by decide +kernel)
        refine Keeps.trans ?_ (State.beginBringUp_keeps ..) (by decide +kernel)
        refine Keeps.ite (fun _ => ?_) (fun _ => ?_)
        · refine Keeps.trans ?_ (State.inc_keeps1 ..) (by decide +kernel)
          refine Keeps.trans ?_ (State.sendAck_keeps ..) (by decide +kernel)
          refine Keeps.trans ?_ (State.putGroup_keeps ..) (by decide +kernel)
          exact Keeps.refl _ _
        · exact Keeps.refl _ _

theorem State.doPortSleep_keeps (s : State) (p : Nat) : Keeps ⟨[.out, .lanes], [(0x700309, 0x700309)]⟩ s
    (State.doPortSleep s p) := by
  unfold State.doPortSleep
  dsimp only
  refine Keeps.ite (fun _ => ?_) (fun _ => ?_)
  · refine Keeps.trans ?_ (State.pute_keeps1 ..) (by decide +kernel)
    refine Keeps.foldl ?_ (fun _ _ => ?_)
    · exact Keeps.refl _ _
    · refine Keeps.trans ?_ (State.putBlock_keeps ..) (by decide +kernel)
      refine Keeps.trans ?_ (State.putBlock_keeps ..) (by decide +kernel)
      exact Keeps.refl _ _
  · exact Keeps.refl _ _

theorem State.sleepHalf_keeps (s : State) (h : Nat) : Keeps ⟨[.out, .lanes], [(0x700309, 0x700309),
    (0x701001, 0x701001)]⟩ s (State.sleepHalf s h) := by
  unfold State.sleepHalf
  refine Keeps.foldl ?_ (fun _ _ => ?_)
  · exact Keeps.refl _ _
  · dsimp only
    refine Keeps.trans ?_ (State.showSleep_keeps ..) (by decide +kernel)
    refine Keeps.trans ?_ (State.putLane_keeps ..) (by decide +kernel)
    refine Keeps.trans ?_ (State.sendBlock_keeps ..) (by decide +kernel)
    refine Keeps.trans ?_ (State.sendBlock_keeps ..) (by decide +kernel)
    exact Keeps.refl _ _

theorem State.ownLaneCmd_keeps (s : State) (lane : Nat) (v : Nat) : Keeps ⟨[.out, .ingress, .panel,
    .lanes, .memory, .logs], [(0x180002, 0x180002), (0x180101, 0x180103), (0x300202, 0x300202),
    (0x300205, 0x300205), (0x301001, 0x301001), (0x301004, 0x301004), (0x700206, 0x700206), (0x700208,
    0x700209), (0x700305, 0x700307), (0x700309, 0x700309), (0x701001, 0x701001), (0x701003, 0x701003),
    (0x701006, 0x701006), (0x701009, 0x701009), (0x900005, 0x900005)]⟩ s (State.ownLaneCmd s lane v) :=
    by
  unfold State.ownLaneCmd
  dsimp only
  split
  · refine Keeps.trans ?_ (State.leavePort_keeps ..) (by decide +kernel)
    refine Keeps.trans ?_ (State.beginBringUp_keeps ..) (by decide +kernel)
    refine Keeps.trans ?_ (State.putLane_keeps ..) (by decide +kernel)
    refine Keeps.trans ?_ (State.ince_keeps1 ..) (by decide +kernel)
    refine Keeps.trans ?_ (State.inc_keeps1 ..) (by decide +kernel)
    exact Keeps.refl _ _
  · refine Keeps.trans ?_ (State.laneOut_keeps ..) (by decide +kernel)
    exact Keeps.refl _ _
  · refine Keeps.ite (fun _ => ?_) (fun _ => ?_)
    · exact Keeps.refl _ _
    · refine Keeps.optT ?_ (fun _ => ?_)
      · refine Keeps.trans ?_ (State.beginBringUp_keeps ..) (by decide +kernel)
        refine Keeps.trans ?_ (State.putLane_keeps ..) (by decide +kernel)
        exact Keeps.refl _ _
      · refine Keeps.trans ?_ (State.pute_keeps1 ..) (by decide +kernel)
        exact Keeps.refl _ _
  · exact Keeps.refl _ _

theorem State.ownPortRate_keeps (s : State) (p : Nat) (v : Nat) : Keeps ⟨[.out, .ingress, .lanes,
    .memory, .logs], [(0x180002, 0x180002), (0x180101, 0x180103), (0x300202, 0x300202), (0x300205,
    0x300205), (0x301001, 0x301001), (0x301004, 0x301004), (0x700209, 0x700209), (0x700301, 0x700301),
    (0x700305, 0x700307), (0x700309, 0x700309), (0x701001, 0x701001), (0x701003, 0x701003), (0x701006,
    0x701006), (0x900005, 0x900005)]⟩ s (State.ownPortRate s p v) := by
  unfold State.ownPortRate
  dsimp only
  refine Keeps.optT ?_ (fun _ => ?_)
  · refine Keeps.trans ?_ (State.putKept_keeps1 ..) (by decide +kernel)
    exact Keeps.refl _ _
  · refine Keeps.trans ?_ (State.portTrain_keeps ..) (by decide +kernel)
    refine Keeps.trans ?_ (State.portDown_keeps ..) (by decide +kernel)
    exact Keeps.refl _ _

theorem State.ownPortEnable_keeps (s : State) (p : Nat) (v : Nat) : Keeps ⟨[.out, .ingress, .lanes,
    .memory, .logs], [(0x180002, 0x180002), (0x180101, 0x180103), (0x300202, 0x300202), (0x300205,
    0x300205), (0x301001, 0x301001), (0x301004, 0x301004), (0x700209, 0x700209), (0x700302, 0x700302),
    (0x700305, 0x700307), (0x700309, 0x700309), (0x701001, 0x701001), (0x701003, 0x701003), (0x701006,
    0x701006), (0x900005, 0x900005)]⟩ s (State.ownPortEnable s p v) := by
  unfold State.ownPortEnable
  dsimp only
  refine Keeps.optT ?_ (fun _ => ?_)
  · refine Keeps.trans ?_ (State.putKept_keeps1 ..) (by decide +kernel)
    exact Keeps.refl _ _
  · refine Keeps.ite (fun _ => ?_) (fun _ => ?_)
    · refine Keeps.foldl ?_ (fun _ _ => ?_)
      · refine Keeps.trans ?_ (State.pute_keeps1 ..) (by decide +kernel)
        refine Keeps.trans ?_ (State.portDown_keeps ..) (by decide +kernel)
        exact Keeps.refl _ _
      · refine Keeps.ite (fun _ => ?_) (fun _ => ?_)
        · exact Keeps.refl _ _
        · refine Keeps.trans ?_ (State.pute_keeps1 ..) (by decide +kernel)
          exact Keeps.refl _ _
    · refine Keeps.trans ?_ (State.portTrain_keeps ..) (by decide +kernel)
      exact Keeps.refl _ _

end Sys2Proof.Machine
end

