-- ==== Sys2Proof/Laws/Keeps/Panel.lean ====
section
/-! SUPPORT. What each operation of Machine/Panel.lean may change. -/

set_option Elab.async false

namespace Sys2Proof.Machine

theorem State.sendPanel_keeps (s : State) (lanes : List Nat) (payload : Bytes) : Keeps ⟨[.out, .lanes],
    [(0x700309, 0x700309), (0x701001, 0x701001)]⟩ s (State.sendPanel s lanes payload) := by
  unfold State.sendPanel
  refine Keeps.foldl ?_ (fun _ _ => ?_)
  · exact Keeps.refl _ _
  · refine Keeps.trans ?_ (State.sendBlock_keeps ..) (by decide +kernel)
    exact Keeps.refl _ _

theorem State.dropAllHashes_keeps (s : State) (h : Nat) : Keeps ⟨[.panel], []⟩ s (State.dropAllHashes s
    h) := by
  unfold State.dropAllHashes
  refine Keeps.trans ?_ (State.putHalf_keeps ..) (by decide +kernel)
  exact Keeps.refl _ _

theorem State.sendConfig_keeps (s : State) (h : Nat) : Keeps ⟨[.out, .panel, .lanes], [(0x700309,
    0x700309), (0x701001, 0x701001)]⟩ s (State.sendConfig s h) := by
  unfold State.sendConfig
  dsimp only
  refine Keeps.trans ?_ (State.dropAllHashes_keeps ..) (by decide +kernel)
  refine Keeps.trans ?_ (State.sendPanel_keeps ..) (by decide +kernel)
  exact Keeps.refl _ _

theorem State.sendFill_keeps (s : State) (h : Nat) (v : Byte) : Keeps ⟨[.out, .panel, .lanes],
    [(0x700309, 0x700309), (0x701001, 0x701001)]⟩ s (State.sendFill s h v) := by
  unfold State.sendFill
  dsimp only
  refine Keeps.ite (fun _ => ?_) (fun _ => ?_)
  · refine Keeps.trans ?_ (State.putHalf_keeps ..) (by decide +kernel)
    refine Keeps.trans ?_ (State.sendPanel_keeps ..) (by decide +kernel)
    exact Keeps.refl _ _
  · refine Keeps.trans ?_ (State.dropAllHashes_keeps ..) (by decide +kernel)
    refine Keeps.trans ?_ (State.sendPanel_keeps ..) (by decide +kernel)
    exact Keeps.refl _ _

theorem State.advancePhase_keeps (s : State) (h : Nat) : Keeps ⟨[], [(0x580100, 0x5801FF)]⟩ s
    (State.advancePhase s h) := by
  unfold State.advancePhase
  refine Keeps.trans ?_ (State.put_keepsO ..) (by decide +kernel)
  exact Keeps.refl _ _

theorem State.sendBias_keeps (s : State) (h : Nat) : Keeps ⟨[.out, .lanes], [(0x700309, 0x700309),
    (0x701001, 0x701001)]⟩ s (State.sendBias s h) := by
  unfold State.sendBias
  refine Keeps.trans ?_ (State.sendPanel_keeps ..) (by decide +kernel)
  exact Keeps.refl _ _

theorem State.applyBand_keeps (s : State) (h : Nat) : Keeps ⟨[.panel], []⟩ s (State.applyBand s h) := by
  unfold State.applyBand
  refine Keeps.trans ?_ (State.putHalf_keeps ..) (by decide +kernel)
  exact Keeps.refl _ _

theorem State.flushLanes_keeps (s : State) (h : Nat) : Keeps ⟨[.out, .lanes], [(0x70020C, 0x70020C),
    (0x700309, 0x700309), (0x701001, 0x701001)]⟩ s (State.flushLanes s h) := by
  unfold State.flushLanes
  refine Keeps.foldl ?_ (fun _ _ => ?_)
  · exact Keeps.refl _ _
  · refine Keeps.trans ?_ (State.sendFlush_keeps ..) (by decide +kernel)
    refine Keeps.trans ?_ (State.putGroup_keeps ..) (by decide +kernel)
    exact Keeps.refl _ _

theorem State.sendReset_keeps (s : State) (h : Nat) : Keeps ⟨[.out, .panel, .lanes], [(0x70020C,
    0x70020C), (0x700309, 0x700309), (0x701001, 0x701001)]⟩ s (State.sendReset s h) := by
  unfold State.sendReset
  dsimp only
  refine Keeps.trans ?_ (State.flushLanes_keeps ..) (by decide +kernel)
  split
  · refine Keeps.trans ?_ (State.sendBlock_keeps ..) (by decide +kernel)
    refine Keeps.trans ?_ (State.draw_keeps ..) (by decide +kernel)
    refine Keeps.ite (fun _ => ?_) (fun _ => ?_)
    · refine Keeps.trans ?_ (State.applyBand_keeps ..) (by decide +kernel)
      exact Keeps.refl _ _
    · exact Keeps.refl _ _
  · refine Keeps.trans ?_ (State.draw_keeps ..) (by decide +kernel)
    refine Keeps.ite (fun _ => ?_) (fun _ => ?_)
    · refine Keeps.trans ?_ (State.applyBand_keeps ..) (by decide +kernel)
      exact Keeps.refl _ _
    · exact Keeps.refl _ _

theorem State.closeLoad_keeps (s : State) (h : Nat) (late : List Nat) : Keeps ⟨[.panel, .lanes],
    [(0x580201, 0x580201), (0x580203, 0x580204)]⟩ s (State.closeLoad s h late) := by
  unfold State.closeLoad
  dsimp only
  refine Keeps.foldl ?_ (fun _ _ => ?_)
  · refine Keeps.optT ?_ (fun _ => ?_)
    · refine Keeps.trans ?_ (State.add_keeps1 ..) (by decide +kernel)
      refine Keeps.trans ?_ (State.putHalf_keeps ..) (by decide +kernel)
      exact Keeps.refl _ _
    · refine Keeps.trans ?_ (State.inc_keeps1 ..) (by decide +kernel)
      refine Keeps.trans ?_ (State.add_keeps1 ..) (by decide +kernel)
      exact Keeps.refl _ _
  · refine Keeps.trans ?_ (State.putGroup_keeps ..) (by decide +kernel)
    exact Keeps.refl _ _

theorem State.loadLane_keeps (s : State) (h : Nat) (p : Nat) (rank : Nat) (lane : Nat) (rows : List Nat)
    (data : Nat → Bytes) : Keeps ⟨[.out, .lanes], [(0x700309, 0x700309), (0x701001, 0x701001)]⟩ s
    (State.loadLane s h p rank lane rows data) := by
  unfold State.loadLane
  dsimp only
  refine Keeps.trans ?_ (State.sendBlock_keeps ..) (by decide +kernel)
  refine Keeps.foldl ?_ (fun _ _ => ?_)
  · refine Keeps.foldl ?_ (fun _ _ => ?_)
    · exact Keeps.refl _ _
    · refine Keeps.trans ?_ (State.sendBlock_keeps ..) (by decide +kernel)
      exact Keeps.refl _ _
  · refine Keeps.trans ?_ (State.sendBlock_keeps ..) (by decide +kernel)
    exact Keeps.refl _ _

theorem State.load_keeps (s : State) (h : Nat) (all : Bool) (data : Nat → Bytes) : Keeps ⟨[.out, .panel,
    .lanes], [(0x580201, 0x580204), (0x70020C, 0x70020C), (0x700309, 0x700309), (0x701001, 0x701001)]⟩ s
    (State.load s h all data) := by
  unfold State.load
  dsimp only
  refine Keeps.optT ?_ (fun _ => ?_)
  · refine Keeps.trans ?_ (State.flushLanes_keeps ..) (by decide +kernel)
    refine Keeps.trans ?_ (State.closeLoad_keeps ..) (by decide +kernel)
    exact Keeps.refl _ _
  · refine Keeps.foldl ?_ (fun _ _ => ?_)
    · refine Keeps.trans ?_ (State.add_keeps1 ..) (by decide +kernel)
      refine Keeps.trans ?_ (State.putHalf_keeps ..) (by decide +kernel)
      exact Keeps.refl _ _
    · refine Keeps.ite (fun _ => ?_) (fun _ => ?_)
      · refine Keeps.trans ?_ (State.loadLane_keeps ..) (by decide +kernel)
        exact Keeps.refl _ _
      · exact Keeps.refl _ _

theorem State.loadPlane_keeps (s : State) (copy : Nat) (f : Nat) (j : Nat) (ecc : List Ecc) : Keeps
    ⟨[.now, .out, .panel, .lanes], [(0x580201, 0x580204), (0x70020C, 0x70020C), (0x700309, 0x700309),
    (0x701001, 0x701001)]⟩ s (State.loadPlane s copy f j ecc) := by
  unfold State.loadPlane
  dsimp only
  refine Keeps.foldl ?_ (fun _ _ => ?_)
  · exact Keeps.refl _ _
  · refine State.atCycle_keepsF ?_ (by decide +kernel) (fun _ => ?_)
    · exact Keeps.refl _ _
    · refine Keeps.trans ?_ (State.load_keeps ..) (by decide +kernel)
      exact Keeps.refl _ _

theorem State.slotLoad_keeps (s : State) (f : Nat) (j : Nat) (ecc : List Ecc) : Keeps ⟨[.now, .out,
    .panel, .lanes], [(0x580201, 0x580204), (0x70020C, 0x70020C), (0x700309, 0x700309), (0x701001,
    0x701001)]⟩ s (State.slotLoad s f j ecc) := by
  unfold State.slotLoad
  refine Keeps.ite (fun _ => ?_) (fun _ => ?_)
  · refine Keeps.trans ?_ (State.loadPlane_keeps ..) (by decide +kernel)
    exact Keeps.refl _ _
  · refine Keeps.ite (fun _ => ?_) (fun _ => ?_)
    · refine Keeps.trans ?_ (State.loadPlane_keeps ..) (by decide +kernel)
      exact Keeps.refl _ _
    · exact Keeps.refl _ _

theorem State.slotResets_keeps (s : State) : Keeps ⟨[.out, .panel, .lanes], [(0x70020C, 0x70020C),
    (0x700309, 0x700309), (0x701001, 0x701001)]⟩ s (State.slotResets s) := by
  unfold State.slotResets
  refine Keeps.foldl ?_ (fun _ _ => ?_)
  · exact Keeps.refl _ _
  · refine Keeps.ite (fun _ => ?_) (fun _ => ?_)
    · refine Keeps.trans ?_ (State.sendReset_keeps ..) (by decide +kernel)
      exact Keeps.refl _ _
    · refine Keeps.trans ?_ (State.flushLanes_keeps ..) (by decide +kernel)
      exact Keeps.refl _ _

theorem State.panelState_keeps (s : State) (v : Nat) : Keeps ⟨[], [(0x580101, 0x580101)]⟩ s
    (State.panelState s v) := by
  unfold State.panelState
  refine Keeps.ite (fun _ => ?_) (fun _ => ?_)
  · exact Keeps.refl _ _
  · refine Keeps.trans ?_ (State.put_keeps1 ..) (by decide +kernel)
    exact Keeps.refl _ _

theorem State.putClear_keeps (s : State) (h : Nat) (b : Bool) : Keeps ⟨[], [(0x580105, 0x580105)]⟩ s
    (State.putClear s h b) := by
  unfold State.putClear
  refine Keeps.trans ?_ (State.putBit_keeps1 ..) (by decide +kernel)
  exact Keeps.refl _ _

theorem State.park_keeps (s : State) (hs : List Nat) : Keeps ⟨[.out, .panel, .lanes], [(0x580105,
    0x580105), (0x580201, 0x580201), (0x580203, 0x580204), (0x70020C, 0x70020C), (0x700309, 0x700309),
    (0x701001, 0x701001)]⟩ s (State.park s hs) := by
  unfold State.park
  dsimp only
  refine Keeps.foldl ?_ (fun _ _ => ?_)
  · exact Keeps.refl _ _
  · refine Keeps.ite (fun _ => ?_) (fun _ => ?_)
    · refine Keeps.trans ?_ (State.dropAllHashes_keeps ..) (by decide +kernel)
      refine Keeps.trans ?_ (State.sendPanel_keeps ..) (by decide +kernel)
      refine Keeps.trans ?_ (State.putHalf_keeps ..) (by decide +kernel)
      refine Keeps.trans ?_ (State.putClear_keeps ..) (by decide +kernel)
      refine Keeps.trans ?_ (State.flushLanes_keeps ..) (by decide +kernel)
      refine Keeps.trans ?_ (State.closeLoad_keeps ..) (by decide +kernel)
      exact Keeps.refl _ _
    · refine Keeps.trans ?_ (State.putHalf_keeps ..) (by decide +kernel)
      refine Keeps.trans ?_ (State.putClear_keeps ..) (by decide +kernel)
      refine Keeps.trans ?_ (State.flushLanes_keeps ..) (by decide +kernel)
      refine Keeps.trans ?_ (State.closeLoad_keeps ..) (by decide +kernel)
      exact Keeps.refl _ _

theorem State.stopPark_keeps (s : State) : Keeps ⟨[.now, .out, .panel, .lanes], [(0x580105, 0x580105),
    (0x580201, 0x580201), (0x580203, 0x580204), (0x70020C, 0x70020C), (0x700309, 0x700309), (0x701001,
    0x701001)]⟩ s (State.stopPark s) := by
  unfold State.stopPark
  refine Keeps.ite (fun _ => ?_) (fun _ => ?_)
  · refine State.atCycle_keepsF ?_ (by decide +kernel) (fun _ => ?_)
    · exact Keeps.refl _ _
    · refine Keeps.trans ?_ (State.park_keeps ..) (by decide +kernel)
      exact Keeps.refl _ _
  · exact Keeps.refl _ _

theorem State.startClear_keeps (s : State) (h : Nat) (count : Nat) : Keeps ⟨[.out, .panel, .lanes],
    [(0x580101, 0x580101), (0x580105, 0x580105), (0x580201, 0x580201), (0x580203, 0x580204), (0x70020C,
    0x70020C), (0x700309, 0x700309), (0x701001, 0x701001)]⟩ s (State.startClear s h count) := by
  unfold State.startClear
  dsimp only
  refine Keeps.optT ?_ (fun _ => ?_)
  · refine Keeps.trans ?_ (State.sendReset_keeps ..) (by decide +kernel)
    refine Keeps.trans ?_ (State.sendBias_keeps ..) (by decide +kernel)
    refine Keeps.trans ?_ (State.sendFill_keeps ..) (by decide +kernel)
    refine Keeps.trans ?_ (State.sendConfig_keeps ..) (by decide +kernel)
    refine Keeps.trans ?_ (State.putHalf_keeps ..) (by decide +kernel)
    refine Keeps.trans ?_ (State.putClear_keeps ..) (by decide +kernel)
    refine Keeps.trans ?_ (State.closeLoad_keeps ..) (by decide +kernel)
    exact Keeps.refl _ _
  · refine Keeps.trans ?_ (State.panelState_keeps ..) (by decide +kernel)
    exact Keeps.refl _ _

theorem State.remap_keeps (s : State) (h : Nat) : Keeps ⟨[.out, .panel, .lanes, .memory, .logs],
    [(0x180002, 0x180002), (0x180101, 0x180103), (0x580100, 0x5801FF), (0x580201, 0x580201), (0x580203,
    0x580204), (0x580209, 0x580209), (0x70020C, 0x70020C), (0x700309, 0x700309), (0x701001, 0x701001),
    (0x900005, 0x900005)]⟩ s (State.remap s h) := by
  unfold State.remap
  dsimp only
  refine Keeps.ite (fun _ => ?_) (fun _ => ?_)
  · exact Keeps.refl _ _
  · refine Keeps.ite (fun _ => ?_) (fun _ => ?_)
    · refine Keeps.ite (fun _ => ?_) (fun _ => ?_)
      · refine Keeps.ite (fun _ => ?_) (fun _ => ?_)
        · refine Keeps.trans ?_ (State.putHalf_keeps ..) (by decide +kernel)
          refine Keeps.trans ?_ (State.startClear_keeps ..) (by decide +kernel)
          refine Keeps.trans ?_ (State.put_keepsO ..) (by decide +kernel)
          refine Keeps.trans ?_ (State.putHalf_keeps ..) (by decide +kernel)
          refine Keeps.trans ?_ (State.flushLanes_keeps ..) (by decide +kernel)
          refine Keeps.trans ?_ (State.closeLoad_keeps ..) (by decide +kernel)
          exact Keeps.refl _ _
        · refine Keeps.trans ?_ (State.putHalf_keeps ..) (by decide +kernel)
          refine Keeps.trans ?_ (State.put_keepsO ..) (by decide +kernel)
          refine Keeps.trans ?_ (State.putHalf_keeps ..) (by decide +kernel)
          refine Keeps.trans ?_ (State.flushLanes_keeps ..) (by decide +kernel)
          refine Keeps.trans ?_ (State.closeLoad_keeps ..) (by decide +kernel)
          exact Keeps.refl _ _
      · refine Keeps.trans ?_ (State.sendConfig_keeps ..) (by decide +kernel)
        refine Keeps.trans ?_ (State.put_keepsO ..) (by decide +kernel)
        refine Keeps.trans ?_ (State.putHalf_keeps ..) (by decide +kernel)
        refine Keeps.trans ?_ (State.flushLanes_keeps ..) (by decide +kernel)
        refine Keeps.trans ?_ (State.closeLoad_keeps ..) (by decide +kernel)
        exact Keeps.refl _ _
    · refine Keeps.ite (fun _ => ?_) (fun _ => ?_)
      · refine Keeps.trans ?_ (State.put_keepsO ..) (by decide +kernel)
        exact Keeps.refl _ _
      · refine Keeps.trans ?_ (State.putHalf_keeps ..) (by decide +kernel)
        refine Keeps.trans ?_ (State.put_keepsO ..) (by decide +kernel)
        refine Keeps.trans ?_ (State.park_keeps ..) (by decide +kernel)
        refine Keeps.trans ?_ (State.log_keeps ..) (by decide +kernel)
        refine Keeps.trans ?_ (State.inc_keeps1 ..) (by decide +kernel)
        exact Keeps.refl _ _

theorem State.bringUpPanel_keeps (s : State) : Keeps ⟨[.out, .lanes], [(0x701001, 0x701001), (0x701003,
    0x701003), (0x701006, 0x701006)]⟩ s (State.bringUpPanel s) := by
  unfold State.bringUpPanel
  refine Keeps.foldl ?_ (fun _ _ => ?_)
  · exact Keeps.refl _ _
  · refine Keeps.trans ?_ (State.beginBringUp_keeps ..) (by decide +kernel)
    refine Keeps.trans ?_ (State.pute_keeps1 ..) (by decide +kernel)
    refine Keeps.trans ?_ (State.putLane_keeps ..) (by decide +kernel)
    refine Keeps.trans ?_ (State.putGroup_keeps ..) (by decide +kernel)
    exact Keeps.refl _ _

theorem State.pgGood_keeps (s : State) (n : Nat) : Keeps ⟨[.out, .panel, .lanes], [(0x701001, 0x701001),
    (0x701003, 0x701003), (0x701006, 0x701006)]⟩ s (State.pgGood s n) := by
  unfold State.pgGood
  refine Keeps.ite (fun _ => ?_) (fun _ => ?_)
  · refine Keeps.trans ?_ (State.bringUpPanel_keeps ..) (by decide +kernel)
    refine Keeps.upd ?_ (hp := Or.inl (by decide +kernel))
    exact Keeps.refl _ _
  · refine Keeps.upd ?_ (hp := Or.inl (by decide +kernel))
    exact Keeps.refl _ _

theorem State.railEnable_keeps (s : State) (n : Nat) : Keeps ⟨[.out, .panel, .lanes], [(0x580104,
    0x580104), (0x701001, 0x701001), (0x701003, 0x701003), (0x701006, 0x701006)]⟩ s (State.railEnable s
    n) := by
  unfold State.railEnable
  dsimp only
  refine Keeps.ite (fun _ => ?_) (fun _ => ?_)
  · refine Keeps.trans ?_ (State.pgGood_keeps ..) (by decide +kernel)
    refine Keeps.trans ?_ (State.putBit_keeps1 ..) (by decide +kernel)
    exact Keeps.refl _ _
  · refine Keeps.upd ?_ (hp := Or.inl (by decide +kernel))
    refine Keeps.trans ?_ (State.putBit_keeps1 ..) (by decide +kernel)
    exact Keeps.refl _ _

theorem State.railsOn_keeps (s : State) : Keeps ⟨[.out, .panel, .lanes], [(0x580101, 0x580101),
    (0x580104, 0x580104), (0x701001, 0x701001), (0x701003, 0x701003), (0x701006, 0x701006)]⟩ s
    (State.railsOn s) := by
  unfold State.railsOn
  refine Keeps.ite (fun _ => ?_) (fun _ => ?_)
  · exact Keeps.refl _ _
  · refine Keeps.trans ?_ (State.railEnable_keeps ..) (by decide +kernel)
    refine Keeps.trans ?_ (State.panelState_keeps ..) (by decide +kernel)
    exact Keeps.refl _ _

theorem State.railsOff_keeps (s : State) : Keeps ⟨[.out, .panel, .lanes], [(0x580101, 0x580101),
    (0x580104, 0x580104), (0x701001, 0x701001), (0x701003, 0x701003), (0x701006, 0x701006)]⟩ s
    (State.railsOff s) := by
  unfold State.railsOff
  refine Keeps.trans ?_ (State.railsOn_keeps ..) (by decide +kernel)
  refine Keeps.trans ?_ (State.panelState_keeps ..) (by decide +kernel)
  refine Keeps.upd ?_ (hp := Or.inl (by decide +kernel))
  exact Keeps.refl _ _

theorem State.railRelease_keeps (s : State) (kind : Nat) : Keeps ⟨[.out, .panel, .lanes], [(0x580101,
    0x580101), (0x580104, 0x580104), (0x701001, 0x701001), (0x701003, 0x701003), (0x701006, 0x701006)]⟩
    s (State.railRelease s kind) := by
  unfold State.railRelease
  dsimp only
  split
  · refine Keeps.trans ?_ (State.railsOff_keeps ..) (by decide +kernel)
    exact Keeps.refl _ _
  · refine Keeps.ite (fun _ => ?_) (fun _ => ?_)
    · refine Keeps.trans ?_ (State.railsOff_keeps ..) (by decide +kernel)
      refine Keeps.trans ?_ (State.putBit_keeps1 ..) (by decide +kernel)
      exact Keeps.refl _ _
    · refine Keeps.upd ?_ (hp := Or.inl (by decide +kernel))
      refine Keeps.trans ?_ (State.putBit_keeps1 ..) (by decide +kernel)
      exact Keeps.refl _ _

theorem State.railsDown_keeps (s : State) (kind : Nat) : Keeps ⟨[.out, .panel, .lanes], [(0x580101,
    0x580101), (0x580104, 0x580105), (0x701001, 0x701001), (0x701003, 0x701003), (0x701006, 0x701006)]⟩
    s (State.railsDown s kind) := by
  unfold State.railsDown
  dsimp only
  refine Keeps.trans ?_ (State.railRelease_keeps ..) (by decide +kernel)
  refine Keeps.trans ?_ (State.putHalf_keeps ..) (by decide +kernel)
  refine Keeps.trans ?_ (State.putHalf_keeps ..) (by decide +kernel)
  refine Keeps.trans ?_ (State.putClear_keeps ..) (by decide +kernel)
  refine Keeps.trans ?_ (State.putClear_keeps ..) (by decide +kernel)
  exact Keeps.refl _ _

theorem State.pgFails_keeps (s : State) : Keeps ⟨[.out, .panel, .lanes, .memory, .logs], [(0x180002,
    0x180002), (0x180101, 0x180103), (0x580101, 0x580101), (0x580104, 0x580105), (0x580208, 0x580208),
    (0x701001, 0x701001), (0x701003, 0x701003), (0x701006, 0x701006), (0x900005, 0x900005)]⟩ s
    (State.pgFails s) := by
  unfold State.pgFails
  dsimp only
  refine Keeps.upd ?_ (hp := Or.inl (by decide +kernel))
  refine Keeps.trans ?_ (State.put_keeps1 ..) (by decide +kernel)
  refine Keeps.trans ?_ (State.log_keeps ..) (by decide +kernel)
  refine Keeps.trans ?_ (State.inc_keeps1 ..) (by decide +kernel)
  refine Keeps.trans ?_ (State.railsDown_keeps ..) (by decide +kernel)
  exact Keeps.refl _ _

theorem State.parked_keeps (s : State) : Keeps ⟨[.out, .panel, .lanes], [(0x580101, 0x580101),
    (0x580104, 0x580105), (0x701001, 0x701001), (0x701003, 0x701003), (0x701006, 0x701006)]⟩ s
    (State.parked s) := by
  unfold State.parked
  dsimp only
  refine Keeps.ite (fun _ => ?_) (fun _ => ?_)
  · refine Keeps.ite (fun _ => ?_) (fun _ => ?_)
    · refine Keeps.trans ?_ (State.railsDown_keeps ..) (by decide +kernel)
      exact Keeps.refl _ _
    · refine Keeps.ite (fun _ => ?_) (fun _ => ?_)
      · refine Keeps.trans ?_ (State.railsDown_keeps ..) (by decide +kernel)
        exact Keeps.refl _ _
      · refine Keeps.trans ?_ (State.panelState_keeps ..) (by decide +kernel)
        exact Keeps.refl _ _
  · exact Keeps.refl _ _

theorem State.discharge_keeps (s : State) (h : Nat) : Keeps ⟨[.out, .panel, .lanes], [(0x580101,
    0x580101), (0x580104, 0x580105), (0x700309, 0x700309), (0x701001, 0x701001), (0x701003, 0x701003),
    (0x701006, 0x701006)]⟩ s (State.discharge s h) := by
  unfold State.discharge
  dsimp only
  refine Keeps.ite (fun _ => ?_) (fun _ => ?_)
  · refine Keeps.trans ?_ (State.sendPanel_keeps ..) (by decide +kernel)
    refine Keeps.trans ?_ (State.putHalf_keeps ..) (by decide +kernel)
    exact Keeps.refl _ _
  · refine Keeps.trans ?_ (State.parked_keeps ..) (by decide +kernel)
    refine Keeps.trans ?_ (State.sleepHalf_keeps ..) (by decide +kernel)
    refine Keeps.trans ?_ (State.putHalf_keeps ..) (by decide +kernel)
    exact Keeps.refl _ _

theorem State.endDrone_keeps (s : State) : Keeps ⟨[.out, .panel, .bridge], [(0x500103, 0x500103),
    (0x58000A, 0x58000A), (0x580101, 0x580101)]⟩ s (State.endDrone s) := by
  unfold State.endDrone
  refine Keeps.ite (fun _ => ?_) (fun _ => ?_)
  · dsimp only
    refine Keeps.trans ?_ (State.putHalf_keeps ..) (by decide +kernel)
    refine Keeps.trans ?_ (State.putHalf_keeps ..) (by decide +kernel)
    refine Keeps.trans ?_ (State.dropAllHashes_keeps ..) (by decide +kernel)
    refine Keeps.trans ?_ (State.dropAllHashes_keeps ..) (by decide +kernel)
    refine Keeps.trans ?_ (State.panelState_keeps ..) (by decide +kernel)
    refine Keeps.trans ?_ (State.put_keeps1 ..) (by decide +kernel)
    refine Keeps.trans ?_ (State.put_keeps1 ..) (by decide +kernel)
    refine Keeps.trans ?_ (State.darken_keeps ..) (by decide +kernel)
    exact Keeps.refl _ _
  · exact Keeps.refl _ _

theorem State.panelFault_keeps (s : State) (m : Nat) : Keeps ⟨[.out, .panel, .bridge, .lanes, .memory,
    .health, .logs], [(0x180002, 0x180002), (0x180101, 0x180103), (0x500103, 0x500103), (0x58000A,
    0x58000A), (0x580101, 0x580101), (0x580105, 0x580105), (0x580200, 0x5802FF), (0x600103, 0x600103),
    (0x600201, 0x600201), (0x70020C, 0x70020C), (0x700309, 0x700309), (0x701001, 0x701001), (0x900005,
    0x900005)]⟩ s (State.panelFault s m) := by
  unfold State.panelFault
  refine Keeps.ite (fun _ => ?_) (fun _ => ?_)
  · exact Keeps.refl _ _
  · dsimp only
    refine Keeps.trans ?_ (State.dropAllHashes_keeps ..) (by decide +kernel)
    refine Keeps.trans ?_ (State.dropAllHashes_keeps ..) (by decide +kernel)
    refine Keeps.upd ?_ (hp := Or.inl (by decide +kernel))
    refine Keeps.trans ?_ (State.log_keeps ..) (by decide +kernel)
    refine Keeps.trans ?_ (State.inc_keepsO ..) (by decide +kernel)
    refine Keeps.trans ?_ (State.put_keeps1 ..) (by decide +kernel)
    refine Keeps.trans ?_ (State.park_keeps ..) (by decide +kernel)
    refine Keeps.trans ?_ (State.blankAll_keeps ..) (by decide +kernel)
    refine Keeps.trans ?_ (State.endDrone_keeps ..) (by decide +kernel)
    exact Keeps.refl _ _

theorem State.rearmPanel_keeps (s : State) : Keeps ⟨[.out, .panel, .bridge, .lanes], [(0x580101,
    0x580101), (0x580104, 0x580105), (0x580201, 0x580201), (0x580203, 0x580204), (0x70020C, 0x70020C),
    (0x700309, 0x700309), (0x701001, 0x701001), (0x701003, 0x701003), (0x701006, 0x701006)]⟩ s
    (State.rearmPanel s) := by
  unfold State.rearmPanel
  refine Keeps.ite (fun _ => ?_) (fun _ => ?_)
  · exact Keeps.refl _ _
  · dsimp only
    refine Keeps.ite (fun _ => ?_) (fun _ => ?_)
    · refine Keeps.foldl ?_ (fun _ _ => ?_)
      · refine Keeps.trans ?_ (State.panelState_keeps ..) (by decide +kernel)
        refine Keeps.trans ?_ (State.putHalf_keeps ..) (by decide +kernel)
        refine Keeps.trans ?_ (State.putHalf_keeps ..) (by decide +kernel)
        refine Keeps.trans ?_ (State.releaseAll_keeps ..) (by decide +kernel)
        refine Keeps.upd ?_ (hp := Or.inl (by decide +kernel))
        exact Keeps.refl _ _
      · refine Keeps.trans ?_ (State.startClear_keeps ..) (by decide +kernel)
        exact Keeps.refl _ _
    · refine Keeps.trans ?_ (State.railsOn_keeps ..) (by decide +kernel)
      refine Keeps.trans ?_ (State.panelState_keeps ..) (by decide +kernel)
      refine Keeps.trans ?_ (State.putHalf_keeps ..) (by decide +kernel)
      refine Keeps.trans ?_ (State.putHalf_keeps ..) (by decide +kernel)
      refine Keeps.trans ?_ (State.releaseAll_keeps ..) (by decide +kernel)
      refine Keeps.upd ?_ (hp := Or.inl (by decide +kernel))
      exact Keeps.refl _ _

theorem State.takeSlate_keeps (s : State) : Keeps ⟨[.panel, .memory, .logs], [(0x180002, 0x180002),
    (0x180101, 0x180103), (0x780207, 0x780207), (0x780301, 0x780303), (0x900005, 0x900005)]⟩ s
    (State.takeSlate s) := by
  unfold State.takeSlate
  dsimp only
  split
  · refine Keeps.upd ?_ (hp := Or.inl (by decide +kernel))
    refine Keeps.trans ?_ (State.dramReadZero_keeps ..) (by decide +kernel)
    exact Keeps.refl _ _
  · refine Keeps.upd ?_ (hp := Or.inl (by decide +kernel))
    exact Keeps.refl _ _
  · refine Keeps.upd ?_ (hp := Or.inl (by decide +kernel))
    exact Keeps.refl _ _

theorem State.droneDark_keeps (s : State) (t : Nat) : Keeps ⟨[.out, .panel, .bridge], []⟩ s
    (State.droneDark s t) := by
  unfold State.droneDark
  dsimp only
  refine Keeps.trans ?_ (State.emits_keeps ..) (by decide +kernel)
  refine Keeps.upd ?_ (hp := Or.inl (by decide +kernel))
  refine Keeps.trans ?_ (State.emits_keeps ..) (by decide +kernel)
  refine Keeps.trans ?_ (State.cutSamples_keeps ..) (by decide +kernel)
  exact Keeps.refl _ _

theorem State.refreshSlate_keeps (s0 : State) : Keeps ⟨[.out, .panel, .bridge, .lanes], [(0x580100,
    0x5801FF), (0x580201, 0x580204), (0x70020C, 0x70020C), (0x700309, 0x700309), (0x701001, 0x701001)]⟩
    s0 (State.refreshSlate s0) := by
  unfold State.refreshSlate
  dsimp only
  refine Keeps.foldl ?_ (fun _ _ => ?_)
  · refine Keeps.trans ?_ (State.droneDark_keeps ..) (by decide +kernel)
    exact Keeps.refl _ _
  · refine Keeps.trans ?_ (State.sendReset_keeps ..) (by decide +kernel)
    refine Keeps.trans ?_ (State.advancePhase_keeps ..) (by decide +kernel)
    refine Keeps.trans ?_ (State.load_keeps ..) (by decide +kernel)
    refine Keeps.trans ?_ (State.applyBand_keeps ..) (by decide +kernel)
    exact Keeps.refl _ _

theorem State.beginDrone_keeps (s : State) : Keeps ⟨[.out, .seq, .panel, .bridge, .lanes, .memory,
    .logs], [(0x180002, 0x180002), (0x180101, 0x180103), (0x500103, 0x500103), (0x580100, 0x5801FF),
    (0x580201, 0x580204), (0x70020C, 0x70020C), (0x700309, 0x700309), (0x701001, 0x701001), (0x780207,
    0x780207), (0x780301, 0x780303), (0x900005, 0x900005)]⟩ s (State.beginDrone s) := by
  unfold State.beginDrone
  dsimp only
  refine Keeps.trans ?_ (State.refreshSlate_keeps ..) (by decide +kernel)
  refine Keeps.upd ?_ (hsq := Or.inl (by decide +kernel))
  refine Keeps.trans ?_ (State.takeSlate_keeps ..) (by decide +kernel)
  refine Keeps.trans ?_ (State.panelState_keeps ..) (by decide +kernel)
  refine Keeps.trans ?_ (State.put_keeps1 ..) (by decide +kernel)
  exact Keeps.refl _ _

theorem State.takeStatus_keeps (s : State) (h : Nat) (p : Bytes) : Keeps ⟨[.out, .panel, .bridge,
    .lanes, .memory, .health, .logs], [(0x180002, 0x180002), (0x180101, 0x180103), (0x500103, 0x500103),
    (0x58000A, 0x58000A), (0x580100, 0x5802FF), (0x600103, 0x600103), (0x600201, 0x600201), (0x70020C,
    0x70020C), (0x700309, 0x700309), (0x701001, 0x701001), (0x900005, 0x900005)]⟩ s (State.takeStatus s
    h p) := by
  unfold State.takeStatus
  dsimp only
  refine Keeps.optE ?_ (fun _ => ?_)
  · refine Keeps.optT ?_ (fun _ => ?_)
    · refine Keeps.trans ?_ (State.add_keeps1 ..) (by decide +kernel)
      refine Keeps.trans ?_ (State.put_keepsO ..) (by decide +kernel)
      refine Keeps.trans ?_ (State.put_keeps1 ..) (by decide +kernel)
      exact Keeps.refl _ _
    · refine Keeps.trans ?_ (State.inc_keeps1 ..) (by decide +kernel)
      refine Keeps.trans ?_ (State.put_keepsO ..) (by decide +kernel)
      exact Keeps.refl _ _
  · refine Keeps.trans ?_ (State.panelFault_keeps ..) (by decide +kernel)
    exact Keeps.refl _ _

theorem State.sendWave_keeps (s : State) (x : Nat × Nat) : Keeps ⟨[.out, .lanes], [(0x700309, 0x700309),
    (0x701001, 0x701001)]⟩ s (State.sendWave s x) := by
  unfold State.sendWave
  dsimp only
  refine Keeps.foldl ?_ (fun _ _ => ?_)
  · exact Keeps.refl _ _
  · refine Keeps.trans ?_ (State.sendPanel_keeps ..) (by decide +kernel)
    exact Keeps.refl _ _

theorem State.sendWaves_keeps (s : State) : Keeps ⟨[.out, .panel, .lanes], [(0x700309, 0x700309),
    (0x701001, 0x701001)]⟩ s (State.sendWaves s) := by
  unfold State.sendWaves
  refine Keeps.ite (fun _ => ?_) (fun _ => ?_)
  · dsimp only
    refine Keeps.upd ?_ (hp := Or.inl (by decide +kernel))
    refine Keeps.foldl ?_ (fun _ _ => ?_)
    · exact Keeps.refl _ _
    · refine Keeps.trans ?_ (State.sendWave_keeps ..) (by decide +kernel)
      exact Keeps.refl _ _
  · exact Keeps.refl _ _

theorem State.ownWave_keeps (s : State) (n : Nat) : Keeps ⟨[.out, .panel, .lanes], [(0x581202,
    0x581202), (0x700309, 0x700309), (0x701001, 0x701001)]⟩ s (State.ownWave s n) := by
  unfold State.ownWave
  dsimp only
  refine Keeps.optE ?_ (fun _ => ?_)
  · refine Keeps.upd ?_ (hp := Or.inl (by decide +kernel))
    refine Keeps.trans ?_ (State.pute_keeps1 ..) (by decide +kernel)
    exact Keeps.refl _ _
  · refine Keeps.trans ?_ (State.sendWaves_keeps ..) (by decide +kernel)
    exact Keeps.refl _ _

theorem State.useWaves_keeps (s : State) : Keeps ⟨[.panel], [(0x581202, 0x581202)]⟩ s (State.useWaves s)
    := by
  unfold State.useWaves
  dsimp only
  refine Keeps.upd ?_ (hp := Or.inl (by decide +kernel))
  refine Keeps.foldl ?_ (fun _ _ => ?_)
  · exact Keeps.refl _ _
  · refine Keeps.trans ?_ (State.pute_keeps1 ..) (by decide +kernel)
    exact Keeps.refl _ _

theorem State.nutPanel_keeps (s : State) : Keeps ⟨[.out, .panel, .lanes, .memory, .logs], [(0x180002,
    0x180002), (0x180101, 0x180103), (0x580100, 0x5801FF), (0x580201, 0x580201), (0x580203, 0x580204),
    (0x580209, 0x580209), (0x70020C, 0x70020C), (0x700309, 0x700309), (0x701001, 0x701001), (0x900005,
    0x900005)]⟩ s (State.nutPanel s) := by
  unfold State.nutPanel
  dsimp only
  refine Keeps.trans ?_ (State.sendWaves_keeps ..) (by decide +kernel)
  refine Keeps.optE ?_ (fun _ => ?_)
  · refine Keeps.foldl ?_ (fun _ _ => ?_)
    · refine Keeps.foldl ?_ (fun _ _ => ?_)
      · refine Keeps.foldl ?_ (fun _ _ => ?_)
        · exact Keeps.refl _ _
        · refine Keeps.trans ?_ (State.remap_keeps ..) (by decide +kernel)
          exact Keeps.refl _ _
      · refine Keeps.ite (fun _ => ?_) (fun _ => ?_)
        · refine Keeps.trans ?_ (State.putHalf_keeps ..) (by decide +kernel)
          exact Keeps.refl _ _
        · exact Keeps.refl _ _
    · refine Keeps.trans ?_ (State.sendReset_keeps ..) (by decide +kernel)
      refine Keeps.trans ?_ (State.advancePhase_keeps ..) (by decide +kernel)
      exact Keeps.refl _ _
  · refine Keeps.trans ?_ (State.panelState_keeps ..) (by decide +kernel)
    exact Keeps.refl _ _

theorem State.fretPanel_keeps (s : State) : Keeps ⟨[.panel], [(0x580100, 0x5801FF), (0x581202,
    0x581202)]⟩ s (State.fretPanel s) := by
  unfold State.fretPanel
  dsimp only
  refine Keeps.trans ?_ (State.useWaves_keeps ..) (by decide +kernel)
  refine Keeps.foldl ?_ (fun _ _ => ?_)
  · refine Keeps.foldl ?_ (fun _ _ => ?_)
    · exact Keeps.refl _ _
    · refine Keeps.trans ?_ (State.applyBand_keeps ..) (by decide +kernel)
      exact Keeps.refl _ _
  · refine Keeps.trans ?_ (State.advancePhase_keeps ..) (by decide +kernel)
    exact Keeps.refl _ _

theorem State.changeService_keeps (s : State) (v : Service) : Keeps ⟨[.out, .seq, .panel, .lanes],
    [(0x580101, 0x580101), (0x580105, 0x580105), (0x580201, 0x580201), (0x580203, 0x580204), (0x70020C,
    0x70020C), (0x700309, 0x700309), (0x701001, 0x701001)]⟩ s (State.changeService s v) := by
  unfold State.changeService
  dsimp only
  refine Keeps.foldl ?_ (fun _ _ => ?_)
  · refine Keeps.trans ?_ (State.park_keeps ..) (by decide +kernel)
    refine Keeps.upd ?_ (hsq := Or.inl (by decide +kernel))
    exact Keeps.refl _ _
  · refine Keeps.optE ?_ (fun _ => ?_)
    · refine Keeps.trans ?_ (State.dropAllHashes_keeps ..) (by decide +kernel)
      exact Keeps.refl _ _
    · refine Keeps.trans ?_ (State.putHalf_keeps ..) (by decide +kernel)
      refine Keeps.trans ?_ (State.startClear_keeps ..) (by decide +kernel)
      exact Keeps.refl _ _

theorem State.doClear_keeps (s : State) (h : Nat) : Keeps ⟨[.out, .panel, .lanes, .memory, .logs],
    [(0x180002, 0x180002), (0x180101, 0x180103), (0x580100, 0x5801FF), (0x580201, 0x580201), (0x580203,
    0x580204), (0x580209, 0x580209), (0x70020C, 0x70020C), (0x700309, 0x700309), (0x701001, 0x701001),
    (0x900005, 0x900005)]⟩ s (State.doClear s h) := by
  unfold State.doClear
  dsimp only
  refine Keeps.optE ?_ (fun _ => ?_)
  · refine Keeps.trans ?_ (State.remap_keeps ..) (by decide +kernel)
    exact Keeps.refl _ _
  · refine Keeps.trans ?_ (State.sendWaves_keeps ..) (by decide +kernel)
    refine Keeps.trans ?_ (State.startClear_keeps ..) (by decide +kernel)
    exact Keeps.refl _ _

theorem State.doLatch_keeps (s : State) (h : Nat) : Keeps ⟨[.out, .panel, .lanes], [(0x580100,
    0x5801FF), (0x70020C, 0x70020C), (0x700309, 0x700309), (0x701001, 0x701001)]⟩ s (State.doLatch s h)
    := by
  unfold State.doLatch
  dsimp only
  refine Keeps.ite (fun _ => ?_) (fun _ => ?_)
  · exact Keeps.refl _ _
  · refine Keeps.ite (fun _ => ?_) (fun _ => ?_)
    · refine Keeps.trans ?_ (State.sendReset_keeps ..) (by decide +kernel)
      refine Keeps.trans ?_ (State.sendFill_keeps ..) (by decide +kernel)
      refine Keeps.trans ?_ (State.putHalf_keeps ..) (by decide +kernel)
      refine Keeps.trans ?_ (State.advancePhase_keeps ..) (by decide +kernel)
      exact Keeps.refl _ _
    · refine Keeps.ite (fun _ => ?_) (fun _ => ?_)
      · refine Keeps.trans ?_ (State.panelState_keeps ..) (by decide +kernel)
        refine Keeps.trans ?_ (State.putClear_keeps ..) (by decide +kernel)
        refine Keeps.trans ?_ (State.putHalf_keeps ..) (by decide +kernel)
        refine Keeps.trans ?_ (State.sendReset_keeps ..) (by decide +kernel)
        refine Keeps.trans ?_ (State.sendFill_keeps ..) (by decide +kernel)
        refine Keeps.trans ?_ (State.advancePhase_keeps ..) (by decide +kernel)
        exact Keeps.refl _ _
      · refine Keeps.optT ?_ (fun _ => ?_)
        · refine Keeps.trans ?_ (State.putClear_keeps ..) (by decide +kernel)
          refine Keeps.trans ?_ (State.putHalf_keeps ..) (by decide +kernel)
          refine Keeps.trans ?_ (State.sendReset_keeps ..) (by decide +kernel)
          refine Keeps.trans ?_ (State.sendFill_keeps ..) (by decide +kernel)
          refine Keeps.trans ?_ (State.advancePhase_keeps ..) (by decide +kernel)
          exact Keeps.refl _ _
        · refine Keeps.trans ?_ (State.panelState_keeps ..) (by decide +kernel)
          exact Keeps.refl _ _

theorem State.pgLost_keeps (s : State) (n : Nat) : Keeps ⟨[.out, .panel, .bridge, .lanes, .memory,
    .health, .logs], [(0x180002, 0x180002), (0x180101, 0x180103), (0x500103, 0x500103), (0x58000A,
    0x58000A), (0x580101, 0x580101), (0x580104, 0x580105), (0x580200, 0x5802FF), (0x600103, 0x600103),
    (0x600201, 0x600201), (0x70020C, 0x70020C), (0x700309, 0x700309), (0x701001, 0x701001), (0x900005,
    0x900005)]⟩ s (State.pgLost s n) := by
  unfold State.pgLost
  dsimp only
  refine Keeps.optE ?_ (fun _ => ?_)
  · refine Keeps.trans ?_ (State.putBit_keeps1 ..) (by decide +kernel)
    exact Keeps.refl _ _
  · refine Keeps.trans ?_ (State.panelFault_keeps ..) (by decide +kernel)
    exact Keeps.refl _ _

theorem State.pgLevel_keeps (s : State) (n : Nat) (good : Bool) : Keeps ⟨[.out, .panel, .bridge, .lanes,
    .memory, .clock, .mgmt, .health, .logs], [(0x101107, 0x101107), (0x103003, 0x103003), (0x180002,
    0x180002), (0x180101, 0x180103), (0x180107, 0x180107), (0x188001, 0x188001), (0x500103, 0x500103),
    (0x58000A, 0x58000A), (0x580101, 0x580101), (0x580104, 0x580105), (0x580200, 0x5802FF), (0x600103,
    0x600103), (0x600201, 0x600202), (0x70020C, 0x70020C), (0x700309, 0x700309), (0x701001, 0x701001),
    (0x701003, 0x701003), (0x701006, 0x701006), (0x900005, 0x900005)]⟩ s (State.pgLevel s n good) := by
  unfold State.pgLevel
  dsimp only
  refine Keeps.ite (fun _ => ?_) (fun _ => ?_)
  · refine Keeps.trans ?_ (State.pgLost_keeps ..) (by decide +kernel)
    refine Keeps.trans ?_ (State.transitions_keeps ..) (by decide +kernel)
    exact Keeps.refl _ _
  · refine Keeps.optE ?_ (fun _ => ?_)
    · refine Keeps.trans ?_ (State.putBit_keeps1 ..) (by decide +kernel)
      refine Keeps.trans ?_ (State.transitions_keeps ..) (by decide +kernel)
      exact Keeps.refl _ _
    · refine Keeps.trans ?_ (State.pgGood_keeps ..) (by decide +kernel)
      exact Keeps.refl _ _

end Sys2Proof.Machine
end

