-- ==== Sys2Proof/Laws/Keeps/Bridge.lean ====
section
/-! SUPPORT. What each operation of Machine/Bridge.lean may change. -/

set_option Elab.async false

namespace Sys2Proof.Machine

theorem State.code_keeps (s : State) (n : Nat) (a : Nat) (ek : Nat) : Keeps ⟨[], [(0x600209, 0x600209),
    (0x60100B, 0x60100B)]⟩ s (State.code s n a ek).2 := by
  refine Keeps.pair (by unfold State.code; dsimp only) ?_
  refine Keeps.sndIte (fun _ => ?_) (fun _ => ?_)
  · dsimp only
    refine Keeps.trans ?_ (State.inc_keeps1 ..) (by decide +kernel)
    refine Keeps.trans ?_ (State.ince_keeps1 ..) (by decide +kernel)
    exact Keeps.refl _ _
  · dsimp only
    exact Keeps.refl _ _

theorem State.sendDown_keeps (s : State) (c : Nat) (ty : Nat) (i : Nat) (m : Bool) (p : Bool) (code :
    Nat) (slot : Nat) : Keeps ⟨[.out, .bridge], []⟩ s (State.sendDown s c ty i m p code slot) := by
  unfold State.sendDown
  dsimp only
  refine Keeps.optE ?_ (fun _ => ?_)
  · refine Keeps.trans ?_ (State.emit_keeps ..) (by decide +kernel)
    refine Keeps.trans ?_ (State.putCourse_keeps ..) (by decide +kernel)
    exact Keeps.refl _ _
  · refine Keeps.upd ?_ (hb := Or.inl (by decide +kernel))
    exact Keeps.refl _ _

theorem State.expect_keeps (s : State) (x : Expect) : Keeps ⟨[.bridge], []⟩ s (State.expect s x) := by
  unfold State.expect
  refine Keeps.upd ?_ (hb := Or.inl (by decide +kernel))
  exact Keeps.refl _ _

theorem State.unexpect_keeps (s : State) (x : Expect) : Keeps ⟨[.bridge], []⟩ s (State.unexpect s x) :=
    by
  unfold State.unexpect
  refine Keeps.upd ?_ (hb := Or.inl (by decide +kernel))
  exact Keeps.refl _ _

theorem State.freezeCheck_keeps (s : State) (n : Nat) : Keeps ⟨[.bridge], [(0x600207, 0x600207),
    (0x681003, 0x681003)]⟩ s (State.freezeCheck s n) := by
  unfold State.freezeCheck
  dsimp only
  refine Keeps.ite (fun _ => ?_) (fun _ => ?_)
  · exact Keeps.refl _ _
  · refine Keeps.trans ?_ (State.inc_keeps1 ..) (by decide +kernel)
    refine Keeps.trans ?_ (State.freezeLoop_keeps ..) (by decide +kernel)
    refine Keeps.trans ?_ (State.putStr_keeps ..) (by decide +kernel)
    exact Keeps.refl _ _

theorem State.monitor_keeps (s : State) (n : Nat) (v : Option Nat) : Keeps ⟨[.bridge], [(0x600207,
    0x600207), (0x601004, 0x601004), (0x681003, 0x681003)]⟩ s (State.monitor s n v) := by
  unfold State.monitor
  dsimp only
  refine Keeps.ite (fun _ => ?_) (fun _ => ?_)
  · split
    · refine Keeps.trans ?_ (State.putStr_keeps ..) (by decide +kernel)
      split
      · refine Keeps.trans ?_ (State.pute_keeps1 ..) (by decide +kernel)
        exact Keeps.refl _ _
      · exact Keeps.refl _ _
    · refine Keeps.trans ?_ (State.putStr_keeps ..) (by decide +kernel)
      split
      · refine Keeps.trans ?_ (State.pute_keeps1 ..) (by decide +kernel)
        exact Keeps.refl _ _
      · exact Keeps.refl _ _
  · refine Keeps.trans ?_ (State.freezeCheck_keeps ..) (by decide +kernel)
    refine Keeps.trans ?_ (State.putStr_keeps ..) (by decide +kernel)
    split
    · refine Keeps.trans ?_ (State.pute_keeps1 ..) (by decide +kernel)
      exact Keeps.refl _ _
    · exact Keeps.refl _ _

theorem State.thawCheck_keeps (s : State) (n : Nat) : Keeps ⟨[.bridge, .loop], [(0x681003, 0x681003),
    (0x681006, 0x681007), (0x68100A, 0x68100A)]⟩ s (State.thawCheck s n) := by
  unfold State.thawCheck
  dsimp only
  refine Keeps.ite (fun _ => ?_) (fun _ => ?_)
  · refine Keeps.trans ?_ (State.freezeLoop_keeps ..) (by decide +kernel)
    refine Keeps.trans ?_ (State.presetLoop_keeps ..) (by decide +kernel)
    refine Keeps.trans ?_ (State.putStr_keeps ..) (by decide +kernel)
    exact Keeps.refl _ _
  · exact Keeps.refl _ _

theorem State.loseLink_keeps (s : State) (c : Nat) : Keeps ⟨[.out, .bridge, .health], [(0x600103,
    0x600103), (0x600201, 0x600201), (0x600206, 0x600207), (0x601004, 0x601004), (0x602004, 0x602004),
    (0x681003, 0x681003)]⟩ s (State.loseLink s c) := by
  unfold State.loseLink
  dsimp only
  refine Keeps.optE ?_ (fun _ => ?_)
  · refine Keeps.upd ?_ (hb := Or.inl (by decide +kernel))
    refine Keeps.trans ?_ (State.fastInhibit_keeps ..) (by decide +kernel)
    refine Keeps.trans ?_ (State.inc_keeps1 ..) (by decide +kernel)
    refine Keeps.foldl ?_ (fun _ _ => ?_)
    · refine Keeps.trans ?_ (State.putCourse_keeps ..) (by decide +kernel)
      refine Keeps.trans ?_ (State.pute_keeps1 ..) (by decide +kernel)
      exact Keeps.refl _ _
    · refine Keeps.trans ?_ (State.monitor_keeps ..) (by decide +kernel)
      exact Keeps.refl _ _
  · refine Keeps.trans ?_ (State.calEnd_keeps ..) (by decide +kernel)
    exact Keeps.refl _ _

theorem State.lostUp_keeps (s : State) (x : Expect) : Keeps ⟨[.out, .bridge, .health], [(0x600103,
    0x600103), (0x600201, 0x600201), (0x600205, 0x600207), (0x601004, 0x601004), (0x602004, 0x602004),
    (0x602007, 0x602007), (0x681003, 0x681003)]⟩ s (State.lostUp s x) := by
  unfold State.lostUp
  dsimp only
  refine Keeps.optE ?_ (fun _ => ?_)
  · refine Keeps.trans ?_ (State.putCourse_keeps ..) (by decide +kernel)
    refine Keeps.optE ?_ (fun _ => ?_)
    · refine Keeps.trans ?_ (State.inc_keeps1 ..) (by decide +kernel)
      refine Keeps.trans ?_ (State.ince_keeps1 ..) (by decide +kernel)
      refine Keeps.trans ?_ (State.unexpect_keeps ..) (by decide +kernel)
      exact Keeps.refl _ _
    · refine Keeps.trans ?_ (State.monitor_keeps ..) (by decide +kernel)
      exact Keeps.refl _ _
  · refine Keeps.trans ?_ (State.loseLink_keeps ..) (by decide +kernel)
    exact Keeps.refl _ _

theorem State.loseOldest_keeps (s : State) (c : Nat) : Keeps ⟨[.out, .bridge, .health], [(0x600103,
    0x600103), (0x600201, 0x600201), (0x600205, 0x600207), (0x601004, 0x601004), (0x602004, 0x602004),
    (0x602007, 0x602007), (0x681003, 0x681003)]⟩ s (State.loseOldest s c) := by
  unfold State.loseOldest
  split
  · refine Keeps.trans ?_ (State.lostUp_keeps ..) (by decide +kernel)
    exact Keeps.refl _ _
  · exact Keeps.refl _ _

theorem State.trainCourses_keeps (s : State) : Keeps ⟨[.bridge], [(0x602004, 0x602004)]⟩ s
    (State.trainCourses s) := by
  unfold State.trainCourses
  dsimp only
  refine Keeps.upd ?_ (hb := Or.inl (by decide +kernel))
  refine Keeps.foldl ?_ (fun _ _ => ?_)
  · exact Keeps.refl _ _
  · refine Keeps.trans ?_ (State.pute_keeps1 ..) (by decide +kernel)
    exact Keeps.refl _ _

theorem State.courseHeard_keeps (s : State) (c : Nat) : Keeps ⟨[.bridge], []⟩ s (State.courseHeard s c)
    := by
  unfold State.courseHeard
  refine Keeps.trans ?_ (State.putCourse_keeps ..) (by decide +kernel)
  exact Keeps.refl _ _

theorem State.courseBand_keeps (s : State) (c : Nat) (T : Int) : Keeps ⟨[.bridge], []⟩ s
    (State.courseBand s c T) := by
  unfold State.courseBand
  dsimp only
  refine Keeps.ite (fun _ => ?_) (fun _ => ?_)
  · exact Keeps.refl _ _
  · refine Keeps.ite (fun _ => ?_) (fun _ => ?_)
    · refine Keeps.trans ?_ (State.putCourse_keeps ..) (by decide +kernel)
      exact Keeps.refl _ _
    · exact Keeps.refl _ _

theorem State.statusUp_keeps (s : State) (c : Nat) (f : BitVec 64) : Keeps ⟨[.out, .bridge], [(0x600103,
    0x600103), (0x600201, 0x600201), (0x600204, 0x600204), (0x602002, 0x602002), (0x602004, 0x602006)]⟩
    s (State.statusUp s c f) := by
  unfold State.statusUp
  dsimp only
  refine Keeps.trans ?_ (State.courseBand_keeps ..) (by decide +kernel)
  refine Keeps.optE ?_ (fun _ => ?_)
  · refine Keeps.ite (fun _ => ?_) (fun _ => ?_)
    · refine Keeps.optT ?_ (fun _ => ?_)
      · refine Keeps.trans ?_ (State.putCourse_keeps ..) (by decide +kernel)
        refine Keeps.optT ?_ (fun _ => ?_)
        · refine Keeps.optE ?_ (fun _ => ?_)
          · refine Keeps.trans ?_ (State.pute_keeps1 ..) (by decide +kernel)
            refine Keeps.trans ?_ (State.pute_keeps1 ..) (by decide +kernel)
            refine Keeps.trans ?_ (State.courseHeard_keeps ..) (by decide +kernel)
            split
            · refine Keeps.trans ?_ (State.unexpect_keeps ..) (by decide +kernel)
              exact Keeps.refl _ _
            · exact Keeps.refl _ _
          · refine Keeps.trans ?_ (State.inc_keeps1 ..) (by decide +kernel)
            refine Keeps.trans ?_ (State.ince_keeps1 ..) (by decide +kernel)
            exact Keeps.refl _ _
        · refine Keeps.ite (fun _ => ?_) (fun _ => ?_)
          · refine Keeps.trans ?_ (State.putCourse_keeps ..) (by decide +kernel)
            refine Keeps.trans ?_ (State.pute_keeps1 ..) (by decide +kernel)
            exact Keeps.refl _ _
          · refine Keeps.trans ?_ (State.putCourse_keeps ..) (by decide +kernel)
            exact Keeps.refl _ _
      · refine Keeps.trans ?_ (State.fastInhibit_keeps ..) (by decide +kernel)
        exact Keeps.refl _ _
    · refine Keeps.optE ?_ (fun _ => ?_)
      · refine Keeps.optT ?_ (fun _ => ?_)
        · refine Keeps.optE ?_ (fun _ => ?_)
          · refine Keeps.trans ?_ (State.pute_keeps1 ..) (by decide +kernel)
            refine Keeps.trans ?_ (State.pute_keeps1 ..) (by decide +kernel)
            refine Keeps.trans ?_ (State.courseHeard_keeps ..) (by decide +kernel)
            split
            · refine Keeps.trans ?_ (State.unexpect_keeps ..) (by decide +kernel)
              exact Keeps.refl _ _
            · exact Keeps.refl _ _
          · refine Keeps.trans ?_ (State.inc_keeps1 ..) (by decide +kernel)
            refine Keeps.trans ?_ (State.ince_keeps1 ..) (by decide +kernel)
            exact Keeps.refl _ _
        · refine Keeps.ite (fun _ => ?_) (fun _ => ?_)
          · refine Keeps.trans ?_ (State.putCourse_keeps ..) (by decide +kernel)
            refine Keeps.trans ?_ (State.pute_keeps1 ..) (by decide +kernel)
            exact Keeps.refl _ _
          · refine Keeps.trans ?_ (State.putCourse_keeps ..) (by decide +kernel)
            exact Keeps.refl _ _
      · refine Keeps.trans ?_ (State.putCourse_keeps ..) (by decide +kernel)
        exact Keeps.refl _ _
  · refine Keeps.trans ?_ (State.putCourse_keeps ..) (by decide +kernel)
    exact Keeps.refl _ _

theorem State.trimStep_keeps (s : State) (n : Nat) (a : Nat) (s1 : Nat) (sa : Nat) : Keeps ⟨[.bridge],
    [(0x60020B, 0x60020B)]⟩ s (State.trimStep s n a s1 sa) := by
  unfold State.trimStep
  dsimp only
  refine Keeps.optE ?_ (fun _ => ?_)
  · refine Keeps.trans ?_ (State.putStr_keeps ..) (by decide +kernel)
    refine Keeps.sndIte (fun _ => ?_) (fun _ => ?_)
    · dsimp only
      refine Keeps.trans ?_ (State.draw_keeps ..) (by decide +kernel)
      exact Keeps.refl _ _
    · dsimp only
      exact Keeps.refl _ _
  · refine Keeps.trans ?_ (State.inc_keeps1 ..) (by decide +kernel)
    exact Keeps.refl _ _

theorem State.loopInput_keeps (s : State) (n : Nat) (sample : Nat) : Keeps ⟨[], []⟩ s (State.loopInput s
    n sample).2 := by
  refine Keeps.pair (by unfold State.loopInput; dsimp only) ?_
  refine Keeps.sndIte (fun _ => ?_) (fun _ => ?_)
  · dsimp only
    refine Keeps.trans ?_ (State.draw_keeps ..) (by decide +kernel)
    exact Keeps.refl _ _
  · dsimp only
    exact Keeps.refl _ _

theorem State.pilotFirst_keeps (s : State) (n : Nat) (v : Nat) : Keeps ⟨[.out, .bridge, .loop, .clock,
    .mgmt], [(0x101107, 0x101107), (0x103003, 0x103003), (0x601005, 0x601005), (0x680201, 0x680201),
    (0x681003, 0x681007), (0x68100A, 0x68100A), (0x682007, 0x682007)]⟩ s (State.pilotFirst s n v) := by
  unfold State.pilotFirst
  dsimp only
  refine Keeps.ite (fun _ => ?_) (fun _ => ?_)
  · refine Keeps.trans ?_ (State.thawCheck_keeps ..) (by decide +kernel)
    refine Keeps.trans ?_ (State.putStr_keeps ..) (by decide +kernel)
    refine Keeps.trans ?_ (State.pute_keeps1 ..) (by decide +kernel)
    exact Keeps.refl _ _
  · refine Keeps.optT ?_ (fun _ => ?_)
    · refine Keeps.trans ?_ (State.putStr_keeps ..) (by decide +kernel)
      refine Keeps.trans ?_ (State.pute_keeps1 ..) (by decide +kernel)
      exact Keeps.refl _ _
    · refine Keeps.trans ?_ (State.putStr_keeps ..) (by decide +kernel)
      refine Keeps.trans ?_ (State.stepLoop_keeps ..) (by decide +kernel)
      refine Keeps.trans ?_ (State.loopInput_keeps ..) (by decide +kernel)
      exact Keeps.refl _ _

theorem State.pilotUp_keeps (s : State) (c : Nat) (f : BitVec 64) : Keeps ⟨[.out, .bridge, .loop,
    .clock, .mgmt, .health], [(0x101107, 0x101107), (0x103003, 0x103003), (0x60020B, 0x60020B),
    (0x601005, 0x601006), (0x680201, 0x680201), (0x681003, 0x681007), (0x68100A, 0x68100A), (0x682007,
    0x682007)]⟩ s (State.pilotUp s c f) := by
  unfold State.pilotUp
  split
  · exact Keeps.refl _ _
  · dsimp only
    refine Keeps.ite (fun _ => ?_) (fun _ => ?_)
    · refine Keeps.upd ?_ (hhh := Or.inl (by decide +kernel))
      refine Keeps.trans ?_ (State.courseHeard_keeps ..) (by decide +kernel)
      refine Keeps.trans ?_ (State.unexpect_keeps ..) (by decide +kernel)
      exact Keeps.refl _ _
    · refine Keeps.ite (fun _ => ?_) (fun _ => ?_)
      · refine Keeps.trans ?_ (State.pilotFirst_keeps ..) (by decide +kernel)
        refine Keeps.trans ?_ (State.courseHeard_keeps ..) (by decide +kernel)
        refine Keeps.trans ?_ (State.unexpect_keeps ..) (by decide +kernel)
        exact Keeps.refl _ _
      · split
        · refine Keeps.optE ?_ (fun _ => ?_)
          · refine Keeps.trans ?_ (State.pute_keeps1 ..) (by decide +kernel)
            refine Keeps.trans ?_ (State.courseHeard_keeps ..) (by decide +kernel)
            refine Keeps.trans ?_ (State.unexpect_keeps ..) (by decide +kernel)
            exact Keeps.refl _ _
          · refine Keeps.trans ?_ (State.trimStep_keeps ..) (by decide +kernel)
            exact Keeps.refl _ _
        · refine Keeps.trans ?_ (State.pute_keeps1 ..) (by decide +kernel)
          refine Keeps.trans ?_ (State.courseHeard_keeps ..) (by decide +kernel)
          refine Keeps.trans ?_ (State.unexpect_keeps ..) (by decide +kernel)
          exact Keeps.refl _ _

theorem State.monitorUp_keeps (s : State) (c : Nat) (f : BitVec 64) : Keeps ⟨[.bridge], [(0x600207,
    0x600207), (0x601004, 0x601004), (0x681003, 0x681003)]⟩ s (State.monitorUp s c f) := by
  unfold State.monitorUp
  split
  · exact Keeps.refl _ _
  · refine Keeps.trans ?_ (State.monitor_keeps ..) (by decide +kernel)
    refine Keeps.trans ?_ (State.courseHeard_keeps ..) (by decide +kernel)
    refine Keeps.trans ?_ (State.unexpect_keeps ..) (by decide +kernel)
    exact Keeps.refl _ _

theorem State.uplink_keeps (s : State) (c : Nat) (f : BitVec 64) : Keeps ⟨[.out, .bridge, .loop, .clock,
    .mgmt, .health], [(0x101107, 0x101107), (0x103003, 0x103003), (0x600103, 0x600103), (0x600201,
    0x600201), (0x600204, 0x600207), (0x60020B, 0x60020B), (0x601004, 0x601006), (0x602002, 0x602002),
    (0x602004, 0x602007), (0x680201, 0x680201), (0x681003, 0x681007), (0x68100A, 0x68100A), (0x682007,
    0x682007)]⟩ s (State.uplink s c f) := by
  unfold State.uplink
  refine Keeps.ite (fun _ => ?_) (fun _ => ?_)
  · refine Keeps.trans ?_ (State.loseOldest_keeps ..) (by decide +kernel)
    exact Keeps.refl _ _
  · split
    · refine Keeps.trans ?_ (State.monitorUp_keeps ..) (by decide +kernel)
      exact Keeps.refl _ _
    · refine Keeps.trans ?_ (State.pilotUp_keeps ..) (by decide +kernel)
      exact Keeps.refl _ _
    · refine Keeps.trans ?_ (State.statusUp_keeps ..) (by decide +kernel)
      exact Keeps.refl _ _

theorem State.judgePilots_keeps (s : State) : Keeps ⟨[.bridge], [(0x600207, 0x600207), (0x681003,
    0x681003)]⟩ s (State.judgePilots s) := by
  unfold State.judgePilots
  refine Keeps.foldl ?_ (fun _ _ => ?_)
  · exact Keeps.refl _ _
  · dsimp only
    refine Keeps.trans ?_ (State.freezeCheck_keeps ..) (by decide +kernel)
    refine Keeps.trans ?_ (State.putStr_keeps ..) (by decide +kernel)
    exact Keeps.refl _ _

theorem State.forgetPilots_keeps (s : State) : Keeps ⟨[.bridge], []⟩ s (State.forgetPilots s) := by
  unfold State.forgetPilots
  refine Keeps.foldl ?_ (fun _ _ => ?_)
  · exact Keeps.refl _ _
  · refine Keeps.trans ?_ (State.putStr_keeps ..) (by decide +kernel)
    exact Keeps.refl _ _

theorem State.doWindow_keeps (s : State) : Keeps ⟨[.bridge], [(0x680207, 0x680207)]⟩ s (State.doWindow
    s) := by
  unfold State.doWindow
  refine Keeps.ite (fun _ => ?_) (fun _ => ?_)
  · exact Keeps.refl _ _
  · refine Keeps.ite (fun _ => ?_) (fun _ => ?_)
    · refine Keeps.upd ?_ (hb := Or.inl (by decide +kernel))
      exact Keeps.refl _ _
    · refine Keeps.trans ?_ (State.inc_keeps1 ..) (by decide +kernel)
      refine Keeps.upd ?_ (hb := Or.inl (by decide +kernel))
      exact Keeps.refl _ _

theorem State.doPilot_keeps (s : State) (c : Nat) (i : Nat) : Keeps ⟨[.out, .bridge], [(0x600209,
    0x600209), (0x60100B, 0x60100B)]⟩ s (State.doPilot s c i) := by
  unfold State.doPilot
  split
  · exact Keeps.refl _ _
  · dsimp only
    refine Keeps.optE ?_ (fun _ => ?_)
    · refine Keeps.trans ?_ (State.sendDown_keeps ..) (by decide +kernel)
      refine Keeps.trans ?_ (State.code_keeps ..) (by decide +kernel)
      exact Keeps.refl _ _
    · refine Keeps.trans ?_ (State.expect_keeps ..) (by decide +kernel)
      refine Keeps.trans ?_ (State.emit_keeps ..) (by decide +kernel)
      exact Keeps.refl _ _

theorem State.slotBridge_keeps (s : State) (f : Nat) (j : Nat) : Keeps ⟨[.out, .bridge], [(0x600209,
    0x600209), (0x60100B, 0x60100B)]⟩ s (State.slotBridge s f j) := by
  unfold State.slotBridge
  dsimp only
  refine Keeps.foldl ?_ (fun _ _ => ?_)
  · refine Keeps.upd ?_ (hb := Or.inl (by decide +kernel))
    exact Keeps.refl _ _
  · refine Keeps.trans ?_ (State.sendDown_keeps ..) (by decide +kernel)
    refine Keeps.trans ?_ (State.code_keeps ..) (by decide +kernel)
    exact Keeps.refl _ _

theorem State.doPluck_keeps (s : State) (c : Nat) : Keeps ⟨[.out, .bridge], []⟩ s (State.doPluck s c) :=
    by
  unfold State.doPluck
  refine Keeps.ite (fun _ => ?_) (fun _ => ?_)
  · exact Keeps.refl _ _
  · dsimp only
    refine Keeps.optE ?_ (fun _ => ?_)
    · refine Keeps.trans ?_ (State.emit_keeps ..) (by decide +kernel)
      exact Keeps.refl _ _
    · refine Keeps.trans ?_ (State.expect_keeps ..) (by decide +kernel)
      exact Keeps.refl _ _

theorem State.fretBridge_keeps (s : State) : Keeps ⟨[.bridge], [(0x60020A, 0x60020A), (0x601000,
    0x6010FF), (0x602003, 0x602003)]⟩ s (State.fretBridge s) := by
  unfold State.fretBridge
  dsimp only
  refine Keeps.foldl ?_ (fun _ _ => ?_)
  · refine Keeps.foldl ?_ (fun _ _ => ?_)
    · refine Keeps.trans ?_ (State.applyReleases_keeps ..) (by decide +kernel)
      exact Keeps.refl _ _
    · split
      · refine Keeps.trans ?_ (State.inc_keeps1 ..) (by decide +kernel)
        refine Keeps.trans ?_ (State.pute_keeps1 ..) (by decide +kernel)
        refine Keeps.trans ?_ (State.putCourse_keeps ..) (by decide +kernel)
        exact Keeps.refl _ _
      · exact Keeps.refl _ _
  · refine Keeps.optT ?_ (fun _ => ?_)
    · split
      · refine Keeps.trans ?_ (State.pute_keepsO ..) (by decide +kernel)
        split
        · refine Keeps.trans ?_ (State.pute_keeps1 ..) (by decide +kernel)
          exact Keeps.refl _ _
        · exact Keeps.refl _ _
      · split
        · refine Keeps.trans ?_ (State.pute_keeps1 ..) (by decide +kernel)
          exact Keeps.refl _ _
        · exact Keeps.refl _ _
    · refine Keeps.trans ?_ (State.putStr_keeps ..) (by decide +kernel)
      exact Keeps.refl _ _

theorem State.linReset_keeps (s : State) : Keeps ⟨[.bridge], [(0x601008, 0x60100A)]⟩ s (State.linReset
    s) := by
  unfold State.linReset
  refine Keeps.foldl ?_ (fun _ _ => ?_)
  · exact Keeps.refl _ _
  · dsimp only
    refine Keeps.optE ?_ (fun _ => ?_)
    · refine Keeps.trans ?_ (State.pute_keeps1 ..) (by decide +kernel)
      refine Keeps.trans ?_ (State.pute_keeps1 ..) (by decide +kernel)
      refine Keeps.trans ?_ (State.pute_keeps1 ..) (by decide +kernel)
      exact Keeps.refl _ _
    · refine Keeps.trans ?_ (State.putStr_keeps ..) (by decide +kernel)
      exact Keeps.refl _ _

theorem State.freshStrings_keeps (s : State) : Keeps ⟨[.bridge], [(0x601007, 0x60100A)]⟩ s
    (State.freshStrings s) := by
  unfold State.freshStrings
  dsimp only
  refine Keeps.upd ?_ (hb := Or.inl (by decide +kernel))
  refine Keeps.foldl ?_ (fun _ _ => ?_)
  · refine Keeps.trans ?_ (State.linReset_keeps ..) (by decide +kernel)
    exact Keeps.refl _ _
  · refine Keeps.trans ?_ (State.pute_keeps1 ..) (by decide +kernel)
    exact Keeps.refl _ _

theorem State.doDronePeriod_keeps (s : State) : Keeps ⟨[.out, .bridge], [(0x600209, 0x60020A),
    (0x601000, 0x6010FF), (0x602003, 0x602003)]⟩ s (State.doDronePeriod s) := by
  unfold State.doDronePeriod
  refine Keeps.ite (fun _ => ?_) (fun _ => ?_)
  · exact Keeps.refl _ _
  · dsimp only
    refine Keeps.optT ?_ (fun _ => ?_)
    · refine Keeps.upd ?_ (hb := Or.inl (by decide +kernel))
      refine Keeps.trans ?_ (State.fretBridge_keeps ..) (by decide +kernel)
      exact Keeps.refl _ _
    · refine Keeps.foldl ?_ (fun _ _ => ?_)
      · exact Keeps.refl _ _
      · refine Keeps.optE ?_ (fun _ => ?_)
        · refine Keeps.trans ?_ (State.sendDown_keeps ..) (by decide +kernel)
          refine Keeps.trans ?_ (State.code_keeps ..) (by decide +kernel)
          exact Keeps.refl _ _
        · refine Keeps.trans ?_ (State.emit_keeps ..) (by decide +kernel)
          refine Keeps.upd ?_ (hb := Or.inl (by decide +kernel))
          exact Keeps.refl _ _

theorem State.doEmitAssert_keeps (s : State) : Keeps ⟨[.out, .bridge, .clock, .mgmt, .health],
    [(0x101107, 0x101107), (0x103003, 0x103003), (0x180107, 0x180107), (0x188001, 0x188001), (0x600103,
    0x600103), (0x600201, 0x600202)]⟩ s (State.doEmitAssert s) := by
  unfold State.doEmitAssert
  dsimp only
  refine Keeps.trans ?_ (State.blankAll_keeps ..) (by decide +kernel)
  refine Keeps.upd ?_ (hb := Or.inl (by decide +kernel))
  refine Keeps.trans ?_ (State.transitions_keeps ..) (by decide +kernel)
  exact Keeps.refl _ _

theorem State.doEmitRelease_keeps (s : State) : Keeps ⟨[.out, .bridge, .clock, .mgmt], [(0x101107,
    0x101107), (0x103003, 0x103003), (0x180107, 0x180107), (0x188001, 0x188001), (0x600202, 0x600202)]⟩
    s (State.doEmitRelease s) := by
  unfold State.doEmitRelease
  dsimp only
  refine Keeps.optT ?_ (fun _ => ?_)
  · refine Keeps.ite (fun _ => ?_) (fun _ => ?_)
    · refine Keeps.trans ?_ (State.transitions_keeps ..) (by decide +kernel)
      exact Keeps.refl _ _
    · exact Keeps.refl _ _
  · refine Keeps.trans ?_ (State.releaseAll_keeps ..) (by decide +kernel)
    refine Keeps.upd ?_ (hb := Or.inl (by decide +kernel))
    exact Keeps.refl _ _

theorem State.doEmitStuck_keeps (s : State) : Keeps ⟨[.out, .bridge, .memory, .clock, .mgmt, .logs],
    [(0x101107, 0x101107), (0x103003, 0x103003), (0x180002, 0x180002), (0x180101, 0x180103), (0x600203,
    0x600203), (0x900005, 0x900005)]⟩ s (State.doEmitStuck s) := by
  unfold State.doEmitStuck
  refine Keeps.ite (fun _ => ?_) (fun _ => ?_)
  · exact Keeps.refl _ _
  · refine Keeps.trans ?_ (State.log_keeps ..) (by decide +kernel)
    refine Keeps.trans ?_ (State.event_keeps ..) (by decide +kernel)
    refine Keeps.trans ?_ (State.inc_keeps1 ..) (by decide +kernel)
    refine Keeps.upd ?_ (hb := Or.inl (by decide +kernel))
    exact Keeps.refl _ _

end Sys2Proof.Machine
end

