-- ==== Sys2Proof/Laws/Keeps/Wheel.lean ====
section
/-! SUPPORT. What each operation of Machine/Wheel.lean may change. -/

set_option Elab.async false

namespace Sys2Proof.Machine

theorem State.putWheel_keeps (s : State) (st : Nat) : Keeps ⟨[], [(0x680101, 0x680101), (0x680103,
    0x680103)]⟩ s (State.putWheel s st) := by
  unfold State.putWheel
  refine Keeps.trans ?_ (State.putBit_keeps1 ..) (by decide +kernel)
  refine Keeps.trans ?_ (State.put_keeps1 ..) (by decide +kernel)
  exact Keeps.refl _ _

theorem State.putTorque_keeps (s : State) (x : Int) : Keeps ⟨[], [(0x68010C, 0x68010C)]⟩ s
    (State.putTorque s x) := by
  unfold State.putTorque
  refine Keeps.trans ?_ (State.put_keeps1 ..) (by decide +kernel)
  exact Keeps.refl _ _

theorem State.putS32_keeps (s : State) (o : Nat) (m : Nat) (x : Int) : Keeps ⟨[], [(0x000000,
    0xFFFFFF)]⟩ s (State.putS32 s o m x) := by
  unfold State.putS32
  refine Keeps.ite (fun _ => ?_) (fun _ => ?_)
  · refine Keeps.trans ?_ (State.put_keepsA ..) (by decide +kernel)
    exact Keeps.refl _ _
  · split
    refine Keeps.trans ?_ (State.put_keepsA ..) (by decide +kernel)
    refine Keeps.snd (by assumption) ?_
    refine Keeps.trans ?_ (State.draw_keeps ..) (by decide +kernel)
    exact Keeps.refl _ _

theorem State.sendDrive_keeps (s : State) : Keeps ⟨[.out, .loop], []⟩ s (State.sendDrive s) := by
  unfold State.sendDrive
  dsimp only
  refine Keeps.ite (fun _ => ?_) (fun _ => ?_)
  · exact Keeps.refl _ _
  · refine Keeps.trans ?_ (State.emit_keeps ..) (by decide +kernel)
    refine Keeps.upd ?_ (hl := Or.inl (by decide +kernel))
    exact Keeps.refl _ _

theorem State.unlock_keeps (s : State) : Keeps ⟨[.out, .clock, .mgmt, .health], [(0x101107, 0x101107),
    (0x103003, 0x103003), (0x680104, 0x680104), (0x680106, 0x680106), (0x680206, 0x680206)]⟩ s
    (State.unlock s) := by
  unfold State.unlock
  refine Keeps.ite (fun _ => ?_) (fun _ => ?_)
  · dsimp only
    refine Keeps.optE ?_ (fun _ => ?_)
    · refine Keeps.trans ?_ (State.calEnd_keeps ..) (by decide +kernel)
      refine Keeps.trans ?_ (State.inc_keeps1 ..) (by decide +kernel)
      refine Keeps.trans ?_ (State.put_keeps1 ..) (by decide +kernel)
      exact Keeps.refl _ _
    · refine Keeps.trans ?_ (State.event_keeps ..) (by decide +kernel)
      refine Keeps.trans ?_ (State.putBit_keeps1 ..) (by decide +kernel)
      exact Keeps.refl _ _
  · exact Keeps.refl _ _

theorem State.disengage_keeps (s : State) : Keeps ⟨[.out, .loop, .clock, .mgmt, .health], [(0x101107,
    0x101107), (0x103003, 0x103003), (0x680103, 0x680104), (0x680106, 0x680106), (0x68010D, 0x68010D),
    (0x680206, 0x680206), (0x681003, 0x681003)]⟩ s (State.disengage s) := by
  unfold State.disengage
  refine Keeps.ite (fun _ => ?_) (fun _ => ?_)
  · refine Keeps.trans ?_ (State.unlock_keeps ..) (by decide +kernel)
    refine Keeps.trans ?_ (State.freezeLoop_keeps ..) (by decide +kernel)
    refine Keeps.trans ?_ (State.put_keeps1 ..) (by decide +kernel)
    refine Keeps.trans ?_ (State.putBit_keeps1 ..) (by decide +kernel)
    refine Keeps.upd ?_ (hl := Or.inl (by decide +kernel))
    exact Keeps.refl _ _
  · exact Keeps.refl _ _

theorem State.coast_keeps (s : State) (st : Nat) : Keeps ⟨[.out, .seq, .loop, .clock, .mgmt, .health],
    [(0x101107, 0x101107), (0x103003, 0x103003), (0x500103, 0x500103), (0x680101, 0x680101), (0x680103,
    0x680106), (0x68010C, 0x68010D), (0x680206, 0x680206), (0x681003, 0x681003)]⟩ s (State.coast s st)
    := by
  unfold State.coast
  dsimp only
  refine Keeps.ite (fun _ => ?_) (fun _ => ?_)
  · refine Keeps.trans ?_ (State.emit_keeps ..) (by decide +kernel)
    refine Keeps.trans ?_ (State.putWheel_keeps ..) (by decide +kernel)
    refine Keeps.trans ?_ (State.requestStop_keeps ..) (by decide +kernel)
    refine Keeps.upd ?_ (hl := Or.inl (by decide +kernel))
    refine Keeps.trans ?_ (State.put_keeps1 ..) (by decide +kernel)
    refine Keeps.trans ?_ (State.putTorque_keeps ..) (by decide +kernel)
    refine Keeps.trans ?_ (State.freezeLoop_keeps ..) (by decide +kernel)
    refine Keeps.trans ?_ (State.freezeLoop_keeps ..) (by decide +kernel)
    refine Keeps.trans ?_ (State.disengage_keeps ..) (by decide +kernel)
    exact Keeps.refl _ _
  · refine Keeps.trans ?_ (State.sendDrive_keeps ..) (by decide +kernel)
    refine Keeps.trans ?_ (State.putWheel_keeps ..) (by decide +kernel)
    refine Keeps.trans ?_ (State.requestStop_keeps ..) (by decide +kernel)
    refine Keeps.upd ?_ (hl := Or.inl (by decide +kernel))
    refine Keeps.trans ?_ (State.put_keeps1 ..) (by decide +kernel)
    refine Keeps.trans ?_ (State.putTorque_keeps ..) (by decide +kernel)
    refine Keeps.trans ?_ (State.freezeLoop_keeps ..) (by decide +kernel)
    refine Keeps.trans ?_ (State.freezeLoop_keeps ..) (by decide +kernel)
    refine Keeps.trans ?_ (State.disengage_keeps ..) (by decide +kernel)
    exact Keeps.refl _ _

theorem State.encoderLost_keeps (s : State) (rule : Nat) (count : Int) : Keeps ⟨[.out, .seq, .bridge,
    .loop, .memory, .clock, .mgmt, .health, .logs], [(0x101107, 0x101107), (0x103003, 0x103003),
    (0x180002, 0x180002), (0x180101, 0x180103), (0x500103, 0x500103), (0x600103, 0x600103), (0x600201,
    0x600201), (0x680101, 0x680101), (0x680103, 0x680106), (0x68010C, 0x68010D), (0x680206, 0x680206),
    (0x680209, 0x680209), (0x681003, 0x681003), (0x900005, 0x900005)]⟩ s (State.encoderLost s rule
    count) := by
  unfold State.encoderLost
  refine Keeps.ite (fun _ => ?_) (fun _ => ?_)
  · exact Keeps.refl _ _
  · dsimp only
    refine Keeps.optT ?_ (fun _ => ?_)
    · refine Keeps.trans ?_ (State.inc_keeps1 ..) (by decide +kernel)
      refine Keeps.upd ?_ (hl := Or.inl (by decide +kernel))
      exact Keeps.refl _ _
    · refine Keeps.trans ?_ (State.coast_keeps ..) (by decide +kernel)
      refine Keeps.trans ?_ (State.blankAll_keeps ..) (by decide +kernel)
      refine Keeps.trans ?_ (State.log_keeps ..) (by decide +kernel)
      refine Keeps.trans ?_ (State.putBit_keeps1 ..) (by decide +kernel)
      exact Keeps.refl _ _

theorem State.faultedCoast_keeps (s : State) (bit : Nat) : Keeps ⟨[.out, .seq, .loop, .memory, .clock,
    .mgmt, .health, .logs], [(0x101107, 0x101107), (0x103003, 0x103003), (0x180002, 0x180002),
    (0x180101, 0x180103), (0x500103, 0x500103), (0x680101, 0x680101), (0x680103, 0x680106), (0x68010C,
    0x68010D), (0x680206, 0x680206), (0x681003, 0x681003), (0x900005, 0x900005)]⟩ s (State.faultedCoast
    s bit) := by
  unfold State.faultedCoast
  dsimp only
  refine Keeps.optT ?_ (fun _ => ?_)
  · refine Keeps.trans ?_ (State.putBit_keeps1 ..) (by decide +kernel)
    exact Keeps.refl _ _
  · refine Keeps.trans ?_ (State.coast_keeps ..) (by decide +kernel)
    refine Keeps.ite (fun _ => ?_) (fun _ => ?_)
    · exact Keeps.refl _ _
    · refine Keeps.trans ?_ (State.log_keeps ..) (by decide +kernel)
      exact Keeps.refl _ _

theorem State.engage_keeps (s : State) (acq : Bool) : Keeps ⟨[.loop], [(0x680101, 0x680101), (0x680103,
    0x680103), (0x68010D, 0x68010D), (0x681003, 0x681003), (0x681006, 0x681007), (0x68100A, 0x68100A)]⟩
    s (State.engage s acq) := by
  unfold State.engage
  split
  · exact Keeps.refl _ _
  · dsimp only
    refine Keeps.trans ?_ (State.putWheel_keeps ..) (by decide +kernel)
    refine Keeps.trans ?_ (State.put_keeps1 ..) (by decide +kernel)
    refine Keeps.trans ?_ (State.putBit_keeps1 ..) (by decide +kernel)
    refine Keeps.trans ?_ (State.presetLoop_keeps ..) (by decide +kernel)
    refine Keeps.trans ?_ (State.freezeLoop_keeps ..) (by decide +kernel)
    refine Keeps.upd ?_ (hl := Or.inl (by decide +kernel))
    exact Keeps.refl _ _

theorem State.lockTick_keeps (s : State) (e : Int) : Keeps ⟨[.out, .bridge, .loop, .clock, .mgmt,
    .health], [(0x101107, 0x101107), (0x103003, 0x103003), (0x680101, 0x680101), (0x680103, 0x680104),
    (0x680106, 0x680106), (0x680205, 0x680206)]⟩ s (State.lockTick s e) := by
  unfold State.lockTick
  dsimp only
  refine Keeps.ite (fun _ => ?_) (fun _ => ?_)
  · refine Keeps.ite (fun _ => ?_) (fun _ => ?_)
    · refine Keeps.trans ?_ (State.releaseAll_keeps ..) (by decide +kernel)
      refine Keeps.trans ?_ (State.putWheel_keeps ..) (by decide +kernel)
      refine Keeps.trans ?_ (State.put_keeps1 ..) (by decide +kernel)
      refine Keeps.upd ?_ (hl := Or.inl (by decide +kernel))
      refine Keeps.ite (fun _ => ?_) (fun _ => ?_)
      · refine Keeps.trans ?_ (State.inc_keeps1 ..) (by decide +kernel)
        exact Keeps.refl _ _
      · exact Keeps.refl _ _
    · refine Keeps.upd ?_ (hl := Or.inl (by decide +kernel))
      refine Keeps.ite (fun _ => ?_) (fun _ => ?_)
      · refine Keeps.trans ?_ (State.inc_keeps1 ..) (by decide +kernel)
        exact Keeps.refl _ _
      · exact Keeps.refl _ _
  · refine Keeps.optE ?_ (fun _ => ?_)
    · refine Keeps.upd ?_ (hl := Or.inl (by decide +kernel))
      exact Keeps.refl _ _
    · refine Keeps.trans ?_ (State.putWheel_keeps ..) (by decide +kernel)
      refine Keeps.trans ?_ (State.unlock_keeps ..) (by decide +kernel)
      exact Keeps.refl _ _

theorem State.phaseTick_keeps (s : State) (i : Nat) (stamp : Nat) : Keeps ⟨[.out, .bridge, .loop,
    .clock, .mgmt, .health], [(0x000000, 0xFFFFFF)]⟩ s (State.phaseTick s i stamp).2 := by
  refine Keeps.pair (by unfold State.phaseTick; dsimp only) ?_
  split
  · dsimp only
    exact Keeps.refl _ _
  · dsimp only
    refine Keeps.trans ?_ (State.lockTick_keeps ..) (by decide +kernel)
    refine Keeps.trans ?_ (State.putS32_keeps ..) (by decide +kernel)
    refine Keeps.trans ?_ (State.stepLoop_keeps ..) (by decide +kernel)
    refine Keeps.trans ?_ (State.putS32_keeps ..) (by decide +kernel)
    refine Keeps.upd ?_ (hl := Or.inl (by decide +kernel))
    exact Keeps.refl _ _

theorem State.loopTick_keeps (s : State) (i : Nat) (stamp : Nat) : Keeps ⟨[.out, .bridge, .loop, .clock,
    .mgmt, .health], [(0x000000, 0xFFFFFF)]⟩ s (State.loopTick s i stamp) := by
  unfold State.loopTick
  split
  · exact Keeps.refl _ _
  · dsimp only
    refine Keeps.optE ?_ (fun _ => ?_)
    · refine Keeps.optE ?_ (fun _ => ?_)
      · refine Keeps.optT ?_ (fun _ => ?_)
        · refine Keeps.trans ?_ (State.stepLoop_keeps ..) (by decide +kernel)
          refine Keeps.sndIte (fun _ => ?_) (fun _ => ?_)
          · refine Keeps.trans ?_ (State.phaseTick_keeps ..) (by decide +kernel)
            refine Keeps.upd ?_ (hl := Or.inl (by decide +kernel))
            exact Keeps.refl _ _
          · dsimp only
            refine Keeps.upd ?_ (hl := Or.inl (by decide +kernel))
            exact Keeps.refl _ _
        · refine Keeps.trans ?_ (State.putTorque_keeps ..) (by decide +kernel)
          exact Keeps.refl _ _
      · refine Keeps.ite (fun _ => ?_) (fun _ => ?_)
        · refine Keeps.ite (fun _ => ?_) (fun _ => ?_)
          · refine Keeps.trans ?_ (State.putWheel_keeps ..) (by decide +kernel)
            exact Keeps.refl _ _
          · refine Keeps.trans ?_ (State.engage_keeps ..) (by decide +kernel)
            exact Keeps.refl _ _
        · refine Keeps.ite (fun _ => ?_) (fun _ => ?_)
          · refine Keeps.trans ?_ (State.engage_keeps ..) (by decide +kernel)
            exact Keeps.refl _ _
          · exact Keeps.refl _ _
    · refine Keeps.trans ?_ (State.putWheel_keeps ..) (by decide +kernel)
      refine Keeps.trans ?_ (State.putTorque_keeps ..) (by decide +kernel)
      exact Keeps.refl _ _

theorem State.closeSpeed_keeps (s : State) : Keeps ⟨[.loop], [(0x680101, 0x680101), (0x680103,
    0x680103), (0x681003, 0x681003), (0x681006, 0x681007), (0x68100A, 0x68100A)]⟩ s (State.closeSpeed s)
    := by
  unfold State.closeSpeed
  dsimp only
  refine Keeps.trans ?_ (State.putWheel_keeps ..) (by decide +kernel)
  refine Keeps.upd ?_ (hl := Or.inl (by decide +kernel))
  refine Keeps.trans ?_ (State.presetLoop_keeps ..) (by decide +kernel)
  refine Keeps.trans ?_ (State.freezeLoop_keeps ..) (by decide +kernel)
  exact Keeps.refl _ _

theorem State.doTick_keeps (s : State) (i : Nat) (stamp : Nat) : Keeps ⟨[.out, .bridge, .loop, .clock,
    .mgmt, .health], [(0x000000, 0xFFFFFF)]⟩ s (State.doTick s i stamp) := by
  unfold State.doTick
  dsimp only
  refine Keeps.trans ?_ (State.sendDrive_keeps ..) (by decide +kernel)
  refine Keeps.optE ?_ (fun _ => ?_)
  · refine Keeps.ite (fun _ => ?_) (fun _ => ?_)
    · refine Keeps.optE ?_ (fun _ => ?_)
      · refine Keeps.upd ?_ (hl := Or.inl (by decide +kernel))
        exact Keeps.refl _ _
      · refine Keeps.trans ?_ (State.closeSpeed_keeps ..) (by decide +kernel)
        exact Keeps.refl _ _
    · refine Keeps.optE ?_ (fun _ => ?_)
      · refine Keeps.upd ?_ (hl := Or.inl (by decide +kernel))
        exact Keeps.refl _ _
      · refine Keeps.trans ?_ (State.loopTick_keeps ..) (by decide +kernel)
        exact Keeps.refl _ _
  · refine Keeps.trans ?_ (State.put_keeps1 ..) (by decide +kernel)
    refine Keeps.upd ?_ (hl := Or.inl (by decide +kernel))
    exact Keeps.refl _ _

theorem State.brake_keeps (s : State) : Keeps ⟨[.out, .loop, .clock, .mgmt, .health], [(0x101107,
    0x101107), (0x103003, 0x103003), (0x680101, 0x680101), (0x680103, 0x680104), (0x680106, 0x680106),
    (0x68010D, 0x68010D), (0x680206, 0x680206), (0x681003, 0x681003), (0x681006, 0x681007), (0x68100A,
    0x68100A)]⟩ s (State.brake s) := by
  unfold State.brake
  dsimp only
  refine Keeps.ite (fun _ => ?_) (fun _ => ?_)
  · refine Keeps.trans ?_ (State.putWheel_keeps ..) (by decide +kernel)
    refine Keeps.trans ?_ (State.disengage_keeps ..) (by decide +kernel)
    refine Keeps.upd ?_ (hl := Or.inl (by decide +kernel))
    exact Keeps.refl _ _
  · refine Keeps.ite (fun _ => ?_) (fun _ => ?_)
    · refine Keeps.trans ?_ (State.putWheel_keeps ..) (by decide +kernel)
      refine Keeps.upd ?_ (hl := Or.inl (by decide +kernel))
      refine Keeps.trans ?_ (State.presetLoop_keeps ..) (by decide +kernel)
      refine Keeps.upd ?_ (hl := Or.inl (by decide +kernel))
      exact Keeps.refl _ _
    · refine Keeps.optE ?_ (fun _ => ?_)
      · refine Keeps.upd ?_ (hl := Or.inl (by decide +kernel))
        exact Keeps.refl _ _
      · refine Keeps.trans ?_ (State.putWheel_keeps ..) (by decide +kernel)
        exact Keeps.refl _ _

theorem State.doEdge_keeps (s : State) (a : Bool) (b : Bool) : Keeps ⟨[.out, .seq, .bridge, .loop,
    .memory, .clock, .mgmt, .health, .logs], [(0x000000, 0xFFFFFF)]⟩ s (State.doEdge s a b) := by
  unfold State.doEdge
  dsimp only
  refine Keeps.ite (fun _ => ?_) (fun _ => ?_)
  · refine Keeps.trans ?_ (State.inc_keeps1 ..) (by decide +kernel)
    refine Keeps.upd ?_ (hl := Or.inl (by decide +kernel))
    exact Keeps.refl _ _
  · refine Keeps.ite (fun _ => ?_) (fun _ => ?_)
    · exact Keeps.refl _ _
    · refine Keeps.optE ?_ (fun _ => ?_)
      · refine Keeps.optE ?_ (fun _ => ?_)
        · refine Keeps.upd ?_ (hl := Or.inl (by decide +kernel))
          exact Keeps.refl _ _
        · refine Keeps.trans ?_ (State.doTick_keeps ..) (by decide +kernel)
          exact Keeps.refl _ _
      · refine Keeps.trans ?_ (State.encoderLost_keeps ..) (by decide +kernel)
        exact Keeps.refl _ _

theorem State.judgeRev_keeps (s : State) (rev : Nat) : Keeps ⟨[.out, .seq, .loop, .memory, .clock,
    .mgmt, .health, .logs], [(0x101107, 0x101107), (0x103003, 0x103003), (0x180002, 0x180002),
    (0x180101, 0x180103), (0x500103, 0x500103), (0x680101, 0x680106), (0x68010C, 0x68010D), (0x680206,
    0x680206), (0x681003, 0x681003), (0x900005, 0x900005)]⟩ s (State.judgeRev s rev).2 := by
  refine Keeps.pair (by unfold State.judgeRev; dsimp only) ?_
  dsimp only
  refine Keeps.trans ?_ (State.putBit_keeps1 ..) (by decide +kernel)
  refine Keeps.optE ?_ (fun _ => ?_)
  · refine Keeps.upd ?_ (hl := Or.inl (by decide +kernel))
    refine Keeps.optE ?_ (fun _ => ?_)
    · refine Keeps.ite (fun _ => ?_) (fun _ => ?_)
      · refine Keeps.trans ?_ (State.put_keeps1 ..) (by decide +kernel)
        refine Keeps.upd ?_ (hl := Or.inl (by decide +kernel))
        exact Keeps.refl _ _
      · refine Keeps.trans ?_ (State.put_keeps1 ..) (by decide +kernel)
        refine Keeps.trans ?_ (State.draw_keeps ..) (by decide +kernel)
        refine Keeps.upd ?_ (hl := Or.inl (by decide +kernel))
        exact Keeps.refl _ _
    · refine Keeps.trans ?_ (State.faultedCoast_keeps ..) (by decide +kernel)
      exact Keeps.refl _ _
  · refine Keeps.trans ?_ (State.putBit_keeps1 ..) (by decide +kernel)
    exact Keeps.refl _ _

theorem State.wheelNut_keeps (s : State) : Keeps ⟨[.out, .seq, .bridge, .loop, .memory, .clock, .mgmt,
    .health, .logs], [(0x000000, 0xFFFFFF)]⟩ s (State.wheelNut s).2 := by
  refine Keeps.pair (by unfold State.wheelNut; dsimp only) ?_
  dsimp only
  refine Keeps.optE ?_ (fun _ => ?_)
  · refine Keeps.trans ?_ (State.doTick_keeps ..) (by decide +kernel)
    refine Keeps.sndIte (fun _ => ?_) (fun _ => ?_)
    · refine Keeps.trans ?_ (State.judgeRev_keeps ..) (by decide +kernel)
      refine Keeps.upd ?_ (hl := Or.inl (by decide +kernel))
      refine Keeps.ite (fun _ => ?_) (fun _ => ?_)
      · refine Keeps.trans ?_ (State.encoderLost_keeps ..) (by decide +kernel)
        exact Keeps.refl _ _
      · refine Keeps.ite (fun _ => ?_) (fun _ => ?_)
        · refine Keeps.trans ?_ (State.put_keeps1 ..) (by decide +kernel)
          refine Keeps.trans ?_ (State.inc_keeps1 ..) (by decide +kernel)
          exact Keeps.refl _ _
        · exact Keeps.refl _ _
    · dsimp only
      refine Keeps.upd ?_ (hl := Or.inl (by decide +kernel))
      refine Keeps.ite (fun _ => ?_) (fun _ => ?_)
      · refine Keeps.trans ?_ (State.encoderLost_keeps ..) (by decide +kernel)
        exact Keeps.refl _ _
      · refine Keeps.ite (fun _ => ?_) (fun _ => ?_)
        · refine Keeps.trans ?_ (State.put_keeps1 ..) (by decide +kernel)
          refine Keeps.trans ?_ (State.inc_keeps1 ..) (by decide +kernel)
          exact Keeps.refl _ _
        · exact Keeps.refl _ _
  · refine Keeps.optE ?_ (fun _ => ?_)
    · refine Keeps.upd ?_ (hl := Or.inl (by decide +kernel))
      exact Keeps.refl _ _
    · refine Keeps.optT ?_ (fun _ => ?_)
      · refine Keeps.trans ?_ (State.closeSpeed_keeps ..) (by decide +kernel)
        refine Keeps.trans ?_ (State.putTorque_keeps ..) (by decide +kernel)
        exact Keeps.refl _ _
      · refine Keeps.trans ?_ (State.brake_keeps ..) (by decide +kernel)
        exact Keeps.refl _ _

theorem State.showRest_keeps (s : State) : Keeps ⟨[], [(0x680101, 0x680101), (0x680103, 0x680103)]⟩ s
    (State.showRest s) := by
  unfold State.showRest
  refine Keeps.ite (fun _ => ?_) (fun _ => ?_)
  · exact Keeps.refl _ _
  · refine Keeps.trans ?_ (State.putWheel_keeps ..) (by decide +kernel)
    exact Keeps.refl _ _

theorem State.spinUp_keeps (s : State) : Keeps ⟨[.loop], [(0x680101, 0x680101), (0x680103, 0x680103),
    (0x68010C, 0x68010C), (0x681003, 0x681003)]⟩ s (State.spinUp s) := by
  unfold State.spinUp
  refine Keeps.ite (fun _ => ?_) (fun _ => ?_)
  · exact Keeps.refl _ _
  · refine Keeps.ite (fun _ => ?_) (fun _ => ?_)
    · refine Keeps.trans ?_ (State.showRest_keeps ..) (by decide +kernel)
      exact Keeps.refl _ _
    · dsimp only
      refine Keeps.trans ?_ (State.putWheel_keeps ..) (by decide +kernel)
      refine Keeps.trans ?_ (State.putTorque_keeps ..) (by decide +kernel)
      refine Keeps.trans ?_ (State.freezeLoop_keeps ..) (by decide +kernel)
      refine Keeps.upd ?_ (hl := Or.inl (by decide +kernel))
      exact Keeps.refl _ _

theorem State.ownWheel_keeps (s : State) (v : Nat) : Keeps ⟨[.out, .seq, .loop, .clock, .mgmt, .health],
    [(0x101107, 0x101107), (0x103003, 0x103003), (0x500103, 0x500103), (0x680101, 0x680101), (0x680103,
    0x680104), (0x680106, 0x680106), (0x68010C, 0x68010D), (0x680206, 0x680206), (0x681003, 0x681003),
    (0x681006, 0x681007), (0x68100A, 0x68100A)]⟩ s (State.ownWheel s v) := by
  unfold State.ownWheel
  refine Keeps.ite (fun _ => ?_) (fun _ => ?_)
  · refine Keeps.ite (fun _ => ?_) (fun _ => ?_)
    · refine Keeps.trans ?_ (State.requestStop_keeps ..) (by decide +kernel)
      refine Keeps.upd ?_ (hl := Or.inl (by decide +kernel))
      exact Keeps.refl _ _
    · refine Keeps.trans ?_ (State.brake_keeps ..) (by decide +kernel)
      exact Keeps.refl _ _
  · dsimp only
    refine Keeps.ite (fun _ => ?_) (fun _ => ?_)
    · refine Keeps.trans ?_ (State.putWheel_keeps ..) (by decide +kernel)
      refine Keeps.upd ?_ (hl := Or.inl (by decide +kernel))
      exact Keeps.refl _ _
    · refine Keeps.ite (fun _ => ?_) (fun _ => ?_)
      · refine Keeps.optE ?_ (fun _ => ?_)
        · refine Keeps.upd ?_ (hl := Or.inl (by decide +kernel))
          exact Keeps.refl _ _
        · refine Keeps.trans ?_ (State.closeSpeed_keeps ..) (by decide +kernel)
          exact Keeps.refl _ _
      · refine Keeps.trans ?_ (State.spinUp_keeps ..) (by decide +kernel)
        refine Keeps.upd ?_ (hl := Or.inl (by decide +kernel))
        exact Keeps.refl _ _

theorem State.rearmWheel_keeps (s : State) : Keeps ⟨[.loop], [(0x680101, 0x680101), (0x680103,
    0x680103), (0x68010C, 0x68010C), (0x681003, 0x681003)]⟩ s (State.rearmWheel s) := by
  unfold State.rearmWheel
  dsimp only
  refine Keeps.ite (fun _ => ?_) (fun _ => ?_)
  · refine Keeps.trans ?_ (State.spinUp_keeps ..) (by decide +kernel)
    refine Keeps.trans ?_ (State.putWheel_keeps ..) (by decide +kernel)
    refine Keeps.trans ?_ (State.freezeLoop_keeps ..) (by decide +kernel)
    refine Keeps.trans ?_ (State.freezeLoop_keeps ..) (by decide +kernel)
    refine Keeps.upd ?_ (hl := Or.inl (by decide +kernel))
    exact Keeps.refl _ _
  · refine Keeps.trans ?_ (State.putWheel_keeps ..) (by decide +kernel)
    refine Keeps.upd ?_ (hl := Or.inl (by decide +kernel))
    refine Keeps.trans ?_ (State.freezeLoop_keeps ..) (by decide +kernel)
    refine Keeps.trans ?_ (State.freezeLoop_keeps ..) (by decide +kernel)
    refine Keeps.upd ?_ (hl := Or.inl (by decide +kernel))
    exact Keeps.refl _ _

theorem State.glideWheel_keeps (s : State) (measured : Bool) : Keeps ⟨[.out, .loop, .clock, .mgmt,
    .health], [(0x101107, 0x101107), (0x103003, 0x103003), (0x680101, 0x680101), (0x680103, 0x680104),
    (0x680106, 0x680106), (0x68010D, 0x68010D), (0x680206, 0x680206), (0x681003, 0x681003)]⟩ s
    (State.glideWheel s measured) := by
  unfold State.glideWheel
  refine Keeps.ite (fun _ => ?_) (fun _ => ?_)
  · dsimp only
    refine Keeps.trans ?_ (State.putWheel_keeps ..) (by decide +kernel)
    refine Keeps.trans ?_ (State.disengage_keeps ..) (by decide +kernel)
    refine Keeps.ite (fun _ => ?_) (fun _ => ?_)
    · refine Keeps.upd ?_ (hl := Or.inl (by decide +kernel))
      exact Keeps.refl _ _
    · exact Keeps.refl _ _
  · exact Keeps.refl _ _

theorem State.droneWheel_keeps (s : State) : Keeps ⟨[.out, .loop, .clock, .mgmt, .health], [(0x101107,
    0x101107), (0x103003, 0x103003), (0x680101, 0x680101), (0x680103, 0x680106), (0x68010D, 0x68010D),
    (0x680206, 0x680206), (0x681003, 0x681003)]⟩ s (State.droneWheel s) := by
  unfold State.droneWheel
  dsimp only
  refine Keeps.optE ?_ (fun _ => ?_)
  · refine Keeps.upd ?_ (hl := Or.inl (by decide +kernel))
    refine Keeps.trans ?_ (State.putBit_keeps1 ..) (by decide +kernel)
    refine Keeps.trans ?_ (State.put_keeps1 ..) (by decide +kernel)
    refine Keeps.trans ?_ (State.disengage_keeps ..) (by decide +kernel)
    exact Keeps.refl _ _
  · refine Keeps.trans ?_ (State.putWheel_keeps ..) (by decide +kernel)
    exact Keeps.refl _ _

theorem State.droneWheelEnds_keeps (s : State) : Keeps ⟨[.loop], [(0x680101, 0x680101), (0x680103,
    0x680103)]⟩ s (State.droneWheelEnds s) := by
  unfold State.droneWheelEnds
  dsimp only
  refine Keeps.optE ?_ (fun _ => ?_)
  · refine Keeps.upd ?_ (hl := Or.inl (by decide +kernel))
    refine Keeps.trans ?_ (State.putBit_keeps1 ..) (by decide +kernel)
    exact Keeps.refl _ _
  · refine Keeps.trans ?_ (State.putWheel_keeps ..) (by decide +kernel)
    exact Keeps.refl _ _

theorem State.driveGood_keeps (s : State) (f : BitVec 48) : Keeps ⟨[.out, .seq, .loop, .memory, .clock,
    .mgmt, .health, .logs], [(0x101107, 0x101107), (0x103003, 0x103003), (0x180002, 0x180002),
    (0x180101, 0x180103), (0x500103, 0x500103), (0x680101, 0x680101), (0x680103, 0x680106), (0x680108,
    0x680109), (0x68010C, 0x68010D), (0x680206, 0x680206), (0x681003, 0x681003), (0x900005, 0x900005)]⟩
    s (State.driveGood s f) := by
  unfold State.driveGood
  dsimp only
  refine Keeps.optT ?_ (fun _ => ?_)
  · refine Keeps.optT ?_ (fun _ => ?_)
    · refine Keeps.trans ?_ (State.put_keeps1 ..) (by decide +kernel)
      refine Keeps.upd ?_ (hl := Or.inl (by decide +kernel))
      exact Keeps.refl _ _
    · refine Keeps.ite (fun _ => ?_) (fun _ => ?_)
      · refine Keeps.trans ?_ (State.put_keeps1 ..) (by decide +kernel)
        refine Keeps.upd ?_ (hl := Or.inl (by decide +kernel))
        exact Keeps.refl _ _
      · refine Keeps.upd ?_ (hl := Or.inl (by decide +kernel))
        exact Keeps.refl _ _
  · refine Keeps.trans ?_ (State.faultedCoast_keeps ..) (by decide +kernel)
    exact Keeps.refl _ _

theorem State.driveLost_keeps (s : State) : Keeps ⟨[.out, .seq, .loop, .memory, .clock, .mgmt, .health,
    .logs], [(0x101107, 0x101107), (0x103003, 0x103003), (0x180002, 0x180002), (0x180101, 0x180103),
    (0x500103, 0x500103), (0x680101, 0x680101), (0x680103, 0x680106), (0x680109, 0x680109), (0x68010C,
    0x68010D), (0x680204, 0x680204), (0x680206, 0x680206), (0x681003, 0x681003), (0x900005, 0x900005)]⟩
    s (State.driveLost s) := by
  unfold State.driveLost
  dsimp only
  refine Keeps.ite (fun _ => ?_) (fun _ => ?_)
  · refine Keeps.upd ?_ (hl := Or.inl (by decide +kernel))
    exact Keeps.refl _ _
  · refine Keeps.optE ?_ (fun _ => ?_)
    · refine Keeps.trans ?_ (State.inc_keeps1 ..) (by decide +kernel)
      refine Keeps.upd ?_ (hl := Or.inl (by decide +kernel))
      exact Keeps.refl _ _
    · refine Keeps.trans ?_ (State.faultedCoast_keeps ..) (by decide +kernel)
      refine Keeps.trans ?_ (State.put_keeps1 ..) (by decide +kernel)
      exact Keeps.refl _ _

end Sys2Proof.Machine
end

