-- ==== Sys2Proof/Laws/Keeps/Calibration.lean ====
section
/-! SUPPORT. What each operation of Machine/Calibration.lean may change. -/

set_option Elab.async false

namespace Sys2Proof.Machine

theorem State.mapCal_keeps (s : State) (f : Cal → Cal) : Keeps ⟨[.health], []⟩ s (State.mapCal s f) :=
    by
  unfold State.mapCal
  refine Keeps.upd ?_ (hhh := Or.inl (by decide +kernel))
  exact Keeps.refl _ _

theorem State.startCal_keeps (s : State) (tile : Bool) (c : Nat) : Keeps ⟨[.health], [(0x283002,
    0x283002)]⟩ s (State.startCal s tile c) := by
  unfold State.startCal
  dsimp only
  refine Keeps.trans ?_ (State.put_keeps1 ..) (by decide +kernel)
  refine Keeps.upd ?_ (hhh := Or.inl (by decide +kernel))
  exact Keeps.refl _ _

theorem State.ownCal_keeps (s : State) (v : Nat) : Keeps ⟨[.health], [(0x283002, 0x283002)]⟩ s
    (State.ownCal s v) := by
  unfold State.ownCal
  refine Keeps.ite (fun _ => ?_) (fun _ => ?_)
  · refine Keeps.trans ?_ (State.calEnd_keeps ..) (by decide +kernel)
    exact Keeps.refl _ _
  · refine Keeps.trans ?_ (State.startCal_keeps ..) (by decide +kernel)
    exact Keeps.refl _ _

theorem State.calRelease_keeps (s : State) (k : Cal) : Keeps ⟨[.loop], [(0x681003, 0x681003), (0x681006,
    0x681007), (0x68100A, 0x68100A)]⟩ s (State.calRelease s k) := by
  unfold State.calRelease
  refine Keeps.foldl ?_ (fun _ _ => ?_)
  · exact Keeps.refl _ _
  · refine Keeps.ite (fun _ => ?_) (fun _ => ?_)
    · exact Keeps.refl _ _
    · refine Keeps.trans ?_ (State.freezeLoop_keeps ..) (by decide +kernel)
      refine Keeps.trans ?_ (State.presetLoop_keeps ..) (by decide +kernel)
      exact Keeps.refl _ _

theorem State.calClose_keeps (s : State) (k : Cal) : Keeps ⟨[.loop, .health], [(0x283002, 0x283005),
    (0x681003, 0x681003), (0x681006, 0x681007), (0x68100A, 0x68100A)]⟩ s (State.calClose s k) := by
  unfold State.calClose
  dsimp only
  refine Keeps.upd ?_ (hhh := Or.inl (by decide +kernel))
  refine Keeps.trans ?_ (State.put_keeps1 ..) (by decide +kernel)
  refine Keeps.trans ?_ (State.put_keeps1 ..) (by decide +kernel)
  refine Keeps.trans ?_ (State.put_keeps1 ..) (by decide +kernel)
  refine Keeps.trans ?_ (State.put_keeps1 ..) (by decide +kernel)
  refine Keeps.ite (fun _ => ?_) (fun _ => ?_)
  · exact Keeps.refl _ _
  · refine Keeps.trans ?_ (State.calRelease_keeps ..) (by decide +kernel)
    exact Keeps.refl _ _

theorem State.courseFails_keeps (s : State) (c : Nat) : Keeps ⟨[], [(0x280207, 0x280207), (0x283101,
    0x283101)]⟩ s (State.courseFails s c) := by
  unfold State.courseFails
  refine Keeps.trans ?_ (State.inc_keeps1 ..) (by decide +kernel)
  refine Keeps.trans ?_ (State.pute_keeps1 ..) (by decide +kernel)
  exact Keeps.refl _ _

theorem State.calFinish_keeps (s : State) : Keeps ⟨[.loop, .health], [(0x280207, 0x280207), (0x283002,
    0x283005), (0x283101, 0x283101), (0x681003, 0x681003), (0x681006, 0x681007), (0x68100A, 0x68100A)]⟩
    s (State.calFinish s) := by
  unfold State.calFinish
  split
  · exact Keeps.refl _ _
  · dsimp only
    refine Keeps.trans ?_ (State.calClose_keeps ..) (by decide +kernel)
    refine Keeps.ite (fun _ => ?_) (fun _ => ?_)
    · exact Keeps.refl _ _
    · refine Keeps.trans ?_ (State.courseFails_keeps ..) (by decide +kernel)
      exact Keeps.refl _ _

theorem State.calFrame_keeps (s : State) : Keeps ⟨[.health], [(0x280209, 0x280209)]⟩ s (State.calFrame
    s) := by
  unfold State.calFrame
  dsimp only
  refine Keeps.optT ?_ (fun _ => ?_)
  · refine Keeps.trans ?_ (State.mapCal_keeps ..) (by decide +kernel)
    exact Keeps.refl _ _
  · refine Keeps.trans ?_ (State.inc_keeps1 ..) (by decide +kernel)
    exact Keeps.refl _ _

theorem State.doCalPluck_keeps (s : State) : Keeps ⟨[.out, .bridge, .health], [(0x600209, 0x600209),
    (0x60100B, 0x60100B)]⟩ s (State.doCalPluck s) := by
  unfold State.doCalPluck
  split
  · exact Keeps.refl _ _
  · refine Keeps.ite (fun _ => ?_) (fun _ => ?_)
    · exact Keeps.refl _ _
    · dsimp only
      split
      · refine Keeps.trans ?_ (State.emit_keeps ..) (by decide +kernel)
        refine Keeps.trans ?_ (State.mapCal_keeps ..) (by decide +kernel)
        exact Keeps.refl _ _
      · refine Keeps.optE ?_ (fun _ => ?_)
        · refine Keeps.trans ?_ (State.sendDown_keeps ..) (by decide +kernel)
          refine Keeps.optE ?_ (fun _ => ?_)
          · refine Keeps.trans ?_ (State.emit_keeps ..) (by decide +kernel)
            refine Keeps.trans ?_ (State.mapCal_keeps ..) (by decide +kernel)
            exact Keeps.refl _ _
          · refine Keeps.trans ?_ (State.inc_keeps1 ..) (by decide +kernel)
            refine Keeps.trans ?_ (State.ince_keeps1 ..) (by decide +kernel)
            exact Keeps.refl _ _
        · refine Keeps.trans ?_ (State.expect_keeps ..) (by decide +kernel)
          refine Keeps.trans ?_ (State.emit_keeps ..) (by decide +kernel)
          exact Keeps.refl _ _

theorem State.doProbeReading_keeps (s : State) (w : BitVec 32) : Keeps ⟨[.health], [(0x280208,
    0x280208), (0x282004, 0x282005)]⟩ s (State.doProbeReading s w) := by
  unfold State.doProbeReading
  dsimp only
  refine Keeps.ite (fun _ => ?_) (fun _ => ?_)
  · refine Keeps.trans ?_ (State.mapCal_keeps ..) (by decide +kernel)
    refine Keeps.trans ?_ (State.put_keeps1 ..) (by decide +kernel)
    refine Keeps.trans ?_ (State.put_keeps1 ..) (by decide +kernel)
    refine Keeps.upd ?_ (hhh := Or.inl (by decide +kernel))
    exact Keeps.refl _ _
  · refine Keeps.optE ?_ (fun _ => ?_)
    · refine Keeps.optE ?_ (fun _ => ?_)
      · refine Keeps.upd ?_ (hhh := Or.inl (by decide +kernel))
        exact Keeps.refl _ _
      · refine Keeps.trans ?_ (State.inc_keeps1 ..) (by decide +kernel)
        exact Keeps.refl _ _
    · refine Keeps.trans ?_ (State.calEnd_keeps ..) (by decide +kernel)
      refine Keeps.trans ?_ (State.put_keeps1 ..) (by decide +kernel)
      exact Keeps.refl _ _

theorem State.fit16_keeps (s : State) (v : Option Int) : Keeps ⟨[], []⟩ s (State.fit16 s v).2 := by
  refine Keeps.pair (by unfold State.fit16; dsimp only) ?_
  split
  · refine Keeps.sndIte (fun _ => ?_) (fun _ => ?_)
    · dsimp only
      exact Keeps.refl _ _
    · refine Keeps.trans ?_ (State.draw_keeps ..) (by decide +kernel)
      exact Keeps.refl _ _
  · refine Keeps.trans ?_ (State.draw_keeps ..) (by decide +kernel)
    exact Keeps.refl _ _

theorem State.fitSet_keeps (s : State) (v : List Int) : Keeps ⟨[], []⟩ s (State.fitSet s v).2 := by
  refine Keeps.pair (by unfold State.fitSet; dsimp only) ?_
  dsimp only
  refine Keeps.trans ?_ (State.fit16_keeps ..) (by decide +kernel)
  refine Keeps.trans ?_ (State.fit16_keeps ..) (by decide +kernel)
  refine Keeps.trans ?_ (State.fit16_keeps ..) (by decide +kernel)
  refine Keeps.trans ?_ (State.fit16_keeps ..) (by decide +kernel)
  refine Keeps.trans ?_ (State.fit16_keeps ..) (by decide +kernel)
  exact Keeps.refl _ _

theorem State.correctString_keeps (s : State) (n : Nat) (sets : List (List Int)) (tgt : Option Int) :
    Keeps ⟨[.bridge, .memory], [(0x900005, 0x900005)]⟩ s (State.correctString s n sets tgt) := by
  unfold State.correctString
  dsimp only
  refine Keeps.trans ?_ (State.writeTuneRecord_keeps ..) (by decide +kernel)
  refine Keeps.upd ?_ (hb := Or.inl (by decide +kernel)) (hme := Or.inl (by decide +kernel))
  refine Keeps.trans ?_ (State.fit16_keeps ..) (by decide +kernel)
  refine Keeps.sndFoldl ?_ (fun _ _ => ?_)
  · dsimp only
    exact Keeps.refl _ _
  · dsimp only
    refine Keeps.trans ?_ (State.fitSet_keeps ..) (by decide +kernel)
    exact Keeps.refl _ _

theorem State.courseResult_keeps (s : State) (k : Cal) : Keeps ⟨[.bridge, .memory], [(0x280206,
    0x280207), (0x283101, 0x283103), (0x900005, 0x900005)]⟩ s (State.courseResult s k).2 := by
  refine Keeps.pair (by unfold State.courseResult; dsimp only) ?_
  refine Keeps.sndIte (fun _ => ?_) (fun _ => ?_)
  · dsimp only
    refine Keeps.trans ?_ (State.inc_keeps1 ..) (by decide +kernel)
    refine Keeps.trans ?_ (State.pute_keeps1 ..) (by decide +kernel)
    refine Keeps.trans ?_ (State.pute_keeps1 ..) (by decide +kernel)
    refine Keeps.trans ?_ (State.pute_keeps1 ..) (by decide +kernel)
    refine Keeps.foldl ?_ (fun _ _ => ?_)
    · exact Keeps.refl _ _
    · refine Keeps.trans ?_ (State.correctString_keeps ..) (by decide +kernel)
      exact Keeps.refl _ _
  · dsimp only
    refine Keeps.trans ?_ (State.courseFails_keeps ..) (by decide +kernel)
    exact Keeps.refl _ _

theorem State.nextCourse_keeps (s : State) (k : Cal) (c fuel : Nat) :
    Keeps ⟨[.loop, .health], [(0x280207, 0x280207), (0x283002, 0x283005), (0x283101, 0x283101), (0x681003, 0x681003), (0x681006, 0x681007), (0x68100A, 0x68100A)]⟩ s (s.nextCourse k c fuel) := by
  induction fuel generalizing s k c with
  | zero => exact (State.calClose_keeps s k).mono (by decide +kernel)
  | succ fuel ih =>
    unfold State.nextCourse
    refine Keeps.ite (fun _ => (State.calClose_keeps s k).mono (by decide +kernel)) (fun _ => ?_)
    refine Keeps.ite (fun _ => ?_) (fun _ => ?_)
    · exact ((State.courseFails_keeps s c).mono (by decide +kernel)).trans (ih _ _ _) (Foot.sub_refl _)
    · refine Keeps.trans ?_ (State.put_keeps1 ..) (by decide +kernel)
      exact Keeps.upd (Keeps.refl _ _) (hhh := Or.inl (by decide +kernel))

theorem State.calBegin_keeps (s : State) (k : Cal) : Keeps ⟨[.loop, .health], [(0x280207, 0x280207),
    (0x283002, 0x283005), (0x283101, 0x283101), (0x681003, 0x681003), (0x681006, 0x681007), (0x68100A,
    0x68100A)]⟩ s (State.calBegin s k) := by
  unfold State.calBegin
  dsimp only
  refine Keeps.ite (fun _ => ?_) (fun _ => ?_)
  · refine Keeps.trans ?_ (State.nextCourse_keeps ..) (by decide +kernel)
    refine Keeps.foldl ?_ (fun _ _ => ?_)
    · exact Keeps.refl _ _
    · refine Keeps.trans ?_ (State.freezeLoop_keeps ..) (by decide +kernel)
      exact Keeps.refl _ _
  · refine Keeps.trans ?_ (State.put_keeps1 ..) (by decide +kernel)
    refine Keeps.upd ?_ (hhh := Or.inl (by decide +kernel))
    refine Keeps.foldl ?_ (fun _ _ => ?_)
    · exact Keeps.refl _ _
    · refine Keeps.trans ?_ (State.freezeLoop_keeps ..) (by decide +kernel)
      exact Keeps.refl _ _

theorem State.calNut_keeps (s : State) : Keeps ⟨[.bridge, .loop, .memory, .health], [(0x280206,
    0x280207), (0x280209, 0x280209), (0x283002, 0x283005), (0x283101, 0x283103), (0x681003, 0x681003),
    (0x681006, 0x681007), (0x68100A, 0x68100A), (0x900005, 0x900005)]⟩ s (State.calNut s) := by
  unfold State.calNut
  split
  · exact Keeps.refl _ _
  · refine Keeps.ite (fun _ => ?_) (fun _ => ?_)
    · refine Keeps.trans ?_ (State.calFinish_keeps ..) (by decide +kernel)
      exact Keeps.refl _ _
    · split
      · refine Keeps.trans ?_ (State.calBegin_keeps ..) (by decide +kernel)
        exact Keeps.refl _ _
      · refine Keeps.ite (fun _ => ?_) (fun _ => ?_)
        · refine Keeps.trans ?_ (State.calFrame_keeps ..) (by decide +kernel)
          refine Keeps.trans ?_ (State.mapCal_keeps ..) (by decide +kernel)
          exact Keeps.refl _ _
        · refine Keeps.trans ?_ (State.mapCal_keeps ..) (by decide +kernel)
          exact Keeps.refl _ _
      · dsimp only
        refine Keeps.ite (fun _ => ?_) (fun _ => ?_)
        · refine Keeps.trans ?_ (State.mapCal_keeps ..) (by decide +kernel)
          refine Keeps.trans ?_ (State.mapCal_keeps ..) (by decide +kernel)
          exact Keeps.refl _ _
        · refine Keeps.trans ?_ (State.calFrame_keeps ..) (by decide +kernel)
          refine Keeps.trans ?_ (State.mapCal_keeps ..) (by decide +kernel)
          exact Keeps.refl _ _
      · refine Keeps.ite (fun _ => ?_) (fun _ => ?_)
        · split
          dsimp only
          refine Keeps.trans ?_ (State.nextCourse_keeps ..) (by decide +kernel)
          refine Keeps.snd (by assumption) ?_
          refine Keeps.trans ?_ (State.courseResult_keeps ..) (by decide +kernel)
          exact Keeps.refl _ _
        · refine Keeps.trans ?_ (State.mapCal_keeps ..) (by decide +kernel)
          exact Keeps.refl _ _
      · refine Keeps.trans ?_ (State.nextCourse_keeps ..) (by decide +kernel)
        exact Keeps.refl _ _

theorem State.calLimit_keeps (s : State) : Keeps ⟨[.health], [(0x280207, 0x280207), (0x283101,
    0x283101)]⟩ s (State.calLimit s) := by
  unfold State.calLimit
  split
  · exact Keeps.refl _ _
  · refine Keeps.ite (fun _ => ?_) (fun _ => ?_)
    · exact Keeps.refl _ _
    · refine Keeps.ite (fun _ => ?_) (fun _ => ?_)
      · dsimp only
        refine Keeps.trans ?_ (State.calEnd_keeps ..) (by decide +kernel)
        refine Keeps.trans ?_ (State.mapCal_keeps ..) (by decide +kernel)
        refine Keeps.foldl ?_ (fun _ _ => ?_)
        · exact Keeps.refl _ _
        · refine Keeps.trans ?_ (State.courseFails_keeps ..) (by decide +kernel)
          exact Keeps.refl _ _
      · refine Keeps.ite (fun _ => ?_) (fun _ => ?_)
        · refine Keeps.trans ?_ (State.mapCal_keeps ..) (by decide +kernel)
          refine Keeps.trans ?_ (State.courseFails_keeps ..) (by decide +kernel)
          exact Keeps.refl _ _
        · refine Keeps.trans ?_ (State.calEnd_keeps ..) (by decide +kernel)
          exact Keeps.refl _ _

theorem State.calRamps_keeps (s : State) : Keeps ⟨[], [(0x283102, 0x283102)]⟩ s (State.calRamps s) := by
  unfold State.calRamps
  refine Keeps.foldl ?_ (fun _ _ => ?_)
  · exact Keeps.refl _ _
  · dsimp only
    refine Keeps.ite (fun _ => ?_) (fun _ => ?_)
    · exact Keeps.refl _ _
    · refine Keeps.trans ?_ (State.pute_keeps1 ..) (by decide +kernel)
      exact Keeps.refl _ _

theorem State.doPresence_keeps (s : State) : Keeps ⟨[.out], []⟩ s (State.doPresence s) := by
  unfold State.doPresence
  refine Keeps.ite (fun _ => ?_) (fun _ => ?_)
  · exact Keeps.refl _ _
  · refine Keeps.trans ?_ (State.emit_keeps ..) (by decide +kernel)
    exact Keeps.refl _ _

end Sys2Proof.Machine
end

