-- ==== Sys2Proof/Laws/Keeps/Power.lean ====
section
/-! SUPPORT. What each operation of Machine/Power.lean may change. -/

set_option Elab.async false

namespace Sys2Proof.Machine

theorem State.stopIsland_keeps (s : State) (i : Nat) : Keeps ⟨[.clock], [(0x201001, 0x201001),
    (0x201004, 0x201004)]⟩ s (State.stopIsland s i) := by
  unfold State.stopIsland
  dsimp only
  refine Keeps.upd ?_ (hck := Or.inl (by decide +kernel))
  refine Keeps.trans ?_ (State.pute_keeps1 ..) (by decide +kernel)
  refine Keeps.trans ?_ (State.pute_keeps1 ..) (by decide +kernel)
  exact Keeps.refl _ _

theorem State.closeIslands_keeps (s : State) : Keeps ⟨[.clock], [(0x201001, 0x201001), (0x201004,
    0x201004)]⟩ s (State.closeIslands s) := by
  unfold State.closeIslands
  dsimp only
  refine Keeps.upd ?_ (hck := Or.inl (by decide +kernel))
  refine Keeps.foldl ?_ (fun _ _ => ?_)
  · exact Keeps.refl _ _
  · refine Keeps.trans ?_ (State.stopIsland_keeps ..) (by decide +kernel)
    exact Keeps.refl _ _

theorem State.selfRefresh_keeps (s : State) : Keeps ⟨[.out, .memory], []⟩ s (State.selfRefresh s) := by
  unfold State.selfRefresh
  refine Keeps.foldl ?_ (fun _ _ => ?_)
  · exact Keeps.refl _ _
  · refine Keeps.trans ?_ (State.enterRefresh_keeps ..) (by decide +kernel)
    exact Keeps.refl _ _

theorem State.endTimeline_keeps (s : State) : Keeps ⟨[.codec, .ray, .seq, .bridge, .loop, .lanes],
    [(0x500102, 0x500106), (0x701001, 0x701001)]⟩ s (State.endTimeline s) := by
  unfold State.endTimeline
  dsimp only
  refine Keeps.trans ?_ (State.setReceivers_keeps ..) (by decide +kernel)
  refine Keeps.trans ?_ (State.put_keeps1 ..) (by decide +kernel)
  refine Keeps.trans ?_ (State.put_keeps1 ..) (by decide +kernel)
  refine Keeps.trans ?_ (State.put_keeps1 ..) (by decide +kernel)
  refine Keeps.trans ?_ (State.put_keeps1 ..) (by decide +kernel)
  refine Keeps.trans ?_ (State.put_keeps1 ..) (by decide +kernel)
  refine Keeps.upd ?_ (hsq := Or.inl (by decide +kernel)) (hb := Or.inl (by decide +kernel)) (hl := Or.inl (by decide +kernel))
  refine Keeps.trans ?_ (State.closeWindows_keeps ..) (by decide +kernel)
  exact Keeps.refl _ _

theorem State.stopNow_keeps (s : State) : Keeps ⟨[.out, .codec, .ray, .seq, .panel, .bridge, .loop,
    .lanes, .health], [(0x280207, 0x280207), (0x283002, 0x283005), (0x283101, 0x283101), (0x500102,
    0x500106), (0x58000A, 0x58000A), (0x580101, 0x580101), (0x680101, 0x680101), (0x680103, 0x680103),
    (0x681003, 0x681003), (0x681006, 0x681007), (0x68100A, 0x68100A), (0x701001, 0x701001)]⟩ s
    (State.stopNow s) := by
  unfold State.stopNow
  refine Keeps.ite (fun _ => ?_) (fun _ => ?_)
  · refine Keeps.trans ?_ (State.calFinish_keeps ..) (by decide +kernel)
    refine Keeps.trans ?_ (State.droneWheelEnds_keeps ..) (by decide +kernel)
    refine Keeps.trans ?_ (State.endDrone_keeps ..) (by decide +kernel)
    exact Keeps.refl _ _
  · refine Keeps.ite (fun _ => ?_) (fun _ => ?_)
    · refine Keeps.trans ?_ (State.calFinish_keeps ..) (by decide +kernel)
      refine Keeps.trans ?_ (State.endTimeline_keeps ..) (by decide +kernel)
      exact Keeps.refl _ _
    · exact Keeps.refl _ _

theorem State.deviceHold_keeps (s : State) : Keeps ⟨[.out, .codec, .ray, .seq, .panel, .bridge, .loop,
    .lanes, .memory, .clock, .mgmt, .health, .logs], [(0x101107, 0x101107), (0x103003, 0x103003),
    (0x180002, 0x180002), (0x180101, 0x180103), (0x180106, 0x180106), (0x189001, 0x189001), (0x201001,
    0x201001), (0x201004, 0x201004), (0x280207, 0x280207), (0x283002, 0x283005), (0x283101, 0x283101),
    (0x500102, 0x500106), (0x58000A, 0x58000A), (0x580101, 0x580101), (0x580105, 0x580105), (0x580201,
    0x580201), (0x580203, 0x580204), (0x680101, 0x680101), (0x680103, 0x680106), (0x68010C, 0x68010D),
    (0x680206, 0x680206), (0x681003, 0x681003), (0x681006, 0x681007), (0x68100A, 0x68100A), (0x70020C,
    0x70020C), (0x700309, 0x700309), (0x701001, 0x701001), (0x900005, 0x900005)]⟩ s (State.deviceHold s)
    := by
  unfold State.deviceHold
  refine Keeps.ite (fun _ => ?_) (fun _ => ?_)
  · exact Keeps.refl _ _
  · dsimp only
    refine Keeps.trans ?_ (State.put_keeps1 ..) (by decide +kernel)
    refine Keeps.trans ?_ (State.log_keeps ..) (by decide +kernel)
    refine Keeps.trans ?_ (State.inc_keeps1 ..) (by decide +kernel)
    refine Keeps.trans ?_ (State.closeIslands_keeps ..) (by decide +kernel)
    refine Keeps.trans ?_ (State.selfRefresh_keeps ..) (by decide +kernel)
    refine Keeps.optT ?_ (fun _ => ?_)
    · refine Keeps.trans ?_ (State.park_keeps ..) (by decide +kernel)
      refine Keeps.trans ?_ (State.stopNow_keeps ..) (by decide +kernel)
      refine Keeps.trans ?_ (State.blankQuiet_keeps ..) (by decide +kernel)
      exact Keeps.refl _ _
    · refine Keeps.trans ?_ (State.coast_keeps ..) (by decide +kernel)
      exact Keeps.refl _ _

theorem State.powerFail_keeps (s : State) : Keeps ⟨[.out, .codec, .ray, .seq, .panel, .bridge, .loop,
    .lanes, .memory, .clock, .mgmt, .health, .logs], [(0x101107, 0x101107), (0x103003, 0x103003),
    (0x180002, 0x180002), (0x180101, 0x180103), (0x189001, 0x189001), (0x201001, 0x201001), (0x201004,
    0x201004), (0x280207, 0x280207), (0x283002, 0x283005), (0x283101, 0x283101), (0x500102, 0x500106),
    (0x58000A, 0x58000A), (0x580101, 0x580101), (0x580104, 0x580105), (0x580201, 0x580201), (0x580203,
    0x580204), (0x600103, 0x600103), (0x600201, 0x600201), (0x680101, 0x680101), (0x680103, 0x680106),
    (0x68010C, 0x68010D), (0x680206, 0x680206), (0x681003, 0x681003), (0x681006, 0x681007), (0x68100A,
    0x68100A), (0x70020C, 0x70020C), (0x700309, 0x700309), (0x701001, 0x701001), (0x701003, 0x701003),
    (0x701006, 0x701006), (0x900005, 0x900005)]⟩ s (State.powerFail s) := by
  unfold State.powerFail
  refine Keeps.ite (fun _ => ?_) (fun _ => ?_)
  · exact Keeps.refl _ _
  · dsimp only
    refine Keeps.trans ?_ (State.put_keeps1 ..) (by decide +kernel)
    refine Keeps.trans ?_ (State.closeIslands_keeps ..) (by decide +kernel)
    refine Keeps.trans ?_ (State.selfRefresh_keeps ..) (by decide +kernel)
    refine Keeps.trans ?_ (State.startCommit_keeps ..) (by decide +kernel)
    refine Keeps.optE ?_ (fun _ => ?_)
    · refine Keeps.trans ?_ (State.park_keeps ..) (by decide +kernel)
      refine Keeps.trans ?_ (State.stopNow_keeps ..) (by decide +kernel)
      refine Keeps.trans ?_ (State.faultedCoast_keeps ..) (by decide +kernel)
      refine Keeps.trans ?_ (State.blankAll_keeps ..) (by decide +kernel)
      refine Keeps.upd ?_ (hck := Or.inl (by decide +kernel))
      exact Keeps.refl _ _
    · refine Keeps.trans ?_ (State.railsDown_keeps ..) (by decide +kernel)
      exact Keeps.refl _ _

theorem State.putStep_keeps (s : State) (k : Nat) : Keeps ⟨[], [(0x189002, 0x189002)]⟩ s (State.putStep
    s k) := by
  unfold State.putStep
  refine Keeps.trans ?_ (State.putBit_keeps1 ..) (by decide +kernel)
  exact Keeps.refl _ _

end Sys2Proof.Machine
end

