-- ==== Sys2Proof/Laws/Keeps/Memory.lean ====
section
/-! SUPPORT. What each operation of Machine/Memory.lean may change. -/

set_option Elab.async false

namespace Sys2Proof.Machine

theorem State.wearRecord_keeps (s : State) (key : Nat) (copy : Nat) : Keeps ⟨[.memory], [(0x900005,
    0x900005)]⟩ s (State.wearRecord s key copy) := by
  unfold State.wearRecord
  refine Keeps.foldl ?_ (fun _ _ => ?_)
  · exact Keeps.refl _ _
  · refine Keeps.trans ?_ (State.wearBlock_keeps ..) (by decide +kernel)
    exact Keeps.refl _ _

theorem State.ageRecord_keeps (s : State) (key : Nat) : Keeps ⟨[.memory], []⟩ s (State.ageRecord s key)
    := by
  unfold State.ageRecord
  dsimp only
  refine Keeps.upd ?_ (hme := Or.inl (by decide +kernel))
  exact Keeps.refl _ _

theorem State.writeRecord_keeps (s : State) (key : Nat) : Keeps ⟨[.memory], [(0x900005, 0x900005)]⟩ s
    (State.writeRecord s key) := by
  unfold State.writeRecord
  dsimp only
  refine Keeps.trans ?_ (State.wearRecord_keeps ..) (by decide +kernel)
  refine Keeps.upd ?_ (hme := Or.inl (by decide +kernel))
  exact Keeps.refl _ _

theorem State.applyEntry_keeps (s : State) (j : JEntry) : Keeps ⟨[.memory], []⟩ s (State.applyEntry s j)
    := by
  unfold State.applyEntry
  dsimp only
  refine Keeps.upd ?_ (hme := Or.inl (by decide +kernel))
  exact Keeps.refl _ _

theorem State.putHalfEntries_keeps (s : State) (h : Nat) (l : List JEntry) : Keeps ⟨[.memory], []⟩ s
    (State.putHalfEntries s h l) := by
  unfold State.putHalfEntries
  refine Keeps.ite (fun _ => ?_) (fun _ => ?_)
  · refine Keeps.upd ?_ (hme := Or.inl (by decide +kernel))
    exact Keeps.refl _ _
  · refine Keeps.upd ?_ (hme := Or.inl (by decide +kernel))
    exact Keeps.refl _ _

theorem State.committed_keeps (s : State) (l : List JEntry) : Keeps ⟨[.memory], [(0x900005, 0x900005),
    (0x900007, 0x900007)]⟩ s (State.committed s l) := by
  unfold State.committed
  dsimp only
  refine Keeps.trans ?_ (State.inc_keeps1 ..) (by decide +kernel)
  refine Keeps.upd ?_ (hme := Or.inl (by decide +kernel))
  refine Keeps.foldl ?_ (fun _ _ => ?_)
  · refine Keeps.trans ?_ (State.putHalfEntries_keeps ..) (by decide +kernel)
    exact Keeps.refl _ _
  · refine Keeps.trans ?_ (State.wearBlock_keeps ..) (by decide +kernel)
    exact Keeps.refl _ _

theorem State.commitDone_keeps (s : State) : Keeps ⟨[.memory], [(0x900005, 0x900005), (0x900007,
    0x900007)]⟩ s (State.commitDone s) := by
  unfold State.commitDone
  split
  · exact Keeps.refl _ _
  · refine Keeps.ite (fun _ => ?_) (fun _ => ?_)
    · exact Keeps.refl _ _
    · dsimp only
      refine Keeps.optE ?_ (fun _ => ?_)
      · refine Keeps.trans ?_ (State.committed_keeps ..) (by decide +kernel)
        exact Keeps.refl _ _
      · refine Keeps.trans ?_ (State.startCommit_keeps ..) (by decide +kernel)
        exact Keeps.refl _ _

theorem State.halfEmptied_keeps (s : State) : Keeps ⟨[.memory], [(0x900005, 0x900005)]⟩ s
    (State.halfEmptied s) := by
  unfold State.halfEmptied
  refine Keeps.ite (fun _ => ?_) (fun _ => ?_)
  · dsimp only
    refine Keeps.optE ?_ (fun _ => ?_)
    · refine Keeps.upd ?_ (hme := Or.inl (by decide +kernel))
      refine Keeps.trans ?_ (State.putHalfEntries_keeps ..) (by decide +kernel)
      refine Keeps.foldl ?_ (fun _ _ => ?_)
      · refine Keeps.foldl ?_ (fun _ _ => ?_)
        · refine Keeps.foldl ?_ (fun _ _ => ?_)
          · exact Keeps.refl _ _
          · refine Keeps.trans ?_ (State.ageRecord_keeps ..) (by decide +kernel)
            exact Keeps.refl _ _
        · refine Keeps.trans ?_ (State.applyEntry_keeps ..) (by decide +kernel)
          exact Keeps.refl _ _
      · refine Keeps.trans ?_ (State.writeRecord_keeps ..) (by decide +kernel)
        exact Keeps.refl _ _
    · refine Keeps.trans ?_ (State.startCommit_keeps ..) (by decide +kernel)
      exact Keeps.refl _ _
  · exact Keeps.refl _ _

theorem State.putChanState_keeps (s : State) (c : Nat) (st : Nat) : Keeps ⟨[], [(0x780102, 0x780102),
    (0x782001, 0x782001)]⟩ s (State.putChanState s c st) := by
  unfold State.putChanState
  refine Keeps.trans ?_ (State.putBit_keeps1 ..) (by decide +kernel)
  refine Keeps.trans ?_ (State.pute_keeps1 ..) (by decide +kernel)
  exact Keeps.refl _ _

theorem State.leaveRefresh_keeps (s : State) (c : Nat) : Keeps ⟨[.out, .memory], []⟩ s
    (State.leaveRefresh s c) := by
  unfold State.leaveRefresh
  dsimp only
  refine Keeps.ite (fun _ => ?_) (fun _ => ?_)
  · refine Keeps.trans ?_ (State.emit_keeps ..) (by decide +kernel)
    refine Keeps.trans ?_ (State.putChan_keeps ..) (by decide +kernel)
    exact Keeps.refl _ _
  · refine Keeps.trans ?_ (State.putChan_keeps ..) (by decide +kernel)
    exact Keeps.refl _ _

theorem State.dropRequest_keeps (s : State) (id : Nat) : Keeps ⟨[.memory], []⟩ s (State.dropRequest s
    id) := by
  unfold State.dropRequest
  refine Keeps.upd ?_ (hme := Or.inl (by decide +kernel))
  exact Keeps.refl _ _

theorem State.spoil_keeps (s : State) (a : Nat) (n : Nat) : Keeps ⟨[.memory], []⟩ s (State.spoil s a n)
    := by
  unfold State.spoil
  split
  refine Keeps.upd ?_ (hme := Or.inl (by decide +kernel)) (dram := fun h => Memory.wf_mwrites h _ _)
  refine Keeps.snd (by assumption) ?_
  refine Keeps.trans ?_ (State.freeBytes_keeps ..) (by decide +kernel)
  exact Keeps.refl _ _

theorem State.portEffect_keeps (s : State) (port : Nat) (a : Nat) (n : Nat) : Keeps ⟨[.ingress, .codec,
    .comp, .panel, .memory, .mgmt], [(0x30020C, 0x30020C), (0x350001, 0x350001), (0x400101, 0x400101)]⟩
    s (State.portEffect s port a n) := by
  unfold State.portEffect
  split
  · refine Keeps.upd ?_ (hmg := Or.inl (by decide +kernel))
    exact Keeps.refl _ _
  · split
    · refine Keeps.trans ?_ (State.passSpilled_keeps ..) (by decide +kernel)
      exact Keeps.refl _ _
    · refine Keeps.trans ?_ (State.pute_keeps1 ..) (by decide +kernel)
      exact Keeps.refl _ _
    · exact Keeps.refl _ _
  · refine Keeps.ite (fun _ => ?_) (fun _ => ?_)
    · refine Keeps.upd ?_ (hcm := Or.inl (by decide +kernel))
      exact Keeps.refl _ _
    · exact Keeps.refl _ _
  · split
    · refine Keeps.trans ?_ (State.passSpilled_keeps ..) (by decide +kernel)
      exact Keeps.refl _ _
    · refine Keeps.upd ?_ (hi := Or.inl (by decide +kernel))
      exact Keeps.refl _ _
  · refine Keeps.upd ?_ (hcm := Or.inl (by decide +kernel))
    exact Keeps.refl _ _
  · dsimp only
    refine Keeps.upd ?_ (hp := Or.inl (by decide +kernel))
    exact Keeps.refl _ _
  · dsimp only
    refine Keeps.upd ?_ (hme := Or.inl (by decide +kernel)) (dram := fun h => Memory.wf_filter h _)
    exact Keeps.refl _ _
  · exact Keeps.refl _ _

theorem State.beginRetrain_keeps (s : State) (c : Nat) : Keeps ⟨[.out, .memory, .logs], [(0x180002,
    0x180002), (0x180101, 0x180103), (0x780102, 0x780102), (0x78020C, 0x78020C), (0x782001, 0x782001),
    (0x900005, 0x900005)]⟩ s (State.beginRetrain s c) := by
  unfold State.beginRetrain
  refine Keeps.ite (fun _ => ?_) (fun _ => ?_)
  · dsimp only
    refine Keeps.trans ?_ (State.recover_keeps ..) (by decide +kernel)
    refine Keeps.trans ?_ (State.log_keeps ..) (by decide +kernel)
    refine Keeps.trans ?_ (State.inc_keeps1 ..) (by decide +kernel)
    refine Keeps.trans ?_ (State.putChanState_keeps ..) (by decide +kernel)
    refine Keeps.trans ?_ (State.enterRefresh_keeps ..) (by decide +kernel)
    exact Keeps.refl _ _
  · exact Keeps.refl _ _

theorem State.beginMigration_keeps (s : State) (c : Nat) : Keeps ⟨[.memory], [(0x780102, 0x780102),
    (0x78020E, 0x78020E), (0x782001, 0x782001), (0x782006, 0x782006)]⟩ s (State.beginMigration s c) :=
    by
  unfold State.beginMigration
  dsimp only
  refine Keeps.trans ?_ (State.inc_keeps1 ..) (by decide +kernel)
  refine Keeps.trans ?_ (State.pute_keeps1 ..) (by decide +kernel)
  refine Keeps.upd ?_ (hme := Or.inl (by decide +kernel))
  refine Keeps.trans ?_ (State.putChanState_keeps ..) (by decide +kernel)
  refine Keeps.trans ?_ (State.putChan_keeps ..) (by decide +kernel)
  exact Keeps.refl _ _

theorem State.failRequests_keeps (s : State) (c : Nat) : Keeps ⟨[.ingress, .codec, .comp, .panel,
    .memory, .mgmt, .logs], [(0x180002, 0x180002), (0x180101, 0x180103), (0x30020C, 0x30020C),
    (0x350001, 0x350001), (0x400101, 0x400101), (0x780207, 0x780207), (0x780301, 0x780303), (0x900005,
    0x900005)]⟩ s (State.failRequests s c) := by
  unfold State.failRequests
  refine Keeps.foldl ?_ (fun _ _ => ?_)
  · exact Keeps.refl _ _
  · dsimp only
    refine Keeps.trans ?_ (State.portEffect_keeps ..) (by decide +kernel)
    refine Keeps.trans ?_ (State.errorResponse_keeps ..) (by decide +kernel)
    refine Keeps.trans ?_ (State.dropRequest_keeps ..) (by decide +kernel)
    refine Keeps.ite (fun _ => ?_) (fun _ => ?_)
    · refine Keeps.trans ?_ (State.spoil_keeps ..) (by decide +kernel)
      exact Keeps.refl _ _
    · exact Keeps.refl _ _

theorem State.chanFails_keeps (s : State) (c : Nat) : Keeps ⟨[.out, .ingress, .codec, .comp, .ray, .seq,
    .panel, .bridge, .loop, .lanes, .memory, .clock, .mgmt, .health, .logs], [(0x101107, 0x101107),
    (0x103003, 0x103003), (0x180002, 0x180002), (0x180101, 0x180104), (0x180106, 0x180106), (0x189001,
    0x189001), (0x201001, 0x201001), (0x201004, 0x201004), (0x280207, 0x280207), (0x283002, 0x283005),
    (0x283101, 0x283101), (0x30020C, 0x30020C), (0x350001, 0x350001), (0x400101, 0x400101), (0x500102,
    0x500106), (0x58000A, 0x58000A), (0x580101, 0x580101), (0x580105, 0x580105), (0x580201, 0x580201),
    (0x580203, 0x580204), (0x680101, 0x680101), (0x680103, 0x680106), (0x68010C, 0x68010D), (0x680206,
    0x680206), (0x681003, 0x681003), (0x681006, 0x681007), (0x68100A, 0x68100A), (0x70020C, 0x70020C),
    (0x700309, 0x700309), (0x701001, 0x701001), (0x780102, 0x780102), (0x780207, 0x780207), (0x78020E,
    0x78020E), (0x780301, 0x780303), (0x782001, 0x782001), (0x782006, 0x782006), (0x900005, 0x900005)]⟩
    s (State.chanFails s c) := by
  unfold State.chanFails
  refine Keeps.ite (fun _ => ?_) (fun _ => ?_)
  · refine Keeps.trans ?_ (State.beginMigration_keeps ..) (by decide +kernel)
    refine Keeps.trans ?_ (State.recovered_keeps ..) (by decide +kernel)
    refine Keeps.trans ?_ (State.log_keeps ..) (by decide +kernel)
    refine Keeps.trans ?_ (State.escalate_keeps ..) (by decide +kernel)
    exact Keeps.refl _ _
  · dsimp only
    refine Keeps.optT ?_ (fun _ => ?_)
    · refine Keeps.trans ?_ (State.failRequests_keeps ..) (by decide +kernel)
      refine Keeps.optE ?_ (fun _ => ?_)
      · refine Keeps.trans ?_ (State.recovered_keeps ..) (by decide +kernel)
        refine Keeps.trans ?_ (State.log_keeps ..) (by decide +kernel)
        refine Keeps.trans ?_ (State.putChanState_keeps ..) (by decide +kernel)
        refine Keeps.trans ?_ (State.escalate_keeps ..) (by decide +kernel)
        exact Keeps.refl _ _
      · refine Keeps.upd ?_ (hme := Or.inl (by decide +kernel))
        exact Keeps.refl _ _
    · refine Keeps.trans ?_ (State.deviceHold_keeps ..) (by decide +kernel)
      refine Keeps.trans ?_ (State.escalate_keeps ..) (by decide +kernel)
      exact Keeps.refl _ _

theorem State.requestFails_keeps (s : State) (r : DramReq) (kind : Nat) : Keeps ⟨[.out, .ingress,
    .codec, .comp, .panel, .memory, .mgmt, .logs], [(0x180002, 0x180002), (0x180101, 0x180103),
    (0x30020C, 0x30020C), (0x350001, 0x350001), (0x400101, 0x400101), (0x780102, 0x780102), (0x780207,
    0x780207), (0x78020C, 0x78020C), (0x780301, 0x780303), (0x782001, 0x782001), (0x900005, 0x900005)]⟩
    s (State.requestFails s r kind) := by
  unfold State.requestFails
  dsimp only
  refine Keeps.optE ?_ (fun _ => ?_)
  · refine Keeps.trans ?_ (State.putChan_keeps ..) (by decide +kernel)
    refine Keeps.trans ?_ (State.portEffect_keeps ..) (by decide +kernel)
    refine Keeps.trans ?_ (State.errorResponse_keeps ..) (by decide +kernel)
    refine Keeps.trans ?_ (State.dropRequest_keeps ..) (by decide +kernel)
    refine Keeps.ite (fun _ => ?_) (fun _ => ?_)
    · refine Keeps.trans ?_ (State.spoil_keeps ..) (by decide +kernel)
      exact Keeps.refl _ _
    · exact Keeps.refl _ _
  · refine Keeps.trans ?_ (State.beginRetrain_keeps ..) (by decide +kernel)
    exact Keeps.refl _ _

theorem State.countActs_keeps (s : State) (c : Nat) (bank : Nat) (n : Nat) : Keeps ⟨[.out, .memory],
    [(0x78020A, 0x78020A)]⟩ s (State.countActs s c bank n) := by
  unfold State.countActs
  refine Keeps.ite (fun _ => ?_) (fun _ => ?_)
  · dsimp only
    refine Keeps.ite (fun _ => ?_) (fun _ => ?_)
    · refine Keeps.trans ?_ (State.inc_keeps1 ..) (by decide +kernel)
      refine Keeps.trans ?_ (State.emit_keeps ..) (by decide +kernel)
      refine Keeps.trans ?_ (State.putChan_keeps ..) (by decide +kernel)
      exact Keeps.refl _ _
    · refine Keeps.trans ?_ (State.putChan_keeps ..) (by decide +kernel)
      exact Keeps.refl _ _
  · exact Keeps.refl _ _

theorem State.activate_keeps (s : State) (c : Nat) (bank : Nat) (row : Nat) : Keeps ⟨[.out, .memory],
    [(0x780209, 0x78020A)]⟩ s (State.activate s c bank row) := by
  unfold State.activate
  split
  dsimp only
  refine Keeps.optE ?_ (fun _ => ?_)
  · refine Keeps.trans ?_ (State.countActs_keeps ..) (by decide +kernel)
    refine Keeps.trans ?_ (State.putChan_keeps ..) (by decide +kernel)
    refine Keeps.snd (by assumption) ?_
    refine Keeps.trans ?_ (State.draw_keeps ..) (by decide +kernel)
    exact Keeps.refl _ _
  · refine Keeps.trans ?_ (State.countActs_keeps ..) (by decide +kernel)
    refine Keeps.trans ?_ (State.add_keeps1 ..) (by decide +kernel)
    refine Keeps.trans ?_ (State.emits_keeps ..) (by decide +kernel)
    exact Keeps.refl _ _

theorem State.judgeLatency_keeps (s : State) (r : DramReq) : Keeps ⟨[], [(0x78020B, 0x78020B),
    (0x783002, 0x783003)]⟩ s (State.judgeLatency s r) := by
  unfold State.judgeLatency
  dsimp only
  refine Keeps.optE ?_ (fun _ => ?_)
  · refine Keeps.ite (fun _ => ?_) (fun _ => ?_)
    · refine Keeps.trans ?_ (State.pute_keeps1 ..) (by decide +kernel)
      exact Keeps.refl _ _
    · exact Keeps.refl _ _
  · refine Keeps.trans ?_ (State.inc_keeps1 ..) (by decide +kernel)
    refine Keeps.trans ?_ (State.ince_keeps1 ..) (by decide +kernel)
    exact Keeps.refl _ _

theorem State.sendRequest_keeps (s : State) (r : DramReq) : Keeps ⟨[.out, .memory], [(0x780209,
    0x78020A)]⟩ s (State.sendRequest s r) := by
  unfold State.sendRequest
  dsimp only
  refine Keeps.trans ?_ (State.emits_keeps ..) (by decide +kernel)
  refine Keeps.ite (fun _ => ?_) (fun _ => ?_)
  · exact Keeps.refl _ _
  · refine Keeps.trans ?_ (State.activate_keeps ..) (by decide +kernel)
    exact Keeps.refl _ _

theorem State.issue_keeps (s : State) (r : DramReq) : Keeps ⟨[.out, .memory], [(0x780209, 0x78020B),
    (0x783002, 0x783003)]⟩ s (State.issue s r) := by
  unfold State.issue
  dsimp only
  refine Keeps.optE ?_ (fun _ => ?_)
  · refine Keeps.upd ?_ (hme := Or.inl (by decide +kernel))
    refine Keeps.trans ?_ (State.sendRequest_keeps ..) (by decide +kernel)
    exact Keeps.refl _ _
  · refine Keeps.trans ?_ (State.judgeLatency_keeps ..) (by decide +kernel)
    exact Keeps.refl _ _

theorem State.issueFrom_keeps (c fuel : Nat) (s : State) : Keeps ⟨[.out, .memory], [(0x780209, 0x78020B), (0x783002, 0x783003)]⟩ s (State.issueFrom c fuel s) := by
  induction fuel generalizing s with
  | zero => exact Keeps.refl _ _
  | succ fuel ih =>
    unfold State.issueFrom
    split
    · exact Keeps.refl _ _
    · exact ((State.issue_keeps ..).mono (by decide +kernel)).trans (ih _) (Foot.sub_refl _)

theorem State.chanGoesOn_keeps (s : State) (c : Nat) : Keeps ⟨[.out, .memory], [(0x780209, 0x78020B),
    (0x783002, 0x783003)]⟩ s (State.chanGoesOn s c) := by
  unfold State.chanGoesOn
  refine Keeps.ite (fun _ => ?_) (fun _ => ?_)
  · refine Keeps.ite (fun _ => ?_) (fun _ => ?_)
    · exact Keeps.refl _ _
    · refine Keeps.trans ?_ (State.enterRefresh_keeps ..) (by decide +kernel)
      exact Keeps.refl _ _
  · refine Keeps.ite (fun _ => ?_) (fun _ => ?_)
    · refine Keeps.trans ?_ (State.issueFrom_keeps ..) (by decide +kernel)
      exact Keeps.refl _ _
    · exact Keeps.refl _ _

theorem State.doDramRequest_keeps (s : State) (port : Nat) (a : Nat) (n : Nat) (data : Option Bytes) :
    Keeps ⟨[.out, .ingress, .codec, .comp, .panel, .memory, .mgmt, .logs], [(0x180002, 0x180002),
    (0x180101, 0x180103), (0x30020C, 0x30020C), (0x350001, 0x350001), (0x400101, 0x400101), (0x780207,
    0x78020B), (0x780301, 0x780303), (0x783002, 0x783003), (0x900005, 0x900005)]⟩ s (State.doDramRequest
    s port a n data) := by
  unfold State.doDramRequest
  dsimp only
  refine Keeps.ite (fun _ => ?_) (fun _ => ?_)
  · refine Keeps.trans ?_ (State.portEffect_keeps ..) (by decide +kernel)
    refine Keeps.trans ?_ (State.errorResponse_keeps ..) (by decide +kernel)
    refine Keeps.ite (fun _ => ?_) (fun _ => ?_)
    · refine Keeps.trans ?_ (State.spoil_keeps ..) (by decide +kernel)
      exact Keeps.refl _ _
    · exact Keeps.refl _ _
  · refine Keeps.trans ?_ (State.chanGoesOn_keeps ..) (by decide +kernel)
    refine Keeps.optE ?_ (fun _ => ?_)
    · refine Keeps.upd ?_ (hme := Or.inl (by decide +kernel)) (dram := fun h => by dsimp only; split <;> first | exact h | exact Memory.wf_mwrites h _ _)
      exact Keeps.refl _ _
    · refine Keeps.trans ?_ (State.inc_keeps1 ..) (by decide +kernel)
      exact Keeps.refl _ _

theorem State.crcFails_keeps (s : State) (r : DramReq) (counter : Nat) (kind : Nat) : Keeps ⟨[.out,
    .ingress, .codec, .comp, .panel, .memory, .mgmt, .logs], [(0x180002, 0x180002), (0x180101,
    0x180104), (0x30020C, 0x30020C), (0x350001, 0x350001), (0x400101, 0x400101), (0x780102, 0x780102),
    (0x780200, 0x7802FF), (0x780301, 0x780303), (0x782001, 0x782001), (0x783002, 0x783003), (0x900005,
    0x900005)]⟩ s (State.crcFails s r counter kind) := by
  unfold State.crcFails
  dsimp only
  refine Keeps.trans ?_ (State.chanGoesOn_keeps ..) (by decide +kernel)
  refine Keeps.optE ?_ (fun _ => ?_)
  · refine Keeps.ite (fun _ => ?_) (fun _ => ?_)
    · refine Keeps.trans ?_ (State.sendRequest_keeps ..) (by decide +kernel)
      refine Keeps.trans ?_ (State.inc_keeps1 ..) (by decide +kernel)
      refine Keeps.upd ?_ (hme := Or.inl (by decide +kernel))
      refine Keeps.trans ?_ (State.inc_keepsO ..) (by decide +kernel)
      exact Keeps.refl _ _
    · refine Keeps.trans ?_ (State.requestFails_keeps ..) (by decide +kernel)
      refine Keeps.trans ?_ (State.inc_keepsO ..) (by decide +kernel)
      exact Keeps.refl _ _
  · refine Keeps.trans ?_ (State.beginRetrain_keeps ..) (by decide +kernel)
    refine Keeps.trans ?_ (State.escalate_keeps ..) (by decide +kernel)
    exact Keeps.refl _ _

theorem State.doRequestDone_keeps (s : State) (id : Nat) (crcOk : Bool) : Keeps ⟨[.out, .ingress,
    .codec, .comp, .panel, .memory, .mgmt, .logs], [(0x180002, 0x180002), (0x180101, 0x180104),
    (0x30020C, 0x30020C), (0x350001, 0x350001), (0x400101, 0x400101), (0x780102, 0x780102), (0x780200,
    0x7802FF), (0x780301, 0x780303), (0x782001, 0x782001), (0x783002, 0x783003), (0x900005, 0x900005)]⟩
    s (State.doRequestDone s id crcOk) := by
  unfold State.doRequestDone
  split
  · exact Keeps.refl _ _
  · refine Keeps.ite (fun _ => ?_) (fun _ => ?_)
    · refine Keeps.trans ?_ (State.crcFails_keeps ..) (by decide +kernel)
      exact Keeps.refl _ _
    · refine Keeps.trans ?_ (State.chanGoesOn_keeps ..) (by decide +kernel)
      refine Keeps.trans ?_ (State.dropRequest_keeps ..) (by decide +kernel)
      refine Keeps.ite (fun _ => ?_) (fun _ => ?_)
      · refine Keeps.trans ?_ (State.judgeLatency_keeps ..) (by decide +kernel)
        exact Keeps.refl _ _
      · exact Keeps.refl _ _

theorem State.doAlert_keeps (s : State) (id : Nat) : Keeps ⟨[.out, .ingress, .codec, .comp, .panel,
    .memory, .mgmt, .logs], [(0x180002, 0x180002), (0x180101, 0x180104), (0x30020C, 0x30020C),
    (0x350001, 0x350001), (0x400101, 0x400101), (0x780102, 0x780102), (0x780200, 0x7802FF), (0x780301,
    0x780303), (0x782001, 0x782001), (0x783002, 0x783003), (0x900005, 0x900005)]⟩ s (State.doAlert s id)
    := by
  unfold State.doAlert
  split
  · exact Keeps.refl _ _
  · refine Keeps.ite (fun _ => ?_) (fun _ => ?_)
    · refine Keeps.trans ?_ (State.crcFails_keeps ..) (by decide +kernel)
      exact Keeps.refl _ _
    · exact Keeps.refl _ _

theorem State.judgeDdr_keeps (s : State) : Keeps ⟨[], [(0x189002, 0x189002)]⟩ s (State.judgeDdr s) := by
  unfold State.judgeDdr
  refine Keeps.ite (fun _ => ?_) (fun _ => ?_)
  · refine Keeps.trans ?_ (State.putStep_keeps ..) (by decide +kernel)
    exact Keeps.refl _ _
  · exact Keeps.refl _ _

theorem State.beginTraining_keeps (s : State) (c : Nat) : Keeps ⟨[], [(0x780102, 0x780102), (0x782001,
    0x782001)]⟩ s (State.beginTraining s c) := by
  unfold State.beginTraining
  refine Keeps.trans ?_ (State.putChanState_keeps ..) (by decide +kernel)
  exact Keeps.refl _ _

theorem State.beginReturn_keeps (s : State) (c : Nat) : Keeps ⟨[.memory], [(0x780102, 0x780102),
    (0x782001, 0x782001), (0x782006, 0x782006)]⟩ s (State.beginReturn s c) := by
  unfold State.beginReturn
  dsimp only
  split
  · refine Keeps.trans ?_ (State.putChanState_keeps ..) (by decide +kernel)
    refine Keeps.trans ?_ (State.putChan_keeps ..) (by decide +kernel)
    exact Keeps.refl _ _
  · refine Keeps.trans ?_ (State.pute_keeps1 ..) (by decide +kernel)
    refine Keeps.upd ?_ (hme := Or.inl (by decide +kernel))
    refine Keeps.trans ?_ (State.putChanState_keeps ..) (by decide +kernel)
    refine Keeps.trans ?_ (State.putChan_keeps ..) (by decide +kernel)
    exact Keeps.refl _ _

theorem State.trainedChan_keeps (s : State) (c : Nat) (x : DdrTraining) : Keeps ⟨[.out, .memory],
    [(0x782003, 0x782005)]⟩ s (State.trainedChan s c x) := by
  unfold State.trainedChan
  dsimp only
  refine Keeps.trans ?_ (State.pute_keeps1 ..) (by decide +kernel)
  refine Keeps.trans ?_ (State.pute_keeps1 ..) (by decide +kernel)
  refine Keeps.trans ?_ (State.pute_keeps1 ..) (by decide +kernel)
  refine Keeps.trans ?_ (State.putChan_keeps ..) (by decide +kernel)
  refine Keeps.trans ?_ (State.leaveRefresh_keeps ..) (by decide +kernel)
  exact Keeps.refl _ _

theorem State.doTrainingDone_keeps (s : State) (c : Nat) (x : DdrTraining) : Keeps ⟨[.out, .ingress,
    .codec, .comp, .panel, .memory, .mgmt, .logs], [(0x180002, 0x180002), (0x180101, 0x180103),
    (0x189002, 0x189002), (0x30020C, 0x30020C), (0x350001, 0x350001), (0x400101, 0x400101), (0x780102,
    0x780102), (0x780105, 0x780105), (0x780207, 0x780207), (0x780209, 0x78020B), (0x78020D, 0x78020D),
    (0x780301, 0x780303), (0x782001, 0x782001), (0x782003, 0x782006), (0x783002, 0x783003), (0x900005,
    0x900005)]⟩ s (State.doTrainingDone s c x) := by
  unfold State.doTrainingDone
  refine Keeps.ite (fun _ => ?_) (fun _ => ?_)
  · exact Keeps.refl _ _
  · dsimp only
    refine Keeps.ite (fun _ => ?_) (fun _ => ?_)
    · refine Keeps.ite (fun _ => ?_) (fun _ => ?_)
      · refine Keeps.trans ?_ (State.chanGoesOn_keeps ..) (by decide +kernel)
        refine Keeps.trans ?_ (State.beginReturn_keeps ..) (by decide +kernel)
        refine Keeps.optT ?_ (fun _ => ?_)
        · refine Keeps.trans ?_ (State.trainedChan_keeps ..) (by decide +kernel)
          refine Keeps.trans ?_ (State.put_keeps1 ..) (by decide +kernel)
          exact Keeps.refl _ _
        · refine Keeps.trans ?_ (State.writeTuneRecord_keeps ..) (by decide +kernel)
          exact Keeps.refl _ _
      · refine Keeps.ite (fun _ => ?_) (fun _ => ?_)
        · refine Keeps.trans ?_ (State.putChanState_keeps ..) (by decide +kernel)
          refine Keeps.trans ?_ (State.putChan_keeps ..) (by decide +kernel)
          refine Keeps.optT ?_ (fun _ => ?_)
          · refine Keeps.trans ?_ (State.trainedChan_keeps ..) (by decide +kernel)
            refine Keeps.trans ?_ (State.put_keeps1 ..) (by decide +kernel)
            exact Keeps.refl _ _
          · refine Keeps.trans ?_ (State.writeTuneRecord_keeps ..) (by decide +kernel)
            exact Keeps.refl _ _
        · refine Keeps.trans ?_ (State.chanGoesOn_keeps ..) (by decide +kernel)
          refine Keeps.trans ?_ (State.judgeDdr_keeps ..) (by decide +kernel)
          refine Keeps.trans ?_ (State.putChanState_keeps ..) (by decide +kernel)
          refine Keeps.optT ?_ (fun _ => ?_)
          · refine Keeps.trans ?_ (State.trainedChan_keeps ..) (by decide +kernel)
            refine Keeps.trans ?_ (State.put_keeps1 ..) (by decide +kernel)
            exact Keeps.refl _ _
          · refine Keeps.trans ?_ (State.writeTuneRecord_keeps ..) (by decide +kernel)
            exact Keeps.refl _ _
    · refine Keeps.trans ?_ (State.failRequests_keeps ..) (by decide +kernel)
      refine Keeps.optE ?_ (fun _ => ?_)
      · refine Keeps.trans ?_ (State.putChan_keeps ..) (by decide +kernel)
        refine Keeps.trans ?_ (State.log_keeps ..) (by decide +kernel)
        refine Keeps.trans ?_ (State.putChanState_keeps ..) (by decide +kernel)
        refine Keeps.trans ?_ (State.inc_keeps1 ..) (by decide +kernel)
        refine Keeps.trans ?_ (State.put_keeps1 ..) (by decide +kernel)
        exact Keeps.refl _ _
      · refine Keeps.upd ?_ (hme := Or.inl (by decide +kernel))
        exact Keeps.refl _ _

theorem State.doRetrainDone_keeps (s : State) (c : Nat) (ok : Bool) : Keeps ⟨[.out, .ingress, .codec,
    .comp, .ray, .seq, .panel, .bridge, .loop, .lanes, .memory, .clock, .mgmt, .health, .logs],
    [(0x101107, 0x101107), (0x103003, 0x103003), (0x180002, 0x180002), (0x180101, 0x180104), (0x180106,
    0x180106), (0x189001, 0x189001), (0x201001, 0x201001), (0x201004, 0x201004), (0x280207, 0x280207),
    (0x283002, 0x283005), (0x283101, 0x283101), (0x30020C, 0x30020C), (0x350001, 0x350001), (0x400101,
    0x400101), (0x500102, 0x500106), (0x58000A, 0x58000A), (0x580101, 0x580101), (0x580105, 0x580105),
    (0x580201, 0x580201), (0x580203, 0x580204), (0x680101, 0x680101), (0x680103, 0x680106), (0x68010C,
    0x68010D), (0x680206, 0x680206), (0x681003, 0x681003), (0x681006, 0x681007), (0x68100A, 0x68100A),
    (0x70020C, 0x70020C), (0x700309, 0x700309), (0x701001, 0x701001), (0x780102, 0x780102), (0x780105,
    0x780105), (0x780207, 0x780207), (0x780209, 0x78020B), (0x78020D, 0x78020E), (0x780301, 0x780303),
    (0x782001, 0x782001), (0x782006, 0x782006), (0x783002, 0x783003), (0x900005, 0x900005)]⟩ s
    (State.doRetrainDone s c ok) := by
  unfold State.doRetrainDone
  dsimp only
  refine Keeps.ite (fun _ => ?_) (fun _ => ?_)
  · exact Keeps.refl _ _
  · refine Keeps.ite (fun _ => ?_) (fun _ => ?_)
    · refine Keeps.trans ?_ (State.chanGoesOn_keeps ..) (by decide +kernel)
      refine Keeps.trans ?_ (State.recovered_keeps ..) (by decide +kernel)
      refine Keeps.trans ?_ (State.putChanState_keeps ..) (by decide +kernel)
      refine Keeps.trans ?_ (State.leaveRefresh_keeps ..) (by decide +kernel)
      refine Keeps.trans ?_ (State.putChan_keeps ..) (by decide +kernel)
      refine Keeps.trans ?_ (State.put_keeps1 ..) (by decide +kernel)
      exact Keeps.refl _ _
    · refine Keeps.trans ?_ (State.chanFails_keeps ..) (by decide +kernel)
      refine Keeps.trans ?_ (State.inc_keeps1 ..) (by decide +kernel)
      refine Keeps.trans ?_ (State.put_keeps1 ..) (by decide +kernel)
      exact Keeps.refl _ _

theorem State.ownChannel_keeps (s : State) (c : Nat) (v : Nat) : Keeps ⟨[.memory], [(0x780102,
    0x780102), (0x78020E, 0x78020E), (0x782001, 0x782001), (0x782006, 0x782006)]⟩ s (State.ownChannel s
    c v) := by
  unfold State.ownChannel
  split
  · refine Keeps.trans ?_ (State.beginMigration_keeps ..) (by decide +kernel)
    exact Keeps.refl _ _
  · refine Keeps.trans ?_ (State.beginTraining_keeps ..) (by decide +kernel)
    refine Keeps.trans ?_ (State.putChan_keeps ..) (by decide +kernel)
    exact Keeps.refl _ _
  · refine Keeps.ite (fun _ => ?_) (fun _ => ?_)
    · refine Keeps.trans ?_ (State.beginReturn_keeps ..) (by decide +kernel)
      exact Keeps.refl _ _
    · refine Keeps.trans ?_ (State.beginTraining_keeps ..) (by decide +kernel)
      refine Keeps.trans ?_ (State.putChan_keeps ..) (by decide +kernel)
      exact Keeps.refl _ _
  · exact Keeps.refl _ _

theorem State.doChunkMove_keeps (s : State) : Keeps ⟨[.memory], [(0x780102, 0x780102), (0x782001,
    0x782001), (0x782006, 0x782006)]⟩ s (State.doChunkMove s) := by
  unfold State.doChunkMove
  split
  · exact Keeps.refl _ _
  · exact Keeps.refl _ _
  · dsimp only
    refine Keeps.ite (fun _ => ?_) (fun _ => ?_)
    · refine Keeps.optT ?_ (fun _ => ?_)
      · refine Keeps.trans ?_ (State.adde_keeps1 ..) (by decide +kernel)
        refine Keeps.upd ?_ (hme := Or.inl (by decide +kernel))
        exact Keeps.refl _ _
      · refine Keeps.trans ?_ (State.putChanState_keeps ..) (by decide +kernel)
        refine Keeps.upd ?_ (hme := Or.inl (by decide +kernel))
        exact Keeps.refl _ _
    · refine Keeps.optT ?_ (fun _ => ?_)
      · refine Keeps.trans ?_ (State.adde_keeps1 ..) (by decide +kernel)
        refine Keeps.upd ?_ (hme := Or.inl (by decide +kernel))
        exact Keeps.refl _ _
      · refine Keeps.trans ?_ (State.putChanState_keeps ..) (by decide +kernel)
        refine Keeps.upd ?_ (hme := Or.inl (by decide +kernel))
        exact Keeps.refl _ _

theorem State.doRefresh_keeps (s : State) (c : Nat) : Keeps ⟨[.out, .memory], [(0x780209, 0x78020B),
    (0x783002, 0x783003)]⟩ s (State.doRefresh s c) := by
  unfold State.doRefresh
  refine Keeps.ite (fun _ => ?_) (fun _ => ?_)
  · dsimp only
    refine Keeps.trans ?_ (State.chanGoesOn_keeps ..) (by decide +kernel)
    refine Keeps.trans ?_ (State.emit_keeps ..) (by decide +kernel)
    refine Keeps.trans ?_ (State.putChan_keeps ..) (by decide +kernel)
    exact Keeps.refl _ _
  · exact Keeps.refl _ _

end Sys2Proof.Machine
end

