-- ==== Sys2Proof/Laws/Keeps/Clocks.lean ====
section
/-! SUPPORT. What each operation of Machine/Clocks.lean may change. -/

set_option Elab.async false

namespace Sys2Proof.Machine

theorem State.startRamp_keeps (s : State) (i : Nat) : Keeps ⟨[.clock], []⟩ s (State.startRamp s i) := by
  unfold State.startRamp
  refine Keeps.ite (fun _ => ?_) (fun _ => ?_)
  · refine Keeps.upd ?_ (hck := Or.inl (by decide +kernel))
    exact Keeps.refl _ _
  · exact Keeps.refl _ _

theorem State.openIsland_keeps (s : State) (i : Nat) : Keeps ⟨[.clock], [(0x201001, 0x201001),
    (0x201004, 0x201004)]⟩ s (State.openIsland s i) := by
  unfold State.openIsland
  refine Keeps.trans ?_ (State.startRamp_keeps ..) (by decide +kernel)
  refine Keeps.trans ?_ (State.pute_keeps1 ..) (by decide +kernel)
  refine Keeps.trans ?_ (State.pute_keeps1 ..) (by decide +kernel)
  exact Keeps.refl _ _

theorem State.openNext_keeps (s : State) : Keeps ⟨[.clock], [(0x201001, 0x201001), (0x201004,
    0x201004)]⟩ s (State.openNext s) := by
  unfold State.openNext
  split
  · refine Keeps.upd ?_ (hck := Or.inl (by decide +kernel))
    exact Keeps.refl _ _
  · dsimp only
    refine Keeps.ite (fun _ => ?_) (fun _ => ?_)
    · refine Keeps.trans ?_ (State.startRamp_keeps ..) (by decide +kernel)
      refine Keeps.upd ?_ (hck := Or.inl (by decide +kernel))
      exact Keeps.refl _ _
    · refine Keeps.trans ?_ (State.openIsland_keeps ..) (by decide +kernel)
      refine Keeps.upd ?_ (hck := Or.inl (by decide +kernel))
      exact Keeps.refl _ _

theorem State.openOn_keeps (s : State) : Keeps ⟨[.clock], [(0x201001, 0x201001), (0x201004, 0x201004)]⟩
    s (State.openOn s) := by
  unfold State.openOn
  refine Keeps.ite (fun _ => ?_) (fun _ => ?_)
  · exact Keeps.refl _ _
  · refine Keeps.trans ?_ (State.openNext_keeps ..) (by decide +kernel)
    exact Keeps.refl _ _

theorem State.openPast_keeps (s : State) (i : Nat) : Keeps ⟨[.clock], [(0x201001, 0x201001), (0x201004,
    0x201004)]⟩ s (State.openPast s i) := by
  unfold State.openPast
  refine Keeps.ite (fun _ => ?_) (fun _ => ?_)
  · refine Keeps.trans ?_ (State.openNext_keeps ..) (by decide +kernel)
    exact Keeps.refl _ _
  · exact Keeps.refl _ _

theorem State.openIslands_keeps (s : State) : Keeps ⟨[.clock], [(0x201001, 0x201001), (0x201004,
    0x201004)]⟩ s (State.openIslands s) := by
  unfold State.openIslands
  refine Keeps.ite (fun _ => ?_) (fun _ => ?_)
  · exact Keeps.refl _ _
  · dsimp only
    refine Keeps.trans ?_ (State.openOn_keeps ..) (by decide +kernel)
    refine Keeps.upd ?_ (hck := Or.inl (by decide +kernel))
    exact Keeps.refl _ _

theorem State.gateRamped_keeps (s : State) : Keeps ⟨[.bridge, .clock], [(0x202001, 0x202002), (0x602004,
    0x602004)]⟩ s (State.gateRamped s) := by
  unfold State.gateRamped
  split
  · refine Keeps.ite (fun _ => ?_) (fun _ => ?_)
    · dsimp only
      refine Keeps.optE ?_ (fun _ => ?_)
      · refine Keeps.foldl ?_ (fun _ _ => ?_)
        · refine Keeps.upd ?_ (hck := Or.inl (by decide +kernel))
          exact Keeps.refl _ _
        · refine Keeps.trans ?_ (State.pute_keeps1 ..) (by decide +kernel)
          refine Keeps.trans ?_ (State.pute_keeps1 ..) (by decide +kernel)
          exact Keeps.refl _ _
      · refine Keeps.trans ?_ (State.trainCourses_keeps ..) (by decide +kernel)
        exact Keeps.refl _ _
    · exact Keeps.refl _ _
  · exact Keeps.refl _ _

theorem State.rampStep_keeps (s : State) (i : Nat) : Keeps ⟨[.bridge, .clock], [(0x201001, 0x201001),
    (0x201004, 0x201004), (0x202001, 0x202002), (0x602004, 0x602004)]⟩ s (State.rampStep s i) := by
  unfold State.rampStep
  refine Keeps.ite (fun _ => ?_) (fun _ => ?_)
  · dsimp only
    refine Keeps.optE ?_ (fun _ => ?_)
    · refine Keeps.trans ?_ (State.pute_keeps1 ..) (by decide +kernel)
      exact Keeps.refl _ _
    · refine Keeps.trans ?_ (State.openPast_keeps ..) (by decide +kernel)
      refine Keeps.trans ?_ (State.gateRamped_keeps ..) (by decide +kernel)
      refine Keeps.upd ?_ (hck := Or.inl (by decide +kernel))
      exact Keeps.refl _ _
  · exact Keeps.refl _ _

theorem State.ownRatio_keeps (s : State) (i : Nat) (v : Nat) : Keeps ⟨[.memory, .clock], [(0x189104,
    0x189108), (0x201002, 0x201002)]⟩ s (State.ownRatio s i v) := by
  unfold State.ownRatio
  dsimp only
  refine Keeps.optE ?_ (fun _ => ?_)
  · refine Keeps.trans ?_ (State.startRamp_keeps ..) (by decide +kernel)
    refine Keeps.trans ?_ (State.putKept_keeps1 ..) (by decide +kernel)
    exact Keeps.refl _ _
  · refine Keeps.trans ?_ (State.recomputeReduction_keeps ..) (by decide +kernel)
    exact Keeps.refl _ _

theorem State.thermalRatio_keeps (s : State) (r : Nat) : Keeps ⟨[.clock], [(0x201003, 0x201003)]⟩ s
    (State.thermalRatio s r) := by
  unfold State.thermalRatio
  refine Keeps.trans ?_ (State.startRamp_keeps ..) (by decide +kernel)
  refine Keeps.trans ?_ (State.pute_keeps1 ..) (by decide +kernel)
  exact Keeps.refl _ _

theorem State.forcedSwitch_keeps (s : State) (i : Nat) : Keeps ⟨[.memory, .clock, .logs], [(0x180002,
    0x180002), (0x180101, 0x180103), (0x200102, 0x200102), (0x200203, 0x200203), (0x201001, 0x201001),
    (0x201004, 0x201005), (0x900005, 0x900005)]⟩ s (State.forcedSwitch s i) := by
  unfold State.forcedSwitch
  split
  · exact Keeps.refl _ _
  · dsimp only
    refine Keeps.ite (fun _ => ?_) (fun _ => ?_)
    · refine Keeps.trans ?_ (State.startRamp_keeps ..) (by decide +kernel)
      refine Keeps.trans ?_ (State.pute_keeps1 ..) (by decide +kernel)
      refine Keeps.trans ?_ (State.pute_keeps1 ..) (by decide +kernel)
      refine Keeps.trans ?_ (State.log_keeps ..) (by decide +kernel)
      refine Keeps.trans ?_ (State.inc_keeps1 ..) (by decide +kernel)
      refine Keeps.trans ?_ (State.ince_keeps1 ..) (by decide +kernel)
      refine Keeps.trans ?_ (State.putBit_keeps1 ..) (by decide +kernel)
      exact Keeps.refl _ _
    · refine Keeps.upd ?_ (hck := Or.inl (by decide +kernel))
      refine Keeps.trans ?_ (State.pute_keeps1 ..) (by decide +kernel)
      refine Keeps.trans ?_ (State.pute_keeps1 ..) (by decide +kernel)
      refine Keeps.trans ?_ (State.log_keeps ..) (by decide +kernel)
      refine Keeps.trans ?_ (State.inc_keeps1 ..) (by decide +kernel)
      refine Keeps.trans ?_ (State.ince_keeps1 ..) (by decide +kernel)
      refine Keeps.trans ?_ (State.putBit_keeps1 ..) (by decide +kernel)
      exact Keeps.refl _ _

theorem State.gateRefused_keeps (s : State) (code : Nat) : Keeps ⟨[], [(0x200102, 0x200102), (0x200204,
    0x200205)]⟩ s (State.gateRefused s code) := by
  unfold State.gateRefused
  refine Keeps.ite (fun _ => ?_) (fun _ => ?_)
  · refine Keeps.trans ?_ (State.inc_keeps1 ..) (by decide +kernel)
    refine Keeps.trans ?_ (State.putBit_keeps1 ..) (by decide +kernel)
    exact Keeps.refl _ _
  · refine Keeps.trans ?_ (State.inc_keeps1 ..) (by decide +kernel)
    exact Keeps.refl _ _

theorem State.putGate_keeps (s : State) (unit : Bool) (e : Nat) (st : Nat) : Keeps ⟨[], [(0x000000,
    0xFFFFFF)]⟩ s (State.putGate s unit e st) := by
  unfold State.putGate
  dsimp only
  refine Keeps.ite (fun _ => ?_) (fun _ => ?_)
  · refine Keeps.trans ?_ (State.pute_keepsA ..) (by decide +kernel)
    refine Keeps.trans ?_ (State.pute_keepsA ..) (by decide +kernel)
    exact Keeps.refl _ _
  · refine Keeps.optE ?_ (fun _ => ?_)
    · refine Keeps.trans ?_ (State.pute_keepsA ..) (by decide +kernel)
      exact Keeps.refl _ _
    · refine Keeps.trans ?_ (State.pute_keepsA ..) (by decide +kernel)
      exact Keeps.refl _ _

theorem State.ownGate_keeps (s : State) (unit : Bool) (e : Nat) (v : Nat) : Keeps ⟨[.bridge, .clock],
    [(0x000000, 0xFFFFFF)]⟩ s (State.ownGate s unit e v) := by
  unfold State.ownGate
  dsimp only
  refine Keeps.ite (fun _ => ?_) (fun _ => ?_)
  · refine Keeps.trans ?_ (State.gateRefused_keeps ..) (by decide +kernel)
    exact Keeps.refl _ _
  · refine Keeps.ite (fun _ => ?_) (fun _ => ?_)
    · refine Keeps.ite (fun _ => ?_) (fun _ => ?_)
      · exact Keeps.refl _ _
      · refine Keeps.ite (fun _ => ?_) (fun _ => ?_)
        · refine Keeps.trans ?_ (State.putGate_keeps ..) (by decide +kernel)
          refine Keeps.upd ?_ (hck := Or.inl (by decide +kernel))
          exact Keeps.refl _ _
        · refine Keeps.foldl ?_ (fun _ _ => ?_)
          · refine Keeps.upd ?_ (hck := Or.inl (by decide +kernel))
            exact Keeps.refl _ _
          · refine Keeps.trans ?_ (State.putGate_keeps ..) (by decide +kernel)
            exact Keeps.refl _ _
    · refine Keeps.ite (fun _ => ?_) (fun _ => ?_)
      · exact Keeps.refl _ _
      · refine Keeps.ite (fun _ => ?_) (fun _ => ?_)
        · refine Keeps.trans ?_ (State.putGate_keeps ..) (by decide +kernel)
          exact Keeps.refl _ _
        · refine Keeps.trans ?_ (State.gateRamped_keeps ..) (by decide +kernel)
          refine Keeps.foldl ?_ (fun _ _ => ?_)
          · refine Keeps.foldl ?_ (fun _ _ => ?_)
            · refine Keeps.upd ?_ (hck := Or.inl (by decide +kernel))
              exact Keeps.refl _ _
            · refine Keeps.trans ?_ (State.putGate_keeps ..) (by decide +kernel)
              exact Keeps.refl _ _
          · refine Keeps.trans ?_ (State.openIsland_keeps ..) (by decide +kernel)
            exact Keeps.refl _ _

theorem State.gateIdle_keeps (s : State) : Keeps ⟨[.clock], [(0x000000, 0xFFFFFF)]⟩ s (State.gateIdle s)
    := by
  unfold State.gateIdle
  split
  · refine Keeps.ite (fun _ => ?_) (fun _ => ?_)
    · dsimp only
      refine Keeps.ite (fun _ => ?_) (fun _ => ?_)
      · refine Keeps.trans ?_ (State.putGate_keeps ..) (by decide +kernel)
        refine Keeps.upd ?_ (hck := Or.inl (by decide +kernel))
        exact Keeps.refl _ _
      · refine Keeps.foldl ?_ (fun _ _ => ?_)
        · refine Keeps.foldl ?_ (fun _ _ => ?_)
          · refine Keeps.upd ?_ (hck := Or.inl (by decide +kernel))
            exact Keeps.refl _ _
          · refine Keeps.trans ?_ (State.putGate_keeps ..) (by decide +kernel)
            exact Keeps.refl _ _
        · refine Keeps.trans ?_ (State.stopIsland_keeps ..) (by decide +kernel)
          exact Keeps.refl _ _
    · exact Keeps.refl _ _
  · exact Keeps.refl _ _

theorem State.gateAbandon_keeps (s : State) : Keeps ⟨[.clock, .mgmt], [(0x000000, 0xFFFFFF)]⟩ s
    (State.gateAbandon s) := by
  unfold State.gateAbandon
  split
  · dsimp only
    refine Keeps.ite (fun _ => ?_) (fun _ => ?_)
    · refine Keeps.ite (fun _ => ?_) (fun _ => ?_)
      · refine Keeps.trans ?_ (State.putGate_keeps ..) (by decide +kernel)
        refine Keeps.trans ?_ (State.gateRefused_keeps ..) (by decide +kernel)
        refine Keeps.upd ?_ (hck := Or.inl (by decide +kernel)) (hmg := Or.inl (by decide +kernel))
        exact Keeps.refl _ _
      · refine Keeps.foldl ?_ (fun _ _ => ?_)
        · refine Keeps.trans ?_ (State.gateRefused_keeps ..) (by decide +kernel)
          refine Keeps.upd ?_ (hck := Or.inl (by decide +kernel)) (hmg := Or.inl (by decide +kernel))
          exact Keeps.refl _ _
        · refine Keeps.trans ?_ (State.putGate_keeps ..) (by decide +kernel)
          exact Keeps.refl _ _
    · refine Keeps.foldl ?_ (fun _ _ => ?_)
      · refine Keeps.foldl ?_ (fun _ _ => ?_)
        · refine Keeps.trans ?_ (State.gateRefused_keeps ..) (by decide +kernel)
          refine Keeps.upd ?_ (hck := Or.inl (by decide +kernel)) (hmg := Or.inl (by decide +kernel))
          exact Keeps.refl _ _
        · refine Keeps.trans ?_ (State.putGate_keeps ..) (by decide +kernel)
          exact Keeps.refl _ _
      · refine Keeps.trans ?_ (State.stopIsland_keeps ..) (by decide +kernel)
        exact Keeps.refl _ _
  · exact Keeps.refl _ _

theorem State.coreOnHclk_keeps (s : State) : Keeps ⟨[.clock], [(0x201001, 0x201001), (0x201004,
    0x201004)]⟩ s (State.coreOnHclk s) := by
  unfold State.coreOnHclk
  refine Keeps.foldl ?_ (fun _ _ => ?_)
  · exact Keeps.refl _ _
  · dsimp only
    refine Keeps.upd ?_ (hck := Or.inl (by decide +kernel))
    refine Keeps.trans ?_ (State.pute_keeps1 ..) (by decide +kernel)
    refine Keeps.trans ?_ (State.pute_keeps1 ..) (by decide +kernel)
    exact Keeps.refl _ _

theorem State.coreOnDividers_keeps (s : State) : Keeps ⟨[.clock], [(0x201001, 0x201001), (0x201004,
    0x201004)]⟩ s (State.coreOnDividers s) := by
  unfold State.coreOnDividers
  dsimp only
  refine Keeps.trans ?_ (State.openNext_keeps ..) (by decide +kernel)
  refine Keeps.upd ?_ (hck := Or.inl (by decide +kernel))
  refine Keeps.foldl ?_ (fun _ _ => ?_)
  · exact Keeps.refl _ _
  · refine Keeps.trans ?_ (State.pute_keeps1 ..) (by decide +kernel)
    refine Keeps.trans ?_ (State.pute_keeps1 ..) (by decide +kernel)
    exact Keeps.refl _ _

theorem State.acquire_keeps (s : State) (st : Nat) : Keeps ⟨[.clock], [(0x200101, 0x200101)]⟩ s
    (State.acquire s st) := by
  unfold State.acquire
  refine Keeps.trans ?_ (State.put_keeps1 ..) (by decide +kernel)
  refine Keeps.upd ?_ (hck := Or.inl (by decide +kernel))
  exact Keeps.refl _ _

theorem State.pllLock_keeps (s : State) : Keeps ⟨[.clock], [(0x189002, 0x189002), (0x200101, 0x200101),
    (0x200103, 0x200103), (0x201001, 0x201001), (0x201004, 0x201004)]⟩ s (State.pllLock s) := by
  unfold State.pllLock
  dsimp only
  refine Keeps.ite (fun _ => ?_) (fun _ => ?_)
  · refine Keeps.ite (fun _ => ?_) (fun _ => ?_)
    · refine Keeps.optE ?_ (fun _ => ?_)
      · refine Keeps.trans ?_ (State.coreOnDividers_keeps ..) (by decide +kernel)
        refine Keeps.trans ?_ (State.put_keeps1 ..) (by decide +kernel)
        refine Keeps.trans ?_ (State.put_keeps1 ..) (by decide +kernel)
        refine Keeps.upd ?_ (hck := Or.inl (by decide +kernel))
        exact Keeps.refl _ _
      · refine Keeps.trans ?_ (State.openIslands_keeps ..) (by decide +kernel)
        exact Keeps.refl _ _
    · refine Keeps.trans ?_ (State.putStep_keeps ..) (by decide +kernel)
      refine Keeps.trans ?_ (State.coreOnDividers_keeps ..) (by decide +kernel)
      refine Keeps.trans ?_ (State.put_keeps1 ..) (by decide +kernel)
      refine Keeps.trans ?_ (State.put_keeps1 ..) (by decide +kernel)
      refine Keeps.upd ?_ (hck := Or.inl (by decide +kernel))
      exact Keeps.refl _ _
  · exact Keeps.refl _ _

theorem State.lockTimeout_keeps (s : State) : Keeps ⟨[.out, .clock], [(0x200102, 0x200102), (0x200207,
    0x200207)]⟩ s (State.lockTimeout s) := by
  unfold State.lockTimeout
  refine Keeps.ite (fun _ => ?_) (fun _ => ?_)
  · dsimp only
    refine Keeps.trans ?_ (State.updateHirq_keeps ..) (by decide +kernel)
    refine Keeps.upd ?_ (hck := Or.inl (by decide +kernel))
    refine Keeps.trans ?_ (State.putBit_keeps1 ..) (by decide +kernel)
    refine Keeps.trans ?_ (State.inc_keeps1 ..) (by decide +kernel)
    exact Keeps.refl _ _
  · exact Keeps.refl _ _

theorem State.holdPhaseEnd_keeps (s : State) : Keeps ⟨[.clock], [(0x200101, 0x200101), (0x201001,
    0x201001), (0x201004, 0x201004)]⟩ s (State.holdPhaseEnd s) := by
  unfold State.holdPhaseEnd
  refine Keeps.ite (fun _ => ?_) (fun _ => ?_)
  · dsimp only
    refine Keeps.ite (fun _ => ?_) (fun _ => ?_)
    · refine Keeps.trans ?_ (State.acquire_keeps ..) (by decide +kernel)
      refine Keeps.trans ?_ (State.coreOnHclk_keeps ..) (by decide +kernel)
      refine Keeps.upd ?_ (hck := Or.inl (by decide +kernel))
      refine Keeps.foldl ?_ (fun _ _ => ?_)
      · exact Keeps.refl _ _
      · refine Keeps.trans ?_ (State.stopIsland_keeps ..) (by decide +kernel)
        exact Keeps.refl _ _
    · refine Keeps.trans ?_ (State.put_keeps1 ..) (by decide +kernel)
      refine Keeps.upd ?_ (hck := Or.inl (by decide +kernel))
      refine Keeps.foldl ?_ (fun _ _ => ?_)
      · exact Keeps.refl _ _
      · refine Keeps.trans ?_ (State.stopIsland_keeps ..) (by decide +kernel)
        exact Keeps.refl _ _
  · exact Keeps.refl _ _

theorem State.hclkQualified_keeps (s : State) : Keeps ⟨[.clock], [(0x200101, 0x200101), (0x201001,
    0x201001), (0x201004, 0x201004)]⟩ s (State.hclkQualified s) := by
  unfold State.hclkQualified
  dsimp only
  split
  · refine Keeps.upd ?_ (hck := Or.inl (by decide +kernel))
    exact Keeps.refl _ _
  · refine Keeps.trans ?_ (State.acquire_keeps ..) (by decide +kernel)
    refine Keeps.trans ?_ (State.coreOnHclk_keeps ..) (by decide +kernel)
    refine Keeps.upd ?_ (hck := Or.inl (by decide +kernel))
    exact Keeps.refl _ _
  · refine Keeps.optE ?_ (fun _ => ?_)
    · refine Keeps.upd ?_ (hck := Or.inl (by decide +kernel))
      exact Keeps.refl _ _
    · refine Keeps.trans ?_ (State.acquire_keeps ..) (by decide +kernel)
      refine Keeps.trans ?_ (State.coreOnHclk_keeps ..) (by decide +kernel)
      exact Keeps.refl _ _
  · refine Keeps.upd ?_ (hck := Or.inl (by decide +kernel))
    exact Keeps.refl _ _

theorem State.railFault_keeps (s : State) (r : Nat) (v : Nat) : Keeps ⟨[.memory, .clock, .logs],
    [(0x180002, 0x180002), (0x180101, 0x180103), (0x200206, 0x200206), (0x204001, 0x204002), (0x900005,
    0x900005)]⟩ s (State.railFault s r v) := by
  unfold State.railFault
  dsimp only
  refine Keeps.optE ?_ (fun _ => ?_)
  · refine Keeps.trans ?_ (State.pute_keeps1 ..) (by decide +kernel)
    exact Keeps.refl _ _
  · refine Keeps.trans ?_ (State.log_keeps ..) (by decide +kernel)
    refine Keeps.trans ?_ (State.inc_keeps1 ..) (by decide +kernel)
    refine Keeps.trans ?_ (State.ince_keeps1 ..) (by decide +kernel)
    refine Keeps.upd ?_ (hck := Or.inl (by decide +kernel))
    exact Keeps.refl _ _

end Sys2Proof.Machine
end

