-- ==== Sys2Proof/Laws/Keeps/Health.lean ====
section
/-! SUPPORT. What each operation of Machine/Health.lean may change. -/

set_option Elab.async false

namespace Sys2Proof.Machine

theorem State.putS16_keeps (s : State) (o : Nat) (e : Nat) (m : Nat) (x : Int) : Keeps ⟨[], [(0x000000,
    0xFFFFFF)]⟩ s (State.putS16 s o e m x) := by
  unfold State.putS16
  refine Keeps.ite (fun _ => ?_) (fun _ => ?_)
  · refine Keeps.trans ?_ (State.pute_keepsA ..) (by decide +kernel)
    exact Keeps.refl _ _
  · split
    refine Keeps.trans ?_ (State.pute_keepsA ..) (by decide +kernel)
    refine Keeps.snd (by assumption) ?_
    refine Keeps.trans ?_ (State.draw_keeps ..) (by decide +kernel)
    exact Keeps.refl _ _

theorem State.throttleStep_keeps (s : State) : Keeps ⟨[.clock], [(0x201003, 0x201003), (0x280104,
    0x280104)]⟩ s (State.throttleStep s) := by
  unfold State.throttleStep
  refine Keeps.ite (fun _ => ?_) (fun _ => ?_)
  · exact Keeps.refl _ _
  · dsimp only
    refine Keeps.trans ?_ (State.thermalRatio_keeps ..) (by decide +kernel)
    refine Keeps.trans ?_ (State.put_keeps1 ..) (by decide +kernel)
    exact Keeps.refl _ _

theorem State.riseAlarm_keeps (s : State) (rise : Int) : Keeps ⟨[.out, .clock, .mgmt], [(0x101107,
    0x101107), (0x103003, 0x103003), (0x280105, 0x280105), (0x280201, 0x280201)]⟩ s (State.riseAlarm s
    rise) := by
  unfold State.riseAlarm
  refine Keeps.ite (fun _ => ?_) (fun _ => ?_)
  · refine Keeps.trans ?_ (State.event_keeps ..) (by decide +kernel)
    refine Keeps.trans ?_ (State.inc_keeps1 ..) (by decide +kernel)
    refine Keeps.trans ?_ (State.putBit_keeps1 ..) (by decide +kernel)
    exact Keeps.refl _ _
  · refine Keeps.ite (fun _ => ?_) (fun _ => ?_)
    · refine Keeps.trans ?_ (State.putBit_keeps1 ..) (by decide +kernel)
      exact Keeps.refl _ _
    · exact Keeps.refl _ _

theorem State.fastThrottle_keeps (s : State) (rise : Int) : Keeps ⟨[.out, .memory, .clock, .mgmt,
    .logs], [(0x101107, 0x101107), (0x103003, 0x103003), (0x180002, 0x180002), (0x180101, 0x180103),
    (0x201003, 0x201003), (0x280104, 0x280105), (0x280202, 0x280202), (0x900005, 0x900005)]⟩ s
    (State.fastThrottle s rise) := by
  unfold State.fastThrottle
  refine Keeps.ite (fun _ => ?_) (fun _ => ?_)
  · dsimp only
    refine Keeps.trans ?_ (State.thermalRatio_keeps ..) (by decide +kernel)
    refine Keeps.trans ?_ (State.put_keeps1 ..) (by decide +kernel)
    refine Keeps.ite (fun _ => ?_) (fun _ => ?_)
    · exact Keeps.refl _ _
    · refine Keeps.trans ?_ (State.log_keeps ..) (by decide +kernel)
      refine Keeps.trans ?_ (State.event_keeps ..) (by decide +kernel)
      refine Keeps.trans ?_ (State.inc_keeps1 ..) (by decide +kernel)
      refine Keeps.trans ?_ (State.putBit_keeps1 ..) (by decide +kernel)
      exact Keeps.refl _ _
  · exact Keeps.refl _ _

theorem State.fastRelease_keeps (s : State) : Keeps ⟨[], [(0x280105, 0x280105)]⟩ s (State.fastRelease s)
    := by
  unfold State.fastRelease
  refine Keeps.ite (fun _ => ?_) (fun _ => ?_)
  · refine Keeps.trans ?_ (State.putBit_keeps1 ..) (by decide +kernel)
    exact Keeps.refl _ _
  · exact Keeps.refl _ _

theorem State.showRecord_keeps (s : State) : Keeps ⟨[], [(0x280401, 0x280405)]⟩ s (State.showRecord s)
    := by
  unfold State.showRecord
  split
  · exact Keeps.refl _ _
  · refine Keeps.trans ?_ (State.put_keeps1 ..) (by decide +kernel)
    refine Keeps.trans ?_ (State.put_keeps1 ..) (by decide +kernel)
    refine Keeps.trans ?_ (State.put_keeps1 ..) (by decide +kernel)
    refine Keeps.trans ?_ (State.put_keeps1 ..) (by decide +kernel)
    refine Keeps.trans ?_ (State.put_keeps1 ..) (by decide +kernel)
    exact Keeps.refl _ _

theorem State.thermalShutdown_keeps (s : State) : Keeps ⟨[.out, .codec, .ray, .seq, .panel, .bridge,
    .loop, .lanes, .memory, .clock, .mgmt, .health, .logs], [(0x101107, 0x101107), (0x103003, 0x103003),
    (0x180002, 0x180002), (0x180101, 0x180103), (0x189001, 0x189001), (0x201001, 0x201001), (0x201004,
    0x201004), (0x280105, 0x280105), (0x280204, 0x280204), (0x280207, 0x280207), (0x280401, 0x280405),
    (0x283002, 0x283005), (0x283101, 0x283101), (0x500102, 0x500106), (0x58000A, 0x58000A), (0x580101,
    0x580101), (0x580104, 0x580105), (0x580201, 0x580201), (0x580203, 0x580204), (0x600103, 0x600103),
    (0x600201, 0x600201), (0x680101, 0x680101), (0x680103, 0x680106), (0x68010C, 0x68010D), (0x680206,
    0x680206), (0x681003, 0x681003), (0x681006, 0x681007), (0x68100A, 0x68100A), (0x70020C, 0x70020C),
    (0x700309, 0x700309), (0x701001, 0x701001), (0x701003, 0x701003), (0x701006, 0x701006), (0x900005,
    0x900005)]⟩ s (State.thermalShutdown s) := by
  unfold State.thermalShutdown
  dsimp only
  refine Keeps.trans ?_ (State.powerFail_keeps ..) (by decide +kernel)
  refine Keeps.trans ?_ (State.log_keeps ..) (by decide +kernel)
  refine Keeps.trans ?_ (State.event_keeps ..) (by decide +kernel)
  refine Keeps.trans ?_ (State.putBit_keeps1 ..) (by decide +kernel)
  refine Keeps.trans ?_ (State.putBit_keeps1 ..) (by decide +kernel)
  refine Keeps.trans ?_ (State.showRecord_keeps ..) (by decide +kernel)
  refine Keeps.trans ?_ (State.wearBlock_keeps ..) (by decide +kernel)
  refine Keeps.upd ?_ (hhh := Or.inl (by decide +kernel))
  refine Keeps.trans ?_ (State.inc_keeps1 ..) (by decide +kernel)
  exact Keeps.refl _ _

theorem State.measureHeat_keeps (s : State) (powers : List Nat) (diodes : List Int) : Keeps ⟨[.health],
    [(0x000000, 0xFFFFFF)]⟩ s (State.measureHeat s powers diodes) := by
  unfold State.measureHeat
  dsimp only
  refine Keeps.ite (fun _ => ?_) (fun _ => ?_)
  · refine Keeps.trans ?_ (State.put_keeps1 ..) (by decide +kernel)
    refine Keeps.trans ?_ (State.putS16_keeps ..) (by decide +kernel)
    refine Keeps.trans ?_ (State.put_keeps1 ..) (by decide +kernel)
    refine Keeps.trans ?_ (State.putS16_keeps ..) (by decide +kernel)
    refine Keeps.foldl ?_ (fun _ _ => ?_)
    · refine Keeps.foldl ?_ (fun _ _ => ?_)
      · refine Keeps.foldl ?_ (fun _ _ => ?_)
        · refine Keeps.upd ?_ (hhh := Or.inl (by decide +kernel))
          exact Keeps.refl _ _
        · refine Keeps.trans ?_ (State.putS16_keeps ..) (by decide +kernel)
          exact Keeps.refl _ _
      · refine Keeps.trans ?_ (State.pute_keeps1 ..) (by decide +kernel)
        exact Keeps.refl _ _
    · refine Keeps.trans ?_ (State.pute_keeps1 ..) (by decide +kernel)
      exact Keeps.refl _ _
  · refine Keeps.trans ?_ (State.put_keeps1 ..) (by decide +kernel)
    refine Keeps.trans ?_ (State.draw_keeps ..) (by decide +kernel)
    refine Keeps.trans ?_ (State.putS16_keeps ..) (by decide +kernel)
    refine Keeps.trans ?_ (State.put_keeps1 ..) (by decide +kernel)
    refine Keeps.trans ?_ (State.putS16_keeps ..) (by decide +kernel)
    refine Keeps.foldl ?_ (fun _ _ => ?_)
    · refine Keeps.foldl ?_ (fun _ _ => ?_)
      · refine Keeps.foldl ?_ (fun _ _ => ?_)
        · refine Keeps.upd ?_ (hhh := Or.inl (by decide +kernel))
          exact Keeps.refl _ _
        · refine Keeps.trans ?_ (State.putS16_keeps ..) (by decide +kernel)
          exact Keeps.refl _ _
      · refine Keeps.trans ?_ (State.pute_keeps1 ..) (by decide +kernel)
        exact Keeps.refl _ _
    · refine Keeps.trans ?_ (State.pute_keeps1 ..) (by decide +kernel)
      exact Keeps.refl _ _

theorem State.judgeInterval_keeps (s : State) : Keeps ⟨[], [(0x280105, 0x280105)]⟩ s
    (State.judgeInterval s) := by
  unfold State.judgeInterval
  dsimp only
  refine Keeps.ite (fun _ => ?_) (fun _ => ?_)
  · refine Keeps.trans ?_ (State.putBit_keeps1 ..) (by decide +kernel)
    exact Keeps.refl _ _
  · refine Keeps.ite (fun _ => ?_) (fun _ => ?_)
    · refine Keeps.trans ?_ (State.putBit_keeps1 ..) (by decide +kernel)
      exact Keeps.refl _ _
    · exact Keeps.refl _ _

theorem State.evaluate_keeps (s : State) (powers : List Nat) (diodes : List Int) : Keeps ⟨[.out, .codec,
    .ray, .seq, .panel, .bridge, .loop, .lanes, .memory, .clock, .mgmt, .health, .logs], [(0x000000,
    0xFFFFFF)]⟩ s (State.evaluate s powers diodes) := by
  unfold State.evaluate
  dsimp only
  refine Keeps.ite (fun _ => ?_) (fun _ => ?_)
  · refine Keeps.optT ?_ (fun _ => ?_)
    · refine Keeps.upd ?_ (hhh := Or.inl (by decide +kernel))
      refine Keeps.trans ?_ (State.fastThrottle_keeps ..) (by decide +kernel)
      refine Keeps.trans ?_ (State.riseAlarm_keeps ..) (by decide +kernel)
      refine Keeps.trans ?_ (State.judgeInterval_keeps ..) (by decide +kernel)
      refine Keeps.trans ?_ (State.measureHeat_keeps ..) (by decide +kernel)
      exact Keeps.refl _ _
    · refine Keeps.trans ?_ (State.thermalShutdown_keeps ..) (by decide +kernel)
      exact Keeps.refl _ _
  · refine Keeps.upd ?_ (hhh := Or.inl (by decide +kernel))
    refine Keeps.trans ?_ (State.fastThrottle_keeps ..) (by decide +kernel)
    refine Keeps.trans ?_ (State.riseAlarm_keeps ..) (by decide +kernel)
    refine Keeps.trans ?_ (State.judgeInterval_keeps ..) (by decide +kernel)
    refine Keeps.trans ?_ (State.measureHeat_keeps ..) (by decide +kernel)
    exact Keeps.refl _ _

theorem State.modelMismatch_keeps (s : State) : Keeps ⟨[.out, .memory, .clock, .mgmt, .logs],
    [(0x101107, 0x101107), (0x103003, 0x103003), (0x180002, 0x180002), (0x180101, 0x180103), (0x280105,
    0x280105), (0x280205, 0x280205), (0x900005, 0x900005)]⟩ s (State.modelMismatch s) := by
  unfold State.modelMismatch
  refine Keeps.trans ?_ (State.log_keeps ..) (by decide +kernel)
  refine Keeps.trans ?_ (State.event_keeps ..) (by decide +kernel)
  refine Keeps.trans ?_ (State.inc_keeps1 ..) (by decide +kernel)
  refine Keeps.trans ?_ (State.putBit_keeps1 ..) (by decide +kernel)
  exact Keeps.refl _ _

theorem State.lifeSecond_keeps (s : State) : Keeps ⟨[.health], [(0x000000, 0xFFFFFF)]⟩ s
    (State.lifeSecond s) := by
  unfold State.lifeSecond
  refine Keeps.ite (fun _ => ?_) (fun _ => ?_)
  · dsimp only
    refine Keeps.trans ?_ (State.putS16_keeps ..) (by decide +kernel)
    refine Keeps.upd ?_ (hhh := Or.inl (by decide +kernel))
    refine Keeps.trans ?_ (State.inc_keeps1 ..) (by decide +kernel)
    refine Keeps.trans ?_ (State.ince_keeps1 ..) (by decide +kernel)
    exact Keeps.refl _ _
  · exact Keeps.refl _ _

theorem State.cvInit_keeps (s : State) (u : Nat) : Keeps ⟨[.health], [(0x284007, 0x284007), (0x28400B,
    0x28400B)]⟩ s (State.cvInit s u) := by
  unfold State.cvInit
  refine Keeps.trans ?_ (State.pute_keeps1 ..) (by decide +kernel)
  refine Keeps.trans ?_ (State.pute_keeps1 ..) (by decide +kernel)
  refine Keeps.upd ?_ (hhh := Or.inl (by decide +kernel))
  exact Keeps.refl _ _

theorem State.cvCompare_keeps (s : State) (u : Nat) : Keeps ⟨[.out, .clock, .mgmt], [(0x101107,
    0x101107), (0x103003, 0x103003), (0x280203, 0x280203), (0x28400B, 0x28400B)]⟩ s (State.cvCompare s
    u) := by
  unfold State.cvCompare
  refine Keeps.ite (fun _ => ?_) (fun _ => ?_)
  · refine Keeps.trans ?_ (State.pute_keeps1 ..) (by decide +kernel)
    exact Keeps.refl _ _
  · refine Keeps.trans ?_ (State.event_keeps ..) (by decide +kernel)
    refine Keeps.trans ?_ (State.inc_keeps1 ..) (by decide +kernel)
    refine Keeps.trans ?_ (State.pute_keeps1 ..) (by decide +kernel)
    exact Keeps.refl _ _

theorem State.cvByte_keeps (s : State) (u : Nat) (b : Byte) : Keeps ⟨[.out, .clock, .mgmt, .health],
    [(0x101107, 0x101107), (0x103003, 0x103003), (0x280203, 0x280203), (0x284007, 0x284007), (0x28400B,
    0x28400B)]⟩ s (State.cvByte s u b) := by
  unfold State.cvByte
  dsimp only
  refine Keeps.optE ?_ (fun _ => ?_)
  · refine Keeps.trans ?_ (State.ince_keeps1 ..) (by decide +kernel)
    refine Keeps.upd ?_ (hhh := Or.inl (by decide +kernel))
    exact Keeps.refl _ _
  · refine Keeps.trans ?_ (State.cvCompare_keeps ..) (by decide +kernel)
    exact Keeps.refl _ _

theorem State.cvFeed_keeps (s : State) (u : Nat) (n : Nat) (master : Nat) (v : Nat) : Keeps ⟨[.out,
    .clock, .mgmt, .health], [(0x101107, 0x101107), (0x103003, 0x103003), (0x280203, 0x280203),
    (0x284007, 0x284007), (0x28400B, 0x28400C)]⟩ s (State.cvFeed s u n master v) := by
  unfold State.cvFeed
  refine Keeps.foldl ?_ (fun _ _ => ?_)
  · refine Keeps.trans ?_ (State.pute_keeps1 ..) (by decide +kernel)
    exact Keeps.refl _ _
  · refine Keeps.trans ?_ (State.cvByte_keeps ..) (by decide +kernel)
    exact Keeps.refl _ _

theorem State.ownCv_keeps (s : State) (u : Nat) (m : Nat) (master : Nat) (v : Nat) : Keeps ⟨[.out,
    .clock, .mgmt, .health], [(0x101107, 0x101107), (0x103003, 0x103003), (0x280203, 0x280203),
    (0x284000, 0x2840FF)]⟩ s (State.ownCv s u m master v) := by
  unfold State.ownCv
  refine Keeps.ite (fun _ => ?_) (fun _ => ?_)
  · refine Keeps.trans ?_ (State.cvInit_keeps ..) (by decide +kernel)
    refine Keeps.trans ?_ (State.pute_keeps1 ..) (by decide +kernel)
    exact Keeps.refl _ _
  · refine Keeps.ite (fun _ => ?_) (fun _ => ?_)
    · refine Keeps.trans ?_ (State.pute_keeps1 ..) (by decide +kernel)
      refine Keeps.trans ?_ (State.cvInit_keeps ..) (by decide +kernel)
      exact Keeps.refl _ _
    · refine Keeps.ite (fun _ => ?_) (fun _ => ?_)
      · refine Keeps.trans ?_ (State.cvFeed_keeps ..) (by decide +kernel)
        exact Keeps.refl _ _
      · refine Keeps.ite (fun _ => ?_) (fun _ => ?_)
        · refine Keeps.trans ?_ (State.cvFeed_keeps ..) (by decide +kernel)
          exact Keeps.refl _ _
        · refine Keeps.ite (fun _ => ?_) (fun _ => ?_)
          · refine Keeps.trans ?_ (State.cvFeed_keeps ..) (by decide +kernel)
            exact Keeps.refl _ _
          · refine Keeps.ite (fun _ => ?_) (fun _ => ?_)
            · refine Keeps.trans ?_ (State.cvCompare_keeps ..) (by decide +kernel)
              exact Keeps.refl _ _
            · refine Keeps.trans ?_ (State.pute_keepsO ..) (by decide +kernel)
              exact Keeps.refl _ _

end Sys2Proof.Machine
end

