-- ==== Sys2Proof/Laws/Keeps/Network.lean ====
section
/-! SUPPORT. What each operation of Machine/Network.lean may change. -/

set_option Elab.async false

namespace Sys2Proof.Machine

theorem State.sendOwn_keeps (s : State) (port : Nat) (o : Output) (slot : Option Nat) : Keeps ⟨[.out,
    .net], []⟩ s (State.sendOwn s port o slot) := by
  unfold State.sendOwn
  refine Keeps.ite (fun _ => ?_) (fun _ => ?_)
  · dsimp only
    refine Keeps.upd ?_ (hnt := Or.inl (by decide +kernel))
    exact Keeps.refl _ _
  · refine Keeps.trans ?_ (State.emit_keeps ..) (by decide +kernel)
    exact Keeps.refl _ _

theorem State.sendIp6_keeps (s : State) (port : Nat) (dstMac : Nat) (pkt : Bytes) : Keeps ⟨[.out, .net],
    []⟩ s (State.sendIp6 s port dstMac pkt) := by
  unfold State.sendIp6
  refine Keeps.ite (fun _ => ?_) (fun _ => ?_)
  · refine Keeps.trans ?_ (State.sendOwn_keeps ..) (by decide +kernel)
    exact Keeps.refl _ _
  · exact Keeps.refl _ _

theorem State.sendDad_keeps (s : State) (a : Nat) : Keeps ⟨[.out, .net], []⟩ s (State.sendDad s a) := by
  unfold State.sendDad
  refine Keeps.foldl ?_ (fun _ _ => ?_)
  · exact Keeps.refl _ _
  · refine Keeps.trans ?_ (State.sendIp6_keeps ..) (by decide +kernel)
    exact Keeps.refl _ _

theorem State.sendMld_keeps (s : State) (port : Nat) : Keeps ⟨[.out, .net], []⟩ s (State.sendMld s port)
    := by
  unfold State.sendMld
  dsimp only
  refine Keeps.trans ?_ (State.sendIp6_keeps ..) (by decide +kernel)
  exact Keeps.refl _ _

theorem State.answerNs_keeps (s : State) (port : Nat) (f : Bytes) : Keeps ⟨[.out, .net], []⟩ s
    (State.answerNs s port f) := by
  unfold State.answerNs
  dsimp only
  refine Keeps.ite (fun _ => ?_) (fun _ => ?_)
  · refine Keeps.trans ?_ (State.sendIp6_keeps ..) (by decide +kernel)
    exact Keeps.refl _ _
  · exact Keeps.refl _ _

theorem State.answerEcho_keeps (s : State) (port : Nat) (f : Bytes) : Keeps ⟨[.out, .net], []⟩ s
    (State.answerEcho s port f) := by
  unfold State.answerEcho
  dsimp only
  refine Keeps.ite (fun _ => ?_) (fun _ => ?_)
  · refine Keeps.trans ?_ (State.sendIp6_keeps ..) (by decide +kernel)
    exact Keeps.refl _ _
  · exact Keeps.refl _ _

theorem State.doDad_keeps (s : State) (glob : Bool) (dup : Bool) : Keeps ⟨[.out, .net], [(0x800102,
    0x800102)]⟩ s (State.doDad s glob dup) := by
  unfold State.doDad
  dsimp only
  refine Keeps.ite (fun _ => ?_) (fun _ => ?_)
  · refine Keeps.trans ?_ (State.putBit_keeps1 ..) (by decide +kernel)
    refine Keeps.ite (fun _ => ?_) (fun _ => ?_)
    · refine Keeps.upd ?_ (hnt := Or.inl (by decide +kernel))
      exact Keeps.refl _ _
    · refine Keeps.upd ?_ (hnt := Or.inl (by decide +kernel))
      exact Keeps.refl _ _
  · refine Keeps.foldl ?_ (fun _ _ => ?_)
    · refine Keeps.ite (fun _ => ?_) (fun _ => ?_)
      · refine Keeps.upd ?_ (hnt := Or.inl (by decide +kernel))
        exact Keeps.refl _ _
      · refine Keeps.upd ?_ (hnt := Or.inl (by decide +kernel))
        exact Keeps.refl _ _
    · refine Keeps.trans ?_ (State.sendMld_keeps ..) (by decide +kernel)
      exact Keeps.refl _ _

theorem State.ownGlobal_keeps (s : State) (b : Bytes) : Keeps ⟨[.out, .blobs, .memory, .net], []⟩ s
    (State.ownGlobal s b) := by
  unfold State.ownGlobal
  dsimp only
  split
  · refine Keeps.trans ?_ (State.sendDad_keeps ..) (by decide +kernel)
    refine Keeps.upd ?_ (hnt := Or.inl (by decide +kernel))
    refine Keeps.trans ?_ (State.putBlobKept_keeps ..) (by decide +kernel)
    exact Keeps.refl _ _
  · refine Keeps.upd ?_ (hnt := Or.inl (by decide +kernel))
    refine Keeps.trans ?_ (State.putBlobKept_keeps ..) (by decide +kernel)
    exact Keeps.refl _ _

theorem State.putSlot_keeps (s : State) (i : Nat) (sl : Slot) : Keeps ⟨[.net], []⟩ s (State.putSlot s i
    sl) := by
  unfold State.putSlot
  refine Keeps.ite (fun _ => ?_) (fun _ => ?_)
  · refine Keeps.upd ?_ (hnt := Or.inl (by decide +kernel))
    exact Keeps.refl _ _
  · refine Keeps.upd ?_ (hnt := Or.inl (by decide +kernel))
    exact Keeps.refl _ _

theorem State.putSlotState_keeps (s : State) (i : Nat) (v : Nat) : Keeps ⟨[], [(0x801001, 0x801001)]⟩ s
    (State.putSlotState s i v) := by
  unfold State.putSlotState
  refine Keeps.trans ?_ (State.pute_keeps1 ..) (by decide +kernel)
  exact Keeps.refl _ _

theorem State.setWall_keeps (s : State) (v : Nat) : Keeps ⟨[.out, .clock, .mgmt, .net], [(0x101107,
    0x101107), (0x103003, 0x103003), (0x800101, 0x800101), (0x800106, 0x800106), (0x800201, 0x800203)]⟩
    s (State.setWall s v) := by
  unfold State.setWall
  dsimp only
  refine Keeps.ite (fun _ => ?_) (fun _ => ?_)
  · exact Keeps.refl _ _
  · refine Keeps.trans ?_ (State.put_keeps1 ..) (by decide +kernel)
    refine Keeps.trans ?_ (State.event_keeps ..) (by decide +kernel)
    refine Keeps.ite (fun _ => ?_) (fun _ => ?_)
    · refine Keeps.trans ?_ (State.inc_keeps1 ..) (by decide +kernel)
      refine Keeps.trans ?_ (State.put_keeps1 ..) (by decide +kernel)
      exact Keeps.refl _ _
    · refine Keeps.ite (fun _ => ?_) (fun _ => ?_)
      · refine Keeps.trans ?_ (State.inc_keeps1 ..) (by decide +kernel)
        refine Keeps.trans ?_ (State.put_keeps1 ..) (by decide +kernel)
        exact Keeps.refl _ _
      · refine Keeps.optE ?_ (fun _ => ?_)
        · refine Keeps.trans ?_ (State.put_keeps1 ..) (by decide +kernel)
          exact Keeps.refl _ _
        · refine Keeps.trans ?_ (State.inc_keeps1 ..) (by decide +kernel)
          refine Keeps.upd ?_ (hnt := Or.inl (by decide +kernel))
          exact Keeps.refl _ _

theorem State.useSlot_keeps (s : State) (i : Nat) (r : Int) : Keeps ⟨[.out, .clock, .mgmt, .net],
    [(0x101107, 0x101107), (0x103003, 0x103003), (0x800101, 0x800102), (0x800106, 0x800106), (0x800201,
    0x800203)]⟩ s (State.useSlot s i r) := by
  unfold State.useSlot
  dsimp only
  refine Keeps.trans ?_ (State.setWall_keeps ..) (by decide +kernel)
  refine Keeps.trans ?_ (State.putBit_keeps1 ..) (by decide +kernel)
  refine Keeps.trans ?_ (State.putBit_keeps1 ..) (by decide +kernel)
  refine Keeps.trans ?_ (State.putBit_keeps1 ..) (by decide +kernel)
  refine Keeps.upd ?_ (hnt := Or.inl (by decide +kernel))
  exact Keeps.refl _ _

theorem State.holdover_keeps (s : State) : Keeps ⟨[.out, .clock, .mgmt, .net], [(0x101107, 0x101107),
    (0x103003, 0x103003), (0x800101, 0x800101), (0x800106, 0x800106), (0x800201, 0x800203)]⟩ s
    (State.holdover s) := by
  unfold State.holdover
  dsimp only
  refine Keeps.trans ?_ (State.setWall_keeps ..) (by decide +kernel)
  refine Keeps.upd ?_ (hnt := Or.inl (by decide +kernel))
  exact Keeps.refl _ _

theorem State.stepWall_keeps (s : State) (i : Nat) : Keeps ⟨[.out, .clock, .mgmt, .net], [(0x101107,
    0x101107), (0x103003, 0x103003), (0x800101, 0x800102), (0x800106, 0x800106), (0x800201, 0x800204)]⟩
    s (State.stepWall s i) := by
  unfold State.stepWall
  refine Keeps.trans ?_ (State.useSlot_keeps ..) (by decide +kernel)
  refine Keeps.trans ?_ (State.putBit_keeps1 ..) (by decide +kernel)
  refine Keeps.trans ?_ (State.inc_keeps1 ..) (by decide +kernel)
  exact Keeps.refl _ _

theorem State.switchWall_keeps (s : State) (i : Nat) : Keeps ⟨[.out, .clock, .mgmt, .net], [(0x101107,
    0x101107), (0x103003, 0x103003), (0x800101, 0x800102), (0x800106, 0x800106), (0x800201, 0x800204)]⟩
    s (State.switchWall s i) := by
  unfold State.switchWall
  dsimp only
  refine Keeps.ite (fun _ => ?_) (fun _ => ?_)
  · refine Keeps.trans ?_ (State.useSlot_keeps ..) (by decide +kernel)
    exact Keeps.refl _ _
  · refine Keeps.ite (fun _ => ?_) (fun _ => ?_)
    · refine Keeps.trans ?_ (State.stepWall_keeps ..) (by decide +kernel)
      exact Keeps.refl _ _
    · refine Keeps.optE ?_ (fun _ => ?_)
      · refine Keeps.optT ?_ (fun _ => ?_)
        · refine Keeps.upd ?_ (hnt := Or.inl (by decide +kernel))
          exact Keeps.refl _ _
        · refine Keeps.trans ?_ (State.event_keeps ..) (by decide +kernel)
          refine Keeps.trans ?_ (State.putBit_keeps1 ..) (by decide +kernel)
          exact Keeps.refl _ _
      · refine Keeps.trans ?_ (State.holdover_keeps ..) (by decide +kernel)
        exact Keeps.refl _ _

theorem State.judgeWall_keeps (s : State) : Keeps ⟨[.out, .clock, .mgmt, .net], [(0x101107, 0x101107),
    (0x103003, 0x103003), (0x800101, 0x800102), (0x800106, 0x800106), (0x800201, 0x800204)]⟩ s
    (State.judgeWall s) := by
  unfold State.judgeWall
  dsimp only
  split
  · split
    · refine Keeps.trans ?_ (State.useSlot_keeps ..) (by decide +kernel)
      exact Keeps.refl _ _
    · exact Keeps.refl _ _
  · refine Keeps.ite (fun _ => ?_) (fun _ => ?_)
    · exact Keeps.refl _ _
    · refine Keeps.ite (fun _ => ?_) (fun _ => ?_)
      · refine Keeps.trans ?_ (State.switchWall_keeps ..) (by decide +kernel)
        exact Keeps.refl _ _
      · refine Keeps.trans ?_ (State.holdover_keeps ..) (by decide +kernel)
        exact Keeps.refl _ _
  · refine Keeps.ite (fun _ => ?_) (fun _ => ?_)
    · refine Keeps.ite (fun _ => ?_) (fun _ => ?_)
      · refine Keeps.trans ?_ (State.switchWall_keeps ..) (by decide +kernel)
        exact Keeps.refl _ _
      · refine Keeps.trans ?_ (State.holdover_keeps ..) (by decide +kernel)
        exact Keeps.refl _ _
    · refine Keeps.ite (fun _ => ?_) (fun _ => ?_)
      · refine Keeps.trans ?_ (State.switchWall_keeps ..) (by decide +kernel)
        exact Keeps.refl _ _
      · exact Keeps.refl _ _
  · split
    · refine Keeps.trans ?_ (State.switchWall_keeps ..) (by decide +kernel)
      exact Keeps.refl _ _
    · exact Keeps.refl _ _

theorem State.ownStepNow_keeps (s : State) : Keeps ⟨[.out, .clock, .mgmt, .net], [(0x101107, 0x101107),
    (0x103003, 0x103003), (0x800101, 0x800102), (0x800106, 0x800106), (0x800201, 0x800204)]⟩ s
    (State.ownStepNow s) := by
  unfold State.ownStepNow
  refine Keeps.ite (fun _ => ?_) (fun _ => ?_)
  · refine Keeps.trans ?_ (State.stepWall_keeps ..) (by decide +kernel)
    exact Keeps.refl _ _
  · exact Keeps.refl _ _

theorem State.markFailed_keeps (s : State) (i : Nat) : Keeps ⟨[.net], [(0x800205, 0x800205), (0x801001,
    0x801001)]⟩ s (State.markFailed s i) := by
  unfold State.markFailed
  refine Keeps.ite (fun _ => ?_) (fun _ => ?_)
  · exact Keeps.refl _ _
  · dsimp only
    refine Keeps.trans ?_ (State.inc_keeps1 ..) (by decide +kernel)
    refine Keeps.trans ?_ (State.putSlotState_keeps ..) (by decide +kernel)
    refine Keeps.trans ?_ (State.putSlot_keeps ..) (by decide +kernel)
    exact Keeps.refl _ _

theorem State.failSlot_keeps (s : State) (i : Nat) : Keeps ⟨[.out, .clock, .mgmt, .net], [(0x101107,
    0x101107), (0x103003, 0x103003), (0x800101, 0x800102), (0x800106, 0x800106), (0x800201, 0x800205),
    (0x801001, 0x801001)]⟩ s (State.failSlot s i) := by
  unfold State.failSlot
  refine Keeps.ite (fun _ => ?_) (fun _ => ?_)
  · exact Keeps.refl _ _
  · refine Keeps.trans ?_ (State.judgeWall_keeps ..) (by decide +kernel)
    refine Keeps.trans ?_ (State.markFailed_keeps ..) (by decide +kernel)
    exact Keeps.refl _ _

theorem State.failSlots_keeps (s : State) : Keeps ⟨[.out, .clock, .mgmt, .net], [(0x101107, 0x101107),
    (0x103003, 0x103003), (0x800101, 0x800102), (0x800106, 0x800106), (0x800201, 0x800205), (0x801001,
    0x801001)]⟩ s (State.failSlots s) := by
  unfold State.failSlots
  refine Keeps.trans ?_ (State.judgeWall_keeps ..) (by decide +kernel)
  refine Keeps.trans ?_ (State.markFailed_keeps ..) (by decide +kernel)
  refine Keeps.trans ?_ (State.markFailed_keeps ..) (by decide +kernel)
  exact Keeps.refl _ _

theorem State.clearSlot_keeps (s : State) (i : Nat) : Keeps ⟨[.blobs, .net], [(0x801001, 0x801003),
    (0x801006, 0x80100A)]⟩ s (State.clearSlot s i) := by
  unfold State.clearSlot
  dsimp only
  refine Keeps.trans ?_ (State.pute_keeps1 ..) (by decide +kernel)
  refine Keeps.trans ?_ (State.pute_keeps1 ..) (by decide +kernel)
  refine Keeps.trans ?_ (State.pute_keeps1 ..) (by decide +kernel)
  refine Keeps.trans ?_ (State.pute_keeps1 ..) (by decide +kernel)
  refine Keeps.trans ?_ (State.pute_keeps1 ..) (by decide +kernel)
  refine Keeps.trans ?_ (State.putBlob_keeps ..) (by decide +kernel)
  refine Keeps.trans ?_ (State.pute_keeps1 ..) (by decide +kernel)
  refine Keeps.trans ?_ (State.pute_keeps1 ..) (by decide +kernel)
  refine Keeps.trans ?_ (State.putSlotState_keeps ..) (by decide +kernel)
  refine Keeps.trans ?_ (State.putSlot_keeps ..) (by decide +kernel)
  exact Keeps.refl _ _

theorem State.servo_keeps (s : State) (i : Nat) (theta : Int) (tau : Nat) : Keeps ⟨[.net], [(0x801007,
    0x801007)]⟩ s (State.servo s i theta tau) := by
  unfold State.servo
  dsimp only
  refine Keeps.trans ?_ (State.pute_keeps1 ..) (by decide +kernel)
  refine Keeps.trans ?_ (State.putSlot_keeps ..) (by decide +kernel)
  exact Keeps.refl _ _

theorem State.measure_keeps (s : State) (i : Nat) (port : Nat) (t1 : Int) (corr : Int) (t2 : Int) :
    Keeps ⟨[.out, .clock, .mgmt, .net], [(0x101107, 0x101107), (0x103003, 0x103003), (0x800101,
    0x800102), (0x800106, 0x800106), (0x800201, 0x800207), (0x801001, 0x801001), (0x801007, 0x801007)]⟩
    s (State.measure s i port t1 corr t2) := by
  unfold State.measure
  dsimp only
  refine Keeps.ite (fun _ => ?_) (fun _ => ?_)
  · refine Keeps.trans ?_ (State.putSlot_keeps ..) (by decide +kernel)
    exact Keeps.refl _ _
  · refine Keeps.ite (fun _ => ?_) (fun _ => ?_)
    · refine Keeps.ite (fun _ => ?_) (fun _ => ?_)
      · refine Keeps.ite (fun _ => ?_) (fun _ => ?_)
        · refine Keeps.trans ?_ (State.failSlot_keeps ..) (by decide +kernel)
          refine Keeps.trans ?_ (State.inc_keeps1 ..) (by decide +kernel)
          refine Keeps.trans ?_ (State.putSlot_keeps ..) (by decide +kernel)
          exact Keeps.refl _ _
        · refine Keeps.trans ?_ (State.inc_keeps1 ..) (by decide +kernel)
          refine Keeps.trans ?_ (State.putSlot_keeps ..) (by decide +kernel)
          refine Keeps.trans ?_ (State.putSlot_keeps ..) (by decide +kernel)
          exact Keeps.refl _ _
      · refine Keeps.trans ?_ (State.servo_keeps ..) (by decide +kernel)
        refine Keeps.trans ?_ (State.putSlot_keeps ..) (by decide +kernel)
        refine Keeps.trans ?_ (State.putSlot_keeps ..) (by decide +kernel)
        exact Keeps.refl _ _
    · refine Keeps.trans ?_ (State.servo_keeps ..) (by decide +kernel)
      refine Keeps.trans ?_ (State.putSlot_keeps ..) (by decide +kernel)
      refine Keeps.trans ?_ (State.putSlot_keeps ..) (by decide +kernel)
      exact Keeps.refl _ _

theorem State.judgeTracking_keeps (s : State) (i : Nat) : Keeps ⟨[.out, .clock, .mgmt, .net],
    [(0x101107, 0x101107), (0x103003, 0x103003), (0x800101, 0x800102), (0x800106, 0x800106), (0x800201,
    0x800204), (0x801001, 0x801001)]⟩ s (State.judgeTracking s i) := by
  unfold State.judgeTracking
  dsimp only
  refine Keeps.ite (fun _ => ?_) (fun _ => ?_)
  · refine Keeps.trans ?_ (State.judgeWall_keeps ..) (by decide +kernel)
    refine Keeps.trans ?_ (State.putSlotState_keeps ..) (by decide +kernel)
    refine Keeps.trans ?_ (State.putSlot_keeps ..) (by decide +kernel)
    exact Keeps.refl _ _
  · exact Keeps.refl _ _

theorem State.doSync_keeps (s : State) (port : Nat) (f : Bytes) : Keeps ⟨[.out, .clock, .mgmt, .net],
    [(0x101107, 0x101107), (0x103003, 0x103003), (0x800101, 0x800102), (0x800106, 0x800106), (0x800201,
    0x800207), (0x801001, 0x801001), (0x801006, 0x801008)]⟩ s (State.doSync s port f) := by
  unfold State.doSync
  split
  · exact Keeps.refl _ _
  · refine Keeps.ite (fun _ => ?_) (fun _ => ?_)
    · exact Keeps.refl _ _
    · dsimp only
      refine Keeps.ite (fun _ => ?_) (fun _ => ?_)
      · refine Keeps.trans ?_ (State.putSlot_keeps ..) (by decide +kernel)
        refine Keeps.optE ?_ (fun _ => ?_)
        · refine Keeps.trans ?_ (State.pute_keeps1 ..) (by decide +kernel)
          exact Keeps.refl _ _
        · refine Keeps.trans ?_ (State.pute_keeps1 ..) (by decide +kernel)
          refine Keeps.trans ?_ (State.putSlotState_keeps ..) (by decide +kernel)
          refine Keeps.trans ?_ (State.putSlot_keeps ..) (by decide +kernel)
          exact Keeps.refl _ _
      · refine Keeps.trans ?_ (State.judgeTracking_keeps ..) (by decide +kernel)
        refine Keeps.trans ?_ (State.measure_keeps ..) (by decide +kernel)
        refine Keeps.trans ?_ (State.putSlot_keeps ..) (by decide +kernel)
        refine Keeps.optE ?_ (fun _ => ?_)
        · refine Keeps.trans ?_ (State.pute_keeps1 ..) (by decide +kernel)
          exact Keeps.refl _ _
        · refine Keeps.trans ?_ (State.pute_keeps1 ..) (by decide +kernel)
          refine Keeps.trans ?_ (State.putSlotState_keeps ..) (by decide +kernel)
          refine Keeps.trans ?_ (State.putSlot_keeps ..) (by decide +kernel)
          exact Keeps.refl _ _

theorem State.doFollowUp_keeps (s : State) (port : Nat) (f : Bytes) : Keeps ⟨[.out, .clock, .mgmt,
    .net], [(0x101107, 0x101107), (0x103003, 0x103003), (0x800101, 0x800102), (0x800106, 0x800106),
    (0x800201, 0x800207), (0x801001, 0x801001), (0x801007, 0x801007)]⟩ s (State.doFollowUp s port f) :=
    by
  unfold State.doFollowUp
  split
  · exact Keeps.refl _ _
  · split
    · exact Keeps.refl _ _
    · refine Keeps.ite (fun _ => ?_) (fun _ => ?_)
      · exact Keeps.refl _ _
      · refine Keeps.trans ?_ (State.judgeTracking_keeps ..) (by decide +kernel)
        refine Keeps.trans ?_ (State.measure_keeps ..) (by decide +kernel)
        refine Keeps.trans ?_ (State.putSlot_keeps ..) (by decide +kernel)
        exact Keeps.refl _ _

theorem State.doDelayResp_keeps (s : State) (port : Nat) (f : Bytes) : Keeps ⟨[.out, .clock, .mgmt,
    .net], [(0x101107, 0x101107), (0x103003, 0x103003), (0x800101, 0x800102), (0x800106, 0x800106),
    (0x800201, 0x800204), (0x801001, 0x801001), (0x801006, 0x801006)]⟩ s (State.doDelayResp s port f) :=
    by
  unfold State.doDelayResp
  split
  · exact Keeps.refl _ _
  · dsimp only
    split
    · refine Keeps.ite (fun _ => ?_) (fun _ => ?_)
      · exact Keeps.refl _ _
      · refine Keeps.trans ?_ (State.judgeTracking_keeps ..) (by decide +kernel)
        refine Keeps.trans ?_ (State.pute_keeps1 ..) (by decide +kernel)
        refine Keeps.trans ?_ (State.putSlot_keeps ..) (by decide +kernel)
        exact Keeps.refl _ _
    · exact Keeps.refl _ _

theorem State.doDelayReq_keeps (s : State) (i : Nat) : Keeps ⟨[.out, .net], [(0x800208, 0x800208)]⟩ s
    (State.doDelayReq s i) := by
  unfold State.doDelayReq
  dsimp only
  split
  · exact Keeps.refl _ _
  · refine Keeps.ite (fun _ => ?_) (fun _ => ?_)
    · refine Keeps.trans ?_ (State.inc_keeps1 ..) (by decide +kernel)
      refine Keeps.trans ?_ (State.sendOwn_keeps ..) (by decide +kernel)
      refine Keeps.trans ?_ (State.putSlot_keeps ..) (by decide +kernel)
      exact Keeps.refl _ _
    · exact Keeps.refl _ _

theorem State.selectMaster_keeps (s : State) (i : Nat) : Keeps ⟨[.out, .blobs, .clock, .mgmt, .net],
    [(0x101107, 0x101107), (0x103003, 0x103003), (0x800101, 0x800102), (0x800106, 0x800106), (0x800201,
    0x800205), (0x801001, 0x801003), (0x801009, 0x80100A)]⟩ s (State.selectMaster s i) := by
  unfold State.selectMaster
  dsimp only
  refine Keeps.optE ?_ (fun _ => ?_)
  · refine Keeps.trans ?_ (State.putSlot_keeps ..) (by decide +kernel)
    split
    · refine Keeps.trans ?_ (State.pute_keeps1 ..) (by decide +kernel)
      refine Keeps.trans ?_ (State.pute_keeps1 ..) (by decide +kernel)
      refine Keeps.trans ?_ (State.putBlob_keeps ..) (by decide +kernel)
      refine Keeps.trans ?_ (State.pute_keeps1 ..) (by decide +kernel)
      refine Keeps.trans ?_ (State.pute_keeps1 ..) (by decide +kernel)
      exact Keeps.refl _ _
    · refine Keeps.trans ?_ (State.pute_keeps1 ..) (by decide +kernel)
      refine Keeps.trans ?_ (State.pute_keeps1 ..) (by decide +kernel)
      refine Keeps.trans ?_ (State.putBlob_keeps ..) (by decide +kernel)
      refine Keeps.trans ?_ (State.pute_keeps1 ..) (by decide +kernel)
      refine Keeps.trans ?_ (State.pute_keeps1 ..) (by decide +kernel)
      exact Keeps.refl _ _
  · refine Keeps.trans ?_ (State.failSlot_keeps ..) (by decide +kernel)
    exact Keeps.refl _ _

theorem State.doAnnounce_keeps (s : State) (port : Nat) (f : Bytes) : Keeps ⟨[.out, .blobs, .clock,
    .mgmt, .net], [(0x101107, 0x101107), (0x103003, 0x103003), (0x800101, 0x800102), (0x800106,
    0x800106), (0x800201, 0x800205), (0x801001, 0x801003), (0x801009, 0x80100A)]⟩ s (State.doAnnounce s
    port f) := by
  unfold State.doAnnounce
  split
  · exact Keeps.refl _ _
  · dsimp only
    refine Keeps.trans ?_ (State.selectMaster_keeps ..) (by decide +kernel)
    refine Keeps.trans ?_ (State.putSlot_keeps ..) (by decide +kernel)
    exact Keeps.refl _ _

theorem State.announceLost_keeps (s : State) (i : Nat) : Keeps ⟨[.out, .blobs, .clock, .mgmt, .net],
    [(0x101107, 0x101107), (0x103003, 0x103003), (0x800101, 0x800102), (0x800106, 0x800106), (0x800201,
    0x800205), (0x801001, 0x801003), (0x801009, 0x80100A)]⟩ s (State.announceLost s i) := by
  unfold State.announceLost
  dsimp only
  split
  · exact Keeps.refl _ _
  · refine Keeps.trans ?_ (State.selectMaster_keeps ..) (by decide +kernel)
    refine Keeps.trans ?_ (State.failSlot_keeps ..) (by decide +kernel)
    refine Keeps.trans ?_ (State.putSlot_keeps ..) (by decide +kernel)
    exact Keeps.refl _ _

theorem State.relisten_keeps (s : State) (slots : List Nat) : Keeps ⟨[.out, .blobs, .clock, .mgmt,
    .net], [(0x101107, 0x101107), (0x103003, 0x103003), (0x800101, 0x800102), (0x800106, 0x800106),
    (0x800201, 0x800204), (0x801001, 0x801003), (0x801006, 0x80100A)]⟩ s (State.relisten s slots) := by
  unfold State.relisten
  refine Keeps.trans ?_ (State.judgeWall_keeps ..) (by decide +kernel)
  refine Keeps.foldl ?_ (fun _ _ => ?_)
  · exact Keeps.refl _ _
  · refine Keeps.trans ?_ (State.clearSlot_keeps ..) (by decide +kernel)
    exact Keeps.refl _ _

theorem State.ownClass_keeps (s : State) (v : Nat) : Keeps ⟨[.out, .memory, .clock, .mgmt, .net],
    [(0x101107, 0x101107), (0x103003, 0x103003), (0x800004, 0x800004), (0x800101, 0x800102), (0x800106,
    0x800106), (0x800201, 0x800205), (0x801001, 0x801001)]⟩ s (State.ownClass s v) := by
  unfold State.ownClass
  refine Keeps.foldl ?_ (fun _ _ => ?_)
  · refine Keeps.trans ?_ (State.putKept_keeps1 ..) (by decide +kernel)
    exact Keeps.refl _ _
  · refine Keeps.ite (fun _ => ?_) (fun _ => ?_)
    · refine Keeps.trans ?_ (State.failSlot_keeps ..) (by decide +kernel)
      exact Keeps.refl _ _
    · exact Keeps.refl _ _

theorem State.wallLost_keeps (s : State) : Keeps ⟨[.out, .blobs, .clock, .mgmt, .net], [(0x101107,
    0x101107), (0x103003, 0x103003), (0x800101, 0x800102), (0x800106, 0x800106), (0x800201, 0x800203),
    (0x801001, 0x801003), (0x801006, 0x80100A)]⟩ s (State.wallLost s) := by
  unfold State.wallLost
  dsimp only
  refine Keeps.trans ?_ (State.setWall_keeps ..) (by decide +kernel)
  refine Keeps.trans ?_ (State.putBit_keeps1 ..) (by decide +kernel)
  refine Keeps.trans ?_ (State.putBit_keeps1 ..) (by decide +kernel)
  refine Keeps.upd ?_ (hnt := Or.inl (by decide +kernel))
  refine Keeps.trans ?_ (State.clearSlot_keeps ..) (by decide +kernel)
  refine Keeps.trans ?_ (State.clearSlot_keeps ..) (by decide +kernel)
  exact Keeps.refl _ _

theorem State.relayFrame_keeps (s : State) (out : Nat) (stamp : Int) (f : Bytes) : Keeps ⟨[.net],
    [(0x80020B, 0x80020B), (0x80200A, 0x80200A)]⟩ s (State.relayFrame s out stamp f) := by
  unfold State.relayFrame
  refine Keeps.ite (fun _ => ?_) (fun _ => ?_)
  · exact Keeps.refl _ _
  · refine Keeps.ite (fun _ => ?_) (fun _ => ?_)
    · refine Keeps.trans ?_ (State.inc_keeps1 ..) (by decide +kernel)
      refine Keeps.trans ?_ (State.ince_keeps1 ..) (by decide +kernel)
      exact Keeps.refl _ _
    · dsimp only
      refine Keeps.upd ?_ (hnt := Or.inl (by decide +kernel))
      exact Keeps.refl _ _

theorem State.frameIn_keeps (s : State) (p : Nat) (f : Bytes) (fcsOk : Bool) : Keeps ⟨[.net],
    [(0x800209, 0x800209), (0x80020B, 0x80020C), (0x802008, 0x80200A)]⟩ s (State.frameIn s p f fcsOk) :=
    by
  unfold State.frameIn
  refine Keeps.ite (fun _ => ?_) (fun _ => ?_)
  · exact Keeps.refl _ _
  · refine Keeps.ite (fun _ => ?_) (fun _ => ?_)
    · refine Keeps.trans ?_ (State.inc_keeps1 ..) (by decide +kernel)
      exact Keeps.refl _ _
    · refine Keeps.ite (fun _ => ?_) (fun _ => ?_)
      · refine Keeps.trans ?_ (State.ince_keeps1 ..) (by decide +kernel)
        exact Keeps.refl _ _
      · refine Keeps.ite (fun _ => ?_) (fun _ => ?_)
        · exact Keeps.refl _ _
        · dsimp only
          refine Keeps.optT ?_ (fun _ => ?_)
          · refine Keeps.trans ?_ (State.ince_keeps1 ..) (by decide +kernel)
            exact Keeps.refl _ _
          · refine Keeps.optE ?_ (fun _ => ?_)
            · refine Keeps.ite (fun _ => ?_) (fun _ => ?_)
              · refine Keeps.trans ?_ (State.inc_keeps1 ..) (by decide +kernel)
                exact Keeps.refl _ _
              · exact Keeps.refl _ _
            · refine Keeps.trans ?_ (State.relayFrame_keeps ..) (by decide +kernel)
              exact Keeps.refl _ _

theorem State.ownOut_keeps (s : State) (p : Nat) (o : Output) (slot : Option Nat) : Keeps ⟨[.out, .net],
    []⟩ s (State.ownOut s p o slot) := by
  unfold State.ownOut
  split
  · dsimp only
    refine Keeps.trans ?_ (State.emit_keeps ..) (by decide +kernel)
    refine Keeps.trans ?_ (State.putSlot_keeps ..) (by decide +kernel)
    exact Keeps.refl _ _
  · refine Keeps.trans ?_ (State.emit_keeps ..) (by decide +kernel)
    exact Keeps.refl _ _

theorem State.relayOut_keeps (s : State) (p : Nat) : Keeps ⟨[.out, .net], [(0x80020A, 0x80020A)]⟩ s
    (State.relayOut s p) := by
  unfold State.relayOut
  split
  · exact Keeps.refl _ _
  · dsimp only
    split
    · refine Keeps.trans ?_ (State.ownOut_keeps ..) (by decide +kernel)
      refine Keeps.upd ?_ (hnt := Or.inl (by decide +kernel))
      exact Keeps.refl _ _
    · refine Keeps.ite (fun _ => ?_) (fun _ => ?_)
      · refine Keeps.trans ?_ (State.inc_keeps1 ..) (by decide +kernel)
        refine Keeps.trans ?_ (State.emit_keeps ..) (by decide +kernel)
        refine Keeps.upd ?_ (hnt := Or.inl (by decide +kernel))
        exact Keeps.refl _ _
      · refine Keeps.trans ?_ (State.emit_keeps ..) (by decide +kernel)
        refine Keeps.upd ?_ (hnt := Or.inl (by decide +kernel))
        exact Keeps.refl _ _
    · refine Keeps.trans ?_ (State.emit_keeps ..) (by decide +kernel)
      refine Keeps.upd ?_ (hnt := Or.inl (by decide +kernel))
      exact Keeps.refl _ _

theorem State.ethLink_keeps (s : State) (p : Nat) (up : Bool) : Keeps ⟨[.out, .net], [(0x802002,
    0x802002)]⟩ s (State.ethLink s p up) := by
  unfold State.ethLink
  refine Keeps.ite (fun _ => ?_) (fun _ => ?_)
  · exact Keeps.refl _ _
  · dsimp only
    refine Keeps.optE ?_ (fun _ => ?_)
    · refine Keeps.trans ?_ (State.pute_keeps1 ..) (by decide +kernel)
      exact Keeps.refl _ _
    · split
      · split
        · refine Keeps.optT ?_ (fun _ => ?_)
          · refine Keeps.optT ?_ (fun _ => ?_)
            · refine Keeps.trans ?_ (State.sendMld_keeps ..) (by decide +kernel)
              exact Keeps.refl _ _
            · refine Keeps.trans ?_ (State.sendDad_keeps ..) (by decide +kernel)
              exact Keeps.refl _ _
          · refine Keeps.trans ?_ (State.sendDad_keeps ..) (by decide +kernel)
            exact Keeps.refl _ _
        · refine Keeps.optT ?_ (fun _ => ?_)
          · refine Keeps.trans ?_ (State.sendMld_keeps ..) (by decide +kernel)
            exact Keeps.refl _ _
          · refine Keeps.trans ?_ (State.sendDad_keeps ..) (by decide +kernel)
            exact Keeps.refl _ _
      · split
        · refine Keeps.optT ?_ (fun _ => ?_)
          · refine Keeps.optT ?_ (fun _ => ?_)
            · refine Keeps.trans ?_ (State.sendMld_keeps ..) (by decide +kernel)
              exact Keeps.refl _ _
            · refine Keeps.trans ?_ (State.sendDad_keeps ..) (by decide +kernel)
              exact Keeps.refl _ _
          · refine Keeps.trans ?_ (State.sendDad_keeps ..) (by decide +kernel)
            exact Keeps.refl _ _
        · refine Keeps.optT ?_ (fun _ => ?_)
          · refine Keeps.trans ?_ (State.sendMld_keeps ..) (by decide +kernel)
            exact Keeps.refl _ _
          · refine Keeps.trans ?_ (State.sendDad_keeps ..) (by decide +kernel)
            exact Keeps.refl _ _

theorem State.ownSpeed_keeps (s : State) (p : Nat) (v : Nat) : Keeps ⟨[.memory], [(0x802001, 0x802002)]⟩
    s (State.ownSpeed s p v) := by
  unfold State.ownSpeed
  dsimp only
  refine Keeps.optT ?_ (fun _ => ?_)
  · refine Keeps.trans ?_ (State.putKept_keeps1 ..) (by decide +kernel)
    exact Keeps.refl _ _
  · refine Keeps.trans ?_ (State.pute_keeps1 ..) (by decide +kernel)
    exact Keeps.refl _ _

end Sys2Proof.Machine
end

