-- ==== Sys2Proof/Laws/Keeps/Mgmt.lean ====
section
/-! SUPPORT. What each operation of Machine/Mgmt.lean may change. -/

set_option Elab.async false

namespace Sys2Proof.Machine

theorem State.sendOut_keeps (s : State) (path : Nat) (peer : Bytes) (msg : Bytes) : Keeps ⟨[.out, .net],
    []⟩ s (State.sendOut s path peer msg) := by
  unfold State.sendOut
  refine Keeps.ite (fun _ => ?_) (fun _ => ?_)
  · refine Keeps.trans ?_ (State.emit_keeps ..) (by decide +kernel)
    exact Keeps.refl _ _
  · refine Keeps.trans ?_ (State.sendOwn_keeps ..) (by decide +kernel)
    exact Keeps.refl _ _

theorem State.putMaster_keeps (s : State) (m : Nat) (x : Master) : Keeps ⟨[.mgmt], []⟩ s
    (State.putMaster s m x) := by
  unfold State.putMaster
  refine Keeps.upd ?_ (hmg := Or.inl (by decide +kernel))
  exact Keeps.refl _ _

theorem State.putSession_keeps (s : State) (m : Nat) (x : Session) : Keeps ⟨[.mgmt], []⟩ s
    (State.putSession s m x) := by
  unfold State.putSession
  refine Keeps.trans ?_ (State.putMaster_keeps ..) (by decide +kernel)
  exact Keeps.refl _ _

theorem State.sendIn_keeps (s : State) (m : Nat) (type : Nat) (body : Bytes) : Keeps ⟨[.out, .mgmt,
    .net], []⟩ s (State.sendIn s m type body).2 := by
  refine Keeps.pair (by unfold State.sendIn; dsimp only) ?_
  split
  · dsimp only
    exact Keeps.refl _ _
  · dsimp only
    refine Keeps.trans ?_ (State.sendOut_keeps ..) (by decide +kernel)
    refine Keeps.trans ?_ (State.putSession_keeps ..) (by decide +kernel)
    exact Keeps.refl _ _

theorem State.holdReply_keeps (s : State) (m : Nat) (req : Nat) (msg : Bytes) : Keeps ⟨[.mgmt], []⟩ s
    (State.holdReply s m req msg) := by
  unfold State.holdReply
  split
  · exact Keeps.refl _ _
  · refine Keeps.trans ?_ (State.putSession_keeps ..) (by decide +kernel)
    exact Keeps.refl _ _

theorem State.reply_keeps (s : State) (m : Nat) (req : Nat) (code : Nat) (items : List (Nat × Bytes))
    (extra : Bytes) : Keeps ⟨[.out, .mgmt, .net], []⟩ s (State.reply s m req code items extra) := by
  unfold State.reply
  split
  refine Keeps.optT ?_ (fun _ => ?_)
  · refine Keeps.snd (by assumption) ?_
    refine Keeps.trans ?_ (State.sendIn_keeps ..) (by decide +kernel)
    exact Keeps.refl _ _
  · refine Keeps.trans ?_ (State.holdReply_keeps ..) (by decide +kernel)
    exact Keeps.refl _ _

theorem State.replyIn_keeps (s : State) (m : Nat) (id : Nat) (seq : Nat) (code : Nat) (items : List (Nat
    × Bytes)) (extra : Bytes) : Keeps ⟨[.out, .mgmt, .net], []⟩ s (State.replyIn s m id seq code items
    extra) := by
  unfold State.replyIn
  refine Keeps.ite (fun _ => ?_) (fun _ => ?_)
  · refine Keeps.trans ?_ (State.reply_keeps ..) (by decide +kernel)
    exact Keeps.refl _ _
  · exact Keeps.refl _ _

theorem State.answer_keeps (s : State) (h : Handoff) : Keeps ⟨[.out, .mgmt, .net], []⟩ s (State.answer s
    h) := by
  unfold State.answer
  refine Keeps.ite (fun _ => ?_) (fun _ => ?_)
  · refine Keeps.upd ?_ (hmg := Or.inl (by decide +kernel))
    exact Keeps.refl _ _
  · refine Keeps.trans ?_ (State.replyIn_keeps ..) (by decide +kernel)
    exact Keeps.refl _ _

theorem State.gateAnswer_keeps (s : State) (refused : Bool) : Keeps ⟨[.out, .mgmt, .net], []⟩ s
    (State.gateAnswer s refused) := by
  unfold State.gateAnswer
  split
  · exact Keeps.refl _ _
  · dsimp only
    split
    · refine Keeps.trans ?_ (State.answer_keeps ..) (by decide +kernel)
      refine Keeps.upd ?_ (hmg := Or.inl (by decide +kernel))
      exact Keeps.refl _ _
    · refine Keeps.upd ?_ (hmg := Or.inl (by decide +kernel))
      exact Keeps.refl _ _

theorem State.gateFails_keeps (s : State) : Keeps ⟨[.out, .clock, .mgmt, .net], [(0x000000, 0xFFFFFF)]⟩
    s (State.gateFails s) := by
  unfold State.gateFails
  refine Keeps.trans ?_ (State.gateAnswer_keeps ..) (by decide +kernel)
  refine Keeps.trans ?_ (State.gateAbandon_keeps ..) (by decide +kernel)
  exact Keeps.refl _ _

theorem State.refuse_keeps (s : State) (m : Nat) (o : Nat) (e : Nat) (k : Nat) (code : Nat) : Keeps
    ⟨[.mgmt, .logs], [(0x101103, 0x101103), (0x101106, 0x101106), (0x180003, 0x180003)]⟩ s (State.refuse
    s m o e k code) := by
  unfold State.refuse
  dsimp only
  refine Keeps.optE ?_ (fun _ => ?_)
  · refine Keeps.ite (fun _ => ?_) (fun _ => ?_)
    · refine Keeps.trans ?_ (State.inc_keeps1 ..) (by decide +kernel)
      exact Keeps.refl _ _
    · exact Keeps.refl _ _
  · refine Keeps.ite (fun _ => ?_) (fun _ => ?_)
    · refine Keeps.trans ?_ (State.inc_keeps1 ..) (by decide +kernel)
      refine Keeps.trans ?_ (State.putMaster_keeps ..) (by decide +kernel)
      exact Keeps.refl _ _
    · refine Keeps.trans ?_ (State.put_keeps1 ..) (by decide +kernel)
      refine Keeps.upd ?_ (hlg := Or.inl (by decide +kernel))
      refine Keeps.trans ?_ (State.putMaster_keeps ..) (by decide +kernel)
      exact Keeps.refl _ _

theorem State.refuseMsg_keeps (s : State) (m : Nat) (code : Nat) : Keeps ⟨[.mgmt, .logs], [(0x101103,
    0x101103), (0x101106, 0x101106), (0x180003, 0x180003)]⟩ s (State.refuseMsg s m code) := by
  unfold State.refuseMsg
  refine Keeps.trans ?_ (State.refuse_keeps ..) (by decide +kernel)
  exact Keeps.refl _ _

theorem State.putChord_keeps (s : State) (n : Nat) (x : Chord) : Keeps ⟨[.mgmt], []⟩ s (State.putChord s
    n x) := by
  unfold State.putChord
  refine Keeps.upd ?_ (hmg := Or.inl (by decide +kernel))
  exact Keeps.refl _ _

theorem State.freeChord_keeps (s : State) (n : Nat) : Keeps ⟨[.mgmt], []⟩ s (State.freeChord s n) := by
  unfold State.freeChord
  dsimp only
  refine Keeps.trans ?_ (State.putChord_keeps ..) (by decide +kernel)
  exact Keeps.refl _ _

theorem State.abortSlot_keeps (s : State) (n : Nat) (idle : Bool) : Keeps ⟨[.out, .clock, .mgmt],
    [(0x101105, 0x101105), (0x101107, 0x101107), (0x103003, 0x103003)]⟩ s (State.abortSlot s n idle) :=
    by
  unfold State.abortSlot
  dsimp only
  refine Keeps.optE ?_ (fun _ => ?_)
  · refine Keeps.trans ?_ (State.inc_keeps1 ..) (by decide +kernel)
    refine Keeps.trans ?_ (State.putChord_keeps ..) (by decide +kernel)
    exact Keeps.refl _ _
  · refine Keeps.trans ?_ (State.event_keeps ..) (by decide +kernel)
    exact Keeps.refl _ _

theorem State.abortChords_keeps (s : State) (m : Nat) (session : Nat) : Keeps ⟨[.out, .clock, .mgmt],
    [(0x101105, 0x101105), (0x101107, 0x101107), (0x103003, 0x103003)]⟩ s (State.abortChords s m
    session) := by
  unfold State.abortChords
  refine Keeps.foldl ?_ (fun _ _ => ?_)
  · exact Keeps.refl _ _
  · dsimp only
    refine Keeps.ite (fun _ => ?_) (fun _ => ?_)
    · refine Keeps.trans ?_ (State.abortSlot_keeps ..) (by decide +kernel)
      exact Keeps.refl _ _
    · exact Keeps.refl _ _

theorem State.closeSession_keeps (s : State) (m : Nat) : Keeps ⟨[.out, .clock, .mgmt], [(0x101105,
    0x101105), (0x101107, 0x101107), (0x103003, 0x103003)]⟩ s (State.closeSession s m) := by
  unfold State.closeSession
  split
  · exact Keeps.refl _ _
  · refine Keeps.trans ?_ (State.abortChords_keeps ..) (by decide +kernel)
    refine Keeps.trans ?_ (State.putMaster_keeps ..) (by decide +kernel)
    exact Keeps.refl _ _

theorem State.sessionLapses_keeps (s : State) (m : Nat) : Keeps ⟨[.out, .clock, .mgmt], [(0x101105,
    0x101105), (0x101107, 0x101107), (0x103003, 0x103003)]⟩ s (State.sessionLapses s m) := by
  unfold State.sessionLapses
  refine Keeps.ite (fun _ => ?_) (fun _ => ?_)
  · refine Keeps.trans ?_ (State.closeSession_keeps ..) (by decide +kernel)
    exact Keeps.refl _ _
  · refine Keeps.trans ?_ (State.putMaster_keeps ..) (by decide +kernel)
    exact Keeps.refl _ _

theorem State.closeMaster_keeps (s : State) (m : Nat) : Keeps ⟨[.out, .clock, .mgmt], [(0x101105,
    0x101105), (0x101107, 0x101107), (0x103003, 0x103003)]⟩ s (State.closeMaster s m) := by
  unfold State.closeMaster
  dsimp only
  refine Keeps.trans ?_ (State.putMaster_keeps ..) (by decide +kernel)
  refine Keeps.trans ?_ (State.closeSession_keeps ..) (by decide +kernel)
  exact Keeps.refl _ _

theorem State.ownKey_keeps (s : State) (m : Nat) (key : Bytes) : Keeps ⟨[.out, .blobs, .memory, .clock,
    .mgmt], [(0x101105, 0x101105), (0x101107, 0x101107), (0x103003, 0x103003)]⟩ s (State.ownKey s m key)
    := by
  unfold State.ownKey
  refine Keeps.trans ?_ (State.closeMaster_keeps ..) (by decide +kernel)
  refine Keeps.trans ?_ (State.putBlobKept_keeps ..) (by decide +kernel)
  exact Keeps.refl _ _

theorem State.ownPath_keeps (s : State) (network : Bool) (v : Nat) : Keeps ⟨[.out, .memory, .clock,
    .mgmt], [(0x100000, 0x1000FF), (0x101105, 0x101105), (0x101107, 0x101107), (0x103003, 0x103003)]⟩ s
    (State.ownPath s network v) := by
  unfold State.ownPath
  dsimp only
  refine Keeps.optT ?_ (fun _ => ?_)
  · refine Keeps.trans ?_ (State.putKept_keepsO ..) (by decide +kernel)
    exact Keeps.refl _ _
  · refine Keeps.ite (fun _ => ?_) (fun _ => ?_)
    · refine Keeps.foldl ?_ (fun _ _ => ?_)
      · exact Keeps.refl _ _
      · refine Keeps.trans ?_ (State.closeMaster_keeps ..) (by decide +kernel)
        exact Keeps.refl _ _
    · refine Keeps.trans ?_ (State.closeMaster_keeps ..) (by decide +kernel)
      exact Keeps.refl _ _

theorem State.sendBatches_keeps (s : State) (m : Nat) (es : List Event) (fuel : Nat) :
    Keeps ⟨[.out, .mgmt, .net], []⟩ s (s.sendBatches m es fuel) := by
  induction fuel generalizing s es with
  | zero => exact Keeps.refl _ _
  | succ fuel ih =>
    unfold State.sendBatches
    refine Keeps.ite (fun _ => Keeps.refl _ _) (fun _ => ?_)
    refine Keeps.trans ?_ (ih _ _) (Foot.sub_refl _)
    refine Keeps.upd ?_ (hmg := Or.inl (by decide +kernel))
    exact (State.sendIn_keeps ..).mono (by decide +kernel)

theorem State.sendEvents_keeps (s : State) (m : Nat) : Keeps ⟨[.out, .mgmt, .net], []⟩ s
    (State.sendEvents s m) := by
  unfold State.sendEvents
  refine Keeps.ite (fun _ => ?_) (fun _ => ?_)
  · exact Keeps.refl _ _
  · dsimp only
    refine Keeps.trans ?_ (State.sendBatches_keeps ..) (by decide +kernel)
    exact Keeps.refl _ _

theorem State.ackEvents_keeps (s : State) (m : Nat) (n : Nat) : Keeps ⟨[.out, .clock, .mgmt],
    [(0x103004, 0x103004)]⟩ s (State.ackEvents s m n) := by
  unfold State.ackEvents
  dsimp only
  refine Keeps.trans ?_ (State.updateHirq_keeps ..) (by decide +kernel)
  refine Keeps.optE ?_ (fun _ => ?_)
  · refine Keeps.upd ?_ (hmg := Or.inl (by decide +kernel))
    exact Keeps.refl _ _
  · refine Keeps.trans ?_ (State.pute_keeps1 ..) (by decide +kernel)
    exact Keeps.refl _ _

theorem State.openActive_keeps (s : State) (m : Nat) (x : Session) : Keeps ⟨[.out, .clock, .mgmt, .net],
    [(0x101105, 0x101105), (0x101107, 0x101107), (0x103003, 0x103003)]⟩ s (State.openActive s m x) := by
  unfold State.openActive
  dsimp only
  refine Keeps.trans ?_ (State.sendEvents_keeps ..) (by decide +kernel)
  refine Keeps.upd ?_ (hmg := Or.inl (by decide +kernel))
  refine Keeps.trans ?_ (State.putMaster_keeps ..) (by decide +kernel)
  refine Keeps.trans ?_ (State.closeSession_keeps ..) (by decide +kernel)
  exact Keeps.refl _ _

theorem State.ownFwImage_keeps (s : State) (slot : Nat) (offset : Nat) (data : Bytes) : Keeps ⟨[.memory,
    .mgmt], [(0x900005, 0x900005), (0x910002, 0x910004)]⟩ s (State.ownFwImage s slot offset data) := by
  unfold State.ownFwImage
  dsimp only
  refine Keeps.trans ?_ (State.pute_keeps1 ..) (by decide +kernel)
  refine Keeps.trans ?_ (State.pute_keeps1 ..) (by decide +kernel)
  refine Keeps.trans ?_ (State.pute_keeps1 ..) (by decide +kernel)
  refine Keeps.upd ?_ (hmg := Or.inl (by decide +kernel))
  refine Keeps.foldl ?_ (fun _ _ => ?_)
  · exact Keeps.refl _ _
  · refine Keeps.trans ?_ (State.wearBlock_keeps ..) (by decide +kernel)
    exact Keeps.refl _ _

theorem State.ownVerify_keeps (s : State) (v : Nat) : Keeps ⟨[.mgmt], []⟩ s (State.ownVerify s v) := by
  unfold State.ownVerify
  refine Keeps.upd ?_ (hmg := Or.inl (by decide +kernel))
  exact Keeps.refl _ _

theorem State.verifyDone_keeps (s : State) (slot : Nat) : Keeps ⟨[.out, .clock, .mgmt], [(0x101107,
    0x101107), (0x103003, 0x103003), (0x910002, 0x910002), (0x910203, 0x910203)]⟩ s (State.verifyDone s
    slot) := by
  unfold State.verifyDone
  refine Keeps.ite (fun _ => ?_) (fun _ => ?_)
  · exact Keeps.refl _ _
  · dsimp only
    refine Keeps.optT ?_ (fun _ => ?_)
    · refine Keeps.optT ?_ (fun _ => ?_)
      · refine Keeps.upd ?_ (hmg := Or.inl (by decide +kernel))
        exact Keeps.refl _ _
      · refine Keeps.trans ?_ (State.pute_keeps1 ..) (by decide +kernel)
        exact Keeps.refl _ _
    · refine Keeps.trans ?_ (State.event_keeps ..) (by decide +kernel)
      refine Keeps.trans ?_ (State.inc_keeps1 ..) (by decide +kernel)
      exact Keeps.refl _ _

theorem State.ownSwitch_keeps (s : State) (v : Nat) : Keeps ⟨[.mgmt, .health], [(0x910106, 0x910106)]⟩ s
    (State.ownSwitch s v) := by
  unfold State.ownSwitch
  refine Keeps.trans ?_ (State.put_keeps1 ..) (by decide +kernel)
  refine Keeps.trans ?_ (State.calEnd_keeps ..) (by decide +kernel)
  refine Keeps.upd ?_ (hmg := Or.inl (by decide +kernel))
  exact Keeps.refl _ _

theorem State.handedOver_keeps (s : State) (slot : Nat) (start : Nat) : Keeps ⟨[.mgmt], [(0x910002,
    0x910002), (0x910105, 0x910107), (0x910201, 0x910201)]⟩ s (State.handedOver s slot start) := by
  unfold State.handedOver
  dsimp only
  refine Keeps.trans ?_ (State.inc_keeps1 ..) (by decide +kernel)
  refine Keeps.trans ?_ (State.put_keeps1 ..) (by decide +kernel)
  refine Keeps.trans ?_ (State.put_keeps1 ..) (by decide +kernel)
  refine Keeps.trans ?_ (State.put_keeps1 ..) (by decide +kernel)
  refine Keeps.trans ?_ (State.pute_keeps1 ..) (by decide +kernel)
  refine Keeps.trans ?_ (State.pute_keeps1 ..) (by decide +kernel)
  refine Keeps.upd ?_ (hmg := Or.inl (by decide +kernel))
  exact Keeps.refl _ _

theorem State.handoverFails_keeps (s : State) : Keeps ⟨[.out, .clock, .mgmt], [(0x101107, 0x101107),
    (0x103003, 0x103003), (0x910106, 0x910106), (0x910202, 0x910202)]⟩ s (State.handoverFails s) := by
  unfold State.handoverFails
  refine Keeps.trans ?_ (State.event_keeps ..) (by decide +kernel)
  refine Keeps.trans ?_ (State.inc_keeps1 ..) (by decide +kernel)
  refine Keeps.trans ?_ (State.put_keeps1 ..) (by decide +kernel)
  refine Keeps.upd ?_ (hmg := Or.inl (by decide +kernel))
  exact Keeps.refl _ _

theorem State.takeOver_keeps (s : State) : Keeps ⟨[.memory, .mgmt, .health, .logs], [(0x180002,
    0x180002), (0x180101, 0x180103), (0x900005, 0x900005), (0x910106, 0x910106), (0x910205, 0x910205)]⟩
    s (State.takeOver s) := by
  unfold State.takeOver
  dsimp only
  refine Keeps.trans ?_ (State.log_keeps ..) (by decide +kernel)
  refine Keeps.trans ?_ (State.inc_keeps1 ..) (by decide +kernel)
  refine Keeps.trans ?_ (State.calEnd_keeps ..) (by decide +kernel)
  refine Keeps.optE ?_ (fun _ => ?_)
  · refine Keeps.upd ?_ (hmg := Or.inl (by decide +kernel))
    exact Keeps.refl _ _
  · refine Keeps.trans ?_ (State.put_keeps1 ..) (by decide +kernel)
    exact Keeps.refl _ _

theorem State.bootFirmware_keeps (s : State) : Keeps ⟨[.out, .clock, .mgmt], [(0x101107, 0x101107),
    (0x103003, 0x103003), (0x910002, 0x910002), (0x910105, 0x910105), (0x910204, 0x910204)]⟩ s
    (State.bootFirmware s) := by
  unfold State.bootFirmware
  dsimp only
  refine Keeps.ite (fun _ => ?_) (fun _ => ?_)
  · refine Keeps.trans ?_ (State.put_keeps1 ..) (by decide +kernel)
    refine Keeps.trans ?_ (State.pute_keeps1 ..) (by decide +kernel)
    refine Keeps.trans ?_ (State.pute_keeps1 ..) (by decide +kernel)
    refine Keeps.trans ?_ (State.pute_keeps1 ..) (by decide +kernel)
    exact Keeps.refl _ _
  · refine Keeps.optE ?_ (fun _ => ?_)
    · refine Keeps.trans ?_ (State.pute_keeps1 ..) (by decide +kernel)
      refine Keeps.trans ?_ (State.pute_keeps1 ..) (by decide +kernel)
      exact Keeps.refl _ _
    · refine Keeps.trans ?_ (State.event_keeps ..) (by decide +kernel)
      refine Keeps.trans ?_ (State.put_keeps1 ..) (by decide +kernel)
      refine Keeps.trans ?_ (State.pute_keeps1 ..) (by decide +kernel)
      refine Keeps.trans ?_ (State.inc_keeps1 ..) (by decide +kernel)
      exact Keeps.refl _ _

end Sys2Proof.Machine
end

