-- ==== Sys2Proof/Laws/Keeps/Startup.lean ====
section
/-! SUPPORT. What each operation of Machine/Startup.lean may change. -/

set_option Elab.async false

namespace Sys2Proof.Machine

theorem State.afterReset_keeps (s : State) : Keeps ⟨[.now, .out, .blobs, .ingress, .codec, .comp, .ray, .seq, .panel, .bridge, .loop, .lanes, .memory, .clock, .mgmt, .net, .health, .logs, .tapIr], [(0x000000, 0xFFFFFF)]⟩ s (State.afterReset s) := by
  constructor
  case sound =>
    rintro ⟨h1, -, -⟩
    refine ⟨?_, rfl, rfl⟩
    simp only [State.dictOk, Bool.and_eq_true, List.all_eq_true, State.afterReset] at *
    exact ⟨keysRise_filter _ h1.1, fun e he => h1.2 e (List.mem_filter.1 he).1⟩
  case keys => exact fun k hk => absurd hk (Foot.all_keys _ k)
  case pending => rfl
  case freeIdx => exact Nat.le_refl _
  all_goals exact Or.inl (by decide +kernel)

theorem State.showLevels_keeps (s : State) (before : State) : Keeps ⟨[], [(0x580104, 0x580104),
    (0x900005, 0x900005)]⟩ s (State.showLevels s before) := by
  unfold State.showLevels
  refine Keeps.trans ?_ (State.put_keeps1 ..) (by decide +kernel)
  refine Keeps.trans ?_ (State.put_keeps1 ..) (by decide +kernel)
  exact Keeps.refl _ _

theorem State.resetAssert_keeps (s : State) : Keeps ⟨[.now, .out, .blobs, .ingress, .codec, .comp, .ray,
    .seq, .panel, .bridge, .loop, .lanes, .memory, .clock, .mgmt, .net, .health, .logs, .tapIr],
    [(0x000000, 0xFFFFFF)]⟩ s (State.resetAssert s) := by
  unfold State.resetAssert
  dsimp only
  refine Keeps.trans ?_ (State.emits_keeps ..) (by decide +kernel)
  refine Keeps.trans ?_ (State.showLevels_keeps ..) (by decide +kernel)
  refine Keeps.trans ?_ (State.afterReset_keeps ..) (by decide +kernel)
  exact Keeps.refl _ _

theorem State.powerFailLogged_keeps (s : State) : Keeps ⟨[.out, .codec, .ray, .seq, .panel, .bridge,
    .loop, .lanes, .memory, .clock, .mgmt, .health, .logs], [(0x101107, 0x101107), (0x103003, 0x103003),
    (0x180002, 0x180002), (0x180101, 0x180103), (0x189001, 0x189001), (0x201001, 0x201001), (0x201004,
    0x201004), (0x280207, 0x280207), (0x283002, 0x283005), (0x283101, 0x283101), (0x500102, 0x500106),
    (0x58000A, 0x58000A), (0x580101, 0x580101), (0x580104, 0x580105), (0x580201, 0x580201), (0x580203,
    0x580204), (0x600103, 0x600103), (0x600201, 0x600201), (0x680101, 0x680101), (0x680103, 0x680106),
    (0x68010C, 0x68010D), (0x680206, 0x680206), (0x681003, 0x681003), (0x681006, 0x681007), (0x68100A,
    0x68100A), (0x70020C, 0x70020C), (0x700309, 0x700309), (0x701001, 0x701001), (0x701003, 0x701003),
    (0x701006, 0x701006), (0x900005, 0x900005)]⟩ s (State.powerFailLogged s) := by
  unfold State.powerFailLogged
  refine Keeps.trans ?_ (State.powerFail_keeps ..) (by decide +kernel)
  refine Keeps.trans ?_ (State.log_keeps ..) (by decide +kernel)
  exact Keeps.refl _ _

theorem State.resetRelease_keeps (s : State) (t : Nat) : Keeps ⟨[.now, .out, .blobs, .ingress, .codec,
    .comp, .ray, .seq, .panel, .bridge, .loop, .lanes, .memory, .clock, .mgmt, .net, .health, .logs,
    .tapIr], [(0x000000, 0xFFFFFF)]⟩ s (State.resetRelease s t) := by
  unfold State.resetRelease
  dsimp only
  refine Keeps.optE ?_ (fun _ => ?_)
  · refine Keeps.trans ?_ (State.coreOnHclk_keeps ..) (by decide +kernel)
    refine Keeps.trans ?_ (State.put_keeps1 ..) (by decide +kernel)
    refine Keeps.trans ?_ (State.putStep_keeps ..) (by decide +kernel)
    refine Keeps.trans ?_ (State.putStep_keeps ..) (by decide +kernel)
    refine Keeps.upd ?_ (hn := Or.inl (by decide +kernel)) (hck := Or.inl (by decide +kernel)) (hlg := Or.inl (by decide +kernel))
    refine Keeps.trans ?_ (State.showLevels_keeps ..) (by decide +kernel)
    refine Keeps.trans ?_ (State.afterReset_keeps ..) (by decide +kernel)
    exact Keeps.refl _ _
  · refine Keeps.trans ?_ (State.powerFailLogged_keeps ..) (by decide +kernel)
    exact Keeps.refl _ _

theorem State.restoreRecord_keeps (s : State) (x : Nat × Bool × Bool) : Keeps ⟨[.memory], [(0x900001,
    0x900001), (0x900004, 0x900005)]⟩ s (State.restoreRecord s x) := by
  unfold State.restoreRecord
  dsimp only
  refine Keeps.ite (fun _ => ?_) (fun _ => ?_)
  · exact Keeps.refl _ _
  · refine Keeps.ite (fun _ => ?_) (fun _ => ?_)
    · refine Keeps.trans ?_ (State.putBit_keeps1 ..) (by decide +kernel)
      refine Keeps.upd ?_ (hme := Or.inl (by decide +kernel))
      exact Keeps.refl _ _
    · refine Keeps.trans ?_ (State.inc_keeps1 ..) (by decide +kernel)
      refine Keeps.trans ?_ (State.wearRecord_keeps ..) (by decide +kernel)
      refine Keeps.trans ?_ (State.wearRecord_keeps ..) (by decide +kernel)
      refine Keeps.upd ?_ (hme := Or.inl (by decide +kernel))
      exact Keeps.refl _ _

theorem State.loadTuning_keeps (s : State) (k : Nat) (older : Bool) : Keeps ⟨[.bridge, .memory], []⟩ s
    (State.loadTuning s k older) := by
  unfold State.loadTuning
  refine Keeps.ite (fun _ => ?_) (fun _ => ?_)
  · dsimp only
    refine Keeps.upd ?_ (hb := Or.inl (by decide +kernel))
    exact Keeps.refl _ _
  · refine Keeps.ite (fun _ => ?_) (fun _ => ?_)
    · exact Keeps.refl _ _
    · refine Keeps.trans ?_ (State.putChan_keeps ..) (by decide +kernel)
      exact Keeps.refl _ _

theorem State.rewriteTuning_keeps (s : State) (k : Nat) (q : Nat × Nat) (first : Bool) : Keeps
    ⟨[.memory], [(0x900004, 0x900005)]⟩ s (State.rewriteTuning s k q first) := by
  unfold State.rewriteTuning
  dsimp only
  refine Keeps.trans ?_ (State.inc_keeps1 ..) (by decide +kernel)
  refine Keeps.trans ?_ (State.wearBlock_keeps ..) (by decide +kernel)
  refine Keeps.trans ?_ (State.wearBlock_keeps ..) (by decide +kernel)
  refine Keeps.upd ?_ (hme := Or.inl (by decide +kernel))
  exact Keeps.refl _ _

theorem State.restoreTuning_keeps (s : State) (x : Nat × Bool × Bool) : Keeps ⟨[.bridge, .memory],
    [(0x900001, 0x900001), (0x900004, 0x900005)]⟩ s (State.restoreTuning s x) := by
  unfold State.restoreTuning
  dsimp only
  split
  · exact Keeps.refl _ _
  · refine Keeps.ite (fun _ => ?_) (fun _ => ?_)
    · exact Keeps.refl _ _
    · refine Keeps.ite (fun _ => ?_) (fun _ => ?_)
      · refine Keeps.trans ?_ (State.putBit_keeps1 ..) (by decide +kernel)
        refine Keeps.trans ?_ (State.loadTuning_keeps ..) (by decide +kernel)
        refine Keeps.upd ?_ (hme := Or.inl (by decide +kernel))
        exact Keeps.refl _ _
      · refine Keeps.trans ?_ (State.rewriteTuning_keeps ..) (by decide +kernel)
        refine Keeps.ite (fun _ => ?_) (fun _ => ?_)
        · exact Keeps.refl _ _
        · refine Keeps.trans ?_ (State.loadTuning_keeps ..) (by decide +kernel)
          exact Keeps.refl _ _

theorem State.cutHalf_keeps (s : State) (h : Nat) (bad : Option Nat) : Keeps ⟨[.memory], [(0x900006,
    0x900006)]⟩ s (State.cutHalf s h bad) := by
  unfold State.cutHalf
  split
  · exact Keeps.refl _ _
  · dsimp only
    refine Keeps.trans ?_ (State.add_keeps1 ..) (by decide +kernel)
    refine Keeps.trans ?_ (State.putHalfEntries_keeps ..) (by decide +kernel)
    exact Keeps.refl _ _

theorem State.replayJournal_keeps (s : State) : Keeps ⟨[.memory], [(0x900001, 0x900001)]⟩ s
    (State.replayJournal s) := by
  unfold State.replayJournal
  dsimp only
  refine Keeps.ite (fun _ => ?_) (fun _ => ?_)
  · exact Keeps.refl _ _
  · refine Keeps.trans ?_ (State.putBit_keeps1 ..) (by decide +kernel)
    refine Keeps.foldl ?_ (fun _ _ => ?_)
    · exact Keeps.refl _ _
    · refine Keeps.trans ?_ (State.applyEntry_keeps ..) (by decide +kernel)
      exact Keeps.refl _ _

theorem State.loadKept_keeps (s : State) : Keeps ⟨[.blobs], [(0x000000, 0xFFFFFF)]⟩ s (State.loadKept s)
    := by
  unfold State.loadKept
  dsimp only
  refine Keeps.foldl ?_ (fun _ _ => ?_)
  · refine Keeps.foldl ?_ (fun _ _ => ?_)
    · exact Keeps.refl _ _
    · refine Keeps.trans ?_ (State.pute_keepsA ..) (by decide +kernel)
      exact Keeps.refl _ _
  · refine Keeps.trans ?_ (State.putBlob_keeps ..) (by decide +kernel)
    exact Keeps.refl _ _

theorem State.loadFences_keeps (s : State) : Keeps ⟨[.seq, .health], [(0x000000, 0xFFFFFF)]⟩ s
    (State.loadFences s) := by
  unfold State.loadFences
  dsimp only
  refine Keeps.trans ?_ (State.showUnits_keeps ..) (by decide +kernel)
  refine Keeps.trans ?_ (State.showClanes_keeps ..) (by decide +kernel)
  refine Keeps.foldl ?_ (fun _ _ => ?_)
  · refine Keeps.trans ?_ (State.promote_keeps ..) (by decide +kernel)
    refine Keeps.trans ?_ (State.promote_keeps ..) (by decide +kernel)
    refine Keeps.foldl ?_ (fun _ _ => ?_)
    · refine Keeps.foldl ?_ (fun _ _ => ?_)
      · exact Keeps.refl _ _
      · refine Keeps.trans ?_ (State.pute_keepsA ..) (by decide +kernel)
        exact Keeps.refl _ _
    · refine Keeps.trans ?_ (State.pute_keepsA ..) (by decide +kernel)
      exact Keeps.refl _ _
  · refine Keeps.trans ?_ (State.clanRest_keeps ..) (by decide +kernel)
    exact Keeps.refl _ _

theorem State.restoreDone_keeps (s : State) (d : RestoreDamage) : Keeps ⟨[.blobs, .seq, .bridge,
    .memory, .health, .logs], [(0x000000, 0xFFFFFF)]⟩ s (State.restoreDone s d) := by
  unfold State.restoreDone
  refine Keeps.ite (fun _ => ?_) (fun _ => ?_)
  · dsimp only
    refine Keeps.trans ?_ (State.putStep_keeps ..) (by decide +kernel)
    refine Keeps.optE ?_ (fun _ => ?_)
    · refine Keeps.trans ?_ (State.showRecord_keeps ..) (by decide +kernel)
      refine Keeps.trans ?_ (State.loadFences_keeps ..) (by decide +kernel)
      refine Keeps.trans ?_ (State.put_keeps1 ..) (by decide +kernel)
      refine Keeps.trans ?_ (State.loadKept_keeps ..) (by decide +kernel)
      refine Keeps.optE ?_ (fun _ => ?_)
      · refine Keeps.trans ?_ (State.replayJournal_keeps ..) (by decide +kernel)
        refine Keeps.trans ?_ (State.cutHalf_keeps ..) (by decide +kernel)
        refine Keeps.trans ?_ (State.cutHalf_keeps ..) (by decide +kernel)
        refine Keeps.foldl ?_ (fun _ _ => ?_)
        · refine Keeps.foldl ?_ (fun _ _ => ?_)
          · exact Keeps.refl _ _
          · refine Keeps.trans ?_ (State.restoreRecord_keeps ..) (by decide +kernel)
            exact Keeps.refl _ _
        · refine Keeps.trans ?_ (State.restoreTuning_keeps ..) (by decide +kernel)
          exact Keeps.refl _ _
      · refine Keeps.trans ?_ (State.log_keeps ..) (by decide +kernel)
        exact Keeps.refl _ _
    · refine Keeps.trans ?_ (State.putBit_keeps1 ..) (by decide +kernel)
      exact Keeps.refl _ _
  · exact Keeps.refl _ _

theorem State.stageLost_keeps (s : State) : Keeps ⟨[.ingress, .codec, .comp, .ray], [(0x38020A,
    0x38020A), (0x382003, 0x382003), (0x400101, 0x400101)]⟩ s (State.stageLost s) := by
  unfold State.stageLost
  dsimp only
  split
  · refine Keeps.trans ?_ (State.startStep_keeps ..) (by decide +kernel)
    refine Keeps.upd ?_ (hi := Or.inl (by decide +kernel)) (hc := Or.inl (by decide +kernel)) (hcm := Or.inl (by decide +kernel)) (hr := Or.inl (by decide +kernel))
    refine Keeps.trans ?_ (State.leaveNext_keeps ..) (by decide +kernel)
    refine Keeps.foldl ?_ (fun _ _ => ?_)
    · exact Keeps.refl _ _
    · refine Keeps.trans ?_ (State.clanRest_keeps ..) (by decide +kernel)
      refine Keeps.trans ?_ (State.inc_keeps1 ..) (by decide +kernel)
      exact Keeps.refl _ _
  · refine Keeps.trans ?_ (State.releaseNext_keeps ..) (by decide +kernel)
    refine Keeps.upd ?_ (hi := Or.inl (by decide +kernel)) (hc := Or.inl (by decide +kernel)) (hcm := Or.inl (by decide +kernel)) (hr := Or.inl (by decide +kernel))
    refine Keeps.trans ?_ (State.leaveNext_keeps ..) (by decide +kernel)
    refine Keeps.foldl ?_ (fun _ _ => ?_)
    · exact Keeps.refl _ _
    · refine Keeps.trans ?_ (State.clanRest_keeps ..) (by decide +kernel)
      refine Keeps.trans ?_ (State.inc_keeps1 ..) (by decide +kernel)
      exact Keeps.refl _ _

theorem State.meshLost_keeps (s : State) : Keeps ⟨[.out, .ingress, .lanes], [(0x300205, 0x300205),
    (0x301004, 0x301004), (0x700309, 0x700309), (0x701001, 0x701001)]⟩ s (State.meshLost s) := by
  unfold State.meshLost
  dsimp only
  refine Keeps.upd ?_ (hi := Or.inl (by decide +kernel))
  refine Keeps.foldl ?_ (fun _ _ => ?_)
  · exact Keeps.refl _ _
  · refine Keeps.trans ?_ (State.relayPortDown_keeps ..) (by decide +kernel)
    refine Keeps.trans ?_ (State.abortInbound_keeps ..) (by decide +kernel)
    exact Keeps.refl _ _

theorem State.bringUpLanes_keeps (s : State) : Keeps ⟨[.out, .ingress, .lanes, .memory, .logs],
    [(0x180002, 0x180002), (0x180101, 0x180103), (0x300202, 0x300202), (0x300205, 0x300205), (0x301001,
    0x301001), (0x301004, 0x301004), (0x700209, 0x700209), (0x700305, 0x700307), (0x700309, 0x700309),
    (0x701001, 0x701001), (0x701003, 0x701003), (0x701006, 0x701006), (0x900005, 0x900005)]⟩ s
    (State.bringUpLanes s) := by
  unfold State.bringUpLanes
  dsimp only
  refine Keeps.foldl ?_ (fun _ _ => ?_)
  · refine Keeps.optE ?_ (fun _ => ?_)
    · refine Keeps.foldl ?_ (fun _ _ => ?_)
      · refine Keeps.upd ?_ (hln := Or.inl (by decide +kernel))
        refine Keeps.foldl ?_ (fun _ _ => ?_)
        · exact Keeps.refl _ _
        · refine Keeps.trans ?_ (State.portDown_keeps ..) (by decide +kernel)
          exact Keeps.refl _ _
      · refine Keeps.ite (fun _ => ?_) (fun _ => ?_)
        · exact Keeps.refl _ _
        · refine Keeps.trans ?_ (State.pute_keeps1 ..) (by decide +kernel)
          exact Keeps.refl _ _
    · refine Keeps.trans ?_ (State.bringUpPanel_keeps ..) (by decide +kernel)
      exact Keeps.refl _ _
  · refine Keeps.trans ?_ (State.portTrain_keeps ..) (by decide +kernel)
    exact Keeps.refl _ _

theorem State.trainLinks_keeps (s : State) : Keeps ⟨[.bridge, .loop], [(0x602004, 0x602004), (0x680109,
    0x680109)]⟩ s (State.trainLinks s) := by
  unfold State.trainLinks
  dsimp only
  refine Keeps.trans ?_ (State.put_keeps1 ..) (by decide +kernel)
  refine Keeps.upd ?_ (hl := Or.inl (by decide +kernel))
  refine Keeps.trans ?_ (State.trainCourses_keeps ..) (by decide +kernel)
  exact Keeps.refl _ _

theorem State.trainDdr_keeps (s : State) (relock : Bool) : Keeps ⟨[.memory], [(0x780102, 0x780102),
    (0x782001, 0x782001)]⟩ s (State.trainDdr s relock) := by
  unfold State.trainDdr
  refine Keeps.foldl ?_ (fun _ _ => ?_)
  · exact Keeps.refl _ _
  · split
    · refine Keeps.trans ?_ (State.beginTraining_keeps ..) (by decide +kernel)
      refine Keeps.trans ?_ (State.putChan_keeps ..) (by decide +kernel)
      exact Keeps.refl _ _
    · exact Keeps.refl _ _
    · exact Keeps.refl _ _
    · refine Keeps.trans ?_ (State.beginTraining_keeps ..) (by decide +kernel)
      exact Keeps.refl _ _

theorem State.march_keeps (s : State) (failed : List Nat) : Keeps ⟨[.memory, .logs], [(0x180002,
    0x180002), (0x180101, 0x180103), (0x780103, 0x780104), (0x780203, 0x780203), (0x781001, 0x781003),
    (0x900005, 0x900005)]⟩ s (State.march s failed) := by
  unfold State.march
  dsimp only
  refine Keeps.optE ?_ (fun _ => ?_)
  · refine Keeps.trans ?_ (State.showBanks_keeps ..) (by decide +kernel)
    refine Keeps.upd ?_ (hme := Or.inl (by decide +kernel))
    refine Keeps.foldl ?_ (fun _ _ => ?_)
    · refine Keeps.foldl ?_ (fun _ _ => ?_)
      · refine Keeps.foldl ?_ (fun _ _ => ?_)
        · exact Keeps.refl _ _
        · refine Keeps.ite (fun _ => ?_) (fun _ => ?_)
          · exact Keeps.refl _ _
          · refine Keeps.trans ?_ (State.inc_keeps1 ..) (by decide +kernel)
            refine Keeps.trans ?_ (State.putKept_keeps1 ..) (by decide +kernel)
            exact Keeps.refl _ _
      · refine Keeps.trans ?_ (State.pute_keeps1 ..) (by decide +kernel)
        refine Keeps.trans ?_ (State.pute_keeps1 ..) (by decide +kernel)
        exact Keeps.refl _ _
    · refine Keeps.ite (fun _ => ?_) (fun _ => ?_)
      · refine Keeps.trans ?_ (State.pute_keeps1 ..) (by decide +kernel)
        refine Keeps.trans ?_ (State.pute_keeps1 ..) (by decide +kernel)
        exact Keeps.refl _ _
      · refine Keeps.trans ?_ (State.pute_keeps1 ..) (by decide +kernel)
        exact Keeps.refl _ _
  · refine Keeps.trans ?_ (State.log_keeps ..) (by decide +kernel)
    exact Keeps.refl _ _

theorem State.rampsEnd_keeps (s : State) : Keeps ⟨[.clock], [(0x201001, 0x201001), (0x201004,
    0x201004)]⟩ s (State.rampsEnd s) := by
  unfold State.rampsEnd
  dsimp only
  refine Keeps.upd ?_ (hck := Or.inl (by decide +kernel))
  refine Keeps.foldl ?_ (fun _ _ => ?_)
  · exact Keeps.refl _ _
  · refine Keeps.trans ?_ (State.pute_keeps1 ..) (by decide +kernel)
    refine Keeps.trans ?_ (State.pute_keeps1 ..) (by decide +kernel)
    exact Keeps.refl _ _

theorem State.fullClear_keeps (s : State) : Keeps ⟨[.panel], []⟩ s (State.fullClear s) := by
  unfold State.fullClear
  dsimp only
  refine Keeps.trans ?_ (State.putHalf_keeps ..) (by decide +kernel)
  refine Keeps.trans ?_ (State.putHalf_keeps ..) (by decide +kernel)
  exact Keeps.refl _ _

theorem State.stageFirst_keeps (s : State) (failed : List Nat) : Keeps ⟨[.ingress, .codec, .comp, .ray,
    .memory, .logs], [(0x180002, 0x180002), (0x180101, 0x180103), (0x38020A, 0x38020A), (0x382003,
    0x382003), (0x400101, 0x400101), (0x780103, 0x780104), (0x780203, 0x780203), (0x781001, 0x781003),
    (0x900005, 0x900005)]⟩ s (State.stageFirst s failed) := by
  unfold State.stageFirst
  refine Keeps.ite (fun _ => ?_) (fun _ => ?_)
  · exact Keeps.refl _ _
  · dsimp only
    refine Keeps.upd ?_ (hme := Or.inl (by decide +kernel))
    refine Keeps.trans ?_ (State.march_keeps ..) (by decide +kernel)
    refine Keeps.trans ?_ (State.stageLost_keeps ..) (by decide +kernel)
    exact Keeps.refl _ _

theorem State.islandRampsDone_keeps (s : State) (failed : List Nat) : Keeps ⟨[.out, .ingress, .codec,
    .comp, .ray, .panel, .bridge, .loop, .lanes, .memory, .clock, .logs], [(0x180002, 0x180002),
    (0x180101, 0x180103), (0x189002, 0x189002), (0x189104, 0x189108), (0x201001, 0x201001), (0x201004,
    0x201004), (0x300202, 0x300202), (0x300205, 0x300205), (0x301001, 0x301001), (0x301004, 0x301004),
    (0x38020A, 0x38020A), (0x382003, 0x382003), (0x400101, 0x400101), (0x580101, 0x580101), (0x580104,
    0x580104), (0x601007, 0x60100A), (0x602004, 0x602004), (0x680101, 0x680101), (0x680103, 0x680103),
    (0x680109, 0x680109), (0x681000, 0x6810FF), (0x682007, 0x682007), (0x700209, 0x700209), (0x700305,
    0x700307), (0x700309, 0x700309), (0x701001, 0x701001), (0x701003, 0x701003), (0x701006, 0x701006),
    (0x780102, 0x780104), (0x780203, 0x780203), (0x781001, 0x781003), (0x782001, 0x782001), (0x900005,
    0x900005)]⟩ s (State.islandRampsDone s failed) := by
  unfold State.islandRampsDone
  refine Keeps.ite (fun _ => ?_) (fun _ => ?_)
  · dsimp only
    refine Keeps.optT ?_ (fun _ => ?_)
    · refine Keeps.trans ?_ (State.trainDdr_keeps ..) (by decide +kernel)
      refine Keeps.trans ?_ (State.trainLinks_keeps ..) (by decide +kernel)
      refine Keeps.trans ?_ (State.bringUpLanes_keeps ..) (by decide +kernel)
      refine Keeps.trans ?_ (State.fullClear_keeps ..) (by decide +kernel)
      refine Keeps.trans ?_ (State.putStep_keeps ..) (by decide +kernel)
      refine Keeps.trans ?_ (State.stageFirst_keeps ..) (by decide +kernel)
      refine Keeps.trans ?_ (State.meshLost_keeps ..) (by decide +kernel)
      refine Keeps.trans ?_ (State.rampsEnd_keeps ..) (by decide +kernel)
      exact Keeps.refl _ _
    · refine Keeps.trans ?_ (State.recomputeReduction_keeps ..) (by decide +kernel)
      refine Keeps.trans ?_ (State.railsOn_keeps ..) (by decide +kernel)
      refine Keeps.trans ?_ (State.showRest_keeps ..) (by decide +kernel)
      refine Keeps.trans ?_ (State.freshLoops_keeps ..) (by decide +kernel)
      refine Keeps.trans ?_ (State.freshStrings_keeps ..) (by decide +kernel)
      exact Keeps.refl _ _
  · exact Keeps.refl _ _

theorem State.firmwareBootDone_keeps (s : State) : Keeps ⟨[.out, .clock, .mgmt], [(0x101107, 0x101107),
    (0x103003, 0x103003), (0x189002, 0x189002), (0x201001, 0x201001), (0x201004, 0x201004), (0x910002,
    0x910002), (0x910105, 0x910105), (0x910204, 0x910204)]⟩ s (State.firmwareBootDone s) := by
  unfold State.firmwareBootDone
  refine Keeps.ite (fun _ => ?_) (fun _ => ?_)
  · dsimp only
    refine Keeps.optE ?_ (fun _ => ?_)
    · refine Keeps.upd ?_ (hmg := Or.inl (by decide +kernel))
      refine Keeps.trans ?_ (State.bootFirmware_keeps ..) (by decide +kernel)
      exact Keeps.refl _ _
    · refine Keeps.optT ?_ (fun _ => ?_)
      · refine Keeps.trans ?_ (State.putStep_keeps ..) (by decide +kernel)
        exact Keeps.refl _ _
      · refine Keeps.trans ?_ (State.openIslands_keeps ..) (by decide +kernel)
        exact Keeps.refl _ _
  · exact Keeps.refl _ _

theorem State.openGates_keeps (s : State) : Keeps ⟨[.out, .clock, .mgmt, .net], [(0x000000, 0xFFFFFF)]⟩ s (State.openGates s) := by
  have key : ∀ u : State, Keeps ⟨[], [(0x202000, 0x2020FF), (0x203000, 0x2030FF)]⟩ u
      { u with dict := u.dict.filter fun e => keyObject e.1 != 0x2020 && keyObject e.1 != 0x2030 } := by
    intro u
    constructor
    case sound =>
      rintro ⟨h1, h2, h3⟩
      refine ⟨?_, h2, h3⟩
      simp only [State.dictOk, Bool.and_eq_true, List.all_eq_true] at *
      exact ⟨keysRise_filter _ h1.1, fun e he => h1.2 e (List.mem_filter.1 he).1⟩
    case keys =>
      intro k hk
      refine tget?_filter (fun _ => ?_) _
      simp only [Foot.free, List.all_eq_true, Bool.or_eq_true, decide_eq_true_eq] at hk
      have h1 := hk (0x202000, 0x2020FF) (by simp)
      have h2 := hk (0x203000, 0x2030FF) (by simp)
      simp only [Bool.and_eq_true, bne_iff_ne, ne_eq]
      simp only [keyCode, keyMember] at h1 h2
      omega
    all_goals first | rfl | exact Nat.le_refl _ | exact Or.inr rfl
  unfold State.openGates
  exact ((State.gateFails_keeps s).mono (by decide +kernel)).trans (key _) (by decide +kernel)

theorem State.warmRestart_keeps (s : State) : Keeps ⟨[.out, .panel, .bridge, .clock, .mgmt, .net,
    .logs], [(0x000000, 0xFFFFFF)]⟩ s (State.warmRestart s) := by
  unfold State.warmRestart
  dsimp only
  refine Keeps.trans ?_ (State.openIslands_keeps ..) (by decide +kernel)
  refine Keeps.trans ?_ (State.openGates_keeps ..) (by decide +kernel)
  refine Keeps.trans ?_ (State.fullClear_keeps ..) (by decide +kernel)
  refine Keeps.trans ?_ (State.put_keeps1 ..) (by decide +kernel)
  refine Keeps.trans ?_ (State.put_keeps1 ..) (by decide +kernel)
  refine Keeps.upd ?_ (hb := Or.inl (by decide +kernel)) (hck := Or.inl (by decide +kernel)) (hlg := Or.inl (by decide +kernel))
  exact Keeps.refl _ _

theorem State.autoRestart_keeps (s : State) : Keeps ⟨[.out, .panel, .bridge, .clock, .mgmt, .net,
    .logs], [(0x000000, 0xFFFFFF)]⟩ s (State.autoRestart s) := by
  unfold State.autoRestart
  refine Keeps.ite (fun _ => ?_) (fun _ => ?_)
  · refine Keeps.trans ?_ (State.warmRestart_keeps ..) (by decide +kernel)
    exact Keeps.refl _ _
  · exact Keeps.refl _ _

theorem State.pfailRelease_keeps (s : State) : Keeps ⟨[.out, .clock, .mgmt], [(0x101107, 0x101107),
    (0x103003, 0x103003), (0x180107, 0x180107), (0x188001, 0x188001), (0x600202, 0x600202)]⟩ s
    (State.pfailRelease s) := by
  unfold State.pfailRelease
  refine Keeps.ite (fun _ => ?_) (fun _ => ?_)
  · dsimp only
    refine Keeps.upd ?_ (hck := Or.inl (by decide +kernel))
    refine Keeps.trans ?_ (State.transitions_keeps ..) (by decide +kernel)
    exact Keeps.refl _ _
  · exact Keeps.refl _ _

theorem State.ownSdClear_keeps (s : State) : Keeps ⟨[.out, .panel, .bridge, .memory, .clock, .mgmt,
    .net, .health, .logs], [(0x000000, 0xFFFFFF)]⟩ s (State.ownSdClear s) := by
  unfold State.ownSdClear
  dsimp only
  refine Keeps.optE ?_ (fun _ => ?_)
  · refine Keeps.trans ?_ (State.putBit_keeps1 ..) (by decide +kernel)
    refine Keeps.trans ?_ (State.showRecord_keeps ..) (by decide +kernel)
    refine Keeps.trans ?_ (State.wearBlock_keeps ..) (by decide +kernel)
    refine Keeps.upd ?_ (hhh := Or.inl (by decide +kernel))
    exact Keeps.refl _ _
  · refine Keeps.trans ?_ (State.warmRestart_keeps ..) (by decide +kernel)
    exact Keeps.refl _ _

end Sys2Proof.Machine
end

