-- ==== Sys2Proof/Laws/Keeps/Rules.lean ====
section
/-! SUPPORT. What each operation of Machine/Rules.lean may change. -/

set_option Elab.async false

namespace Sys2Proof.Machine

theorem State.propose_keeps (s : State) (x : Staged) : Keeps ⟨[], [(0x000000, 0xFFFFFF)]⟩ s
    (State.propose s x) := by
  unfold State.propose
  split
  · exact Keeps.refl _ _
  · refine Keeps.ite (fun _ => ?_) (fun _ => ?_)
    · exact Keeps.refl _ _
    · refine Keeps.trans ?_ (State.pute_keepsA ..) (by decide +kernel)
      exact Keeps.refl _ _

theorem State.withWaiting_keeps (s : State) (cls : Nat) : Keeps ⟨[], [(0x000000, 0xFFFFFF)]⟩ s
    (State.withWaiting s cls) := by
  unfold State.withWaiting
  refine Keeps.foldl ?_ (fun _ _ => ?_)
  · exact Keeps.refl _ _
  · refine Keeps.trans ?_ (State.propose_keeps ..) (by decide +kernel)
    exact Keeps.refl _ _

end Sys2Proof.Machine
end

