-- ==== Sys2Proof/Laws/Keeps/Owner.lean ====
section
/-! SUPPORT. What each operation of Machine/Owner.lean may change. -/

set_option Elab.async false

namespace Sys2Proof.Machine

theorem State.clearCounters_keeps (s : State) (o : Nat) : Keeps ⟨[], [(0x000000, 0xFFFFFF)]⟩ s (s.clearCounters o) := by
  constructor
  case sound =>
    rintro ⟨h1, h2, h3⟩
    refine ⟨?_, h2, h3⟩
    simp only [State.dictOk, Bool.and_eq_true, List.all_eq_true, State.clearCounters] at *
    exact ⟨keysRise_filter _ h1.1, fun e he => h1.2 e (List.mem_filter.1 he).1⟩
  case keys => exact fun k hk => absurd hk (Foot.all_keys _ k)
  all_goals first | rfl | exact Or.inr rfl

theorem State.ownFlags_keeps (s : State) (o : Nat) (e : Nat) (m : Nat) (v : Nat) : Keeps ⟨[],
    [(0x000000, 0xFFFFFF)]⟩ s (State.ownFlags s o e m v) := by
  unfold State.ownFlags
  dsimp only
  refine Keeps.trans ?_ (State.pute_keepsA ..) (by decide +kernel)
  exact Keeps.refl _ _

theorem State.ownService_keeps (s : State) (o : Nat) (m : Nat) (v : Nat) : Keeps ⟨[.out, .seq, .panel,
    .lanes, .memory], [(0x000000, 0xFFFFFF)]⟩ s (State.ownService s o m v) := by
  unfold State.ownService
  dsimp only
  refine Keeps.ite (fun _ => ?_) (fun _ => ?_)
  · refine Keeps.upd ?_ (hsq := Or.inl (by decide +kernel))
    refine Keeps.trans ?_ (State.putKept_keepsA ..) (by decide +kernel)
    exact Keeps.refl _ _
  · refine Keeps.trans ?_ (State.changeService_keeps ..) (by decide +kernel)
    refine Keeps.trans ?_ (State.putKept_keepsA ..) (by decide +kernel)
    exact Keeps.refl _ _

theorem State.configAll_keeps (s : State) : Keeps ⟨[.out, .panel, .lanes], [(0x700309, 0x700309),
    (0x701001, 0x701001)]⟩ s (State.configAll s) := by
  unfold State.configAll
  refine Keeps.ite (fun _ => ?_) (fun _ => ?_)
  · refine Keeps.foldl ?_ (fun _ _ => ?_)
    · exact Keeps.refl _ _
    · refine Keeps.trans ?_ (State.sendConfig_keeps ..) (by decide +kernel)
      exact Keeps.refl _ _
  · exact Keeps.refl _ _

theorem State.selectMode_keeps (s : State) (slot : Nat) (factor : Nat) : Keeps ⟨[.seq], [(0x500104,
    0x500105)]⟩ s (State.selectMode s slot factor) := by
  unfold State.selectMode
  dsimp only
  split
  · refine Keeps.ite (fun _ => ?_) (fun _ => ?_)
    · refine Keeps.trans ?_ (State.put_keeps1 ..) (by decide +kernel)
      refine Keeps.upd ?_ (hsq := Or.inl (by decide +kernel))
      exact Keeps.refl _ _
    · refine Keeps.upd ?_ (hsq := Or.inl (by decide +kernel))
      exact Keeps.refl _ _
  · refine Keeps.ite (fun _ => ?_) (fun _ => ?_)
    · refine Keeps.trans ?_ (State.put_keeps1 ..) (by decide +kernel)
      refine Keeps.upd ?_ (hsq := Or.inl (by decide +kernel))
      exact Keeps.refl _ _
    · refine Keeps.upd ?_ (hsq := Or.inl (by decide +kernel))
      exact Keeps.refl _ _

theorem State.ownMode_keeps (s : State) (v : Nat) : Keeps ⟨[.out, .seq, .panel, .lanes, .memory],
    [(0x189104, 0x189108), (0x500001, 0x500001), (0x500104, 0x500105), (0x700309, 0x700309), (0x701001,
    0x701001)]⟩ s (State.ownMode s v) := by
  unfold State.ownMode
  dsimp only
  refine Keeps.ite (fun _ => ?_) (fun _ => ?_)
  · refine Keeps.trans ?_ (State.selectMode_keeps ..) (by decide +kernel)
    refine Keeps.trans ?_ (State.putKept_keeps1 ..) (by decide +kernel)
    exact Keeps.refl _ _
  · refine Keeps.trans ?_ (State.configAll_keeps ..) (by decide +kernel)
    refine Keeps.trans ?_ (State.recomputeReduction_keeps ..) (by decide +kernel)
    refine Keeps.trans ?_ (State.put_keeps1 ..) (by decide +kernel)
    refine Keeps.trans ?_ (State.putKept_keeps1 ..) (by decide +kernel)
    exact Keeps.refl _ _

theorem State.ownModeSlot_keeps (s : State) (n : Nat) (m : Nat) (v : Nat) : Keeps ⟨[.out, .panel,
    .lanes, .memory], [(0x189104, 0x189108), (0x501000, 0x5010FF), (0x700309, 0x700309), (0x701001,
    0x701001)]⟩ s (State.ownModeSlot s n m v) := by
  unfold State.ownModeSlot
  dsimp only
  refine Keeps.optE ?_ (fun _ => ?_)
  · refine Keeps.trans ?_ (State.putKept_keepsO ..) (by decide +kernel)
    exact Keeps.refl _ _
  · refine Keeps.trans ?_ (State.configAll_keeps ..) (by decide +kernel)
    refine Keeps.trans ?_ (State.recomputeReduction_keeps ..) (by decide +kernel)
    exact Keeps.refl _ _

theorem State.ownRun_keeps (s : State) (v : Nat) : Keeps ⟨[.seq, .memory, .health], [(0x500002,
    0x500002), (0x500103, 0x500103)]⟩ s (State.ownRun s v) := by
  unfold State.ownRun
  dsimp only
  refine Keeps.optE ?_ (fun _ => ?_)
  · refine Keeps.trans ?_ (State.putKept_keeps1 ..) (by decide +kernel)
    exact Keeps.refl _ _
  · refine Keeps.trans ?_ (State.requestStop_keeps ..) (by decide +kernel)
    exact Keeps.refl _ _

theorem State.ownDrone_keeps (s : State) (v : Nat) : Keeps ⟨[.out, .seq, .panel, .bridge, .loop, .lanes,
    .memory, .clock, .mgmt, .health, .logs], [(0x101107, 0x101107), (0x103003, 0x103003), (0x180002,
    0x180002), (0x180101, 0x180103), (0x500103, 0x500103), (0x58000A, 0x58000A), (0x580100, 0x5801FF),
    (0x580201, 0x580204), (0x680101, 0x680101), (0x680103, 0x680106), (0x68010D, 0x68010D), (0x680206,
    0x680206), (0x681003, 0x681003), (0x70020C, 0x70020C), (0x700309, 0x700309), (0x701001, 0x701001),
    (0x780207, 0x780207), (0x780301, 0x780303), (0x900005, 0x900005)]⟩ s (State.ownDrone s v) := by
  unfold State.ownDrone
  dsimp only
  refine Keeps.ite (fun _ => ?_) (fun _ => ?_)
  · refine Keeps.optT ?_ (fun _ => ?_)
    · refine Keeps.trans ?_ (State.put_keeps1 ..) (by decide +kernel)
      exact Keeps.refl _ _
    · refine Keeps.ite (fun _ => ?_) (fun _ => ?_)
      · refine Keeps.trans ?_ (State.beginDrone_keeps ..) (by decide +kernel)
        refine Keeps.trans ?_ (State.droneWheel_keeps ..) (by decide +kernel)
        exact Keeps.refl _ _
      · refine Keeps.trans ?_ (State.requestStop_keeps ..) (by decide +kernel)
        refine Keeps.upd ?_ (hsq := Or.inl (by decide +kernel))
        exact Keeps.refl _ _
  · refine Keeps.ite (fun _ => ?_) (fun _ => ?_)
    · refine Keeps.trans ?_ (State.droneWheelEnds_keeps ..) (by decide +kernel)
      refine Keeps.trans ?_ (State.endDrone_keeps ..) (by decide +kernel)
      refine Keeps.trans ?_ (State.put_keeps1 ..) (by decide +kernel)
      exact Keeps.refl _ _
    · refine Keeps.upd ?_ (hsq := Or.inl (by decide +kernel))
      refine Keeps.trans ?_ (State.put_keeps1 ..) (by decide +kernel)
      exact Keeps.refl _ _

theorem State.ownPower_keeps (s : State) (v : Nat) : Keeps ⟨[.out, .panel, .lanes, .memory], [(0x58000F,
    0x58000F), (0x580101, 0x580101), (0x580104, 0x580105), (0x580201, 0x580201), (0x580203, 0x580204),
    (0x70020C, 0x70020C), (0x700309, 0x700309), (0x701001, 0x701001), (0x701003, 0x701003), (0x701006,
    0x701006)]⟩ s (State.ownPower s v) := by
  unfold State.ownPower
  dsimp only
  refine Keeps.ite (fun _ => ?_) (fun _ => ?_)
  · refine Keeps.trans ?_ (State.railsOn_keeps ..) (by decide +kernel)
    refine Keeps.trans ?_ (State.putKept_keeps1 ..) (by decide +kernel)
    exact Keeps.refl _ _
  · refine Keeps.optE ?_ (fun _ => ?_)
    · refine Keeps.trans ?_ (State.park_keeps ..) (by decide +kernel)
      refine Keeps.trans ?_ (State.putKept_keeps1 ..) (by decide +kernel)
      exact Keeps.refl _ _
    · refine Keeps.trans ?_ (State.railsDown_keeps ..) (by decide +kernel)
      exact Keeps.refl _ _

theorem State.ownSlew_keeps (s : State) (v : Nat) : Keeps ⟨[.memory, .net], [(0x800006, 0x800006)]⟩ s
    (State.ownSlew s v) := by
  unfold State.ownSlew
  dsimp only
  refine Keeps.trans ?_ (State.putKept_keeps1 ..) (by decide +kernel)
  refine Keeps.upd ?_ (hnt := Or.inl (by decide +kernel))
  exact Keeps.refl _ _

theorem State.ownBlob_keeps (s : State) (o : Nat) (e : Nat) (m : Nat) (offset : Nat) (data : Bytes) :
    Keeps ⟨[.out, .blobs, .panel, .lanes, .memory, .clock, .mgmt, .net], [(0x101105, 0x101105),
    (0x101107, 0x101107), (0x103003, 0x103003), (0x581202, 0x581202), (0x700309, 0x700309), (0x701001,
    0x701001), (0x900005, 0x900005), (0x910002, 0x910004)]⟩ s (State.ownBlob s o e m offset data) := by
  unfold State.ownBlob
  split
  · refine Keeps.trans ?_ (State.ownKey_keeps ..) (by decide +kernel)
    exact Keeps.refl _ _
  · refine Keeps.trans ?_ (State.ownWave_keeps ..) (by decide +kernel)
    refine Keeps.trans ?_ (State.putBlobKept_keeps ..) (by decide +kernel)
    exact Keeps.refl _ _
  · refine Keeps.trans ?_ (State.ownGlobal_keeps ..) (by decide +kernel)
    exact Keeps.refl _ _
  · refine Keeps.trans ?_ (State.ownFwImage_keeps ..) (by decide +kernel)
    exact Keeps.refl _ _
  · refine Keeps.trans ?_ (State.putBlobKept_keeps ..) (by decide +kernel)
    exact Keeps.refl _ _

theorem State.ownLow?_keeps {s u : State} {master o e m v : Nat} (h : s.ownLow? master o e m v = some u) :
    Keeps ⟨[.out, .ingress, .codec, .comp, .ray, .seq, .panel, .bridge, .memory, .clock, .mgmt, .net, .health, .logs], [(0x000000, 0xFFFFFF)]⟩ s u := by
  unfold State.ownLow? at h
  split at h
  · with_reducible refine Keeps.some h (Keeps.mono (State.ownPath_keeps ..) (by decide +kernel))
  · with_reducible refine Keeps.some h (Keeps.mono (State.ownPath_keeps ..) (by decide +kernel))
  · with_reducible refine Keeps.some h (Keeps.mono (State.putKept_keepsA ..) (by decide +kernel))
  · with_reducible refine Keeps.some h (Keeps.mono (State.abortSlot_keeps ..) (by decide +kernel))
  · with_reducible refine Keeps.some h (Keeps.mono (State.warmRestart_keeps ..) (by decide +kernel))
  · with_reducible refine Keeps.some h (Keeps.trans (Keeps.mono (State.putKept_keepsA ..) (by decide +kernel)) (State.recomputeReduction_keeps ..) (by decide +kernel))
  · with_reducible refine Keeps.some h (Keeps.trans (Keeps.mono (State.putKept_keepsA ..) (by decide +kernel)) (State.recomputeReduction_keeps ..) (by decide +kernel))
  · with_reducible refine Keeps.some h (Keeps.mono (State.ownRatio_keeps ..) (by decide +kernel))
  · with_reducible refine Keeps.some h (Keeps.mono (State.ownGate_keeps ..) (by decide +kernel))
  · with_reducible refine Keeps.some h (Keeps.mono (State.ownGate_keeps ..) (by decide +kernel))
  · with_reducible refine Keeps.some h (Keeps.mono (State.ownSdClear_keeps ..) (by decide +kernel))
  · with_reducible refine Keeps.some h (Keeps.mono (State.ownCal_keeps ..) (by decide +kernel))
  · with_reducible refine Keeps.some h (Keeps.mono (State.ownCv_keeps ..) (by decide +kernel))
  · with_reducible refine Keeps.some h (Keeps.mono (State.takeTrigger_keeps ..) (by decide +kernel))
  · with_reducible refine Keeps.some h (Keeps.mono (State.emptyCue_keeps ..) (by decide +kernel))
  · with_reducible refine Keeps.some h (Keeps.mono (State.ownFence_keeps ..) (by decide +kernel))
  · with_reducible refine Keeps.some h (Keeps.mono (State.ownClane_keeps ..) (by decide +kernel))
  · with_reducible refine Keeps.some h (Keeps.trans (Keeps.mono (State.putKept_keepsA ..) (by decide +kernel)) (State.recomputeReduction_keeps ..) (by decide +kernel))
  · with_reducible refine Keeps.some h (Keeps.mono (State.ownFence_keeps ..) (by decide +kernel))
  · exact nomatch h

theorem State.ownHigh?_keeps {s u : State} {o e m v : Nat} (h : s.ownHigh? o e m v = some u) :
    Keeps ⟨[.out, .blobs, .ingress, .seq, .panel, .bridge, .loop, .lanes, .memory, .clock, .mgmt, .net, .health, .logs], [(0x000000, 0xFFFFFF)]⟩ s u := by
  unfold State.ownHigh? at h
  split at h
  · with_reducible refine Keeps.some h (Keeps.mono (State.ownMode_keeps ..) (by decide +kernel))
  · with_reducible refine Keeps.some h (Keeps.mono (State.ownRun_keeps ..) (by decide +kernel))
  · exact nomatch h
  · exact nomatch h
  · with_reducible refine Keeps.some h (Keeps.mono (State.ownService_keeps ..) (by decide +kernel))
  · with_reducible refine Keeps.some h (Keeps.mono (State.ownModeSlot_keeps ..) (by decide +kernel))
  · with_reducible refine Keeps.some h (Keeps.mono (State.ownService_keeps ..) (by decide +kernel))
  · with_reducible refine Keeps.some h (Keeps.mono (State.ownDrone_keeps ..) (by decide +kernel))
  · with_reducible refine Keeps.some h (Keeps.mono (State.ownPower_keeps ..) (by decide +kernel))
  · with_reducible refine Keeps.some h (Keeps.mono (State.rearmPanel_keeps ..) (by decide +kernel))
  · with_reducible refine Keeps.some h (Keeps.mono (State.linReset_keeps ..) (by decide +kernel))
  · with_reducible refine Keeps.some h (Keeps.trans (Keeps.mono (State.putKept_keepsA ..) (by decide +kernel)) (State.ownWheel_keeps ..) (by decide +kernel))
  · with_reducible refine Keeps.some h (Keeps.mono (State.rearmWheel_keeps ..) (by decide +kernel))
  · with_reducible refine Keeps.some h (Keeps.trans (Keeps.mono (State.ownSections_keeps ..) (by decide +kernel)) (State.showRest_keeps ..) (by decide +kernel))
  · with_reducible refine Keeps.some h (Keeps.mono (State.freeLoop_keeps ..) (by decide +kernel))
  · with_reducible refine Keeps.some h (Keeps.mono (State.freePreset_keeps ..) (by decide +kernel))
  · with_reducible refine Keeps.some h (Keeps.mono (State.ownSecExp_keeps ..) (by decide +kernel))
  · with_reducible refine Keeps.some h (Keeps.mono (State.ownPortRate_keeps ..) (by decide +kernel))
  · with_reducible refine Keeps.some h (Keeps.mono (State.ownPortEnable_keeps ..) (by decide +kernel))
  · with_reducible refine Keeps.some h (Keeps.trans (Keeps.mono (State.putKept_keepsA ..) (by decide +kernel)) (State.portCheck_keeps ..) (by decide +kernel))
  · with_reducible refine Keeps.some h (Keeps.mono (State.ownLaneCmd_keeps ..) (by decide +kernel))
  · with_reducible refine Keeps.some h (Keeps.trans (Keeps.mono (State.putKept_keepsA ..) (by decide +kernel)) (State.setReceiver_keeps ..) (by decide +kernel))
  · with_reducible refine Keeps.some h (Keeps.mono (State.ownBank_keeps ..) (by decide +kernel))
  · with_reducible refine Keeps.some h (Keeps.mono (State.ownChannel_keeps ..) (by decide +kernel))
  · with_reducible refine Keeps.some h (Keeps.trans (Keeps.mono (State.putKept_keepsA ..) (by decide +kernel)) (State.relisten_keeps ..) (by decide +kernel))
  · with_reducible refine Keeps.some h (Keeps.trans (Keeps.mono (State.putKept_keepsA ..) (by decide +kernel)) (State.relisten_keeps ..) (by decide +kernel))
  · with_reducible refine Keeps.some h (Keeps.trans (Keeps.mono (State.putKept_keepsA ..) (by decide +kernel)) (State.relisten_keeps ..) (by decide +kernel))
  · with_reducible refine Keeps.some h (Keeps.mono (State.ownClass_keeps ..) (by decide +kernel))
  · with_reducible refine Keeps.some h (Keeps.mono (State.ownSlew_keeps ..) (by decide +kernel))
  · with_reducible refine Keeps.some h (Keeps.mono (State.ownStepNow_keeps ..) (by decide +kernel))
  · with_reducible refine Keeps.some h (Keeps.mono (State.ownSpeed_keeps ..) (by decide +kernel))
  · with_reducible refine Keeps.some h (Keeps.mono (State.startCommit_keeps ..) (by decide +kernel))
  · with_reducible refine Keeps.some h (Keeps.mono (State.ownVerify_keeps ..) (by decide +kernel))
  · with_reducible refine Keeps.some h (Keeps.mono (State.ownSwitch_keeps ..) (by decide +kernel))
  · exact nomatch h

theorem State.own_keeps (s : State) (master : Nat) (x : Staged) : Keeps ⟨[.out, .blobs, .ingress, .codec, .comp, .ray, .seq, .panel, .bridge, .loop, .lanes, .memory, .clock, .mgmt, .net, .health, .logs], [(0x000000, 0xFFFFFF)]⟩ s (s.own master x) := by
  have hk : ∀ u : Option State, (∀ v, u = some v → Keeps ⟨[.out, .blobs, .ingress, .codec, .comp, .ray, .seq, .panel, .bridge, .loop, .lanes, .memory, .clock, .mgmt, .net, .health, .logs], [(0x000000, 0xFFFFFF)]⟩ s v) → Keeps ⟨[.out, .blobs, .ingress, .codec, .comp, .ray, .seq, .panel, .bridge, .loop, .lanes, .memory, .clock, .mgmt, .net, .health, .logs], [(0x000000, 0xFFFFFF)]⟩ s
      (match u with | some s1 => s1 | none => s.putKept x.object x.element x.member x.value) := by
    rintro (_ | v) h
    · exact (State.putKept_keepsA ..).mono (by decide +kernel)
    · exact h v rfl
  unfold State.own
  dsimp only
  split
  · exact Keeps.refl _ _
  · refine Keeps.ite (fun _ => (State.ownFlags_keeps ..).mono (by decide +kernel)) (fun _ => ?_)
    refine Keeps.ite (fun _ => (State.ownBlob_keeps ..).mono (by decide +kernel)) (fun _ => ?_)
    refine Keeps.ite (fun _ => (State.clearCounters_keeps ..).mono (by decide +kernel)) (fun _ => ?_)
    refine hk _ fun v hv => ?_
    split at hv
    · exact (State.ownLow?_keeps hv).mono (by decide +kernel)
    · exact (State.ownHigh?_keeps hv).mono (by decide +kernel)

theorem State.await_keeps (s : State) (r : MemberRow) (p : Pending) : Keeps ⟨[.seq], []⟩ s (State.await
    s r p) := by
  unfold State.await
  refine Keeps.ite (fun _ => ?_) (fun _ => ?_)
  · exact Keeps.refl _ _
  · refine Keeps.upd ?_ (hsq := Or.inl (by decide +kernel))
    exact Keeps.refl _ _

theorem State.deliver_keeps (s : State) (mode : Nat) (master : Nat) (origin : Option (Nat × Nat)) (chord
    : Option (Nat × Nat)) (x : Staged) : Keeps ⟨[.out, .blobs, .ingress, .codec, .comp, .ray, .seq,
    .panel, .bridge, .loop, .lanes, .memory, .clock, .mgmt, .net, .health, .logs], [(0x000000,
    0xFFFFFF)]⟩ s (State.deliver s mode master origin chord x).2 := by
  refine Keeps.pair (by unfold State.deliver; dsimp only) ?_
  split
  · dsimp only
    exact Keeps.refl _ _
  · refine Keeps.sndIte (fun _ => ?_) (fun _ => ?_)
    · dsimp only
      refine Keeps.trans ?_ (State.own_keeps ..) (by decide +kernel)
      exact Keeps.refl _ _
    · dsimp only
      refine Keeps.trans ?_ (State.await_keeps ..) (by decide +kernel)
      exact Keeps.refl _ _

theorem State.ownAll_keeps (s : State) (l : List Pending) : Keeps ⟨[.out, .blobs, .ingress, .codec,
    .comp, .ray, .seq, .panel, .bridge, .loop, .lanes, .memory, .clock, .mgmt, .net, .health, .logs],
    [(0x000000, 0xFFFFFF)]⟩ s (State.ownAll s l) := by
  unfold State.ownAll
  dsimp only
  refine Keeps.foldl ?_ (fun _ _ => ?_)
  · refine Keeps.foldl ?_ (fun _ _ => ?_)
    · exact Keeps.refl _ _
    · refine Keeps.trans ?_ (State.own_keeps ..) (by decide +kernel)
      exact Keeps.refl _ _
  · refine Keeps.trans ?_ (State.own_keeps ..) (by decide +kernel)
    exact Keeps.refl _ _

theorem State.applyClass_keeps (s : State) (cls : Nat) : Keeps ⟨[.out, .blobs, .ingress, .codec, .comp,
    .ray, .seq, .panel, .bridge, .loop, .lanes, .memory, .clock, .mgmt, .net, .health, .logs],
    [(0x000000, 0xFFFFFF)]⟩ s (State.applyClass s cls) := by
  unfold State.applyClass
  dsimp only
  refine Keeps.trans ?_ (State.ownAll_keeps ..) (by decide +kernel)
  refine Keeps.upd ?_ (hsq := Or.inl (by decide +kernel))
  exact Keeps.refl _ _

theorem State.selectFrame_keeps (s : State) : Keeps ⟨[.out, .blobs, .ingress, .codec, .comp, .ray, .seq,
    .panel, .bridge, .loop, .lanes, .memory, .clock, .mgmt, .net, .health, .logs], [(0x000000,
    0xFFFFFF)]⟩ s (State.selectFrame s) := by
  unfold State.selectFrame
  dsimp only
  refine Keeps.trans ?_ (State.ownAll_keeps ..) (by decide +kernel)
  refine Keeps.upd ?_ (hsq := Or.inl (by decide +kernel))
  exact Keeps.refl _ _

theorem State.showFrame_keeps (s : State) : Keeps ⟨[.out, .blobs, .ingress, .codec, .comp, .ray, .seq,
    .panel, .bridge, .loop, .lanes, .memory, .clock, .mgmt, .net, .health, .logs], [(0x000000,
    0xFFFFFF)]⟩ s (State.showFrame s) := by
  unfold State.showFrame
  refine Keeps.trans ?_ (State.ownAll_keeps ..) (by decide +kernel)
  refine Keeps.upd ?_ (hsq := Or.inl (by decide +kernel))
  exact Keeps.refl _ _

theorem State.sendApplied_keeps (s : State) (master : Nat) (session : Nat) (seq : Nat) (code : Nat) (pts
    : Bytes) : Keeps ⟨[.out, .mgmt, .net], []⟩ s (State.sendApplied s master session seq code pts) := by
  unfold State.sendApplied
  split
  · refine Keeps.ite (fun _ => ?_) (fun _ => ?_)
    · refine Keeps.trans ?_ (State.sendIn_keeps ..) (by decide +kernel)
      exact Keeps.refl _ _
    · exact Keeps.refl _ _
  · exact Keeps.refl _ _

theorem State.settle_keeps (s : State) : Keeps ⟨[.out, .blobs, .ingress, .codec, .comp, .ray, .seq,
    .panel, .bridge, .loop, .lanes, .memory, .clock, .mgmt, .net, .health, .logs], [(0x000000,
    0xFFFFFF)]⟩ s (State.settle s) := by
  unfold State.settle
  refine Keeps.ite (fun _ => ?_) (fun _ => ?_)
  · exact Keeps.refl _ _
  · dsimp only
    refine Keeps.optE ?_ (fun _ => ?_)
    · refine Keeps.foldl ?_ (fun _ _ => ?_)
      · refine Keeps.optE ?_ (fun _ => ?_)
        · refine Keeps.trans ?_ (State.ownAll_keeps ..) (by decide +kernel)
          refine Keeps.upd ?_ (hsq := Or.inl (by decide +kernel))
          refine Keeps.optE ?_ (fun _ => ?_)
          · refine Keeps.trans ?_ (State.showFrame_keeps ..) (by decide +kernel)
            exact Keeps.refl _ _
          · refine Keeps.trans ?_ (State.put_keeps1 ..) (by decide +kernel)
            exact Keeps.refl _ _
        · refine Keeps.optT ?_ (fun _ => ?_)
          · refine Keeps.upd ?_ (hsq := Or.inl (by decide +kernel))
            exact Keeps.refl _ _
          · refine Keeps.trans ?_ (State.changeService_keeps ..) (by decide +kernel)
            exact Keeps.refl _ _
      · refine Keeps.trans ?_ (State.sendApplied_keeps ..) (by decide +kernel)
        exact Keeps.refl _ _
    · refine Keeps.trans ?_ (State.judgeWall_keeps ..) (by decide +kernel)
      exact Keeps.refl _ _

end Sys2Proof.Machine
end

