-- ==== Sys2Proof/Laws/Keeps/Timeline.lean ====
section
/-! SUPPORT. What each operation of Machine/Timeline.lean may change. -/

set_option Elab.async false

namespace Sys2Proof.Machine

theorem State.freeze_keeps (s : State) (n : Nat) (h : Nat) (x : Nat) : Keeps ⟨[.out, .seq, .memory,
    .clock, .mgmt, .logs], [(0x101107, 0x101107), (0x103003, 0x103003), (0x180002, 0x180002), (0x180101,
    0x180103), (0x500205, 0x500205), (0x501100, 0x5011FF), (0x900005, 0x900005)]⟩ s (State.freeze s n h
    x) := by
  unfold State.freeze
  refine Keeps.ite (fun _ => ?_) (fun _ => ?_)
  · exact Keeps.refl _ _
  · dsimp only
    refine Keeps.upd ?_ (hsq := Or.inl (by decide +kernel))
    refine Keeps.optT ?_ (fun _ => ?_)
    · refine Keeps.trans ?_ (State.event_keeps ..) (by decide +kernel)
      refine Keeps.trans ?_ (State.ince_keepsO ..) (by decide +kernel)
      refine Keeps.ite (fun _ => ?_) (fun _ => ?_)
      · exact Keeps.refl _ _
      · refine Keeps.trans ?_ (State.inc_keeps1 ..) (by decide +kernel)
        exact Keeps.refl _ _
    · refine Keeps.trans ?_ (State.log_keeps ..) (by decide +kernel)
      exact Keeps.refl _ _

theorem State.signHalf_keeps (n : Nat) (f : Nat) (s : State) (h : Nat) : Keeps ⟨[.out, .seq, .memory,
    .clock, .mgmt, .logs], [(0x101107, 0x101107), (0x103003, 0x103003), (0x180002, 0x180002), (0x180101,
    0x180103), (0x500205, 0x500205), (0x501100, 0x5011FF), (0x900005, 0x900005)]⟩ s (State.signHalf n f
    s h) := by
  unfold State.signHalf
  dsimp only
  refine Keeps.foldl ?_ (fun _ _ => ?_)
  · refine Keeps.trans ?_ (State.pute_keeps1 ..) (by decide +kernel)
    refine Keeps.trans ?_ (State.pute_keeps1 ..) (by decide +kernel)
    refine Keeps.trans ?_ (State.pute_keeps1 ..) (by decide +kernel)
    exact Keeps.refl _ _
  · refine Keeps.trans ?_ (State.freeze_keeps ..) (by decide +kernel)
    exact Keeps.refl _ _

theorem State.finishFret_keeps (s : State) : Keeps ⟨[.out, .ray, .seq, .memory, .clock, .mgmt, .logs],
    [(0x101107, 0x101107), (0x103003, 0x103003), (0x180002, 0x180002), (0x180101, 0x180103), (0x500205,
    0x500205), (0x501100, 0x5011FF), (0x900005, 0x900005)]⟩ s (State.finishFret s) := by
  unfold State.finishFret
  dsimp only
  refine Keeps.upd ?_ (hr := Or.inl (by decide +kernel)) (hsq := Or.inl (by decide +kernel))
  refine Keeps.foldl ?_ (fun _ _ => ?_)
  · exact Keeps.refl _ _
  · refine Keeps.trans ?_ (State.signHalf_keeps ..) (by decide +kernel)
    exact Keeps.refl _ _

theorem State.doOverdue_keeps (s : State) : Keeps ⟨[.out, .seq, .memory, .clock, .mgmt, .logs],
    [(0x101107, 0x101107), (0x103003, 0x103003), (0x180002, 0x180002), (0x180101, 0x180103), (0x500205,
    0x500205), (0x501100, 0x5011FF), (0x900005, 0x900005)]⟩ s (State.doOverdue s) := by
  unfold State.doOverdue
  refine Keeps.ite (fun _ => ?_) (fun _ => ?_)
  · refine Keeps.foldl ?_ (fun _ _ => ?_)
    · exact Keeps.refl _ _
    · refine Keeps.trans ?_ (State.freeze_keeps ..) (by decide +kernel)
      exact Keeps.refl _ _
  · exact Keeps.refl _ _

theorem State.cutFret_keeps (s : State) : Keeps ⟨[.out, .seq, .panel, .bridge, .lanes], [(0x500202,
    0x500202), (0x580201, 0x580201), (0x580203, 0x580204)]⟩ s (State.cutFret s) := by
  unfold State.cutFret
  dsimp only
  refine Keeps.upd ?_ (hsq := Or.inl (by decide +kernel))
  refine Keeps.foldl ?_ (fun _ _ => ?_)
  · refine Keeps.trans ?_ (State.emits_keeps ..) (by decide +kernel)
    refine Keeps.trans ?_ (State.cutSamples_keeps ..) (by decide +kernel)
    refine Keeps.trans ?_ (State.inc_keeps1 ..) (by decide +kernel)
    exact Keeps.refl _ _
  · refine Keeps.trans ?_ (State.closeLoad_keeps ..) (by decide +kernel)
    exact Keeps.refl _ _

theorem State.freezeBlanking_keeps (s : State) : Keeps ⟨[.seq, .bridge], []⟩ s (State.freezeBlanking s)
    := by
  unfold State.freezeBlanking
  dsimp only
  refine Keeps.upd ?_ (hsq := Or.inl (by decide +kernel)) (hb := Or.inl (by decide +kernel))
  exact Keeps.refl _ _

theorem State.fretBegin_keeps (s : State) : Keeps ⟨[.out, .blobs, .ingress, .codec, .comp, .ray, .seq,
    .panel, .bridge, .loop, .lanes, .memory, .clock, .mgmt, .net, .health, .logs], [(0x000000,
    0xFFFFFF)]⟩ s (State.fretBegin s) := by
  unfold State.fretBegin
  dsimp only
  refine Keeps.optE ?_ (fun _ => ?_)
  · refine Keeps.optE ?_ (fun _ => ?_)
    · refine Keeps.trans ?_ (State.fretBridge_keeps ..) (by decide +kernel)
      refine Keeps.trans ?_ (State.fretPanel_keeps ..) (by decide +kernel)
      refine Keeps.trans ?_ (State.retireBanks_keeps ..) (by decide +kernel)
      refine Keeps.trans ?_ (State.applyClass_keeps ..) (by decide +kernel)
      refine Keeps.trans ?_ (State.applyFences_keeps ..) (by decide +kernel)
      refine Keeps.trans ?_ (State.put_keeps1 ..) (by decide +kernel)
      refine Keeps.upd ?_ (hsq := Or.inl (by decide +kernel))
      refine Keeps.trans ?_ (State.freezeBlanking_keeps ..) (by decide +kernel)
      refine Keeps.optE ?_ (fun _ => ?_)
      · refine Keeps.ite (fun _ => ?_) (fun _ => ?_)
        · exact Keeps.refl _ _
        · refine Keeps.trans ?_ (State.finishFret_keeps ..) (by decide +kernel)
          exact Keeps.refl _ _
      · refine Keeps.trans ?_ (State.cutFret_keeps ..) (by decide +kernel)
        exact Keeps.refl _ _
    · refine Keeps.trans ?_ (State.calRamps_keeps ..) (by decide +kernel)
      exact Keeps.refl _ _
  · refine Keeps.trans ?_ (State.openWindow_keeps ..) (by decide +kernel)
    exact Keeps.refl _ _

theorem State.doFret_keeps (s : State) (glide : Bool) : Keeps ⟨[.out, .blobs, .ingress, .codec, .comp,
    .ray, .seq, .panel, .bridge, .loop, .lanes, .memory, .clock, .mgmt, .net, .health, .logs],
    [(0x000000, 0xFFFFFF)]⟩ s (State.doFret s glide) := by
  unfold State.doFret
  refine Keeps.ite (fun _ => ?_) (fun _ => ?_)
  · refine Keeps.trans ?_ (State.settle_keeps ..) (by decide +kernel)
    refine Keeps.trans ?_ (State.fretBegin_keeps ..) (by decide +kernel)
    exact Keeps.refl _ _
  · exact Keeps.refl _ _

theorem State.doSlot_keeps (s : State) (ecc : List Ecc) : Keeps ⟨[.now, .out, .seq, .panel, .bridge,
    .lanes, .memory, .logs], [(0x180002, 0x180002), (0x180101, 0x180103), (0x580201, 0x580204),
    (0x600209, 0x600209), (0x60100B, 0x60100B), (0x70020C, 0x70020C), (0x700309, 0x700309), (0x701001,
    0x701001), (0x780103, 0x780104), (0x780201, 0x780203), (0x781001, 0x781005), (0x900005, 0x900005)]⟩
    s (State.doSlot s ecc) := by
  unfold State.doSlot
  dsimp only
  refine Keeps.ite (fun _ => ?_) (fun _ => ?_)
  · refine Keeps.trans ?_ (State.slotBridge_keeps ..) (by decide +kernel)
    refine Keeps.trans ?_ (State.slotLoad_keeps ..) (by decide +kernel)
    refine Keeps.trans ?_ (State.slotResets_keeps ..) (by decide +kernel)
    refine Keeps.trans ?_ (State.eccAll_keeps ..) (by decide +kernel)
    refine Keeps.upd ?_ (hsq := Or.inl (by decide +kernel))
    exact Keeps.refl _ _
  · exact Keeps.refl _ _

theorem State.doSynthesisDeadline_keeps (s : State) : Keeps ⟨[.now, .out, .codec, .ray, .panel, .lanes],
    [(0x38020C, 0x38020C), (0x480201, 0x480201), (0x480207, 0x480207), (0x480301, 0x480303), (0x580201,
    0x580204), (0x70020C, 0x70020C), (0x700309, 0x700309), (0x701001, 0x701001)]⟩ s
    (State.doSynthesisDeadline s) := by
  unfold State.doSynthesisDeadline
  dsimp only
  refine Keeps.optE ?_ (fun _ => ?_)
  · refine Keeps.trans ?_ (State.doDeadline_keeps ..) (by decide +kernel)
    exact Keeps.refl _ _
  · refine Keeps.trans ?_ (State.loadPlane_keeps ..) (by decide +kernel)
    exact Keeps.refl _ _

theorem State.swapStores_keeps (s : State) : Keeps ⟨[.ingress, .codec, .comp], [(0x400101, 0x400101)]⟩ s
    (State.swapStores s) := by
  unfold State.swapStores
  dsimp only
  refine Keeps.upd ?_ (hi := Or.inl (by decide +kernel))
  refine Keeps.trans ?_ (State.leaveNext_keeps ..) (by decide +kernel)
  exact Keeps.refl _ _

theorem State.takeFrame_keeps (s : State) (bn : Option Int) : Keeps ⟨[.ingress, .codec, .comp],
    [(0x30020B, 0x30020D), (0x400101, 0x400101)]⟩ s (State.takeFrame s bn).2 := by
  refine Keeps.pair (by unfold State.takeFrame; dsimp only) ?_
  split
  · dsimp only
    exact Keeps.refl _ _
  · refine Keeps.sndIte (fun _ => ?_) (fun _ => ?_)
    · dsimp only
      refine Keeps.trans ?_ (State.inc_keeps1 ..) (by decide +kernel)
      exact Keeps.refl _ _
    · split
      · dsimp only
        exact Keeps.refl _ _
      · refine Keeps.sndIte (fun _ => ?_) (fun _ => ?_)
        · dsimp only
          refine Keeps.trans ?_ (State.releaseNext_keeps ..) (by decide +kernel)
          refine Keeps.trans ?_ (State.passOver_keeps ..) (by decide +kernel)
          exact Keeps.refl _ _
        · dsimp only
          refine Keeps.trans ?_ (State.releaseNext_keeps ..) (by decide +kernel)
          refine Keeps.upd ?_ (hi := Or.inl (by decide +kernel))
          refine Keeps.trans ?_ (State.swapStores_keeps ..) (by decide +kernel)
          refine Keeps.optT ?_ (fun _ => ?_)
          · refine Keeps.ite (fun _ => ?_) (fun _ => ?_)
            · refine Keeps.trans ?_ (State.inc_keeps1 ..) (by decide +kernel)
              exact Keeps.refl _ _
            · exact Keeps.refl _ _
          · refine Keeps.trans ?_ (State.inc_keeps1 ..) (by decide +kernel)
            exact Keeps.refl _ _

theorem State.replaceReplay_keeps (s : State) (g : Trigger) : Keeps ⟨[.ingress, .codec, .comp],
    [(0x304101, 0x304101), (0x304103, 0x304103), (0x400101, 0x400101)]⟩ s (State.replaceReplay s g) :=
    by
  unfold State.replaceReplay
  refine Keeps.trans ?_ (State.startStep_keeps ..) (by decide +kernel)
  refine Keeps.trans ?_ (State.showReplay_keeps ..) (by decide +kernel)
  refine Keeps.trans ?_ (State.put_keeps1 ..) (by decide +kernel)
  refine Keeps.upd ?_ (hi := Or.inl (by decide +kernel))
  exact Keeps.refl _ _

theorem State.afterStep_keeps (s : State) (r : Replay) (done : Bool) : Keeps ⟨[.ingress, .codec, .comp],
    [(0x304101, 0x304101), (0x304103, 0x304103), (0x400101, 0x400101)]⟩ s (State.afterStep s r done) :=
    by
  unfold State.afterStep
  split
  · refine Keeps.trans ?_ (State.replaceReplay_keeps ..) (by decide +kernel)
    exact Keeps.refl _ _
  · refine Keeps.ite (fun _ => ?_) (fun _ => ?_)
    · refine Keeps.trans ?_ (State.endReplay_keeps ..) (by decide +kernel)
      exact Keeps.refl _ _
    · refine Keeps.trans ?_ (State.startStep_keeps ..) (by decide +kernel)
      exact Keeps.refl _ _

theorem State.replayLatch_keeps (s : State) (r : Replay) (bn : Option Int) : Keeps ⟨[.ingress, .codec,
    .comp], [(0x30020D, 0x30020D), (0x304101, 0x304101), (0x304103, 0x304103), (0x400101, 0x400101)]⟩ s
    (State.replayLatch s r bn).2 := by
  refine Keeps.pair (by unfold State.replayLatch; dsimp only) ?_
  refine Keeps.sndIte (fun _ => ?_) (fun _ => ?_)
  · dsimp only
    refine Keeps.ite (fun _ => ?_) (fun _ => ?_)
    · refine Keeps.trans ?_ (State.afterStep_keeps ..) (by decide +kernel)
      exact Keeps.refl _ _
    · exact Keeps.refl _ _
  · dsimp only
    refine Keeps.trans ?_ (State.afterStep_keeps ..) (by decide +kernel)
    refine Keeps.optE ?_ (fun _ => ?_)
    · refine Keeps.ite (fun _ => ?_) (fun _ => ?_)
      · refine Keeps.trans ?_ (State.swapStores_keeps ..) (by decide +kernel)
        exact Keeps.refl _ _
      · refine Keeps.trans ?_ (State.inc_keeps1 ..) (by decide +kernel)
        exact Keeps.refl _ _
    · refine Keeps.trans ?_ (State.inc_keeps1 ..) (by decide +kernel)
      exact Keeps.refl _ _

theorem State.judgeNext_keeps (s : State) (bn : Option Int) : Keeps ⟨[.ingress, .codec, .comp],
    [(0x30020B, 0x30020D), (0x304101, 0x304101), (0x304103, 0x304103), (0x400101, 0x400101), (0x400206,
    0x400206)]⟩ s (State.judgeNext s bn).2 := by
  refine Keeps.pair (by unfold State.judgeNext; dsimp only) ?_
  split
  · refine Keeps.trans ?_ (State.replayLatch_keeps ..) (by decide +kernel)
    refine Keeps.ite (fun _ => ?_) (fun _ => ?_)
    · refine Keeps.trans ?_ (State.inc_keeps1 ..) (by decide +kernel)
      exact Keeps.refl _ _
    · exact Keeps.refl _ _
  · split
    · refine Keeps.sndIte (fun _ => ?_) (fun _ => ?_)
      · dsimp only
        refine Keeps.trans ?_ (State.activateReplay_keeps ..) (by decide +kernel)
        refine Keeps.trans ?_ (State.takeFrame_keeps ..) (by decide +kernel)
        refine Keeps.ite (fun _ => ?_) (fun _ => ?_)
        · refine Keeps.trans ?_ (State.inc_keeps1 ..) (by decide +kernel)
          exact Keeps.refl _ _
        · exact Keeps.refl _ _
      · dsimp only
        refine Keeps.trans ?_ (State.takeFrame_keeps ..) (by decide +kernel)
        refine Keeps.ite (fun _ => ?_) (fun _ => ?_)
        · refine Keeps.trans ?_ (State.inc_keeps1 ..) (by decide +kernel)
          exact Keeps.refl _ _
        · exact Keeps.refl _ _
    · dsimp only
      refine Keeps.trans ?_ (State.takeFrame_keeps ..) (by decide +kernel)
      refine Keeps.ite (fun _ => ?_) (fun _ => ?_)
      · refine Keeps.trans ?_ (State.inc_keeps1 ..) (by decide +kernel)
        exact Keeps.refl _ _
      · exact Keeps.refl _ _

theorem State.countRepeat_keeps (s : State) (d : Nat) : Keeps ⟨[.out, .clock, .mgmt], [(0x101107,
    0x101107), (0x103003, 0x103003), (0x500108, 0x500108), (0x500204, 0x500204)]⟩ s (State.countRepeat s
    d) := by
  unfold State.countRepeat
  refine Keeps.ite (fun _ => ?_) (fun _ => ?_)
  · refine Keeps.trans ?_ (State.put_keeps1 ..) (by decide +kernel)
    exact Keeps.refl _ _
  · dsimp only
    refine Keeps.optE ?_ (fun _ => ?_)
    · refine Keeps.trans ?_ (State.inc_keeps1 ..) (by decide +kernel)
      exact Keeps.refl _ _
    · refine Keeps.trans ?_ (State.event_keeps ..) (by decide +kernel)
      refine Keeps.trans ?_ (State.inc_keeps1 ..) (by decide +kernel)
      exact Keeps.refl _ _

theorem State.reductionChange_keeps (s : State) : Keeps ⟨[.seq], [(0x500104, 0x500105)]⟩ s
    (State.reductionChange s) := by
  unfold State.reductionChange
  refine Keeps.ite (fun _ => ?_) (fun _ => ?_)
  · exact Keeps.refl _ _
  · dsimp only
    refine Keeps.trans ?_ (State.selectMode_keeps ..) (by decide +kernel)
    exact Keeps.refl _ _

theorem State.foreseeNut_keeps (s : State) : Keeps ⟨[.seq], [(0x68010A, 0x68010A)]⟩ s (State.foreseeNut
    s) := by
  unfold State.foreseeNut
  dsimp only
  split
  · refine Keeps.trans ?_ (State.put_keeps1 ..) (by decide +kernel)
    refine Keeps.upd ?_ (hsq := Or.inl (by decide +kernel))
    exact Keeps.refl _ _
  · refine Keeps.upd ?_ (hsq := Or.inl (by decide +kernel))
    exact Keeps.refl _ _

theorem State.doLatchPoint_keeps (s : State) : Keeps ⟨[.out, .blobs, .ingress, .codec, .comp, .ray,
    .seq, .panel, .bridge, .loop, .lanes, .memory, .clock, .mgmt, .net, .health, .logs], [(0x000000,
    0xFFFFFF)]⟩ s (State.doLatchPoint s) := by
  unfold State.doLatchPoint
  refine Keeps.ite (fun _ => ?_) (fun _ => ?_)
  · dsimp only
    refine Keeps.trans ?_ (State.settle_keeps ..) (by decide +kernel)
    refine Keeps.trans ?_ (State.openWindow_keeps ..) (by decide +kernel)
    refine Keeps.trans ?_ (State.chooseViews_keeps ..) (by decide +kernel)
    refine Keeps.upd ?_ (hi := Or.inl (by decide +kernel))
    refine Keeps.trans ?_ (State.countRepeat_keeps ..) (by decide +kernel)
    refine Keeps.trans ?_ (State.put_keeps1 ..) (by decide +kernel)
    refine Keeps.trans ?_ (State.judgeNext_keeps ..) (by decide +kernel)
    refine Keeps.trans ?_ (State.foreseeNut_keeps ..) (by decide +kernel)
    refine Keeps.trans ?_ (State.throttleStep_keeps ..) (by decide +kernel)
    refine Keeps.upd ?_ (hsq := Or.inl (by decide +kernel))
    refine Keeps.trans ?_ (State.reductionChange_keeps ..) (by decide +kernel)
    refine Keeps.trans ?_ (State.selectFrame_keeps ..) (by decide +kernel)
    refine Keeps.trans ?_ (State.put_keeps1 ..) (by decide +kernel)
    refine Keeps.upd ?_ (hsq := Or.inl (by decide +kernel))
    exact Keeps.refl _ _
  · exact Keeps.refl _ _

theorem State.advanceFrame_keeps (s : State) : Keeps ⟨[.seq], [(0x500101, 0x500101)]⟩ s
    (State.advanceFrame s) := by
  unfold State.advanceFrame
  refine Keeps.trans ?_ (State.put_keeps1 ..) (by decide +kernel)
  refine Keeps.upd ?_ (hsq := Or.inl (by decide +kernel))
  exact Keeps.refl _ _

theorem State.forgetHashes_keeps (s : State) : Keeps ⟨[.panel], []⟩ s (State.forgetHashes s) := by
  unfold State.forgetHashes
  refine Keeps.foldl ?_ (fun _ _ => ?_)
  · exact Keeps.refl _ _
  · refine Keeps.trans ?_ (State.dropAllHashes_keeps ..) (by decide +kernel)
    exact Keeps.refl _ _

theorem State.beginGlide_keeps (s : State) (slot : Nat) (k : Nat) (cause : Nat) : Keeps ⟨[.out, .seq,
    .panel, .loop, .clock, .mgmt, .health], [(0x101107, 0x101107), (0x103003, 0x103003), (0x500103,
    0x500103), (0x500105, 0x500106), (0x500201, 0x500201), (0x500203, 0x500203), (0x680101, 0x680101),
    (0x680103, 0x680104), (0x680106, 0x680106), (0x68010D, 0x68010D), (0x680206, 0x680206), (0x681003,
    0x681003)]⟩ s (State.beginGlide s slot k cause) := by
  unfold State.beginGlide
  dsimp only
  refine Keeps.ite (fun _ => ?_) (fun _ => ?_)
  · refine Keeps.trans ?_ (State.glideWheel_keeps ..) (by decide +kernel)
    refine Keeps.trans ?_ (State.inc_keeps1 ..) (by decide +kernel)
    refine Keeps.optT ?_ (fun _ => ?_)
    · refine Keeps.trans ?_ (State.calEnd_keeps ..) (by decide +kernel)
      refine Keeps.trans ?_ (State.inc_keeps1 ..) (by decide +kernel)
      refine Keeps.trans ?_ (State.put_keeps1 ..) (by decide +kernel)
      refine Keeps.trans ?_ (State.put_keeps1 ..) (by decide +kernel)
      refine Keeps.upd ?_ (hsq := Or.inl (by decide +kernel))
      exact Keeps.refl _ _
    · refine Keeps.trans ?_ (State.put_keeps1 ..) (by decide +kernel)
      exact Keeps.refl _ _
  · refine Keeps.trans ?_ (State.glideWheel_keeps ..) (by decide +kernel)
    refine Keeps.trans ?_ (State.forgetHashes_keeps ..) (by decide +kernel)
    refine Keeps.optT ?_ (fun _ => ?_)
    · refine Keeps.trans ?_ (State.calEnd_keeps ..) (by decide +kernel)
      refine Keeps.trans ?_ (State.inc_keeps1 ..) (by decide +kernel)
      refine Keeps.trans ?_ (State.put_keeps1 ..) (by decide +kernel)
      refine Keeps.trans ?_ (State.put_keeps1 ..) (by decide +kernel)
      refine Keeps.upd ?_ (hsq := Or.inl (by decide +kernel))
      exact Keeps.refl _ _
    · refine Keeps.trans ?_ (State.put_keeps1 ..) (by decide +kernel)
      exact Keeps.refl _ _

theorem State.retarget_keeps (s : State) (slot : Nat) (k : Nat) : Keeps ⟨[.out, .seq, .panel, .loop,
    .clock, .mgmt, .health], [(0x101107, 0x101107), (0x103003, 0x103003), (0x500105, 0x500106),
    (0x680101, 0x680101), (0x680103, 0x680104), (0x680106, 0x680106), (0x68010D, 0x68010D), (0x680206,
    0x680206), (0x681003, 0x681003)]⟩ s (State.retarget s slot k) := by
  unfold State.retarget
  dsimp only
  refine Keeps.trans ?_ (State.glideWheel_keeps ..) (by decide +kernel)
  refine Keeps.trans ?_ (State.forgetHashes_keeps ..) (by decide +kernel)
  refine Keeps.trans ?_ (State.put_keeps1 ..) (by decide +kernel)
  refine Keeps.trans ?_ (State.put_keeps1 ..) (by decide +kernel)
  refine Keeps.upd ?_ (hsq := Or.inl (by decide +kernel))
  exact Keeps.refl _ _

theorem State.endGlide_keeps (s : State) : Keeps ⟨[.out, .seq, .panel, .lanes], [(0x189104, 0x189108),
    (0x500103, 0x500106), (0x700309, 0x700309), (0x701001, 0x701001)]⟩ s (State.endGlide s) := by
  unfold State.endGlide
  dsimp only
  refine Keeps.optT ?_ (fun _ => ?_)
  · refine Keeps.trans ?_ (State.recomputeReduction_keeps ..) (by decide +kernel)
    refine Keeps.trans ?_ (State.put_keeps1 ..) (by decide +kernel)
    refine Keeps.trans ?_ (State.put_keeps1 ..) (by decide +kernel)
    refine Keeps.trans ?_ (State.put_keeps1 ..) (by decide +kernel)
    refine Keeps.trans ?_ (State.put_keeps1 ..) (by decide +kernel)
    refine Keeps.upd ?_ (hsq := Or.inl (by decide +kernel))
    exact Keeps.refl _ _
  · refine Keeps.trans ?_ (State.configAll_keeps ..) (by decide +kernel)
    refine Keeps.trans ?_ (State.forgetHashes_keeps ..) (by decide +kernel)
    exact Keeps.refl _ _

theorem State.stopAtNut_keeps (s : State) : Keeps ⟨[.out, .blobs, .ingress, .codec, .comp, .ray, .seq,
    .panel, .bridge, .loop, .lanes, .memory, .clock, .mgmt, .net, .health, .logs], [(0x000000,
    0xFFFFFF)]⟩ s (State.stopAtNut s) := by
  unfold State.stopAtNut
  dsimp only
  refine Keeps.optE ?_ (fun _ => ?_)
  · refine Keeps.optT ?_ (fun _ => ?_)
    · refine Keeps.trans ?_ (State.settle_keeps ..) (by decide +kernel)
      refine Keeps.upd ?_ (hsq := Or.inl (by decide +kernel))
      refine Keeps.trans ?_ (State.calFinish_keeps ..) (by decide +kernel)
      refine Keeps.optT ?_ (fun _ => ?_)
      · refine Keeps.trans ?_ (State.endTimeline_keeps ..) (by decide +kernel)
        exact Keeps.refl _ _
      · refine Keeps.trans ?_ (State.park_keeps ..) (by decide +kernel)
        exact Keeps.refl _ _
    · refine Keeps.ite (fun _ => ?_) (fun _ => ?_)
      · refine Keeps.trans ?_ (State.put_keeps1 ..) (by decide +kernel)
        exact Keeps.refl _ _
      · refine Keeps.trans ?_ (State.beginDrone_keeps ..) (by decide +kernel)
        refine Keeps.trans ?_ (State.droneWheel_keeps ..) (by decide +kernel)
        exact Keeps.refl _ _
  · refine Keeps.trans ?_ (State.brake_keeps ..) (by decide +kernel)
    exact Keeps.refl _ _

theorem State.enterRunning_keeps (s : State) : Keeps ⟨[], [(0x189003, 0x189003), (0x500103, 0x500103)]⟩
    s (State.enterRunning s) := by
  unfold State.enterRunning
  refine Keeps.ite (fun _ => ?_) (fun _ => ?_)
  · dsimp only
    refine Keeps.optE ?_ (fun _ => ?_)
    · refine Keeps.trans ?_ (State.put_keeps1 ..) (by decide +kernel)
      exact Keeps.refl _ _
    · refine Keeps.ite (fun _ => ?_) (fun _ => ?_)
      · refine Keeps.trans ?_ (State.put_keeps1 ..) (by decide +kernel)
        exact Keeps.refl _ _
      · refine Keeps.trans ?_ (State.put_keeps1 ..) (by decide +kernel)
        refine Keeps.trans ?_ (State.draw_keeps ..) (by decide +kernel)
        exact Keeps.refl _ _
  · exact Keeps.refl _ _

theorem State.startGlide_keeps (s : State) : Keeps ⟨[.out, .seq, .panel, .loop, .clock, .mgmt, .health],
    [(0x101107, 0x101107), (0x103003, 0x103003), (0x500103, 0x500103), (0x500105, 0x500106), (0x500201,
    0x500201), (0x500203, 0x500203), (0x680101, 0x680101), (0x680103, 0x680104), (0x680106, 0x680106),
    (0x68010D, 0x68010D), (0x680206, 0x680206), (0x681003, 0x681003)]⟩ s (State.startGlide s) := by
  unfold State.startGlide
  split
  · exact Keeps.refl _ _
  · dsimp only
    refine Keeps.ite (fun _ => ?_) (fun _ => ?_)
    · refine Keeps.trans ?_ (State.retarget_keeps ..) (by decide +kernel)
      refine Keeps.upd ?_ (hsq := Or.inl (by decide +kernel))
      exact Keeps.refl _ _
    · refine Keeps.trans ?_ (State.beginGlide_keeps ..) (by decide +kernel)
      refine Keeps.upd ?_ (hsq := Or.inl (by decide +kernel))
      exact Keeps.refl _ _

theorem State.waitedGlide_keeps (s : State) : Keeps ⟨[.out, .seq, .panel, .loop, .clock, .mgmt,
    .health], [(0x101107, 0x101107), (0x103003, 0x103003), (0x500103, 0x500103), (0x500105, 0x500106),
    (0x500201, 0x500201), (0x500203, 0x500203), (0x680101, 0x680101), (0x680103, 0x680104), (0x680106,
    0x680106), (0x68010D, 0x68010D), (0x680206, 0x680206), (0x681003, 0x681003)]⟩ s (State.waitedGlide
    s) := by
  unfold State.waitedGlide
  refine Keeps.ite (fun _ => ?_) (fun _ => ?_)
  · refine Keeps.trans ?_ (State.beginGlide_keeps ..) (by decide +kernel)
    exact Keeps.refl _ _
  · exact Keeps.refl _ _

theorem State.nutActions_keeps (s : State) : Keeps ⟨[.out, .blobs, .ingress, .codec, .comp, .ray, .seq,
    .panel, .bridge, .loop, .lanes, .memory, .clock, .mgmt, .net, .health, .logs], [(0x000000,
    0xFFFFFF)]⟩ s (State.nutActions s) := by
  unfold State.nutActions
  dsimp only
  refine Keeps.ite (fun _ => ?_) (fun _ => ?_)
  · refine Keeps.trans ?_ (State.stopAtNut_keeps ..) (by decide +kernel)
    refine Keeps.trans ?_ (State.judgePilots_keeps ..) (by decide +kernel)
    refine Keeps.upd ?_ (hsq := Or.inl (by decide +kernel)) (hb := Or.inl (by decide +kernel))
    refine Keeps.trans ?_ (State.put_keeps1 ..) (by decide +kernel)
    refine Keeps.ite (fun _ => ?_) (fun _ => ?_)
    · refine Keeps.trans ?_ (State.endGlide_keeps ..) (by decide +kernel)
      exact Keeps.refl _ _
    · exact Keeps.refl _ _
  · refine Keeps.trans ?_ (State.calNut_keeps ..) (by decide +kernel)
    refine Keeps.trans ?_ (State.nutPanel_keeps ..) (by decide +kernel)
    split
    · refine Keeps.trans ?_ (State.changeService_keeps ..) (by decide +kernel)
      refine Keeps.upd ?_ (hsq := Or.inl (by decide +kernel))
      refine Keeps.trans ?_ (State.enterRunning_keeps ..) (by decide +kernel)
      refine Keeps.trans ?_ (State.startGlide_keeps ..) (by decide +kernel)
      refine Keeps.trans ?_ (State.waitedGlide_keeps ..) (by decide +kernel)
      refine Keeps.trans ?_ (State.showFrame_keeps ..) (by decide +kernel)
      refine Keeps.trans ?_ (State.judgePilots_keeps ..) (by decide +kernel)
      refine Keeps.upd ?_ (hsq := Or.inl (by decide +kernel)) (hb := Or.inl (by decide +kernel))
      refine Keeps.trans ?_ (State.put_keeps1 ..) (by decide +kernel)
      refine Keeps.ite (fun _ => ?_) (fun _ => ?_)
      · refine Keeps.trans ?_ (State.endGlide_keeps ..) (by decide +kernel)
        exact Keeps.refl _ _
      · exact Keeps.refl _ _
    · refine Keeps.trans ?_ (State.enterRunning_keeps ..) (by decide +kernel)
      refine Keeps.trans ?_ (State.startGlide_keeps ..) (by decide +kernel)
      refine Keeps.trans ?_ (State.waitedGlide_keeps ..) (by decide +kernel)
      refine Keeps.trans ?_ (State.showFrame_keeps ..) (by decide +kernel)
      refine Keeps.trans ?_ (State.judgePilots_keeps ..) (by decide +kernel)
      refine Keeps.upd ?_ (hsq := Or.inl (by decide +kernel)) (hb := Or.inl (by decide +kernel))
      refine Keeps.trans ?_ (State.put_keeps1 ..) (by decide +kernel)
      refine Keeps.ite (fun _ => ?_) (fun _ => ?_)
      · refine Keeps.trans ?_ (State.endGlide_keeps ..) (by decide +kernel)
        exact Keeps.refl _ _
      · exact Keeps.refl _ _

theorem State.doNutMark_keeps (s0 : State) : Keeps ⟨[.now, .out, .blobs, .ingress, .codec, .comp, .ray,
    .seq, .panel, .bridge, .loop, .lanes, .memory, .clock, .mgmt, .net, .health, .logs], [(0x000000,
    0xFFFFFF)]⟩ s0 (State.doNutMark s0) := by
  unfold State.doNutMark
  dsimp only
  refine Keeps.optE ?_ (fun _ => ?_)
  · refine Keeps.trans ?_ (State.stopPark_keeps ..) (by decide +kernel)
    exact Keeps.refl _ _
  · refine Keeps.optT ?_ (fun _ => ?_)
    · refine Keeps.upd ?_ (hsq := Or.inl (by decide +kernel))
      refine Keeps.trans ?_ (State.advanceFrame_keeps ..) (by decide +kernel)
      refine Keeps.ite (fun _ => ?_) (fun _ => ?_)
      · exact Keeps.refl _ _
      · refine Keeps.trans ?_ (State.finishFret_keeps ..) (by decide +kernel)
        exact Keeps.refl _ _
    · refine Keeps.trans ?_ (State.settle_keeps ..) (by decide +kernel)
      refine Keeps.trans ?_ (State.nutActions_keeps ..) (by decide +kernel)
      exact Keeps.refl _ _

theorem State.doLastFretEnd_keeps (s0 : State) : Keeps ⟨[.now, .out, .blobs, .ingress, .codec, .comp,
    .ray, .seq, .panel, .bridge, .loop, .lanes, .memory, .clock, .mgmt, .net, .health, .logs],
    [(0x000000, 0xFFFFFF)]⟩ s0 (State.doLastFretEnd s0) := by
  unfold State.doLastFretEnd
  dsimp only
  refine Keeps.optE ?_ (fun _ => ?_)
  · refine Keeps.trans ?_ (State.stopPark_keeps ..) (by decide +kernel)
    exact Keeps.refl _ _
  · refine Keeps.trans ?_ (State.settle_keeps ..) (by decide +kernel)
    refine Keeps.trans ?_ (State.nutActions_keeps ..) (by decide +kernel)
    refine Keeps.upd ?_ (hsq := Or.inl (by decide +kernel))
    refine Keeps.trans ?_ (State.finishFret_keeps ..) (by decide +kernel)
    exact Keeps.refl _ _

theorem State.restNut_keeps (s : State) : Keeps ⟨[.out, .seq, .panel, .lanes, .memory, .logs],
    [(0x180002, 0x180002), (0x180101, 0x180103), (0x500101, 0x500101), (0x580100, 0x5801FF), (0x580201,
    0x580201), (0x580203, 0x580204), (0x580209, 0x580209), (0x70020C, 0x70020C), (0x700309, 0x700309),
    (0x701001, 0x701001), (0x900005, 0x900005)]⟩ s (State.restNut s) := by
  unfold State.restNut
  dsimp only
  refine Keeps.optE ?_ (fun _ => ?_)
  · refine Keeps.optT ?_ (fun _ => ?_)
    · refine Keeps.upd ?_ (hsq := Or.inl (by decide +kernel))
      exact Keeps.refl _ _
    · refine Keeps.trans ?_ (State.advanceFrame_keeps ..) (by decide +kernel)
      exact Keeps.refl _ _
  · refine Keeps.foldl ?_ (fun _ _ => ?_)
    · exact Keeps.refl _ _
    · refine Keeps.trans ?_ (State.remap_keeps ..) (by decide +kernel)
      exact Keeps.refl _ _

theorem State.countRev_keeps (s : State) (g : Mode) : Keeps ⟨[], [(0x500106, 0x500106)]⟩ s
    (State.countRev s g) := by
  unfold State.countRev
  split
  · exact Keeps.refl _ _
  · dsimp only
    refine Keeps.trans ?_ (State.put_keeps1 ..) (by decide +kernel)
    exact Keeps.refl _ _

theorem State.doMeasuredNut_keeps (s : State) : Keeps ⟨[.out, .blobs, .ingress, .codec, .comp, .ray,
    .seq, .panel, .bridge, .loop, .lanes, .memory, .clock, .mgmt, .net, .health, .logs], [(0x000000,
    0xFFFFFF)]⟩ s (State.doMeasuredNut s) := by
  unfold State.doMeasuredNut
  split
  dsimp only
  refine Keeps.ite (fun _ => ?_) (fun _ => ?_)
  · refine Keeps.trans ?_ (State.settle_keeps ..) (by decide +kernel)
    refine Keeps.trans ?_ (State.restNut_keeps ..) (by decide +kernel)
    refine Keeps.snd (by assumption) ?_
    refine Keeps.trans ?_ (State.wheelNut_keeps ..) (by decide +kernel)
    exact Keeps.refl _ _
  · split
    · refine Keeps.trans ?_ (State.settle_keeps ..) (by decide +kernel)
      refine Keeps.trans ?_ (State.countRev_keeps ..) (by decide +kernel)
      refine Keeps.snd (by assumption) ?_
      refine Keeps.trans ?_ (State.wheelNut_keeps ..) (by decide +kernel)
      exact Keeps.refl _ _
    · refine Keeps.ite (fun _ => ?_) (fun _ => ?_)
      · refine Keeps.ite (fun _ => ?_) (fun _ => ?_)
        · refine Keeps.trans ?_ (State.settle_keeps ..) (by decide +kernel)
          refine Keeps.trans ?_ (State.beginGlide_keeps ..) (by decide +kernel)
          refine Keeps.snd (by assumption) ?_
          refine Keeps.trans ?_ (State.wheelNut_keeps ..) (by decide +kernel)
          exact Keeps.refl _ _
        · refine Keeps.ite (fun _ => ?_) (fun _ => ?_)
          · refine Keeps.trans ?_ (State.settle_keeps ..) (by decide +kernel)
            refine Keeps.snd (by assumption) ?_
            refine Keeps.trans ?_ (State.wheelNut_keeps ..) (by decide +kernel)
            exact Keeps.refl _ _
          · refine Keeps.ite (fun _ => ?_) (fun _ => ?_)
            · refine Keeps.trans ?_ (State.settle_keeps ..) (by decide +kernel)
              refine Keeps.upd ?_ (hsq := Or.inl (by decide +kernel))
              refine Keeps.snd (by assumption) ?_
              refine Keeps.trans ?_ (State.wheelNut_keeps ..) (by decide +kernel)
              exact Keeps.refl _ _
            · refine Keeps.trans ?_ (State.settle_keeps ..) (by decide +kernel)
              refine Keeps.trans ?_ (State.beginGlide_keeps ..) (by decide +kernel)
              refine Keeps.snd (by assumption) ?_
              refine Keeps.trans ?_ (State.wheelNut_keeps ..) (by decide +kernel)
              exact Keeps.refl _ _
      · refine Keeps.trans ?_ (State.settle_keeps ..) (by decide +kernel)
        refine Keeps.snd (by assumption) ?_
        refine Keeps.trans ?_ (State.wheelNut_keeps ..) (by decide +kernel)
        exact Keeps.refl _ _

theorem State.freshTimeline_keeps (s : State) : Keeps ⟨[.ray, .seq, .loop], []⟩ s (State.freshTimeline
    s) := by
  unfold State.freshTimeline
  refine Keeps.upd ?_ (hr := Or.inl (by decide +kernel)) (hsq := Or.inl (by decide +kernel)) (hl := Or.inl (by decide +kernel))
  exact Keeps.refl _ _

theorem State.doDisplayStart_keeps (s : State) : Keeps ⟨[.out, .ingress, .codec, .comp, .ray, .seq,
    .panel, .bridge, .loop, .lanes, .memory, .logs], [(0x180002, 0x180002), (0x180101, 0x180103),
    (0x189104, 0x189108), (0x30020B, 0x30020D), (0x304101, 0x304101), (0x304103, 0x304103), (0x400101,
    0x400101), (0x400206, 0x400206), (0x480101, 0x480104), (0x480106, 0x480108), (0x480203, 0x480205),
    (0x500101, 0x500101), (0x500103, 0x500104), (0x500107, 0x500108), (0x580100, 0x5801FF), (0x580201,
    0x580201), (0x580203, 0x580204), (0x580209, 0x580209), (0x680105, 0x680105), (0x70020C, 0x70020C),
    (0x700309, 0x700309), (0x701001, 0x701001), (0x900005, 0x900005)]⟩ s (State.doDisplayStart s) := by
  unfold State.doDisplayStart
  refine Keeps.ite (fun _ => ?_) (fun _ => ?_)
  · dsimp only
    refine Keeps.trans ?_ (State.setReceivers_keeps ..) (by decide +kernel)
    refine Keeps.trans ?_ (State.nutPanel_keeps ..) (by decide +kernel)
    refine Keeps.foldl ?_ (fun _ _ => ?_)
    · refine Keeps.trans ?_ (State.openWindow_keeps ..) (by decide +kernel)
      refine Keeps.trans ?_ (State.chooseViews_keeps ..) (by decide +kernel)
      refine Keeps.upd ?_ (hi := Or.inl (by decide +kernel))
      refine Keeps.trans ?_ (State.put_keeps1 ..) (by decide +kernel)
      refine Keeps.trans ?_ (State.put_keeps1 ..) (by decide +kernel)
      refine Keeps.trans ?_ (State.judgeNext_keeps ..) (by decide +kernel)
      refine Keeps.trans ?_ (State.recomputeReduction_keeps ..) (by decide +kernel)
      refine Keeps.trans ?_ (State.releaseAll_keeps ..) (by decide +kernel)
      refine Keeps.trans ?_ (State.put_keeps1 ..) (by decide +kernel)
      refine Keeps.trans ?_ (State.put_keeps1 ..) (by decide +kernel)
      refine Keeps.trans ?_ (State.put_keeps1 ..) (by decide +kernel)
      refine Keeps.upd ?_ (hsq := Or.inl (by decide +kernel))
      refine Keeps.trans ?_ (State.forgetPilots_keeps ..) (by decide +kernel)
      refine Keeps.trans ?_ (State.freshTimeline_keeps ..) (by decide +kernel)
      refine Keeps.ite (fun _ => ?_) (fun _ => ?_)
      · exact Keeps.refl _ _
      · refine Keeps.trans ?_ (State.advanceFrame_keeps ..) (by decide +kernel)
        exact Keeps.refl _ _
    · refine Keeps.trans ?_ (State.putHalf_keeps ..) (by decide +kernel)
      refine Keeps.trans ?_ (State.startClear_keeps ..) (by decide +kernel)
      exact Keeps.refl _ _
  · exact Keeps.refl _ _

end Sys2Proof.Machine
end

