-- ==== Sys2Proof/Laws/Keeps/Faults.lean ====
section
/-! SUPPORT. What each operation of Machine/Faults.lean may change. -/

set_option Elab.async false

namespace Sys2Proof.Machine

theorem State.lossNoted_keeps (s : State) (slip : Bool) : Keeps ⟨[.memory, .clock, .logs], [(0x180002,
    0x180002), (0x180101, 0x180103), (0x200102, 0x200102), (0x200200, 0x2002FF), (0x900005, 0x900005)]⟩
    s (State.lossNoted s slip) := by
  unfold State.lossNoted
  dsimp only
  refine Keeps.trans ?_ (State.log_keeps ..) (by decide +kernel)
  refine Keeps.trans ?_ (State.inc_keepsO ..) (by decide +kernel)
  refine Keeps.trans ?_ (State.putBit_keeps1 ..) (by decide +kernel)
  refine Keeps.upd ?_ (hck := Or.inl (by decide +kernel))
  exact Keeps.refl _ _

theorem State.coreForced_keeps (s : State) : Keeps ⟨[.memory, .clock, .logs], [(0x180002, 0x180002),
    (0x180101, 0x180103), (0x200102, 0x200102), (0x200203, 0x200203), (0x201001, 0x201001), (0x201004,
    0x201005), (0x900005, 0x900005)]⟩ s (State.coreForced s) := by
  unfold State.coreForced
  refine Keeps.foldl ?_ (fun _ _ => ?_)
  · exact Keeps.refl _ _
  · refine Keeps.trans ?_ (State.forcedSwitch_keeps ..) (by decide +kernel)
    exact Keeps.refl _ _

theorem State.lockLost_keeps (s : State) (slip : Bool) : Keeps ⟨[.out, .blobs, .codec, .ray, .seq,
    .panel, .bridge, .loop, .lanes, .memory, .clock, .mgmt, .net, .health, .logs], [(0x000000,
    0xFFFFFF)]⟩ s (State.lockLost s slip) := by
  unfold State.lockLost
  dsimp only
  refine Keeps.trans ?_ (State.event_keeps ..) (by decide +kernel)
  refine Keeps.trans ?_ (State.wallLost_keeps ..) (by decide +kernel)
  refine Keeps.trans ?_ (State.selfRefresh_keeps ..) (by decide +kernel)
  refine Keeps.trans ?_ (State.park_keeps ..) (by decide +kernel)
  refine Keeps.trans ?_ (State.stopNow_keeps ..) (by decide +kernel)
  refine Keeps.trans ?_ (State.faultedCoast_keeps ..) (by decide +kernel)
  refine Keeps.trans ?_ (State.blankAll_keeps ..) (by decide +kernel)
  refine Keeps.trans ?_ (State.gateFails_keeps ..) (by decide +kernel)
  refine Keeps.upd ?_ (hck := Or.inl (by decide +kernel))
  refine Keeps.trans ?_ (State.put_keeps1 ..) (by decide +kernel)
  refine Keeps.trans ?_ (State.lossNoted_keeps ..) (by decide +kernel)
  exact Keeps.refl _ _

theorem State.clockFails_keeps (s : State) (slip : Bool) : Keeps ⟨[.out, .blobs, .codec, .ray, .seq,
    .panel, .bridge, .loop, .lanes, .memory, .clock, .mgmt, .net, .health, .logs], [(0x000000,
    0xFFFFFF)]⟩ s (State.clockFails s slip) := by
  unfold State.clockFails
  refine Keeps.ite (fun _ => ?_) (fun _ => ?_)
  · refine Keeps.upd ?_ (hck := Or.inl (by decide +kernel))
    exact Keeps.refl _ _
  · split
    · refine Keeps.trans ?_ (State.lockLost_keeps ..) (by decide +kernel)
      exact Keeps.refl _ _
    · refine Keeps.ite (fun _ => ?_) (fun _ => ?_)
      · exact Keeps.refl _ _
      · refine Keeps.trans ?_ (State.put_keeps1 ..) (by decide +kernel)
        refine Keeps.trans ?_ (State.coreForced_keeps ..) (by decide +kernel)
        refine Keeps.trans ?_ (State.lossNoted_keeps ..) (by decide +kernel)
        exact Keeps.refl _ _
    · refine Keeps.ite (fun _ => ?_) (fun _ => ?_)
      · exact Keeps.refl _ _
      · refine Keeps.trans ?_ (State.put_keeps1 ..) (by decide +kernel)
        refine Keeps.trans ?_ (State.coreForced_keeps ..) (by decide +kernel)
        refine Keeps.trans ?_ (State.lossNoted_keeps ..) (by decide +kernel)
        exact Keeps.refl _ _
    · exact Keeps.refl _ _
    · refine Keeps.ite (fun _ => ?_) (fun _ => ?_)
      · exact Keeps.refl _ _
      · refine Keeps.upd ?_ (hck := Or.inl (by decide +kernel))
        exact Keeps.refl _ _

theorem State.pfailFalls_keeps (s : State) : Keeps ⟨[.out, .codec, .ray, .seq, .panel, .bridge, .loop,
    .lanes, .memory, .clock, .mgmt, .health, .logs], [(0x101107, 0x101107), (0x103003, 0x103003),
    (0x180002, 0x180002), (0x180101, 0x180103), (0x180107, 0x180107), (0x188001, 0x188001), (0x189001,
    0x189001), (0x201001, 0x201001), (0x201004, 0x201004), (0x280207, 0x280207), (0x283002, 0x283005),
    (0x283101, 0x283101), (0x500102, 0x500106), (0x58000A, 0x58000A), (0x580101, 0x580101), (0x580104,
    0x580105), (0x580201, 0x580201), (0x580203, 0x580204), (0x600103, 0x600103), (0x600201, 0x600202),
    (0x680101, 0x680101), (0x680103, 0x680106), (0x68010C, 0x68010D), (0x680206, 0x680206), (0x681003,
    0x681003), (0x681006, 0x681007), (0x68100A, 0x68100A), (0x70020C, 0x70020C), (0x700309, 0x700309),
    (0x701001, 0x701001), (0x701003, 0x701003), (0x701006, 0x701006), (0x900005, 0x900005)]⟩ s
    (State.pfailFalls s) := by
  unfold State.pfailFalls
  dsimp only
  refine Keeps.optT ?_ (fun _ => ?_)
  · refine Keeps.trans ?_ (State.transitions_keeps ..) (by decide +kernel)
    exact Keeps.refl _ _
  · refine Keeps.optE ?_ (fun _ => ?_)
    · refine Keeps.upd ?_ (hck := Or.inl (by decide +kernel))
      exact Keeps.refl _ _
    · refine Keeps.trans ?_ (State.powerFailLogged_keeps ..) (by decide +kernel)
      exact Keeps.refl _ _

theorem State.railLow_keeps (s : State) (r : Nat) : Keeps ⟨[.out, .codec, .ray, .seq, .panel, .bridge,
    .loop, .lanes, .memory, .clock, .mgmt, .health, .logs], [(0x101107, 0x101107), (0x103003, 0x103003),
    (0x180002, 0x180002), (0x180101, 0x180103), (0x189001, 0x189001), (0x200206, 0x200206), (0x201001,
    0x201001), (0x201004, 0x201004), (0x204001, 0x204002), (0x280207, 0x280207), (0x283002, 0x283005),
    (0x283101, 0x283101), (0x500102, 0x500106), (0x58000A, 0x58000A), (0x580101, 0x580101), (0x580104,
    0x580105), (0x580201, 0x580201), (0x580203, 0x580204), (0x600103, 0x600103), (0x600201, 0x600201),
    (0x680101, 0x680101), (0x680103, 0x680106), (0x68010C, 0x68010D), (0x680206, 0x680206), (0x681003,
    0x681003), (0x681006, 0x681007), (0x68100A, 0x68100A), (0x70020C, 0x70020C), (0x700309, 0x700309),
    (0x701001, 0x701001), (0x701003, 0x701003), (0x701006, 0x701006), (0x900005, 0x900005)]⟩ s
    (State.railLow s r) := by
  unfold State.railLow
  dsimp only
  refine Keeps.optE ?_ (fun _ => ?_)
  · refine Keeps.trans ?_ (State.railFault_keeps ..) (by decide +kernel)
    exact Keeps.refl _ _
  · refine Keeps.trans ?_ (State.powerFail_keeps ..) (by decide +kernel)
    exact Keeps.refl _ _

theorem State.haltDisplay_keeps (s : State) : Keeps ⟨[.out, .codec, .ray, .seq, .panel, .bridge, .loop,
    .lanes, .clock, .mgmt, .health], [(0x101107, 0x101107), (0x103003, 0x103003), (0x280207, 0x280207),
    (0x283002, 0x283005), (0x283101, 0x283101), (0x500102, 0x500106), (0x58000A, 0x58000A), (0x580101,
    0x580101), (0x680101, 0x680101), (0x680103, 0x680104), (0x680106, 0x680106), (0x68010D, 0x68010D),
    (0x680206, 0x680206), (0x681003, 0x681003), (0x681006, 0x681007), (0x68100A, 0x68100A), (0x701001,
    0x701001)]⟩ s (State.haltDisplay s) := by
  unfold State.haltDisplay
  dsimp only
  refine Keeps.optE ?_ (fun _ => ?_)
  · refine Keeps.trans ?_ (State.stopNow_keeps ..) (by decide +kernel)
    exact Keeps.refl _ _
  · refine Keeps.trans ?_ (State.brake_keeps ..) (by decide +kernel)
    exact Keeps.refl _ _

theorem State.dropNext_keeps (s : State) : Keeps ⟨[.ingress, .codec, .comp], [(0x400101, 0x400101)]⟩ s
    (State.dropNext s) := by
  unfold State.dropNext
  split
  · refine Keeps.trans ?_ (State.startStep_keeps ..) (by decide +kernel)
    exact Keeps.refl _ _
  · dsimp only
    refine Keeps.upd ?_ (hi := Or.inl (by decide +kernel))
    refine Keeps.trans ?_ (State.keepSpill_keeps ..) (by decide +kernel)
    refine Keeps.trans ?_ (State.putNext_keeps ..) (by decide +kernel)
    refine Keeps.trans ?_ (State.leaveNext_keeps ..) (by decide +kernel)
    exact Keeps.refl _ _

theorem State.compStops_keeps (s : State) : Keeps ⟨[.ingress, .codec, .comp], [(0x400101, 0x400101)]⟩ s
    (State.compStops s) := by
  unfold State.compStops
  dsimp only
  refine Keeps.optE ?_ (fun _ => ?_)
  · refine Keeps.trans ?_ (State.leaveNext_keeps ..) (by decide +kernel)
    exact Keeps.refl _ _
  · refine Keeps.trans ?_ (State.putNext_keeps ..) (by decide +kernel)
    exact Keeps.refl _ _

theorem State.codecStops_keeps (s : State) : Keeps ⟨[.codec], [(0x38020A, 0x38020A), (0x382003,
    0x382003)]⟩ s (State.codecStops s) := by
  unfold State.codecStops
  dsimp only
  refine Keeps.upd ?_ (hc := Or.inl (by decide +kernel))
  refine Keeps.foldl ?_ (fun _ _ => ?_)
  · exact Keeps.refl _ _
  · refine Keeps.trans ?_ (State.clanRest_keeps ..) (by decide +kernel)
    refine Keeps.trans ?_ (State.inc_keeps1 ..) (by decide +kernel)
    exact Keeps.refl _ _

theorem State.lanesStop_keeps (s : State) : Keeps ⟨[.out, .ingress, .lanes, .memory, .logs], [(0x180002,
    0x180002), (0x180101, 0x180103), (0x300202, 0x300202), (0x300205, 0x300205), (0x301001, 0x301001),
    (0x301004, 0x301004), (0x700209, 0x700209), (0x700305, 0x700307), (0x700309, 0x700309), (0x701001,
    0x701001), (0x900005, 0x900005)]⟩ s (State.lanesStop s) := by
  unfold State.lanesStop
  dsimp only
  refine Keeps.upd ?_ (hln := Or.inl (by decide +kernel))
  refine Keeps.foldl ?_ (fun _ _ => ?_)
  · refine Keeps.foldl ?_ (fun _ _ => ?_)
    · exact Keeps.refl _ _
    · refine Keeps.trans ?_ (State.portDown_keeps ..) (by decide +kernel)
      exact Keeps.refl _ _
  · refine Keeps.ite (fun _ => ?_) (fun _ => ?_)
    · exact Keeps.refl _ _
    · refine Keeps.trans ?_ (State.pute_keeps1 ..) (by decide +kernel)
      exact Keeps.refl _ _

theorem State.memStops_keeps (s : State) : Keeps ⟨[.ingress, .codec, .comp, .panel, .memory, .mgmt,
    .logs], [(0x180002, 0x180002), (0x180101, 0x180103), (0x30020C, 0x30020C), (0x350001, 0x350001),
    (0x400101, 0x400101), (0x780102, 0x780102), (0x780207, 0x780207), (0x780301, 0x780303), (0x782001,
    0x782001), (0x900005, 0x900005)]⟩ s (State.memStops s) := by
  unfold State.memStops
  refine Keeps.foldl ?_ (fun _ _ => ?_)
  · exact Keeps.refl _ _
  · dsimp only
    refine Keeps.optE ?_ (fun _ => ?_)
    · refine Keeps.trans ?_ (State.failRequests_keeps ..) (by decide +kernel)
      exact Keeps.refl _ _
    · refine Keeps.trans ?_ (State.beginTraining_keeps ..) (by decide +kernel)
      exact Keeps.refl _ _

theorem State.islandStops_keeps (s : State) (i : Nat) : Keeps ⟨[.out, .ingress, .codec, .comp, .ray,
    .seq, .panel, .bridge, .loop, .lanes, .memory, .clock, .mgmt, .net, .health, .logs], [(0x101107,
    0x101107), (0x103003, 0x103003), (0x180002, 0x180002), (0x180101, 0x180103), (0x280207, 0x280207),
    (0x283002, 0x283005), (0x283101, 0x283101), (0x300202, 0x300202), (0x300205, 0x300205), (0x30020C,
    0x30020C), (0x301001, 0x301001), (0x301004, 0x301004), (0x350001, 0x350001), (0x38020A, 0x38020A),
    (0x382003, 0x382003), (0x400101, 0x400101), (0x500102, 0x500106), (0x58000A, 0x58000A), (0x580101,
    0x580101), (0x580105, 0x580105), (0x580201, 0x580201), (0x580203, 0x580204), (0x680101, 0x680101),
    (0x680103, 0x680106), (0x68010C, 0x68010D), (0x680206, 0x680206), (0x681003, 0x681003), (0x681006,
    0x681007), (0x68100A, 0x68100A), (0x700209, 0x700209), (0x70020C, 0x70020C), (0x700305, 0x700307),
    (0x700309, 0x700309), (0x701001, 0x701001), (0x780102, 0x780102), (0x780207, 0x780207), (0x780301,
    0x780303), (0x782001, 0x782001), (0x800101, 0x800102), (0x800106, 0x800106), (0x800201, 0x800205),
    (0x801001, 0x801001), (0x802002, 0x802002), (0x900005, 0x900005), (0x910106, 0x910106), (0x910205,
    0x910205)]⟩ s (State.islandStops s i) := by
  unfold State.islandStops
  split
  · refine Keeps.trans ?_ (State.takeOver_keeps ..) (by decide +kernel)
    exact Keeps.refl _ _
  · dsimp only
    refine Keeps.upd ?_ (hnt := Or.inl (by decide +kernel))
    refine Keeps.trans ?_ (State.ethLink_keeps ..) (by decide +kernel)
    refine Keeps.trans ?_ (State.ethLink_keeps ..) (by decide +kernel)
    refine Keeps.trans ?_ (State.failSlots_keeps ..) (by decide +kernel)
    exact Keeps.refl _ _
  · refine Keeps.trans ?_ (State.dropNext_keeps ..) (by decide +kernel)
    refine Keeps.trans ?_ (State.meshLost_keeps ..) (by decide +kernel)
    exact Keeps.refl _ _
  · refine Keeps.trans ?_ (State.codecStops_keeps ..) (by decide +kernel)
    exact Keeps.refl _ _
  · refine Keeps.trans ?_ (State.compStops_keeps ..) (by decide +kernel)
    exact Keeps.refl _ _
  · refine Keeps.upd ?_ (hr := Or.inl (by decide +kernel))
    exact Keeps.refl _ _
  · refine Keeps.trans ?_ (State.stageLost_keeps ..) (by decide +kernel)
    refine Keeps.trans ?_ (State.park_keeps ..) (by decide +kernel)
    refine Keeps.trans ?_ (State.haltDisplay_keeps ..) (by decide +kernel)
    exact Keeps.refl _ _
  · refine Keeps.trans ?_ (State.park_keeps ..) (by decide +kernel)
    exact Keeps.refl _ _
  · refine Keeps.trans ?_ (State.park_keeps ..) (by decide +kernel)
    exact Keeps.refl _ _
  · refine Keeps.trans ?_ (State.blankQuiet_keeps ..) (by decide +kernel)
    exact Keeps.refl _ _
  · refine Keeps.ite (fun _ => ?_) (fun _ => ?_)
    · exact Keeps.refl _ _
    · refine Keeps.trans ?_ (State.coast_keeps ..) (by decide +kernel)
      exact Keeps.refl _ _
  · refine Keeps.trans ?_ (State.lanesStop_keeps ..) (by decide +kernel)
    exact Keeps.refl _ _
  · refine Keeps.trans ?_ (State.memStops_keeps ..) (by decide +kernel)
    exact Keeps.refl _ _
  · exact Keeps.refl _ _

theorem State.halfReturns_keeps (s : State) (h : Nat) : Keeps ⟨[.out, .panel, .lanes], [(0x580101,
    0x580101), (0x580105, 0x580105), (0x580201, 0x580201), (0x580203, 0x580204), (0x70020C, 0x70020C),
    (0x700309, 0x700309), (0x701001, 0x701001)]⟩ s (State.halfReturns s h) := by
  unfold State.halfReturns
  dsimp only
  refine Keeps.optE ?_ (fun _ => ?_)
  · refine Keeps.trans ?_ (State.dropAllHashes_keeps ..) (by decide +kernel)
    exact Keeps.refl _ _
  · refine Keeps.trans ?_ (State.putHalf_keeps ..) (by decide +kernel)
    refine Keeps.trans ?_ (State.startClear_keeps ..) (by decide +kernel)
    exact Keeps.refl _ _

theorem State.islandResumes_keeps (s : State) (i : Nat) : Keeps ⟨[.out, .ingress, .codec, .comp, .panel,
    .bridge, .lanes, .memory, .logs], [(0x180002, 0x180002), (0x180101, 0x180103), (0x300202, 0x300202),
    (0x300205, 0x300205), (0x301001, 0x301001), (0x301004, 0x301004), (0x400101, 0x400101), (0x580101,
    0x580101), (0x580105, 0x580105), (0x580201, 0x580201), (0x580203, 0x580204), (0x602004, 0x602004),
    (0x700209, 0x700209), (0x70020C, 0x70020C), (0x700305, 0x700307), (0x700309, 0x700309), (0x701001,
    0x701001), (0x701003, 0x701003), (0x701006, 0x701006), (0x900005, 0x900005)]⟩ s (State.islandResumes
    s i) := by
  unfold State.islandResumes
  split
  · refine Keeps.ite (fun _ => ?_) (fun _ => ?_)
    · refine Keeps.trans ?_ (State.releaseNext_keeps ..) (by decide +kernel)
      exact Keeps.refl _ _
    · exact Keeps.refl _ _
  · refine Keeps.trans ?_ (State.halfReturns_keeps ..) (by decide +kernel)
    exact Keeps.refl _ _
  · refine Keeps.trans ?_ (State.halfReturns_keeps ..) (by decide +kernel)
    exact Keeps.refl _ _
  · refine Keeps.trans ?_ (State.releaseAll_keeps ..) (by decide +kernel)
    refine Keeps.trans ?_ (State.trainCourses_keeps ..) (by decide +kernel)
    exact Keeps.refl _ _
  · refine Keeps.trans ?_ (State.bringUpLanes_keeps ..) (by decide +kernel)
    exact Keeps.refl _ _
  · refine Keeps.ite (fun _ => ?_) (fun _ => ?_)
    · refine Keeps.trans ?_ (State.startCommit_keeps ..) (by decide +kernel)
      exact Keeps.refl _ _
    · exact Keeps.refl _ _
  · exact Keeps.refl _ _

theorem State.islandError_keeps (s : State) (i : Nat) : Keeps ⟨[.out, .ingress, .codec, .comp, .ray,
    .seq, .panel, .bridge, .loop, .lanes, .memory, .clock, .mgmt, .net, .health, .logs], [(0x101107,
    0x101107), (0x103003, 0x103003), (0x180002, 0x180002), (0x180101, 0x180106), (0x189001, 0x189001),
    (0x201001, 0x201001), (0x201004, 0x201004), (0x280207, 0x280207), (0x283002, 0x283005), (0x283101,
    0x283101), (0x300202, 0x300202), (0x300205, 0x300205), (0x30020C, 0x30020C), (0x301001, 0x301001),
    (0x301004, 0x301004), (0x350001, 0x350001), (0x38020A, 0x38020A), (0x382003, 0x382003), (0x400101,
    0x400101), (0x500102, 0x500106), (0x58000A, 0x58000A), (0x580101, 0x580101), (0x580105, 0x580105),
    (0x580201, 0x580201), (0x580203, 0x580204), (0x680101, 0x680101), (0x680103, 0x680106), (0x68010C,
    0x68010D), (0x680206, 0x680206), (0x681003, 0x681003), (0x681006, 0x681007), (0x68100A, 0x68100A),
    (0x700209, 0x700209), (0x70020C, 0x70020C), (0x700305, 0x700307), (0x700309, 0x700309), (0x701001,
    0x701001), (0x780102, 0x780102), (0x780207, 0x780207), (0x780301, 0x780303), (0x782001, 0x782001),
    (0x800101, 0x800102), (0x800106, 0x800106), (0x800201, 0x800205), (0x801001, 0x801001), (0x802002,
    0x802002), (0x900005, 0x900005), (0x910106, 0x910106), (0x910205, 0x910205)]⟩ s (State.islandError s
    i) := by
  unfold State.islandError
  dsimp only
  refine Keeps.ite (fun _ => ?_) (fun _ => ?_)
  · refine Keeps.trans ?_ (State.log_keeps ..) (by decide +kernel)
    exact Keeps.refl _ _
  · refine Keeps.ite (fun _ => ?_) (fun _ => ?_)
    · refine Keeps.trans ?_ (State.deviceHold_keeps ..) (by decide +kernel)
      refine Keeps.trans ?_ (State.log_keeps ..) (by decide +kernel)
      exact Keeps.refl _ _
    · refine Keeps.ite (fun _ => ?_) (fun _ => ?_)
      · refine Keeps.trans ?_ (State.deviceHold_keeps ..) (by decide +kernel)
        refine Keeps.trans ?_ (State.log_keeps ..) (by decide +kernel)
        refine Keeps.trans ?_ (State.escalate_keeps ..) (by decide +kernel)
        exact Keeps.refl _ _
      · refine Keeps.trans ?_ (State.openPast_keeps ..) (by decide +kernel)
        refine Keeps.upd ?_ (hck := Or.inl (by decide +kernel))
        refine Keeps.trans ?_ (State.stopIsland_keeps ..) (by decide +kernel)
        refine Keeps.trans ?_ (State.islandStops_keeps ..) (by decide +kernel)
        refine Keeps.trans ?_ (State.recover_keeps ..) (by decide +kernel)
        refine Keeps.trans ?_ (State.log_keeps ..) (by decide +kernel)
        refine Keeps.trans ?_ (State.inc_keeps1 ..) (by decide +kernel)
        exact Keeps.refl _ _

theorem State.islandRestarted_keeps (s : State) (i : Nat) : Keeps ⟨[.out, .ingress, .codec, .comp,
    .panel, .bridge, .lanes, .memory, .clock, .logs], [(0x180002, 0x180002), (0x180101, 0x180103),
    (0x201001, 0x201001), (0x201004, 0x201004), (0x300202, 0x300202), (0x300205, 0x300205), (0x301001,
    0x301001), (0x301004, 0x301004), (0x400101, 0x400101), (0x580101, 0x580101), (0x580105, 0x580105),
    (0x580201, 0x580201), (0x580203, 0x580204), (0x602004, 0x602004), (0x700209, 0x700209), (0x70020C,
    0x70020C), (0x700305, 0x700307), (0x700309, 0x700309), (0x701001, 0x701001), (0x701003, 0x701003),
    (0x701006, 0x701006), (0x900005, 0x900005)]⟩ s (State.islandRestarted s i) := by
  unfold State.islandRestarted
  refine Keeps.ite (fun _ => ?_) (fun _ => ?_)
  · dsimp only
    refine Keeps.trans ?_ (State.islandResumes_keeps ..) (by decide +kernel)
    refine Keeps.trans ?_ (State.recovered_keeps ..) (by decide +kernel)
    refine Keeps.trans ?_ (State.openIsland_keeps ..) (by decide +kernel)
    refine Keeps.upd ?_ (hck := Or.inl (by decide +kernel))
    exact Keeps.refl _ _
  · exact Keeps.refl _ _

theorem State.wheelFollows_keeps (s : State) (before : State) : Keeps ⟨[.out, .blobs, .ingress, .codec,
    .comp, .ray, .seq, .panel, .bridge, .loop, .lanes, .memory, .clock, .mgmt, .net, .health, .logs],
    [(0x000000, 0xFFFFFF)]⟩ s (State.wheelFollows s before) := by
  unfold State.wheelFollows
  refine Keeps.ite (fun _ => ?_) (fun _ => ?_)
  · refine Keeps.trans ?_ (State.settle_keeps ..) (by decide +kernel)
    refine Keeps.trans ?_ (State.droneWheelEnds_keeps ..) (by decide +kernel)
    exact Keeps.refl _ _
  · exact Keeps.refl _ _

end Sys2Proof.Machine
end

