-- ==== Sys2Proof/Laws/Keeps/Yalok.lean ====
section
/-! SUPPORT. What each operation of Machine/Yalok.lean may change. -/

set_option Elab.async false

namespace Sys2Proof.Machine

theorem State.badTag_keeps (s : State) (m : Nat) : Keeps ⟨[.mgmt, .logs], [(0x101101, 0x101101),
    (0x101103, 0x101103), (0x101106, 0x101106), (0x180003, 0x180003)]⟩ s (State.badTag s m) := by
  unfold State.badTag
  refine Keeps.trans ?_ (State.refuseMsg_keeps ..) (by decide +kernel)
  refine Keeps.trans ?_ (State.inc_keeps1 ..) (by decide +kernel)
  exact Keeps.refl _ _

theorem State.opens_keeps (s : State) (path : Nat) (peer : Bytes) (x : Msg) : Keeps ⟨[.out, .mgmt, .net,
    .logs], [(0x101101, 0x101101), (0x101103, 0x101103), (0x101106, 0x101106), (0x180003, 0x180003)]⟩ s
    (State.opens s path peer x) := by
  unfold State.opens
  dsimp only
  refine Keeps.ite (fun _ => ?_) (fun _ => ?_)
  · exact Keeps.refl _ _
  · refine Keeps.ite (fun _ => ?_) (fun _ => ?_)
    · refine Keeps.trans ?_ (State.badTag_keeps ..) (by decide +kernel)
      exact Keeps.refl _ _
    · refine Keeps.trans ?_ (State.sendOut_keeps ..) (by decide +kernel)
      refine Keeps.trans ?_ (State.putMaster_keeps ..) (by decide +kernel)
      refine Keeps.trans ?_ (State.freeBytes_keeps ..) (by decide +kernel)
      refine Keeps.trans ?_ (State.draw_keeps ..) (by decide +kernel)
      exact Keeps.refl _ _

theorem State.stale_keeps (s : State) (m : Nat) (x : Session) (path : Nat) (peer : Bytes) (seq : Nat) :
    Keeps ⟨[.out, .mgmt, .net, .logs], [(0x101102, 0x101103), (0x101106, 0x101106), (0x180003,
    0x180003)]⟩ s (State.stale s m x path peer seq) := by
  unfold State.stale
  dsimp only
  refine Keeps.trans ?_ (State.sendOut_keeps ..) (by decide +kernel)
  refine Keeps.ite (fun _ => ?_) (fun _ => ?_)
  · refine Keeps.trans ?_ (State.putSession_keeps ..) (by decide +kernel)
    refine Keeps.trans ?_ (State.refuseMsg_keeps ..) (by decide +kernel)
    refine Keeps.trans ?_ (State.inc_keeps1 ..) (by decide +kernel)
    exact Keeps.refl _ _
  · refine Keeps.trans ?_ (State.putMaster_keeps ..) (by decide +kernel)
    refine Keeps.trans ?_ (State.refuseMsg_keeps ..) (by decide +kernel)
    refine Keeps.trans ?_ (State.inc_keeps1 ..) (by decide +kernel)
    exact Keeps.refl _ _

theorem State.readItem_keeps (s : State) (m id handle size : Nat) (i : Item) :
    Keeps ⟨[.out, .clock, .mgmt, .logs], [(0x101103, 0x101103), (0x101106, 0x101106), (0x180003, 0x180003)]⟩ s (s.readItem m id handle size i).2 := by
  have key : ∀ a : (Nat × Bytes) × State, Keeps ⟨[.out, .clock, .mgmt, .logs], [(0x101103, 0x101103), (0x101106, 0x101106), (0x180003, 0x180003)]⟩ s a.2 →
      Keeps ⟨[.out, .clock, .mgmt, .logs], [(0x101103, 0x101103), (0x101106, 0x101106), (0x180003, 0x180003)]⟩ s (if 1408 < size + 4 + a.1.2.length then ((5, []), a.2) else a).2 := by
    intro a ha
    exact Keeps.sndIte (fun _ => ha) (fun _ => ha)
  unfold State.readItem
  refine key _ ?_
  split
  · exact (State.refuse_keeps ..).mono (by decide +kernel)
  · refine Keeps.sndIte (fun _ => ?_) (fun _ => Keeps.refl _ _)
    refine Keeps.trans ?_ (State.updateHirq_keeps ..) (by decide +kernel)
    exact Keeps.upd (Keeps.refl _ _) (hck := Or.inl (by decide +kernel))

theorem State.readItems_keeps (s : State) (m id handle size : Nat) (l : List Item) :
    Keeps ⟨[.out, .clock, .mgmt, .logs], [(0x101103, 0x101103), (0x101106, 0x101106), (0x180003, 0x180003)]⟩ s (s.readItems m id handle size l).2 := by
  induction l generalizing s size with
  | nil => exact Keeps.refl _ _
  | cons i r ih =>
    exact ((State.readItem_keeps s m id handle size i).mono (by decide +kernel)).trans (ih _ _)
      (Foot.sub_refl _)

theorem State.writeItem_keeps (s : State) (w : Writer) (origin : Nat × Nat) (run : WriteRun) (i : Item)
    : Keeps ⟨[.out, .blobs, .ingress, .codec, .comp, .ray, .seq, .panel, .bridge, .loop, .lanes,
    .memory, .clock, .mgmt, .net, .health, .logs], [(0x000000, 0xFFFFFF)]⟩ s (State.writeItem s w origin
    run i).2 := by
  refine Keeps.pair (by unfold State.writeItem; dsimp only) ?_
  refine Keeps.sndIte (fun _ => ?_) (fun _ => ?_)
  · dsimp only
    exact Keeps.refl _ _
  · dsimp only
    refine Keeps.optE ?_ (fun _ => ?_)
    · refine Keeps.trans ?_ (State.refuse_keeps ..) (by decide +kernel)
      exact Keeps.refl _ _
    · refine Keeps.trans ?_ (State.gateRefused_keeps ..) (by decide +kernel)
      exact Keeps.refl _ _

theorem State.writeItems_keeps (s : State) (w : Writer) (origin : Nat × Nat) (run : WriteRun)
    (l : List Item) : Keeps ⟨[.out, .blobs, .ingress, .codec, .comp, .ray, .seq, .panel, .bridge, .loop, .lanes, .memory, .clock, .mgmt, .net, .health, .logs], [(0x000000, 0xFFFFFF)]⟩ s (s.writeItems w origin run l).2 := by
  induction l generalizing s run with
  | nil => exact Keeps.refl _ _
  | cons i r ih =>
    exact ((State.writeItem_keeps s w origin run i).mono (by decide +kernel)).trans (ih _ _)
      (Foot.sub_refl _)

theorem State.writePlain_keeps (s : State) (m : Nat) (id : Nat) (seq : Nat) (path : Nat) (items : List
    Item) : Keeps ⟨[.out, .blobs, .ingress, .codec, .comp, .ray, .seq, .panel, .bridge, .loop, .lanes,
    .memory, .clock, .mgmt, .net, .health, .logs], [(0x000000, 0xFFFFFF)]⟩ s (State.writePlain s m id
    seq path items) := by
  unfold State.writePlain
  split
  refine Keeps.ite (fun _ => ?_) (fun _ => ?_)
  · refine Keeps.trans ?_ (State.reply_keeps ..) (by decide +kernel)
    refine Keeps.snd (by assumption) ?_
    refine Keeps.trans ?_ (State.writeItems_keeps ..) (by decide +kernel)
    exact Keeps.refl _ _
  · dsimp only
    refine Keeps.upd ?_ (hmg := Or.inl (by decide +kernel))
    refine Keeps.snd (by assumption) ?_
    refine Keeps.trans ?_ (State.writeItems_keeps ..) (by decide +kernel)
    exact Keeps.refl _ _

theorem State.handItem_keeps (s : State) : Keeps ⟨[.out, .blobs, .ingress, .codec, .comp, .ray, .seq,
    .panel, .bridge, .loop, .lanes, .memory, .clock, .mgmt, .net, .health, .logs], [(0x000000,
    0xFFFFFF)]⟩ s (State.handItem s) := by
  unfold State.handItem
  split
  · exact Keeps.refl _ _
  · dsimp only
    refine Keeps.trans ?_ (State.settle_keeps ..) (by decide +kernel)
    refine Keeps.optE ?_ (fun _ => ?_)
    · refine Keeps.optE ?_ (fun _ => ?_)
      · refine Keeps.trans ?_ (State.deliver_keeps ..) (by decide +kernel)
        refine Keeps.upd ?_ (hmg := Or.inl (by decide +kernel))
        exact Keeps.refl _ _
      · refine Keeps.upd ?_ (hmg := Or.inl (by decide +kernel))
        exact Keeps.refl _ _
    · refine Keeps.trans ?_ (State.answer_keeps ..) (by decide +kernel)
      exact Keeps.refl _ _

theorem State.stageItem_keeps (s : State) (w : Writer) (n : Nat) (i : Item) : Keeps ⟨[.mgmt, .logs],
    [(0x101103, 0x101103), (0x101106, 0x101106), (0x180003, 0x180003)]⟩ s (State.stageItem s w n i).2 :=
    by
  refine Keeps.pair (by unfold State.stageItem; dsimp only) ?_
  refine Keeps.sndIte (fun _ => ?_) (fun _ => ?_)
  · dsimp only
    refine Keeps.trans ?_ (State.putChord_keeps ..) (by decide +kernel)
    exact Keeps.refl _ _
  · dsimp only
    refine Keeps.trans ?_ (State.refuse_keeps ..) (by decide +kernel)
    exact Keeps.refl _ _

theorem State.stageItems_keeps (s : State) (w : Writer) (n : Nat) (l : List Item) :
    Keeps ⟨[.mgmt, .logs], [(0x101103, 0x101103), (0x101106, 0x101106), (0x180003, 0x180003)]⟩ s (s.stageItems w n l).2 := by
  induction l generalizing s with
  | nil => exact Keeps.refl _ _
  | cons i r ih =>
    exact ((State.stageItem_keeps s w n i).mono (by decide +kernel)).trans (ih _) (Foot.sub_refl _)

theorem State.refuseHandle_keeps (s : State) (m : Nat) (code : Nat) : Keeps ⟨[.mgmt, .logs], [(0x101103,
    0x101103), (0x101106, 0x101106), (0x180003, 0x180003)]⟩ s (State.refuseHandle s m code) := by
  unfold State.refuseHandle
  refine Keeps.ite (fun _ => ?_) (fun _ => ?_)
  · refine Keeps.trans ?_ (State.refuseMsg_keeps ..) (by decide +kernel)
    exact Keeps.refl _ _
  · exact Keeps.refl _ _

theorem State.writeStaged_keeps (s : State) (m : Nat) (id : Nat) (seq : Nat) (path : Nat) (handle : Nat)
    (items : List Item) : Keeps ⟨[.out, .mgmt, .net, .logs], [(0x101103, 0x101103), (0x101106,
    0x101106), (0x180003, 0x180003)]⟩ s (State.writeStaged s m id seq path handle items) := by
  unfold State.writeStaged
  split
  refine Keeps.ite (fun _ => ?_) (fun _ => ?_)
  · refine Keeps.trans ?_ (State.reply_keeps ..) (by decide +kernel)
    refine Keeps.trans ?_ (State.refuseHandle_keeps ..) (by decide +kernel)
    exact Keeps.refl _ _
  · split
    refine Keeps.trans ?_ (State.reply_keeps ..) (by decide +kernel)
    refine Keeps.snd (by assumption) ?_
    refine Keeps.trans ?_ (State.stageItems_keeps ..) (by decide +kernel)
    exact Keeps.refl _ _

theorem State.beginChord_keeps (s : State) (m : Nat) (id : Nat) (seq : Nat) : Keeps ⟨[.out, .mgmt,
    .net], []⟩ s (State.beginChord s m id seq) := by
  unfold State.beginChord
  split
  · refine Keeps.trans ?_ (State.reply_keeps ..) (by decide +kernel)
    exact Keeps.refl _ _
  · dsimp only
    refine Keeps.trans ?_ (State.reply_keeps ..) (by decide +kernel)
    refine Keeps.trans ?_ (State.putChord_keeps ..) (by decide +kernel)
    exact Keeps.refl _ _

theorem State.markConflicts_keeps (s : State) (n : Nat) (addrs : List Nat) : Keeps ⟨[.mgmt], []⟩ s
    (State.markConflicts s n addrs) := by
  unfold State.markConflicts
  refine Keeps.foldl ?_ (fun _ _ => ?_)
  · exact Keeps.refl _ _
  · dsimp only
    refine Keeps.ite (fun _ => ?_) (fun _ => ?_)
    · refine Keeps.trans ?_ (State.putChord_keeps ..) (by decide +kernel)
      exact Keeps.refl _ _
    · exact Keeps.refl _ _

theorem State.refuseCommit_keeps (s : State) (m : Nat) (code : Nat) (fail : Nat) (items : List Staged) :
    Keeps ⟨[.mgmt, .logs], [(0x101103, 0x101103), (0x101106, 0x101106), (0x180003, 0x180003), (0x200102,
    0x200102), (0x200204, 0x200205)]⟩ s (State.refuseCommit s m code fail items) := by
  unfold State.refuseCommit
  split
  · dsimp only
    refine Keeps.optE ?_ (fun _ => ?_)
    · refine Keeps.trans ?_ (State.refuse_keeps ..) (by decide +kernel)
      exact Keeps.refl _ _
    · refine Keeps.trans ?_ (State.gateRefused_keeps ..) (by decide +kernel)
      exact Keeps.refl _ _
  · refine Keeps.trans ?_ (State.refuseMsg_keeps ..) (by decide +kernel)
    exact Keeps.refl _ _

theorem State.commits_keeps (s : State) (m : Nat) (id : Nat) (seq : Nat) (path : Nat) (handle : Nat)
    (mode : Nat) (raw : Nat) : Keeps ⟨[.out, .clock, .mgmt, .net, .logs], [(0x000000, 0xFFFFFF)]⟩ s
    (State.commits s m id seq path handle mode raw) := by
  unfold State.commits
  split
  refine Keeps.ite (fun _ => ?_) (fun _ => ?_)
  · refine Keeps.trans ?_ (State.reply_keeps ..) (by decide +kernel)
    refine Keeps.trans ?_ (State.refuseHandle_keeps ..) (by decide +kernel)
    exact Keeps.refl _ _
  · dsimp only
    refine Keeps.ite (fun _ => ?_) (fun _ => ?_)
    · refine Keeps.trans ?_ (State.reply_keeps ..) (by decide +kernel)
      refine Keeps.trans ?_ (State.abortSlot_keeps ..) (by decide +kernel)
      refine Keeps.trans ?_ (State.refuseCommit_keeps ..) (by decide +kernel)
      exact Keeps.refl _ _
    · refine Keeps.ite (fun _ => ?_) (fun _ => ?_)
      · refine Keeps.trans ?_ (State.reply_keeps ..) (by decide +kernel)
        refine Keeps.trans ?_ (State.putChord_keeps ..) (by decide +kernel)
        refine Keeps.trans ?_ (State.inc_keeps1 ..) (by decide +kernel)
        refine Keeps.trans ?_ (State.markConflicts_keeps ..) (by decide +kernel)
        exact Keeps.refl _ _
      · refine Keeps.trans ?_ (State.putChord_keeps ..) (by decide +kernel)
        refine Keeps.trans ?_ (State.inc_keeps1 ..) (by decide +kernel)
        refine Keeps.trans ?_ (State.markConflicts_keeps ..) (by decide +kernel)
        exact Keeps.refl _ _

theorem State.applyChord_keeps (s : State) (n : Nat) : Keeps ⟨[.out, .blobs, .ingress, .codec, .comp,
    .ray, .seq, .panel, .bridge, .loop, .lanes, .memory, .clock, .mgmt, .net, .health, .logs],
    [(0x000000, 0xFFFFFF)]⟩ s (State.applyChord s n).2 := by
  refine Keeps.pair (by unfold State.applyChord; dsimp only) ?_
  dsimp only
  refine Keeps.trans ?_ (State.freeChord_keeps ..) (by decide +kernel)
  refine Keeps.foldl ?_ (fun _ _ => ?_)
  · exact Keeps.refl _ _
  · refine Keeps.trans ?_ (State.deliver_keeps ..) (by decide +kernel)
    exact Keeps.refl _ _

theorem State.handChord_keeps (s : State) (n : Nat) : Keeps ⟨[.out, .blobs, .ingress, .codec, .comp,
    .ray, .seq, .panel, .bridge, .loop, .lanes, .memory, .clock, .mgmt, .net, .health, .logs],
    [(0x000000, 0xFFFFFF)]⟩ s (State.handChord s n) := by
  unfold State.handChord
  dsimp only
  refine Keeps.ite (fun _ => ?_) (fun _ => ?_)
  · refine Keeps.trans ?_ (State.settle_keeps ..) (by decide +kernel)
    refine Keeps.trans ?_ (State.replyIn_keeps ..) (by decide +kernel)
    refine Keeps.trans ?_ (State.applyChord_keeps ..) (by decide +kernel)
    exact Keeps.refl _ _
  · exact Keeps.refl _ _

theorem State.timeReached_keeps (s : State) (n : Nat) : Keeps ⟨[.out, .blobs, .ingress, .codec, .comp,
    .ray, .seq, .panel, .bridge, .loop, .lanes, .memory, .clock, .mgmt, .net, .health, .logs],
    [(0x000000, 0xFFFFFF)]⟩ s (State.timeReached s n) := by
  unfold State.timeReached
  dsimp only
  refine Keeps.ite (fun _ => ?_) (fun _ => ?_)
  · split
    · refine Keeps.trans ?_ (State.sendApplied_keeps ..) (by decide +kernel)
      refine Keeps.trans ?_ (State.freeChord_keeps ..) (by decide +kernel)
      exact Keeps.refl _ _
    · refine Keeps.trans ?_ (State.settle_keeps ..) (by decide +kernel)
      refine Keeps.trans ?_ (State.sendApplied_keeps ..) (by decide +kernel)
      refine Keeps.trans ?_ (State.applyChord_keeps ..) (by decide +kernel)
      exact Keeps.refl _ _
  · exact Keeps.refl _ _

theorem State.aborts_keeps (s : State) (m : Nat) (id : Nat) (seq : Nat) (handle : Nat) : Keeps ⟨[.out,
    .clock, .mgmt, .net, .logs], [(0x101103, 0x101103), (0x101105, 0x101107), (0x103003, 0x103003),
    (0x180003, 0x180003)]⟩ s (State.aborts s m id seq handle) := by
  unfold State.aborts
  split
  dsimp only
  refine Keeps.ite (fun _ => ?_) (fun _ => ?_)
  · refine Keeps.trans ?_ (State.reply_keeps ..) (by decide +kernel)
    refine Keeps.trans ?_ (State.refuseHandle_keeps ..) (by decide +kernel)
    exact Keeps.refl _ _
  · refine Keeps.trans ?_ (State.reply_keeps ..) (by decide +kernel)
    refine Keeps.trans ?_ (State.abortSlot_keeps ..) (by decide +kernel)
    exact Keeps.refl _ _

theorem State.serve_keeps (s : State) (x : Msg) (path : Nat) : Keeps ⟨[.out, .blobs, .ingress, .codec,
    .comp, .ray, .seq, .panel, .bridge, .loop, .lanes, .memory, .clock, .mgmt, .net, .health, .logs],
    [(0x000000, 0xFFFFFF)]⟩ s (State.serve s x path) := by
  unfold State.serve
  dsimp only
  split
  · refine Keeps.trans ?_ (State.closeSession_keeps ..) (by decide +kernel)
    refine Keeps.trans ?_ (State.reply_keeps ..) (by decide +kernel)
    exact Keeps.refl _ _
  · refine Keeps.trans ?_ (State.reply_keeps ..) (by decide +kernel)
    refine Keeps.trans ?_ (State.readItems_keeps ..) (by decide +kernel)
    exact Keeps.refl _ _
  · refine Keeps.ite (fun _ => ?_) (fun _ => ?_)
    · refine Keeps.trans ?_ (State.writePlain_keeps ..) (by decide +kernel)
      exact Keeps.refl _ _
    · refine Keeps.trans ?_ (State.writeStaged_keeps ..) (by decide +kernel)
      exact Keeps.refl _ _
  · refine Keeps.trans ?_ (State.beginChord_keeps ..) (by decide +kernel)
    exact Keeps.refl _ _
  · refine Keeps.trans ?_ (State.commits_keeps ..) (by decide +kernel)
    exact Keeps.refl _ _
  · refine Keeps.trans ?_ (State.aborts_keeps ..) (by decide +kernel)
    exact Keeps.refl _ _
  · refine Keeps.trans ?_ (State.reply_keeps ..) (by decide +kernel)
    refine Keeps.trans ?_ (State.ackEvents_keeps ..) (by decide +kernel)
    exact Keeps.refl _ _
  · refine Keeps.trans ?_ (State.holdReply_keeps ..) (by decide +kernel)
    refine Keeps.trans ?_ (State.sendIn_keeps ..) (by decide +kernel)
    exact Keeps.refl _ _

theorem State.request_keeps (s : State) (path : Nat) (peer : Bytes) (x : Msg) : Keeps ⟨[.out, .blobs,
    .ingress, .codec, .comp, .ray, .seq, .panel, .bridge, .loop, .lanes, .memory, .clock, .mgmt, .net,
    .health, .logs], [(0x000000, 0xFFFFFF)]⟩ s (State.request s path peer x) := by
  unfold State.request
  dsimp only
  split
  · refine Keeps.trans ?_ (State.badTag_keeps ..) (by decide +kernel)
    exact Keeps.refl _ _
  · refine Keeps.ite (fun _ => ?_) (fun _ => ?_)
    · refine Keeps.trans ?_ (State.badTag_keeps ..) (by decide +kernel)
      exact Keeps.refl _ _
    · refine Keeps.ite (fun _ => ?_) (fun _ => ?_)
      · refine Keeps.trans ?_ (State.serve_keeps ..) (by decide +kernel)
        refine Keeps.ite (fun _ => ?_) (fun _ => ?_)
        · refine Keeps.trans ?_ (State.putSession_keeps ..) (by decide +kernel)
          exact Keeps.refl _ _
        · refine Keeps.trans ?_ (State.openActive_keeps ..) (by decide +kernel)
          exact Keeps.refl _ _
      · split
        · refine Keeps.trans ?_ (State.sendOut_keeps ..) (by decide +kernel)
          exact Keeps.refl _ _
        · refine Keeps.ite (fun _ => ?_) (fun _ => ?_)
          · exact Keeps.refl _ _
          · refine Keeps.trans ?_ (State.stale_keeps ..) (by decide +kernel)
            exact Keeps.refl _ _

theorem State.admitMsg_keeps (s : State) (path : Nat) (peer : Bytes) (x : Msg) : Keeps ⟨[.out, .blobs,
    .ingress, .codec, .comp, .ray, .seq, .panel, .bridge, .loop, .lanes, .memory, .clock, .mgmt, .net,
    .health, .logs], [(0x000000, 0xFFFFFF)]⟩ s (State.admitMsg s path peer x) := by
  unfold State.admitMsg
  refine Keeps.ite (fun _ => ?_) (fun _ => ?_)
  · refine Keeps.ite (fun _ => ?_) (fun _ => ?_)
    · refine Keeps.trans ?_ (State.opens_keeps ..) (by decide +kernel)
      exact Keeps.refl _ _
    · refine Keeps.trans ?_ (State.request_keeps ..) (by decide +kernel)
      exact Keeps.refl _ _
  · exact Keeps.refl _ _

theorem State.receiveAny_keeps (s : State) (path : Nat) (peer : Bytes) (msg : Bytes) : Keeps ⟨[.out,
    .blobs, .ingress, .codec, .comp, .ray, .seq, .panel, .bridge, .loop, .lanes, .memory, .clock, .mgmt,
    .net, .health, .logs], [(0x000000, 0xFFFFFF)]⟩ s (State.receiveAny s path peer msg) := by
  unfold State.receiveAny
  split
  · refine Keeps.trans ?_ (State.inc_keeps1 ..) (by decide +kernel)
    exact Keeps.refl _ _
  · refine Keeps.ite (fun _ => ?_) (fun _ => ?_)
    · refine Keeps.trans ?_ (State.admitMsg_keeps ..) (by decide +kernel)
      exact Keeps.refl _ _
    · refine Keeps.trans ?_ (State.inc_keeps1 ..) (by decide +kernel)
      exact Keeps.refl _ _

theorem State.receiveAs_keeps (s : State) (is : Msg → Bool) (path : Nat) (peer : Bytes) (msg : Bytes) :
    Keeps ⟨[.out, .blobs, .ingress, .codec, .comp, .ray, .seq, .panel, .bridge, .loop, .lanes, .memory,
    .clock, .mgmt, .net, .health, .logs], [(0x000000, 0xFFFFFF)]⟩ s (State.receiveAs s is path peer msg)
    := by
  unfold State.receiveAs
  refine Keeps.ite (fun _ => ?_) (fun _ => ?_)
  · exact Keeps.refl _ _
  · refine Keeps.ite (fun _ => ?_) (fun _ => ?_)
    · refine Keeps.ite (fun _ => ?_) (fun _ => ?_)
      · refine Keeps.upd ?_ (hmg := Or.inl (by decide +kernel))
        exact Keeps.refl _ _
      · exact Keeps.refl _ _
    · split
      · refine Keeps.trans ?_ (State.inc_keeps1 ..) (by decide +kernel)
        exact Keeps.refl _ _
      · refine Keeps.ite (fun _ => ?_) (fun _ => ?_)
        · refine Keeps.trans ?_ (State.inc_keeps1 ..) (by decide +kernel)
          exact Keeps.refl _ _
        · refine Keeps.ite (fun _ => ?_) (fun _ => ?_)
          · refine Keeps.trans ?_ (State.admitMsg_keeps ..) (by decide +kernel)
            exact Keeps.refl _ _
          · exact Keeps.refl _ _

theorem State.answerHeld_keeps (s : State) : Keeps ⟨[.out, .blobs, .ingress, .codec, .comp, .ray, .seq,
    .panel, .bridge, .loop, .lanes, .memory, .clock, .mgmt, .net, .health, .logs], [(0x000000,
    0xFFFFFF)]⟩ s (State.answerHeld s) := by
  unfold State.answerHeld
  refine Keeps.foldl ?_ (fun _ _ => ?_)
  · refine Keeps.upd ?_ (hmg := Or.inl (by decide +kernel))
    exact Keeps.refl _ _
  · refine Keeps.trans ?_ (State.receiveAny_keeps ..) (by decide +kernel)
    exact Keeps.refl _ _

end Sys2Proof.Machine
end

