-- ==== Sys2Proof/Laws/Keeps/Writes.lean ====
section
/-! SUPPORT. What each operation of Machine/Writes.lean may change. -/

set_option Elab.async false

namespace Sys2Proof.Machine

theorem State.memberWrite_keeps (s : State) (master : Nat) (len : Nat) (x : Staged) : Keeps ⟨[.out,
    .blobs, .ingress, .codec, .comp, .ray, .seq, .panel, .bridge, .loop, .lanes, .memory, .clock, .mgmt,
    .net, .health, .logs], [(0x000000, 0xFFFFFF)]⟩ s (State.memberWrite s master len x) := by
  unfold State.memberWrite
  dsimp only
  refine Keeps.ite (fun _ => ?_) (fun _ => ?_)
  · refine Keeps.trans ?_ (State.settle_keeps ..) (by decide +kernel)
    refine Keeps.trans ?_ (State.deliver_keeps ..) (by decide +kernel)
    refine Keeps.upd ?_ (hmg := Or.inl (by decide +kernel))
    exact Keeps.refl _ _
  · refine Keeps.optE ?_ (fun _ => ?_)
    · refine Keeps.trans ?_ (State.refuse_keeps ..) (by decide +kernel)
      refine Keeps.upd ?_ (hmg := Or.inl (by decide +kernel))
      exact Keeps.refl _ _
    · refine Keeps.trans ?_ (State.gateRefused_keeps ..) (by decide +kernel)
      exact Keeps.refl _ _

end Sys2Proof.Machine
end

