-- ==== Sys2Proof/Laws/Keeps/Tap.lean ====
section
/-! SUPPORT. What each operation of Machine/Tap.lean may change. -/

set_option Elab.async false

namespace Sys2Proof.Machine

theorem State.updateIr_keeps (s : State) (code : BitVec 8) : Keeps ⟨[.tapIr], []⟩ s (State.updateIr s
    code) := by
  unfold State.updateIr
  dsimp only
  refine Keeps.upd ?_ (hti := Or.inl (by decide +kernel))
  exact Keeps.refl _ _

end Sys2Proof.Machine
end

