-- ==== Sys2Proof/Tests/Slice0.lean ====
section
/-!
SUPPORT. Tests of the model: ill-formed commands are refused, small steps checked by hand from the spec, and
for every clause of every statement with hypotheses a state and operands that meet all of them together.
-/

set_option Elab.async false
set_option linter.unusedVariables false

namespace Sys2Proof.Slice0

open Sys2Proof Sys2Proof.Machine

/-! ### Small states -/

/-- The state after reset with these members put in place: object, element, member, value. -/
def at_ (l : List (Nat × Nat × Nat × Nat)) : State :=
  l.foldl (fun (s : State) x => s.pute x.1 x.2.1 x.2.2.1 x.2.2.2) State.reset

/-- Both channels populated and in service, with these members beside. -/
def channelsUp (l : List (Nat × Nat × Nat × Nat)) : State :=
  at_ ([(0x7800, 0, 4, 1), (0x7800, 0, 0x0A, 3), (0x7820, 0, 1, 2), (0x7820, 1, 1, 2)] ++ l)

/-- Display in state 2 with both halves lit, in fret 0 of a frame of mode slot 0. -/
def litWith (q : Seq) (l : List (Nat × Nat × Nat × Nat)) : State :=
  { at_ ([(0x5000, 0, 2, 1), (0x5001, 0, 3, 2), (0x6801, 0, 1, 5), (0x6801, 0, 5, 1), (0x6000, 0, 1, 1),
      (0x5801, 0, 5, 3)] ++ (List.range 16).map (fun c => (0x6020, c, 4, 2)) ++ l) with
    panel := { Panel.reset with
      halfA := { Half.reset with park := 0 }, halfB := { Half.reset with park := 0 } },
    seq := { q with running := true, shownA := [0, 1], shownB := [0, 1] } }

/-- Display in a fret. -/
def lit (l : List (Nat × Nat × Nat × Nat)) : State := litWith { Seq.reset with inGap := false } l

/-- A parcel (R35): kind, flags, content frame, body. -/
def parcelOf (kind flags frame : Nat) (body : Bytes) : Bytes :=
  let h := beBytes 1 1 ++ beBytes 1 kind ++ beBytes 1 flags ++ zeros 5 ++ zeros 4 ++ beBytes 4 frame ++
    beBytes 4 body.length
  h ++ beBytes 4 (crc32c h) ++ body ++ beBytes 4 (crc32c body)

/-- The header of a tile parcel for another tile, seven hops allowed (R35). -/
def transitHdr : Bytes :=
  let h := beBytes 1 1 ++ beBytes 1 1 ++ [0, 7] ++ zeros 8 ++ beBytes 4 5 ++ beBytes 4 9
  h ++ beBytes 4 (crc32c h)

/-- An uplink frame (R183): type, string, value, flags, sequence. -/
def upFrame (ty i v f seq : Nat) : BitVec 64 :=
  let u := ty * 2 ^ 52 + i * 2 ^ 50 + v * 2 ^ 32 + f * 2 ^ 16 + seq
  BitVec.ofNat 64 (u * 256 + crc8 (beBytes 7 u))

/-- Parcel ingress with a frame under assembly in the next store. -/
def withNext (s : State) (f : Frame) : State :=
  { s with ingress := { s.ingress with store1 := f } }

/-- Members of a device that may start display on half A. -/
def readyToStart : List (Nat × Nat × Nat × Nat) :=
  [(0x5001, 0, 3, 0), (0x2001, 0, 1, 2), (0x1890, 0, 2, 64), (0x6801, 0, 9, 2), (0x3010, 0, 1, 1)] ++
  (List.range 14).map (fun i => (0x2010, i, 4, 0)) ++ (List.range 64).map (fun i => (0x7010, i, 1, 2))

/-- Mode slot 2 is a picture of one hogel with one view in 64 frets, and is in force. -/
def tinyMode : List (Nat × Nat × Nat × Nat) :=
  [(0x5010, 2, 1, 1), (0x5010, 2, 2, 1), (0x5010, 2, 3, 1), (0x5010, 2, 4, 64),
    (0x5010, 2, 5, 83333333), (0x5010, 2, 6, 41667), (0x5010, 2, 7, 10000), (0x5010, 2, 8, 30000),
    (0x5000, 0, 1, 2), (0x5001, 0, 4, 2)]

def tiny (l : List (Nat × Nat × Nat × Nat)) : State := at_ (tinyMode ++ l)

/-- Port 0 is up on four lanes. -/
def portUp (l : List (Nat × Nat × Nat × Nat)) : State :=
  at_ ([(0x7003, 0, 5, 2), (0x7003, 0, 3, 2), (0x7003, 0, 6, 15), (0x7003, 0, 7, 15), (0x7003, 0, 8, 15),
    (0x3010, 0, 1, 1), (0x7010, 128, 1, 2), (0x7010, 129, 1, 2), (0x7010, 130, 1, 2),
    (0x7010, 131, 1, 2)] ++ l)

/-- A DRAM request. -/
def oneRequest (w : Option Bytes) : DramReq :=
  { id := 7, port := 2, addr := 256, len := 1, write := w, urgency := 1, start := 0, replays := 0,
    channel := 0, row := 0, bank := 0, loc := 256, also := none, issued := some 1, guards := false }

/-- A block held for its acknowledgement. -/
def oneHeld (q : Nat) : Held := { seq := q, kind := 0, payload := zeros 64, lane := 128, sentAt := 1, rows := [] }

/-- A journal entry. -/
def oneEntry : JEntry := { seq := 1, object := 0x3000, element := 0, member := 1, value := 5, data := [] }

/-- A calibration of course 3, or of the tile. -/
def oneCal (phase : Nat) (tile window : Bool) : Cal :=
  { tile := tile, course := 3, phase := phase, inPhase := 1, n0 := 0, probe := [], diode := [], dark := [],
    measured := 1, pluck := 0, pair := none, passed := [], failed := [], ending := false, window := window }

/-- Management serves on the host link. -/
def serving (l : List (Nat × Nat × Nat × Nat)) : State :=
  { at_ ([(0x2001, 0, 1, 2), (0x1000, 0, 2, 1)] ++ l) with mgmt := { Mgmt.reset with service := true } }

/-- An open session. -/
def oneSession : Session :=
  { id := 7, key := zeros 32, path := 0, peer := [], seqIn := 4, seen := [], seqOut := 9, replies := [], opened := 0 }

/-- Master 1 has a session open. -/
def withSession (l : List (Nat × Nat × Nat × Nat)) : State :=
  { serving l with mgmt := { Mgmt.reset with
      service := true, masters := [(1, { Master.reset with session := some oneSession })] } }

/-- An item of a message and its bytes (R324). -/
def itemOf (o m n : Nat) (data : Bytes) : Item :=
  { object := o, element := 0, member := m, flags := 0, len := n, offset := 0, data := data }

def itemBytes (o m n : Nat) (data : Bytes) : Bytes :=
  beBytes 2 o ++ zeros 2 ++ beBytes 1 m ++ [0] ++ beBytes 2 n ++ zeros 4 ++ data

/-- An accepted item that management holds. -/
def oneHandoff : Handoff :=
  { item := stagedValue 0x3300 0 1 3, master := 1, session := 7, seq := 4, last := true, codes := [0], index := 0 }

/-- Chord slot 2 in a state, with a commit mode and a time. -/
def withChord (state mode time : Nat) : State :=
  { withSession [] with mgmt := { (withSession []).mgmt with
      chords := [(2, { Chord.reset with
        state := state, gen := 2, master := 1, session := 7, mode := mode, at_ := time,
        items := [stagedValue 0x3300 0 1 3] })] } }

/-- Both Ethernet ports are up. -/
def netUp (l : List (Nat × Nat × Nat × Nat)) : State :=
  at_ ([(0x2010, 2, 4, 0), (0x8020, 0, 2, 1), (0x8020, 1, 2, 1), (0x8000, 0, 3, 0)] ++ l)

/-- The global address is 5. -/
def withAddress : State :=
  { netUp [] with blobs := [(mkey 0x8000 0 0x11, beBytes 16 5)], net := { Net.reset with globalOk := true } }

/-- An IPv6 frame to the broadcast address, from address 6 to address 5. -/
def ip6Frame (next : Nat) (p : Bytes) : Bytes :=
  beBytes 6 0xFFFFFFFFFFFF ++ beBytes 6 9 ++ beBytes 2 0x86DD ++ ip6Packet 6 5 next 64 p

/-- Domain slot 0 in a state. -/
def withSlot (x : Slot) : State := { netUp [] with net := { Net.reset with slot0 := x } }

/-- A PTP message of domain 0 from port identity 7, sequence 3. -/
def ptpBytes (ty flags : Nat) (tail : Bytes) : Bytes :=
  beBytes 1 ty ++ [2] ++ beBytes 2 64 ++ [0, 0] ++ beBytes 1 flags ++ zeros 13 ++ beBytes 10 7 ++ beBytes 2 3 ++
    zeros 12 ++ tail ++ zeros 20

def ptpFrame (ty flags : Nat) (tail : Bytes) : Bytes :=
  beBytes 6 0x011B19000000 ++ beBytes 6 9 ++ beBytes 2 0x88F7 ++ ptpBytes ty flags tail

/-! ### Ill-formed commands are refused -/

theorem test_ill_formed_0 : ([
    .parcelHeaderArrives 0 8 [],
    .relayParcelStart 0 8,
    .tile 0 8 [],
    .frameHeader 0 8 [],
    .frameClose 0 8 [],
    .cueTrigger 0 8 [],
    .layerData 0 8 [],
    .planeSlotStart 0 [⟨256, 0, 0, false⟩],
    .planeSlotStart 0 [⟨0, 7168, 0, false⟩],
    .planeSlotStart 0 [⟨0, 0, 16, false⟩],
    .pluck 0 16,
    .loadCutoff 0 2 [],
    .tileDecodeDone 0 272 [],
    .tileDecodeDone 0 0 [⟨256, 0, 0, false⟩],
    .tileDecodeDone 0 0 [⟨0, 7168, 0, false⟩],
    .tileDecodeDone 0 0 [⟨0, 0, 16, false⟩],
    .decodeSelftest 0 [272],
    .bandSynthesisStart 0 [⟨256, 0, 0, false⟩],
    .bandSynthesisStart 0 [⟨0, 7168, 0, false⟩],
    .bandSynthesisStart 0 [⟨0, 0, 16, false⟩],
    .bandCommit 0 [⟨256, 0, 0, false⟩],
    .bandCommit 0 [⟨0, 7168, 0, false⟩],
    .bandCommit 0 [⟨0, 0, 16, false⟩],
    .engineSelftest 0 [136]] : List Instr).all (fun c => !c.wf) = true := by
  decide +kernel

theorem test_ill_formed_1 : ([
    .tileCompressStart ⟨0, [⟨256, 0, 0, false⟩]⟩,
    .tileCompressStart ⟨0, [⟨0, 7168, 0, false⟩]⟩,
    .tileCompressStart ⟨0, [⟨0, 0, 16, false⟩]⟩,
    .compressionDone 0 16 false,
    .panelStatus 0 2 [],
    .panelStatusTimeout 0 2,
    .panelStatusLost 0 2,
    .clearBeforeLight 0 2,
    .exerciseLatch 0 2,
    .parkTimeExpiry 0 2,
    .dischargeStepExpiry 0 2,
    .coursePollTimer 0 16,
    .pilotFire 0 16 0,
    .pilotFire 0 0 6,
    .monitorSample 0 16 0#64,
    .pilotSample 0 16 0#64,
    .driverStatusFrame 0 16 0#64,
    .uplinkTimeout 0 16,
    .chatterEnd 0 7,
    .openLoopFallback 0 48,
    .blockData 0 192 [],
    .parcelStart 0 192 [],
    .parcelAbort 0 192 [],
    .acknowledge 0 192 []] : List Instr).all (fun c => !c.wf) = true := by
  decide +kernel

theorem test_ill_formed_2 : ([
    .replayTimeout 0 192,
    .ackSendTimer 0 8,
    .marker 0 192 [],
    .filler 0 192 [] 0,
    .training 0 192 [],
    .sleep 0 192 [],
    .laneMap 0 192 [],
    .reservedBlock 0 192 [],
    .signalDetect 0 192,
    .cdrLock 0 192 0 0,
    .bringUpStageTimeout 0 192,
    .bringUpRetry 0 192,
    .laneLockLoss 0 192,
    .portSleepTimer 0 8,
    .dramRequest 0 7 0 1 none,
    .dramRequest 0 0 0 0 none,
    .dramRequest 0 0 0 1 (some []),
    .inplaceRetrainDone 0 4 false,
    .ddrRefreshTimer 0 4,
    .dqsOscTimer 0 4 0,
    .zqCalTimer 0 4,
    .ddrTrainingDone 0 4 ⟨true, true, 0, true, false, 0, 0⟩,
    .ratioRampStep 0 14,
    .muxForcedSwitch 0 14] : List Instr).all (fun c => !c.wf) = true := by
  decide +kernel

theorem test_ill_formed_3 : ([
    .railUndervoltage 0 7,
    .railOvervoltage 0 7,
    .openSession 0 3 [] [],
    .close 0 3 [] [],
    .read 0 3 [] [],
    .write 0 3 [] [],
    .chordBegin 0 3 [] [],
    .commitNow 0 3 [] [],
    .commitNextFret 0 3 [] [],
    .commitNextFrame 0 3 [] [],
    .commitAtTime 0 3 [] [],
    .chordHandoff 0 32,
    .atTimeReached 0 32,
    .abortChord 0 3 [] [],
    .chordIdleTimeout 0 32,
    .keepalive 0 3 [] [],
    .eventAck 0 3 [] [],
    .sessionTimeout 0 15,
    .sessionTimeout 0 0,
    .eventSend 0 15,
    .eventSend 0 0,
    .eventResendTimer 0 15,
    .eventResendTimer 0 0,
    .fwVerifyDone 0 2] : List Instr).all (fun c => !c.wf) = true := by
  decide +kernel

theorem test_ill_formed_4 : ([
    .ethFrameRx 0 2 [] false,
    .relayFrameTx 0 2,
    .sync 0 2 [],
    .followUp 0 2 [],
    .delayResp 0 2 [],
    .announce 0 2 [],
    .announceTimeout 0 2,
    .delayReqSend 0 2,
    .neighborSolicitation 0 2 [],
    .echoRequest 0 2 [],
    .ethLinkChange 0 2 false,
    .modelMismatch 0 4,
    .calCourse 0 16,
    .cvOwnerTimeout 0 16,
    .islandRampsDone 0 [256],
    .islandError 0 14,
    .islandRestartDone 0 14,
    .railReturn 0 7,
    .malformedMessage 0 3,
    .badUplinkFrame 0 16 0#64] : List Instr).all (fun c => !c.wf) = true := by
  decide +kernel

/-- A command that names a unit the device lacks stops by that name. -/
theorem test_ill_formed_stops : exec (.pluck 3 16) State.reset = .fault .noSuchUnit := rfl

/-! ### Frames that any device keeps -/

/-- A frame to every station, or to the group of PTP, without a tag is kept by whatever device hears it. -/
theorem keepsFrame_of {s : State} {f : Bytes} (ht : frameTag f = none)
    (hd : field f 0 6 = 0xFFFFFFFFFFFF ∨ field f 0 6 = 0x011B19000000) : s.keepsFrame f = true := by
  rcases hd with hd | hd <;> simp [State.keepsFrame, ht, hd]

theorem icmpFor_of {s : State} {f : Bytes} {ty : Nat} (ht : frameTag f = none)
    (hd : field f 0 6 = 0xFFFFFFFFFFFF ∨ field f 0 6 = 0x011B19000000)
    (h : (isIp6 f 58 && field f (frameBody f + 40) 1 == ty) = true) : s.icmpFor f ty = true := by
  simpa [State.icmpFor, keepsFrame_of (s := s) ht hd] using h

theorem ptpFor_of {s : State} {f m : Bytes} {ty i : Nat} (ht : frameTag f = none)
    (hd : field f 0 6 = 0xFFFFFFFFFFFF ∨ field f 0 6 = 0x011B19000000) (hm : ptpOf f = m)
    (h : s.islandRuns 2 = true ∧ (ptpAt f).isSome = true ∧ ptpTransport f = s.v 0x8000 0x03 ∧
      ptpGood m = true ∧ ptpType m = ty)
    (hs : s.slotFor (ptpDomain m) = some i) : s.ptpFor f ty = some (i, m) := by
  subst hm
  obtain ⟨h1, h2, h3, h4, h5⟩ := h
  simp [State.ptpFor, keepsFrame_of (s := s) ht hd, h1, h2, h3, h4, h5, hs]

theorem beNat_foldl (bs : Bytes) (a : Nat) :
    bs.foldl (fun (x : Nat) b => x * 256 + b.toNat) a = a * 256 ^ bs.length + beNat bs := by
  induction bs generalizing a with
  | nil => simp [beNat]
  | cons b bs ih =>
    simp only [beNat, List.foldl_cons, List.length_cons]
    rw [ih, ih (0 * 256 + b.toNat), pow_succ]
    ring

theorem length_beBytes (n v : Nat) : (beBytes n v).length = n := by
  induction n <;> simp [beBytes, *]

theorem beNat_beBytes (n v : Nat) : beNat (beBytes n v) = v % 256 ^ n := by
  induction n with
  | zero => simp [beBytes, beNat, Nat.mod_one]
  | succ n ih =>
    have h := beNat_foldl (beBytes n v) (BitVec.ofNat 8 (v / 256 ^ n)).toNat
    have e : v % 256 ^ (n + 1) = v % 256 ^ n + 256 ^ n * (v / 256 ^ n % 256) := by
      rw [pow_succ, Nat.mod_mul]
    rw [length_beBytes, ih, BitVec.toNat_ofNat] at h
    rw [beBytes, beNat, List.foldl_cons, Nat.zero_mul, Nat.zero_add, BitVec.toNat_ofNat, h, e,
      Nat.mul_comm, Nat.add_comm]

theorem field_mid (pre post : Bytes) (o n v : Nat) (h : pre.length = o) :
    field (pre ++ beBytes n v ++ post) o n = v % 256 ^ n := by
  subst h
  simp [field, slice, length_beBytes, beNat_beBytes]

theorem ptpOf_frame {f m pre : Bytes} (h : ptpAt f = some 14) (hf : f = pre ++ m) (hp : pre.length = 14) :
    ptpOf f = m := by
  subst hf
  simp [ptpOf, h, ← hp]

theorem ownPort_small (s : State) : s.ownPort < 256 ^ 10 := by
  have h : s.mac < 2 ^ 48 := Nat.mod_lt _ (by decide)
  unfold State.ownPort State.clockId
  omega

theorem ownPort_any (s t : State) : s.ownPort = t.ownPort := by
  simp only [State.ownPort, State.clockId, State.mac]

/-! ### Figures and worked examples of the spec -/

/-- R387: the results for the ASCII string 123456789. -/
theorem test_check_values : (List.range 4).map (fun k => crcOf k (List.map (BitVec.ofNat 8)
    [49, 50, 51, 52, 53, 54, 55, 56, 57])) = [0xE3069283, 0xCBF43926, 0x29B1, 0xF4] := by decide +kernel

/-- R325 names SHA-256; the digest of the three letters abc is that of its standard. -/
theorem test_sha256 : beNat (sha256 [0x61#8, 0x62#8, 0x63#8]) =
    0xBA7816BF8F01CFEA414140DE5DAE2223B00361A396177A9CB410FF61F20015AD := by decide +kernel

/-- R121: the figures of modes 0 and 1. -/
theorem test_figures : ([0, 1].map fun n =>
    let m := State.reset.modeSlot n
    [m.fretPeriod, m.slotLen 2, m.gap, m.window1, m.window0, m.views]) =
    [[1250000, 41666, 3333333, 1208334, 4541667, 256], [2000000, 66666, 4000000, 1933334, 5933334, 96]] := by
  decide +kernel

/-- R126: the durations of bits 5 to 0. -/
theorem test_durations : ([0, 1].map fun n => [9, 5, 4, 3, 2, 1, 0].map (State.reset.modeSlot n).dur) =
    [[30000, 15000, 7500, 3750, 1875, 938, 469], [48000, 24000, 12000, 6000, 3000, 1500, 750]] := by
  decide +kernel

/-- R125 and the example of 08: in fret 1 slot 0 shows blue bit 0 and slot 9 blue bit 9; slot 9 starts at
375000. -/
theorem test_slots_of_fret_one : (slotColour 1 0, slotBit 1 0, slotColour 1 9, slotBit 1 9,
    (State.reset.modeSlot 0).slotStart 9) = (2, 0, 2, 9, 375000) := by decide +kernel

/-- R78: the table of the perceptual curve. -/
theorem test_perceptual_curve : [0, 1, 2, 94, 95, 128, 206, 207, 255].map (lin14 8) =
    [0, 0, 1, 1523, 1560, 3100, 9664, 9780, 16383] := by decide +kernel

/-- The example of 03: a tile of two colours in 17 bytes. -/
def twoColours (last : Byte) : Bytes :=
  [0#8, 0#8, 0x40#8, 0x80#8, 0xC0#8, 0xFF#8, 0x7F#8, 0x8F#8, 0x3F#8,
   0#8, 0x10#8, 0x20#8, 0x30#8, 0x80#8, 0x7F#8, 0x8F#8, last]

theorem test_two_colour_tile : (decodeStream 16384 128 (twoColours 0x3F#8)).reason = 0 ∧
    field (decodeStream 16384 128 (twoColours 0x3F#8)).raw 8188 8 = 0x4080C0FF10203080 ∧
    (decodeStream 16384 128 (twoColours 0x3F#8)).raw.length = 16384 := by decide +kernel

/-- The example of 03: a REPEAT of 2048 would write beyond the tile: reason 3, at 8196 bytes. -/
theorem test_capo_stop : (decodeStream 16384 128 (twoColours 0x40#8)).reason = 3 ∧
    (decodeStream 16384 128 (twoColours 0x40#8)).raw.length = 8196 := by decide +kernel

/-- A small tile of one colour comes back from the compression lane, level 1. -/
theorem test_compress_small : decodeStream 16 4 (compress 1 4 [1#8, 2#8, 3#8, 4#8, 1#8, 2#8, 3#8, 4#8,
    1#8, 2#8, 3#8, 4#8, 1#8, 2#8, 3#8, 4#8]).1 = { reason := 0, raw := [1#8, 2#8, 3#8, 4#8, 1#8, 2#8, 3#8,
    4#8, 1#8, 2#8, 3#8, 4#8, 1#8, 2#8, 3#8, 4#8] } := by decide +kernel

/-- The example of 09: a string power loop at G = 1.0 whose sample is 3900 of 4000 goes to 32973. -/
theorem test_string_loop : ((State.presetStrings State.reset).stepLoop 17 (truncDiv (100 * 32768) 4000) 32768 gainDest).1 =
    32973 := by decide +kernel

/-- The example of 11: a reference tile with four channels of 32 Gb devices in two ranks. -/
def referenceDram : State :=
  at_ [(0x7800, 0, 0x0A, 15), (0x7800, 0, 0x0B, 2), (0x7800, 0, 0x0C, 2), (0x7820, 0, 1, 2), (0x7820, 1, 1, 2),
    (0x7820, 2, 1, 2), (0x7820, 3, 1, 2)]

theorem test_dram_chunk : (referenceDram.chunkOf 21474844672, referenceDram.chunkChannel 5242882,
    referenceDram.localAddr 21474844672) = (5242882, 2, 5368709120) := by decide +kernel

/-! ### Single steps -/

/-- R9: the command in front runs, and the next one stays. -/
theorem test_front_runs : ∃ s', step { State.reset with pending := [.emitInhAssert 4, .tapReset 9] } =
    .next s' ∧ s'.pending = [.tapReset 9] ∧ s'.bridge.emitInh = true ∧ s'.now = 4 := ⟨_, rfl, by decide +kernel⟩

/-- R318, R330: a write of a read-only member is refused with code 3, and of a missing object with
code 1. -/
theorem test_refused_codes : (State.reset.writeCode { master := 0, path := none, chord := false }
    (stagedValue 0x5001 0 3 1) 1 0, State.reset.writeCode { master := 0, path := none, chord := false }
    (stagedValue 0x3FFF 0 3 1) 1 0) = (3, 1) := by decide +kernel

/-- R436: EXTEST and BYPASS. -/
theorem test_bypass : ∃ s', exec (.bypass 2) State.reset = .next s' ∧ s'.tapIr = 0xFF#8 :=
  ⟨_, rfl, by decide +kernel⟩

/-- R57, R8: a written member reads back. -/
theorem test_member_write : ∃ s', exec (.memberWrite 2 0x3000 0 1 7) State.reset = .next s' ∧
    s'.ve 0x3000 0 1 = 7 ∧ s'.mgmt.lastCode = 0 := ⟨_, rfl, by decide +kernel⟩

/-! ### The hypotheses of the general statements -/

theorem sat_StepTakesTheFront : ∃ (s : State) (c : Instr) (l : List Instr), s.pending = c :: l :=
  ⟨{ State.reset with pending := [.tapReset 1] }, .tapReset 1, [], rfl⟩

theorem sat_StepTakesTheFront_1 : ∃ s : State, s.pending = [] := ⟨State.reset, rfl⟩

theorem sat_StepKeepsSound : ∃ s s' : State, s.sound ∧ step s = .next s' :=
  ⟨{ netUp [] with pending := [.emitInhAssert 4] }, _, ⟨by decide +kernel, by decide +kernel, by decide +kernel⟩,
    rfl⟩

theorem sat_WellFormedCommandsRun_0 : ∃ c : Instr, c.wf = true := ⟨.pluck 1 15, by decide⟩

theorem sat_WellFormedCommandsRun_1 : ∃ c : Instr, c.wf = false := ⟨.pluck 1 16, by decide⟩

/-- What a command leaves is what its evaluation finds. -/
theorem runs_of {c : Instr} {s : State} (p : State → Bool)
    (h : (match exec c s with | .next s' => p s' | _ => false) = true) : ∃ s', runs c s s' ∧ p s' = true := by
  unfold runs
  split at h
  · next s' e => exact ⟨s', e, h⟩
  · cases h

/-- The place of red bit 0 in mode 0 is that of the example of 08: 24765 to 25234. -/
theorem sat_GatesNeedPermission : ∃ (s s' : State) (n rise fall : Nat),
    runs (.pluck 9 3) s s' ∧ Output.gate n rise fall ∈ s'.out := by
  obtain ⟨s', h, e⟩ := runs_of (c := .pluck 9 3) (s := lit [])
    (fun s' => decide (s'.out = [.gate 9 24765 25234])) (by decide +kernel)
  exact ⟨lit [], s', 9, 24765, 25234, h, by simp [of_decide_eq_true e]⟩

theorem sat_TilesOfAMode : ∃ (m : Mode) (x y b c : Nat), m.valid = true ∧ x < m.h ∧ y < m.v ∧
    b < m.bands ∧ c < m.cols ∧ x = 2559 ∧ y = 1439 ∧ b = 22 ∧ c = 19 :=
  ⟨State.reset.modeSlot 0, 2559, 1439, 22, 19, by decide +kernel⟩

theorem sat_PlanesOfASlot : ∃ (f g j : Nat) (m : Mode), f % 2 = 0 ∧ g % 2 = 1 ∧ j < 30 ∧ m.valid = true :=
  ⟨62, 63, 29, State.reset.modeSlot 1, by decide +kernel⟩

theorem sat_PlaneLimits : ∃ sv : Nat, 0 < sv ∧ sv ≤ (State.reset.modeSlot 1).lw := ⟨2, by decide +kernel⟩

theorem sat_SlotsFillTheFret : ∃ (m : Mode) (j f c k : Nat), 0 < m.ls ∧ m.valid = true ∧ j < 30 ∧ c < 3 ∧
    k < 10 ∧ slotColour f j = c ∧ slotBit f j = k :=
  ⟨State.reset.modeSlot 0, 29, 0, 2, 0, by decide +kernel⟩

theorem sat_DecodedStreamsFillTheTile : ∃ (n w : Nat) (bs : Bytes), n % 4 = 0 ∧ (decodeStream n w bs).reason = 0 :=
  ⟨16384, 128, twoColours 0x3F#8, by decide +kernel⟩

theorem sat_CompressedTilesDecodeBack : ∃ (level w : Nat) (raw : Bytes), level ≤ 8 ∧ 0 < w ∧ 0 < raw.length ∧
    raw.length ≤ 32768 ∧ raw.length % 4 = 0 := ⟨8, 1, zeros 4, by decide⟩

theorem sat_LineCodeRoundTrip : ∃ run : Nat, run < 48 := ⟨47, by decide⟩

theorem sat_FramesRoundTrip : ∃ (ty seq i code slot course : Nat) (payload : Bytes) (torque : Int), ty < 16 ∧
    seq < 256 ∧ payload.length = 64 ∧ i < 4 ∧ code < 2 ^ 16 ∧ slot < 32 ∧ course < 2 ^ 11 ∧ -32768 ≤ torque ∧
    torque ≤ 32767 := ⟨15, 255, 3, 65535, 31, 2047, zeros 64, -32768, by decide⟩

theorem sat_MessagesRoundTrip_0 : ∃ (ty m flags session seq chord : Nat) (body : Bytes), ty < 256 ∧ m < 256 ∧
    flags < 256 ∧ session < 2 ^ 32 ∧ seq < 2 ^ 32 ∧ chord < 2 ^ 16 ∧ body.length ≤ 1408 :=
  ⟨255, 255, 255, 2 ^ 32 - 1, 2 ^ 32 - 1, 65535, zeros 3, by decide +kernel⟩

theorem sat_MessagesRoundTrip_1 : ∃ (b : Bytes) (x : Msg), parseMsg b = some x :=
  ⟨packMsg 6 1 0 2 3 4 [5#8] [], Option.isSome_iff_exists.mp (by decide +kernel)⟩

/-- Frame 5 has been passed over: the cutoff is frame 6. -/
def passedOver (replay : Option Replay) : State :=
  { at_ [] with ingress := { Ingress.reset with
      store1 := { Frame.empty with number := some 7 }, cutoff := some 6, replay := replay } }

theorem sat_LateParcelsAreDiscarded_0 : ∃ (s : State) (t port kind : Nat) (bs : Bytes), port < 8 ∧ 1 ≤ kind ∧
    kind ≤ 3 ∧ s.keepsParcel port bs = true ∧ s.goodParcel kind bs = true ∧ (parcelHdr bs).cueLoad = false ∧
    s.afterCutoff (parcelHdr bs).frame = false ∧ s.nextStore.number ≠ some (parcelHdr bs).frame :=
  ⟨passedOver none, 9, 7, 1, parcelOf 1 0 5 [2, 1, 1, 0, 0x80, 0, 0, 0, 7], by decide +kernel⟩

theorem test_late_parcel : ∃ s', exec (.tile 9 7 (parcelOf 1 0 5 [2, 1, 1, 0, 0x80, 0, 0, 0, 7]))
    (passedOver none) = .next s' ∧ s'.ve 0x3002 0 6 = 1 ∧ s'.ingress = (passedOver none).ingress :=
  ⟨_, rfl, by decide +kernel⟩

theorem sat_LateParcelsAreDiscarded_1 : ∃ (c : Instr) (s s' : State), bringsParcel c = true ∧ runs c s s' :=
  ⟨.tile 9 7 [], State.reset, _, rfl, rfl⟩

theorem sat_PlainWritesChangeOneMember : ∃ (s s' : State) (t o e m v : Nat),
    s.acceptsValue t 0 o e m v = true ∧ s.atOnce o e m = true ∧ s.calm = true ∧
    plainMember (s.enter t) o e m v = true ∧ runs (.memberWrite t o e m v) s s' :=
  ⟨State.reset, _, 2, 0x3000, 0, 1, 7, by decide +kernel, by decide +kernel, by decide +kernel,
    by decide +kernel, rfl⟩

theorem sat_ContentCommandsKeepTheRest : ∃ (c : Instr) (s : State), areaOf c = .content ∧
    c.wf = true ∧ (waits c = true → s.calm = true) := ⟨.cueClear 3 0 1, State.reset, rfl, by decide, fun _ => rfl⟩

theorem sat_DisplayCommandsKeepTheRest : ∃ (c : Instr) (s : State), areaOf c = .display ∧
    c.wf = true ∧ (waits c = true → s.calm = true) := ⟨.nutMark 3, State.reset, rfl, by decide, fun _ => rfl⟩

theorem sat_LightCommandsKeepTheRest : ∃ (c : Instr) (s : State), areaOf c = .light ∧
    c.wf = true ∧ (waits c = true → s.calm = true) := ⟨.pluck 3 15, State.reset, rfl, by decide, fun _ => rfl⟩

theorem sat_StoreCommandsKeepTheRest : ∃ (c : Instr) (s : State), areaOf c = .store ∧
    c.wf = true ∧ (waits c = true → s.calm = true) := ⟨.ackSendTimer 3 7, State.reset, rfl, by decide, fun _ => rfl⟩

theorem sat_SupplyCommandsKeepTheRest : ∃ (c : Instr) (s : State), areaOf c = .supply ∧
    c.wf = true ∧ (waits c = true → s.calm = true) := ⟨.hclkLoss 3, State.reset, rfl, by decide, fun _ => rfl⟩

theorem sat_ManagementCommandsKeepTheRest : ∃ (c : Instr) (s : State), areaOf c = .management ∧
    c.wf = true ∧ (waits c = true → s.calm = true) := ⟨.sessionTimeout 3 14, State.reset, rfl, by decide, fun _ => rfl⟩

theorem sat_NetworkAndHealthCommandsKeepTheRest : ∃ (c : Instr) (s : State), (areaOf c = .network ∨ areaOf c = .health) ∧
    c.wf = true ∧ (waits c = true → s.calm = true) := ⟨.lifeSecond 3, State.reset, Or.inr rfl, by decide, fun _ => rfl⟩

/-! ### Every clause has its witness -/

theorem sat_MemberWrites_0 :
    ∃ (s : State) (t : Nat) (o : Nat) (e : Nat) (m : Nat) (v : Nat), s.acceptsValue t 0 o e m v = true ∧
      s.atOnce o e m = true ∧ s.calm = true ∧ plainMember (s.enter t) o e m v = true :=
  ⟨at_ [], 0, 0x3300, 5, 1, 3, by decide +kernel⟩

theorem sat_MemberWrites_1 :
    ∃ (s : State) (t : Nat) (o : Nat) (v : Nat), s.acceptsValue t 0 o 0 0x10 v = true ∧ s.calm = true ∧ o ≠
      0x5800 ∧ (rowOf o 0 0x10).any (fun r => r.acc == .wo) = true :=
  ⟨at_ [(0x3002, 0, 1, 5)], 0, 0x3002, 1, by decide +kernel⟩

theorem sat_MemberWrites_2 :
    ∃ (s : State) (t : Nat) (o : Nat) (e : Nat) (m : Nat) (v : Nat), s.acceptsValue t 0 o e m v = true ∧
      s.atOnce o e m = false :=
  ⟨at_ [(0x5001, 0, 3, 1)], 0, 0x5040, 0, 2, 77, by decide +kernel⟩

theorem sat_MemberWrites_3 :
    ∃ (s : State) (t : Nat) (o : Nat) (e : Nat) (m : Nat) (v : Nat), s.acceptsValue t 0 o e m v = false ∧ o ≠
      0x2020 ∧ o ≠ 0x2030 :=
  ⟨at_ [], 0, 0x3002, 0, 1, 1, by decide +kernel⟩

theorem sat_CueAndPoolWrites_0 :
    ∃ (s : State) (t : Nat) (v : Nat), s.acceptsValue t 0 0x3040 0 0x05 v = true ∧ s.calm = true ∧
      s.ingress.replay = none ∧ s.seq.running = false ∧ s.heldTrigger.count ≠ 0 :=
  ⟨at_ [(0x3040, 0, 3, 4)], 0, 1, by decide +kernel⟩

theorem sat_CueAndPoolWrites_1 :
    ∃ (s : State) (t : Nat) (cue : Nat) (v : Nat), s.acceptsValue t 0 0x3500 cue 0x03 v = true ∧ s.calm = true :=
  ⟨at_ [(0x3500, 3, 1, 1), (0x3500, 3, 2, 7)], 0, 3, 1, by decide +kernel⟩

theorem sat_CueAndPoolWrites_2 :
    ∃ (s : State) (t : Nat) (n : Nat) (v : Nat), s.acceptsValue t 0 0x3810 n 0x02 v = true ∧ s.displayRuns =
      false ∧ s.calm = true :=
  ⟨at_ [], 0, 5, 1, by decide +kernel⟩

theorem sat_CueAndPoolWrites_3 :
    ∃ (s : State) (t : Nat) (n : Nat) (v : Nat), s.acceptsValue t 0 0x4810 n 0x02 v = true ∧ s.displayRuns =
      false ∧ s.calm = true :=
  ⟨at_ [(0x4810, 5, 1, 2), (0x4810, 5, 2, 1)], 0, 5, 0, by decide +kernel⟩

theorem sat_CueAndPoolWrites_4 :
    ∃ (s : State) (t : Nat) (n : Nat) (v : Nat), s.acceptsValue t 0 0x3820 n 0x04 v = true ∧ s.calm = true :=
  ⟨at_ [], 0, 3, 1, by decide +kernel⟩

theorem sat_DisplayWrites_0 :
    ∃ (s : State) (t : Nat), s.acceptsValue t 0 0x5000 0 0x02 1 = true ∧ s.calm = true :=
  ⟨at_ [], 0, by decide +kernel⟩

theorem sat_DisplayWrites_1 :
    ∃ (s : State) (t : Nat), s.acceptsValue t 0 0x5000 0 0x02 0 = true ∧ s.displayRuns = true :=
  ⟨at_ [(0x5001, 0, 3, 1)], 0, by decide +kernel⟩

theorem sat_DisplayWrites_2 :
    ∃ (s : State) (t : Nat) (v : Nat), s.acceptsValue t 0 0x5000 0 0x01 v = true ∧ s.displayRuns = false ∧
      s.calm = true :=
  ⟨at_ [], 0, 0, by decide +kernel⟩

theorem sat_DisplayWrites_3 :
    ∃ (s : State) (t : Nat), s.acceptsValue t 0 0x5800 0 0x0A 1 = true ∧ s.v 0x5001 0x03 = 0 ∧ s.calm = true :=
  ⟨at_ [(0x5801, 0, 1, 3)], 0, by decide +kernel⟩

theorem sat_DisplayWrites_4 :
    ∃ (s : State) (t : Nat), s.acceptsValue t 0 0x5800 0 0x0A 1 = true ∧ s.displayRuns = true :=
  ⟨at_ [(0x5001, 0, 3, 3)], 0, by decide +kernel⟩

theorem sat_DisplayWrites_5 :
    ∃ (s : State) (t : Nat), s.acceptsValue t 0 0x5800 0 0x0A 0 = true ∧ s.v 0x5001 0x03 = 4 ∧ s.calm = true :=
  ⟨at_ [(0x5001, 0, 3, 4), (0x5800, 0, 0x0A, 1)], 0, by decide +kernel⟩

theorem sat_DriveWrites_0 :
    ∃ (s : State) (t : Nat) (v : Nat), s.acceptsValue t 0 0x5800 0 0x10 v = true ∧ s.calm = true :=
  ⟨({ at_ [] with panel := { Panel.reset with faulted := true } }), 0, 1, by decide +kernel⟩

theorem sat_DriveWrites_1 :
    ∃ (s : State) (t : Nat) (v : Nat), s.acceptsValue t 0 0x5800 0 0x0F v = true ∧ s.calm = true :=
  ⟨at_ [], 0, 1, by decide +kernel⟩

theorem sat_DriveWrites_2 :
    ∃ (s : State) (t : Nat) (v : Nat), s.acceptsValue t 0 0x6000 0 0x05 v = true ∧ s.calm = true :=
  ⟨at_ [(0x6010, 3, 8, 9)], 0, 1, by decide +kernel⟩

theorem sat_DriveWrites_3 :
    ∃ (s : State) (t : Nat), s.acceptsValue t 0 0x6800 0 0x01 1 = true ∧ s.calm = true :=
  ⟨at_ [], 0, by decide +kernel⟩

theorem sat_DriveWrites_4 :
    ∃ (s : State) (t : Nat), s.acceptsValue t 0 0x6800 0 0x01 0 = true ∧ s.displayRuns = false ∧ s.calm = true ∧
      3 ≤ s.wheel ∧ s.wheel ≤ 7 :=
  ⟨at_ [(0x6800, 0, 1, 1), (0x6801, 0, 1, 5)], 0, by decide +kernel⟩

theorem sat_DriveWrites_5 :
    ∃ (s : State) (t : Nat), s.acceptsValue t 0 0x6800 0 0x01 0 = true ∧ s.displayRuns = true :=
  ⟨at_ [(0x5001, 0, 3, 1), (0x6800, 0, 1, 1)], 0, by decide +kernel⟩

theorem sat_DriveWrites_6 :
    ∃ (s : State) (t : Nat) (v : Nat), s.acceptsValue t 0 0x6800 0 0x0F v = true ∧ s.calm = true :=
  
    ⟨({ at_ [(0x6801, 0, 1, 11), (0x6801, 0, 9, 2)] with loop := { Loop.reset with lost := true, nuts := 3 }, clock := { Clock.reset with locked := true } }),
    0, 1, by decide +kernel⟩

theorem sat_DriveWrites_7 :
    ∃ (s : State) (t : Nat) (slot : Nat) (v : Nat), s.acceptsValue t 0 0x6810 slot 0x08 v = true ∧ s.calm = true
      ∧ 50 ≤ slot ∧ s.ve 0x6810 slot 0x03 ≠ 1 :=
  ⟨at_ [(0x6810, 50, 4, 9)], 0, 50, 100, by decide +kernel⟩

theorem sat_DriveWrites_8 :
    ∃ (s : State) (t : Nat) (slot : Nat) (v : Nat), s.acceptsValue t 0 0x6810 slot 0x09 v = true ∧ s.calm = true
      ∧ 50 ≤ slot ∧ s.slotSections slot ≠ 0 :=
  ⟨at_ [(0x6810, 50, 1, 2)], 0, 50, 100, by decide +kernel⟩

theorem sat_LinkAndMemoryWrites_0 :
    ∃ (s : State) (t : Nat) (lane : Nat), s.acceptsValue t 0 0x7010 lane 0x02 1 = true ∧ s.calm = true :=
  ⟨at_ [], 0, 3, by decide +kernel⟩

theorem sat_LinkAndMemoryWrites_1 :
    ∃ (s : State) (t : Nat) (lane : Nat), s.acceptsValue t 0 0x7010 lane 0x02 2 = true ∧ s.calm = true :=
  ⟨at_ [], 0, 130, by decide +kernel⟩

theorem sat_LinkAndMemoryWrites_2 :
    ∃ (s : State) (t : Nat) (lane : Nat), s.acceptsValue t 0 0x7010 lane 0x02 3 = true ∧ s.calm = true ∧
      s.laneServes lane = false ∧ s.gateOpen? (gateLane + lane) = true :=
  ⟨at_ [(0x7010, 130, 1, 3)], 0, 130, by decide +kernel⟩

theorem sat_LinkAndMemoryWrites_3 :
    ∃ (s : State) (t : Nat) (port : Nat) (v : Nat), s.acceptsValue t 0 0x7003 port 0x01 v = true ∧ s.calm = true :=
  ⟨at_ [(0x7003, 1, 1, 1)], 0, 1, 0, by decide +kernel⟩

theorem sat_LinkAndMemoryWrites_4 :
    ∃ (s : State) (t : Nat) (port : Nat) (v : Nat), s.acceptsValue t 0 0x7003 port 0x02 v = true ∧ s.calm = true :=
  ⟨at_ [], 0, 1, 0, by decide +kernel⟩

theorem sat_LinkAndMemoryWrites_5 :
    ∃ (s : State) (t : Nat) (bank : Nat) (v : Nat), s.acceptsValue t 0 0x7810 bank 0x02 v = true ∧ s.displayRuns
      = false ∧ s.calm = true ∧ v = 1 ∧ s.spareBanks ≠ [] ∧ (s.ve 0x7810 bank 0x01 = 0 ∨ s.ve 0x7810 bank 0x01 =
      1) :=
  ⟨at_ [], 0, 4, 1, by decide +kernel⟩

theorem sat_LinkAndMemoryWrites_6 :
    ∃ (s : State) (t : Nat) (v : Nat), s.acceptsValue t 0 0x9000 0 0x02 v = true ∧ s.calm = true ∧
      s.memory.journal ≠ [] ∧ s.memory.committing = none ∧ s.memory.activeUsed + journalBlocks s.memory.journal ≤
      128 :=
  
    ⟨({ at_ [] with memory := { Memory.reset with journal := [{ seq := 1, object := 0x3000, element := 0, member := 1, value := 5, data := [] }] } }),
    0, 1, by decide +kernel⟩

theorem sat_LinkAndMemoryWrites_7 :
    ∃ (s : State) (t : Nat) (c : Nat), s.acceptsValue t 0 0x7820 c 0x02 1 = true ∧ s.calm = true :=
  ⟨channelsUp [], 0, 1, by decide +kernel⟩

theorem sat_LinkAndMemoryWrites_8 :
    ∃ (s : State) (t : Nat) (c : Nat), s.acceptsValue t 0 0x7820 c 0x02 2 = true ∧ s.calm = true :=
  ⟨channelsUp [(0x7820, 1, 1, 4)], 0, 1, by decide +kernel⟩

theorem sat_LinkAndMemoryWrites_9 :
    ∃ (s : State) (t : Nat) (c : Nat), s.acceptsValue t 0 0x7820 c 0x02 3 = true ∧ s.calm = true ∧ ¬(s.chanState
      c = 4 ∧ (s.chan c).retrained = true) :=
  ⟨channelsUp [(0x7820, 1, 1, 4)], 0, 1, by decide +kernel⟩

theorem sat_LinkAndMemoryWrites_10 :
    ∃ (s : State) (t : Nat) (c : Nat), s.acceptsValue t 0 0x7820 c 0x02 3 = true ∧ s.calm = true ∧ s.chanState c
      = 4 ∧ (s.chan c).retrained = true :=
  
    ⟨({ channelsUp [(0x7820, 1, 1, 4)] with memory := { Memory.reset with chans := [(1, { ChanRec.reset with retrained := true })] } }),
    0, 1, by decide +kernel⟩

theorem sat_ClockWrites_0 :
    ∃ (s : State) (t : Nat) (island : Nat) (v : Nat), s.acceptsValue t 0 0x2010 island 0x02 v = true ∧ s.calm =
      true :=
  ⟨at_ [], 0, 1, 9, by decide +kernel⟩

theorem sat_ClockWrites_1 :
    ∃ (s : State) (t : Nat) (e : Nat) (unit : Bool), s.acceptsValue t 0 (gateObject unit) e 0x01 0 = true ∧
      s.calm = true ∧ s.gateState unit e ≠ 0 :=
  ⟨at_ [(0x2001, 0, 1, 2), (0x4810, 3, 1, 1), (0x2030, 3, 2, 1)], 0, 3, true, by decide +kernel⟩

theorem sat_ClockWrites_2 :
    ∃ (s : State) (t : Nat) (e : Nat) (unit : Bool), s.acceptsValue t 0 (gateObject unit) e 0x01 1 = true ∧
      s.calm = true ∧ s.gateState unit e = 0 :=
  ⟨at_ [(0x2001, 0, 1, 2), (0x2020, 0, 2, 1), (0x2020, 3, 1, 0), (0x2020, 3, 2, 0)], 0, 3, false,
    by decide +kernel⟩

theorem sat_ClockWrites_3 :
    ∃ (s : State) (t : Nat) (v : Nat) (w : Nat), s.acceptsValue t 0 0x8000 0 0x14 v = true ∧ s.displayRuns =
      true ∧ s.net.stepTo = some w :=
  ⟨({ at_ [(0x5001, 0, 3, 1), (0x8010, 0, 1, 3)] with net := { Net.reset with stepTo := some 0 } }), 0, 1, 0,
    by decide +kernel⟩

theorem sat_ClockWrites_4 :
    ∃ (s : State) (t : Nat) (v : Nat), s.acceptsValue t 0 0x2804 0 0x0A v = true ∧ s.calm = true :=
  
    ⟨({ at_ [(0x2804, 0, 2, 7)] with health := { Health.reset with records := [zeros 158 ++ [1] ++ zeros 93] } }),
    0, 7, by decide +kernel⟩

theorem sat_ClockWrites_5 :
    ∃ (s : State) (t : Nat) (v : Nat), s.acceptsValue t 0 0x1890 0 0x04 v = true ∧ s.calm = true :=
  ⟨at_ [(0x1890, 0, 1, 4)], 0, 1, by decide +kernel⟩

theorem sat_ManagementWrites_0 :
    ∃ (s : State) (t : Nat) (master : Nat) (key : Bytes), s.accepts t 0 key.length (stagedBytes 0x1002 master
      0x01 0 key) = true ∧ s.calm = true ∧ key.length = 32 :=
  ⟨at_ [], 0, 3, List.replicate 32 7, by decide +kernel⟩

theorem sat_ManagementWrites_1 :
    ∃ (s : State) (t : Nat) (v : Nat) (network : Bool), s.acceptsValue t 0 0x1000 0 (if network then 0x03 else
      0x02) v = true ∧ s.calm = true :=
  ⟨at_ [], 0, 1, true, by decide +kernel⟩

theorem sat_ManagementWrites_2 :
    ∃ (s : State) (t : Nat) (slot : Nat) (v : Nat), s.acceptsValue t 0 0x1020 slot 0x06 v = true ∧ s.calm = true :=
  
    ⟨({ at_ [] with mgmt := { Mgmt.reset with chords := [(1, { Chord.reset with state := 1, gen := 3, master := 2, items := [stagedValue 0x3000 0 1 5] })] } }),
    0, 1, 1, by decide +kernel⟩

theorem sat_ManagementWrites_3 :
    ∃ (s : State) (t : Nat) (slot : Nat) (offset : Nat) (data : Bytes), s.accepts t 0 data.length (stagedBytes
      0x9100 slot 0x01 offset data) = true ∧ s.calm = true :=
  ⟨at_ [], 0, 1, 0, [1, 2], by decide +kernel⟩

theorem sat_ManagementWrites_4 :
    ∃ (s : State) (t : Nat) (slot : Nat), s.acceptsValue t 0 0x9101 0 0x01 slot = true ∧ s.calm = true :=
  ⟨at_ [], 0, 1, by decide +kernel⟩

theorem sat_ManagementWrites_5 :
    ∃ (s : State) (t : Nat) (slot : Nat), s.acceptsValue t 0 0x9101 0 0x02 slot = true ∧ s.calm = true :=
  ⟨at_ [(0x9100, 1, 2, 2)], 0, 1, by decide +kernel⟩

theorem sat_MeasurementWrites_0 :
    ∃ (s : State) (t : Nat) (course : Nat), course < 16 ∧ s.acceptsValue t 0 0x2830 0 0x01 course = true :=
  
    ⟨({ at_ [(0x5001, 0, 3, 2), (0x6801, 0, 4, 1), (0x2820, 0, 4, 1), (0x2820, 0, 1, 5000), (0x2820, 1, 1, 5000), (0x2820, 2, 1, 5000)] with panel := { Panel.reset with halfA := { Half.reset with park := 0 } } }),
    0, 3, by decide +kernel⟩

theorem sat_MeasurementWrites_1 :
    ∃ (s : State) (t : Nat), s.acceptsValue t 0 0x2830 0 0x01 16 = true :=
  ⟨at_ [(0x5001, 0, 3, 2), (0x6801, 0, 4, 1), (0x2820, 0, 4, 1), (0x2820, 0, 1, 5000), (0x2820, 1, 1, 5000),
    (0x2820, 2, 1, 5000)], 0, by decide +kernel⟩

theorem sat_MeasurementWrites_2 :
    ∃ (s : State) (t : Nat), s.acceptsValue t 0 0x2830 0 0x01 255 = true ∧ s.calm = true :=
  ⟨at_ [], 0, by decide +kernel⟩

theorem sat_MeasurementWrites_3 :
    ∃ (s : State) (t : Nat) (u : Nat) (master : Nat) (v : Nat), s.acceptsValue t master 0x2840 u 0x01 v = true ∧
      s.calm = true :=
  ⟨at_ [(0x2841, 1, 1, 1)], 0, 1, 0, 3, by decide +kernel⟩

theorem sat_MeasurementWrites_4 :
    ∃ (s : State) (t : Nat) (u : Nat) (master : Nat) (v : Nat), s.acceptsValue t master 0x2840 u 0x02 v = true ∧
      s.calm = true :=
  ⟨at_ [(0x2841, 1, 1, 1)], 0, 1, 0, 1, by decide +kernel⟩

theorem sat_MeasurementWrites_5 :
    ∃ (s : State) (t : Nat) (u : Nat) (master : Nat) (v : Nat), s.acceptsValue t master 0x2840 u 0x03 v = true ∧
      s.calm = true :=
  ⟨at_ [(0x2841, 1, 1, 1)], 0, 1, 0, 1, by decide +kernel⟩

theorem sat_MeasurementWrites_6 :
    ∃ (s : State) (t : Nat) (u : Nat) (master : Nat) (v : Nat), s.acceptsValue t master 0x2840 u 0x04 v = true ∧
      s.calm = true :=
  ⟨at_ [(0x2841, 1, 1, 1)], 0, 1, 0, 1, by decide +kernel⟩

theorem sat_MeasurementWrites_7 :
    ∃ (s : State) (t : Nat) (u : Nat) (master : Nat) (v : Nat), s.acceptsValue t master 0x2840 u 0x05 v = true ∧
      s.calm = true :=
  ⟨at_ [(0x2841, 1, 1, 1)], 0, 1, 0, 1, by decide +kernel⟩

theorem sat_MeasurementWrites_8 :
    ∃ (s : State) (t : Nat) (u : Nat) (master : Nat) (v : Nat), s.acceptsValue t master 0x2840 u 0x0A v = true ∧
      s.calm = true :=
  ⟨at_ [(0x2841, 1, 1, 1)], 0, 1, 0, 1, by decide +kernel⟩

theorem sat_LatchPointAndNutMarks_0 :
    ∃ (s : State) (t : Nat), s.latchDue = true ∧ s.displayRuns = true ∧ s.seq.pend.all (fun p => p.cls != 2) =
      true :=
  ⟨litWith { Seq.reset with inGap := false } [(0x5001, 0, 2, 63)], 9, by decide +kernel⟩

theorem sat_LatchPointAndNutMarks_1 :
    ∃ (s : State) (t : Nat) (p : Pending), s.latchDue = true ∧ s.displayRuns = true ∧ s.seq.pend = [p] ∧ p.cls =
      2 ∧ displayedMember p.object p.member = false ∧ plainMember (s.enter t) p.object p.element p.member p.value
      = true :=
  ⟨litWith
    { Seq.reset with inGap := false, pend := [{ object := 0x3300, element := 0, member := 1, value := 3, data := [], offset := 0, cls := 2, frame := 0, master := 1, chord := none, origin := none }] }
    [(0x5001, 0, 2, 63)], 9,
    { object := 0x3300, element := 0, member := 1, value := 3, data := [], offset := 0, cls := 2, frame := 0, master := 1, chord := none, origin := none },
    by decide +kernel⟩

theorem sat_LatchPointAndNutMarks_2 :
    ∃ (s : State) (t : Nat) (p : Pending), s.latchDue = true ∧ s.displayRuns = true ∧ s.seq.pend = [p] ∧ p.cls =
      2 ∧ displayedMember p.object p.member = true :=
  ⟨litWith
    { Seq.reset with inGap := false, pend := [{ object := 0x6000, element := 0, member := 1, value := 1, data := [], offset := 0, cls := 2, frame := 0, master := 1, chord := none, origin := none }] }
    [(0x5001, 0, 2, 63)], 9,
    { object := 0x6000, element := 0, member := 1, value := 1, data := [], offset := 0, cls := 2, frame := 0, master := 1, chord := none, origin := none },
    by decide +kernel⟩

theorem sat_LatchPointAndNutMarks_3 :
    ∃ (s : State) (t : Nat), s.seq.running = true ∧ s.seq.overlap = false ∧ s.displayRuns = true ∧ s.v 0x5001
      0x03 ≠ 5 ∧ (s.seq.inGap = true ∨ s.seq.fretStart + s.figures.fretPeriod ≤ max s.now t) ∧ s.seq.nutPend.all
      (fun p => displayedMember p.object p.member) = true :=
  ⟨litWith Seq.reset (tinyMode ++ [(0x5001, 0, 2, 255)]), 9, by decide +kernel⟩

theorem sat_LatchPointAndNutMarks_4 :
    ∃ (s : State) (t : Nat), s.seq.running = true ∧ s.seq.overlap = false ∧ s.seq.inGap = false ∧ max s.now t <
      s.seq.fretStart + s.figures.fretPeriod :=
  ⟨litWith { Seq.reset with inGap := false, fretStart := 5 } (tinyMode ++ [(0x5001, 0, 2, 63)]), 9,
    by decide +kernel⟩

theorem sat_LatchPointAndNutMarks_5 :
    ∃ (s : State) (t : Nat), s.seq.running = true ∧ s.seq.overlap = true ∧ s.displayRuns = true ∧ s.v 0x5001
      0x03 ≠ 5 ∧ s.seq.nutPend.all (fun p => displayedMember p.object p.member) = true :=
  ⟨litWith { Seq.reset with inGap := false, overlap := true } (tinyMode ++ [(0x5001, 0, 2, 63)]), 9,
    by decide +kernel⟩

theorem sat_LatchPointAndNutMarks_6 :
    ∃ (s : State) (t : Nat), s.seq.running = false ∧ s.displayRuns = false ∧ s.seq.ended = false ∧ s.calm = true :=
  ⟨at_ [], 9, by decide +kernel⟩

theorem sat_LatchPointAndNutMarks_7 :
    ∃ (s : State) (t : Nat), s.seq.running = true ∧ s.seq.overlap = false ∧ s.v 0x5001 0x03 = 5 ∧ s.calm = true
      ∧ (s.seq.inGap = true ∨ s.seq.fretStart + s.figures.fretPeriod ≤ max s.now t) :=
  ⟨litWith Seq.reset (tinyMode ++ [(0x5001, 0, 3, 5)]), 9, by decide +kernel⟩

theorem sat_LatchPointAndNutMarks_8 :
    ∃ (s : State) (t : Nat), s.seq.running = true ∧ s.calm = true :=
  ⟨lit [], 9, by decide +kernel⟩

theorem sat_LatchPointAndNutMarks_9 :
    ∃ (s : State) (t : Nat) (g : Mode), s.seq.running = true ∧ s.calm = true ∧ s.target? = some g ∧ 0 <
      s.loop.nuts :=
  ⟨({ litWith Seq.reset (tinyMode ++ [(0x5001, 0, 5, 1)]) with loop := { Loop.reset with nuts := 1 } }), 9,
    (State.modeSlot (at_ tinyMode) 1).derived 1, by decide +kernel⟩

theorem sat_FretsAndSlots_0 :
    ∃ (s : State) (t : Nat), s.seq.running = true ∧ s.seq.overlap = false ∧ s.target?.isSome = false ∧
      s.nextFret < s.figures.f ∧ s.displayRuns = true ∧ s.seq.pend.all (fun p => p.cls != 1) = true :=
  ⟨litWith Seq.reset [(0x5001, 0, 2, 255)], 9, by decide +kernel⟩

theorem sat_FretsAndSlots_1 :
    ∃ (s : State) (t : Nat), s.seq.running = true ∧ s.seq.overlap = false ∧ s.target?.isSome = true ∧ s.nextFret
      < s.figures.f ∧ (s.enter t).edgeReached = true ∧ s.displayRuns = true ∧ s.seq.pend.all (fun p => p.cls != 1)
      = true :=
  
    ⟨({ litWith Seq.reset [(0x5001, 0, 2, 255), (0x5001, 0, 3, 3), (0x5001, 0, 5, 1)] with loop := { Loop.reset with count := 30000 } }),
    9, by decide +kernel⟩

theorem sat_FretsAndSlots_2 :
    ∃ (s : State) (t : Nat), s.seq.running = true ∧ s.target?.isNone = true :=
  ⟨lit [(0x5001, 0, 2, 3)], 9, by decide +kernel⟩

theorem sat_FretsAndSlots_3 :
    ∃ (s : State) (t : Nat) (p : Pending), s.seq.running = true ∧ s.seq.overlap = false ∧ s.target?.isSome =
      false ∧ s.nextFret < s.figures.f ∧ s.displayRuns = true ∧ s.seq.pend = [p] ∧ p.cls = 1 ∧ plainMember
      (s.enter t) p.object p.element p.member p.value = true :=
  ⟨litWith
    { Seq.reset with pend := [{ object := 0x3300, element := 0, member := 1, value := 3, data := [], offset := 0, cls := 1, frame := 0, master := 1, chord := none, origin := none }] }
    [(0x5001, 0, 2, 255)], 9,
    { object := 0x3300, element := 0, member := 1, value := 3, data := [], offset := 0, cls := 1, frame := 0, master := 1, chord := none, origin := none },
    by decide +kernel⟩

theorem sat_FretsAndSlots_4 :
    ∃ (s : State) (t : Nat) (ecc : List Ecc), eccOk ecc = true ∧ s.seq.running = true ∧ s.seq.inGap = false ∧
      s.seq.slots < 30 :=
  ⟨lit [], 9, [], by decide +kernel⟩

theorem sat_FretsAndSlots_5 :
    ∃ (s : State) (t : Nat), s.ray.window = true :=
  ⟨({ lit [] with ray := { Ray.reset with window := true } }), 9, by decide +kernel⟩

theorem sat_FretsAndSlots_6 :
    ∃ (s : State) (t : Nat), (s.enter t).canStart = true :=
  
    ⟨({ lit (readyToStart) with panel := { Panel.reset with halfA := { Half.reset with park := 0, mapped := [0] }, halfB := { Half.reset with park := 0 } } }),
    9, by decide +kernel⟩

theorem sat_PlucksAndInhibit_0 :
    ∃ (s : State) (t : Nat) (course : Nat), course < 16 ∧ s.seq.running = true ∧ s.seq.inGap = false ∧
      s.courseLit course = true :=
  ⟨({ lit [] with bridge := { Bridge.reset with slotBit := 9, slotColour := 2 } }), 9, 3, by decide +kernel⟩

theorem sat_PlucksAndInhibit_1 :
    ∃ (s : State) (t : Nat) (course : Nat), course < 16 ∧ s.courseLit course = false :=
  ⟨at_ [], 9, 3, by decide +kernel⟩

theorem sat_PlucksAndInhibit_3 :
    ∃ (s : State) (t : Nat), s.bridge.emitInh = true ∧ ((s.enter t).transitions inEmit 1).chatters inEmit =
      false :=
  ⟨({ at_ [] with bridge := { Bridge.reset with emitInh := true, blank := [1] } }), 9, by decide +kernel⟩

theorem sat_PlucksAndInhibit_4 :
    ∃ (s : State) (t : Nat), s.bridge.emitInh = true ∧ s.bridge.stuck = false :=
  ⟨({ at_ [] with bridge := { Bridge.reset with emitInh := true, blank := [1] } }), 9, by decide +kernel⟩

theorem sat_PlucksAndInhibit_5 :
    ∃ (s : State) (t : Nat) (input : Nat), input < 7 :=
  ⟨({ at_ [] with clock := { Clock.reset with chatter := [6, 2] } }), 9, 6, by decide +kernel⟩

theorem sat_PlucksAndInhibit_6 :
    ∃ (s : State) (t : Nat) (string : Nat), string < 48 ∧ (s.str string).frozen = true ∧ (s.str string).openLoop
      = false :=
  
    ⟨({ at_ [] with bridge := { Bridge.reset with strings := [(10, { StringRec.reset with frozen := true })] } }),
    9, 10, by decide +kernel⟩

theorem sat_CourseTimers_0 :
    ∃ (s : State) (t : Nat) (course : Nat), course < 16 ∧ s.ve 0x6020 course 0x04 ≤ 1 ∧ s.seq.running = true :=
  ⟨lit [(0x6020, 3, 4, 0)], 9, 3, by decide +kernel⟩

theorem sat_CourseTimers_1 :
    ∃ (s : State) (t : Nat) (course : Nat), course < 16 ∧ 1 < s.ve 0x6020 course 0x04 ∧ s.seq.running = false :=
  ⟨at_ [(0x6020, 3, 4, 2)], 9, 3, by decide +kernel⟩

theorem sat_CourseTimers_2 :
    ∃ (s : State) (t : Nat), s.seq.running = true ∧ s.windowFits = true :=
  ⟨lit [], 9, by decide +kernel⟩

theorem sat_CourseTimers_3 :
    ∃ (s : State) (t : Nat), s.seq.running = true ∧ s.windowFits = false :=
  ⟨lit [(0x6800, 0, 0x0D, 100)], 9, by decide +kernel⟩

theorem sat_CourseTimers_4 :
    ∃ (s : State) (t : Nat) (course : Nat) (pilot : Nat) (w : Nat), course < 16 ∧ pilot < 6 ∧ s.bridge.window =
      some w ∧ s.courseLit course = true :=
  ⟨({ lit [] with bridge := { Bridge.reset with window := some 1000 } }), 9, 3, 4, 1000, by decide +kernel⟩

theorem sat_CourseTimers_5 :
    ∃ (s : State) (t : Nat), s.v 0x5001 0x03 = 4 ∧ ((s.enter t).fretBridge).permitted = true :=
  ⟨lit [(0x5001, 0, 3, 4), (0x6801, 0, 3, 4)], 900000, by decide +kernel⟩

theorem sat_CourseTimers_6 :
    ∃ (s : State) (t : Nat) (course : Nat), course < 16 ∧ s.ve 0x6020 course 0x04 ≤ 1 ∧ s.seq.running = false :=
  ⟨at_ [], 9, 3, by decide +kernel⟩

theorem sat_UplinkFrames_0 :
    ∃ (s : State) (t : Nat) (course : Nat) (f : BitVec 64) (x : Expect), course < 16 ∧ upGood f = true ∧ upType
      f = 1 ∧ s.asked course (upSeq f) [1] = some x :=
  
    ⟨({ lit [] with bridge := { Bridge.reset with expect := [{ course := 3, kind := 1, string := 10, amp := 5, seq := 77, fall := 4 }] } }),
    9, 3, upFrame 1 1 4000 0 77, { course := 3, kind := 1, string := 10, amp := 5, seq := 77, fall := 4 },
    by decide +kernel⟩

theorem sat_UplinkFrames_1 :
    ∃ (s : State) (t : Nat) (course : Nat) (f : BitVec 64) (x : Expect), course < 16 ∧ upGood f = true ∧ upType
      f = 2 ∧ s.asked course (upSeq f) [2, 4] = some x ∧ x.kind ≠ 4 :=
  
    ⟨({ lit [] with bridge := { Bridge.reset with expect := [{ course := 3, kind := 2, string := 10, amp := 1, seq := 77, fall := 4 }] } }),
    9, 3, upFrame 2 1 4000 0 77, { course := 3, kind := 2, string := 10, amp := 1, seq := 77, fall := 4 },
    by decide +kernel⟩

theorem sat_UplinkFrames_2 :
    ∃ (s : State) (t : Nat) (course : Nat) (f : BitVec 64), course < 16 ∧ upGood f = true ∧ upType f = 3 :=
  ⟨lit [], 9, 3, upFrame 3 0 4000 8 77, by decide +kernel⟩

theorem sat_UplinkFrames_3 :
    ∃ (s : State) (t : Nat) (course : Nat) (f : BitVec 64) (x : Expect), course < 16 ∧ upGood f = false ∧
      s.bridge.expect.find? (fun y => y.course == course) = some x :=
  
    ⟨({ lit [] with bridge := { Bridge.reset with expect := [{ course := 3, kind := 3, string := 9, amp := 0, seq := 77, fall := 4 }] } }),
    9, 3, 5#64, { course := 3, kind := 3, string := 9, amp := 0, seq := 77, fall := 4 }, by decide +kernel⟩

theorem sat_UplinkFrames_4 :
    ∃ (s : State) (t : Nat) (course : Nat) (x : Expect), course < 16 ∧ s.bridge.expect.find? (fun y => y.course
      == course) = some x :=
  
    ⟨({ lit [] with bridge := { Bridge.reset with expect := [{ course := 3, kind := 3, string := 9, amp := 0, seq := 77, fall := 4 }] } }),
    9, 3, { course := 3, kind := 3, string := 9, amp := 0, seq := 77, fall := 4 }, by decide +kernel⟩

theorem sat_PanelTimersAndRails_0 :
    ∃ (s : State) (t : Nat) (half : Nat) (undelivered : List Nat), half < 2 :=
  
    ⟨({ at_ [] with panel := { Panel.reset with halfA := { Half.reset with rows := [(4, 5), (6, 7)], hashes := [(4, 9)] } } }),
    9, 0, [4], by decide +kernel⟩

theorem sat_PanelTimersAndRails_1 :
    ∃ (s : State) (t : Nat) (half : Nat), half < 2 ∧ s.railsUp = true ∧ s.bit 0x5801 0x05 (2 + half) = false :=
  ⟨at_ [(0x5801, 0, 4, 0xF0)], 9, 1, by decide +kernel⟩

theorem sat_PanelTimersAndRails_2 :
    ∃ (s : State) (t : Nat), s.v 0x5001 0x03 = 4 :=
  ⟨lit [(0x5001, 0, 3, 4)], 9, by decide +kernel⟩

theorem sat_PanelTimersAndRails_3 :
    ∃ (s : State) (t : Nat) (n : Nat), n < 4 ∧ s.panel.rail = 1 ∧ s.panel.railNo = n ∧ ((s.enter t).transitions
      (1 + n) 1).chatters (1 + n) = false :=
  ⟨({ at_ [(0x5801, 0, 4, 0x10)] with panel := { Panel.reset with rail := 1 } }), 9, 0, by decide +kernel⟩

theorem sat_PanelTimersAndRails_4 :
    ∃ (s : State) (t : Nat) (n : Nat), n < 4 ∧ ¬(s.panel.rail = 1 ∧ s.panel.railNo = n) ∧ ((s.enter
      t).transitions (1 + n) 1).chatters (1 + n) = false :=
  ⟨at_ [], 9, 1, by decide +kernel⟩

theorem sat_PanelTimersAndRails_5 :
    ∃ (s : State) (t : Nat) (n : Nat), n < 4 ∧ s.bit 0x5801 0x04 n = false ∧ ((s.enter t).transitions (1 + n)
      1).chatters (1 + n) = true :=
  ⟨({ at_ [] with clock := { Clock.reset with chatter := [2] } }), 9, 1, by decide +kernel⟩

theorem sat_PanelTimersAndRails_6 :
    ∃ (s : State) (t : Nat), s.panel.rail = 2 ∧ s.panel.railNo < 3 :=
  ⟨({ at_ [(0x5801, 0, 4, 0x11)] with panel := { Panel.reset with rail := 2 } }), 9, by decide +kernel⟩

theorem sat_PanelTimersAndRails_7 :
    ∃ (s : State) (t : Nat), s.panel.rail = 3 ∧ s.v 0x5801 0x04 / 16 = 15 :=
  ⟨({ at_ [(0x5801, 0, 4, 0xFF)] with panel := { Panel.reset with rail := 3, railNo := 3 } }), 9,
    by decide +kernel⟩

theorem sat_PanelTimersAndRails_8 :
    ∃ (s : State) (t : Nat), s.panel.rail = 1 :=
  ⟨({ at_ [(0x5801, 0, 4, 0x10)] with panel := { Panel.reset with rail := 1 } }), 9, by decide +kernel⟩

theorem sat_ClearParkAndPanelFaults_0 :
    ∃ (s : State) (t : Nat) (half : Nat), half < 2 ∧ s.liveLanes half = (s.half half).mapped ∧ (s.half
      half).gone = [] ∧ (s.half half).lack = false ∧ s.railsUp = true ∧ s.panel.faulted = false ∧ s.v 0x5800 0x0F
      = 1 ∧ (s.half half).park = 3 ∧ (s.half half).mapped ≠ [] ∧ s.displayRuns = false :=
  
    ⟨({ at_ [(0x5801, 0, 4, 0xFF), (0x5800, 0, 0x0F, 1), (0x7010, 2, 1, 2)] with panel := { Panel.reset with halfA := { Half.reset with mapped := [2] } } }),
    9, 0, by decide +kernel⟩

theorem sat_ClearParkAndPanelFaults_1 :
    ∃ (s : State) (t : Nat) (half : Nat), half < 2 ∧ (s.half half).clearing = true ∧ 0 < (s.half half).clearLeft :=
  
    ⟨({ at_ [(0x5801, 0, 4, 0xFF)] with panel := { Panel.reset with halfA := { Half.reset with park := 0, clearing := true, clearLeft := 3 } } }),
    9, 0, by decide +kernel⟩

theorem sat_ClearParkAndPanelFaults_2 :
    ∃ (s : State) (t : Nat) (half : Nat), half < 2 ∧ (s.half half).clearing = true ∧ (s.half half).clearLeft = 0 :=
  
    ⟨({ at_ [(0x5801, 0, 4, 0xFF)] with panel := { Panel.reset with halfA := { Half.reset with park := 0, clearing := true, clearLeft := 0 } } }),
    9, 0, by decide +kernel⟩

theorem sat_ClearParkAndPanelFaults_3 :
    ∃ (s : State) (t : Nat) (half : Nat), half < 2 ∧ (s.half half).park = 1 ∧ (s.half half).dstep < 4 :=
  
    ⟨({ at_ [(0x5801, 0, 4, 0xFF)] with panel := { Panel.reset with halfA := { Half.reset with park := 1, dstep := 1 } } }),
    9, 0, by decide +kernel⟩

theorem sat_ClearParkAndPanelFaults_4 :
    ∃ (s : State) (t : Nat) (half : Nat), half < 2 ∧ (s.half half).park = 2 ∧ (s.half half).dstep < 4 :=
  
    ⟨({ at_ [(0x5801, 0, 4, 0xFF)] with panel := { Panel.reset with halfA := { Half.reset with park := 2, dstep := 1 } } }),
    9, 0, by decide +kernel⟩

theorem sat_ClearParkAndPanelFaults_5 :
    ∃ (s : State) (t : Nat) (half : Nat), half < 2 ∧ (s.half half).park = 2 ∧ 8 ≤ (s.half half).dstep :=
  
    ⟨({ at_ [(0x5801, 0, 4, 0xFF)] with panel := { Panel.reset with halfA := { Half.reset with park := 2, dstep := 8 } } }),
    9, 0, by decide +kernel⟩

theorem sat_ClearParkAndPanelFaults_6 :
    ∃ (s : State) (t : Nat) (half : Nat) (b : Bytes), half < 2 ∧ blockOk b = true ∧ blockType b = 3 ∧
      (blockPayload b).head? = some 0x81#8 ∧ s.railsUp = true ∧ s.calm = true ∧ statusFlags (blockPayload b) % 16
      = 0 :=
  ⟨at_ [(0x5801, 0, 4, 0xFF)], 9, 1, mkBlock 3 0 ([0x81] ++ zeros 63), by decide +kernel⟩

theorem sat_ClearParkAndPanelFaults_7 :
    ∃ (s : State) (t : Nat) (half : Nat), half < 2 ∧ s.railsUp = true ∧ s.panel.faulted = false ∧ s.calm = true :=
  ⟨at_ [(0x5801, 0, 4, 0xFF)], 9, 1, by decide +kernel⟩

theorem sat_ClearParkAndPanelFaults_8 :
    ∃ (s : State) (t : Nat) (n : Nat), n < 4 ∧ s.bit 0x5801 0x04 n = true ∧ s.bit 0x5801 0x04 (4 + n) = true ∧
      s.panel.faulted = false ∧ s.calm = true :=
  ⟨at_ [(0x5801, 0, 4, 0xFF)], 9, 2, by decide +kernel⟩

theorem sat_ClearParkAndPanelFaults_9 :
    ∃ (s : State) (t : Nat) (n : Nat), n < 4 ∧ s.bit 0x5801 0x04 (4 + n) = false :=
  ⟨at_ [(0x5801, 0, 4, 0x0F)], 9, 2, by decide +kernel⟩

theorem sat_ParcelsAndFrames_0 :
    ∃ (s : State) (t : Nat) (port : Nat) (hdr : Bytes), port < 8 ∧ hdrCheckOk hdr = true ∧ (parcelHdr hdr).wall
      = s.v 0x3000 0x01 ∧ (parcelHdr hdr).rect = false ∧ (parcelHdr hdr).x0 = s.v 0x3000 0x02 ∧ (parcelHdr hdr).y0
      = s.v 0x3000 0x03 ∧ (parcelHdr hdr).version = 1 ∧ 1 ≤ (parcelHdr hdr).kind ∧ (parcelHdr hdr).kind ≤ 5 ∧ s.ve
      0x2030 0x373 0x02 ≠ 0 :=
  ⟨at_ [], 9, 3, (parcelOf 1 0 5 (zeros 9)).take 24, by decide +kernel⟩

theorem sat_ParcelsAndFrames_1 :
    ∃ (s : State) (t : Nat) (port : Nat) (hdr : Bytes), port < 8 ∧ (hdrCheckOk hdr = false ∨ (parcelHdr
      hdr).wall ≠ s.v 0x3000 0x01) :=
  ⟨at_ [], 9, 3, zeros 24, by decide +kernel⟩

theorem sat_ParcelsAndFrames_2 :
    ∃ (s : State) (t : Nat) (port : Nat) (o : Nat) (hdr : Bytes), port < 8 ∧ o < 8 ∧ hdrCheckOk hdr = true ∧
      (parcelHdr hdr).wall = s.v 0x3000 0x01 ∧ (s.relayDecision port (parcelHdr hdr)).outs = [o] ∧ o ∉
      s.ingress.busy ∧ s.portAsleep o = false ∧ s.ingress.inbound = [] :=
  ⟨at_ [(0x3010, 2, 1, 1), (0x3000, 0, 2, 1), (0x3300, 0, 1, 2)], 9, 3, 2, transitHdr, by decide +kernel⟩

theorem sat_ParcelsAndFrames_3 :
    ∃ (s : State) (t : Nat) (port : Nat) (x : Waiting), port < 8 ∧ s.ingress.waiting.filter (fun w => w.out ==
      port) = [x] :=
  
    ⟨({ at_ [] with ingress := { Ingress.reset with waiting := [{ out := 3, src := 1, kind := 1, charge := 64, hdr := zeros 24, blocks := [] }] } }),
    9, 3, { out := 3, src := 1, kind := 1, charge := 64, hdr := zeros 24, blocks := [] }, by decide +kernel⟩

theorem sat_ParcelsAndFrames_4 :
    ∃ (s : State) (t : Nat) (port : Nat) (x : Waiting) (y : Waiting), port < 8 ∧ s.ingress.waiting.filter (fun w
      => w.out == port) = [x, y] ∧ (x.kind = 1 ∨ x.kind = 5) ∧ 2 ≤ y.kind ∧ y.kind ≤ 4 :=
  
    ⟨({ at_ [] with ingress := { Ingress.reset with waiting := [{ out := 3, src := 1, kind := 1, charge := 64, hdr := zeros 24, blocks := [] }, { out := 3, src := 1, kind := 2, charge := 64, hdr := [1] ++ zeros 23, blocks := [] }] } }),
    9, 3, { out := 3, src := 1, kind := 1, charge := 64, hdr := zeros 24, blocks := [] },
    { out := 3, src := 1, kind := 2, charge := 64, hdr := [1] ++ zeros 23, blocks := [] }, by decide +kernel⟩

theorem sat_ParcelsAndFrames_5 :
    ∃ (s : State) (t : Nat) (port : Nat) (bs : Bytes), port < 8 ∧ s.keepsParcel port bs = true ∧ s.goodParcel 1
      bs = true ∧ s.assembles bs = true ∧ s.tileQueue bs ∉ s.nextStore.received ∧ (s.nextStore.counted = false ∨
      renumbered s.nextStore.created (field (parcelBody bs) 0 1) < s.nextStore.planes) ∧ renumbered
      s.nextStore.created (field (parcelBody bs) 0 1) < 64 :=
  ⟨withNext (at_ []) { Frame.empty with number := some 5 }, 9, 3, parcelOf 1 0 5 ([2, 1, 1, 0, 0x80, 0, 0, 0,
    7]), by decide +kernel⟩

theorem sat_ParcelsAndFrames_6 :
    ∃ (s : State) (t : Nat) (port : Nat) (bs : Bytes), port < 8 ∧ s.keepsParcel port bs = true ∧ s.goodParcel 2
      bs = true ∧ s.assembles bs = true ∧ s.nextStore.header = none :=
  ⟨withNext (at_ []) { Frame.empty with number := some 5 }, 9, 3, parcelOf 2 0 5 ([1] ++ zeros 19),
    by decide +kernel⟩

theorem sat_ParcelsAndFrames_7 :
    ∃ (s : State) (t : Nat) (port : Nat) (bs : Bytes), port < 8 ∧ s.keepsParcel port bs = true ∧ s.goodParcel 3
      bs = true ∧ s.assembles bs = true ∧ s.nextStore.close = none :=
  ⟨withNext (at_ []) { Frame.empty with number := some 5 }, 9, 3, parcelOf 3 0 5 (beBytes 4 12 ++ zeros 4),
    by decide +kernel⟩

theorem sat_ParcelsAndFrames_8 :
    ∃ (s : State) (t : Nat) (port : Nat) (bs : Bytes), port < 8 ∧ s.keepsParcel port bs = true ∧ s.goodParcel 1
      bs = true ∧ s.assembles bs = true ∧ s.tileQueue bs ∈ s.nextStore.received :=
  ⟨withNext (at_ [])
    { Frame.empty with number := some 5, received := [(at_ []).tileQueue (parcelOf 1 0 5 ([2, 1, 1, 0, 0x80, 0, 0, 0, 7]))] },
    9, 3, parcelOf 1 0 5 ([2, 1, 1, 0, 0x80, 0, 0, 0, 7]), by decide +kernel⟩

theorem sat_CuesAndLayers_0 :
    ∃ (s : State) (t : Nat) (port : Nat) (bs : Bytes), port < 8 ∧ s.keepsParcel port bs = true ∧ s.goodParcel 4
      bs = true ∧ (triggerOf (parcelBody bs)).count = 0 :=
  ⟨at_ [], 9, 3, parcelOf 4 0 5 (zeros 20), by decide +kernel⟩

theorem sat_CuesAndLayers_1 :
    ∃ (s : State) (t : Nat) (port : Nat) (bs : Bytes), port < 8 ∧ s.keepsParcel port bs = true ∧ s.goodParcel 4
      bs = true ∧ (triggerOf (parcelBody bs)).count ≠ 0 ∧ (s.ingress.replay.isSome = true ∨ s.seq.running = false
      ∨ s.wallReaches s.comingBoundary (triggerOf (parcelBody bs)).start = false) :=
  ⟨at_ [], 9, 3, parcelOf 4 0 5 (zeros 15 ++ [1] ++ zeros 4), by decide +kernel⟩

theorem sat_CuesAndLayers_2 :
    ∃ (s : State) (t : Nat) (port : Nat) (bs : Bytes), port < 8 ∧ s.keepsParcel port bs = true ∧ s.goodParcel 4
      bs = true ∧ (triggerOf (parcelBody bs)).count ≠ 0 ∧ s.ingress.replay = none ∧ s.seq.running = true ∧
      s.wallReaches s.comingBoundary (triggerOf (parcelBody bs)).start = true :=
  ⟨litWith Seq.reset [(0x8001, 0, 1, 4)], 9, 3, parcelOf 4 0 5 (zeros 15 ++ [1] ++ zeros 4),
    by decide +kernel⟩

theorem sat_CuesAndLayers_3 :
    ∃ (s : State) (t : Nat) (port : Nat) (bs : Bytes), port < 8 ∧ s.keepsParcel port bs = true ∧ s.goodParcel 5
      bs = true ∧ s.dramFault (s.ve 0x3020 (field (parcelBody bs) 0 1) 0x01 + field (parcelBody bs) 4 4)
      ((parcelBody bs).drop 8).length = 0 :=
  ⟨channelsUp [(0x3020, 2, 2, 65536)], 9, 3, parcelOf 5 0 5 ([2, 0, 0, 0] ++ zeros 4 ++ [1, 2, 3]),
    by decide +kernel⟩

theorem sat_CuesAndLayers_4 :
    ∃ (s : State) (t : Nat) (n : Nat), s.ingress.spillCopy = true ∧ s.nextStore.number = some n ∧
      ((s.ingress.spill.filter fun r => r.frame == n).all fun r => s.dramFault (s.v 0x3000 0x07 + r.off) r.len ==
      0) = true :=
  
    ⟨({ at_ [] with ingress := { Ingress.reset with spillCopy := true, store1 := { Frame.empty with number := some 4 } } }),
    9, 4, by decide +kernel⟩

theorem sat_CuesAndLayers_5 :
    ∃ (s : State) (t : Nat) (r : Replay), s.ingress.replay = some r ∧ r.copied = false ∧ r.spoiled = false ∧
      s.pageFault (tget [] r.cue s.ingress.pages) = none ∧ s.ve 0x3500 r.cue 0x01 = 2 :=
  
    ⟨({ channelsUp [(0x3500, 1, 1, 2)] with ingress := { Ingress.reset with cues := [(1, { Frame.empty with cue := some 1, close := some 0 })], replay := some { trig := { start := 0, first := 1, count := 1, loops := 0 }, step := 0, copied := false, ending := false, spoiled := false } } }),
    9,
    { trig := { start := 0, first := 1, count := 1, loops := 0 }, step := 0, copied := false, ending := false, spoiled := false },
    by decide +kernel⟩

theorem sat_DecodingAndSynthesis_0 :
    ∃ (s : State) (t : Nat), s.codec.window = true ∧ s.codec.band = none ∧ s.codec.nextBand < s.figures.bands ∧
      (s.bufOf s.codec.nextBand).band = none :=
  ⟨({ at_ [] with codec := { Codec.reset with window := true } }), 9, by decide +kernel⟩

theorem sat_DecodingAndSynthesis_1 :
    ∃ (s : State) (t : Nat) (lane : Nat) (b : Nat) (j : DecodeJob) (x : Tile), lane < 272 ∧ s.codec.jobs.find?
      (fun j => j.lane == lane) = some j ∧ s.codec.band = some b ∧ s.curStore.tile? j.q = some x ∧ (decodeStream
      (s.figures.rawSize b (s.figures.colOf j.q)) (s.figures.tileW (s.figures.colOf j.q)) x.stream).reason = 0 :=
  
    ⟨({ tiny [] with codec := { Codec.reset with window := true, band := some 0, jobs := [{ lane := 4, slot := 0, q := 512 }] }, ingress := { Ingress.reset with store0 := { Frame.empty with tiles := [{ q := 512, stream := [0x80, 1, 2, 3, 4], bad := false }] } } }),
    9, 4, 0, { lane := 4, slot := 0, q := 512 }, { q := 512, stream := [0x80, 1, 2, 3, 4], bad := false },
    by decide +kernel⟩

theorem sat_DecodingAndSynthesis_2 :
    ∃ (s : State) (t : Nat) (lane : Nat) (b : Nat) (j : DecodeJob) (ecc : List Ecc), lane < 272 ∧ eccOk ecc =
      true ∧ s.codec.jobs.find? (fun j => j.lane == lane) = some j ∧ s.codec.band = some b ∧ s.codec.list = [] :=
  
    ⟨({ tiny [] with codec := { Codec.reset with window := true, band := some 0, jobs := [{ lane := 4, slot := 0, q := 512 }] } }),
    9, 4, 0, { lane := 4, slot := 0, q := 512 }, [], by decide +kernel⟩

theorem sat_DecodingAndSynthesis_3 :
    ∃ (s : State) (t : Nat) (ecc : List Ecc), eccOk ecc = true ∧ s.ray.window = true ∧ s.ray.band = none ∧
      (s.bufOf s.ray.done).band = some s.ray.done ∧ (s.bufOf s.ray.done).ended = true ∧ 0 < s.enginesActive :=
  
    ⟨({ tiny [] with ray := { Ray.reset with window := true }, codec := { Codec.reset with window := true, buf0 := { band := some 0, ended := true, slots := [] } } }),
    9, [], by decide +kernel⟩

theorem sat_DecodingAndSynthesis_4 :
    ∃ (s : State) (t : Nat) (b : Nat) (ecc : List Ecc), eccOk ecc = true ∧ s.ray.band = some b :=
  ⟨({ tiny [] with ray := { Ray.reset with window := true, band := some 0 } }), 9, 0, [], by decide +kernel⟩

theorem sat_DecodingAndSynthesis_5 :
    ∃ (s : State) (t : Nat) (n : Nat) (failing : List Nat), failing.all (decide <| · < 272) = true ∧
      s.seq.running = false ∧ n < 272 ∧ s.ve 0x3810 n 0x01 = 3 :=
  ⟨at_ [(0x3810, 5, 1, 3)], 9, 5, [5, 7], by decide +kernel⟩

theorem sat_DecodingAndSynthesis_6 :
    ∃ (s : State) (t : Nat) (n : Nat) (failing : List Nat), failing.all (decide <| · < 136) = true ∧
      s.seq.running = false ∧ n < 136 ∧ s.ve 0x4810 n 0x01 = 3 :=
  ⟨at_ [(0x4810, 5, 1, 3)], 9, 5, [7], by decide +kernel⟩

theorem sat_Composition_0 :
    ∃ (s : State) (t : Nat), s.composable = true ∧ s.enabledLayers ≠ [] ∧ (s.unready s.nextStore = [] ∨ (s.enter
      t).waitLimitReached s.nextStore = true) :=
  
    ⟨({ tiny [(0x4000, 0, 1, 1), (0x4010, 3, 1, 1)] with ingress := { Ingress.reset with store1 := { Frame.empty with number := some 4, counted := true } } }),
    9, by decide +kernel⟩

theorem sat_Composition_1 :
    ∃ (s : State) (found : StageRead) (q : Nat) (k : Nat) (rest : List Nat) (l : List Nat), eccOk found.ecc =
      true ∧ s.comp.todo = q :: rest ∧ s.idleClanes = k :: l :=
  
    ⟨({ tiny [] with comp := { Comp.reset with todo := [512], open_ := [512] }, ingress := { Ingress.reset with store1 := { Frame.empty with number := some 4, counted := true, comp := 1 } } }),
    { t := 9, ecc := [] }, 512, 0, [], (List.range 16).drop 1, by decide +kernel⟩

theorem sat_Composition_2 :
    ∃ (s : State) (t : Nat) (k : Nat) (mismatch : Bool) (j : CompressJob), k < 16 ∧ s.codec.cjobs.find? (fun j
      => j.lane == k) = some j :=
  
    ⟨({ tiny [(0x3820, 2, 3, 1)] with codec := { Codec.reset with cjobs := [{ lane := 2, q := 512, source := [1, 2, 3, 4], stream := [0x80, 1, 2, 3, 4], bySize := false, dark := false, store := 1, frameId := (some 4, none) }] }, ingress := { Ingress.reset with store1 := { Frame.empty with number := some 4, counted := true, comp := 1 } } }),
    9, 2, false,
    { lane := 2, q := 512, source := [1, 2, 3, 4], stream := [0x80, 1, 2, 3, 4], bySize := false, dark := false, store := 1, frameId := (some 4, none) },
    by decide +kernel⟩

theorem sat_Composition_3 :
    ∃ (s : State) (t : Nat), s.comp.capturing = true ∧ s.nextStore.comp = 1 ∧ s.comp.open_.all (fun q =>
      queuePlane q != s.comp.capPlane) = true :=
  
    ⟨({ tiny [] with comp := { Comp.reset with capturing := true, capPlane := 1 }, ingress := { Ingress.reset with store1 := { Frame.empty with number := some 4, counted := true, comp := 1 } } }),
    9, by decide +kernel⟩

theorem sat_SupplyAndIslandFaults_0 :
    ∃ (s : State) (t : Nat), s.clock.resetN = true ∧ s.v 0x2001 0x01 = 2 ∧ s.calm = true :=
  
    ⟨({ litWith Seq.reset [(0x2001, 0, 1, 2)] with clock := { Clock.reset with resetN := true, locked := true } }),
    9, by decide +kernel⟩

theorem sat_SupplyAndIslandFaults_1 :
    ∃ (s : State) (t : Nat), s.clock.resetN = true ∧ s.v 0x2001 0x01 = 2 ∧ s.calm = true :=
  
    ⟨({ litWith Seq.reset [(0x2001, 0, 1, 2)] with clock := { Clock.reset with resetN := true, locked := true } }),
    9, by decide +kernel⟩

theorem sat_SupplyAndIslandFaults_2 :
    ∃ (s : State) (t : Nat), s.clock.resetN = true ∧ s.clock.pfail = false ∧ s.clock.pfailRun = false ∧ s.calm =
      true :=
  
    ⟨({ litWith Seq.reset [(0x2001, 0, 1, 2)] with clock := { Clock.reset with resetN := true, locked := true } }),
    9, by decide +kernel⟩

theorem sat_SupplyAndIslandFaults_3 :
    ∃ (s : State) (t : Nat) (rail : Nat), rail < 7 ∧ s.clock.resetN = true ∧ s.clock.pfailRun = false ∧ s.calm =
      true :=
  
    ⟨({ litWith Seq.reset [(0x2001, 0, 1, 2)] with clock := { Clock.reset with resetN := true, locked := true } }),
    9, 3, by decide +kernel⟩

theorem sat_SupplyAndIslandFaults_4 :
    ∃ (s : State) (t : Nat) (i : Nat), 0 < i ∧ i < 14 ∧ s.v 0x1890 0x01 ≠ 6 ∧ i ∉ s.clock.restarting ∧ s.calm =
      true :=
  ⟨lit [(0x2001, 0, 1, 2)], 9, 6, by decide +kernel⟩

theorem sat_SupplyAndIslandFaults_5 :
    ∃ (s : State) (t : Nat), s.v 0x1890 0x01 ≠ 6 ∧ s.calm = true :=
  ⟨lit [], 9, by decide +kernel⟩

theorem sat_SupplyAndIslandFaults_6 :
    ∃ (s : State) (t : Nat) (i : Nat), i < 14 ∧ i ∈ s.clock.restarting ∧ s.v 0x1890 0x01 ≠ 6 ∧ s.v 0x2001 0x01 =
      2 ∧ s.calm = true :=
  ⟨({ lit [(0x2001, 0, 1, 2)] with clock := { Clock.reset with restarting := [6] } }), 9, 6,
    by decide +kernel⟩

theorem sat_EncoderAndWheel_0 :
    ∃ (s : State) (t : Nat) (a : Bool) (b : Bool), a ≠ s.loop.a ∧ b ≠ s.loop.b :=
  ⟨at_ [], 9, true, true, by decide +kernel⟩

theorem sat_EncoderAndWheel_1 :
    ∃ (s : State) (t : Nat) (a : Bool) (b : Bool), (a ≠ s.loop.a ↔ b = s.loop.b) :=
  ⟨at_ [], 9, true, false, by decide +kernel⟩

theorem sat_EncoderAndWheel_2 :
    ∃ (s : State) (t : Nat), s.wheel ≠ 11 :=
  ⟨at_ [], 9, by decide +kernel⟩

theorem sat_EncoderAndWheel_3 :
    ∃ (s : State) (t : Nat) (f : BitVec 48), frame48Ok f = true ∧ drvType f = 1 ∧ drvFlags f % 8 = 0 :=
  ⟨({ at_ [] with loop := { Loop.reset with dgood := 15, dwait := [0] } }), 9, BitVec.ofNat 48 (256 *
    0x1000000000 + crc8 (beBytes 5 0x1000000000)), by decide +kernel⟩

theorem sat_EncoderAndWheel_4 :
    ∃ (s : State) (t : Nat) (q : Nat) (l : List Nat), s.loop.dwait = q :: l :=
  ⟨({ at_ [(0x6801, 0, 9, 2)] with loop := { Loop.reset with dlost := 3, dwait := [7, 8] } }), 9, 7, [8],
    by decide +kernel⟩

theorem sat_EncoderAndWheel_5 :
    ∃ (s : State) (t : Nat), 3 ≤ s.wheel ∧ s.wheel ≤ 8 ∧ s.loop.lost = false :=
  ⟨at_ [(0x6801, 0, 1, 5)], 9, by decide +kernel⟩

theorem sat_EncoderAndWheel_6 :
    ∃ (s : State) (t : Nat), (s.wheel = 0 ∨ s.wheel = 1) ∧ s.b 0x6800 0x01 = true ∧ s.wheelConfigured = true ∧
      s.v 0x6801 0x09 = 2 ∧ s.gateOpen? 0x372 = true :=
  ⟨at_ [(0x6801, 0, 1, 1), (0x6801, 0, 9, 2), (0x6800, 0, 1, 1), (0x6810, 48, 1, 2), (0x6810, 49, 1, 2)], 9,
    by decide +kernel⟩

theorem sat_EncoderAndWheel_7 :
    ∃ (s : State) (t : Nat), (s.wheel = 0 ∨ s.wheel = 1) ∧ s.b 0x6800 0x01 = true ∧ s.wheelConfigured = false :=
  ⟨at_ [(0x6801, 0, 1, 1), (0x6801, 0, 9, 2), (0x6800, 0, 1, 1), (0x6810, 48, 1, 2), (0x6810, 49, 1, 0)], 9,
    by decide +kernel⟩

theorem sat_EncoderAndWheel_8 :
    ∃ (s : State) (t : Nat), s.wheel = 2 :=
  ⟨at_ [(0x6801, 0, 1, 2)], 9, by decide +kernel⟩

theorem sat_EncoderAndWheel_9 :
    ∃ (s : State) (t : Nat), s.wheel = 9 :=
  ⟨at_ [(0x6801, 0, 1, 9)], 9, by decide +kernel⟩

theorem sat_BlocksAccepted_0 :
    ∃ (s : State) (t : Nat) (lane : Nat) (b : Bytes), s.nextBlock lane 1 b = true :=
  ⟨({ portUp [] with lanes := { Lanes.reset with groups := [(128, { Group.reset with rxMap := 15 })] } }), 9,
    128, mkBlock 1 0 (zeros 64), by decide +kernel⟩

theorem sat_BlocksAccepted_1 :
    ∃ (s : State) (t : Nat) (lane : Nat) (b : Bytes), s.nextBlock lane 2 b = true :=
  ⟨({ portUp [] with lanes := { Lanes.reset with groups := [(128, { Group.reset with rxMap := 15 })] } }), 9,
    128, mkBlock 2 0 (zeros 64), by decide +kernel⟩

theorem sat_BlocksAccepted_2 :
    ∃ (s : State) (t : Nat) (lane : Nat) (b : Bytes), s.nextBlock lane 4 b = true :=
  
    ⟨({ ({ portUp [] with lanes := { Lanes.reset with groups := [(128, { Group.reset with rxMap := 15 })] } }) with ingress := { Ingress.reset with inbound := [{ port := 0, hdr := zeros 24, keep := true, refused := false, outs := [], left := 2, first := zeros 64 }] } }),
    9, 128, mkBlock 4 0 (zeros 64), by decide +kernel⟩

theorem sat_BlocksAccepted_3 :
    ∃ (s : State) (t : Nat) (lane : Nat) (b : Bytes), 128 ≤ lane ∧ lane < 192 ∧ blockOk b = false ∧ blockType b
      < 12 ∧ (s.inTurn lane = true ∨ s.laneServes lane = false) ∧ (s.lane lane).retrain = false :=
  ⟨({ portUp [] with lanes := { Lanes.reset with groups := [(128, { Group.reset with rxMap := 15 })] } }), 9,
    128, [1] ++ zeros 69, by decide +kernel⟩

theorem sat_BlocksAccepted_4 :
    ∃ (s : State) (t : Nat) (lane : Nat) (b : Bytes), s.inTurn lane = true ∧ 12 ≤ blockType b ∧ (s.lane
      lane).retrain = false :=
  ⟨({ portUp [] with lanes := { Lanes.reset with groups := [(128, { Group.reset with rxMap := 15 })] } }), 9,
    128, mkBlock 13 0 (zeros 64), by decide +kernel⟩

theorem sat_BlocksAccepted_5 :
    ∃ (s : State) (t : Nat) (lane : Nat) (b : Bytes), lane < 128 ∧ 12 ≤ blockType b ∧ s.laneServes lane = true ∧
      (s.lane lane).rxAsleep = false ∧ (s.lane lane).retrain = false :=
  ⟨at_ [(0x7010, 5, 1, 2)], 9, 5, mkBlock 13 0 (zeros 64), by decide +kernel⟩

theorem sat_AcknowledgementsAndLaneBlocks_0 :
    ∃ (s : State) (t : Nat) (lane : Nat) (q : Nat) (b : Bytes), s.inTurn lane = true ∧ blockOk b = true ∧
      blockType b = 5 ∧ ackEntries b = [{ lane := 0xFF, nak := false, rank := 0, seq := q }] ∧ (s.group
      lane).queue = [] :=
  
    ⟨({ portUp [] with lanes := { Lanes.reset with groups := [(128, { Group.reset with rxMap := 15, txSeq := 5, held := [oneHeld 3, oneHeld 4] })] } }),
    9, 128, 3, mkBlock 5 0 (ackPayload 0xFF false 0 3), by decide +kernel⟩

theorem sat_AcknowledgementsAndLaneBlocks_1 :
    ∃ (s : State) (t : Nat) (lane : Nat) (k : Nat) (q : Nat) (b : Bytes), lane < 128 ∧ s.laneServes lane = true
      ∧ (s.lane lane).rxAsleep = false ∧ blockOk b = true ∧ blockType b = 5 ∧ k < 64 ∧ k / 16 = lane % 64 ∧
      ackEntries b = [{ lane := k, nak := false, rank := 0, seq := q }] ∧ (s.group (lane / 64 * 64 + k)).queue =
      [] :=
  
    ⟨({ at_ [(0x7010, 65, 1, 2)] with lanes := { Lanes.reset with groups := [(84, { Group.reset with txSeq := 5, held := [oneHeld 3, oneHeld 4] })] } }),
    9, 65, 20, 3, mkBlock 5 0 (ackPayload 20 false 0 3), by decide +kernel⟩

theorem sat_AcknowledgementsAndLaneBlocks_2 :
    ∃ (s : State) (t : Nat) (lane : Nat) (b : Held) (l : List Held), lane < 192 ∧ (s.group lane).held = b :: l ∧
      (s.group lane).replay ≠ some b.seq :=
  
    ⟨({ portUp [] with lanes := { Lanes.reset with groups := [(128, { Group.reset with rxMap := 15, txSeq := 5, held := [oneHeld 3, oneHeld 4] })] } }),
    9, 128, oneHeld 3, [oneHeld 4], by decide +kernel⟩

theorem sat_AcknowledgementsAndLaneBlocks_3 :
    ∃ (s : State) (t : Nat) (port : Nat) (l : Nat), port < 8 ∧ s.ve 0x7003 port 0x05 = 2 ∧ s.ve 0x7003 port 0x09
      = 0 ∧ (s.group (meshLane port)).nak = false ∧ s.slotLane? (meshLane port) = some l :=
  ⟨({ portUp [] with lanes := { Lanes.reset with groups := [(128, { Group.reset with rxMap := 15 })] } }), 9,
    0, 128, by decide +kernel⟩

theorem sat_AcknowledgementsAndLaneBlocks_4 :
    ∃ (s : State) (t : Nat) (port : Nat) (l : Nat), port < 8 ∧ s.ve 0x7003 port 0x05 = 2 ∧ s.ve 0x7003 port 0x09
      = 0 ∧ (s.group (meshLane port)).nak = true ∧ s.slotLane? (meshLane port) = some l :=
  
    ⟨({ portUp [] with lanes := { Lanes.reset with groups := [(128, { Group.reset with rxMap := 15, nak := true, nakRank := 2, slot := 1 })] } }),
    9, 0, 129, by decide +kernel⟩

theorem sat_AcknowledgementsAndLaneBlocks_5 :
    ∃ (s : State) (t : Nat) (lane : Nat) (b : Bytes), lane < 192 ∧ blockOk b = true ∧ field (blockPayload b) 0 1
      = 0x5A ∧ s.laneState lane = 2 :=
  ⟨at_ [(0x7010, 5, 1, 2)], 9, 5, mkBlock 8 0 ([0x5A, 9] ++ zeros 62), by decide +kernel⟩

theorem sat_AcknowledgementsAndLaneBlocks_6 :
    ∃ (s : State) (t : Nat) (lane : Nat) (b : Bytes), lane < 128 ∧ blockOk b = true ∧ field (blockPayload b) 0 1
      = 0x5A ∧ s.laneState lane = 1 ∧ s.ve 0x7010 lane 0x03 = 4 ∧ (s.lane lane).waking = false :=
  
    ⟨({ at_ [(0x7010, 5, 1, 1), (0x7010, 5, 3, 4)] with lanes := { Lanes.reset with recs := [(5, { LaneRec.reset with sinceMarker := some 63 })] } }),
    9, 5, mkBlock 8 0 ([0x5A, 9] ++ zeros 62), by decide +kernel⟩

theorem sat_AcknowledgementsAndLaneBlocks_7 :
    ∃ (s : State) (t : Nat) (lane : Nat) (b : Bytes), lane < 192 ∧ s.laneState lane = 1 ∧ s.ve 0x7010 lane 0x03
      = 4 ∧ field (blockPayload b) 0 1 = 0xA5 :=
  ⟨at_ [(0x7010, 5, 1, 1), (0x7010, 5, 3, 4)], 9, 5, mkBlock 8 0 ([0xA5, 9] ++ zeros 62), by decide +kernel⟩

theorem sat_AcknowledgementsAndLaneBlocks_8 :
    ∃ (s : State) (t : Nat) (lane : Nat) (fill : Nat) (b : Bytes), lane < 192 ∧ blockOk b = true :=
  ⟨at_ [(0x7010, 5, 1, 2)], 9, 5, 4, mkBlock 7 0 (zeros 64), by decide +kernel⟩

theorem sat_AcknowledgementsAndLaneBlocks_9 :
    ∃ (s : State) (t : Nat) (lane : Nat) (b : Bytes), lane < 192 ∧ s.laneState lane = 1 ∧ (s.ve 0x7010 lane 0x03
      = 2 ∨ s.ve 0x7010 lane 0x03 = 3) ∧ (s.lane lane).inverse = false ∧ (blockPayload b).take 48 =
      trainingPattern :=
  
    ⟨({ at_ [(0x7010, 5, 1, 1), (0x7010, 5, 3, 2)] with lanes := { Lanes.reset with recs := [(5, { LaneRec.reset with syncs := 15 })] } }),
    9, 5, mkBlock 9 0 (trainingPayload 2 1), by decide +kernel⟩

theorem sat_AcknowledgementsAndLaneBlocks_10 :
    ∃ (s : State) (t : Nat) (lane : Nat) (b : Bytes), lane < 192 ∧ s.laneState lane = 1 ∧ s.ve 0x7010 lane 0x03
      = 2 ∧ (s.lane lane).inverse = true ∧ (s.lane lane).syncs = 15 ∧ (s.ve 0x7010 lane 0x06).testBit 0 = false ∧
      (blockPayload b).take 48 = trainingInverse :=
  
    ⟨({ at_ [(0x7010, 5, 1, 1), (0x7010, 5, 3, 2)] with lanes := { Lanes.reset with recs := [(5, { LaneRec.reset with syncs := 15, inverse := true })] } }),
    9, 5, mkBlock 9 0 (trainingInverse ++ zeros 16), by decide +kernel⟩

theorem sat_AcknowledgementsAndLaneBlocks_11 :
    ∃ (s : State) (t : Nat) (lane : Nat) (b : Bytes), lane < 192 ∧ blockOk b = true ∧ s.laneServes lane = true :=
  ⟨at_ [(0x7010, 5, 1, 2)], 9, 5, mkBlock 10 0 (zeros 64), by decide +kernel⟩

theorem sat_AcknowledgementsAndLaneBlocks_12 :
    ∃ (s : State) (t : Nat) (lane : Nat) (b : Bytes), 128 ≤ lane ∧ lane < 192 ∧ blockOk b = true ∧ s.ve 0x7003
      (portOfLane lane) 0x05 = 2 ∧ s.reversed (portOfLane lane) = false ∧ s.ve 0x7003 (portOfLane lane) 0x03 ≤
      (s.txLanes (portOfLane lane)).length ∧ s.ve 0x7003 (portOfLane lane) 0x03 ≤ ((bitLanes (portOfLane lane)
      (field (blockPayload b) 0 1)).filter s.receives).length :=
  ⟨({ portUp [] with lanes := { Lanes.reset with groups := [(128, { Group.reset with rxMap := 15 })] } }), 9,
    128, mkBlock 11 0 ([0x0F] ++ zeros 63), by decide +kernel⟩

theorem sat_BringUp_0 :
    ∃ (s : State) (t : Nat) (lane : Nat), lane < 192 ∧ s.laneState lane = 1 ∧ s.ve 0x7010 lane 0x03 = 0 :=
  ⟨at_ [(0x7010, 5, 1, 1)], 9, 5, by decide +kernel⟩

theorem sat_BringUp_1 :
    ∃ (s : State) (t : Nat) (lane : Nat), lane < 192 ∧ s.laneState lane = 4 ∧ (s.lane lane).rxAsleep = true ∧
      s.receiverSleeps lane = false :=
  
    ⟨({ at_ [(0x7010, 5, 1, 4)] with lanes := { Lanes.reset with recs := [(5, { LaneRec.reset with rxAsleep := true })] } }),
    9, 5, by decide +kernel⟩

theorem sat_BringUp_2 :
    ∃ (s : State) (t : Nat) (lane : Nat) (preset : Nat) (margin : Nat), lane < 192 ∧ s.laneState lane = 1 ∧ s.ve
      0x7010 lane 0x03 = 1 :=
  ⟨at_ [(0x7010, 5, 1, 1), (0x7010, 5, 3, 1)], 9, 5, 3, 20, by decide +kernel⟩

theorem sat_BringUp_3 :
    ∃ (s : State) (t : Nat) (lane : Nat), lane < 192 ∧ s.laneState lane = 1 ∧ (s.lane lane).retrain = false ∧
      (lane < 128 ∨ s.ve 0x7003 (portOfLane lane) 0x05 ≠ 2) :=
  ⟨at_ [(0x7010, 5, 1, 1), (0x7010, 5, 3, 1)], 9, 5, by decide +kernel⟩

theorem sat_BringUp_4 :
    ∃ (s : State) (t : Nat) (lane : Nat), lane < 192 ∧ s.laneState lane = 5 ∧ s.v 0x7000 0x02 ≠ 0 ∧ s.gateOpen?
      (gateLane + lane) = true :=
  ⟨at_ [(0x7010, 5, 1, 5)], 9, 5, by decide +kernel⟩

theorem sat_BringUp_5 :
    ∃ (s : State) (t : Nat) (lane : Nat), lane < 192 ∧ s.laneState lane = 1 ∧ (s.lane lane).retrain = false :=
  ⟨at_ [(0x7010, 5, 1, 1), (0x7010, 5, 3, 4)], 9, 5, by decide +kernel⟩

theorem sat_BringUp_6 :
    ∃ (s : State) (t : Nat) (lane : Nat), lane < 128 ∧ s.laneState lane = 2 ∧ s.b 0x7000 0x01 = true ∧
      s.gateOpen? (gateLane + lane) = true :=
  ⟨at_ [(0x7010, 5, 1, 2), (0x7000, 0, 1, 1)], 9, 5, by decide +kernel⟩

theorem sat_BringUp_7 :
    ∃ (s : State) (t : Nat) (port : Nat), port < 8 ∧ s.ve 0x7003 port 0x04 ≠ 0 ∧ s.ve 0x7003 port 0x05 = 2 ∧
      s.ve 0x7003 port 0x09 = 0 ∧ (s.group (meshLane port)).held = [] ∧ (s.group (meshLane port)).nak = false ∧
      (s.group (meshLane port)).queue = [] ∧ port ∉ s.ingress.busy :=
  ⟨portUp [(0x7003, 0, 4, 100)], 9, 0, by decide +kernel⟩

theorem sat_RetainedStore_0 :
    ∃ (s : State) (t : Nat) (c : BankCopy) (l : List BankCopy), s.seq.running = true ∧ s.memory.copies = c :: l
      ∧ c.ended = false :=
  
    ⟨({ lit [] with memory := { Memory.reset with copies := [{ src := 4, dst := 250, logical := 4, ended := false }] } }),
    9, { src := 4, dst := 250, logical := 4, ended := false }, [], by decide +kernel⟩

theorem sat_RetainedStore_1 :
    ∃ (s : State) (t : Nat) (l : List JEntry) (rest : List JEntry), fitJournal 0 s.memory.journal = (l, rest) ∧
      l ≠ [] ∧ s.memory.committing = none ∧ s.storeWaits = false ∧ s.memory.activeUsed + journalBlocks l ≤ 128 :=
  ⟨({ at_ [] with memory := { Memory.reset with journal := [oneEntry] } }), 9, [oneEntry], [],
    by decide +kernel⟩

theorem sat_RetainedStore_2 :
    ∃ (s : State) (t : Nat) (l : List JEntry) (rest : List JEntry), fitJournal 0 s.memory.journal = (l, rest) ∧
      l ≠ [] ∧ s.memory.committing = none ∧ s.storeWaits = false ∧ 128 < s.memory.activeUsed + journalBlocks l ∧
      s.memory.emptying = false :=
  ⟨({ at_ [] with memory := { Memory.reset with journal := [oneEntry], activeUsed := 128 } }), 9, [oneEntry],
    [], by decide +kernel⟩

theorem sat_RetainedStore_3 :
    ∃ (s : State) (t : Nat) (l : List JEntry) (rest : List JEntry), fitJournal 0 s.memory.journal = (l, rest) ∧
      l ≠ [] ∧ s.memory.committing = none ∧ 128 < s.memory.activeUsed + journalBlocks l ∧ s.memory.emptying = true :=
  
    ⟨({ at_ [] with memory := { Memory.reset with journal := [oneEntry], activeUsed := 128, emptying := true } }),
    9, [oneEntry], [], by decide +kernel⟩

theorem sat_RetainedStore_4 :
    ∃ (s : State) (t : Nat) (l : List JEntry), s.memory.committing = some l ∧ s.memory.commitWaits = false ∧
      s.storeWaits = false ∧ journalBytes s.memory.journal < 16384 :=
  ⟨({ at_ [] with memory := { Memory.reset with committing := some [oneEntry], activeUsed := 1 } }), 9,
    [oneEntry], by decide +kernel⟩

theorem sat_RetainedStore_5 :
    ∃ (s : State) (t : Nat), s.memory.emptying = true ∧ s.memory.commitWaits = false ∧ s.storeWaits = false :=
  ⟨({ at_ [] with memory := { Memory.reset with emptying := true } }), 9, by decide +kernel⟩

theorem sat_DramRequests_0 :
    ∃ (s : State) (t : Nat) (port : Nat) (a : Nat) (n : Nat) (data : Option Bytes), port < 7 ∧ 0 < n ∧ (∀ bs ∈
      data, bs.length = n) ∧ s.dramFault a n = 0 :=
  ⟨channelsUp [], 9, 2, 4096, 64, none, by decide +kernel⟩

theorem sat_DramRequests_1 :
    ∃ (s : State) (t : Nat) (port : Nat) (a : Nat) (n : Nat) (data : Option Bytes), port < 7 ∧ 0 < n ∧ (∀ bs ∈
      data, bs.length = n) ∧ s.dramFault a n = 0 ∧ s.chanActive (s.placeOf a).1 = true ∧ (s.memory.requests.all
      fun q => q.channel != (s.placeOf a).1) = true ∧ s.rfmBlocked (s.placeOf a).1 (bankNumber (s.decodeLocal
      (s.placeOf a).2)) = false :=
  ⟨channelsUp [], 9, 2, 4096, 1, some [5], by decide +kernel⟩

theorem sat_DramRequests_2 :
    ∃ (s : State) (t : Nat) (port : Nat) (a : Nat) (n : Nat) (data : Option Bytes), (port = 0 ∨ port = 3) ∧ 0 <
      n ∧ (∀ bs ∈ data, bs.length = n) ∧ s.dramFault a n = 3 :=
  ⟨channelsUp [], 9, 3, 2 ^ 60, 64, none, by decide +kernel⟩

theorem sat_DramRequests_3 :
    ∃ (s : State) (t : Nat) (id : Nat) (r : DramReq), r ∈ s.memory.requests ∧ r.id = id :=
  ⟨({ channelsUp [] with memory := { Memory.reset with requests := [oneRequest none] } }), 9, 7, oneRequest
    none, by decide +kernel⟩

theorem sat_DramRequests_4 :
    ∃ (s : State) (t : Nat) (id : Nat) (r : DramReq), s.issued? id = some r :=
  ⟨({ channelsUp [] with memory := { Memory.reset with requests := [oneRequest none] } }), 9, 7, oneRequest
    none, by decide +kernel⟩

theorem sat_DramRequests_5 :
    ∃ (s : State) (t : Nat) (id : Nat) (r : DramReq), s.issued? id = some r ∧ r.write = none ∧ r.replays < 3 ∧
      s.ve 0x7820 r.channel 0x04 = 1 :=
  ⟨({ channelsUp [(0x7820, 0, 4, 1)] with memory := { Memory.reset with requests := [oneRequest none] } }), 9,
    7, oneRequest none, by decide +kernel⟩

theorem sat_DramRequests_6 :
    ∃ (s : State) (t : Nat) (id : Nat) (r : DramReq), s.issued? id = some r ∧ r.write.isSome = true ∧ r.replays
      < 3 :=
  ⟨({ channelsUp [] with memory := { Memory.reset with requests := [oneRequest (some [5])] } }), 9, 7,
    oneRequest (some [5]), by decide +kernel⟩

theorem sat_DramRequests_7 :
    ∃ (s : State) (t : Nat) (id : Nat) (r : DramReq), s.issued? id = some r ∧ s.calm = true ∧ r.write = none ∧ 3
      ≤ r.replays ∧ s.ve 0x7820 r.channel 0x04 = 1 :=
  
    ⟨({ channelsUp [(0x7820, 0, 4, 1)] with memory := { Memory.reset with requests := [{ oneRequest none with replays := 3 }] } }),
    9, 7, { oneRequest none with replays := 3 }, by decide +kernel⟩

theorem sat_DramRequests_8 :
    ∃ (s : State) (t : Nat) (c : Nat), c < 4 ∧ s.chanState c = 5 ∧ (s.chan c).selfRefresh = true :=
  
    ⟨({ channelsUp [(0x7820, 1, 1, 5)] with memory := { Memory.reset with chans := [(1, { ChanRec.reset with selfRefresh := true })] } }),
    9, 1, by decide +kernel⟩

theorem sat_DramRequests_9 :
    ∃ (s : State) (t : Nat) (c : Nat), c < 4 ∧ s.chanState c = 5 ∧ (s.chan c).selfRefresh = true ∧ s.calm = true :=
  
    ⟨({ channelsUp [(0x7820, 1, 1, 5)] with memory := { Memory.reset with chans := [(1, { ChanRec.reset with selfRefresh := true })] } }),
    9, 1, by decide +kernel⟩

theorem sat_Channels_0 :
    ∃ (s : State) (t : Nat) (c : Nat), c < 4 ∧ s.chanActive c = true :=
  ⟨channelsUp [], 9, 1, by decide +kernel⟩

theorem sat_Channels_1 :
    ∃ (s : State) (t : Nat) (c : Nat) (count : Nat), c < 4 ∧ s.chanActive c = true :=
  ⟨channelsUp [], 9, 1, 12, by decide +kernel⟩

theorem sat_Channels_2 :
    ∃ (s : State) (t : Nat) (c : Nat), c < 4 ∧ s.chanActive c = true :=
  ⟨channelsUp [], 9, 1, by decide +kernel⟩

theorem sat_Channels_3 :
    ∃ (s : State) (t : Nat) (c : Nat) (x : DdrTraining), c < 4 ∧ s.chanState c = 1 ∧ ((s.chan c).trained &&
      x.fastOk || x.fullOk) = true ∧ (s.chan c).returnDue = false ∧ (s.chan c).offline = false :=
  ⟨channelsUp [(0x7820, 1, 1, 1)], 9, 1,
    { fastOk := true, fullOk := true, micros := 5, readCrc := true, rfm := false, rfmInitial := 0, rfmMaximum := 0 },
    by decide +kernel⟩

theorem sat_Channels_4 :
    ∃ (s : State) (t : Nat) (c : Nat) (x : DdrTraining), c < 4 ∧ s.chanState c = 1 ∧ ((s.chan c).trained &&
      x.fastOk || x.fullOk) = true ∧ (s.chan c).returnDue = true :=
  
    ⟨({ channelsUp [(0x7820, 1, 1, 1)] with memory := { Memory.reset with chans := [(1, { ChanRec.reset with returnDue := true })], redirects := [(1, (0, 4))] } }),
    9, 1,
    { fastOk := true, fullOk := true, micros := 5, readCrc := true, rfm := false, rfmInitial := 0, rfmMaximum := 0 },
    by decide +kernel⟩

theorem sat_Channels_5 :
    ∃ (s : State) (t : Nat) (c : Nat) (x : DdrTraining), c < 4 ∧ s.chanState c = 1 ∧ ((s.chan c).trained &&
      x.fastOk || x.fullOk) = true ∧ (s.chan c).returnDue = false ∧ (s.chan c).offline = true :=
  
    ⟨({ channelsUp [(0x7820, 1, 1, 1)] with memory := { Memory.reset with chans := [(1, { ChanRec.reset with offline := true })] } }),
    9, 1,
    { fastOk := true, fullOk := true, micros := 5, readCrc := true, rfm := false, rfmInitial := 0, rfmMaximum := 0 },
    by decide +kernel⟩

theorem sat_Channels_6 :
    ∃ (s : State) (t : Nat) (c : Nat) (x : DdrTraining), c < 4 ∧ s.chanState c = 1 ∧ ((s.chan c).trained &&
      x.fastOk || x.fullOk) = false :=
  ⟨channelsUp [(0x7820, 1, 1, 1)], 9, 1,
    { fastOk := false, fullOk := false, micros := 5, readCrc := false, rfm := false, rfmInitial := 0, rfmMaximum := 0 },
    by decide +kernel⟩

theorem sat_Channels_7 :
    ∃ (s : State) (t : Nat) (c : Nat), c < 4 ∧ s.memory.migrating = some c ∧ s.memory.returning = false ∧
      s.chunkWritten = false :=
  ⟨({ channelsUp [(0x7820, 1, 1, 3)] with memory := { Memory.reset with migrating := some 1 } }), 9, 1,
    by decide +kernel⟩

theorem sat_Channels_8 :
    ∃ (s : State) (t : Nat) (c : Nat), c < 4 ∧ s.memory.migrating = some c ∧ s.memory.returning = true ∧
      s.chunkWritten = false ∧ (tget (0, 0) c s.memory.redirects).2 ≤ s.memory.nextChunk + 1 :=
  
    ⟨({ channelsUp [(0x7820, 1, 1, 6)] with memory := { Memory.reset with migrating := some 1, returning := true } }),
    9, 1, by decide +kernel⟩

theorem sat_Channels_9 :
    ∃ (s : State) (t : Nat), s.chunkWritten = true :=
  
    ⟨({ channelsUp [(0x7820, 1, 1, 3)] with memory := { Memory.reset with migrating := some 1, requests := [{ oneRequest (some [5]) with also := some (0, 0) }] } }),
    9, by decide +kernel⟩

theorem sat_ResetAndStartup_1 :
    ∃ (s : State) (t : Nat), s.clock.pfail = false ∧ s.clock.chatter = [] :=
  ⟨at_ [], 9, by decide +kernel⟩

theorem sat_ResetAndStartup_2 :
    ∃ (s : State) (t : Nat) (d : RestoreDamage), s.clock.resetN = true ∧ s.stepDone 3 = true ∧ s.stepDone 4 =
      false :=
  ⟨({ at_ [(0x1890, 0, 2, 0xF)] with clock := { Clock.reset with resetN := true } }), 9,
    { records := [], half0 := none, half1 := none, tuning := [] }, by decide +kernel⟩

theorem sat_ResetAndStartup_3 :
    ∃ (s : State) (t : Nat), s.stepDone 4 = true ∧ s.stepDone 5 = false ∧ s.v 0x9101 0x03 < 2 ∧ s.slotValid (s.v
      0x9101 0x03) = true :=
  ⟨({ at_ [(0x1890, 0, 2, 0x1F)] with clock := { Clock.reset with resetN := true } }), 9, by decide +kernel⟩

theorem sat_ResetAndStartup_4 :
    ∃ (s : State) (t : Nat) (failed : List Nat), failed.all (decide <| · < 256) = true ∧ s.v 0x2001 0x01 = 2 ∧
      s.stepDone 5 = true ∧ s.v 0x1890 0x01 = 0 ∧ s.shutdownPending = false ∧ s.clock.islandsStopped = false ∧
      s.clock.islandsDue = true :=
  
    ⟨({ at_ [(0x1890, 0, 2, 0x3F), (0x2001, 0, 1, 2)] with clock := { Clock.reset with resetN := true, opening := [3, 4], islandsDue := true } }),
    9, [7], by decide +kernel⟩

theorem sat_ResetAndStartup_5 :
    ∃ (s : State) (t : Nat), s.b 0x1890 0x05 = true ∧ s.v 0x1890 0x01 = 4 ∧ s.clock.pfailReleased = true ∧
      s.supplyGood = true ∧ s.shutdownPending = false ∧ s.stepDone 5 = true :=
  
    ⟨({ at_ [(0x1890, 0, 2, 0x3F), (0x1890, 0, 1, 4), (0x1890, 0, 5, 1)] with clock := { Clock.reset with resetN := true, pfailReleased := true, pfailRun := true } }),
    9, by decide +kernel⟩

theorem sat_ResetAndStartup_6 :
    ∃ (s : State) (t : Nat), s.clock.pfail = true :=
  ⟨({ at_ [] with clock := { Clock.reset with resetN := true, pfail := true } }), 9, by decide +kernel⟩

theorem sat_PllAndClockTree_0 :
    ∃ (s : State) (t : Nat), s.clock.resetN = true ∧ s.clock.hclk = true ∧ (s.v 0x2001 0x01 = 0 ∨ s.v 0x2001
      0x01 = 1 ∨ s.v 0x2001 0x01 = 5) :=
  ⟨({ at_ [] with clock := { Clock.reset with resetN := true } }), 9, by decide +kernel⟩

theorem sat_PllAndClockTree_1 :
    ∃ (s : State) (t : Nat), s.clock.resetN = true ∧ s.clock.locked = false :=
  ⟨({ at_ [(0x2001, 0, 1, 1)] with clock := { Clock.reset with resetN := true } }), 9, by decide +kernel⟩

theorem sat_PllAndClockTree_2 :
    ∃ (s : State) (t : Nat), s.v 0x2001 0x01 = 3 :=
  ⟨({ at_ [(0x2001, 0, 1, 3)] with clock := { Clock.reset with resetN := true, hold := true } }), 9,
    by decide +kernel⟩

theorem sat_PllAndClockTree_3 :
    ∃ (s : State) (t : Nat), s.v 0x2001 0x01 = 4 :=
  ⟨({ at_ [(0x2001, 0, 1, 4)] with clock := { Clock.reset with resetN := true } }), 9, by decide +kernel⟩

theorem sat_PllAndClockTree_4 :
    ∃ (s : State) (t : Nat), s.v 0x2001 0x01 = 3 :=
  ⟨({ at_ [(0x2001, 0, 1, 3)] with clock := { Clock.reset with resetN := true, hold := true } }), 9,
    by decide +kernel⟩

theorem sat_PllAndClockTree_5 :
    ∃ (s : State) (t : Nat) (i : Nat), i < 14 ∧ s.v 0x2001 0x01 = 2 ∧ i ∈ s.clock.ramping ∧ s.ve 0x2010 i 0x01 +
      1 < s.ratioTarget i :=
  
    ⟨({ at_ [(0x2001, 0, 1, 2), (0x2010, 1, 1, 8), (0x2010, 1, 2, 12)] with clock := { Clock.reset with resetN := true, ramping := [1] } }),
    9, 1, by decide +kernel⟩

theorem sat_PllAndClockTree_6 :
    ∃ (s : State) (t : Nat) (i : Nat), i < 14 ∧ s.v 0x2001 0x01 = 2 ∧ i ∈ s.clock.ramping ∧ s.ratioTarget i + 1
      < s.ve 0x2010 i 0x01 :=
  
    ⟨({ at_ [(0x2001, 0, 1, 2), (0x2010, 1, 1, 16), (0x2010, 1, 2, 9)] with clock := { Clock.reset with resetN := true, ramping := [1] } }),
    9, 1, by decide +kernel⟩

theorem sat_PllAndClockTree_7 :
    ∃ (s : State) (t : Nat) (i : Nat), i < 14 ∧ s.v 0x2001 0x01 = 2 ∧ i ∈ s.clock.ramping ∧ s.clock.gateReq =
      none ∧ s.clock.openingNow ≠ some i ∧ s.ve 0x2010 i 0x01 + 1 = s.ratioTarget i :=
  
    ⟨({ at_ [(0x2001, 0, 1, 2), (0x2010, 1, 1, 8), (0x2010, 1, 2, 9)] with clock := { Clock.reset with resetN := true, ramping := [1] } }),
    9, 1, by decide +kernel⟩

theorem sat_PllAndClockTree_8 :
    ∃ (s : State) (t : Nat) (i : Nat) (x : Nat), i < 14 ∧ s.otherInput i = some x :=
  ⟨at_ [(0x2010, 3, 4, 0)], 9, 3, 1, by decide +kernel⟩

theorem sat_PllAndClockTree_9 :
    ∃ (s : State) (t : Nat) (i : Nat), i < 14 ∧ s.otherInput i = none :=
  ⟨at_ [(0x2010, 3, 4, 2)], 9, 3, by decide +kernel⟩

theorem sat_PllAndClockTree_10 :
    ∃ (s : State) (t : Nat) (r : GateReq), s.clock.gateReq = some r ∧ r.closing = true :=
  
    ⟨({ at_ [(0x2001, 0, 1, 2)] with clock := { Clock.reset with resetN := true, gateReq := some { unit := true, element := 5, closing := true } } }),
    9, { unit := true, element := 5, closing := true }, by decide +kernel⟩

theorem sat_PllAndClockTree_11 :
    ∃ (s : State) (t : Nat) (r : GateReq), s.clock.gateReq = some r ∧ r.closing = true :=
  
    ⟨({ at_ [(0x2001, 0, 1, 2)] with clock := { Clock.reset with resetN := true, gateReq := some { unit := true, element := 5, closing := true } } }),
    9, { unit := true, element := 5, closing := true }, by decide +kernel⟩

theorem sat_PllAndClockTree_12 :
    ∃ (s : State) (t : Nat) (rail : Nat), rail < 7 ∧ s.clock.resetN = true :=
  ⟨({ at_ [] with clock := { Clock.reset with resetN := true } }), 9, 3, by decide +kernel⟩

theorem sat_PllAndClockTree_13 :
    ∃ (s : State) (t : Nat) (rail : Nat), rail < 7 :=
  ⟨({ at_ [] with clock := { Clock.reset with resetN := true, badRails := [3] } }), 9, 3, by decide +kernel⟩

theorem sat_SessionsAndEvents_0 :
    ∃ (s : State) (t : Nat) (path : Nat) (m : Nat) (chord : Nat) (seq : Nat) (peer : Bytes) (body : Bytes),
      s.yalokOpen path = true ∧ path < 3 ∧ s.handingOver = false ∧ s.reached m path = true ∧ chord < 2 ^ 16 ∧ seq
      < 2 ^ 32 ∧ body.length = 16 ∧ (((s.masterRec m).opens.filter fun u => decide (max s.now t < u +
      secCycles)).length < 10) :=
  ⟨serving [], 9, 0, 1, 0xFFFF, 1, [], zeros 16, by decide +kernel⟩

theorem sat_SessionsAndEvents_1 :
    ∃ (s : State) (t : Nat) (path : Nat) (m : Nat) (seq : Nat) (peer : Bytes) (y : Session), s.canAsk path m seq
      y = true :=
  ⟨withSession [], 9, 0, 1, 5, [], oneSession, by decide +kernel⟩

theorem sat_SessionsAndEvents_2 :
    ∃ (s : State) (t : Nat) (m : Nat), 1 ≤ m ∧ m ≤ 14 :=
  ⟨withSession [], 9, 1, by decide +kernel⟩

theorem sat_SessionsAndEvents_3 :
    ∃ (s : State) (t : Nat) (path : Nat), path < 3 :=
  ⟨at_ [], 9, 2, by decide +kernel⟩

theorem sat_SessionsAndEvents_4 :
    ∃ (s : State) (t : Nat) (path : Nat) (m : Nat) (seq : Nat) (peer : Bytes) (y : Session), s.canAsk path m seq
      y = true :=
  ⟨withSession [], 9, 0, 1, 5, [], oneSession, by decide +kernel⟩

theorem sat_SessionsAndEvents_5 :
    ∃ (s : State) (t : Nat) (path : Nat) (m : Nat) (seq : Nat) (k : Nat) (peer : Bytes) (y : Session), s.canAsk
      path m seq y = true ∧ k < 2 ^ 32 :=
  ⟨withSession [], 9, 0, 1, 5, 3, [], oneSession, by decide +kernel⟩

theorem sat_SessionsAndEvents_6 :
    ∃ (s : State) (t : Nat) (m : Nat) (y : Session) (c : Bool), 1 ≤ m ∧ m ≤ 14 ∧ s.session? m = some y ∧
      s.sentTo m = [] ∧ tget [] m s.mgmt.queues ≠ [] ∧ (tget [] m s.mgmt.queues).length ≤ 16 :=
  
    ⟨({ withSession [] with mgmt := { (withSession []).mgmt with queues := [(1, [{ number := 4, object := 0x3002, element := 0, member := 1, cause := 0, frame := 2, time := 5 }])] } }),
    9, 1, oneSession, true, by decide +kernel⟩

theorem sat_ReadsAndWrites_0 :
    ∃ (s : State) (t : Nat) (path : Nat) (m : Nat) (seq : Nat) (peer : Bytes) (body : Bytes) (b : Bytes) (y :
      Session) (i : Item), s.canAsk path m seq y = true ∧ body.length ≤ 1408 ∧ parseItems false body.length body =
      some [i] ∧ (s.asks t path peer m seq y).readValue m y.id 0xFFFF i = .ok b ∧ b.length ≤ 1388 :=
  ⟨withSession [], 9, 0, 1, 5, [], itemBytes 0x3002 1 4 [], [0, 0, 0, 0], oneSession, itemOf 0x3002 1 4 [],
    by decide +kernel⟩

theorem sat_ReadsAndWrites_1 :
    ∃ (s : State) (t : Nat) (path : Nat) (m : Nat) (seq : Nat) (code : Nat) (peer : Bytes) (body : Bytes) (y :
      Session) (i : Item), s.canAsk path m seq y = true ∧ body.length ≤ 1408 ∧ parseItems false body.length body =
      some [i] ∧ (s.asks t path peer m seq y).readValue m y.id 0xFFFF i = .error code ∧ code ≠ 13 :=
  ⟨withSession [], 9, 0, 1, 5, 1, [], itemBytes 0x3FFF 1 4 [], oneSession, itemOf 0x3FFF 1 4 [],
    by decide +kernel⟩

theorem sat_ReadsAndWrites_2 :
    ∃ (s : State) (t : Nat) (path : Nat) (m : Nat) (seq : Nat) (peer : Bytes) (body : Bytes) (y : Session) (i :
      Item), s.canAsk path m seq y = true ∧ body.length ≤ 1408 ∧ parseItems true body.length body = some [i] ∧
      (s.asks t path peer m seq y).writeCode { master := m, path := some path, chord := false } i.staged i.len
      i.flags = 0 :=
  ⟨withSession [], 9, 0, 1, 5, [], itemBytes 0x3300 1 1 [3], oneSession, itemOf 0x3300 1 1 [3],
    by decide +kernel⟩

theorem sat_ReadsAndWrites_3 :
    ∃ (s : State) (t : Nat) (h : Handoff) (l : List Handoff), s.mgmt.handoff = h :: l :=
  ⟨({ withSession [] with mgmt := { (withSession []).mgmt with handoff := [oneHandoff] } }), 9, oneHandoff,
    [], by decide +kernel⟩

theorem sat_ReadsAndWrites_4 :
    ∃ (s : State) (t : Nat) (v : Nat) (h : Handoff) (l : List Handoff), s.mgmt.handoff = h :: l ∧ h.item =
      stagedValue h.item.object h.item.element h.item.member v ∧ s.atOnce h.item.object h.item.element
      h.item.member = true ∧ s.calm = true ∧ plainMember (s.enter t) h.item.object h.item.element h.item.member v
      = true :=
  ⟨({ withSession [] with mgmt := { (withSession []).mgmt with handoff := [oneHandoff] } }), 9, 3, oneHandoff,
    [], by decide +kernel⟩

theorem sat_Chords_0 :
    ∃ (s : State) (t : Nat) (path : Nat) (m : Nat) (seq : Nat) (n : Nat) (peer : Bytes) (y : Session), s.canAsk
      path m seq y = true ∧ (List.range 32).find? (fun k => (s.chord k).state == 0) = some n :=
  ⟨withSession [], 9, 0, 1, 5, 0, [], oneSession, by decide +kernel⟩

theorem sat_Chords_1 :
    ∃ (s : State) (t : Nat) (path : Nat) (m : Nat) (seq : Nat) (n : Nat) (handle : Nat) (mode : Nat) (peer :
      Bytes) (y : Session), s.canAsk path m seq y = true ∧ handle < 2 ^ 16 ∧ mode < 3 ∧ (s.asks t path peer m seq
      y).openChord handle m y.id = (n, 0) ∧ ((s.asks t path peer m seq y).commitCode
      { master := m, path := some path, chord := true } (s.chord n) mode 0).1 = 0 :=
  ⟨withChord 1 0 0, 9, 0, 1, 5, 2, 66, 1, [], oneSession, by decide +kernel⟩

theorem sat_Chords_2 :
    ∃ (s : State) (t : Nat) (path : Nat) (m : Nat) (seq : Nat) (n : Nat) (handle : Nat) (raw : Nat) (peer :
      Bytes) (y : Session), s.canAsk path m seq y = true ∧ handle < 2 ^ 16 ∧ raw < 2 ^ 96 ∧ (s.asks t path peer m
      seq y).openChord handle m y.id = (n, 0) ∧ ((s.asks t path peer m seq y).commitCode
      { master := m, path := some path, chord := true } (s.chord n) 3 raw).1 = 0 :=
  ⟨({ withChord 1 0 0 with dict := (at_ [(0x8001, 0, 1, 1), (0x2001, 0, 1, 2)]).dict }), 9, 0, 1, 5, 2, 66, 3
    * 2 ^ 48, [], oneSession, by decide +kernel⟩

theorem sat_Chords_3 :
    ∃ (s : State) (t : Nat) (path : Nat) (m : Nat) (seq : Nat) (n : Nat) (handle : Nat) (peer : Bytes) (y :
      Session), s.canAsk path m seq y = true ∧ handle < 2 ^ 16 ∧ s.findChord handle m y.id = (n, 0) ∧ (s.chord
      n).state ≠ 2 :=
  ⟨withChord 1 0 0, 9, 0, 1, 5, 2, 66, [], oneSession, by decide +kernel⟩

theorem sat_Chords_4 :
    ∃ (s : State) (t : Nat) (n : Nat), n < 32 ∧ (s.chord n).state = 2 ∧ (s.chord n).at_ ≤ max s.now t :=
  ⟨withChord 2 0 9, 9, 2, by decide +kernel⟩

theorem sat_Chords_5 :
    ∃ (s : State) (t : Nat) (n : Nat), n < 32 ∧ (s.chord n).state = 3 ∧ (s.enter t).wallReaches (max s.now t)
      (s.chord n).at_ = true :=
  ⟨({ withChord 3 3 0 with dict := (at_ [(0x8001, 0, 1, 1), (0x2001, 0, 1, 2)]).dict }), 9, 2,
    by decide +kernel⟩

theorem sat_Chords_6 :
    ∃ (s : State) (t : Nat) (n : Nat), n < 32 ∧ ((s.chord n).state = 1 ∨ (s.chord n).state = 4) :=
  ⟨withChord 4 0 0, 9, 2, by decide +kernel⟩

theorem sat_Firmware_0 :
    ∃ (s : State) (t : Nat) (slot : Nat), slot < 2 ∧ s.mgmt.verifying = some slot ∧ s.fwState slot ≠ 4 :=
  ⟨({ at_ [] with mgmt := { Mgmt.reset with verifying := some 1 } }), 9, 1, by decide +kernel⟩

theorem sat_Firmware_1 :
    ∃ (s : State) (t : Nat) (slot : Nat) (start : Nat), s.mgmt.handover = some (slot, start) ∧ s.mgmt.heldMsgs =
      [] :=
  ⟨({ at_ [] with mgmt := { Mgmt.reset with handover := some (1, 4) } }), 9, 1, 4, by decide +kernel⟩

theorem sat_Firmware_2 :
    ∃ (s : State) (t : Nat), s.handingOver = true ∧ s.mgmt.heldMsgs = [] :=
  ⟨({ at_ [] with mgmt := { Mgmt.reset with handover := some (1, 4) } }), 9, by decide +kernel⟩

theorem sat_FramesAndAddresses_0 :
    ∃ (s : State) (t : Nat) (p : Nat) (f : Bytes), p < 2 ∧ s.islandRuns 2 = true ∧ s.ethUp p = true ∧ 60 ≤
      f.length ∧ f.length ≤ 1518 :=
  ⟨netUp [], 9, 0, beBytes 6 0x112233445566 ++ zeros 60, by decide +kernel⟩

theorem sat_FramesAndAddresses_1 :
    ∃ (s : State) (t : Nat) (p : Nat) (f : Bytes), p < 2 ∧ s.islandRuns 2 = true ∧ s.ethUp p = true ∧ f.length ≤
      1518 :=
  ⟨netUp [], 9, 0, zeros 60, by decide +kernel⟩

theorem sat_FramesAndAddresses_2 :
    ∃ (s : State) (t : Nat) (p : Nat) (x : Relayed), p < 2 ∧ s.net.queue = [x] ∧ x.out = p ∧ x.own = none ∧
      ptpAt x.frame = none :=
  
    ⟨({ netUp [] with net := { Net.reset with queue := [{ out := 1, ptp := false, stamp := 5, frame := zeros 60, own := none, slot := none }] } }),
    9, 1, { out := 1, ptp := false, stamp := 5, frame := zeros 60, own := none, slot := none },
    by decide +kernel⟩

theorem sat_FramesAndAddresses_3 :
    ∃ (s : State) (t : Nat) (p : Nat) (x : Relayed) (o : Output), p < 2 ∧ s.net.queue = [x] ∧ x.out = p ∧ x.own
      = some o :=
  
    ⟨({ netUp [] with net := { Net.reset with queue := [{ out := 1, ptp := false, stamp := 0, frame := [], own := some (.ethFrame 1 (zeros 60)), slot := none }] } }),
    9, 1,
    { out := 1, ptp := false, stamp := 0, frame := [], own := some (.ethFrame 1 (zeros 60)), slot := none },
    .ethFrame 1 (zeros 60), by decide +kernel⟩

theorem sat_FramesAndAddresses_4 :
    ∃ (s : State) (t : Nat) (p : Nat) (o : Nat) (x : Relayed), p < 2 ∧ s.net.queue = [x] ∧ x.out = p ∧ x.own =
      none ∧ ptpAt x.frame = some o ∧ s.b 0x8000 0x0D = true ∧ ptpGood (ptpOf x.frame) = true ∧ ptpType (ptpOf
      x.frame) ≤ 1 :=
  
    ⟨({ netUp [(0x8000, 0, 0x0D, 1)] with net := { Net.reset with queue := [{ out := 1, ptp := true, stamp := 5, frame := ptpFrame 0 2 [], own := none, slot := none }] } }),
    9, 1, 14, { out := 1, ptp := true, stamp := 5, frame := ptpFrame 0 2 [], own := none, slot := none },
    by decide +kernel⟩

theorem sat_FramesAndAddresses_5 :
    ∃ (s : State) (t : Nat) (p : Nat) (up : Bool), p < 2 ∧ (up = true → s.islandRuns 2 = true ∧ s.ve 0x8020 p
      0x01 ≠ 2) :=
  ⟨netUp [], 9, 1, true, by decide +kernel⟩

theorem sat_FramesAndAddresses_7 :
    ∃ (s : State) (t : Nat) (p : Nat) (f : Bytes), p < 2 ∧ s.icmpFor f 135 = true ∧ s.ethUp p = true ∧ field f
      (frameBody f + 48) 16 ∈ s.ownAddrs ∧ ip6Src f ≠ 0 :=
  ⟨withAddress, 9, 0, ip6Frame 58 ([135, 0, 0, 0, 0, 0, 0, 0] ++ beBytes 16 5), by decide, icmpFor_of
    (by decide +kernel) (by decide +kernel) (by decide +kernel), by decide +kernel, by decide +kernel,
    by decide +kernel⟩

theorem sat_FramesAndAddresses_8 :
    ∃ (s : State) (t : Nat) (p : Nat) (f : Bytes), p < 2 ∧ s.icmpFor f 128 = true ∧ s.ethUp p = true ∧ ip6Dst f
      ∈ s.ownAddrs :=
  ⟨withAddress, 9, 0, ip6Frame 58 ([128, 0, 0, 0, 1, 2, 3, 4]), by decide, icmpFor_of (by decide +kernel)
    (by decide +kernel) (by decide +kernel), by decide +kernel, by decide +kernel⟩

theorem sat_DomainSlotsAndWallTimers_0 :
    ∃ (s : State) (t : Nat) (p : Nat) (i : Nat) (f : Bytes) (m : Bytes), p < 2 ∧ s.ptpFor f 0 = some (i, m) ∧
      s.fromMaster i p m = true ∧ s.classOk i = true ∧ ptpTwoStep m = true :=
  
    ⟨({ withSlot { Slot.reset with selected := some (7, 0) } with dict := (netUp [(0x8000, 0, 4, 255)]).dict }),
    9, 0, 0, ptpFrame 0 2 [], ptpBytes 0 2 [], by decide, ptpFor_of (by decide +kernel) (by decide +kernel)
    (by decide +kernel) (by decide +kernel) (by decide +kernel), by decide +kernel⟩

theorem sat_DomainSlotsAndWallTimers_1 :
    ∃ (s : State) (t : Nat) (p : Nat) (i : Nat) (f : Bytes) (m : Bytes) (t2 : Int) (c : Int), p < 2 ∧ s.ptpFor f
      8 = some (i, m) ∧ s.fromMaster i p m = true ∧ (s.slot i).sync = some (ptpSeq m, t2, c) ∧ (s.slot i).started
      = false :=
  ⟨withSlot { Slot.reset with selected := some (7, 0), sync := some (3, 100, 0) }, 9, 0, 0, ptpFrame 8 0 [],
    ptpBytes 8 0 [], 100, 0, by decide, ptpFor_of (by decide +kernel) (by decide +kernel) (by decide +kernel)
    (by decide +kernel) (by decide +kernel), by decide +kernel⟩

theorem sat_DomainSlotsAndWallTimers_2 :
    ∃ (s : State) (t : Nat) (p : Nat) (i : Nat) (f : Bytes) (m : Bytes) (t3 : Int) (t1 : Int) (t2 : Int) (c :
      Int), p < 2 ∧ s.ptpFor f 9 = some (i, m) ∧ s.fromMaster i p m = true ∧ (s.slot i).dreq = some (ptpSeq m, t3)
      ∧ (s.slot i).lastT = some (t1, t2, c) ∧ field m 44 10 = s.ownPort ∧ (s.slot i).started = true :=
  ⟨withSlot
    { Slot.reset with selected := some (7, 0), started := true, dreq := some (3, 50), lastT := some (10, 20, 0) },
    9, 0, 0, ptpFrame 9 0 (beBytes 10 State.reset.ownPort), ptpBytes 9 0 (beBytes 10 State.reset.ownPort), 50,
    10, 20, 0, by decide, ptpFor_of (by decide +kernel) (by decide +kernel) (ptpOf_frame (by decide +kernel) rfl
    (by decide)) (by decide +kernel) (by decide +kernel), by decide +kernel, by decide +kernel,
    by decide +kernel, ((field_mid _ _ 44 10 _ (by decide)).trans (Nat.mod_eq_of_lt (ownPort_small
    State.reset))).trans (ownPort_any _ _), by decide +kernel⟩

theorem sat_DomainSlotsAndWallTimers_3 :
    ∃ (s : State) (t : Nat) (p : Nat) (i : Nat) (f : Bytes) (m : Bytes), p < 2 ∧ s.ptpFor f 11 = some (i, m) :=
  ⟨withSlot Slot.reset, 9, 0, 0, ptpFrame 11 0 [], ptpBytes 11 0 [], by decide, ptpFor_of (by decide +kernel)
    (by decide +kernel) (by decide +kernel) (by decide +kernel) (by decide +kernel)⟩

theorem sat_DomainSlotsAndWallTimers_4 :
    ∃ (s : State) (t : Nat) (i : Nat) (id : Nat) (p : Nat), i < 2 ∧ (s.slot i).selected = some (id, p) :=
  ⟨withSlot { Slot.reset with selected := some (7, 0) }, 9, 0, 7, 0, by decide +kernel⟩

theorem sat_DomainSlotsAndWallTimers_5 :
    ∃ (s : State) (t : Nat) (i : Nat) (id : Nat) (p : Nat), i < 2 ∧ (s.slot i).selected = some (id, p) ∧
      s.islandRuns 2 = true ∧ (s.slotState i = 2 ∨ s.slotState i = 3) ∧ s.ethUp p = true :=
  ⟨({ withSlot { Slot.reset with selected := some (7, 0) } with dict := (netUp [(0x8010, 0, 1, 2)]).dict }),
    9, 0, 7, 0, by decide +kernel⟩

theorem sat_DomainSlotsAndWallTimers_6 :
    ∃ (s : State) (t : Nat), s.v 0x8001 0x01 = 3 ∧ s.tracks 0 = true ∧ s.v 0x8000 0x07 ≠ 0 ∧
      s.net.slot0.trackSince + s.v 0x8000 0x07 * secCycles ≤ max s.now t ∧ ((s.enter t).wall - (s.slot 0).time
      (max s.now t)).natAbs ≤ 65536 * s.v 0x8000 0x08 :=
  ⟨({ at_ [(0x8001, 0, 1, 3), (0x8010, 0, 1, 3), (0x8000, 0, 7, 1)] with net := Net.reset }), 2000000000000,
    by decide +kernel⟩

theorem sat_DomainSlotsAndWallTimers_7 :
    ∃ (s : State) (t : Nat), s.v 0x8001 0x01 = 0 ∧ s.v 0x8000 0x09 ≠ 0 ∧ s.tracks 0 = false ∧ s.tracks 1 = false
      ∧ s.clock.t0 + s.v 0x8000 0x09 * secCycles ≤ max s.now t :=
  ⟨at_ [(0x8000, 0, 9, 5)], 2000000000000, by decide +kernel⟩

theorem sat_DomainSlotsAndWallTimers_8 :
    ∃ (s : State) (t : Nat), s.v 0x8001 0x01 = 4 ∧ s.v 0x8000 0x13 ≠ 0 ∧ s.net.holdSince + s.v 0x8000 0x13 *
      secCycles ≤ max s.now t :=
  ⟨at_ [(0x8001, 0, 1, 4), (0x8000, 0, 0x13, 1)], 2000000000000, by decide +kernel⟩

theorem sat_DomainSlotsAndWallTimers_9 :
    ∃ (s : State) (t : Nat), (s.v 0x8001 0x01 = 2 ∨ s.v 0x8001 0x01 = 3) ∧ s.residualAt (max s.now t) = 0 :=
  ⟨at_ [(0x8001, 0, 1, 2)], 9, by decide +kernel⟩

theorem sat_Health_0 :
    ∃ (s : State) (t : Nat) (d : Nat), d < 4 :=
  ⟨at_ [], 9, 2, by decide +kernel⟩

theorem sat_Health_1 :
    ∃ (s : State) (t : Nat), riseBelow s.health.rise 100 = true :=
  ⟨at_ [(0x2801, 0, 5, 4)], 9, by decide +kernel⟩

theorem sat_Health_2 :
    ∃ (s : State) (t : Nat), s.displayRuns = true ∧ s.v 0x5001 0x05 = 255 :=
  ⟨lit [], 9, by decide +kernel⟩

theorem sat_Health_3 :
    ∃ (s : State) (t : Nat), s.bit 0x2801 0x05 2 = false ∧ (s.displayRuns = false ∨ s.v 0x5001 0x05 ≠ 255) :=
  ⟨at_ [], 9, by decide +kernel⟩

theorem sat_Health_4 :
    ∃ (s : State) (t : Nat), s.clock.resetN = true :=
  ⟨({ at_ [] with clock := { Clock.reset with resetN := true } }), 9, by decide +kernel⟩

theorem sat_Health_5 :
    ∃ (s : State) (t : Nat) (u : Nat), u < 16 :=
  ⟨at_ [(0x2840, 3, 0x0C, 1)], 9, 3, by decide +kernel⟩

theorem sat_Health_6 :
    ∃ (s : State) (t : Nat) (powers : List Nat) (diodes : List Int), s.calm = true :=
  ⟨at_ [], 9, [5, 6], [100], by decide +kernel⟩

theorem sat_Health_7 :
    ∃ (s : State) (t : Nat) (powers : List Nat) (diodes : List Int), s.calm = true ∧ s.health.hot = false ∧
      s.clock.pfailRun = false ∧ s.displayRuns = true :=
  ⟨lit [], 9, [5, 6], [100], by decide +kernel⟩

theorem sat_CalibrationAndTap_0 :
    ∃ (s : State) (t : Nat), s.health.cal = none :=
  ⟨at_ [], 9, by decide +kernel⟩

theorem sat_CalibrationAndTap_1 :
    ∃ (s : State) (t : Nat) (w : BitVec 32), probeValid w = true :=
  ⟨at_ [], 9, BitVec.ofNat 32 (256 * 77 + crc8 (beBytes 3 77)), by decide +kernel⟩

theorem sat_CalibrationAndTap_2 :
    ∃ (s : State) (t : Nat) (w : BitVec 32), probeValid w = false :=
  ⟨({ at_ [(0x2820, 0, 4, 1)] with health := { Health.reset with probeBad := 15 } }), 9, 0xFFFFFFFF#32,
    by decide +kernel⟩

theorem sat_CalibrationAndTap_3 :
    ∃ (s : State) (t : Nat) (k : Cal), s.health.cal = some k ∧ k.phase = 2 ∧ k.window = true ∧ k.pluck < 16 :=
  ⟨({ lit [] with health := { Health.reset with cal := some (oneCal 2 false true) } }), 9, oneCal 2 false
    true, by decide +kernel⟩

theorem sat_CalibrationAndTap_4 :
    ∃ (s : State) (t : Nat) (k : Cal), s.health.cal = some k ∧ k.phase ≠ 0 ∧ k.tile = false :=
  ⟨({ lit [] with health := { Health.reset with cal := some (oneCal 2 false true) } }), 9, oneCal 2 false
    true, by decide +kernel⟩

theorem sat_CalibrationAndTap_5 :
    ∃ (s : State) (t : Nat) (k : Cal), s.health.cal = some k ∧ k.phase ≠ 0 ∧ k.tile = true ∧ max s.now t < k.n0
      + 22 * secCycles :=
  ⟨({ lit [] with health := { Health.reset with cal := some (oneCal 2 true true) } }), 9, oneCal 2 true true,
    by decide +kernel⟩

end Sys2Proof.Slice0
end

section
namespace Sys2Proof.Machine

/-! ### Frames without a bound -/

/-- Everything may change: what is left of `Keeps` is that the queue stands, that sound tables stay sound,
and that no free value is taken back. -/
def Foot.any : Foot :=
  ⟨[.now, .out, .blobs, .ingress, .codec, .comp, .ray, .seq, .panel, .bridge, .loop, .lanes, .memory, .clock,
    .mgmt, .net, .health, .logs, .tapIr], [(0, 0xFFFFFF)]⟩

namespace Keeps

variable {F G : Foot} {s t u : State}

/-- A frame with its bounds forgotten. -/
theorem any (h : Keeps F s t) : Keeps Foot.any s t where
  pending := h.pending
  sound := h.sound
  freeIdx := h.freeIdx
  keys := fun k hk => absurd hk (Foot.all_keys _ k)
  now := .inl rfl
  out := .inl rfl
  blobs := .inl rfl
  ingress := .inl rfl
  codec := .inl rfl
  comp := .inl rfl
  ray := .inl rfl
  seq := .inl rfl
  panel := .inl rfl
  bridge := .inl rfl
  loop := .inl rfl
  lanes := .inl rfl
  memory := .inl rfl
  clock := .inl rfl
  mgmt := .inl rfl
  net := .inl rfl
  health := .inl rfl
  logs := .inl rfl
  tapIr := .inl rfl

/-- Operations one after the other, their bounds forgotten. -/
theorem andThen (h : Keeps F s t) (g : Keeps G t u) : Keeps Foot.any s u :=
  h.any.trans g.any (Foot.sub_refl _)

/-- An operation that is done under a condition. -/
theorem when {c : Prop} [Decidable c] (g : Keeps G s t) : Keeps Foot.any s (if c then t else s) :=
  .ite (fun _ => g.any) fun _ => .refl _ _

/-- An operation that is done unless a condition holds. -/
theorem whenNot {c : Prop} [Decidable c] (g : Keeps G s t) : Keeps Foot.any s (if c then s else t) :=
  .ite (fun _ => .refl _ _) fun _ => g.any

end Keeps

/-! ### What every command answers -/

/-- The result is a next state that a frame leads to, if the condition holds, and the fault `noSuchUnit` if
it does not. -/
def Answers (c : Bool) (s : State) (r : Result) : Prop := ∃ u, Keeps Foot.any s u ∧ r = guarded c u

namespace Answers

variable {c : Bool} {F : Foot} {s u : State} {t : Nat}

theorem guarded (h : Keeps F (s.enter t) u) : Answers c s (guarded c u) :=
  ⟨u, (State.enter_keeps s t).andThen h, rfl⟩

theorem next (h : Keeps F (s.enter t) u) : Answers true s (.next u) := guarded h

theorem writes (t master o e m v : Nat) (s : State) : Answers true s (writes t master o e m v s) :=
  next (State.memberWrite_keeps ..)

theorem writesBytes (t o e m offset : Nat) (data : Bytes) (s : State) :
    Answers true s (writesBytes t o e m offset data s) :=
  next (State.memberWrite_keeps ..)

theorem arrives (t path : Nat) (peer msg : Bytes) (is : Msg → Bool) (s : State) :
    Answers (decide (path < 3)) s (arrives t path peer msg is s) :=
  guarded (State.receiveAs_keeps ..)

/-- The parcel commands: the whole parcel is judged and then filed. -/
theorem parcel {port kind : Nat} {bs : Bytes} {ok : State → Bool} {act : State → State}
    (g : ∀ x, Keeps Foot.any x (act x)) :
    Answers c s (Machine.guarded c
      ((s.enter t).wholeParcel port kind bs fun x => x.judged bs (ok x) act)) :=
  guarded (State.wholeParcel_keepsF (.refl _ _) (by decide +kernel) fun x =>
    State.judged_keepsF (.refl _ x) (by decide +kernel) g)

end Answers


section
variable (s : State) (t : Nat)

/-- REPLAY_TIMEOUT: the held block is sent again, or its replay fails. -/
theorem Answers.replayTimeout (lane : Nat) : Answers (laneOk lane) s (execReplayTimeout t lane s) := by
  refine .guarded (F := Foot.any) (t := t) ?_
  split
  · exact .refl _ _
  · refine .ite (fun _ => ?_) fun _ => ?_
    · exact (State.inc_keeps1 ..).andThen (State.replayFails_keeps ..)
    · exact ((State.inc_keeps1 ..).andThen (State.putGroup_keeps ..)).andThen (State.resend_keeps ..)

/-- BRING_UP_RETRY. -/
theorem Answers.bringUpRetry (lane : Nat) : Answers (laneOk lane) s (execBringUpRetry t lane s) :=
  .guarded (.ite (fun _ => (Keeps.when (State.pute_keeps1 ..)).andThen (State.beginBringUp_keeps ..))
    fun _ => .refl Foot.any _)

/-- CDR_LOCK. -/
theorem Answers.cdrLock (lane preset margin : Nat) :
    Answers (laneOk lane) s (execCdrLock t lane preset margin s) :=
  .guarded (Keeps.when (((State.putLane_keeps ..).andThen (State.pute_keeps1 ..)).andThen
    (State.reachStage_keeps ..)))

/-- COURSE_POLL_TIMER: up to two frames go down. -/
theorem Answers.coursePollTimer (course : Nat) :
    Answers (courseOk course) s (execCoursePollTimer t course s) := by
  have hp : Keeps Foot.any (s.enter t) (if (s.enter t).ve 0x6020 course 0x04 ≤ 1 then
      (s.enter t).sendDown course 4 3 false true 0 31 else s.enter t) := .when (State.sendDown_keeps ..)
  exact .guarded (hp.andThen (Keeps.whenNot (State.sendDown_keeps ..)))

/-- PANEL_STATUS: a bad block, a STATUS, or another block. -/
theorem Answers.panelStatus (half : Nat) (block : Bytes) :
    Answers (halfOk half) s (execPanelStatus t half block s) := by
  refine .guarded (t := t) (Keeps.andThen (F := Foot.any) ?_ (State.wheelFollows_keeps ..))
  exact .ite (fun _ => (State.badBlock_keeps ..).any) fun _ => .when (State.takeStatus_keeps ..)

/-- RAIL_DELAY_EXPIRY: the next rail of the sequence. -/
theorem Answers.railDelayExpiry : Answers true s (execRailDelayExpiry t s) := by
  refine .next (F := Foot.any) (t := t) ?_
  split
  · exact (State.railEnable_keeps ..).any
  · exact (State.railRelease_keeps ..).any
  · exact (State.railRelease_keeps ..).any
  · exact .refl _ _

/-- GATE_IDLE: only a request that closes a gate is answered. -/
theorem Answers.gateIdle : Answers true s (execGateIdle t s) := by
  refine .next (F := Foot.any) (t := t) ?_
  split
  · exact .when ((State.gateIdle_keeps ..).andThen (State.gateAnswer_keeps ..))
  · exact .refl _ _

/-- GATE_CLOSE_TIMEOUT: only a request that closes a gate fails. -/
theorem Answers.gateCloseTimeout : Answers true s (execGateCloseTimeout t s) := by
  refine .next (F := Foot.any) (t := t) ?_
  split
  · exact .when (State.gateFails_keeps ..)
  · exact .refl _ _

/-- HANDOVER_DONE: a hand-over under way ends. -/
theorem Answers.handoverDone : Answers true s (execHandoverDone t s) := by
  refine .next (F := Foot.any) (t := t) ?_
  split
  · exact (State.handedOver_keeps ..).andThen (State.answerHeld_keeps ..)
  · exact .refl _ _

/-- CAL_COURSE: the one write whose operand names a unit. -/
theorem Answers.calCourse (course : Nat) : Answers (decide (course < 16)) s (execCalCourse t course s) := by
  by_cases h : course < 16
  · simpa [execCalCourse, h] using Answers.writes t 0 0x2830 0 0x01 course s
  · exact ⟨s, .refl _ _, by simp [execCalCourse, h]⟩

end

/-- Every command answers a next state that keeps the tables sound if it names only what the device has, and
the fault `noSuchUnit` if it does not. -/
theorem exec_answers (c : Instr) (s : State) : Answers c.wf s (exec c s) := by
  cases c with
  | cueGo | cueClear | counterClear | memberWrite | dlaneFenced | engFenced | claneFenced
    | displayRunStart | displayRunStop | timingMode | faultRearm | panelPower | droneEnter
    | droneLeave | linReset | wheelEnable | wheelBrake | rearm | freeInput | preset | laneRetrain
    | laneOutOfService | laneReturn | portRate | portEnable | bankFenced | retCommit
    | channelOffline | channelRetrain | channelReturn | ratioSet | gateClose | gateOpen
    | chordKill | pathEnable | fwVerify | fwSwitch | stepNow | sdClear | calTile | calAbort
    | cvKind | cvReset | cvFeed8 | cvFeed16 | cvFeed32 | cvCheck | warmRestart => exact Answers.writes ..
  | masterKey | fwImage => exact Answers.writesBytes ..
  | openSession | close | read | write | chordBegin | commitNow | commitNextFret | commitNextFrame
    | commitAtTime | abortChord | keepalive | eventAck => exact Answers.arrives ..
  | parcelHeaderArrives => exact .guarded (State.doParcelHeader_keeps ..)
  | relayParcelStart => exact .guarded (State.doRelayStart_keeps ..)
  | spillCopyDone => exact .next (State.doSpillCopyDone_keeps ..)
  | cueCopyDone => exact .next (State.doCueCopyDone_keeps ..)
  | latchPoint => exact .next (State.doLatchPoint_keeps ..)
  | nutMark => exact .next (State.doNutMark_keeps ..)
  | fretBoundary | glideFretEdge => exact .next (State.doFret_keeps ..)
  | planeSlotStart => exact .guarded (State.doSlot_keeps ..)
  | pluck => exact .guarded (State.doPluck_keeps ..)
  | loadCutoff => exact .guarded (State.closeLoad_keeps ..)
  | synthesisDeadline => exact .next (State.doSynthesisDeadline_keeps ..)
  | bandDispatch => exact .next (State.doBandDispatch_keeps ..)
  | tileDecodeDone => exact .guarded (State.doTileDecodeDone_keeps ..)
  | decodeSelftest => exact .guarded (State.doDecodeSelftest_keeps ..)
  | bandSynthesisStart => exact .guarded (State.doBandSynthesis_keeps ..)
  | bandCommit => exact .guarded (State.doBandCommit_keeps ..)
  | engineSelftest => exact .guarded (State.doEngineSelftest_keeps ..)
  | compositionStart => exact .next (State.doCompositionStart_keeps ..)
  | tileCompressStart => exact .guarded (State.doCompressStart_keeps ..)
  | compressionDone => exact .guarded (State.doCompressionDone_keeps ..)
  | captureDone => exact .next (State.doCaptureDone_keeps ..)
  | displayStartPoint => exact .next (State.doDisplayStart_keeps ..)
  | clearBeforeLight => exact .guarded (State.doClear_keeps ..)
  | exerciseLatch => exact .guarded (State.doLatch_keeps ..)
  | dronePeriod => exact .next (State.doDronePeriod_keeps ..)
  | referenceWindowOpen => exact .next (State.doWindow_keeps ..)
  | pilotFire => exact .guarded (State.doPilot_keeps ..)
  | monitorSample | pilotSample | driverStatusFrame => exact .guarded (State.uplink_keeps ..)
  | uplinkTimeout => exact .guarded (State.loseOldest_keeps ..)
  | emitInhAssert => exact .next (State.doEmitAssert_keeps ..)
  | emitInhRelease => exact .next (State.doEmitRelease_keeps ..)
  | emitInhStuck => exact .next (State.doEmitStuck_keeps ..)
  | encoderEdge => exact .next (State.doEdge_keeps ..)
  | measuredNutMark => exact .next (State.doMeasuredNut_keeps ..)
  | driveCommandTimer => exact .next (State.sendDrive_keeps ..)
  | spinUp => exact .next (State.spinUp_keeps ..)
  | blockData | parcelStart | parcelAbort | acknowledge | reservedBlock => exact .guarded (State.receiveBlock_keeps ..)
  | signalDetect => exact .guarded (State.doSignal_keeps ..)
  | laneLockLoss => exact .guarded (State.doLockLoss_keeps ..)
  | portSleepTimer => exact .guarded (State.doPortSleep_keeps ..)
  | bankCopyDone => exact .next (State.endBankCopy_keeps ..)
  | journalCommitTimer => exact .next (State.startCommit_keeps ..)
  | journalCommitDone => exact .next (State.commitDone_keeps ..)
  | journalHalfEmptied => exact .next (State.halfEmptied_keeps ..)
  | dramRequest => exact .guarded (State.doDramRequest_keeps ..)
  | ddrRefreshTimer => exact .guarded (State.doRefresh_keeps ..)
  | ddrTrainingDone => exact .guarded (State.doTrainingDone_keeps ..)
  | chunkMoveDone => exact .next (State.doChunkMove_keeps ..)
  | resetRelease => exact .next (State.resetRelease_keeps ..)
  | resetAssert => exact .next (State.resetAssert_keeps ..)
  | pllLock => exact .next (State.pllLock_keeps ..)
  | pllLockTimeout => exact .next (State.lockTimeout_keeps ..)
  | holdPhaseEnd => exact .next (State.holdPhaseEnd_keeps ..)
  | hclkQualified => exact .next (State.hclkQualified_keeps ..)
  | ratioRampStep => exact .guarded (State.rampStep_keeps ..)
  | muxForcedSwitch => exact .guarded (State.forcedSwitch_keeps ..)
  | railOvervoltage => exact .guarded (State.railFault_keeps ..)
  | writeItemHandoff => exact .next (State.handItem_keeps ..)
  | chordHandoff => exact .guarded (State.handChord_keeps ..)
  | atTimeReached => exact .guarded (State.timeReached_keeps ..)
  | sessionTimeout => exact .guarded (State.sessionLapses_keeps ..)
  | eventSend | eventResendTimer => exact .guarded (State.sendEvents_keeps ..)
  | fwVerifyDone => exact .guarded (State.verifyDone_keeps ..)
  | watchdogTakeover => exact .next (State.takeOver_keeps ..)
  | ethFrameRx => exact .guarded (State.frameIn_keeps ..)
  | relayFrameTx => exact .guarded (State.relayOut_keeps ..)
  | sync => exact .guarded (State.doSync_keeps ..)
  | followUp => exact .guarded (State.doFollowUp_keeps ..)
  | delayResp => exact .guarded (State.doDelayResp_keeps ..)
  | announce => exact .guarded (State.doAnnounce_keeps ..)
  | announceTimeout => exact .guarded (State.announceLost_keeps ..)
  | delayReqSend => exact .guarded (State.doDelayReq_keeps ..)
  | neighborSolicitation => exact .guarded (State.answerNs_keeps ..)
  | echoRequest => exact .guarded (State.answerEcho_keeps ..)
  | dadDone => exact .next (State.doDad_keeps ..)
  | ethLinkChange => exact .guarded (State.ethLink_keeps ..)
  | modelMismatch => exact .guarded (State.modelMismatch_keeps ..)
  | fastThrottleRelease => exact .next (State.fastRelease_keeps ..)
  | lifeSecond => exact .next (State.lifeSecond_keeps ..)
  | probePresenceTimer => exact .next (State.doPresence_keeps ..)
  | probeReading => exact .next (State.doProbeReading_keeps ..)
  | calPluck => exact .next (State.doCalPluck_keeps ..)
  | calTimeout => exact .next (State.calLimit_keeps ..)
  | cvOwnerTimeout => exact .guarded (State.pute_keeps1 ..)
  | autoRestartTimer => exact .next (State.autoRestart_keeps ..)
  | retainedRestoreDone => exact .next (State.restoreDone_keeps ..)
  | firmwareBootDone => exact .next (State.firmwareBootDone_keeps ..)
  | islandRampsDone => exact .guarded (State.islandRampsDone_keeps ..)
  | extest | samplePreload | clamp | highz | bypass => exact .next (State.updateIr_keeps ..)
  | fretBoundaryOverdue => exact .next (State.doOverdue_keeps ..)
  | fretFMinus1End => exact .next (State.doLastFretEnd_keeps ..)
  | pfailRelease => exact .next (State.pfailRelease_keeps ..)
  | malformedMessage => exact .guarded (State.inc_keeps1 ..)
  | tile | frameHeader | frameClose => exact .parcel fun _ => (State.fileKept_keeps ..).any
  | cueTrigger => exact .parcel fun _ => (State.takeTrigger_keeps ..).any
  | layerData => exact .parcel fun _ => (State.writeLayer_keeps ..).any
  | replayTimeout => exact Answers.replayTimeout ..
  | bringUpRetry => exact Answers.bringUpRetry ..
  | cdrLock => exact Answers.cdrLock ..
  | coursePollTimer => exact Answers.coursePollTimer ..
  | panelStatus => exact Answers.panelStatus ..
  | railDelayExpiry => exact Answers.railDelayExpiry ..
  | gateIdle => exact Answers.gateIdle ..
  | gateCloseTimeout => exact Answers.gateCloseTimeout ..
  | handoverDone => exact Answers.handoverDone ..
  | calCourse => exact Answers.calCourse ..
  | ackSendTimer => exact .guarded (.when (State.sendAck_keeps ..))
  | bringUpStageTimeout => exact .guarded (.when (State.bringUpFails_keeps ..))
  | panelStatusLost => exact .guarded (.when ((State.putBit_keeps1 ..).andThen (State.inc_keeps1 ..)))
  | panelStatusTimeout =>
    exact .guarded ((Keeps.when (State.panelFault_keeps ..)).andThen (State.wheelFollows_keeps ..))
  | pnlPgRise | pnlPgFall =>
    exact .guarded ((State.pgLevel_keeps ..).andThen (State.wheelFollows_keeps ..))
  | pgTimeout => exact .next (.when (State.pgFails_keeps ..))
  | parkTimeExpiry =>
    exact .guarded ((State.stopPark_keeps ..).andThen (Keeps.when (State.discharge_keeps ..)))
  | dischargeStepExpiry => exact .guarded (.when (State.discharge_keeps ..))
  | droneRefresh => exact .next (.when (State.refreshSlate_keeps ..))
  | chatterEnd => exact .guarded (Keeps.upd (.refl Foot.any _) (hck := .inl rfl))
  | openLoopFallback => exact .guarded (.when ((State.putStr_keeps ..).andThen (State.inc_keeps1 ..)))
  | countEdgeTimeout => exact .next (.when (State.encoderLost_keeps ..))
  | driveStatus =>
    exact .next (.ite (fun _ => (State.driveGood_keeps ..).any) fun _ => (State.driveLost_keeps ..).any)
  | driveStatusTimeout => exact .next (.whenNot (State.driveLost_keeps ..))
  | spinUpTimeout => exact .next (.when ((State.inc_keeps1 ..).andThen (State.faultedCoast_keeps ..)))
  | wheelRestTimeout =>
    exact .next (.when (((Keeps.upd (.refl Foot.any _) (hl := .inl rfl)).andThen
      (State.putWheel_keeps ..)).andThen (State.showRest_keeps ..)))
  | marker => exact .guarded ((State.heard_keeps ..).andThen (State.doMarker_keeps ..))
  | filler => exact .guarded ((State.heard_keeps ..).andThen (State.doFiller_keeps ..))
  | training => exact .guarded ((State.heard_keeps ..).andThen (State.doTraining_keeps ..))
  | sleep => exact .guarded ((State.heard_keeps ..).andThen (State.doSleep_keeps ..))
  | laneMap => exact .guarded ((State.heard_keeps ..).andThen (State.doLaneMap_keeps ..))
  | urgencyRise => exact .next (Keeps.upd (.refl Foot.any _) (hme := .inl rfl))
  | dramRequestDone => exact .next ((State.doRequestDone_keeps ..).andThen (State.settle_keeps ..))
  | ddrAlert => exact .next ((State.doAlert_keeps ..).andThen (State.settle_keeps ..))
  | inplaceRetrainDone => exact .guarded ((State.doRetrainDone_keeps ..).andThen (State.settle_keeps ..))
  | dqsOscTimer => exact .guarded (.when ((State.putChan_keeps ..).andThen (State.emit_keeps ..)))
  | zqCalTimer => exact .guarded (.when (State.emit_keeps ..))
  | pllSlip | hclkLoss => exact .next ((State.clockFails_keeps ..).andThen (State.settle_keeps ..))
  | railUndervoltage => exact .guarded ((State.railLow_keeps ..).andThen (State.settle_keeps ..))
  | chordIdleTimeout => exact .guarded (.when (State.abortSlot_keeps ..))
  | handoverTimeout =>
    exact .next (.when ((State.handoverFails_keeps ..).andThen (State.answerHeld_keeps ..)))
  | revertTimer => exact .next (.when (State.switchWall_keeps ..))
  | freeRunTimer =>
    exact .next (.when ((Keeps.upd (.refl Foot.any _) (hnt := .inl rfl)).andThen (State.setWall_keeps ..)))
  | holdoverNotice => exact .next (.when ((State.putBit_keeps1 ..).andThen (State.event_keeps ..)))
  | slewDone =>
    exact .next (.when ((Keeps.upd (.refl Foot.any _) (hnt := .inl rfl)).andThen (State.putBit_keeps1 ..)))
  | thermalEvaluation => exact .next ((State.evaluate_keeps ..).andThen (State.settle_keeps ..))
  | throttleStepTimer => exact .next (.whenNot (State.throttleStep_keeps ..))
  | pfail => exact .next ((State.pfailFalls_keeps ..).andThen (State.settle_keeps ..))
  | islandError => exact .guarded ((State.islandError_keeps ..).andThen (State.settle_keeps ..))
  | islandRestartDone => exact .guarded ((State.islandRestarted_keeps ..).andThen (State.settle_keeps ..))
  | tapReset => exact .next (Keeps.upd (.refl Foot.any _) (hti := .inl rfl))
  | railReturn =>
    exact .guarded ((State.pute_keeps1 ..).andThen (Keeps.upd (.refl Foot.any _) (hck := .inl rfl)))
  | badUplinkFrame => exact .guarded (.whenNot (State.loseOldest_keeps ..))

end Sys2Proof.Machine
end

section
namespace Sys2Proof.Machine

/-! ### Stepping -/

theorem step_of_pending {s : State} {c : Instr} {l : List Instr} (h : s.pending = c :: l) :
    step s = exec c { s with pending := l } := by
  simp [step, h]

theorem step_of_idle {s : State} (h : s.pending = []) : step s = .next s := by
  simp [step, h]

/-- What a well-formed command and an ill-formed one answer. -/
theorem exec_of_wf {c : Instr} (h : c.wf = true) (s : State) :
    ∃ u, Keeps Foot.any s u ∧ exec c s = .next u := by
  simpa [Answers, h] using exec_answers c s

theorem exec_of_not_wf {c : Instr} (h : c.wf = false) (s : State) : exec c s = .fault .noSuchUnit := by
  obtain ⟨u, -, hr⟩ := exec_answers c s
  simpa [h] using hr

/-- A command that answers a next state keeps the tables sound and takes no free value back. -/
theorem runs_keeps {c : Instr} {s s' : State} (h : runs c s s') : Keeps Foot.any s s' := by
  obtain ⟨u, hk, hr⟩ := exec_answers c s
  obtain ⟨-, rfl⟩ := guarded_next.1 (hr.symm.trans h)
  exact hk

/-- Settles O1. -/
theorem stepTakesTheFront : Obligations.StepTakesTheFront :=
  ⟨fun _ _ _ => step_of_pending, fun _ => step_of_idle⟩

/-- A member that the table does not list reads its default. -/
theorem ve_of_dict_nil {s : State} (h : s.dict = []) (o e m : Nat) : s.ve o e m = dfltAt (mkey o e m) := by
  rw [State.ve, h, tget?_nil, Option.getD_none]

theorem reset_displayState : State.reset.v 0x5001 0x03 = 0 := by
  rw [State.v, ve_of_dict_nil rfl]
  decide +kernel

/-- Settles O2: the tables of the reset state are empty, and display is in state 0. -/
theorem resetHoldsTheDefaults : Obligations.ResetHoldsTheDefaults := by
  have hs : State.reset.sound := ⟨rfl, rfl, rfl⟩
  have hd : State.reset.displayRuns = false := by simp [State.displayRuns, reset_displayState]
  have hp : State.reset.permitted = false := by simp [State.permitted, reset_displayState]
  exact ⟨hs, rfl, rfl, ve_of_dict_nil rfl, hd, hp, rfl, rfl, rfl, fun _ => rfl, rfl⟩

/-- Settles O3: by `runs_keeps` for a command, and at once for an empty queue. -/
theorem stepKeepsSound : Obligations.StepKeepsSound := by
  intro s s' hs h
  rcases hq : s.pending with _ | ⟨c, l⟩
  · rw [step_of_idle hq] at h
    cases h
    exact ⟨hs, Nat.le_refl _⟩
  · rw [step_of_pending hq] at h
    have hk := runs_keeps h
    exact ⟨hk.sound hs, hk.freeIdx⟩

/-- Settles O4: every command is guarded by its well-formedness (`exec_answers`). -/
theorem wellFormedCommandsRun : Obligations.WellFormedCommandsRun := by
  refine ⟨fun c s h => ?_, fun c s h => exec_of_not_wf h s⟩
  obtain ⟨u, -, hr⟩ := exec_of_wf h s
  exact ⟨u, hr⟩

end Sys2Proof.Machine
end

section
namespace Sys2Proof.Machine

/-! ### Rows of the dictionary -/

theorem memberRows_bounded : (memberRows.all fun r =>
    decide (r.object < 65536) && decide (r.elements ≤ 65536) && decide (r.last < 256)) = true := by
  decide +kernel

/-- What the row of a member says of its numbers. -/
theorem rowOf_some {o e m : Nat} {r : MemberRow} (h : rowOf o e m = some r) :
    r ∈ memberRows ∧ r.object = o ∧ r.first ≤ m ∧ m ≤ r.last ∧ o < 65536 ∧ e < 65536 ∧ m < 256 := by
  have hr := List.mem_of_find?_eq_some h
  have hp := List.find?_some h
  have hb := List.all_eq_true.1 memberRows_bounded r hr
  simp only [Bool.and_eq_true, decide_eq_true_eq, beq_iff_eq] at hp hb
  obtain ⟨⟨⟨ho, he⟩, hf⟩, hl⟩ := hp
  exact ⟨hr, ho, hf, hl, by omega, by omega, by omega⟩

/-- Every CLEAR member but that of 5800 acts at once, and holds a number. -/
theorem clearRows_now : (memberRows.all fun r =>
    !(r.acc == .wo && decide (r.first ≤ 0x10) && decide (0x10 ≤ r.last) && r.object != 0x5800) ||
      (r.cls == 0 && r.ty != .blob)) = true := by
  decide +kernel

/-! ### Waiting changes -/

theorem settle_of_displayRuns {s : State} (h : s.displayRuns = true) : s.settle = s := by
  simp [State.settle, h]

@[simp] theorem ownAll_nil (s : State) : s.ownAll [] = s := rfl

theorem showFrame_of_nil {s : State} (h : s.seq.nutPend = []) : s.showFrame = s := by
  have hq : ({ s.seq with nutPend := [] } : Seq) = s.seq := by rw [← h]
  rw [State.showFrame, h, hq, ownAll_nil]

/-- Where nothing waits, nothing changes as display stops. -/
theorem settle_of_calm {s : State} (h : s.calm = true) : s.settle = s := by
  simp only [State.calm, Bool.and_eq_true, List.isEmpty_iff, Option.isNone_iff_eq_none,
    Bool.not_eq_true'] at h
  obtain ⟨⟨⟨⟨hp, hn⟩, hs⟩, hd⟩, hw⟩ := h
  unfold State.settle
  simp only [showFrame_of_nil hn, hp, hd, Bool.false_eq_true, if_false, ownAll_nil, hs, hw,
    Option.isSome_none, List.filterMap_nil, List.eraseDups_nil, List.foldl_nil]
  split
  · rfl
  · rw [← hp, ← hd, ← hs]

/-- `calm` looks at what waits alone. -/
theorem calm_congr {s u : State} (hq : u.seq = s.seq) (hn : u.net = s.net) : u.calm = s.calm := by
  simp [State.calm, hq, hn]

/-! ### Plain members -/

/-- Whether a member has a behaviour of its own is a question of its numbers. -/
theorem ownLow?_none_congr {s : State} (u : State) {a o e m v : Nat} (b : Nat)
    (h : s.ownLow? a o e m v = none) : u.ownLow? b o e m v = none := by
  unfold State.ownLow? at h
  split at h
  case h_20 => rw [State.ownLow?.eq_20] <;> assumption
  all_goals exact nomatch h

theorem ownHigh?_none_congr {s : State} (u : State) {o e m v : Nat}
    (h : s.ownHigh? o e m v = none) : u.ownHigh? o e m v = none := by
  unfold State.ownHigh? at h
  split at h
  case h_3 | h_4 => simp only [State.ownHigh?]
  case h_35 => rw [State.ownHigh?.eq_35] <;> assumption
  all_goals exact nomatch h

/-- The row of a plain member, and that no unit acts on it, in whatever state. -/
theorem plainMember_row {s : State} {o e m v : Nat} (h : plainMember s o e m v = true) :
    ∃ r, rowOf o e m = some r ∧ r.acc = .rw ∧ r.ty ≠ .blob ∧
      ∀ (u : State) (b : Nat),
        (if o < 0x5000 then u.ownLow? b o e m v else u.ownHigh? o e m v) = none := by
  unfold plainMember at h
  split at h
  case h_2 => exact nomatch h
  case h_1 r hr =>
    simp only [Bool.and_eq_true, beq_iff_eq, bne_iff_ne, Option.isNone_iff_eq_none] at h
    obtain ⟨⟨ha, ht⟩, hn⟩ := h
    refine ⟨r, hr, ha, ht, fun u b => ?_⟩
    split at hn
    · rw [if_pos ‹_›]; exact ownLow?_none_congr u b hn
    · rw [if_neg ‹_›]; exact ownHigh?_none_congr u hn

/-- A plain member takes its value, and its owner does nothing beside. -/
theorem own_plain {s u : State} {x : Staged} (master : Nat)
    (h : plainMember s x.object x.element x.member x.value = true) :
    u.own master x = u.putKept x.object x.element x.member x.value := by
  obtain ⟨r, hr, ha, ht, hn⟩ := plainMember_row h
  simp [State.own, hr, ha, ht, hn u master]

/-- What a journal entry leaves as it was: everything but the retained store's part of `memory`. -/
theorem journalize_eq (s : State) (o e m v : Nat) (data : Bytes) :
    ∃ mem, s.journalize o e m v data = { s with memory := mem } := by
  have hc : ∀ x : State, ∃ mem, x.startCommit = { x with memory := mem } := by
    intro x
    unfold State.startCommit
    dsimp only
    split
    · exact ⟨_, rfl⟩
    · split
      · exact ⟨_, rfl⟩
      · split
        · exact ⟨_, rfl⟩
        · split <;> exact ⟨_, rfl⟩
  unfold State.journalize
  split
  · exact ⟨_, rfl⟩
  · split
    · dsimp only
      split
      · obtain ⟨mem, hm⟩ := hc _
        exact ⟨mem, hm⟩
      · exact ⟨_, rfl⟩
    · exact ⟨_, rfl⟩

/-- A kept member's write: the member, and the journal. -/
theorem putKept_eq (s : State) (o e m v : Nat) :
    ∃ mem, s.putKept o e m v = { s.pute o e m v with memory := mem } :=
  journalize_eq ..

@[simp] theorem ve_putKept_self (s : State) (o e m v : Nat) : (s.putKept o e m v).ve o e m = v := by
  obtain ⟨mem, h⟩ := putKept_eq s o e m v
  rw [h]
  exact ve_pute_self s o e m v

/-! ### Direct writes -/

/-- The state in which an accepted direct write is handed to its owner. -/
def State.acceptedAt (s : State) (t : Nat) : State :=
  { s.enter t with mgmt := { s.mgmt with lastCode := 0 } }

/-- An accepted write names a member of the device. -/
theorem acceptsValue_row {s : State} {t master o e m v : Nat}
    (h : s.acceptsValue t master o e m v = true) : ∃ r, rowOf o e m = some r := by
  cases hr : rowOf o e m with
  | some r => exact ⟨r, rfl⟩
  | none =>
    simp [State.acceptsValue, State.accepts, State.writeCode, State.stageCode, stagedValue, hr] at h

/-- An accepted direct write is delivered, and what waited for display to stop may follow. -/
theorem memberWrite_accepted {s : State} {t master o e m v : Nat}
    (h : s.acceptsValue t master o e m v = true) :
    (s.enter t).memberWrite master (memberWidth o m / 8) (stagedValue o e m v) =
      (((s.acceptedAt t).deliver 0 master none none (stagedValue o e m v)).2).settle := by
  have hc := beq_iff_eq.1 h
  simp only [State.memberWrite, hc, if_pos]
  rfl

/-- A value whose class is now, or that comes while display does not run, goes to its owner. -/
theorem deliver_atOnce {s : State} {o e m v : Nat} {r : MemberRow} (hr : rowOf o e m = some r)
    (h : s.atOnce o e m = true) (t master : Nat) :
    ((s.acceptedAt t).deliver 0 master none none (stagedValue o e m v)).2 =
      (s.acceptedAt t).own master (stagedValue o e m v) := by
  have hd : classIn 0 r = 0 ∨ (!(s.acceptedAt t).displayRuns) = true := by
    simp only [State.atOnce, hr, Bool.or_eq_true, beq_iff_eq] at h
    exact h.symm
  simp only [State.deliver, stagedValue, hr]
  rw [if_pos hd]

/-- A value that no message brought waits behind all that wait already. -/
theorem await_of_no_origin (s : State) (r : MemberRow) {p : Pending} (h : p.origin = none) :
    s.await r p = { s with seq := { s.seq with
      pend := (s.seq.pend.filter fun q => !(replaces r p q)) ++ [p] } } := by
  have hl : ∀ q : Pending, q.laterThan p = false := by
    intro q
    unfold Pending.laterThan
    rw [h]
    cases q.origin <;> rfl
  simp [State.await, hl]

/-- What a direct write of a later class leaves waiting. -/
def State.writePending (s : State) (master o e m v cls : Nat) : Pending :=
  { object := o, element := e, member := m, value := v, data := [], offset := 0, cls := cls,
    frame := (s.pointOf cls).1, master := master, chord := none, origin := none }

/-- A value of a later class waits for its apply point while display runs. -/
theorem deliver_later {s : State} {o e m v : Nat} {r : MemberRow} (hr : rowOf o e m = some r)
    (h : s.atOnce o e m = false) (t master : Nat) :
    s.displayRuns = true ∧ ((s.acceptedAt t).deliver 0 master none none (stagedValue o e m v)).2 =
      (s.acceptedAt t).await r (s.writePending master o e m v (classIn 0 r)) := by
  simp only [State.atOnce, hr, Bool.or_eq_false_iff, Bool.not_eq_false', beq_eq_false_iff_ne] at h
  obtain ⟨hd, hc⟩ := h
  have hn : ¬(classIn 0 r = 0 ∨ (!(s.acceptedAt t).displayRuns) = true) := by
    rw [show (s.acceptedAt t).displayRuns = true from hd]
    simp [hc]
  refine ⟨hd, ?_⟩
  simp only [State.deliver, stagedValue, hr]
  rw [if_neg hn]
  rfl

/-- What an accepted direct write of a plain member answers where it takes effect at once. -/
theorem runs_plainWrite {s : State} {t o e m v : Nat} (ha : s.acceptsValue t 0 o e m v = true)
    (hn : s.atOnce o e m = true) (hc : s.calm = true) (hp : plainMember (s.enter t) o e m v = true) :
    runs (.memberWrite t o e m v) s ((s.acceptedAt t).putKept o e m v) := by
  obtain ⟨r, hr⟩ := acceptsValue_row ha
  have hq : ((s.acceptedAt t).putKept o e m v).calm = true := by
    obtain ⟨mem, he⟩ := putKept_eq (s.acceptedAt t) o e m v
    rw [he]
    exact hc
  change Host.Outcome.next _ = _
  rw [memberWrite_accepted ha, deliver_atOnce hr hn, own_plain 0 (x := stagedValue o e m v) hp]
  exact congrArg _ (settle_of_calm hq)

/-- What an accepted direct write answers where its value waits. -/
theorem runs_laterWrite {s : State} {t o e m v : Nat} (ha : s.acceptsValue t 0 o e m v = true)
    (hn : s.atOnce o e m = false) :
    ∃ r, runs (.memberWrite t o e m v) s
      ((s.acceptedAt t).await r (s.writePending 0 o e m v (classIn 0 r))) := by
  obtain ⟨r, hr⟩ := acceptsValue_row ha
  obtain ⟨hd, hq⟩ := deliver_later (v := v) hr hn t 0
  refine ⟨r, ?_⟩
  change Host.Outcome.next _ = _
  rw [memberWrite_accepted ha, hq, await_of_no_origin _ _ rfl]
  exact congrArg _ (settle_of_displayRuns hd)

/-- Settles O16. -/
theorem plainWritesChangeOneMember : Obligations.PlainWritesChangeOneMember := by
  intro s s' t o e m v ha hn hc hp hr
  obtain rfl : (s.acceptedAt t).putKept o e m v = s' :=
    Host.Outcome.next.inj ((runs_plainWrite ha hn hc hp).symm.trans hr)
  obtain ⟨r, hrow⟩ := acceptsValue_row ha
  obtain ⟨-, -, -, -, ho, he, hm⟩ := rowOf_some hrow
  constructor
  · have hk := State.putKept_keeps1 (s.acceptedAt t) o e m v
    rw [Nat.mod_eq_of_lt ho, Nat.mod_eq_of_lt hm] at hk
    refine Keeps.trans (Keeps.upd ((State.enter_keeps s t).mono ?_) (hmg := .inl rfl)) hk ?_
    · simp [Foot.sub]
    · simp [Foot.sub]
  · intro k hk
    obtain ⟨mem, hq⟩ := putKept_eq (s.acceptedAt t) o e m v
    rw [hq]
    exact tget?_tset_ne _ hk _ _

/-! ### CLEAR -/

/-- No entry of the counters that a CLEAR member zeroes is left. -/
theorem tget?_clearCounters (s : State) {o k : Nat} (h : inRanges (clearedBy o) k = true) :
    tget? k (s.clearCounters o).dict = none := by
  simp only [State.clearCounters]
  induction s.dict with
  | nil => rfl
  | cons x l ih =>
    obtain ⟨j, w⟩ := x
    rw [List.filter_cons]
    split
    · rename_i hj
      have hne : k ≠ j := by rintro rfl; simp [h] at hj
      rw [tget?, if_neg hne]
      exact ih
    · exact ih

/-- What the owner of a CLEAR member does. -/
theorem own_clear {s : State} {o v : Nat} {r : MemberRow} (master : Nat) (hr : rowOf o 0 0x10 = some r)
    (ha : r.acc = .wo) (ho : o ≠ 0x5800) :
    s.own master (stagedValue o 0 0x10 v) = s.clearCounters o ∧ classIn 0 r = 0 := by
  obtain ⟨hmem, hob, hf, hl, -⟩ := rowOf_some hr
  have hnow := List.all_eq_true.1 clearRows_now r hmem
  simp only [ha, hob, hf, hl, decide_true, Bool.and_true, beq_self_eq_true, Bool.true_and,
    Bool.or_eq_true, Bool.not_eq_true', bne_eq_false_iff_eq, Bool.and_eq_true, beq_iff_eq, bne_iff_ne, ho,
    false_or] at hnow
  obtain ⟨hcls, hty⟩ := hnow
  constructor
  · simp [State.own, stagedValue, hr, ha, hty, ho]
  · simp [classIn, hcls]

/-- What an accepted write to a CLEAR member answers. -/
theorem runs_counterClear {s : State} {t o v : Nat} {r : MemberRow}
    (ha : s.acceptsValue t 0 o 0 0x10 v = true) (hc : s.calm = true) (hr : rowOf o 0 0x10 = some r)
    (hw : r.acc = .wo) (ho : o ≠ 0x5800) :
    runs (.counterClear t o v) s ((s.acceptedAt t).clearCounters o) := by
  obtain ⟨hown, hcls⟩ := own_clear (s := s.acceptedAt t) (v := v) 0 hr hw ho
  have hn : s.atOnce o 0 0x10 = true := by simp [State.atOnce, hr, hcls]
  change Host.Outcome.next _ = _
  rw [memberWrite_accepted ha, deliver_atOnce hr hn, hown]
  exact congrArg _ (settle_of_calm hc)

/-! ### Refused writes -/

@[simp] theorem inc_mgmt (s : State) (o m : Nat) : (s.inc o m).mgmt = s.mgmt := by
  obtain ⟨v, k, h⟩ := adde_cases s o 0 m 1
  exact (congrArg State.mgmt h :)

/-- A refusal leaves the code of the last direct write. -/
theorem refuse_lastCode (s : State) (mst o e m code : Nat) :
    (s.refuse mst o e m code).mgmt.lastCode = s.mgmt.lastCode := by
  have hs : (if code = 10 then s.inc 0x1011 0x06 else s).mgmt = s.mgmt := by split <;> simp
  unfold State.refuse
  rw [← hs]
  generalize (if code = 10 then s.inc 0x1011 0x06 else s) = x
  dsimp only
  split
  · split
    · rw [inc_mgmt]; rfl
    · rfl
  · rfl

/-- What a refused direct write of a member that is no gate answers. -/
theorem runs_refused {s : State} {t o e m v : Nat} (h : s.acceptsValue t 0 o e m v = false)
    (h20 : o ≠ 0x2020) (h30 : o ≠ 0x2030) :
    ∃ code, code ≠ 0 ∧ runs (.memberWrite t o e m v) s
      (({ s.enter t with mgmt := { s.mgmt with lastCode := code } } : State).refuse 0 o e m code) := by
  have hc := beq_eq_false_iff_ne.1 h
  have hg : (stagedValue o e m v).isGate = false := by simp [Staged.isGate, stagedValue, h20, h30]
  refine ⟨_, hc, ?_⟩
  change Host.Outcome.next _ = _
  simp only [State.memberWrite, if_neg hc, hg, Bool.false_and, Bool.false_eq_true, if_false]
  rfl

/-- Settles O24. -/
theorem memberWrites : Obligations.MemberWrites := by
  refine ⟨?_, ?_, ?_, ?_⟩
  · intro s t o e m v ha hn hc hp
    refine ⟨_, runs_plainWrite ha hn hc hp, ?_, ve_putKept_self ..⟩
    obtain ⟨mem, hq⟩ := putKept_eq (s.acceptedAt t) o e m v
    rw [hq]
    rfl
  · intro s t o v ha hc ho hr
    obtain ⟨r, hr, hw⟩ := (Option.any_eq_true ..).1 hr
    exact ⟨_, runs_counterClear ha hc hr (beq_iff_eq.1 hw) ho, rfl, fun k hk => tget?_clearCounters _ hk⟩
  · intro s t o e m v ha hn
    obtain ⟨r, hr⟩ := runs_laterWrite ha hn
    refine ⟨_, hr, ?_⟩
    rw [await_of_no_origin _ _ rfl]
    exact ⟨rfl, rfl, s.writePending 0 o e m v (classIn 0 r), List.getLast?_concat, rfl, rfl, rfl, rfl, rfl⟩
  · intro s t o e m v ha h20 h30
    obtain ⟨code, hc, hr⟩ := runs_refused ha h20 h30
    refine ⟨_, hr, (refuse_lastCode ..).trans_ne hc, ?_⟩
    refine Keeps.trans (Keeps.upd ((State.enter_keeps s t).mono ?_) (hmg := .inl rfl))
      (State.refuse_keeps ..) ?_
    · decide
    · decide

end Sys2Proof.Machine
end

section
namespace Sys2Proof.Machine

/-! ### What a frame leaves as it was -/

section
variable {F : Foot} {s t : State}

theorem Keeps.now_eq (h : Keeps F s t) (hf : F.parts.contains .now = false := by rfl) : t.now = s.now :=
  h.now.resolve_left (Bool.eq_false_iff.1 hf)

theorem Keeps.seq_eq (h : Keeps F s t) (hf : F.parts.contains .seq = false := by rfl) : t.seq = s.seq :=
  h.seq.resolve_left (Bool.eq_false_iff.1 hf)

theorem Keeps.loop_eq (h : Keeps F s t) (hf : F.parts.contains .loop = false := by rfl) : t.loop = s.loop :=
  h.loop.resolve_left (Bool.eq_false_iff.1 hf)

theorem Keeps.net_eq (h : Keeps F s t) (hf : F.parts.contains .net = false := by rfl) : t.net = s.net :=
  h.net.resolve_left (Bool.eq_false_iff.1 hf)

theorem Keeps.ingress_eq (h : Keeps F s t) (hf : F.parts.contains .ingress = false := by rfl) :
    t.ingress = s.ingress :=
  h.ingress.resolve_left (Bool.eq_false_iff.1 hf)

theorem Keeps.v_eq (h : Keeps F s t) (o m : Nat) (hk : F.free (mkey o 0 m) = true := by decide +kernel) :
    t.v o m = s.v o m :=
  h.ve o 0 m hk

end

/-- Display runs by the state of 5001.03 alone. -/
theorem displayRuns_congr {s u : State} (h : u.v 0x5001 0x03 = s.v 0x5001 0x03) :
    u.displayRuns = s.displayRuns := by
  simp [State.displayRuns, h]

/-! ### The latch point (R133) -/

/-- What the latch point may change once the frame-class values are selected. -/
def latchFoot : Foot :=
  ⟨[.out, .ingress, .codec, .comp, .ray, .seq, .memory, .clock, .mgmt, .logs],
    [(0x101107, 0x101107), (0x103003, 0x103003), (0x180002, 0x180002), (0x180101, 0x180103),
      (0x201003, 0x201003), (0x280104, 0x280104), (0x30020B, 0x30020D), (0x304101, 0x304101),
      (0x304103, 0x304103), (0x400101, 0x400101), (0x400206, 0x400206), (0x480101, 0x480104),
      (0x480106, 0x480108), (0x480203, 0x480205), (0x500104, 0x500105), (0x500107, 0x500108),
      (0x500204, 0x500204), (0x68010A, 0x68010A), (0x900005, 0x900005)]⟩

/-- No member that masters write lies where the latch point or the timeline writes. -/
theorem rwRows_apart : (memberRows.all fun r => r.acc != .rw ||
    ((0x500100, 0x5001FF) :: latchFoot.keys).all fun q =>
      decide (r.object * 256 + r.last < q.1) || decide (q.2 < r.object * 256 + r.first)) = true := by
  decide +kernel

/-- Where a plain member lies: outside what the latch point writes, and not in 5001. -/
theorem plainMember_apart {s : State} {o e m v : Nat} (h : plainMember s o e m v = true) :
    latchFoot.free (mkey o 0 m) = true ∧
      (o * 256 + m < 0x500100 ∨ 0x5001FF < o * 256 + m) ∧ o < 65536 ∧ m < 256 := by
  obtain ⟨r, hr, ha, -, -⟩ := plainMember_row h
  obtain ⟨hmem, hob, hf, hl, ho, -, hm⟩ := rowOf_some hr
  have hap := List.all_eq_true.1 rwRows_apart r hmem
  simp only [ha, bne_self_eq_false, Bool.false_or, List.all_cons, Bool.and_eq_true] at hap
  obtain ⟨h5, hap⟩ := hap
  simp only [Bool.or_eq_true, decide_eq_true_eq] at h5
  rw [hob] at h5
  refine ⟨List.all_eq_true.2 fun q hq => ?_, by omega, ho, hm⟩
  have hq := List.all_eq_true.1 hap q hq
  simp only [Bool.or_eq_true, decide_eq_true_eq, keyCode, keyObject_mkey, keyMember_mkey, hob,
    Nat.mod_eq_of_lt ho, Nat.mod_eq_of_lt hm] at hq ⊢
  clear h5
  omega

theorem judgeNext_decision (s : State) (bn : Option Int) :
    (s.judgeNext bn).1 = 0 ∨ (s.judgeNext bn).1 = 1 := by
  have hr : ∀ (x : State) r, (x.replayLatch r bn).1 = 0 ∨ (x.replayLatch r bn).1 = 1 := by
    intro x r
    unfold State.replayLatch
    extract_lets due
    split
    · exact .inr rfl
    · dsimp only
      split
      · exact .inl rfl
      · exact .inr rfl
  have ht : ∀ x : State, (x.takeFrame bn).1 = 0 ∨ (x.takeFrame bn).1 = 1 := by
    intro x
    unfold State.takeFrame
    dsimp only
    split
    · exact .inr rfl
    · split
      · exact .inr rfl
      · split
        · exact .inr rfl
        · split
          · exact .inr rfl
          · exact .inl rfl
  unfold State.judgeNext
  extract_lets f s0
  clear_value s0
  split
  · exact hr _ _
  · dsimp only
    split
    · split <;> exact ht _
    · exact ht _

/-- The sequencer after a change of the view reduction: what waits and what has passed stand. -/
theorem selectMode_seq (s : State) (slot k : Nat) : ∃ d f k',
    (s.selectMode slot k).seq = { s.seq with glideDue := d, factor := f, factorDue := k' } := by
  unfold State.selectMode
  dsimp only
  split <;> split <;> exact ⟨_, _, _, rfl⟩

theorem reductionChange_seq (s : State) : ∃ d f k,
    s.reductionChange.seq = { s.seq with glideDue := d, factor := f, factorDue := k } := by
  unfold State.reductionChange
  split
  · exact ⟨_, _, _, rfl⟩
  · exact selectMode_seq ..

theorem foreseeNut_seq (s : State) :
    ∃ n w, s.foreseeNut.seq = { s.seq with nextNut := n, glideWait := w } := by
  unfold State.foreseeNut
  dsimp only
  split <;> exact ⟨_, _, rfl⟩

/-- The latch point has been noted, and nothing selected yet. -/
def State.latchNoted (s : State) : State :=
  ({ s with seq := { s.seq with lastLatch := s.now } }).put 0x5001 0x09 s.wallTime

/-- The state in which the latch point has selected the frame-class values. -/
def State.latchSelected (s : State) : State := s.latchNoted.selectFrame

/-- The latch point's frame, with the parts of the sequencer that only the selection changes. -/
structure LatchKeeps (x u : State) : Prop where
  keeps : Keeps latchFoot x u
  lastLatch : u.seq.lastLatch = x.seq.lastLatch
  pend : u.seq.pend = x.seq.pend
  nutPend : u.seq.nutPend = x.seq.nutPend

namespace LatchKeeps

variable {x u w : State} {F : Foot}

theorem trans (h : LatchKeeps x u) (g : LatchKeeps u w) : LatchKeeps x w where
  keeps := h.keeps.trans g.keeps (Foot.sub_refl _)
  lastLatch := g.lastLatch.trans h.lastLatch
  pend := g.pend.trans h.pend
  nutPend := g.nutPend.trans h.nutPend

theorem ofKeeps (h : Keeps F x u) (hs : F.sub latchFoot = true := by decide +kernel)
    (hq : F.parts.contains .seq = false := by rfl) : LatchKeeps x u where
  keeps := h.mono hs
  lastLatch := congrArg Seq.lastLatch (h.seq_eq hq)
  pend := congrArg Seq.pend (h.seq_eq hq)
  nutPend := congrArg Seq.nutPend (h.seq_eq hq)

end LatchKeeps

/-- Between the selection and the decision: the view reduction, the end of a glide, the throttle and the
prediction. -/
theorem latchKeeps_foresee (x : State) (e : Bool) :
    LatchKeeps x (({ x.reductionChange with seq := { x.reductionChange.seq with ending := e } } :
      State).throttleStep.foreseeNut) := by
  obtain ⟨d, f, k, hr⟩ := reductionChange_seq x
  have h1 : LatchKeeps x { x.reductionChange with seq := { x.reductionChange.seq with ending := e } } :=
    { keeps := Keeps.upd ((State.reductionChange_keeps x).mono (by decide +kernel)) (hsq := .inl rfl)
      lastLatch := by rw [hr]
      pend := by rw [hr]
      nutPend := by rw [hr] }
  refine (h1.trans (.ofKeeps (State.throttleStep_keeps ..))).trans ?_
  generalize State.throttleStep _ = y
  obtain ⟨n, w, hf⟩ := foreseeNut_seq y
  exact {
    keeps := (State.foreseeNut_keeps y).mono (by decide +kernel)
    lastLatch := by rw [hf]
    pend := by rw [hf]
    nutPend := by rw [hf] }

/-- What the latch point leads to from the selected values. -/
structure Latched (x u : State) : Prop extends LatchKeeps x u where
  named : u.ingress.named = u.ingress.sel
  codecWindow : u.codec.window = true
  nextBand : u.codec.nextBand = 0
  rayWindow : u.ray.window = true
  fret : u.ray.fret = 0
  frame : u.ray.frame = (u.v 0x5001 0x01 + 1) % 2 ^ 32
  decision : u.v 0x5001 0x07 = 0 ∨ u.v 0x5001 0x07 = 1

/-- The frame that has been decided on is named (R145). -/
def State.nameShown (s : State) : State :=
  { s with ingress := { s.ingress with named := s.ingress.sel } }

/-- From the decision on: its record, the choice of views and the synthesis window. -/
theorem latched_of_decision {x y z : State} {d : Nat} {bn : Option Int} (hx : LatchKeeps x y)
    (hj : y.judgeNext bn = (d, z)) (md : Mode) (central : Bool) :
    Latched x ((((z.put 0x5001 0x07 d).countRepeat d).nameShown.chooseViews md central).openWindow
      ((((z.put 0x5001 0x07 d).countRepeat d).nameShown.v 0x5001 0x01 + 1) % 2 ^ 32) 0) := by
  have hd : d = 0 ∨ d = 1 := by simpa [hj] using judgeNext_decision y bn
  have hz : LatchKeeps y z := .ofKeeps (Keeps.snd hj (State.judgeNext_keeps y bn))
  have hp : LatchKeeps z (z.put 0x5001 0x07 d) := .ofKeeps (State.put_keeps1 ..)
  have hc := State.countRepeat_keeps (z.put 0x5001 0x07 d) d
  have h7 : ((z.put 0x5001 0x07 d).countRepeat d).v 0x5001 0x07 = d := (hc.v_eq ..).trans (v_put_self ..)
  have hw := (hx.trans hz).trans (hp.trans (.ofKeeps hc))
  generalize (z.put 0x5001 0x07 d).countRepeat d = w at hw h7 ⊢
  have hn : LatchKeeps w w.nameShown :=
    { keeps := Keeps.upd (.refl _ _) (hi := .inl rfl), lastLatch := rfl, pend := rfl, nutPend := rfl }
  have hv := State.chooseViews_keeps w.nameShown md central
  have hr : LatchKeeps x (w.nameShown.chooseViews md central) := (hw.trans hn).trans (.ofKeeps hv)
  have hi := hv.ingress_eq
  have h1 := hv.v_eq 0x5001 0x01
  have h7' := hv.v_eq 0x5001 0x07
  generalize w.nameShown.chooseViews md central = q at hr hi h1 h7' ⊢
  exact {
    toLatchKeeps := hr.trans (.ofKeeps (State.openWindow_keeps ..))
    named := by
      change q.ingress.named = q.ingress.sel
      rw [hi]
      rfl
    codecWindow := rfl
    nextBand := rfl
    rayWindow := rfl
    fret := rfl
    frame := by
      change (w.nameShown.v 0x5001 0x01 + 1) % 2 ^ 32 = (q.v 0x5001 0x01 + 1) % 2 ^ 32
      rw [h1]
    decision := by
      change q.v 0x5001 0x07 = 0 ∨ q.v 0x5001 0x07 = 1
      rw [h7', show w.nameShown.v 0x5001 0x07 = d from h7]
      exact hd }

/-- The latch point: what is selected, then decided; what waits for the end of display may follow. -/
theorem doLatchPoint_latched {s : State} (h : s.latchDue = true) :
    ∃ u, s.doLatchPoint = u.settle ∧ Latched s.latchSelected u := by
  unfold State.latchDue at h
  unfold State.doLatchPoint
  rw [if_pos h]
  dsimp only
  generalize hj : State.judgeNext _ _ = p
  obtain ⟨d, z⟩ := p
  exact ⟨_, rfl, latched_of_decision (latchKeeps_foresee _ _) hj _ _⟩

/-- Where display runs on, the latch point is done with its decision. -/
theorem runs_latchPoint {s : State} {t : Nat} (h : s.latchDue = true)
    (hd : (s.enter t).latchSelected.displayRuns = true) :
    ∃ u, runs (.latchPoint t) s u ∧ Latched (s.enter t).latchSelected u := by
  obtain ⟨u, hu, hl⟩ := doLatchPoint_latched (s := s.enter t) h
  have hr : u.displayRuns = true := (displayRuns_congr (hl.keeps.v_eq ..)).trans hd
  refine ⟨u, ?_, hl⟩
  change Host.Outcome.next _ = _
  rw [hu, settle_of_displayRuns hr]

theorem latchNoted_keeps (s : State) : Keeps ⟨[.seq], [(0x500109, 0x500109)]⟩ s s.latchNoted :=
  (Keeps.upd (.refl _ s) (hsq := .inl rfl)).trans (State.put_keeps1 _ 0x5001 0x09 _) (by decide)

theorem latchNoted_seq (s : State) : s.latchNoted.seq = { s.seq with lastLatch := s.now } :=
  (State.put_keeps1 _ 0x5001 0x09 _).seq_eq

/-- Without a frame-class value nothing is selected. -/
theorem selectFrame_of_none {s : State} (h : s.seq.pend.all (fun p => p.cls != 2) = true) :
    s.selectFrame = s := by
  have h2 : s.seq.pend.filter (fun p => p.cls == 2) = [] :=
    List.filter_eq_nil_iff.2 fun p hp => by simpa using List.all_eq_true.1 h p hp
  have hn : s.seq.pend.filter (fun p => p.cls != 2) = s.seq.pend :=
    List.filter_eq_self.2 (List.all_eq_true.1 h)
  simp only [State.selectFrame, h2, hn, List.filter_nil, List.append_nil, ownAll_nil]

/-- One frame-class value that acts on nothing displayed takes effect. -/
theorem selectFrame_of_plain {s : State} {p : Pending} (hp : s.seq.pend = [p]) (hc : p.cls = 2)
    (hd : displayedMember p.object p.member = false) :
    s.selectFrame = ({ s with seq := { s.seq with pend := [] } } : State).ownAll [p] := by
  simp only [State.selectFrame, hp, List.filter_cons, hc, beq_self_eq_true, bne_self_eq_false, hd,
    Bool.not_false, if_true, Bool.false_eq_true, if_false, List.filter_nil, List.append_nil]

/-- One frame-class value that acts on what is displayed waits for the nut mark. -/
theorem selectFrame_of_displayed {s : State} {p : Pending} (hp : s.seq.pend = [p]) (hc : p.cls = 2)
    (hd : displayedMember p.object p.member = true) :
    s.selectFrame = { s with seq := { s.seq with pend := [], nutPend := s.seq.nutPend ++ [p] } } := by
  simp only [State.selectFrame, hp, List.filter_cons, hc, beq_self_eq_true, bne_self_eq_false, hd,
    Bool.not_true, if_true, Bool.false_eq_true, if_false, List.filter_nil, ownAll_nil]

/-- One item takes effect by its owner's act. -/
theorem ownAll_singleton (s : State) (p : Pending) : s.ownAll [p] = s.own p.master p.item := by
  by_cases h : p.item.isWo = true <;> simp [State.ownAll, h]

end Sys2Proof.Machine
end

section
namespace Sys2Proof.Machine

/-! ### What the latch point leads to (R133) -/

/-- A frame of one member lets every other member stand. -/
theorem free_singleton {parts : List Part} {o e m c : Nat}
    (h : o % 65536 * 256 + m % 256 < c ∨ c < o % 65536 * 256 + m % 256) :
    (⟨parts, [(c, c)]⟩ : Foot).free (mkey o e m) = true := by
  simpa only [Foot.free, keyCode, keyObject_mkey, keyMember_mkey, Nat.mod_mod, List.all_cons, List.all_nil,
    Bool.and_true, Bool.or_eq_true, decide_eq_true_eq] using h

/-- A kept member outside 5001 takes its value while display runs on. -/
theorem displayRuns_putKept (s : State) {o m : Nat} (e v : Nat) (ho : o < 65536) (hm : m < 256)
    (h : o * 256 + m < 0x500100 ∨ 0x5001FF < o * 256 + m) :
    (s.putKept o e m v).displayRuns = s.displayRuns := by
  have hk := State.putKept_keeps1 s o e m v
  rw [Nat.mod_eq_of_lt ho, Nat.mod_eq_of_lt hm] at hk
  exact displayRuns_congr (hk.v_eq 0x5001 0x03 (free_singleton (by
    clear hk; norm_num; omega)))

theorem putKept_seq (s : State) (o e m v : Nat) : (s.putKept o e m v).seq = s.seq :=
  (State.putKept_keeps1 s o e m v).seq_eq

theorem displayRuns_latchNoted (s : State) (t : Nat) :
    (s.enter t).latchNoted.displayRuns = s.displayRuns :=
  displayRuns_congr ((latchNoted_keeps (s.enter t)).v_eq 0x5001 0x03)

/-- The latch point with no frame-class value waiting. -/
theorem latchPoint_undisturbed {s : State} {t : Nat} (h : s.latchDue = true) (hd : s.displayRuns = true)
    (hp : s.seq.pend.all (fun p => p.cls != 2) = true) :
    ∃ s', runs (.latchPoint t) s s' ∧ s'.seq.lastLatch = max s.now t ∧ s'.seq.pend = s.seq.pend ∧
      s'.ingress.named = s'.ingress.sel ∧ s'.codec.window = true ∧ s'.ray.window = true ∧
      s'.ray.fret = 0 ∧ s'.codec.nextBand = 0 ∧ s'.ray.frame = (s.v 0x5001 0x01 + 1) % 2 ^ 32 ∧
      s'.v 0x5001 0x01 = s.v 0x5001 0x01 ∧ (s'.v 0x5001 0x07 = 0 ∨ s'.v 0x5001 0x07 = 1) := by
  have hq := latchNoted_seq (s.enter t)
  have hsel : (s.enter t).latchSelected = (s.enter t).latchNoted :=
    selectFrame_of_none (by rw [hq]; exact hp)
  obtain ⟨u, hr, hl⟩ := runs_latchPoint h (by rw [hsel, displayRuns_latchNoted]; exact hd)
  rw [hsel] at hl
  have h1 : u.v 0x5001 0x01 = s.v 0x5001 0x01 :=
    (hl.keeps.v_eq ..).trans ((latchNoted_keeps (s.enter t)).v_eq ..)
  refine ⟨u, hr, hl.lastLatch.trans (by rw [hq]; rfl), hl.pend.trans (by rw [hq]; rfl),
    hl.named, hl.codecWindow, hl.rayWindow, hl.fret, hl.nextBand, ?_, h1, hl.decision⟩
  rw [hl.frame, h1]

/-- A plain frame-class value takes effect at the latch point. -/
theorem latchPoint_selects {s : State} {t : Nat} {p : Pending} (h : s.latchDue = true)
    (hd : s.displayRuns = true) (hp : s.seq.pend = [p]) (hc : p.cls = 2)
    (hs : displayedMember p.object p.member = false)
    (hm : plainMember (s.enter t) p.object p.element p.member p.value = true) :
    ∃ s', runs (.latchPoint t) s s' ∧ s'.ve p.object p.element p.member = p.value ∧ s'.seq.pend = [] := by
  have hq := latchNoted_seq (s.enter t)
  obtain ⟨hfree, hout, ho, hmb⟩ := plainMember_apart hm
  have hsel : (s.enter t).latchSelected = ({ (s.enter t).latchNoted with
      seq := { (s.enter t).latchNoted.seq with pend := [] } } : State).putKept
        p.object p.element p.member p.value :=
    (selectFrame_of_plain (by rw [hq]; exact hp) hc hs).trans
      ((ownAll_singleton _ p).trans (own_plain (x := p.item) p.master hm))
  obtain ⟨u, hr, hl⟩ := runs_latchPoint h (by
    rw [hsel, displayRuns_putKept _ _ _ ho hmb hout]
    exact (displayRuns_latchNoted s t).trans hd)
  refine ⟨u, hr, (hl.keeps.ve p.object p.element p.member hfree).trans ?_, hl.pend.trans ?_⟩
  · rw [hsel, ve_putKept_self]
  · rw [hsel, putKept_seq]

/-- A frame-class value that acts on what is displayed waits for the nut mark. -/
theorem latchPoint_defers {s : State} {t : Nat} {p : Pending} (h : s.latchDue = true)
    (hd : s.displayRuns = true) (hp : s.seq.pend = [p]) (hc : p.cls = 2)
    (hs : displayedMember p.object p.member = true) :
    ∃ s', runs (.latchPoint t) s s' ∧ s'.seq.nutPend = s.seq.nutPend ++ [p] ∧ s'.seq.pend = [] := by
  have hq := latchNoted_seq (s.enter t)
  have hsel := selectFrame_of_displayed (s := (s.enter t).latchNoted) (by rw [hq]; exact hp) hc hs
  obtain ⟨u, hr, hl⟩ := runs_latchPoint h
    (by rw [State.latchSelected, hsel]; exact (displayRuns_latchNoted s t).trans hd)
  refine ⟨u, hr, hl.nutPend.trans ?_,
    hl.pend.trans ?_⟩
  · rw [State.latchSelected, hsel, hq]; rfl
  · rw [State.latchSelected, hsel]

end Sys2Proof.Machine
end

section
namespace Sys2Proof.Machine

/-! ### Frame-class values at the nut mark (R133) -/

/-- Where the members lie that act on what is displayed. -/
def shownFoot : Foot := ⟨[.blobs, .memory], [(0x580000, 0x5811FF), (0x600000, 0x6010FF)]⟩

theorem displayedMember_cases {o m : Nat} (h : displayedMember o m = true) :
    (o = 0x5800 ∧ (m = 8 ∨ m = 9)) ∨ o = 0x5810 ∨ o = 0x5811 ∨ (o = 0x6000 ∧ (m = 1 ∨ m = 2)) ∨
      o = 0x6010 := by
  unfold displayedMember at h
  split at h <;> simp_all

/-- No unit acts as such a member takes its value, and none of its object's counters clears. -/
theorem displayedMember_passive {o m : Nat} (h : displayedMember o m = true) (s : State) (e v : Nat) :
    ¬ o < 0x5000 ∧ s.ownHigh? o e m v = none ∧ clearedBy o = [] ∧
      (∃ r ∈ shownFoot.keys, r.1 ≤ o % 65536 * 256 ∧ o % 65536 * 256 + 255 ≤ r.2) ∧
      (∀ i b, s.ownBlob o e m i b = s.putBlobKept o e m (spliceBytes (s.blob o e m) i b)) := by
  rcases displayedMember_cases h with ⟨rfl, rfl | rfl⟩ | rfl | rfl | ⟨rfl, rfl | rfl⟩ | rfl <;>
    exact ⟨by decide, rfl, rfl, by decide, fun _ _ => rfl⟩

theorem clearCounters_of_none {s : State} {o : Nat} (h : clearedBy o = []) : s.clearCounters o = s := by
  have hf : s.dict.filter (fun x => !(inRanges (clearedBy o) x.1)) = s.dict :=
    List.filter_eq_self.2 fun x _ => by simp [h, inRanges]
  rw [State.clearCounters, hf]

/-- A member that acts on what is displayed takes its value, and nothing beside. -/
theorem own_displayed {s : State} {x : Staged} (master : Nat)
    (h : displayedMember x.object x.member = true) : Keeps shownFoot s (s.own master x) := by
  obtain ⟨hlow, hown, hclear, ⟨q, hq, hlo, hhi⟩, hblob⟩ :=
    displayedMember_passive h s x.element x.value
  have hm : x.member % 256 < 256 := Nat.mod_lt _ (by decide)
  have hput : ∀ v, Keeps shownFoot s (s.pute x.object x.element x.member v) := fun v =>
    State.pute_keeps _ _ _ _ _ _ 
      ⟨q, hq, hlo.trans (Nat.le_add_right ..), (Nat.add_le_add_left (Nat.le_of_lt_succ hm) _).trans hhi⟩
  unfold State.own
  dsimp only
  split
  · exact .refl _ _
  · refine Keeps.ite (fun _ => hput _) fun _ => Keeps.ite (fun _ => ?_) fun _ =>
      Keeps.ite (fun _ => ?_) fun _ => ?_
    · rw [hblob]
      exact (State.putBlobKept_keeps ..).mono (by decide +kernel)
    · rw [clearCounters_of_none hclear]
      exact .refl _ _
    · rw [if_neg hlow, hown]
      exact (hput _).trans (State.journalize_keeps ..) (by decide +kernel)

theorem ownAll_displayed {l : List Pending} (h : l.all (fun p => displayedMember p.object p.member) = true)
    (s : State) : Keeps shownFoot s (s.ownAll l) := by
  have hf : ∀ (k : List Pending) (x : State), (∀ p ∈ k, p ∈ l) →
      Keeps shownFoot x (k.foldl (fun (st : State) p => st.own p.master p.item) x) := by
    intro k
    induction k with
    | nil => exact fun x _ => .refl _ _
    | cons p k ih =>
      intro x hk
      have hp : displayedMember p.item.object p.item.member = true :=
        List.all_eq_true.1 h p (hk p List.mem_cons_self)
      exact (own_displayed p.master hp).trans (ih _ fun q hq => hk q (List.mem_cons_of_mem _ hq))
        (Foot.sub_refl _)
  unfold State.ownAll
  exact (hf _ s fun _ hp => (List.mem_filter.1 hp).1).trans
    (hf _ _ fun _ hp => (List.mem_filter.1 hp).1) (Foot.sub_refl _)

/-! ### What stays as it is through a nut mark (R124, R138, R139) -/

/-- Where the timeline stands, and what waits. -/
def Seq.place (q : Seq) :
    (Bool × Nat × Bool × Nat × Bool) × List Pending × List Pending × Option Service × Bool :=
  ((q.running, q.frameStart, q.inGap, q.slots, q.overlap), q.pend, q.nutPend, q.serviceDue, q.droneDue)

/-- Display runs and is not asked to stop. -/
def State.lit (s : State) : Prop :=
  s.v 0x5001 0x03 = 1 ∨ s.v 0x5001 0x03 = 2 ∨ s.v 0x5001 0x03 = 3

theorem lit_iff {s : State} : s.lit ↔ s.displayRuns = true ∧ s.v 0x5001 0x03 ≠ 5 := by
  simp only [State.lit, State.displayRuns, Bool.or_eq_true, beq_iff_eq]
  omega

/-- Everything but the numbers of the frame and of the fret, the time, and the network. -/
def nutFoot : Foot :=
  ⟨[.out, .blobs, .ingress, .codec, .comp, .ray, .seq, .panel, .bridge, .loop, .lanes, .memory, .clock,
    .mgmt, .health, .logs], [(0, 0x500100), (0x500103, 0xFFFFFF)]⟩

/-- The frame and its fret stand, and display goes on where it runs. -/
structure InFrame (s u : State) : Prop where
  keeps : Keeps nutFoot s u
  place : u.seq.place = s.seq.place
  lit : s.lit → u.lit

namespace InFrame

variable {s u w : State} {F : Foot}

theorem refl (s : State) : InFrame s s := ⟨.refl _ _, rfl, id⟩

theorem trans (h : InFrame s u) (g : InFrame u w) : InFrame s w where
  keeps := h.keeps.trans g.keeps (Foot.sub_refl _)
  place := g.place.trans h.place
  lit := g.lit ∘ h.lit

theorem ite {c : Prop} [Decidable c] {a b : State} (ha : c → InFrame s a) (hb : ¬c → InFrame s b) :
    InFrame s (if c then a else b) := by
  split
  · exact ha ‹_›
  · exact hb ‹_›

theorem foldl {α : Type} {f : State → α → State} (h : ∀ x a, InFrame x (f x a)) (l : List α) (s : State) :
    InFrame s (l.foldl f s) := by
  induction l generalizing s with
  | nil => exact .refl _
  | cons a l ih => exact (h s a).trans (ih _)

/-- A step that leaves the state of display as it was. -/
theorem ofFoot (h : Keeps F s u) (hp : u.seq.place = s.seq.place)
    (hs : F.sub nutFoot = true := by decide +kernel)
    (hk : F.free (mkey 0x5001 0 0x03) = true := by decide +kernel) : InFrame s u where
  keeps := h.mono hs
  place := hp
  lit hl := by rw [State.lit, h.v_eq _ _ hk]; exact hl

/-- A step that has no part in the timeline. -/
theorem ofKeeps (h : Keeps F s u) (hs : F.sub nutFoot = true := by decide +kernel)
    (hk : F.free (mkey 0x5001 0 0x03) = true := by decide +kernel)
    (hq : F.parts.contains .seq = false := by rfl) : InFrame s u :=
  ofFoot h (congrArg Seq.place (h.seq_eq hq)) hs hk

end InFrame

@[simp] theorem put_seq (s : State) (o m v : Nat) : (s.put o m v).seq = s.seq :=
  (State.put_keeps1 s o m v).seq_eq

@[simp] theorem ince_seq (s : State) (o e m : Nat) : (s.ince o e m).seq = s.seq :=
  (State.ince_keeps1 s o e m).seq_eq

@[simp] theorem inc_seq (s : State) (o m : Nat) : (s.inc o m).seq = s.seq :=
  (State.inc_keeps1 s o m).seq_eq

@[simp] theorem event_seq (s : State) (o e m c : Nat) : (s.event o e m c).seq = s.seq :=
  (State.event_keeps s o e m c).seq_eq

@[simp] theorem log_seq (s : State) (l : LogSpec) : (s.log l).seq = s.seq :=
  (State.log_keeps s l).seq_eq

@[simp] theorem glideWheel_seq (s : State) (b : Bool) : (s.glideWheel b).seq = s.seq :=
  (State.glideWheel_keeps s b).seq_eq

@[simp] theorem forgetHashes_seq (s : State) : s.forgetHashes.seq = s.seq :=
  (State.forgetHashes_keeps s).seq_eq

@[simp] theorem calEnd_seq (s : State) : s.calEnd.seq = s.seq := rfl

@[simp] theorem recomputeReduction_seq (s : State) : s.recomputeReduction.seq = s.seq :=
  (State.recomputeReduction_keeps s).seq_eq

@[simp] theorem configAll_seq (s : State) : s.configAll.seq = s.seq :=
  (State.configAll_keeps s).seq_eq

theorem inFrame_freeze (s : State) (n h x : Nat) : InFrame s (s.freeze n h x) := by
  refine .ofFoot (State.freeze_keeps ..) ?_
  unfold State.freeze
  dsimp only
  split
  · rfl
  · simp only [Seq.place, apply_ite State.seq, log_seq, event_seq, ince_seq, inc_seq, ite_self]

theorem inFrame_signHalf (s : State) (n f h : Nat) : InFrame s (s.signHalf n f h) := by
  unfold State.signHalf
  dsimp only
  generalize s.signature h f = sig
  exact (((InFrame.ofKeeps (State.pute_keeps1 s 0x5011 h 1 sig)).trans
    (.ofKeeps (State.pute_keeps1 _ 0x5011 h 2 n))).trans (.ofKeeps (State.pute_keeps1 _ 0x5011 h 3 f))).trans
      (.foldl (fun x r => inFrame_freeze x n h r) _ _)

/-- The end of a fret is judged; the frame goes on. -/
theorem inFrame_finishFret (s : State) : InFrame s s.finishFret := by
  refine .ofFoot (State.finishFret_keeps s) ?_
  have hf := (InFrame.foldl (fun x h => inFrame_signHalf x s.shownFrame (s.v 0x5001 0x02) h) [0, 1] s).place
  unfold State.finishFret
  dsimp only
  revert hf
  generalize List.foldl _ s [0, 1] = x
  exact id

theorem inFrame_retarget (s : State) (slot k : Nat) : InFrame s (s.retarget slot k) := by
  refine .ofFoot (State.retarget_keeps ..) ?_
  unfold State.retarget
  dsimp only
  simp only [Seq.place, glideWheel_seq, forgetHashes_seq, put_seq]

theorem inFrame_beginGlide (s : State) (slot k cause : Nat) : InFrame s (s.beginGlide slot k cause) where
  keeps := (State.beginGlide_keeps ..).mono (by decide +kernel)
  place := by
    unfold State.beginGlide
    dsimp only
    simp only [Seq.place, apply_ite State.seq, glideWheel_seq, forgetHashes_seq, calEnd_seq,
      inc_seq, put_seq, ite_self]
  lit hl := by
    have hw : ∀ (x : State) b, (x.glideWheel b).v 0x5001 0x03 = x.v 0x5001 0x03 := fun x b =>
      (State.glideWheel_keeps x b).v_eq ..
    have hi : ∀ x : State, (x.inc 0x5002 0x03).v 0x5001 0x03 = x.v 0x5001 0x03 := fun x =>
      (State.inc_keeps1 x 0x5002 0x03).v_eq ..
    have hf : ∀ x : State, x.forgetHashes.v 0x5001 0x03 = x.v 0x5001 0x03 := fun x =>
      (State.forgetHashes_keeps x).v_eq ..
    unfold State.beginGlide
    dsimp only
    generalize hx : State.calEnd _ = x
    have h3 : x.v 0x5001 0x03 = s.v 0x5001 0x03 := by
      rw [← hx]
      exact ((State.calEnd_keeps _).v_eq ..).trans <| ((State.inc_keeps1 _ 0x5002 0x01).v_eq ..).trans <|
        ((State.put_keeps1 _ 0x5001 0x06 _).v_eq ..).trans ((State.put_keeps1 _ 0x5001 0x05 _).v_eq ..)
    have h5 : ¬ x.v 0x5001 0x03 = 5 := h3.trans_ne (lit_iff.1 hl).2
    rw [if_neg h5]
    refine .inr (.inr ?_)
    split
    · rw [hw, hi, v_put_self]
    · rw [hw, hf, v_put_self]

theorem inFrame_waitedGlide (s : State) : InFrame s s.waitedGlide := by
  unfold State.waitedGlide
  exact .ite (fun _ => inFrame_beginGlide ..) fun _ => .refl _

theorem inFrame_startGlide (s : State) : InFrame s s.startGlide := by
  unfold State.startGlide
  split
  · exact .refl _
  · have h0 : InFrame s { s with seq := { s.seq with glideDue := none } } :=
      .ofFoot (Keeps.upd (.refl ⟨[.seq], []⟩ s) (hsq := .inl rfl)) rfl
    exact h0.trans (.ite (fun _ => inFrame_retarget ..) fun _ => inFrame_beginGlide ..)

theorem inFrame_endGlide (s : State) : InFrame s s.endGlide where
  keeps := (State.endGlide_keeps s).mono (by decide +kernel)
  place := by
    unfold State.endGlide
    dsimp only
    simp only [Seq.place, apply_ite State.seq, configAll_seq, forgetHashes_seq,
      recomputeReduction_seq, put_seq, ite_self]
  lit _ := by
    have hf : ∀ x : State, x.forgetHashes.configAll.v 0x5001 0x03 = x.v 0x5001 0x03 := fun x =>
      ((State.configAll_keeps _).v_eq ..).trans ((State.forgetHashes_keeps x).v_eq ..)
    unfold State.endGlide
    dsimp only
    generalize hc : (if State.b _ 0x6801 0x05 = true then 2 else 1) = c
    have h3 : ∀ x : State, (x.put 0x5001 0x03 c).recomputeReduction.v 0x5001 0x03 = c := fun x =>
      ((State.recomputeReduction_keeps _).v_eq ..).trans (v_put_self ..)
    have hc : c = 1 ∨ c = 2 := by
      rw [← hc]
      split
      · exact .inr rfl
      · exact .inl rfl
    have hv : ∀ x : State, x.v 0x5001 0x03 = c → x.lit := fun x hx =>
      hc.elim (fun h => .inl (hx.trans h)) fun h => .inr (.inl (hx.trans h))
    refine hv _ ?_
    split
    · exact h3 _
    · exact (hf _).trans (h3 _)

theorem inFrame_enterRunning (s : State) : InFrame s s.enterRunning := by
  have h2 : InFrame s (s.put 0x5001 0x03 2) :=
    { keeps := (State.put_keeps1 ..).mono (by decide +kernel)
      place := by rw [put_seq]
      lit := fun _ => .inr (.inl (v_put_self ..)) }
  have h3 : ∀ (x : State) ms, InFrame x (x.put 0x1890 0x03 ms) := fun x ms => .ofKeeps (State.put_keeps1 ..)
  unfold State.enterRunning
  refine .ite (fun _ => h2.trans (.ite (fun _ => .ite (fun _ => h3 ..) fun _ => ?_) fun _ => .refl _))
    fun _ => .refl _
  exact .trans (.ofKeeps (State.draw_keeps _ (2 ^ 32))) (h3 ..)

theorem inFrame_changeService (s : State) (v : Service) : InFrame s (s.changeService v) := by
  have hv : InFrame s { s with seq := { s.seq with service := v } } :=
    .ofFoot (Keeps.upd (.refl ⟨[.seq], []⟩ s) (hsq := .inl rfl)) rfl
  have hd : ∀ (x : State) h, InFrame x (x.dropAllHashes h) := fun x h =>
    .ofKeeps (State.dropAllHashes_keeps ..)
  have hc : ∀ (x : State) h y, InFrame x ((x.startClear h shortForm).putHalf h y) := fun x h y =>
    .trans (.ofKeeps (State.startClear_keeps ..)) (.ofKeeps (State.putHalf_keeps ..))
  unfold State.changeService
  exact (hv.trans (.ofKeeps (State.park_keeps ..))).trans
    (.foldl (fun x h => (hd x h).trans (.ite (fun _ => hc ..) fun _ => .refl _)) _ _)

/-! ### The frame that begins (R123, R124) -/

/-- Frame `n` has begun at `t`, in its nut gap, and display goes on. -/
structure FrameBegun (n t : Nat) (u : State) : Prop where
  lit : u.lit
  frame : u.v 0x5001 0x01 = n
  fret : u.v 0x5001 0x02 = 255
  start : u.seq.frameStart = t
  gap : u.seq.inGap = true
  slots : u.seq.slots = 0
  overlap : u.seq.overlap = false
  nutPend : u.seq.nutPend = []

namespace InFrame

variable {s u : State}

theorem v_frame (h : InFrame s u) : u.v 0x5001 0x01 = s.v 0x5001 0x01 := h.keeps.v_eq ..

theorem v_fret (h : InFrame s u) : u.v 0x5001 0x02 = s.v 0x5001 0x02 := h.keeps.v_eq ..

theorem seqs (h : InFrame s u) : (u.seq.running = s.seq.running ∧ u.seq.frameStart = s.seq.frameStart ∧
    u.seq.inGap = s.seq.inGap ∧ u.seq.slots = s.seq.slots ∧ u.seq.overlap = s.seq.overlap) ∧
    u.seq.pend = s.seq.pend ∧ u.seq.nutPend = s.seq.nutPend ∧ u.seq.serviceDue = s.seq.serviceDue ∧
    u.seq.droneDue = s.seq.droneDue := by
  simpa only [Seq.place, Prod.mk.injEq] using h.place

end InFrame

theorem FrameBegun.stays {n t : Nat} {s u : State} (h : FrameBegun n t s) (g : InFrame s u) :
    FrameBegun n t u := by
  obtain ⟨⟨-, hst, hg, hsl, hov⟩, -, hn, -⟩ := g.seqs
  exact {
    lit := g.lit h.lit
    frame := g.v_frame.trans h.frame
    fret := g.v_fret.trans h.fret
    start := hst.trans h.start
    gap := hg.trans h.gap
    slots := hsl.trans h.slots
    overlap := hov.trans h.overlap
    nutPend := hn.trans h.nutPend }

/-- The nut gap begins (R124, R133). -/
def State.gapBegun (s : State) : State :=
  { s.put 0x5001 0x02 255 with
    seq := { s.seq with inGap := true, slot := 0, slots := 0, shownA := [], shownB := [],
                        overlap := false, frozeLoggedA := false, frozeLoggedB := false },
    bridge := { s.bridge with window := none } }

/-- A glide that has come to its end ends (R141). -/
def State.glideEnded (s : State) : State :=
  if s.seq.ending && s.seq.glideDue.isNone && s.v 0x5001 0x03 != 5 then s.endGlide else s

theorem inFrame_glideEnded (s : State) : InFrame s s.glideEnded :=
  .ite (fun _ => inFrame_endGlide s) fun _ => .refl _

theorem gapBegun_keeps (s : State) : Keeps ⟨[.seq, .bridge], [(0x500102, 0x500102)]⟩ s s.gapBegun :=
  Keeps.upd ((State.put_keeps1 s 0x5001 0x02 255).mono (by decide +kernel)) (hsq := .inl rfl) (hb := .inl rfl)

/-- A change of the scan-out service that waits is made. -/
def State.serviceChanged (s : State) : State :=
  match s.seq.serviceDue with
  | some v => ({ s with seq := { s.seq with serviceDue := none } }).changeService v
  | none => s

theorem nutActions_eq (s : State) : s.nutActions =
    if s.glideEnded.gapBegun.v 0x5001 0x03 = 5 then s.glideEnded.gapBegun.judgePilots.stopAtNut
    else
      s.glideEnded.gapBegun.judgePilots.showFrame.waitedGlide.startGlide.enterRunning.serviceChanged.nutPanel.calNut := by
  unfold State.nutActions
  extract_lets s1 w q b s2 s3
  have h1 : s1 = s.glideEnded := rfl
  have h2 : s2 = s1.gapBegun := rfl
  have h3 : s3 = s.glideEnded.gapBegun.judgePilots.showFrame.waitedGlide.startGlide.enterRunning := rfl
  rw [← h3, ← h1, ← h2]
  clear_value s2 s3
  rfl

theorem FrameBegun.serviceChanged {s : State} {n t : Nat} (h : FrameBegun n t s) :
    FrameBegun n t s.serviceChanged := by
  unfold State.serviceChanged
  split
  · have h0 : FrameBegun n t { s with seq := { s.seq with serviceDue := none } } := { h with }
    exact h0.stays (inFrame_changeService ..)
  · exact h

/-- Where display goes on, the nut mark's acts begin the frame in its nut gap. -/
theorem nutActions_begins {s : State} (hl : s.lit)
    (hn : s.seq.nutPend.all (fun p => displayedMember p.object p.member) = true) :
    FrameBegun (s.v 0x5001 0x01) s.seq.frameStart s.nutActions := by
  have he := inFrame_glideEnded s
  obtain ⟨⟨-, hst, -⟩, -, hpe, -⟩ := he.seqs
  have hg := gapBegun_keeps s.glideEnded
  have hv := v_put_self s.glideEnded 0x5001 0x02 255
  have h3 : s.glideEnded.gapBegun.v 0x5001 0x03 = s.glideEnded.v 0x5001 0x03 := hg.v_eq ..
  have h5 : ¬ s.glideEnded.gapBegun.v 0x5001 0x03 = 5 := h3.trans_ne (lit_iff.1 (he.lit hl)).2
  have hj : InFrame s.glideEnded.gapBegun s.glideEnded.gapBegun.judgePilots :=
    .ofKeeps (State.judgePilots_keeps _)
  rw [nutActions_eq, if_neg h5]
  generalize s.glideEnded.gapBegun.judgePilots = y at hj ⊢
  obtain ⟨⟨-, hjs, hjg, hjl, hjo⟩, -, hjn, -⟩ := hj.seqs
  have hx : FrameBegun (s.v 0x5001 0x01) s.seq.frameStart { y with seq := { y.seq with nutPend := [] } } :=
    { lit := hj.lit (by rw [State.lit, h3]; exact he.lit hl)
      frame := (hj.v_frame.trans (hg.v_eq 0x5001 0x01)).trans he.v_frame
      fret := hj.v_fret.trans hv
      start := hjs.trans hst
      gap := hjg
      slots := hjl
      overlap := hjo
      nutPend := rfl }
  have hw : y.seq.nutPend.all (fun p => displayedMember p.object p.member) = true := by
    rw [hjn]
    exact (congrArg (List.all · _) hpe).trans hn
  have hs : FrameBegun _ _ y.showFrame := hx.stays (.ofKeeps (ownAll_displayed hw _))
  have hb := ((hs.stays (inFrame_waitedGlide _)).stays (inFrame_startGlide _)).stays
    (inFrame_enterRunning _)
  exact ((hb.serviceChanged).stays (.ofKeeps (State.nutPanel_keeps _))).stays
    (.ofKeeps (State.calNut_keeps _))

end Sys2Proof.Machine
end

section
namespace Sys2Proof.Machine

/-! ### The figures of the timing mode -/

/-- The members that the figures of the timing mode are read from. -/
def figureKeys : List Nat :=
  [mkey 0x5001 0 4, mkey 0x5001 0 5, mkey 0x5010 0 1, mkey 0x5010 0 2, mkey 0x5010 0 3, mkey 0x5010 0 4,
    mkey 0x5010 0 5, mkey 0x5010 0 6, mkey 0x5010 0 7, mkey 0x5010 0 8]

section
variable {F : Foot} {s u : State}

theorem Keeps.modeSlot_eq (h : Keeps F s u) (n : Nat)
    (hk : figureKeys.all F.free = true := by decide +kernel) :
    u.modeSlot n = s.modeSlot n := by
  simp only [figureKeys, List.all_cons, List.all_nil, Bool.and_eq_true] at hk
  obtain ⟨-, -, h1, h2, h3, h4, h5, h6, h7, h8, -⟩ := hk
  rw [State.modeSlot, h.ve _ n _ h1, h.ve _ n _ h2, h.ve _ n _ h3, h.ve _ n _ h4, h.ve _ n _ h5,
    h.ve _ n _ h6, h.ve _ n _ h7, h.ve _ n _ h8]
  rfl

theorem Keeps.target_eq (h : Keeps F s u) (hd : u.seq.factorDue = s.seq.factorDue)
    (hf : u.seq.factor = s.seq.factor) (hk : figureKeys.all F.free = true := by decide +kernel) :
    u.target? = s.target? := by
  have h5 : F.free (mkey 0x5001 0 5) = true := List.all_eq_true.1 hk _ (by simp [figureKeys])
  rw [State.target?, h.v_eq _ _ h5, hd, hf, h.modeSlot_eq _ hk]
  rfl

theorem Keeps.figures_eq (h : Keeps F s u) (hq : u.seq = s.seq)
    (hk : figureKeys.all F.free = true := by decide +kernel) : u.figures = s.figures := by
  have h4 : F.free (mkey 0x5001 0 4) = true := List.all_eq_true.1 hk _ (by simp [figureKeys])
  have hm : ∀ n, u.modeSlot n = s.modeSlot n := fun n => h.modeSlot_eq n hk
  have ht : u.target? = s.target? := h.target_eq (by rw [hq]) (by rw [hq]) hk
  simp only [State.figures, State.mode, State.viaModes, State.leftMode, ht, hm, hq, h.v_eq _ _ h4]

end

/-! ### Nut marks (R123, R124) -/

/-- What begins at another cycle leaves the time as it was. -/
theorem atCycle_keepsNow {F : Foot} {s : State} {n : Nat} {act : State → State}
    (g : Keeps F { s with now := n } (act { s with now := n })) : Keeps F s (s.atCycle n act) :=
  { g with now := .inr rfl }

/-- The park at the end of the last fret before display stops. -/
theorem stopPark_keepsNow (s : State) : Keeps ⟨[.out, .panel, .lanes], [(0x580105, 0x580105),
    (0x580201, 0x580201), (0x580203, 0x580204), (0x70020C, 0x70020C), (0x700309, 0x700309),
    (0x701001, 0x701001)]⟩ s s.stopPark :=
  Keeps.ite (fun _ => atCycle_keepsNow (State.park_keeps ..)) fun _ => .refl _ _

theorem stopPark_of_lit {s : State} (h : s.v 0x5001 0x03 ≠ 5) : s.stopPark = s := by
  simp [State.stopPark, h]

/-- The device frame number has advanced, and its frame begins now (R439). -/
def State.numbered (s : State) (early : Bool) : State :=
  { s.advanceFrame with
    seq := { s.advanceFrame.seq with frameStart := s.advanceFrame.now, nextNut := none, overlap := early } }

/-- The fret on display has ended by the nut mark. -/
def State.fretOver (s : State) : State := if s.seq.inGap then s else s.finishFret

theorem inFrame_fretOver (s : State) : InFrame s s.fretOver :=
  .ite (fun _ => .refl _) fun _ => inFrame_finishFret s

theorem advanceFrame_seq (s : State) : s.advanceFrame.seq = { s.seq with lastAdvance := s.now } :=
  (State.put_keeps1 _ 0x5001 0x01 _).seq_eq

theorem advanceFrame_frame (s : State) : s.advanceFrame.v 0x5001 0x01 = (s.v 0x5001 0x01 + 1) % 2 ^ 32 :=
  v_put_self ..

theorem numbered_keeps (s : State) (early : Bool) :
    Keeps ⟨[.seq], [(0x500101, 0x500101)]⟩ s (s.numbered early) :=
  Keeps.upd (State.advanceFrame_keeps s) (hsq := .inl rfl)

theorem numbered_seq (s : State) (early : Bool) : (s.numbered early).seq =
    { s.seq with lastAdvance := s.now, frameStart := s.now, nextNut := none, overlap := early } := by
  have hn : s.advanceFrame.now = s.now := (State.advanceFrame_keeps s).now_eq
  rw [State.numbered, advanceFrame_seq, hn]

/-- The nut mark comes before fret F − 1 has ended. -/
def State.nutEarly (s : State) : Bool :=
  !s.seq.inGap && decide (s.now < s.seq.fretStart + s.figures.fretPeriod)

theorem doNutMark_early {s : State} (hr : s.stopPark.seq.running = true) (ho : s.stopPark.seq.overlap = false)
    (he : s.stopPark.nutEarly = true) : s.doNutMark = s.stopPark.numbered true := by
  unfold State.nutEarly at he
  unfold State.doNutMark
  simp only [hr, ho, he, Bool.not_false, Bool.and_self, if_true, Bool.true_or]
  rfl

theorem doNutMark_late {s : State} (hr : s.stopPark.seq.running = true) (ho : s.stopPark.seq.overlap = false)
    (he : s.stopPark.nutEarly = false) :
    s.doNutMark = (s.stopPark.fretOver.numbered false).nutActions.settle := by
  unfold State.nutEarly at he
  unfold State.doNutMark
  simp only [hr, ho, he, Bool.not_false, Bool.and_self, if_true, Bool.false_or, Bool.false_eq_true, if_false]
  rfl

theorem doLastFretEnd_of_overlap {s : State} (hr : s.stopPark.seq.running = true)
    (ho : s.stopPark.seq.overlap = true) : s.doLastFretEnd =
      ({ s.stopPark.finishFret with seq := { s.stopPark.finishFret.seq with overlap := false } } :
        State).nutActions.settle := by
  unfold State.doLastFretEnd
  simp only [hr, ho, Bool.and_self, if_true]

/-- The nut mark in the nut gap, or after fret F − 1: the new frame begins in its nut gap. -/
theorem nutMark_begins {s : State} {t : Nat} (hr : s.seq.running = true) (ho : s.seq.overlap = false)
    (hd : s.displayRuns = true) (h5 : s.v 0x5001 0x03 ≠ 5)
    (hg : s.seq.inGap = true ∨ s.seq.fretStart + s.figures.fretPeriod ≤ max s.now t)
    (hn : s.seq.nutPend.all (fun p => displayedMember p.object p.member) = true) :
    ∃ s', runs (.nutMark t) s s' ∧ FrameBegun ((s.v 0x5001 0x01 + 1) % 2 ^ 32) (max s.now t) s' := by
  have hp : (s.enter t).stopPark = s.enter t := stopPark_of_lit h5
  have he : (s.enter t).nutEarly = false := by
    have hf : (s.enter t).figures = s.figures := rfl
    simp only [State.nutEarly, Bool.and_eq_false_iff, Bool.not_eq_false', decide_eq_false_iff_not,
      Nat.not_lt, hf]
    exact hg
  have hm := doNutMark_late (s := s.enter t) (by rw [hp]; exact hr) (by rw [hp]; exact ho)
    (by rw [hp]; exact he)
  rw [hp] at hm
  have hi := inFrame_fretOver (s.enter t)
  obtain ⟨-, -, hpn, -⟩ := hi.seqs
  have hnow : (s.enter t).fretOver.now = max s.now t := hi.keeps.now_eq
  have hk := numbered_keeps (s.enter t).fretOver false
  have hq := numbered_seq (s.enter t).fretOver false
  have hl : ((s.enter t).fretOver.numbered false).lit := by
    have := hi.lit (lit_iff.2 ⟨hd, h5⟩)
    rw [State.lit, hk.v_eq 0x5001 0x03]
    exact this
  have hb := nutActions_begins hl (by rw [hq]; dsimp only; rw [hpn]; exact hn)
  have hv : ((s.enter t).fretOver.numbered false).v 0x5001 0x01 = (s.v 0x5001 0x01 + 1) % 2 ^ 32 := by
    refine (advanceFrame_frame _).trans ?_
    rw [hi.v_frame]
    rfl
  rw [hv, hq, hnow] at hb
  refine ⟨_, ?_, hb⟩
  change Host.Outcome.next _ = _
  rw [hm, settle_of_displayRuns (lit_iff.1 hb.lit).1]

/-- The end of fret F − 1 after an early nut mark: the new frame's nut gap begins. -/
theorem lastFretEnd_begins {s : State} {t : Nat} (hr : s.seq.running = true) (ho : s.seq.overlap = true)
    (hd : s.displayRuns = true) (h5 : s.v 0x5001 0x03 ≠ 5)
    (hn : s.seq.nutPend.all (fun p => displayedMember p.object p.member) = true) :
    ∃ s', runs (.fretFMinus1End t) s s' ∧ FrameBegun (s.v 0x5001 0x01) s.seq.frameStart s' := by
  have hp : (s.enter t).stopPark = s.enter t := stopPark_of_lit h5
  have hm := doLastFretEnd_of_overlap (s := s.enter t) (by rw [hp]; exact hr) (by rw [hp]; exact ho)
  rw [hp] at hm
  have hi := inFrame_finishFret (s.enter t)
  generalize (s.enter t).finishFret = y at hi hm
  obtain ⟨⟨-, hst, -⟩, -, hpn, -⟩ := hi.seqs
  have hb : FrameBegun (y.v 0x5001 0x01) y.seq.frameStart
      ({ y with seq := { y.seq with overlap := false } } : State).nutActions :=
    nutActions_begins (s := { y with seq := { y.seq with overlap := false } })
      (hi.lit (lit_iff.2 ⟨hd, h5⟩)) ((congrArg (List.all · _) hpn).trans hn)
  rw [hi.v_frame, hst] at hb
  refine ⟨_, ?_, hb⟩
  change Host.Outcome.next _ = _
  rw [hm, settle_of_displayRuns (lit_iff.1 hb.lit).1]

/-- An early nut mark: the frame is numbered, and what is displayed goes on. -/
theorem nutMark_waits {s : State} {t : Nat} (hr : s.seq.running = true) (ho : s.seq.overlap = false)
    (hg : s.seq.inGap = false) (he : max s.now t < s.seq.fretStart + s.figures.fretPeriod) :
    ∃ s', runs (.nutMark t) s s' ∧ s'.v 0x5001 0x01 = (s.v 0x5001 0x01 + 1) % 2 ^ 32 ∧
      s'.v 0x5001 0x02 = s.v 0x5001 0x02 ∧ s'.seq.frameStart = max s.now t ∧ s'.seq.overlap = true := by
  have hp := stopPark_keepsNow (s.enter t)
  have hq : (s.enter t).stopPark.seq = s.seq := hp.seq_eq
  have hn : (s.enter t).stopPark.now = max s.now t := hp.now_eq
  have hf : (s.enter t).stopPark.figures = s.figures := hp.figures_eq hq
  have hm := doNutMark_early (s := s.enter t) (by rw [hq]; exact hr) (by rw [hq]; exact ho)
    (by simp [State.nutEarly, hq, hn, hf, hg, he])
  have h1 : (s.enter t).stopPark.v 0x5001 0x01 = s.v 0x5001 0x01 := hp.v_eq ..
  have h2 : (s.enter t).stopPark.v 0x5001 0x02 = s.v 0x5001 0x02 := hp.v_eq ..
  refine ⟨_, congrArg Host.Outcome.next hm, ?_, ?_, ?_, ?_⟩
  · exact (advanceFrame_frame _).trans (by rw [h1])
  · exact ((numbered_keeps _ true).v_eq ..).trans h2
  · rw [numbered_seq, hn]
  · rw [numbered_seq]

end Sys2Proof.Machine
end

section
namespace Sys2Proof.Machine

/-! ### The nut mark that ends display (R147) -/

theorem calm_iff {s : State} : s.calm = true ↔ s.seq.pend = [] ∧ s.seq.nutPend = [] ∧
    s.seq.serviceDue = none ∧ s.seq.droneDue = false ∧ s.net.stepTo = none := by
  simp only [State.calm, Bool.and_eq_true, List.isEmpty_iff, Option.isNone_iff_eq_none, Bool.not_eq_true',
    and_assoc]

theorem InFrame.calm {s u : State} (h : InFrame s u) (hc : s.calm = true) : u.calm = true := by
  obtain ⟨-, hp, hn, hs, hd⟩ := h.seqs
  rw [calm_iff] at hc ⊢
  rw [hp, hn, hs, hd, h.keeps.net_eq]
  exact hc

/-- Display has ended in frame `n`, and nothing waits. -/
structure DisplayOver (n : Nat) (u : State) : Prop where
  running : u.seq.running = false
  state : u.v 0x5001 0x03 = 0
  stopDue : u.seq.stopDue = false
  frame : u.v 0x5001 0x01 = n
  calm : u.calm = true

theorem DisplayOver.stays {n : Nat} {F : Foot} {s u : State} (h : DisplayOver n s) (g : Keeps F s u)
    (hq : F.parts.contains .seq = false := by rfl) (hn : F.parts.contains .net = false := by rfl)
    (h1 : F.free (mkey 0x5001 0 1) = true := by decide +kernel)
    (h3 : F.free (mkey 0x5001 0 3) = true := by decide +kernel) : DisplayOver n u where
  running := (congrArg Seq.running (g.seq_eq hq)).trans h.running
  state := (g.v_eq _ _ h3).trans h.state
  stopDue := (congrArg Seq.stopDue (g.seq_eq hq)).trans h.stopDue
  frame := (g.v_eq _ _ h1).trans h.frame
  calm := (calm_congr (g.seq_eq hq) (g.net_eq hn)).trans h.calm

/-- The members of 5001 once display has ended. -/
def State.restShown (x : State) (slot : Nat) : State :=
  ((((x.put 0x5001 0x02 255).put 0x5001 0x03 0).put 0x5001 0x05 255).put 0x5001 0x06 0).put 0x5001 0x04 slot

theorem restShown_keeps (x : State) (slot : Nat) :
    Keeps ⟨[], [(0x500102, 0x500106)]⟩ x (x.restShown slot) := by
  refine Keeps.trans ?_ (State.put_keeps1 ..) (by decide +kernel)
  refine Keeps.trans ?_ (State.put_keeps1 ..) (by decide +kernel)
  refine Keeps.trans ?_ (State.put_keeps1 ..) (by decide +kernel)
  refine Keeps.trans ?_ (State.put_keeps1 ..) (by decide +kernel)
  exact (State.put_keeps1 ..).mono (by decide +kernel)

theorem restShown_state (x : State) (slot : Nat) : (x.restShown slot).v 0x5001 0x03 = 0 :=
  ((State.put_keeps1 _ 0x5001 0x04 _).v_eq ..).trans <| ((State.put_keeps1 _ 0x5001 0x06 _).v_eq ..).trans <|
    ((State.put_keeps1 _ 0x5001 0x05 _).v_eq ..).trans (v_put_self ..)

theorem endTimeline_over {s : State} (h : s.calm = true) :
    DisplayOver (s.v 0x5001 0x01) s.endTimeline := by
  have hc := State.closeWindows_keeps s
  have hw : s.closeWindows.calm = true := (calm_congr hc.seq_eq hc.net_eq).trans h
  have h1 : s.closeWindows.v 0x5001 0x01 = s.v 0x5001 0x01 := hc.v_eq ..
  unfold State.endTimeline
  extract_lets s0 q b l s1
  have hk := restShown_keeps s1 (s1.v 0x5000 0x01)
  have hr : DisplayOver (s.v 0x5001 0x01) (s1.restShown (s1.v 0x5000 0x01)) :=
    { running := congrArg Seq.running hk.seq_eq
      state := restShown_state ..
      stopDue := congrArg Seq.stopDue hk.seq_eq
      frame := (hk.v_eq ..).trans h1
      calm := (calm_congr hk.seq_eq hk.net_eq).trans hw }
  exact hr.stays (State.setReceivers_keeps _)

theorem stopAtNut_over {s : State} (h : s.calm = true) : DisplayOver (s.v 0x5001 0x01) s.stopAtNut := by
  obtain ⟨-, -, -, hd, -⟩ := calm_iff.1 h
  have he := ((endTimeline_over h).stays (State.park_keeps _ [0, 1])).stays (State.calFinish_keeps _)
  have hs : ∀ x : State, DisplayOver (s.v 0x5001 0x01) x →
      DisplayOver (s.v 0x5001 0x01) { x with seq := { x.seq with droneDue := false } } := fun x hx =>
    { running := hx.running
      state := hx.state
      stopDue := hx.stopDue
      frame := hx.frame
      calm := by
        have := hx.calm
        simp only [calm_iff] at this ⊢
        obtain ⟨hp, hn, hs, -, ht⟩ := this
        exact ⟨hp, hn, hs, trivial, ht⟩ }
  unfold State.stopAtNut
  simp only [hd, Bool.false_eq_true, if_false, Bool.not_false, if_true]
  have h3 := hs _ he
  rw [settle_of_calm h3.calm]
  split
  · exact h3.stays (State.brake_keeps _)
  · exact h3

/-- The nut actions of a display that is to stop. -/
theorem nutActions_over {s : State} (h : s.calm = true) (h5 : s.v 0x5001 0x03 = 5) :
    DisplayOver (s.v 0x5001 0x01) s.nutActions := by
  have he : s.glideEnded = s := by simp [State.glideEnded, h5]
  have hg := gapBegun_keeps s
  have h3 : s.gapBegun.v 0x5001 0x03 = 5 := (hg.v_eq ..).trans h5
  have hj := State.judgePilots_keeps s.gapBegun
  have hc : s.gapBegun.judgePilots.calm = true := (calm_congr hj.seq_eq hj.net_eq).trans h
  have h1 : s.gapBegun.judgePilots.v 0x5001 0x01 = s.v 0x5001 0x01 := (hj.v_eq ..).trans (hg.v_eq ..)
  rw [nutActions_eq, he, if_pos h3, ← h1]
  exact stopAtNut_over hc

theorem fretOver_state (s : State) : s.fretOver.v 0x5001 0x03 = s.v 0x5001 0x03 := by
  unfold State.fretOver
  split
  · rfl
  · exact (State.finishFret_keeps s).v_eq ..

theorem numbered_calm (s : State) (early : Bool) : (s.numbered early).calm = s.calm := by
  simp only [State.calm, numbered_seq, (numbered_keeps s early).net_eq]

/-- The nut mark at which a requested stop ends display. -/
theorem nutMark_stops {s : State} {t : Nat} (hr : s.seq.running = true) (ho : s.seq.overlap = false)
    (h5 : s.v 0x5001 0x03 = 5) (hc : s.calm = true)
    (hg : s.seq.inGap = true ∨ s.seq.fretStart + s.figures.fretPeriod ≤ max s.now t) :
    ∃ s', runs (.nutMark t) s s' ∧ DisplayOver ((s.v 0x5001 0x01 + 1) % 2 ^ 32) s' := by
  have hp := stopPark_keepsNow (s.enter t)
  have hq : (s.enter t).stopPark.seq = s.seq := hp.seq_eq
  have hn : (s.enter t).stopPark.now = max s.now t := hp.now_eq
  have hf : (s.enter t).stopPark.figures = s.figures := hp.figures_eq hq
  have hw : (s.enter t).stopPark.calm = true := (calm_congr hq hp.net_eq).trans hc
  have h1 : (s.enter t).stopPark.v 0x5001 0x01 = s.v 0x5001 0x01 := hp.v_eq ..
  have h3 : (s.enter t).stopPark.v 0x5001 0x03 = 5 := (hp.v_eq ..).trans h5
  have hm := doNutMark_late (s := s.enter t) (by rw [hq]; exact hr) (by rw [hq]; exact ho) (by
    simp only [State.nutEarly, Bool.and_eq_false_iff, Bool.not_eq_false', decide_eq_false_iff_not, Nat.not_lt,
      hq, hn, hf]
    exact hg)
  have hi := inFrame_fretOver (s.enter t).stopPark
  have hz := (fretOver_state (s.enter t).stopPark).trans h3
  have hk := numbered_keeps (s.enter t).stopPark.fretOver false
  have hb := nutActions_over (s := (s.enter t).stopPark.fretOver.numbered false)
    ((numbered_calm _ false).trans (hi.calm hw)) ((hk.v_eq ..).trans hz)
  rw [show ((s.enter t).stopPark.fretOver.numbered false).v 0x5001 0x01 = (s.v 0x5001 0x01 + 1) % 2 ^ 32 from
    (advanceFrame_frame _).trans (by rw [hi.v_frame, h1])] at hb
  refine ⟨_, ?_, hb⟩
  change Host.Outcome.next _ = _
  rw [hm, settle_of_calm hb.calm]

end Sys2Proof.Machine
end

section
namespace Sys2Proof.Machine

/-! ### What the wheel's acts leave as it was (R214) -/

/-- What the wheel's acts may change: no member of the timeline but the state of display, no timing mode. -/
def wheelFoot : Foot :=
  ⟨[.out, .seq, .bridge, .loop, .memory, .clock, .mgmt, .health, .logs],
    [(0, 0x500100), (0x500103, 0x500103), (0x600000, 0xFFFFFF)]⟩

/-- The count and the stamps of the last nut mark. -/
def Loop.mark (l : Loop) : Int × Nat × Nat × Option Nat := (l.count, l.nuts, l.lastNut, l.rev)

/-- The sequencer but for the requested stop. -/
def Seq.unstopped (q : Seq) : Seq := { q with stopDue := false, stopLit := false }

/-- An act of the wheel: neither the last nut mark's record nor the timeline changes, but for a stop that is
requested. -/
structure OnWheel (s u : State) : Prop where
  keeps : Keeps wheelFoot s u
  mark : u.loop.mark = s.loop.mark
  seq : u.seq.unstopped = s.seq.unstopped

namespace OnWheel

variable {s u w : State} {F : Foot}

theorem refl (s : State) : OnWheel s s := ⟨.refl _ _, rfl, rfl⟩

theorem trans (h : OnWheel s u) (g : OnWheel u w) : OnWheel s w where
  keeps := h.keeps.trans g.keeps (Foot.sub_refl _)
  mark := g.mark.trans h.mark
  seq := g.seq.trans h.seq

theorem ite {c : Prop} [Decidable c] {a b : State} (ha : OnWheel s a) (hb : OnWheel s b) :
    OnWheel s (if c then a else b) := by
  split
  · exact ha
  · exact hb

theorem foldl {α : Type} {f : State → α → State} (h : ∀ x a, OnWheel x (f x a)) (l : List α) (s : State) :
    OnWheel s (l.foldl f s) := by
  induction l generalizing s with
  | nil => exact .refl _
  | cons a l ih => exact (h s a).trans (ih _)

/-- An act in which only the loop engine's other state may change. -/
theorem ofMark (h : Keeps F s u) (hm : u.loop.mark = s.loop.mark)
    (hs : F.sub wheelFoot = true := by decide +kernel)
    (hq : F.parts.contains .seq = false := by rfl) : OnWheel s u :=
  ⟨h.mono hs, hm, congrArg Seq.unstopped (h.seq_eq hq)⟩

/-- An act that has no part in the loop engine. -/
theorem ofKeeps (h : Keeps F s u) (hs : F.sub wheelFoot = true := by decide +kernel)
    (hl : F.parts.contains .loop = false := by rfl) (hq : F.parts.contains .seq = false := by rfl) :
    OnWheel s u :=
  ofMark h (congrArg Loop.mark (h.loop_eq hl)) hs hq

/-- An act that has no part in the loop engine follows. -/
theorem step (h : OnWheel s u) (g : Keeps F u w) (hs : F.sub wheelFoot = true := by decide +kernel)
    (hl : F.parts.contains .loop = false := by rfl) (hq : F.parts.contains .seq = false := by rfl) :
    OnWheel s w :=
  h.trans (ofKeeps g hs hl hq)

/-- The loop engine's other state changes. -/
theorem setLoop {l : Loop} (h : OnWheel s u) (hm : l.mark = u.loop.mark := by rfl) :
    OnWheel s { u with loop := l } :=
  h.trans (ofMark (Keeps.upd (.refl ⟨[.loop], []⟩ u) (hl := .inl rfl)) hm)

end OnWheel

section
variable (s : State)

theorem onWheel_putSec (n j : Nat) (x : Section) : OnWheel s (s.putSec n j x) := .setLoop (.refl s)

theorem onWheel_section (n : Nat) (x : LoopRun) (j : Nat) : OnWheel x.s (LoopRun.section n x j).s := by
  unfold LoopRun.section
  dsimp only
  refine .trans ?_ (onWheel_putSec ..)
  refine .ite (.step ?_ (State.secFlag_keeps ..)) ?_
  all_goals exact .ite (.step (.refl _) (State.secFlag_keeps ..)) (.refl _)

theorem onWheel_sections (n : Nat) (l : List Nat) (x : LoopRun) :
    OnWheel x.s (l.foldl (LoopRun.section n) x).s := by
  induction l generalizing x with
  | nil => exact .refl _
  | cons j l ih => exact (onWheel_section n x j).trans (ih _)

/-- What follows a slot's sections: the outputs are shown, and a saturation is counted. -/
theorem onWheel_stepShown {s : State} {n : Nat} (r : LoopRun) (q : Int × Int × State) (h : OnWheel s q.2.2)
    {clear : Prop} [Decidable clear] :
    OnWheel s (match q with
      | (out, d, s1) =>
        if r.sat = true then
          (d, if clear then
              (((s1.showLoop n out r.e).ince 0x6810 n 0x04).inc 0x6802 0x01).event 0x6810 n 0x05 0
            else ((s1.showLoop n out r.e).ince 0x6810 n 0x04).inc 0x6802 0x01)
        else (d, (s1.showLoop n out r.e).ince 0x6810 n 0x04)).2 := by
  have h3 := (h.step (State.showLoop_keeps q.2.2 n q.1 r.e)).step (State.ince_keeps1 _ 0x6810 n 0x04)
  have h4 := h3.step (State.inc_keeps1 _ 0x6802 0x01)
  dsimp only
  split
  · exact .ite (h4.step (State.event_keeps ..)) h4
  · exact h3

theorem onWheel_stepLoopMant (n : Nat) (m : Int) (dest : Option LoopDest) :
    OnWheel s (s.stepLoopMant n m dest).2 := by
  unfold State.stepLoopMant
  split
  · exact .refl _
  · have h0 : OnWheel s (if (satMant m).2 = true then s.slotFlag n 0x100 else s) :=
      .ite (.step (.refl _) (State.slotFlag_keeps ..)) (.refl _)
    have hr := h0.trans (onWheel_sections n (List.range (s.slotSections n))
      { s := if (satMant m).2 = true then s.slotFlag n 0x100 else s, m := (satMant m).1,
        e := s.slotInExp n, sat := (satMant m).2 })
    dsimp only
    generalize List.foldl (LoopRun.section n) _ _ = r at hr ⊢
    refine onWheel_stepShown _ _ ?_
    split
    · exact hr
    · split
      · exact hr
      · exact .step (.ite hr (hr.trans (onWheel_putSec ..))) (State.slotFlag_keeps ..)

theorem onWheel_stepLoop (n : Nat) (num : Int) (den : Nat) (dest : LoopDest) :
    OnWheel s (s.stepLoop n num den dest).2 := onWheel_stepLoopMant ..

theorem onWheel_presetLoop (n : Nat) (num : Int) (den : Nat) : OnWheel s (s.presetLoop n num den) := by
  have hc : OnWheel s (s.clearLoop n) := .foldl (fun x j => onWheel_putSec x n j _) _ _
  unfold State.presetLoop State.presetMant
  exact .ite (hc.step (State.showLoop_keeps ..)) (hc.trans (onWheel_putSec ..))

theorem onWheel_putS32 (m : Nat) (x : Int) : OnWheel s (s.putS32 0x6801 m x) := by
  unfold State.putS32
  exact .ite (.step (.refl _) (State.put_keepsO ..))
    (.step (.step (.refl _) (State.draw_keeps s (2 ^ 32))) (State.put_keepsO ..))

theorem onWheel_sendDrive : OnWheel s s.sendDrive := by
  unfold State.sendDrive
  refine .ite (.refl _) (.step ?_ (State.emit_keeps ..))
  exact .setLoop (.refl _)

theorem onWheel_disengage : OnWheel s s.disengage := by
  unfold State.disengage
  refine .ite ?_ (.refl _)
  refine .step (.step (.step (.step ?_ (State.putBit_keeps1 ..)) (State.put_keeps1 ..))
    (State.freezeLoop_keeps ..)) (State.unlock_keeps ..)
  exact .setLoop (.refl _)

theorem onWheel_requestStop : OnWheel s s.requestStop := by
  refine ⟨(State.requestStop_keeps s).mono (by decide +kernel),
    congrArg Loop.mark (State.requestStop_keeps s).loop_eq, ?_⟩
  unfold State.requestStop
  dsimp only
  split
  · rw [calEnd_seq, put_seq]
    rfl
  · rfl

theorem onWheel_coast (st : Nat) : OnWheel s (s.coast st) := by
  have h1 := ((((onWheel_disengage s).step (State.freezeLoop_keeps _ 48 true)).step
    (State.freezeLoop_keeps _ 49 true)).step (State.putTorque_keeps _ 0)).step
      (State.put_keeps1 _ 0x6801 0x05 0)
  have h2 : OnWheel s _ := ((h1.setLoop (l := { State.loop _ with rearm := 0, brakeDue := false })).trans
    (onWheel_requestStop _)).step (State.putWheel_keeps _ st)
  unfold State.coast
  exact .ite (h2.step (State.emit_keeps ..)) (h2.trans (onWheel_sendDrive _))

theorem onWheel_encoderLost (rule : Nat) (count : Int) : OnWheel s (s.encoderLost rule count) := by
  have h1 : OnWheel s (({ s with loop := { s.loop with lost := true } } : State).inc 0x6802 0x09) :=
    .step (.setLoop (.refl _)) (State.inc_keeps1 ..)
  unfold State.encoderLost
  refine .ite (.refl _) (.ite h1 ?_)
  exact (((h1.step (State.putBit_keeps1 ..)).step (State.log_keeps ..)).step (State.blankAll_keeps ..)).trans
    (onWheel_coast ..)

theorem onWheel_faultedCoast (bit : Nat) : OnWheel s (s.faultedCoast bit) := by
  have h1 : OnWheel s (s.putBit 0x6801 0x06 bit true) := .step (.refl _) (State.putBit_keeps1 ..)
  unfold State.faultedCoast
  exact .ite h1 ((OnWheel.ite h1 (h1.step (State.log_keeps ..))).trans (onWheel_coast ..))

theorem onWheel_engage (acq : Bool) : OnWheel s (s.engage acq) := by
  unfold State.engage
  split
  · exact .refl _
  · dsimp only
    refine .step (.step (.step (.trans (.step ?_ (State.freezeLoop_keeps ..)) (onWheel_presetLoop ..))
      (State.putBit_keeps1 ..)) (State.put_keeps1 ..)) (State.putWheel_keeps ..)
    exact .setLoop (.refl _)

theorem onWheel_lockTick (e : Int) : OnWheel s (s.lockTick e) := by
  unfold State.lockTick
  dsimp only
  refine .ite ?_ ?_
  · have h1 : OnWheel s (if s.b 0x6801 0x04 ∧ 0 < s.loop.outRun ∧ s.loop.outRun < 4 then
        s.inc 0x6802 0x05 else s) := .ite (.step (.refl _) (State.inc_keeps1 ..)) (.refl _)
    generalize (if s.b 0x6801 0x04 ∧ 0 < s.loop.outRun ∧ s.loop.outRun < 4 then s.inc 0x6802 0x05
      else s) = y at h1 ⊢
    refine .ite ?_ (.setLoop h1)
    refine .step (.step (.step ?_ (State.put_keeps1 ..)) (State.putWheel_keeps ..)) (State.releaseAll_keeps ..)
    exact .setLoop h1
  · refine .ite (.step (.step ?_ (State.unlock_keeps ..)) (State.putWheel_keeps ..)) ?_
    all_goals exact .setLoop (.refl _)

theorem onWheel_phaseTick (i stamp : Nat) : OnWheel s (s.phaseTick i stamp).2 := by
  unfold State.phaseTick
  split
  · exact .refl _
  · dsimp only
    refine .trans (.trans (.trans (.trans ?_ (onWheel_putS32 ..)) (onWheel_stepLoop ..)) (onWheel_putS32 ..))
      (onWheel_lockTick ..)
    exact .setLoop (.refl _)

theorem onWheel_closeSpeed : OnWheel s s.closeSpeed := by
  unfold State.closeSpeed
  dsimp only
  refine .step ?_ (State.putWheel_keeps ..)
  refine .setLoop (.trans (.step (.refl _) (State.freezeLoop_keeps ..)) (onWheel_presetLoop ..))

theorem onWheel_brake : OnWheel s s.brake := by
  have h0 : OnWheel s { s with loop := { s.loop with brakeDue := false } } := .setLoop (.refl _)
  unfold State.brake
  refine .ite ((h0.trans (onWheel_disengage _)).step (State.putWheel_keeps ..))
    (.ite (.step ?_ (State.putWheel_keeps ..)) (.ite (h0.step (State.putWheel_keeps ..)) h0))
  exact .setLoop (h0.trans (onWheel_presetLoop ..))

theorem onWheel_glideWheel (measured : Bool) : OnWheel s (s.glideWheel measured) := by
  unfold State.glideWheel
  refine .ite (.step (.trans ?_ (onWheel_disengage _)) (State.putWheel_keeps ..)) (.refl _)
  exact .ite (.setLoop (.refl _)) (.refl _)

theorem onWheel_loopTick (i stamp : Nat) : OnWheel s (s.loopTick i stamp) := by
  unfold State.loopTick
  split
  · exact .refl _
  · extract_lets tt goal acc f' l s0 pt
    have h0 : OnWheel s s0 := .setLoop (.refl _)
    have hp : OnWheel s (if s0.engaged then s0.phaseTick i stamp else (0, s0)).2 := by
      split
      · exact h0.trans (onWheel_phaseTick ..)
      · exact h0
    generalize (if s0.engaged then s0.phaseTick i stamp else (0, s0)) = p at hp ⊢
    obtain ⟨u, s1⟩ := p
    dsimp -zeta only
    extract_lets pp s3 st s4
    have h2 := hp.trans (onWheel_stepLoop s1 48 (64 * (tt : Int) - pp) (64 * tt)
      { frac := 15, lo := -(s.v 0x6800 0x08 : Int), hi := s.v 0x6800 0x07 })
    have h3 : OnWheel s s3 := .ite h2 (h2.step (State.putTorque_keeps ..))
    have h4 : OnWheel s s4 :=
      .ite (.ite (.ite (h3.step (State.putWheel_keeps ..)) (h3.trans (onWheel_engage ..)))
        (.ite (h3.trans (onWheel_engage ..)) h3)) h3
    exact .ite ((h4.step (State.putTorque_keeps ..)).step (State.putWheel_keeps ..)) h4

theorem onWheel_doTick (i stamp : Nat) : OnWheel s (s.doTick i stamp) := by
  unfold State.doTick
  extract_lets tt l s1 st s2 l2 s3
  have h1 : OnWheel s s1 := .setLoop (.refl _)
  have h2 : OnWheel s s2 := .ite (.ite (h1.trans (onWheel_closeSpeed _)) h1)
    (.ite (h1.trans (onWheel_loopTick _ i stamp)) h1)
  have h3 : OnWheel s s3 := .ite (.step (.setLoop h2) (State.put_keeps1 ..)) h2
  exact h3.trans (onWheel_sendDrive _)

end

end Sys2Proof.Machine
end

section
namespace Sys2Proof.Machine

theorem onWheel_judgeRev (s : State) (rev : Nat) :
    OnWheel { s with loop := { s.loop with rev := some rev } } (s.judgeRev rev).2 := by
  unfold State.judgeRev
  extract_lets l s0 s1 s2 run l2 s3 s4 frame judged out
  have h1 : OnWheel s0 s1 := by
    refine .ite (.step (.refl _) (State.put_keepsO ..)) ?_
    exact .step (.step (.refl _) (State.draw_keeps s0 (2 ^ 32))) (State.put_keepsO ..)
  have h2 : OnWheel s0 s2 := .ite (h1.trans (onWheel_faultedCoast ..)) h1
  have h3 : OnWheel s0 s3 := .setLoop h2
  have h4 : OnWheel s0 s4 := .ite (h3.step (State.putBit_keeps1 ..)) h3
  exact h4.step (State.putBit_keeps1 ..)

/-- The encoder's part of a measured nut mark: a new revolution begins, and the one that it ends is known
from the second mark on. -/
structure NutNoted (s u : State) : Prop where
  keeps : Keeps wheelFoot s u
  seq : u.seq.unstopped = s.seq.unstopped
  count : u.loop.count = 0
  nuts : u.loop.nuts = s.loop.nuts + 1
  lastNut : u.loop.lastNut = encStamp s.now
  rev : 0 < s.loop.nuts → u.loop.rev = some (encStamp s.now - s.loop.lastNut)

theorem NutNoted.stays {s u w : State} (h : NutNoted s u) (g : OnWheel u w) : NutNoted s w := by
  have hm := g.mark
  simp only [Loop.mark, Prod.mk.injEq] at hm
  obtain ⟨hc, hn, hl, hr⟩ := hm
  exact {
    keeps := h.keeps.trans g.keeps (Foot.sub_refl _)
    seq := g.seq.trans h.seq
    count := hc.trans h.count
    nuts := hn.trans h.nuts
    lastNut := hl.trans h.lastNut
    rev := fun hp => hr.trans (h.rev hp) }

theorem wheelNut_noted (s : State) : NutNoted s s.wheelNut.2 := by
  unfold State.wheelNut
  extract_lets x stamp d judged s1 l s2
  have h1 : OnWheel s s1 :=
    .ite (onWheel_encoderLost ..)
      (.ite (.step (.step (.refl _) (State.inc_keeps1 ..)) (State.put_keeps1 ..)) (.refl _))
  have hp : NutNoted s (if judged then s2.judgeRev (stamp - x.lastNut) else (false, s2)).2 := by
    have hk : Keeps wheelFoot s s2 := Keeps.upd h1.keeps (hl := .inl rfl)
    split
    · have h3 : NutNoted s { s2 with loop := { s2.loop with rev := some (stamp - x.lastNut) } } :=
        { keeps := Keeps.upd hk (hl := .inl rfl), seq := h1.seq, count := rfl, nuts := rfl, lastNut := rfl
          rev := fun _ => rfl }
      exact h3.stays (onWheel_judgeRev ..)
    · exact {
        keeps := hk, seq := h1.seq, count := rfl, nuts := rfl, lastNut := rfl
        rev := fun hn => absurd (decide_eq_true hn) ‹_› }
  generalize (if judged then s2.judgeRev (stamp - x.lastNut) else (false, s2)) = p at hp ⊢
  obtain ⟨out, s3⟩ := p
  refine hp.stays ((onWheel_doTick s3 0 stamp).trans ?_)
  dsimp only
  refine .ite (.ite ?_ (.setLoop (.refl _))) (.refl _)
  refine OnWheel.trans ?_ (.ite (.refl _) (onWheel_brake _))
  exact .trans (.step (.setLoop (.refl _)) (State.putTorque_keeps ..)) (onWheel_closeSpeed _)

end Sys2Proof.Machine
end

section
namespace Sys2Proof.Machine

/-! ### Measured nut marks (R141, R214, R439) -/

/-- What waits, and whether the timeline runs, is no matter of a requested stop. -/
theorem unstopped_parts {p q : Seq} (h : p.unstopped = q.unstopped) : p.place = q.place ∧
    p.ended = q.ended ∧ p.factor = q.factor ∧ p.factorDue = q.factorDue :=
  ⟨(congrArg Seq.place h :), (congrArg Seq.ended h :), (congrArg Seq.factor h :), (congrArg Seq.factorDue h :)⟩

theorem calm_of_place {s u : State} (hq : u.seq.place = s.seq.place) (hn : u.net = s.net)
    (h : s.calm = true) : u.calm = true := by
  simp only [Seq.place, Prod.mk.injEq] at hq
  obtain ⟨-, hp, hnut, hs, hd⟩ := hq
  rw [calm_iff] at h ⊢
  rw [hp, hnut, hs, hd, hn]
  exact h

namespace NutNoted

variable {s u : State}

theorem running (h : NutNoted s u) : u.seq.running = s.seq.running := (congrArg Seq.running h.seq :)

theorem calm (h : NutNoted s u) (hc : s.calm = true) : u.calm = true :=
  calm_of_place (unstopped_parts h.seq).1 h.keeps.net_eq hc

theorem frame (h : NutNoted s u) : u.v 0x5001 0x01 = s.v 0x5001 0x01 := h.keeps.v_eq ..

theorem target (h : NutNoted s u) : u.target? = s.target? := by
  obtain ⟨-, -, hf, hd⟩ := unstopped_parts h.seq
  exact h.keeps.target_eq hd hf

end NutNoted

theorem remaps_keeps (l : List Nat) (s : State) : Keeps ⟨[.out, .panel, .lanes, .memory, .logs],
    [(0x180002, 0x180002), (0x180101, 0x180103), (0x580100, 0x5801FF), (0x580201, 0x580201), (0x580203,
    0x580204), (0x580209, 0x580209), (0x70020C, 0x70020C), (0x700309, 0x700309), (0x701001, 0x701001),
    (0x900005, 0x900005)]⟩ s (l.foldl State.remap s) :=
  Keeps.foldl (.refl _ _) fun x h => State.remap_keeps x h

/-- At rest the device frame number advances at every measured nut mark but the one that ended display. -/
theorem restNut_advances {s : State} (he : s.seq.ended = false) (hc : s.calm = true) :
    s.restNut.v 0x5001 0x01 = (s.v 0x5001 0x01 + 1) % 2 ^ 32 ∧ s.restNut.seq.running = s.seq.running ∧
      s.restNut.calm = true := by
  let y : State := { s with seq := { s.seq with ended := false } }
  have hy : s.restNut = if y.advanceFrame.railsUp ∧ !y.advanceFrame.panel.faulted then
      ([0, 1].filter fun h => !(y.advanceFrame.half h).mapped.isEmpty).foldl State.remap y.advanceFrame
      else y.advanceFrame := by
    unfold State.restNut
    simp only [he, Bool.false_and, Bool.false_eq_true, if_false]
    rfl
  have hq := advanceFrame_seq y
  have hn : y.advanceFrame.net = s.net := (State.advanceFrame_keeps y).net_eq
  have hk := Keeps.ite (c := y.advanceFrame.railsUp ∧ !y.advanceFrame.panel.faulted)
    (fun _ => remaps_keeps ([0, 1].filter fun h => !(y.advanceFrame.half h).mapped.isEmpty) y.advanceFrame)
    (fun _ => .refl _ _)
  rw [← hy] at hk
  refine ⟨(hk.v_eq ..).trans (advanceFrame_frame y), ?_, ?_⟩
  · rw [hk.seq_eq, hq]
  · refine calm_of_place (s := s) ?_ (hk.net_eq.trans hn) hc
    rw [hk.seq_eq, hq]
    rfl

/-- A measured nut mark leaves the frame's number, and nothing comes to wait. -/
structure MarkOnly (s u : State) : Prop where
  frame : u.v 0x5001 0x01 = s.v 0x5001 0x01
  mark : u.loop.mark = s.loop.mark
  calm : s.calm = true → u.calm = true

@[simp] theorem put_loop (s : State) (o m v : Nat) : (s.put o m v).loop = s.loop :=
  (State.put_keeps1 s o m v).loop_eq

@[simp] theorem inc_loop (s : State) (o m : Nat) : (s.inc o m).loop = s.loop :=
  (State.inc_keeps1 s o m).loop_eq

@[simp] theorem forgetHashes_loop (s : State) : s.forgetHashes.loop = s.loop :=
  (State.forgetHashes_keeps s).loop_eq

@[simp] theorem calEnd_loop (s : State) : s.calEnd.loop = s.loop := rfl

theorem beginGlide_mark (s : State) (slot k cause : Nat) :
    (s.beginGlide slot k cause).loop.mark = s.loop.mark := by
  unfold State.beginGlide
  extract_lets q s1 s2 s3
  have h2 : s2.loop = s.loop := by simp only [s2, s1, calEnd_loop, inc_loop, put_loop]
  have h3 : s3.loop = s.loop := by
    simp only [s3, apply_ite State.loop, put_loop, ite_self, h2]
  split
  · rw [(onWheel_glideWheel ..).mark, inc_loop, h3]
  · rw [(onWheel_glideWheel ..).mark, forgetHashes_loop, h3]

theorem markOnly_beginGlide (s : State) (slot k cause : Nat) : MarkOnly s (s.beginGlide slot k cause) where
  frame := (inFrame_beginGlide ..).v_frame
  mark := beginGlide_mark ..
  calm := (inFrame_beginGlide ..).calm

theorem markOnly_countRev (s : State) (g : Mode) : MarkOnly s (s.countRev g) where
  frame := (State.countRev_keeps s g).v_eq ..
  mark := congrArg Loop.mark (State.countRev_keeps s g).loop_eq
  calm := (calm_congr (State.countRev_keeps s g).seq_eq (State.countRev_keeps s g).net_eq).trans

/-- Where the timeline runs, a measured nut mark ends the revolution; in glide it is counted. -/
theorem doMeasuredNut_running {s : State} (hr : s.seq.running = true) (hc : s.calm = true) :
    MarkOnly s.wheelNut.2 s.doMeasuredNut ∧
      ∀ g, s.target? = some g → s.doMeasuredNut = s.wheelNut.2.countRev g := by
  have hw := wheelNut_noted s
  unfold State.doMeasuredNut
  generalize s.wheelNut = p at hw ⊢
  obtain ⟨out, x⟩ := p
  have hx : x.seq.running = true := hw.running.trans hr
  have hcx : x.calm = true := hw.calm hc
  have ht : x.target? = s.target? := hw.target
  have hs : ∀ {u : State}, MarkOnly x u → MarkOnly x u.settle := fun {u} h => by
    rw [settle_of_calm (h.calm hcx)]
    exact h
  have h0 : MarkOnly x x.settle := hs ⟨rfl, rfl, id⟩
  simp only [hx, Bool.not_true, Bool.false_eq_true, if_false]
  rw [ht]
  split
  · rename_i g hg
    have h1 := markOnly_countRev x g
    refine ⟨hs h1, fun g' hg' => ?_⟩
    obtain rfl : g = g' := Option.some.inj (hg.symm.trans hg')
    exact settle_of_calm (h1.calm hcx)
  · rename_i hg
    refine ⟨?_, fun g hg' => nomatch hg.symm.trans hg'⟩
    split
    · split
      · exact hs (markOnly_beginGlide ..)
      · split
        · exact h0
        · split
          · exact hs ⟨rfl, rfl, id⟩
          · exact hs (markOnly_beginGlide ..)
    · exact h0

/-- A measured nut mark while the timeline runs. -/
theorem measuredNut_noted {s : State} {t : Nat} (hr : s.seq.running = true) (hc : s.calm = true) :
    ∃ s', runs (.measuredNutMark t) s s' ∧ s'.v 0x5001 0x01 = s.v 0x5001 0x01 ∧ s'.loop.count = 0 ∧
      s'.loop.nuts = s.loop.nuts + 1 ∧ s'.loop.lastNut = encStamp (max s.now t) := by
  have hw := wheelNut_noted (s.enter t)
  obtain ⟨hm, -⟩ := doMeasuredNut_running (s := s.enter t) hr hc
  have he := hm.mark
  simp only [Loop.mark, Prod.mk.injEq] at he
  obtain ⟨hcount, hnuts, hlast, -⟩ := he
  exact ⟨_, rfl, hm.frame.trans hw.frame, hcount.trans hw.count, hnuts.trans hw.nuts, hlast.trans hw.lastNut⟩

/-- In glide a measured nut mark counts the revolutions within the new frame period. -/
theorem measuredNut_counts {s : State} {t : Nat} {g : Mode} (hr : s.seq.running = true) (hc : s.calm = true)
    (hg : s.target? = some g) (hn : 0 < s.loop.nuts) :
    ∃ s', runs (.measuredNutMark t) s s' ∧
      s'.v 0x5001 0x06 =
        if 1000 * (((encStamp (max s.now t) - s.loop.lastNut : Nat) : Int) - g.frame).natAbs ≤ g.frame then
          min 8 (s.v 0x5001 0x06 + 1)
        else 0 := by
  have hw := wheelNut_noted (s.enter t)
  obtain ⟨-, hm⟩ := doMeasuredNut_running (s := s.enter t) hr hc
  have h6 : (s.enter t).wheelNut.2.v 0x5001 0x06 = s.v 0x5001 0x06 := hw.keeps.v_eq ..
  have hrev : (s.enter t).wheelNut.2.loop.rev = some (encStamp (max s.now t) - s.loop.lastNut) := hw.rev hn
  refine ⟨_, congrArg Host.Outcome.next (hm g hg), ?_⟩
  rw [State.countRev, hrev]
  dsimp only
  rw [v_put_self, h6]

/-- A measured nut mark at rest. -/
theorem measuredNut_rests {s : State} {t : Nat} (hr : s.seq.running = false) (he : s.seq.ended = false)
    (hc : s.calm = true) :
    ∃ s', runs (.measuredNutMark t) s s' ∧ s'.v 0x5001 0x01 = (s.v 0x5001 0x01 + 1) % 2 ^ 32 ∧
      s'.seq.running = false := by
  have hw := wheelNut_noted (s.enter t)
  have hm : (s.enter t).doMeasuredNut = (s.enter t).wheelNut.2.restNut.settle := by
    unfold State.doMeasuredNut
    generalize (s.enter t).wheelNut = p at hw ⊢
    obtain ⟨out, x⟩ := p
    have hx : x.seq.running = false := hw.running.trans hr
    simp only [hx, Bool.not_false, if_true]
  obtain ⟨hv, hq, hcalm⟩ := restNut_advances ((unstopped_parts hw.seq).2.1.trans he) (hw.calm hc)
  rw [settle_of_calm hcalm] at hm
  exact ⟨_, congrArg Host.Outcome.next hm, hv.trans (by rw [hw.frame]; rfl), hq.trans (hw.running.trans hr)⟩

/-- Settles O32. -/
theorem latchPointAndNutMarks : Obligations.LatchPointAndNutMarks := by
  refine ⟨fun s t => latchPoint_undisturbed, fun s t p => latchPoint_selects, fun s t p => latchPoint_defers,
    ?_, fun s t => nutMark_waits, ?_, fun s t hr _ he hc => measuredNut_rests hr he hc, ?_,
    fun s t => measuredNut_noted, fun s t g => measuredNut_counts⟩
  · intro s t hr ho hd h5 hg hn
    obtain ⟨s', h, hb⟩ := nutMark_begins hr ho hd h5 hg hn
    exact ⟨s', h, hb.frame, hb.fret, hb.start, hb.gap, hb.slots, hb.overlap, hb.nutPend⟩
  · intro s t hr ho hd h5 hn
    obtain ⟨s', h, hb⟩ := lastFretEnd_begins hr ho hd h5 hn
    exact ⟨s', h, hb.overlap, hb.gap, hb.fret, hb.frame, hb.nutPend⟩
  · intro s t hr ho h5 hc hg
    obtain ⟨s', h, hb⟩ := nutMark_stops hr ho h5 hc hg
    exact ⟨s', h, hb.running, hb.state, hb.stopDue, hb.frame⟩

end Sys2Proof.Machine
end

section
set_option Elab.async false
namespace Sys2Proof.Machine

/-! ### Slots of a fret (R18, R121, R125) -/

theorem slotStart_succ {m : Mode} (h : 0 < m.ls) (j : Nat) :
    m.slotStart (j + 1) = m.slotStart j + m.slotLen j := by
  have hj : j ≤ j * m.ls := Nat.le_mul_of_pos_right j h
  simp only [Mode.slotStart, Mode.slotLen, Nat.succ_mul]
  split <;> omega

theorem slotStart_thirty (m : Mode) : m.slotStart 30 = m.fretPeriod := rfl

/-- The slot of a bit of a colour: ten slots for a colour, in the mirrored order in odd frets. -/
def slotOf (f c k : Nat) : Nat := if f % 2 = 0 then 10 * c + (9 - k) else 10 * (2 - c) + k

theorem slotOf_lt (f : Nat) {c k : Nat} (hc : c < 3) (hk : k < 10) : slotOf f c k < 30 := by
  simp only [slotOf]
  split <;> omega

theorem slotColour_slotOf (f : Nat) {c k : Nat} (hc : c < 3) (hk : k < 10) :
    slotColour f (slotOf f c k) = c := by
  simp only [slotOf, slotColour]
  split <;> omega

theorem slotBit_slotOf (f c : Nat) {k : Nat} (hk : k < 10) : slotBit f (slotOf f c k) = k := by
  simp only [slotOf, slotBit]
  split <;> omega

/-- Colour and bit name the slot. -/
theorem slotOf_slotColour_slotBit (f : Nat) {i : Nat} (hi : i < 30) :
    slotOf f (slotColour f i) (slotBit f i) = i := by
  simp only [slotOf, slotColour, slotBit]
  split <;> omega

/-- In a valid mode the frets and the nut gap fill the frame (R122). -/
theorem fretsFit_of_valid {m : Mode} (h : m.valid = true) : m.f * m.fretPeriod ≤ m.frame ∧ 1 < m.ls := by
  simp only [Mode.valid, Bool.and_eq_true, decide_eq_true_eq] at h
  omega

/-- Settles O9: `slotOf` is the slot of each bit, and a frame is its frets and its gap. -/
theorem slotsFillTheFret : Obligations.SlotsFillTheFret := by
  refine ⟨fun m h => ⟨by simp [Mode.slotStart], slotStart_thirty m, fun j _ => slotStart_succ h j⟩, ?_, ?_⟩
  · intro f c k hc hk
    refine ⟨slotOf f c k, slotOf_lt f hc hk, slotColour_slotOf f hc hk, slotBit_slotOf f c hk, ?_⟩
    rintro i hi rfl rfl
    exact (slotOf_slotColour_slotBit f hi).symm
  · intro m h
    obtain ⟨hfit, hls⟩ := fretsFit_of_valid h
    refine ⟨Nat.add_sub_cancel' hfit, ?_⟩
    simp only [Mode.window1, Mode.fretPeriod]
    omega

end Sys2Proof.Machine
end

section
set_option Elab.async false
namespace Sys2Proof.Machine

/-! ### What relaying leaves of the ingress (R36, R45, R246) -/

/-- The ingress but for the parcels under way and those that wait to be relayed. -/
def Ingress.content (i : Ingress) : Ingress := { i with inbound := [], busy := [], waiting := [] }

/-- What `π` sees of the ingress stands. -/
def SameIn {γ : Type} (π : Ingress → γ) (s u : State) : Prop := π u.ingress = π s.ingress

namespace SameIn

variable {γ : Type} {π : Ingress → γ} {F : Foot} {s u w : State}

theorem refl (s : State) : SameIn π s s := rfl

theorem trans (h : SameIn π s u) (g : SameIn π u w) : SameIn π s w := Eq.trans g h

theorem ofKeeps (h : Keeps F s u) (hf : F.parts.contains .ingress = false := by rfl) : SameIn π s u :=
  congrArg π (h.ingress_eq hf)

/-- A step that has no part in the ingress follows. -/
theorem step (h : SameIn π s u) (g : Keeps F u w) (hf : F.parts.contains .ingress = false := by rfl) :
    SameIn π s w :=
  h.trans (ofKeeps g hf)

theorem ite {c : Prop} [Decidable c] {a b : State} (ha : c → SameIn π s a) (hb : ¬c → SameIn π s b) :
    SameIn π s (if c then a else b) := by
  split
  · exact ha ‹_›
  · exact hb ‹_›

theorem foldl {α : Type} {f : State → α → State} (h : ∀ x a, SameIn π x (f x a)) (l : List α) (s : State) :
    SameIn π s (l.foldl f s) := by
  induction l generalizing s with
  | nil => exact .refl _
  | cons a l ih => exact (h s a).trans (ih _)

end SameIn

/-- What the ingress holds beside the parcels under way stands. -/
abbrev SameContent : State → State → Prop := SameIn Ingress.content

section
variable (s : State)

theorem sameContent_endInbound (p : Nat) : SameContent s (s.endInbound p) := by
  unfold State.endInbound
  split <;> rfl

theorem sameContent_wholeInbound (p : Nat) : SameContent s (s.wholeInbound p) := by
  unfold State.wholeInbound
  split
  · rfl
  · exact .ite (fun _ => rfl) fun _ => .ite (fun _ => rfl) fun _ => sameContent_endInbound s p

theorem sameContent_setUnderWay (i : List Inbound) (b : List Nat) (w : List Waiting) : SameContent s
    { s with ingress := { s.ingress with inbound := i, busy := b, waiting := w } } := rfl

theorem sameContent_startRelay (o : Nat) (hdr : Bytes) (bl : List Bytes) :
    SameContent s (s.startRelay o hdr bl) := by
  have hs : SameContent s ((({ s with ingress := { s.ingress with busy := o :: s.ingress.busy } } : State).ince
      0x3010 o 0x03).emit (.meshParcel o hdr)) :=
    ((sameContent_setUnderWay ..).step (State.ince_keeps1 ..)).step (State.emit_keeps ..)
  unfold State.startRelay
  dsimp only
  split
  · exact hs
  · exact (hs.step (State.sendBlock_keeps ..)).trans
      (.foldl (fun _ _ => .ofKeeps (State.sendBlock_keeps ..)) _ _)

theorem sameContent_relayWaits (src o : Nat) (hdr : Bytes) (bl : List Bytes) :
    SameContent s (s.relayWaits src o hdr bl) :=
  .ite (fun _ => rfl) fun _ => .step (.ofKeeps (State.inc_keeps1 ..)) (State.ince_keeps1 ..)

theorem sameContent_relayOn (src : Nat) (hdr : Bytes) (bl : List Bytes) (o : Nat) :
    SameContent s (State.relayOn src hdr bl s o) :=
  .ite (fun _ => sameContent_relayWaits ..) fun _ => .ite
    (fun _ => ((sameContent_setUnderWay ..).step (State.wakePort_keeps ..)).trans (sameContent_relayWaits ..))
    fun _ => sameContent_startRelay ..

theorem sameContent_addInbound (i : Inbound) : SameContent s
    { s with ingress := { s.ingress with inbound := i :: s.ingress.inbound } } := rfl

theorem sameContent_doParcelHeader (p : Nat) (hdr : Bytes) : SameContent s (s.doParcelHeader p hdr) := by
  have h1 : SameContent s ((s.endInbound p).ince 0x3010 p 0x02) :=
    (sameContent_endInbound s p).step (State.ince_keeps1 ..)
  unfold State.doParcelHeader
  dsimp only
  refine .ite (fun _ => ?_) fun _ => ?_
  · exact ((h1.step (State.inc_keeps1 ..)).trans (sameContent_addInbound ..)).trans
      (sameContent_wholeInbound _ p)
  · refine .trans (.trans ?_ (sameContent_addInbound ..)) (sameContent_wholeInbound _ p)
    refine SameIn.trans ?_ (SameIn.foldl (fun _ _ => sameContent_relayOn ..) _ _)
    refine .ite (fun _ => .step ?_ (State.inc_keeps1 ..)) fun _ => ?_
    all_goals exact .ite (fun _ => h1) fun _ => h1.step (State.inc_keepsO ..)

theorem sameContent_doRelayStart (p : Nat) : SameContent s (s.doRelayStart p) := by
  unfold State.doRelayStart
  dsimp only
  split
  · rfl
  · refine .trans ?_ (sameContent_startRelay ..)
    rfl

theorem sameContent_passBlock (p : Nat) (b : Bytes) : SameContent s (State.passBlock p s b) := by
  unfold State.passBlock
  split
  · rfl
  · dsimp only
    exact (SameIn.foldl (fun _ _ => .ite (fun _ => .ofKeeps (State.sendBlock_keeps ..))
      fun _ => .ofKeeps (State.sendBlock_keeps ..)) _ s).trans (sameContent_wholeInbound _ p)

theorem sameContent_parcelBlock (p : Nat) (b : Bytes) : SameContent s (s.parcelBlock p b) := by
  unfold State.parcelBlock
  split
  · rfl
  · exact .ite (fun _ => rfl) fun _ => sameContent_passBlock ..

theorem sameContent_relayPortDown (p : Nat) : SameContent s (s.relayPortDown p) := by
  unfold State.relayPortDown
  dsimp only
  refine .step (.step (.trans ?_ (sameContent_setUnderWay ..)) (State.add_keeps1 ..)) (State.adde_keeps1 ..)
  exact .ite (fun _ => .ofKeeps (State.sendAbort_keeps ..)) fun _ => rfl

theorem sameContent_abortInbound (p : Nat) : SameContent s (s.abortInbound p) := by
  unfold State.abortInbound
  split
  · rfl
  · dsimp only
    exact (SameIn.foldl (fun _ _ => .ofKeeps (State.sendAbort_keeps ..)) _ s).trans
      (sameContent_endInbound _ p)

theorem sameContent_dropPartial (p : Nat) : SameContent s (s.dropPartial p) := by
  unfold State.dropPartial
  split
  · rfl
  · exact .ite (fun _ => sameContent_endInbound ..) fun _ => .ite (fun _ => sameContent_abortInbound ..)
      fun _ => (sameContent_abortInbound ..).step (State.inc_keeps1 ..)

theorem sameContent_startParcel (p : Nat) (b : Bytes) : SameContent s (s.startParcel p b) :=
  .ite (fun _ => sameContent_passBlock ..) fun _ => sameContent_dropPartial ..

theorem sameContent_parcelArrives (p : Nat) (bs : Bytes) : SameContent s (s.parcelArrives p bs).2 := by
  have h1 : ∀ c d : Bool, SameContent s (if c then s else
      (if d then s else s.dropPartial p).doParcelHeader p (bs.take 24)) := fun c d =>
    .ite (fun _ => rfl) fun _ => .trans (.ite (fun _ => rfl) fun _ => sameContent_dropPartial s p)
      (sameContent_doParcelHeader ..)
  unfold State.parcelArrives
  dsimp only
  split
  · exact h1 _ _
  · exact ((h1 _ _).trans (.foldl (fun _ _ => sameContent_passBlock ..) _ _)).trans
      (sameContent_endInbound _ p)

/-! ### Ports and lanes that fail (R250, R259, R261) -/

theorem sameContent_portDown (p : Nat) (err : Bool) : SameContent s (s.portDown p err) := by
  unfold State.portDown
  dsimp only
  refine .step (.step (.step (.step (.step (.step ?_ (State.putGroup_keeps ..)) (State.pute_keeps1 ..))
    (State.pute_keeps1 ..)) (State.pute_keeps1 ..)) (State.pute_keeps1 ..)) (State.pute_keeps1 ..)
  refine .trans (.trans ?_ (sameContent_dropPartial _ p)) (sameContent_relayPortDown _ p)
  exact .ite (fun _ => ((SameIn.ofKeeps (State.inc_keeps1 ..)).step (State.log_keeps ..)).step
    (State.recover_keeps ..)) fun _ => rfl

theorem sameContent_portCheck (p : Nat) : SameContent s (s.portCheck p) :=
  .ite (fun _ => (sameContent_portDown ..).step (State.portTrain_keeps ..)) fun _ => rfl

theorem sameContent_leavePort (l : Nat) : SameContent s (s.leavePort l) :=
  .ite (fun _ => .ofKeeps (State.putHalf_keeps ..)) fun _ => .ite
    (fun _ => (SameIn.ofKeeps (State.sendLaneMap_keeps ..)).trans (sameContent_portCheck ..))
    fun _ => .ofKeeps (State.portTryUp_keeps ..)

theorem sameContent_laneOut (l : Nat) : SameContent s (s.laneOut l) :=
  (((SameIn.ofKeeps (State.pute_keeps1 s 0x7010 l 0x01 3)).step (State.inc_keeps1 ..)).step
    (State.recovered_keeps ..)).trans (sameContent_leavePort ..)

theorem sameContent_laneOutLogged (l : Nat) : SameContent s (s.laneOutLogged l) :=
  (SameIn.ofKeeps (State.log_keeps ..)).trans (sameContent_laneOut ..)

theorem sameContent_retrainLane (l : Nat) : SameContent s (s.retrainLane l) :=
  .ite (fun _ => ((((((SameIn.ofKeeps (State.inc_keeps1 s 0x7002 0x06)).step
      (State.ince_keeps1 ..)).step (State.log_keeps ..)).step (State.recover_keeps ..)).step
      (State.putLane_keeps ..)).step (State.beginBringUp_keeps ..)).trans (sameContent_leavePort ..))
    fun _ => sameContent_laneOutLogged ..

theorem sameContent_badBlock (l : Nat) : SameContent s (s.badBlock l) := by
  have h1 : SameContent s ((s.ince 0x7010 l 0x07).inc 0x7002 0x01) :=
    (SameIn.ofKeeps (State.ince_keeps1 ..)).step (State.inc_keeps1 ..)
  unfold State.badBlock
  dsimp only
  exact .ite (fun _ => (h1.step (State.escalate_keeps ..)).trans (sameContent_laneOutLogged ..)) fun _ =>
    .ite (fun _ => h1) fun _ => (h1.step (State.putGroup_keeps ..)).step (State.sendAck_keeps ..)

theorem sameContent_inSequence {act : State → State} (hact : ∀ x, SameContent x (act x)) (l : Nat)
    (b : Bytes) : SameContent s (s.inSequence l b act) :=
  .ite (fun _ => (SameIn.ofKeeps (State.putGroup_keeps ..)).trans (hact _)) fun _ =>
    .ite (fun _ => rfl) fun _ => sameContent_badBlock ..

/-! ### Blocks that arrive (R245 to R252) -/

theorem sameContent_replayFails (l q c : Nat) (ls : List Nat) : SameContent s (s.replayFails l q c ls) :=
  .ite (fun _ => ((SameIn.ofKeeps (State.inc_keeps1 ..)).step (State.putGroup_keeps ..)).trans
      (.foldl (fun _ _ => (SameIn.ofKeeps (State.escalate_keeps ..)).trans (sameContent_retrainLane ..))
        _ _))
    fun _ => ((SameIn.ofKeeps (State.inc_keeps1 ..)).step (State.putGroup_keeps ..)).step
      (State.resend_keeps ..)

theorem sameContent_nakOn (l q r : Nat) : SameContent s (s.nakOn l q r) := by
  have h1 : SameContent s (s.ackOn l ((q + 4095) % 4096)) := .ofKeeps (State.ackOn_keeps ..)
  unfold State.nakOn
  dsimp only
  exact .ite (fun _ => ((h1.step (State.dropHashes_keeps ..)).step (State.putGroup_keeps ..)).step
      (State.sendFlush_keeps ..)) fun _ => .ite (fun _ => h1) fun _ => .ite
    (fun _ => .ite (fun _ => h1) fun _ => h1.trans (sameContent_replayFails ..))
    fun _ => (h1.step (State.putGroup_keeps ..)).step (State.resend_keeps ..)

theorem sameContent_ackEntry (l : Nat) (e : AckEntry) : SameContent s (State.ackEntry l s e) := by
  unfold State.ackEntry
  dsimp only
  exact .ite (fun _ => rfl) fun _ => .ite (fun _ => sameContent_nakOn ..)
    fun _ => .ofKeeps (State.ackOn_keeps ..)

theorem sameContent_takeBlock (l : Nat) (b : Bytes) : SameContent s (s.takeBlock l b) := by
  unfold State.takeBlock
  dsimp only
  refine .ite (fun _ => ?bad) fun _ => .ite (fun _ => sameContent_badBlock ..) fun _ => .ite (fun _ => ?ack)
    fun _ => .ite (fun _ => rfl) fun _ => .ite (fun _ => ?data) fun _ => .ite (fun _ => ?start) fun _ =>
    .ite (fun _ => ?abort) fun _ => .ite (fun _ => sameContent_inSequence s SameIn.refl ..) fun _ => rfl
  case bad => exact (SameIn.ofKeeps (State.inc_keeps1 ..)).trans (sameContent_badBlock ..)
  case ack => exact .foldl (fun x e => sameContent_ackEntry x l e) _ s
  case data => exact sameContent_inSequence s (fun _ => sameContent_parcelBlock ..) ..
  case start => exact sameContent_inSequence s (fun _ => sameContent_startParcel ..) ..
  case abort => exact sameContent_inSequence s (fun _ => sameContent_dropPartial ..) ..

theorem sameContent_restoreSlots (p fuel : Nat) : SameContent s (State.restoreSlots p fuel s) := by
  induction fuel generalizing s with
  | zero => rfl
  | succ fuel ih =>
    unfold State.restoreSlots
    dsimp only
    split
    · rfl
    · split
      · exact ((SameIn.step (.ofKeeps (State.putLane_keeps ..)) (State.rxNext_keeps ..)).trans
          (sameContent_takeBlock ..)).trans (ih _)
      · exact .ite (fun _ => (SameIn.ofKeeps (State.rxNext_keeps ..)).trans (ih _)) fun _ => rfl

theorem sameContent_receiveBlock (l : Nat) (b : Bytes) : SameContent s (s.receiveBlock l b) := by
  have h1 : SameContent s (s.heard l b) := .ofKeeps (State.heard_keeps ..)
  unfold State.receiveBlock
  dsimp only
  exact .ite
    (fun _ => .ite (fun _ => h1.trans (sameContent_takeBlock ..)) fun _ => .ite (fun _ => h1)
      fun _ => h1.trans (sameContent_badBlock ..))
    fun _ => .ite (fun _ => (h1.step (State.putLane_keeps ..)).trans (sameContent_restoreSlots ..))
      fun _ => .ite (fun _ => h1) fun _ => h1.trans (sameContent_badBlock ..)

end

/-! ### The current store while parcels are filed (R23, R48 to R55) -/

/-- Which store is the current one, and what it holds. -/
def Ingress.current (i : Ingress) : Nat × Frame := (i.sel, if i.sel = 0 then i.store0 else i.store1)

/-- The current store stands. -/
abbrev SameCurrent : State → State → Prop := SameIn Ingress.current

theorem SameIn.current {s u : State} (h : SameContent s u) : SameCurrent s u :=
  (congrArg Ingress.current (show u.ingress.content = s.ingress.content from h) :)

theorem SameIn.curStore_eq {s u : State} (h : SameCurrent s u) : u.curStore = s.curStore :=
  congrArg Prod.snd h

section
variable (s : State)

/-- The next store is never the current one. -/
theorem sameCurrent_putNext (f : Frame) : SameCurrent s (s.putNext f) := by
  by_cases h : s.ingress.sel = 0
  · simp [SameIn, State.putNext, State.putStore, Ingress.current, h]
  · have h1 : 1 - s.ingress.sel = 0 := by omega
    simp [SameIn, State.putNext, State.putStore, Ingress.current, h, h1]

theorem sameCurrent_putFrameAt (d : Dest) (f : Frame) : SameCurrent s (s.putFrameAt d f) := by
  cases d with
  | next => exact sameCurrent_putNext s f
  | cue n => rfl

theorem sameCurrent_judgeComplete (d : Dest) : SameCurrent s (s.judgeComplete d) := by
  have h1 : ∀ (c : Bool) (f : Frame) (n : Nat), SameCurrent s (if c then s else
      match d with
      | .next => (s.putFrameAt d f).add 0x3002 0x01 n
      | .cue k => ((s.putFrameAt d f).add 0x3002 0x01 n).pute 0x3500 k 0x01 2) := fun c f n => by
    have h0 := (sameCurrent_putFrameAt s d f).step (State.add_keeps1 _ 0x3002 0x01 n)
    refine .ite (fun _ => rfl) fun _ => ?_
    cases d with
    | next => exact h0
    | cue k => exact h0.step (State.pute_keeps1 ..)
  unfold State.judgeComplete
  dsimp only
  exact .ite (fun _ => .ite
    (fun _ => ((h1 _ _ _).trans (sameCurrent_putFrameAt ..)).step (State.inc_keeps1 ..)) fun _ => h1 _ _ _)
    fun _ => rfl

theorem sameCurrent_fileTile (d : Dest) (p b c : Nat) (x : Bytes) : SameCurrent s (s.fileTile d p b c x) :=
  .ite (fun _ => .ofKeeps (State.inc_keeps1 ..)) fun _ => .ite (fun _ => .ofKeeps (State.inc_keeps1 ..))
    fun _ => .ite (fun _ => .ofKeeps (State.inc_keeps1 ..)) fun _ =>
    ((((sameCurrent_putFrameAt s d _).step (State.add_keeps1 ..)).step (State.add_keeps1 ..)).step
      (State.ince_keeps1 ..)).trans (sameCurrent_judgeComplete ..)

theorem sameCurrent_fileHeader (d : Dest) (h : FrameHdr) : SameCurrent s (s.fileHeader d h) :=
  .ite (fun _ => .ofKeeps (State.inc_keeps1 ..)) fun _ =>
    (sameCurrent_putFrameAt s d _).trans (sameCurrent_judgeComplete ..)

theorem sameCurrent_fileClose (d : Dest) (n : Nat) : SameCurrent s (s.fileClose d n) :=
  .ite (fun _ => .ofKeeps (State.inc_keeps1 ..)) fun _ =>
    (sameCurrent_putFrameAt s d _).trans (sameCurrent_judgeComplete ..)

theorem sameCurrent_fileParcel (d : Dest) (bs : Bytes) : SameCurrent s (s.fileParcel d bs) := by
  unfold State.fileParcel
  dsimp only
  split
  · exact sameCurrent_fileTile ..
  · exact sameCurrent_fileHeader ..
  · exact sameCurrent_fileClose ..

theorem sameCurrent_passOver (n : Nat) : SameCurrent s (s.passOver n) := by
  refine .trans ?_ (.ofKeeps (State.inc_keeps1 ..))
  rfl

theorem sameCurrent_keepSpill (n : Option Nat) : SameCurrent s (s.keepSpill n) := rfl

theorem sameCurrent_setSpill (f : Option Nat) (c : Bool) : SameCurrent s
    { s with ingress := { s.ingress with spillFrame := f, spillCopy := c } } := rfl

theorem sameCurrent_releaseNext : SameCurrent s s.releaseNext := by
  unfold State.releaseNext
  exact (((SameIn.ofKeeps (State.leaveNext_keeps s)).trans (sameCurrent_putNext ..)).trans
    (sameCurrent_keepSpill ..)).trans (sameCurrent_setSpill ..)

theorem sameCurrent_passSpilled (n : Nat) : SameCurrent s (s.passSpilled n) :=
  .ite (fun _ => (sameCurrent_passOver s n).trans (sameCurrent_releaseNext _))
    fun _ => sameCurrent_passOver (s.keepSpill s.nextStore.number) n

theorem sameCurrent_spillFull (n : Nat) : SameCurrent s (s.spillFull n) := by
  unfold State.spillFull
  dsimp only
  refine .step (.ite (fun _ => .trans ?_ (sameCurrent_putNext ..)) fun _ => ?_) (State.inc_keeps1 ..)
  all_goals rfl

theorem sameCurrent_spillParcel (n : Nat) (bs : Bytes) : SameCurrent s (s.spillParcel n bs) := by
  unfold State.spillParcel
  dsimp only
  refine .ite (fun _ => .ofKeeps (State.inc_keeps1 ..)) fun _ => .ite (fun _ => sameCurrent_spillFull ..)
    fun _ => ?_
  have hw : SameCurrent s (s.dramWrite 1 (s.v 0x3000 0x07 + cdiv s.ingress.spillUsed 64 * 64)
      (bs.take (28 + field bs 16 4))).2 := .ofKeeps (State.dramWrite_keeps ..)
  split
  · rename_i heq
    rw [heq] at hw
    exact hw
  · rename_i heq
    rw [heq] at hw
    exact hw.trans (sameCurrent_passSpilled ..)

theorem sameCurrent_copySpilled (x : Bool × State) (r : Spilled) :
    SameCurrent x.2 (State.copySpilled x r).2 := by
  have hr : SameCurrent x.2 (x.2.dramRead 2 (x.2.v 0x3000 0x07 + r.off) r.len).2 :=
    .ofKeeps (State.dramRead_keeps ..)
  unfold State.copySpilled
  split
  · rename_i heq
    rw [heq] at hr
    exact hr
  · rename_i heq
    rw [heq] at hr
    exact .ite (fun _ => hr.trans (sameCurrent_fileParcel ..)) fun _ => hr.step (State.inc_keeps1 ..)

theorem sameCurrent_copies (l : List Spilled) (x : Bool × State) :
    SameCurrent x.2 (l.foldl State.copySpilled x).2 := by
  induction l generalizing x with
  | nil => rfl
  | cons r l ih => exact (sameCurrent_copySpilled x r).trans (ih _)

theorem sameCurrent_doSpillCopyDone : SameCurrent s s.doSpillCopyDone := by
  unfold State.doSpillCopyDone
  split
  · rfl
  · rename_i n _
    refine .ite (fun _ => ?_) fun _ => rfl
    have hc := sameCurrent_copies (s.ingress.spill.filter fun r => r.frame == n) (true, s)
    split
    · rename_i heq
      rw [heq] at hc
      exact hc
    · rename_i heq
      rw [heq] at hc
      exact hc.trans (sameCurrent_passSpilled ..)

theorem sameCurrent_fileStreamed (n : Nat) (bs : Bytes) : SameCurrent s (s.fileStreamed n bs) := by
  unfold State.fileStreamed
  refine .ite (fun _ => .ofKeeps (State.inc_keeps1 ..)) fun _ => ?_
  split
  · exact .ite (fun _ => (sameCurrent_putNext ..).trans (sameCurrent_fileParcel ..))
      fun _ => .ofKeeps (State.inc_keeps1 ..)
  · exact .ite
      (fun _ => .ite (fun _ => sameCurrent_spillParcel ..) fun _ => sameCurrent_fileParcel ..)
      fun _ => .ite
        (fun _ => .ite (fun _ => .ofKeeps (State.inc_keeps1 ..)) fun _ => .ite
          (fun _ => sameCurrent_spillParcel
            { s with ingress := { s.ingress with spillFrame := some n } } n bs)
          fun _ => .ofKeeps (State.inc_keeps1 ..))
        fun _ => .ofKeeps (State.inc_keeps1 ..)

theorem sameCurrent_takePages (cue n : Nat) : SameCurrent s (s.takePages cue n).2 := rfl

theorem sameCurrent_emptyCue (cue : Nat) : SameCurrent s (s.emptyCue cue) := by
  unfold State.emptyCue
  refine .step (.step ?_ (State.pute_keeps1 ..)) (State.pute_keeps1 ..)
  rfl

theorem sameCurrent_fileCue (cue : Nat) (bs : Bytes) : SameCurrent s (s.fileCue cue bs) := by
  have h1 : SameCurrent s (if s.ve 0x3500 cue 0x01 = 1 then s
      else (s.emptyCue cue).pute 0x3500 cue 0x01 1) :=
    .ite (fun _ => rfl) fun _ => (sameCurrent_emptyCue ..).step (State.pute_keeps1 ..)
  unfold State.fileCue
  refine .ite (fun _ => .ofKeeps (State.inc_keeps1 ..)) fun _ => ?_
  extract_lets s1 s2 more
  have h2 : SameCurrent s s2 := h1.trans (sameCurrent_fileParcel ..)
  clear_value s2 more
  change SameCurrent s s1 at h1
  clear_value s1
  split
  rename_i got s3 heq
  have h3 : SameCurrent s s3 := by
    have := sameCurrent_takePages s2 cue more
    rw [heq] at this
    exact h2.trans this
  refine .ite (fun _ => (h1.step (State.pute_keeps1 ..)).step (State.inc_keeps1 ..)) fun _ => ?_
  split
  · exact (h1.step (State.pute_keeps1 ..)).step (State.errorResponse_keeps ..)
  · exact h3.step (State.pute_keeps1 ..)

theorem sameCurrent_fileKept (bs : Bytes) : SameCurrent s (s.fileKept bs) :=
  .ite (fun _ => sameCurrent_fileCue ..) fun _ => sameCurrent_fileStreamed ..

theorem sameCurrent_judged {act : State → State} (hact : ∀ x, SameCurrent x (act x)) (bs : Bytes)
    (ok : Bool) : SameCurrent s (s.judged bs ok act) :=
  .ite (fun _ => .ofKeeps (State.inc_keeps1 ..)) fun _ => .ite (fun _ => .ofKeeps (State.inc_keeps1 ..))
    fun _ => .ite (fun _ => .ofKeeps (State.inc_keeps1 ..)) fun _ => hact s

theorem sameCurrent_setReplay (r : Option Replay) : SameCurrent s
    { s with ingress := { s.ingress with replay := r } } := rfl

theorem sameCurrent_startStep (r : Replay) : SameCurrent s (s.startStep r) := by
  unfold State.startStep
  exact ((SameIn.ofKeeps (State.leaveNext_keeps s)).trans (sameCurrent_putNext ..)).trans
    (sameCurrent_setReplay ..)

theorem sameCurrent_dropSpill : SameCurrent s s.dropSpill := rfl

theorem sameCurrent_setTrigger (g : Option Trigger) : SameCurrent s
    { s with ingress := { s.ingress with trigger := g } } := rfl

theorem sameCurrent_activateReplay (g : Trigger) : SameCurrent s (s.activateReplay g) := by
  have h1 : SameCurrent s (match s.nextStore.number with
      | none => s
      | some n => s.passOver n) := by
    split
    · rfl
    · exact sameCurrent_passOver ..
  unfold State.activateReplay
  exact ((((h1.trans (sameCurrent_dropSpill _)).step (State.showReplay_keeps ..)).step
    (State.put_keeps1 ..)).trans (sameCurrent_setTrigger ..)).trans (sameCurrent_startStep ..)

theorem sameCurrent_takeTrigger (g : Trigger) : SameCurrent s (s.takeTrigger g) :=
  .ite (fun _ => rfl) fun _ => .ite (fun _ => rfl) fun _ => .ite (fun _ => sameCurrent_activateReplay ..)
    fun _ => rfl

theorem sameCurrent_doCueCopyDone : SameCurrent s s.doCueCopyDone := by
  unfold State.doCueCopyDone
  split
  · rfl
  · refine .ite (fun _ => rfl) fun _ => ?_
    split
    · exact .trans (.ofKeeps (State.errorResponse_keeps ..)) rfl
    · dsimp only
      exact SameIn.ite (b := s) (fun _ => sameCurrent_putNext ..) fun _ => rfl

theorem sameCurrent_wholeParcel {act : State → State} (hact : ∀ x, SameCurrent x (act x)) (p k : Nat)
    (bs : Bytes) : SameCurrent s (s.wholeParcel p k bs act) :=
  .ite (fun _ => (sameContent_parcelArrives ..).current.trans (hact _))
    fun _ => (sameContent_parcelArrives ..).current

end

end Sys2Proof.Machine
end

section
set_option Elab.async false
namespace Sys2Proof.Machine

/-! ### The header of a parcel (R35) -/

theorem field_take (bs : Bytes) {o n k : Nat} (h : o + n ≤ k) : field (bs.take k) o n = field bs o n := by
  have hn : min n (k - o) = n := by omega
  simp only [field, slice, List.drop_take, List.take_take, hn]

theorem parcelHdr_take (bs : Bytes) : parcelHdr (bs.take 24) = parcelHdr bs := by
  simp [parcelHdr, field_take]

/-! ### The relay decision (R43, R44) -/

/-- A parcel is kept by its address alone. -/
theorem relayDecision_keep (s : State) (p : Nat) (h : ParcelHdr) : (s.relayDecision p h).keep =
    if h.rect then decide (h.x0 ≤ s.v 0x3000 0x02 ∧ s.v 0x3000 0x02 ≤ h.x1 ∧ h.y0 ≤ s.v 0x3000 0x03 ∧
      s.v 0x3000 0x03 ≤ h.y1)
    else decide (h.x0 = s.v 0x3000 0x02 ∧ h.y0 = s.v 0x3000 0x03) := by
  simp only [State.relayDecision, apply_ite RelayDecision.keep, ite_self]

theorem relayDecision_counter (s : State) (p : Nat) (h : ParcelHdr) :
    (s.relayDecision p h).counter = 3 ∨ (s.relayDecision p h).counter = 4 ∨
      (s.relayDecision p h).counter = 0 := by
  have three : ∀ (c d : Prop) [Decidable c] [Decidable d],
      (if c then 3 else if d then 4 else 0) = 3 ∨ (if c then 3 else if d then 4 else 0) = 4 ∨
        (if c then 3 else if d then 4 else 0) = 0 := by
    intro c d _ _
    by_cases hc : c <;> by_cases hd : d <;> simp [hc, hd]
  simp only [State.relayDecision, apply_ite RelayDecision.counter]
  exact three _ _

theorem relayDecision_keep_congr {s u : State} (hx : u.v 0x3000 0x02 = s.v 0x3000 0x02)
    (hy : u.v 0x3000 0x03 = s.v 0x3000 0x03) (p : Nat) (h : ParcelHdr) :
    (u.relayDecision p h).keep = (s.relayDecision p h).keep := by
  rw [relayDecision_keep, relayDecision_keep, hx, hy]

/-! ### A parcel as it arrives (R36, R43 to R45) -/

/-- What a parcel's way through the relay may change: of the counters of 3002, those of R42 to R45. -/
def relayFoot : Foot :=
  ⟨[.now, .out, .ingress, .lanes], [(0x300201, 0x300205), (0x301002, 0x301004), (0x700309, 0x700309),
    (0x701001, 0x701001)]⟩

section
variable (s : State) (p : Nat)

theorem doParcelHeader_keepsRelay (hdr : Bytes) : Keeps relayFoot s (s.doParcelHeader p hdr) := by
  have h1 : Keeps relayFoot s ((s.endInbound p).ince 0x3010 p 0x02) :=
    Keeps.trans ((State.endInbound_keeps ..).mono (by decide +kernel)) (State.ince_keeps1 ..) (by decide +kernel)
  have h2 : ∀ x : State, Keeps relayFoot x (x.inc 0x3002 0x01) := fun x =>
    (State.inc_keeps1 ..).mono (by decide +kernel)
  have hc : ∀ (x : State) (c : Nat), c = 3 ∨ c = 4 ∨ c = 0 →
      Keeps relayFoot x (if c = 0 then x else x.inc 0x3002 c) := by
    rintro x c (rfl | rfl | rfl)
    · exact (State.inc_keeps1 ..).mono (by decide +kernel)
    · exact (State.inc_keeps1 ..).mono (by decide +kernel)
    · exact .refl _ _
  unfold State.doParcelHeader
  dsimp only
  refine .ite (fun _ => ?_) fun _ => ?_
  · refine Keeps.trans ?_ (State.wholeInbound_keeps ..) (by decide +kernel)
    refine Keeps.upd ?_ (hi := .inl rfl)
    exact h1.trans (h2 _) (Foot.sub_refl _)
  · refine Keeps.trans ?_ (State.wholeInbound_keeps ..) (by decide +kernel)
    refine Keeps.upd ?_ (hi := .inl rfl)
    refine Keeps.foldl ?_ fun _ _ => (State.relayOn_keeps ..).mono (by decide +kernel)
    have hd := h1.trans (hc _ _ (relayDecision_counter ((s.endInbound p).ince 0x3010 p 0x02) p (parcelHdr hdr)))
      (Foot.sub_refl _)
    exact .ite (fun _ => hd.trans (h2 _) (Foot.sub_refl _)) fun _ => hd

theorem parcelArrives_keepsRelay (bs : Bytes) : Keeps relayFoot s (s.parcelArrives p bs).2 := by
  have h1 : ∀ c d : Bool, Keeps relayFoot s (if c then s else
      (if d then s else s.dropPartial p).doParcelHeader p (bs.take 24)) := fun c d =>
    .ite (fun _ => .refl _ _) fun _ => .trans
      (.ite (fun _ => .refl _ _) fun _ => (State.dropPartial_keeps ..).mono (by decide +kernel))
      (doParcelHeader_keepsRelay ..) (Foot.sub_refl _)
  unfold State.parcelArrives
  dsimp only
  split
  · exact h1 _ _
  · refine Keeps.trans ?_ (State.endInbound_keeps ..) (by decide +kernel)
    exact Keeps.foldl (h1 _ _) fun _ _ => (State.passBlock_keeps ..).mono (by decide +kernel)

/-- A kept parcel that has arrived whole stays until it is judged (R42, R45). -/
theorem wholeInbound_kept {i : Inbound} (h : s.inbound? p = some i) (hn : i.hdr ≠ []) (hk : i.keep = true) :
    ∃ j, (s.wholeInbound p).inbound? p = some j ∧ j.hdr = i.hdr ∧ j.keep = true := by
  simp only [State.wholeInbound, h, hn, hk, false_or, if_true]
  split
  · exact ⟨i, h, rfl, hk⟩
  · have hp : ∀ j : Inbound, (if j.port = p then { j with outs := [] } else j).port = j.port := fun j => by
      split <;> rfl
    refine ⟨if i.port = p then { i with outs := [] } else i, ?_, ?_, ?_⟩
    · have hf : (List.find? (fun j => j.port == p) s.ingress.inbound) = some i := h
      simp [State.inbound?, State.freeOuts, List.find?_map, hp, hf]
    · split <;> rfl
    · split <;> exact hk

/-- An inbound parcel of which everything has come is the port's one, kept if the header says so. -/
theorem addInbound_kept {i : Inbound} (hp : i.port = p) (hn : i.hdr ≠ []) (hk : i.keep = true) :
    ∃ j, (({ s with ingress := { s.ingress with inbound := i :: s.ingress.inbound } }).wholeInbound
      p).inbound? p = some j ∧ j.hdr = i.hdr ∧ j.keep = true :=
  wholeInbound_kept _ p (by simp [State.inbound?, hp]) hn hk

/-- A header that the relay decision keeps is kept (R43, R44, R308). -/
theorem doParcelHeader_kept {hdr : Bytes} (hc : hdrCheckOk hdr = true)
    (hw : (parcelHdr hdr).wall = s.v 0x3000 0x01) (hk : (s.relayDecision p (parcelHdr hdr)).keep = true)
    (hg : s.ve 0x2030 0x373 0x02 ≠ 0) (hv : (parcelHdr hdr).version = 1) (h1 : 1 ≤ (parcelHdr hdr).kind)
    (h5 : (parcelHdr hdr).kind ≤ 5) (hn : hdr ≠ []) :
    ∃ j, (s.doParcelHeader p hdr).inbound? p = some j ∧ j.hdr = hdr ∧ j.keep = true := by
  have hs : Keeps ⟨[.ingress], [(0x301002, 0x301002)]⟩ s ((s.endInbound p).ince 0x3010 p 0x02) :=
    Keeps.trans ((State.endInbound_keeps ..).mono (by decide +kernel)) (State.ince_keeps1 ..) (by decide +kernel)
  have hk' : (((s.endInbound p).ince 0x3010 p 0x02).relayDecision p (parcelHdr hdr)).keep = true := by
    rw [relayDecision_keep_congr (hs.v_eq ..) (hs.v_eq ..)]
    exact hk
  have hg' : ((s.endInbound p).ince 0x3010 p 0x02).ve 0x2030 0x373 0x02 ≠ 0 := by
    rwa [hs.ve 0x2030 0x373 0x02 (by decide +kernel)]
  have hno : ¬ (!hdrCheckOk hdr || (parcelHdr hdr).wall != s.v 0x3000 0x01) = true := by simp [hc, hw]
  unfold State.doParcelHeader
  dsimp only
  rw [if_neg hno]
  exact addInbound_kept _ p rfl hn (by simp [hk', hg', hv, h1, h5])

/-- A parcel that the tile keeps is judged once it is whole. -/
theorem parcelArrives_kept {bs : Bytes} (h : s.keepsParcel p bs = true)
    (hv : (parcelHdr bs).version = 1) (h1 : 1 ≤ (parcelHdr bs).kind) (h5 : (parcelHdr bs).kind ≤ 5)
    (hn : bs.take 24 ≠ []) : (s.parcelArrives p bs).1 = true := by
  unfold State.keepsParcel at h
  unfold State.parcelArrives
  dsimp only
  split at h
  next i hi => simpa [hi] using h
  next hi =>
    simp only [Bool.and_eq_true, beq_iff_eq, bne_iff_ne] at h
    obtain ⟨⟨⟨hc, hw⟩, hk⟩, hg⟩ := h
    have hd : ∀ d : Bool, Keeps relayFoot s (if d then s else s.dropPartial p) := fun d =>
      .ite (fun _ => .refl _ _) fun _ => (State.dropPartial_keeps ..).mono (by decide +kernel)
    generalize ((s.inbound? p).any fun i => i.hdr == []) = d
    have hd := hd d
    rw [if_neg (by simp [hi])]
    generalize (if d = true then s else s.dropPartial p) = u at hd ⊢
    obtain ⟨j, hj, hh, hkeep⟩ := doParcelHeader_kept u p (hdr := bs.take 24) hc
      (hw.trans (hd.v_eq ..).symm) ((relayDecision_keep_congr (hd.v_eq ..) (hd.v_eq ..) ..).trans hk)
      (by rwa [hd.ve 0x2030 0x373 0x02 (by decide +kernel)]) (by rwa [parcelHdr_take])
      (by rwa [parcelHdr_take]) (by rwa [parcelHdr_take]) hn
    simp [hj, Option.filter, hh, hkeep]

end

/-! ### Late parcels (R24, R48, R56) -/

theorem hdrFieldsOk_known {h : ParcelHdr} (hf : hdrFieldsOk h = true) :
    h.version = 1 ∧ 1 ≤ h.kind ∧ h.kind ≤ 5 := by
  simp only [hdrFieldsOk, Bool.and_eq_true, beq_iff_eq, decide_eq_true_eq] at hf
  obtain ⟨⟨⟨⟨⟨hv, hk⟩, -⟩, -⟩, -⟩, -⟩ := hf
  exact ⟨hv, hk⟩

theorem take_header_ne_nil {bs : Bytes} (hb : bodyCheckOk bs = true) : bs.take 24 ≠ [] := by
  simp only [bodyCheckOk, Bool.and_eq_true, decide_eq_true_eq] at hb
  intro h
  obtain rfl : bs = [] := by simpa using h
  simp at hb

section
variable {s u : State}

theorem judged_of_good {bs : Bytes} {ok : Bool} (hf : hdrFieldsOk (parcelHdr bs) = true)
    (hb : bodyCheckOk bs = true) (ho : ok = true) (act : State → State) : s.judged bs ok act = act s := by
  simp [State.judged, hf, hb, ho]

/-- The counter of a late parcel: R56 while a replay is active, else R48. -/
def State.lateCounter (s : State) : Nat := if s.ingress.replay.isSome then 0x0F else 0x06

/-- A parcel of a frame that the cutoff has passed, and that the next store does not assemble, is
counted and nothing else. -/
theorem fileStreamed_late {n : Nat} (hc : s.afterCutoff n = false) (hn : s.nextStore.number ≠ some n)
    (bs : Bytes) : s.fileStreamed n bs = s.inc 0x3002 s.lateCounter := by
  unfold State.fileStreamed State.lateCounter
  by_cases hr : s.ingress.replay.isSome = true
  · rw [if_pos hr, if_pos hr]
  · rw [if_neg hr, if_neg hr]
    cases hx : s.nextStore.number with
    | none => simp [hc]
    | some next =>
      have hne : n ≠ next := fun h => hn (by rw [hx, h])
      simp [hne, hc]

theorem Keeps.mode_eq_of_relay (h : Keeps relayFoot s u) : u.mode = s.mode := by
  rw [State.mode, State.mode, h.seq_eq, h.v_eq 0x5001 0x04, h.modeSlot_eq]

/-- What is kept of the content of the ingress: the next store, the spill, the cues and the replay. -/
theorem SameIn.lateView_eq (h : SameContent s u) : u.nextStore = s.nextStore ∧
    u.ingress.spill = s.ingress.spill ∧ u.ingress.cues = s.ingress.cues ∧
    u.ingress.replay = s.ingress.replay ∧ u.ingress.cutoff = s.ingress.cutoff := by
  have h : u.ingress.content = s.ingress.content := h
  have hv : ∀ {γ : Type} (f : Ingress → γ), f u.ingress.content = f s.ingress.content := fun f => congrArg f h
  exact ⟨hv fun i => if 1 - i.sel = 0 then i.store0 else i.store1, hv (·.spill), hv (·.cues), hv (·.replay),
    hv (·.cutoff)⟩

/-- A late parcel that is whole and good passes the relay, is counted and leaves the content alone. -/
theorem wholeParcel_late {p kind : Nat} {bs : Bytes} {ok : State → Bool} (hk : s.keepsParcel p bs = true)
    (hkind : field bs 1 1 = kind) (hf : hdrFieldsOk (parcelHdr bs) = true) (hb : bodyCheckOk bs = true)
    (ho : ∀ u, Keeps relayFoot s u → ok u = true) (hcue : (parcelHdr bs).cueLoad = false)
    (hc : s.afterCutoff (parcelHdr bs).frame = false) (hn : s.nextStore.number ≠ some (parcelHdr bs).frame) :
    ∃ u, Keeps relayFoot s u ∧ SameContent s u ∧
      (s.wholeParcel p kind bs fun st => st.judged bs (ok st) fun x => x.fileKept bs) =
        u.inc 0x3002 s.lateCounter := by
  obtain ⟨hv, h1, h5⟩ := hdrFieldsOk_known hf
  have ha := parcelArrives_kept s p hk hv h1 h5 (take_header_ne_nil hb)
  have hr := parcelArrives_keepsRelay s p bs
  have hs := sameContent_parcelArrives s p bs
  obtain ⟨hnx, -, -, hrep, hcut⟩ := hs.lateView_eq
  refine ⟨_, hr, hs, ?_⟩
  have hl : (s.parcelArrives p bs).2.lateCounter = s.lateCounter := by
    rw [State.lateCounter, State.lateCounter, hrep]
  simp only [State.wholeParcel, ha, hkind, beq_self_eq_true, Bool.and_true, if_true]
  rw [judged_of_good hf hb (ho _ hr), State.fileKept, hcue, if_neg Bool.false_ne_true,
    fileStreamed_late (by rwa [State.afterCutoff, hcut]) (by rwa [hnx]), hl]

/-- The counter counts, and what the ingress holds stands. -/
theorem late_outcome (hr : Keeps relayFoot s u) (hs : SameContent s u) {s' : State}
    (h' : s' = u.inc 0x3002 s.lateCounter) : s'.nextStore = s.nextStore ∧
      s'.ingress.spill = s.ingress.spill ∧ s'.ingress.cues = s.ingress.cues ∧
      counted s s' 0x3002 0 s.lateCounter := by
  have hi : s'.ingress = u.ingress := by rw [h']; exact (State.inc_keeps1 ..).ingress_eq
  obtain ⟨hnx, hsp, hcu, -, -⟩ := hs.lateView_eq
  refine ⟨.trans (by rw [State.nextStore, State.storeAt, hi]; rfl) hnx, hi ▸ hsp, hi ▸ hcu, fun hroom => ?_⟩
  have hv : u.v 0x3002 s.lateCounter = s.v 0x3002 s.lateCounter := by
    unfold State.lateCounter
    split
    · exact hr.v_eq ..
    · exact hr.v_eq ..
  rw [h', inc_room (by rw [hv]; exact hroom), hv]
  exact v_put_self ..

/-- Each command of R37 to R39 that brings a late parcel discards and counts it. -/
theorem runs_parcelIn_late {t port kind : Nat} {bs : Bytes} (hp : port < 8) (h1 : 1 ≤ kind) (h3 : kind ≤ 3)
    (hk : s.keepsParcel port bs = true) (hg : s.goodParcel kind bs = true)
    (hcue : (parcelHdr bs).cueLoad = false) (hc : s.afterCutoff (parcelHdr bs).frame = false)
    (hn : s.nextStore.number ≠ some (parcelHdr bs).frame) :
    ∃ u, Keeps relayFoot s u ∧ SameContent s u ∧
      runs (parcelIn kind t port bs) s (u.inc 0x3002 s.lateCounter) := by
  simp only [State.goodParcel, Bool.and_eq_true, beq_iff_eq] at hg
  obtain ⟨⟨⟨hkind, hf⟩, hb⟩, hbody⟩ := hg
  have he : Keeps relayFoot s (s.enter t) := (State.enter_keeps s t).mono (by decide +kernel)
  have hl : ∀ ok : State → Bool, (∀ u, Keeps relayFoot (s.enter t) u → ok u = true) →
      ∃ u, Keeps relayFoot s u ∧ SameContent s u ∧ ((s.enter t).wholeParcel port kind bs fun st =>
        st.judged bs (ok st) fun x => x.fileKept bs) = u.inc 0x3002 s.lateCounter := fun ok ho => by
    obtain ⟨u, hr, hs, hu⟩ := wholeParcel_late (s := s.enter t) hk hkind hf hb ho hcue hc hn
    exact ⟨u, he.trans hr (Foot.sub_refl _), hs, hu⟩
  have hrun : ∀ {c : Instr} {x : State}, exec c s = guarded (decide (port < 8)) x → runs c s x := fun h =>
    h.trans (guarded_next.2 ⟨decide_eq_true hp, rfl⟩)
  obtain rfl | rfl | rfl : kind = 1 ∨ kind = 2 ∨ kind = 3 := by omega
  · obtain ⟨u, hr, hs, hu⟩ := hl (fun st => tileFieldsOk st.mode (parcelBody bs)) fun u hu => by
      rw [hu.mode_eq_of_relay]
      exact hbody
    exact ⟨u, hr, hs, hu ▸ hrun rfl⟩
  · obtain ⟨u, hr, hs, hu⟩ := hl (fun _ => headerFieldsOk (parcelHdr bs).cueLoad (parcelBody bs))
      fun _ _ => hbody
    exact ⟨u, hr, hs, hu ▸ hrun rfl⟩
  · obtain ⟨u, hr, hs, hu⟩ := hl (fun _ => closeFieldsOk (parcelHdr bs) (parcelBody bs)) fun _ _ => hbody
    exact ⟨u, hr, hs, hu ▸ hrun rfl⟩

end

/-! ### The current store (R24) -/

/-- No command that brings a parcel, or moves what one brought, writes the current store. -/
theorem sameCurrent_of_bringsParcel {c : Instr} (hc : bringsParcel c = true) {s s' : State} (h : runs c s s') :
    SameCurrent s s' := by
  have hg : ∀ {g : Bool} {u : State}, exec c s = guarded g u → SameCurrent s u →
      SameCurrent s s' := fun he hu => by
    obtain ⟨-, rfl⟩ := guarded_next.1 (he.symm.trans h)
    exact hu
  have hf : ∀ bs x, SameCurrent x (State.fileKept x bs) := fun bs x => sameCurrent_fileKept x bs
  cases c with
  | parcelHeaderArrives t p hdr => exact hg rfl (SameIn.current (sameContent_doParcelHeader (s.enter t) p hdr))
  | relayParcelStart t p => exact hg rfl (SameIn.current (sameContent_doRelayStart (s.enter t) p))
  | tile t p bs =>
    exact hg rfl (sameCurrent_wholeParcel (s.enter t) (fun x => sameCurrent_judged x (hf bs) ..) ..)
  | frameHeader t p bs =>
    exact hg rfl (sameCurrent_wholeParcel (s.enter t) (fun x => sameCurrent_judged x (hf bs) ..) ..)
  | frameClose t p bs =>
    exact hg rfl (sameCurrent_wholeParcel (s.enter t) (fun x => sameCurrent_judged x (hf bs) ..) ..)
  | cueTrigger t p bs =>
    exact hg rfl (sameCurrent_wholeParcel (s.enter t)
      (fun x => sameCurrent_judged x (fun y => sameCurrent_takeTrigger y _) ..) ..)
  | layerData t p bs =>
    exact hg rfl (sameCurrent_wholeParcel (s.enter t)
      (fun x => sameCurrent_judged x (fun y => .ofKeeps (State.writeLayer_keeps y ..)) ..) ..)
  | spillCopyDone t => exact hg (g := true) rfl (sameCurrent_doSpillCopyDone (s.enter t))
  | cueCopyDone t => exact hg (g := true) rfl (sameCurrent_doCueCopyDone (s.enter t))
  | blockData t l b => exact hg rfl (SameIn.current (sameContent_receiveBlock (s.enter t) l b))
  | parcelStart t l b => exact hg rfl (SameIn.current (sameContent_receiveBlock (s.enter t) l b))
  | parcelAbort t l b => exact hg rfl (SameIn.current (sameContent_receiveBlock (s.enter t) l b))
  | _ => exact absurd hc Bool.false_ne_true

/-- Settles O15: a late parcel ends as a count and nothing else, and no command that brings parcels
reaches the current store. -/
theorem lateParcelsAreDiscarded : Obligations.LateParcelsAreDiscarded := by
  refine ⟨fun s t port kind bs hp h1 h3 hk hg hcue hc hn => ?_, fun c s s' hc h =>
    (sameCurrent_of_bringsParcel hc h).curStore_eq⟩
  obtain ⟨u, hr, hs, hrun⟩ := runs_parcelIn_late (t := t) hp h1 h3 hk hg hcue hc hn
  exact ⟨_, hrun, late_outcome hr hs rfl⟩

end Sys2Proof.Machine
end

section
set_option Elab.async false
namespace Sys2Proof.Machine

/-! ### From a state in which nothing waits -/

/-- What waits for a boundary. -/
def Seq.waiting (q : Seq) : List Pending × List Pending × Option Service × Bool :=
  (q.pend, q.nutPend, q.serviceDue, q.droneDue)

theorem calm_of_waiting {s u : State} (hq : u.seq.waiting = s.seq.waiting) (hn : u.net = s.net)
    (h : s.calm = true) : u.calm = true := by
  simp only [Seq.waiting, Prod.mk.injEq] at hq
  obtain ⟨hp, hnut, hs, hd⟩ := hq
  rw [calm_iff] at h ⊢
  rw [hp, hnut, hs, hd, hn]
  exact h

/-- From a state in which nothing waits: nothing outside the footprint changes, and nothing comes to
wait. -/
def Calmly (F : Foot) (s u : State) : Prop := s.calm = true → Keeps F s u ∧ u.calm = true

namespace Calmly

variable {F G : Foot} {s t u : State}

theorem refl (F : Foot) (s : State) : Calmly F s s := fun h => ⟨.refl F s, h⟩

theorem trans (h : Calmly F s t) (g : Calmly G t u) (hs : G.sub F = true := by decide +kernel) :
    Calmly F s u := fun hc =>
  have ⟨hk, ht⟩ := h hc
  have ⟨gk, hu⟩ := g ht
  ⟨hk.trans gk hs, hu⟩

theorem mono (h : Calmly G s u) (hs : G.sub F = true := by decide +kernel) : Calmly F s u :=
  (refl F s).trans h hs

/-- A step that leaves what waits as it was. -/
theorem ofWaiting (h : Keeps F s u) (hq : u.seq.waiting = s.seq.waiting)
    (hn : F.parts.contains .net = false := by rfl) : Calmly F s u := fun hc =>
  ⟨h, calm_of_waiting hq (h.net_eq hn) hc⟩

/-- A step that changes neither the sequencer nor the network. -/
theorem ofKeeps (h : Keeps F s u) (hq : F.parts.contains .seq = false := by rfl)
    (hn : F.parts.contains .net = false := by rfl) : Calmly F s u :=
  ofWaiting h (congrArg Seq.waiting (h.seq_eq hq)) hn

/-- A step within the frame. -/
theorem ofInFrame (h : Keeps F s u) (g : InFrame s u) : Calmly F s u := fun hc => ⟨h, g.calm hc⟩

/-- An operation that does nothing where nothing waits. -/
theorem ofEq (F : Foot) (h : s.calm = true → u = s) : Calmly F s u := fun hc => by
  rw [h hc]
  exact ⟨.refl F s, hc⟩

/-- One more step that changes neither the sequencer nor the network. -/
theorem step (h : Calmly F s t) (g : Keeps G t u) (hs : G.sub F = true := by decide +kernel)
    (hq : G.parts.contains .seq = false := by rfl) (hn : G.parts.contains .net = false := by rfl) :
    Calmly F s u :=
  h.trans (ofKeeps g hq hn) hs

theorem ite {c : Prop} [Decidable c] {a b : State} (ha : c → Calmly F s a) (hb : ¬c → Calmly F s b) :
    Calmly F s (if c then a else b) := by
  split
  · exact ha ‹_›
  · exact hb ‹_›

theorem foldl {α : Type} {f : State → α → State} (h : ∀ x a, Calmly F x (f x a)) (l : List α) (s : State) :
    Calmly F s (l.foldl f s) := by
  induction l generalizing s with
  | nil => exact .refl F s
  | cons a l ih => exact (h s a).trans (ih _) (Foot.sub_refl _)

/-- Where nothing waits, nothing more happens as display stops. -/
theorem settle (h : Calmly F s u) : Calmly F s u.settle := fun hc => by
  rw [settle_of_calm (h hc).2]
  exact h hc

end Calmly

/-! ### Completion -/

/-- The command completes within its footprint, from a state in which nothing waits if it may let waiting
changes take effect. -/
def Completes (c : Instr) (s : State) : Prop :=
  ∃ s', runs c s s' ∧ ((waits c = true → s.calm = true) → Keeps (footOf c) s s')

/-! ### Writes (R8, R331) -/

/-- What a write of any member may change, as it is refused or comes to wait. -/
def writeFoot : Foot :=
  ⟨[.seq, .mgmt, .logs], [(0x101103, 0x101103), (0x101106, 0x101106), (0x180003, 0x180003)]⟩

/-- An accepted write does nothing where it names no member; else it takes effect at once, or waits while
display runs. -/
theorem deliver_cases (s : State) (master : Nat) (x : Staged) :
    (s.deliver 0 master none none x).2 = s ∨ (s.deliver 0 master none none x).2 = s.own master x ∨
      s.displayRuns = true ∧ Keeps ⟨[.seq], []⟩ s (s.deliver 0 master none none x).2 := by
  unfold State.deliver
  split
  · exact .inl rfl
  · dsimp only
    split
    · exact .inr (.inl rfl)
    · next hd => exact .inr (.inr ⟨by simpa using (not_or.1 hd).2, State.await_keeps ..⟩)

variable {F : Foot} {master : Nat} {x : Staged} {s : State}

/-- What an accepted write comes to, where nothing waits. -/
theorem deliver_settle_keeps (hown : ∀ y : State, y.calm = true → Keeps F y (y.own master x).settle)
    (hF : writeFoot.sub F = true) (hc : s.calm = true) :
    Keeps F s (s.deliver 0 master none none x).2.settle := by
  obtain he | he | ⟨hd, hk⟩ := deliver_cases s master x
  · rw [he, settle_of_calm hc]
    exact .refl F s
  · rw [he]
    exact hown s hc
  · rw [settle_of_displayRuns ((displayRuns_congr (hk.v_eq ..)).trans hd)]
    exact (hk.mono (F := writeFoot) (by decide +kernel)).mono hF

/-- A direct write of a member that is no gate: it is refused, waits, or takes effect by its owner's act. -/
theorem memberWrite_keepsCalm (hg : x.isGate = false)
    (hown : ∀ y : State, y.calm = true → Keeps F y (y.own master x).settle) (hF : writeFoot.sub F = true)
    (hc : s.calm = true) (len : Nat) : Keeps F s (s.memberWrite master len x) := by
  have h1 : ∀ code, Keeps writeFoot s { s with mgmt := { s.mgmt with lastCode := code } } := fun _ =>
    Keeps.upd (.refl _ s) (hmg := .inl rfl)
  unfold State.memberWrite
  dsimp only
  refine .ite (fun _ => ?_) fun _ => ?_
  · exact ((h1 _).mono hF).trans (deliver_settle_keeps hown hF hc) (Foot.sub_refl _)
  · rw [hg, Bool.false_and, if_neg Bool.false_ne_true]
    exact ((h1 _).trans (State.refuse_keeps ..) (by decide +kernel)).mono hF

/-- A command that writes a member and lets what waits take effect. -/
theorem completes_write {c : Instr} {t o e m v : Nat} (hw : waits c = true)
    (he : exec c s = writes t 0 o e m v s) (hg : (stagedValue o e m v).isGate = false)
    (hown : ∀ y : State, y.calm = true → Keeps (footOf c) y (y.own 0 (stagedValue o e m v)).settle)
    (hF : writeFoot.sub (footOf c) = true) (hn : (⟨[.now, .out], []⟩ : Foot).sub (footOf c) = true) :
    Completes c s :=
  ⟨_, he, fun h => ((State.enter_keeps s t).mono hn).trans
    (memberWrite_keepsCalm (s := s.enter t) hg hown hF (h hw) _) (Foot.sub_refl _)⟩

/-- Written values of these members go to the act of their unit, from 5000 on. -/
def ownedHigh (o e m : Nat) : Bool :=
  decide (0x5000 ≤ o) && (rowOf o e m).any fun r =>
    r.acc != .w1c && r.ty != .blob && (r.acc != .wo || m != 0x10 || o == 0x5800)

theorem own_high {o e m v : Nat} {u : State} (h : ownedHigh o e m = true) (hu : s.ownHigh? o e m v = some u) :
    s.own master (stagedValue o e m v) = u := by
  simp only [ownedHigh, Option.any_eq_true, Bool.and_eq_true, Bool.or_eq_true, decide_eq_true_eq, bne_iff_ne,
    beq_iff_eq] at h
  obtain ⟨ho, r, hr, ⟨hw, hb⟩, hc⟩ := h
  have hclear : ¬ (r.acc = .wo ∧ m = 0x10 ∧ o ≠ 0x5800) := by tauto
  simp only [State.own, stagedValue, hr, if_neg hw, if_neg hb, if_neg hclear, if_neg (Nat.not_lt.2 ho), hu]

/-! ### The writes of the timeline and the panel -/

section
variable (s : State) (v : Nat)

theorem requestStop_waiting : s.requestStop.seq.waiting = s.seq.waiting := by
  unfold State.requestStop
  split
  · rw [calEnd_seq, put_seq]
    rfl
  · rfl

theorem calmly_requestStop : Calmly ⟨[.seq, .health], [(0x500103, 0x500103)]⟩ s s.requestStop :=
  .ofWaiting (State.requestStop_keeps s) (requestStop_waiting s)

theorem calmly_ownRun :
    Calmly ⟨[.seq, .memory, .health], [(0x500002, 0x500002), (0x500103, 0x500103)]⟩ s (s.ownRun v) := by
  have hp : Calmly ⟨[.seq, .memory, .health], [(0x500002, 0x500002), (0x500103, 0x500103)]⟩ s
      (s.putKept 0x5000 0 0x02 v) := Calmly.mono (.ofKeeps (State.putKept_keeps1 ..))
  unfold State.ownRun
  exact .ite (fun _ => hp.trans (calmly_requestStop _)) fun _ => hp

theorem selectMode_waiting (slot k : Nat) : (s.selectMode slot k).seq.waiting = s.seq.waiting := by
  obtain ⟨d, f, k', hq⟩ := selectMode_seq s slot k
  rw [hq]
  rfl

theorem calmly_ownMode : Calmly ⟨[.out, .seq, .panel, .lanes, .memory], [(0x189104, 0x189108),
    (0x500001, 0x500001), (0x500104, 0x500105), (0x700309, 0x700309), (0x701001, 0x701001)]⟩
    s (s.ownMode v) := by
  refine .ofWaiting (State.ownMode_keeps s v) ?_
  have hp : (s.putKept 0x5000 0 0x01 v).seq = s.seq := (State.putKept_keeps1 ..).seq_eq
  unfold State.ownMode
  dsimp only
  split
  · rw [selectMode_waiting, hp]
  · rw [configAll_seq, recomputeReduction_seq, put_seq, hp]

/-- The end of a drone mode that waits. -/
theorem calmly_dropDrone (F : Foot) (hF : F.parts.contains .seq = true) :
    Calmly F s { s with seq := { s.seq with droneDue := false } } := fun hc =>
  ⟨Keeps.upd (.refl _ s) (hsq := .inl hF), by
    rw [calm_iff] at hc ⊢
    obtain ⟨hp, hn, hs, -, ht⟩ := hc
    exact ⟨hp, hn, hs, rfl, ht⟩⟩

/-- What a write of the drone mode may change (R170). -/
def droneFoot : Foot := footOf (.droneEnter 0)

theorem calmly_beginDrone : Calmly droneFoot s s.beginDrone := by
  unfold State.beginDrone
  dsimp only
  have h1 : Calmly droneFoot s ((s.put 0x5001 0x03 4).panelState 6).takeSlate :=
    (((Calmly.refl _ s).step (State.put_keeps1 ..)).step (State.panelState_keeps ..)).step
      (State.takeSlate_keeps _)
  generalize ((s.put 0x5001 0x03 4).panelState 6).takeSlate = x at h1
  exact (h1.trans (calmly_dropDrone x _ rfl) (Foot.sub_refl _)).step (State.refreshSlate_keeps _)

/-- Where display does not run, only a drone mode that waits is dropped. -/
theorem settle_of_droneDue {z : State} (hr : ¬ z.displayRuns = true) (hd : z.seq.droneDue = true)
    (hp : z.seq.pend = []) (hn : z.seq.nutPend = []) (hs : z.seq.serviceDue = none) (ht : z.net.stepTo = none) :
    z.settle = { z.put 0x5800 0x0A 0 with
      seq := { (z.put 0x5800 0x0A 0).seq with pend := [], droneDue := false } } := by
  have hq : (z.put 0x5800 0x0A 0).seq.serviceDue = none := by rw [put_seq]; exact hs
  have hnet : (z.put 0x5800 0x0A 0).net.stepTo = none := by rw [(State.put_keeps1 ..).net_eq]; exact ht
  unfold State.settle
  rw [if_neg hr, showFrame_of_nil hn]
  extract_lets l sf s0 q s1 q1 y s2 here chords s3
  have hl : l = [] := hp
  have h0 : s0 = z.put 0x5800 0x0A 0 := if_pos hd
  have h1 : s1 = { z.put 0x5800 0x0A 0 with
      seq := { (z.put 0x5800 0x0A 0).seq with pend := [], droneDue := false } } := by
    change State.ownAll _ l = _
    rw [hl, ownAll_nil, ← h0]
  have hs1 : s1.seq.serviceDue = none := by rw [h1]; exact hq
  have h2 : s2 = s1 := if_neg (by simp [hs1])
  have hc : chords = [] := by simp only [chords, hl, List.filterMap_nil, List.eraseDups_nil]
  have h3 : s3 = s1 := by simp only [s3, hc, List.foldl_nil, h2]
  rw [h3, if_neg (by rw [h1, hnet]; exact Bool.false_ne_true), h1]

theorem keeps_settle_ite {F : Foot} {s a b : State} {c : Prop} [Decidable c] (ha : c → Keeps F s a.settle)
    (hb : ¬c → Keeps F s b.settle) : Keeps F s (if c then a else b).settle := by
  split
  · exact ha ‹_›
  · exact hb ‹_›

/-- A drone mode that is asked for while display runs waits for its end; else nothing comes of it. -/
theorem requestDrone_settle_keeps {x : State} (hc : x.calm = true) :
    Keeps droneFoot x ({ x with seq := { x.seq with droneDue := true } } : State).requestStop.settle := by
  obtain ⟨hp, hn, hs, -, ht⟩ := calm_iff.1 hc
  have h0 : Keeps droneFoot x { x with seq := { x.seq with droneDue := true } } :=
    Keeps.upd (.refl _ x) (hsq := .inl rfl)
  unfold State.requestStop
  refine keeps_settle_ite (fun _ => ?_) fun hr => ?_
  · have h5 : ∀ y : State, (y.put 0x5001 0x03 5).calEnd.displayRuns = true := fun y => by
      have hv : (y.put 0x5001 0x03 5).v 0x5001 0x03 = 5 := v_put_self ..
      have he : (y.put 0x5001 0x03 5).calEnd.v 0x5001 0x03 = 5 := hv
      simp [State.displayRuns, he]
    rw [settle_of_displayRuns (h5 _)]
    refine .trans (.trans (Keeps.upd h0 (hsq := .inl rfl)) (State.put_keeps1 ..) ?_) (State.calEnd_keeps _) ?_
    · decide +kernel
    · decide +kernel
  · rw [settle_of_droneDue hr rfl hp hn hs ht]
    exact Keeps.upd (h0.trans (State.put_keeps1 ..) (by decide +kernel)) (hsq := .inl rfl)

theorem ownDrone_settle_keeps {y : State} (hc : y.calm = true) : Keeps droneFoot y (y.ownDrone v).settle := by
  have h1 : Calmly droneFoot y (y.put 0x5800 0x0A v) := .mono (.ofKeeps (State.put_keeps1 ..))
  obtain ⟨hk, hc1⟩ := h1 hc
  unfold State.ownDrone
  dsimp only
  generalize y.put 0x5800 0x0A v = x at h1 hk hc1
  have hdone : ∀ {u : State}, Calmly droneFoot x u → Keeps droneFoot y u.settle := fun hu =>
    ((h1.trans hu (Foot.sub_refl _)).settle hc).1
  refine keeps_settle_ite (fun _ => ?_) fun _ => ?_
  · refine keeps_settle_ite (fun _ => hdone (.refl _ x)) fun _ => ?_
    refine keeps_settle_ite (fun _ => hdone ?_) fun _ => ?_
    · exact ((Calmly.refl _ x).step (State.droneWheel_keeps x)).trans (calmly_beginDrone _) (Foot.sub_refl _)
    · exact hk.trans (requestDrone_settle_keeps hc1) (Foot.sub_refl _)
  · refine keeps_settle_ite (fun _ => hdone ?_) fun _ => hdone (calmly_dropDrone x _ rfl)
    exact ((Calmly.refl _ x).step (State.endDrone_keeps x)).step (State.droneWheelEnds_keeps _)

end

end Sys2Proof.Machine
end

section
set_option Elab.async false
namespace Sys2Proof.Machine

/-! ### Fret boundaries (R130, R136, R142) -/

/-- What a fret boundary may change. -/
def fretFoot : Foot := footOf (.fretBoundary 0)

section
variable (s : State)

theorem promote_keepsPool (p : Pool) : Keeps ⟨[], [(p.object % 65536 * 256 + 1, p.object % 65536 * 256 + 1)]⟩ s
    (s.promote p) := by
  unfold State.promote
  exact Keeps.foldl (.refl _ _) fun x n => State.pute_keeps1 x p.object n 0x01 0

theorem judgeUnits_waiting : s.judgeUnits.seq.waiting = s.seq.waiting := by
  have hb : ∀ (x : State) b v, (x.putBit 0x1891 0x01 b v).seq = x.seq := fun x b v =>
    (State.putBit_keeps1 x 0x1891 0x01 b v).seq_eq
  unfold State.judgeUnits
  dsimp only
  split
  · rw [requestStop_waiting, hb, hb]
  · rw [hb, hb]

theorem calmly_showUnits : Calmly fretFoot s s.showUnits := by
  refine .ofWaiting ((State.showUnits_keeps s).mono (by decide +kernel)) ?_
  unfold State.showUnits
  dsimp only
  rw [judgeUnits_waiting, recomputeReduction_seq]
  simp only [put_seq]

/-- Only the units of the tile decoders and of the synthesis engines are fenced at a fret boundary. -/
theorem calmly_fenceUnit {p : Pool} (hp : p.object = 0x3810 ∨ p.object = 0x4810) (n : Nat) :
    Calmly fretFoot s (s.fenceUnit p n) := by
  have hk : (⟨[], [(p.object % 65536 * 256 + 1, p.object % 65536 * 256 + 1)]⟩ : Foot).sub fretFoot = true := by
    obtain h | h := hp
    · rw [h]
      decide +kernel
    · rw [h]
      decide +kernel
  unfold State.fenceUnit
  exact (((Calmly.refl _ s).step (State.pute_keeps1 ..) hk).step (promote_keepsPool _ p) hk).trans
    (calmly_showUnits _) (Foot.sub_refl _)

theorem calmly_applyFences : Calmly fretFoot s s.applyFences := by
  unfold State.applyFences
  dsimp only
  have h1 : Calmly fretFoot s (s.codec.fenceDue.foldl (fun st n => st.fenceUnit dlanes n) s) :=
    .foldl (fun x n => calmly_fenceUnit x (.inl rfl) n) _ s
  have h2 := h1.trans (.foldl (fun x n => calmly_fenceUnit x (p := engines) (.inr rfl) n) s.ray.fenceDue _)
    (Foot.sub_refl _)
  exact fun hc => ⟨Keeps.upd (h2 hc).1 (hc := .inl rfl) (hr := .inl rfl), (h2 hc).2⟩

/-- Where nothing waits, no class of members takes effect. -/
theorem applyClass_of_calm {s : State} (h : s.calm = true) (cls : Nat) : s.applyClass cls = s := by
  obtain ⟨hp, -⟩ := calm_iff.1 h
  have hq : ({ s.seq with pend := [] } : Seq) = s.seq := by rw [← hp]
  simp only [State.applyClass, hp, List.filter_nil, hq, ownAll_nil]

theorem calmly_cutFret : Calmly fretFoot s s.cutFret := by
  unfold State.cutFret
  dsimp only
  have h1 : Calmly fretFoot s (((s.inc 0x5002 0x02).cutSamples (List.range 16)).emits
      (allStrings.map Output.gateDark)) :=
    ((Calmly.mono (.ofKeeps (State.inc_keeps1 ..))).step (State.cutSamples_keeps ..)).step (State.emits_keeps ..)
  generalize ((s.inc 0x5002 0x02).cutSamples (List.range 16)).emits _ = x at h1
  have h2 : Calmly fretFoot x (([0, 1].filter x.loading).foldl (fun (st : State) h => st.closeLoad h []) x) :=
    .foldl (fun y h => .mono (.ofKeeps (State.closeLoad_keeps y h []))) _ x
  exact (h1.trans h2 (Foot.sub_refl _)).trans
    (.ofWaiting (Keeps.upd (.refl fretFoot _) (hsq := .inl rfl)) rfl) (Foot.sub_refl _)

theorem calmly_fretBegin : Calmly fretFoot s s.fretBegin := by
  have h1 : Calmly fretFoot s (if s.seq.inGap then s else s.finishFret) :=
    .ite (fun _ => .refl _ s) fun _ => .mono (.ofInFrame (State.finishFret_keeps s) (inFrame_finishFret s))
  have h2 : ∀ x : State, Calmly fretFoot x x.freezeBlanking := fun x =>
    Calmly.mono (.ofWaiting (State.freezeBlanking_keeps x) rfl)
  have h4 : ∀ (x : State) (f : Nat), Calmly fretFoot x { x with seq := { x.seq with
      copySel := 1 - x.seq.copySel, fret := f, fretStart := x.now, inGap := false, slot := 0, slots := 0,
      shownA := [], shownB := [], found := [], odd := false } } := fun x _ =>
    .ofWaiting (Keeps.upd (.refl _ x) (hsq := .inl rfl)) rfl
  have h5 : ∀ x : State, Calmly fretFoot x (x.applyClass 1) := fun x =>
    .ofEq _ fun hc => applyClass_of_calm hc 1
  have h6 : ∀ (x : State) (f : Nat), Calmly fretFoot x
      ((((x.put 0x5001 0x02 f).applyFences).applyClass 1).retireBanks.fretPanel).fretBridge := fun x f =>
    (((Calmly.mono (.ofKeeps (State.put_keeps1 ..))).trans (calmly_applyFences _) (Foot.sub_refl _)).trans
      (h5 _) (Foot.sub_refl _)).step (State.retireBanks_keeps _) |>.step (State.fretPanel_keeps _)
      |>.step (State.fretBridge_keeps _)
  have h7 : ∀ (x : State) (f : Nat), Calmly fretFoot x (if f = 0 then x.calRamps else x) := fun x _ =>
    .ite (fun _ => .mono (.ofKeeps (State.calRamps_keeps x))) fun _ => .refl _ x
  have h8 : ∀ (x : State) (f : Nat), Calmly fretFoot x
      (if f + 1 < x.figures.f then x.openWindow (x.v 0x5001 0x01) (f + 1) else x) := fun x _ =>
    .ite (fun _ => .mono (.ofKeeps (State.openWindow_keeps x ..))) fun _ => .refl _ x
  unfold State.fretBegin
  dsimp only
  refine .trans (.trans (.trans (.trans (.trans (.trans h1 ?_ (Foot.sub_refl _)) (h2 _) (Foot.sub_refl _))
    (h4 _ _) (Foot.sub_refl _)) (h6 _ _) (Foot.sub_refl _)) (h7 _ _) (Foot.sub_refl _)) (h8 _ _) (Foot.sub_refl _)
  exact .ite (fun _ => calmly_cutFret _) fun _ => .refl _ _

theorem calmly_doFret (glide : Bool) : Calmly fretFoot s (s.doFret glide) :=
  .ite (fun _ => .settle (calmly_fretBegin s)) fun _ => .refl _ s

end

/-! ### Nut marks (R124, R133, R138, R147) -/

/-- What the end of the last fret, and the frame that follows it, may change. -/
def lastFretFoot : Foot := footOf (.fretFMinus1End 0)

section
variable (s : State)

theorem calmly_finishFret : Calmly lastFretFoot s s.finishFret :=
  .mono (.ofInFrame (State.finishFret_keeps s) (inFrame_finishFret s))

theorem calmly_glideEnded : Calmly lastFretFoot s s.glideEnded :=
  .ite (fun _ => .mono (.ofInFrame (State.endGlide_keeps s) (inFrame_endGlide s))) fun _ => .refl _ s

theorem calmly_gapBegun : Calmly lastFretFoot s s.gapBegun :=
  .mono (.ofWaiting (gapBegun_keeps s) rfl)

theorem endTimeline_waiting : s.endTimeline.seq.waiting = s.seq.waiting := by
  have hc : s.closeWindows.seq = s.seq := (State.closeWindows_keeps s).seq_eq
  unfold State.endTimeline
  dsimp only
  rw [(State.setReceivers_keeps _).seq_eq]
  simp only [put_seq, Seq.waiting, hc]

theorem calmly_endTimeline : Calmly lastFretFoot s s.endTimeline :=
  .mono (.ofWaiting (State.endTimeline_keeps s) (endTimeline_waiting s))

/-- Display ends; no drone mode waits for that. -/
theorem calmly_stopAtNut : Calmly lastFretFoot s s.stopAtNut := by
  intro hc
  obtain ⟨-, -, -, hd, -⟩ := calm_iff.1 hc
  have h1 : Calmly lastFretFoot s (s.endTimeline.park [0, 1]).calFinish :=
    ((calmly_endTimeline s).step (State.park_keeps ..)).step (State.calFinish_keeps _)
  have h2 := (h1.trans (calmly_dropDrone _ _ rfl) (Foot.sub_refl _)).settle
  unfold State.stopAtNut
  simp only [hd, Bool.false_eq_true, if_false, Bool.not_false, if_true]
  exact Calmly.ite (fun _ => h2.step (State.brake_keeps _)) (fun _ => h2) hc

theorem calmly_waitedGlide : Calmly lastFretFoot s s.waitedGlide :=
  .mono (.ofInFrame (State.waitedGlide_keeps s) (inFrame_waitedGlide s))

theorem calmly_startGlide : Calmly lastFretFoot s s.startGlide :=
  .mono (.ofInFrame (State.startGlide_keeps s) (inFrame_startGlide s))

/-- Where nothing waits, the scan-out service stands. -/
theorem serviceChanged_of_calm {s : State} (h : s.calm = true) : s.serviceChanged = s := by
  obtain ⟨-, -, hs, -⟩ := calm_iff.1 h
  rw [State.serviceChanged, hs]

theorem calmly_nutActions : Calmly lastFretFoot s s.nutActions := by
  have h1 : Calmly lastFretFoot s s.glideEnded.gapBegun.judgePilots :=
    ((calmly_glideEnded s).trans (calmly_gapBegun _) (Foot.sub_refl _)).step (State.judgePilots_keeps _)
  have h2 : ∀ x : State, Calmly lastFretFoot x x.showFrame.waitedGlide.startGlide.enterRunning := fun x =>
    (((Calmly.ofEq _ fun hc => showFrame_of_nil (calm_iff.1 hc).2.1).trans (calmly_waitedGlide _)
      (Foot.sub_refl _)).trans (calmly_startGlide _) (Foot.sub_refl _)).step (State.enterRunning_keeps _)
  have h3 : ∀ x : State, Calmly lastFretFoot x x.serviceChanged.nutPanel.calNut := fun x =>
    ((Calmly.ofEq _ serviceChanged_of_calm).step (State.nutPanel_keeps _)).step (State.calNut_keeps _)
  rw [nutActions_eq]
  exact .ite (fun _ => h1.trans (calmly_stopAtNut _) (Foot.sub_refl _)) fun _ =>
    (h1.trans (h2 _) (Foot.sub_refl _)).trans (h3 _) (Foot.sub_refl _)

theorem calmly_stopPark : Calmly lastFretFoot s s.stopPark :=
  .mono (.ofKeeps (State.stopPark_keeps s))

theorem calmly_doLastFretEnd : Calmly lastFretFoot s s.doLastFretEnd := by
  have h1 : ∀ x : State, Calmly lastFretFoot x { x with seq := { x.seq with overlap := false } } := fun x =>
    .ofWaiting (Keeps.upd (.refl _ x) (hsq := .inl rfl)) rfl
  unfold State.doLastFretEnd
  refine .ite (fun _ => .settle ?_) fun _ => calmly_stopPark s
  exact (((calmly_stopPark s).trans (calmly_finishFret _) (Foot.sub_refl _)).trans (h1 _) (Foot.sub_refl _)).trans
    (calmly_nutActions _) (Foot.sub_refl _)

/-- What a nut mark may change. -/
def nutMarkFoot : Foot := footOf (.nutMark 0)

theorem calmly_numbered (early : Bool) : Calmly nutMarkFoot s (s.numbered early) := fun hc =>
  ⟨(numbered_keeps s early).mono (by decide +kernel), (numbered_calm s early).trans hc⟩

theorem calmly_doNutMark : Calmly nutMarkFoot s s.doNutMark := by
  have hf : lastFretFoot.sub nutMarkFoot = true := by decide +kernel
  have h1 : Calmly nutMarkFoot s s.stopPark := (calmly_stopPark s).mono hf
  have h2 : ∀ (x : State) (c early : Bool), Calmly nutMarkFoot x
      ((if c then x else x.finishFret).numbered early) := fun x c early =>
    (Calmly.ite (fun _ => .refl _ x) fun _ => (calmly_finishFret x).mono hf).trans (calmly_numbered _ early)
      (Foot.sub_refl _)
  have h3 := fun early : Bool => h1.trans (h2 s.stopPark (early || s.stopPark.seq.inGap) early) (Foot.sub_refl _)
  unfold State.doNutMark
  exact .ite (fun _ => .ite (fun _ => h3 _) fun _ => .settle ((h3 _).trans (calmly_nutActions _) hf)) fun _ => h1

end

end Sys2Proof.Machine
end

section
set_option Elab.async false
namespace Sys2Proof.Machine

/-! ### The latch point (R133) -/

/-- What the latch point may change. -/
def latchPointFoot : Foot := footOf (.latchPoint 0)

section
variable (s : State)

theorem calmly_latchNoted : Calmly latchPointFoot s s.latchNoted :=
  .mono (.ofWaiting (latchNoted_keeps s) (by rw [latchNoted_seq]; rfl))

theorem calmly_selectFrame : Calmly latchPointFoot s s.selectFrame :=
  .ofEq _ fun hc => selectFrame_of_none (by rw [(calm_iff.1 hc).1, List.all_nil])

theorem calmly_reductionChange : Calmly latchPointFoot s s.reductionChange := by
  obtain ⟨d, f, k, hq⟩ := reductionChange_seq s
  exact .mono (.ofWaiting (State.reductionChange_keeps s) (by rw [hq]; rfl))

theorem calmly_foreseeNut : Calmly latchPointFoot s s.foreseeNut := by
  obtain ⟨n, w, hq⟩ := foreseeNut_seq s
  exact .mono (.ofWaiting (State.foreseeNut_keeps s) (by rw [hq]; rfl))

/-- From the selected values to the prediction of the nut mark. -/
theorem calmly_foresee (ending : Bool) : Calmly latchPointFoot s
    ({ s with seq := { s.seq with ending := ending } } : State).throttleStep.foreseeNut := by
  have h1 : Calmly latchPointFoot s { s with seq := { s.seq with ending := ending } } :=
    .ofWaiting (Keeps.upd (.refl _ s) (hsq := .inl rfl)) rfl
  exact (h1.step (State.throttleStep_keeps _)).trans (calmly_foreseeNut _) (Foot.sub_refl _)

/-- From the decision on: its record, the choice of views and the synthesis window. -/
theorem calmly_decided {x y z : State} {d : Nat} {bn : Option Int} (hx : Calmly latchPointFoot x y)
    (hj : y.judgeNext bn = (d, z)) (frame : Nat) (md : Mode) (central : Bool) : Calmly latchPointFoot x
      ((((z.put 0x5001 0x07 d).countRepeat d).nameShown.chooseViews md central).openWindow frame 0) := by
  have h1 : Calmly latchPointFoot x ((z.put 0x5001 0x07 d).countRepeat d) :=
    ((hx.step (Keeps.snd hj (State.judgeNext_keeps y bn))).step (State.put_keeps1 ..)).step
      (State.countRepeat_keeps ..)
  have h2 : ∀ w : State, Keeps ⟨[.ingress], []⟩ w w.nameShown := fun w =>
    Keeps.upd (.refl _ w) (hi := .inl rfl)
  exact ((h1.step (h2 _)).step (State.chooseViews_keeps ..)).step (State.openWindow_keeps ..)

theorem calmly_doLatchPoint : Calmly latchPointFoot s s.doLatchPoint := by
  have h1 : Calmly latchPointFoot s s.latchNoted.selectFrame.reductionChange :=
    ((calmly_latchNoted s).trans (calmly_selectFrame _) (Foot.sub_refl _)).trans (calmly_reductionChange _)
      (Foot.sub_refl _)
  unfold State.doLatchPoint
  refine .ite (fun _ => ?_) fun _ => .refl _ s
  dsimp only
  generalize hj : State.judgeNext _ _ = p
  obtain ⟨d, z⟩ := p
  exact .settle (calmly_decided (h1.trans (calmly_foresee _ _) (Foot.sub_refl _)) hj _ _ _)

end

/-! ### The panel's wheel (R170) -/

theorem calmly_wheelFollows (s before : State) :
    Calmly ⟨[.loop], [(0x680101, 0x680101), (0x680103, 0x680103)]⟩ s (s.wheelFollows before) :=
  .ite (fun _ => .settle (.ofKeeps (State.droneWheelEnds_keeps s))) fun _ => .refl _ s

/-- What a status block of the panel comes to. -/
def State.statusTaken (s : State) (half : Nat) (block : Bytes) : State :=
  if !(blockOk block) then s.badBlock (64 * half)
  else if blockType block = 3 ∧ (blockPayload block).head? = some 0x81#8 ∧ s.railsUp then
    s.takeStatus half (blockPayload block)
  else s

theorem statusTaken_keeps (s : State) (half : Nat) (block : Bytes) :
    Keeps (footOf (.panelStatus 0 0 [])) s (s.statusTaken half block) :=
  .ite (fun _ => (State.badBlock_keeps ..).mono (by decide +kernel)) fun _ =>
    .ite (fun _ => (State.takeStatus_keeps ..).mono (by decide +kernel)) fun _ => .refl _ s

/-! ### Completion and frame of the commands of the timeline and the panel -/

section
variable {c : Instr} {s u : State} {t : Nat} {G : Foot}

/-- A command that enters its time and then keeps within `F`. -/
theorem completes_of_keeps (F : Foot) (hc : c.wf = true) (he : exec c s = guarded c.wf u) (hF : footOf c = F)
    (hk : Keeps G (s.enter t) u) (hG : G.sub F = true := by decide +kernel)
    (hn : (⟨[.now, .out], []⟩ : Foot).sub F = true := by decide +kernel) : Completes c s :=
  ⟨u, he.trans (guarded_next.2 ⟨hc, rfl⟩), fun _ => hF ▸ ((State.enter_keeps s t).mono hn).trans hk hG⟩

/-- A command that enters its time and then, where nothing waits, keeps within `F`. -/
theorem completes_of_calmly (F : Foot) (hc : c.wf = true) (he : exec c s = guarded c.wf u) (hF : footOf c = F)
    (hw : waits c = true) (hk : Calmly G (s.enter t) u) (hG : G.sub F = true := by decide +kernel)
    (hn : (⟨[.now, .out], []⟩ : Foot).sub F = true := by decide +kernel) : Completes c s :=
  ⟨u, he.trans (guarded_next.2 ⟨hc, rfl⟩), fun h =>
    hF ▸ ((State.enter_keeps s t).mono hn).trans (hk (h hw)).1 hG⟩

end

section
variable (s : State)

/-! #### Commands of the panel -/

theorem panelTimeout_keeps : Keeps (footOf (.panelStatusTimeout 0 0)) s
    (if s.railsUp then s.panelFault 0x07 else s) :=
  .ite (fun _ => (State.panelFault_keeps ..).mono (by decide +kernel)) fun _ => .refl _ s

theorem panelStatusLost_keeps (half : Nat) : Keeps (footOf (.panelStatusLost 0 0)) s
    (if s.railsUp ∧ !(s.bit 0x5801 0x05 (2 + half)) then
      (s.putBit 0x5801 0x05 (2 + half) true).inc 0x5802 0x05
     else s) :=
  .ite (fun _ => .trans ((State.putBit_keeps1 ..).mono (by decide +kernel)) (State.inc_keeps1 ..)
    (by decide +kernel))
    fun _ => .refl _ s

theorem calmly_pgLevel (n : Nat) (good : Bool) : Calmly (footOf (.pnlPgRise 0 0)) s (s.pgLevel n good) :=
  .mono (.ofKeeps (State.pgLevel_keeps s n good))

theorem railDelay_keeps : Keeps (footOf (.railDelayExpiry 0)) s
    (match s.panel.rail with
      | 2 => s.railEnable (s.panel.railNo + 1)
      | 3 => s.railRelease 3
      | 4 => s.railRelease 4
      | _ => s) := by
  have hr : ∀ k, Keeps (footOf (.railDelayExpiry 0)) s (s.railRelease k) := fun k =>
    (State.railRelease_keeps s k).mono (by decide +kernel)
  split
  · exact (State.railEnable_keeps ..).mono (by decide +kernel)
  · exact hr 3
  · exact hr 4
  · exact .refl _ s

theorem dischargeIf_keeps (d : Prop) [Decidable d] (half : Nat) : Keeps (footOf (.dischargeStepExpiry 0 0)) s
    (if d then s.discharge half else s) :=
  .ite (fun _ => (State.discharge_keeps s half).mono (by decide +kernel)) fun _ => .refl _ s

theorem parkTimeExpiry_keeps (half : Nat) : Keeps (footOf (.parkTimeExpiry 0 0)) s
    (if (s.stopPark.half half).park = 1 then s.stopPark.discharge half else s.stopPark) :=
  .trans ((State.stopPark_keeps s).mono (by decide +kernel)) (dischargeIf_keeps s.stopPark _ half)
    (by decide +kernel)

theorem refresh_keeps : Keeps (footOf (.droneRefresh 0)) s (if s.v 0x5001 0x03 = 4 then s.refreshSlate else s) :=
  .ite (fun _ => (State.refreshSlate_keeps s).mono (by decide +kernel)) fun _ => .refl _ s

theorem pgTimeout_keeps : Keeps (footOf (.pgTimeout 0)) s (if s.panel.rail = 1 then s.pgFails else s) :=
  .ite (fun _ => (State.pgFails_keeps s).mono (by decide +kernel)) fun _ => .refl _ s

/-! #### Writes -/

/-- A write whose owner's act, from a state in which nothing waits, keeps within `F`. -/
theorem completes_ownWrite {c : Instr} {t o m v : Nat} (F : Foot) (he : exec c s = writes t 0 o 0 m v s)
    (hF : footOf c = F) (hw : waits c = true) (act : State → State)
    (ho : ∀ y : State, y.ownHigh? o 0 m v = some (act y))
    (hk : ∀ y : State, y.calm = true → Keeps F y (act y).settle)
    (hrow : ownedHigh o 0 m = true := by decide +kernel)
    (hs : writeFoot.sub F = true := by decide +kernel)
    (hn : (⟨[.now, .out], []⟩ : Foot).sub F = true := by decide +kernel) : Completes c s := by
  have hg : (stagedValue o 0 m v).isGate = false := by
    have h5 : 0x5000 ≤ o := by
      simp only [ownedHigh, Bool.and_eq_true, decide_eq_true_eq] at hrow
      exact hrow.1
    simp only [Staged.isGate, stagedValue, Bool.or_eq_false_iff, beq_eq_false_iff_ne]
    omega
  subst hF
  refine completes_write hw he hg (fun y hy => ?_) hs hn
  rw [own_high hrow (ho y)]
  exact hk y hy

/-- Where the owner's act leaves what waits as it was, nothing more follows. -/
theorem Calmly.settled {F G : Foot} {s u : State} (h : Calmly G s u) (hs : G.sub F = true := by decide +kernel)
    (hc : s.calm = true) : Keeps F s u.settle :=
  ((h.mono hs).settle hc).1

theorem completes_displayRun {c : Instr} {t v : Nat} (he : exec c s = writes t 0 0x5000 0 0x02 v s)
    (hF : footOf c = footOf (.displayRunStart 0)) (hw : waits c = true) : Completes c s :=
  completes_ownWrite s (footOf (.displayRunStart 0)) he hF hw (fun y => y.ownRun v) (fun _ => rfl)
    fun y => (calmly_ownRun y v).settled

theorem completes_timingMode (t v : Nat) : Completes (.timingMode t v) s :=
  completes_ownWrite s (footOf (.timingMode 0 0)) rfl rfl rfl (fun y => y.ownMode v) (fun _ => rfl)
    fun y => (calmly_ownMode y v).settled

theorem completes_faultRearm (t v : Nat) : Completes (.faultRearm t v) s :=
  completes_ownWrite s (footOf (.faultRearm 0 0)) rfl rfl rfl State.rearmPanel (fun _ => rfl)
    fun y => (Calmly.ofKeeps (State.rearmPanel_keeps y)).settled

theorem completes_panelPower (t v : Nat) : Completes (.panelPower t v) s :=
  completes_ownWrite s (footOf (.panelPower 0 0)) rfl rfl rfl (fun y => y.ownPower v) (fun _ => rfl)
    fun y => (Calmly.ofKeeps (State.ownPower_keeps y v)).settled

theorem completes_drone {c : Instr} {t v : Nat} (he : exec c s = writes t 0 0x5800 0 0x0A v s)
    (hF : footOf c = droneFoot) (hw : waits c = true) : Completes c s :=
  completes_ownWrite s droneFoot he hF hw (fun y => y.ownDrone v) (fun _ => rfl)
    fun _ => ownDrone_settle_keeps v

/-! #### All -/

/-- Every command of the timeline and the panel. -/
theorem completes_display {c : Instr} (ha : areaOf c = .display) (hc : c.wf = true) : Completes c s := by
  cases c with
  | memberWrite t o e m v =>
    exact completes_of_keeps (footOf (.memberWrite 0 0 0 0 0)) hc rfl rfl (State.memberWrite_keeps (s.enter t) ..)
  | latchPoint t => exact completes_of_calmly latchPointFoot hc rfl rfl rfl (calmly_doLatchPoint (s.enter t))
  | nutMark t => exact completes_of_calmly nutMarkFoot hc rfl rfl rfl (calmly_doNutMark (s.enter t))
  | fretBoundary t => exact completes_of_calmly fretFoot hc rfl rfl rfl (calmly_doFret (s.enter t) false)
  | glideFretEdge t => exact completes_of_calmly fretFoot hc rfl rfl rfl (calmly_doFret (s.enter t) true)
  | fretFMinus1End t => exact completes_of_calmly lastFretFoot hc rfl rfl rfl (calmly_doLastFretEnd (s.enter t))
  | fretBoundaryOverdue t =>
    exact completes_of_keeps (footOf (.fretBoundaryOverdue 0)) hc rfl rfl (State.doOverdue_keeps (s.enter t))
  | planeSlotStart t ecc =>
    exact completes_of_keeps (footOf (.planeSlotStart 0 [])) hc rfl rfl (State.doSlot_keeps (s.enter t) ecc)
  | loadCutoff t half late =>
    exact completes_of_keeps (footOf (.loadCutoff 0 0 [])) hc rfl rfl (State.closeLoad_keeps (s.enter t) half late)
  | synthesisDeadline t =>
    exact completes_of_keeps (footOf (.synthesisDeadline 0)) hc rfl rfl (State.doSynthesisDeadline_keeps (s.enter t))
  | bandCommit t ecc =>
    exact completes_of_keeps (footOf (.bandCommit 0 [])) hc rfl rfl (State.doBandCommit_keeps (s.enter t) ecc)
  | displayStartPoint t =>
    exact completes_of_keeps (footOf (.displayStartPoint 0)) hc rfl rfl (State.doDisplayStart_keeps (s.enter t))
  | panelStatus t half b =>
    exact completes_of_calmly (footOf (.panelStatus 0 0 [])) hc rfl rfl rfl
      ((Calmly.ofKeeps (statusTaken_keeps (s.enter t) half b)).trans (calmly_wheelFollows _ s))
  | panelStatusTimeout t half =>
    exact completes_of_calmly (footOf (.panelStatusTimeout 0 0)) hc rfl rfl rfl
      ((Calmly.ofKeeps (panelTimeout_keeps (s.enter t))).trans (calmly_wheelFollows _ s))
  | panelStatusLost t half =>
    exact completes_of_keeps (footOf (.panelStatusLost 0 0)) hc rfl rfl (panelStatusLost_keeps (s.enter t) half)
  | pnlPgRise t n =>
    exact completes_of_calmly (footOf (.pnlPgRise 0 0)) hc rfl rfl rfl
      ((calmly_pgLevel (s.enter t) n true).trans (calmly_wheelFollows _ s))
  | pnlPgFall t n =>
    exact completes_of_calmly (footOf (.pnlPgRise 0 0)) hc rfl rfl rfl
      ((calmly_pgLevel (s.enter t) n false).trans (calmly_wheelFollows _ s))
  | railDelayExpiry t =>
    exact completes_of_keeps (footOf (.railDelayExpiry 0)) hc rfl rfl (railDelay_keeps (s.enter t))
  | pgTimeout t => exact completes_of_keeps (footOf (.pgTimeout 0)) hc rfl rfl (pgTimeout_keeps (s.enter t))
  | clearBeforeLight t half =>
    exact completes_of_keeps (footOf (.clearBeforeLight 0 0)) hc rfl rfl (State.doClear_keeps (s.enter t) half)
  | exerciseLatch t half =>
    exact completes_of_keeps (footOf (.exerciseLatch 0 0)) hc rfl rfl (State.doLatch_keeps (s.enter t) half)
  | parkTimeExpiry t half =>
    exact completes_of_keeps (footOf (.parkTimeExpiry 0 0)) hc rfl rfl (parkTimeExpiry_keeps (s.enter t) half)
  | dischargeStepExpiry t half =>
    exact completes_of_keeps (footOf (.dischargeStepExpiry 0 0)) hc rfl rfl (dischargeIf_keeps (s.enter t) _ half)
  | droneRefresh t => exact completes_of_keeps (footOf (.droneRefresh 0)) hc rfl rfl (refresh_keeps (s.enter t))
  | displayRunStart t => exact completes_displayRun s (t := t) rfl rfl rfl
  | displayRunStop t => exact completes_displayRun s (t := t) rfl rfl rfl
  | timingMode t v => exact completes_timingMode s t v
  | faultRearm t v => exact completes_faultRearm s t v
  | panelPower t v => exact completes_panelPower s t v
  | droneEnter t => exact completes_drone s (t := t) rfl rfl rfl
  | droneLeave t => exact completes_drone s (t := t) rfl rfl rfl
  | _ => exact nomatch ha

end

/-- Settles O18, command by command: from a state in which nothing waits, no act of a command finds a waiting
change to make, and so each keeps within its own footprint. -/
theorem displayCommandsKeepTheRest : Obligations.DisplayCommandsKeepTheRest := fun _ s ha hc =>
  completes_display s ha hc

end Sys2Proof.Machine
end

section
set_option Elab.async false
namespace Sys2Proof.Machine

/-! ### Columns, bands and tiles (R30, R31) -/

/-- `cdiv a n` pieces of length `n` cover `a`, and one less does not. -/
theorem le_mul_cdiv {n : Nat} (hn : 0 < n) (a : Nat) : a ≤ n * cdiv a n ∧ n * cdiv a n < a + n := by
  have hd := Nat.div_add_mod (a + n - 1) n
  have hm := Nat.mod_lt (a + n - 1) hn
  unfold cdiv
  omega

theorem tileIndex_lt {m : Mode} {b c : Nat} (hb : b < m.bands) (hc : c < m.cols) :
    m.tileIndex b c < m.cols * m.bands :=
  calc m.tileIndex b c < (b + 1) * m.cols := by rw [Nat.succ_mul]; exact Nat.add_lt_add_left hc _
    _ ≤ m.cols * m.bands := by rw [Nat.mul_comm]; exact Nat.mul_le_mul_left _ hb

theorem tiles_of_valid {m : Mode} (h : m.valid = true) : m.cols * m.bands ≤ 512 := by
  simp only [Mode.valid, Bool.and_eq_true, decide_eq_true_eq] at h
  tauto

/-- R31: every point of the picture lies in the tile of its column and band. -/
theorem tile_covers {m : Mode} {x y : Nat} (hx : x < m.h) (hy : y < m.v) :
    x / 128 < m.cols ∧ x < 128 * (x / 128) + m.tileW (x / 128) ∧
      y / 64 < m.bands ∧ y < 64 * (y / 64) + m.tileH (y / 64) := by
  have hc := le_mul_cdiv (n := 128) (by decide) m.h
  have hb := le_mul_cdiv (n := 64) (by decide) m.v
  simp only [Mode.cols, Mode.bands, Mode.tileW, Mode.tileH]
  omega

theorem reset_modeSlot_zero : State.reset.modeSlot 0 =
    { h := 2560, v := 1440, lw := 4, f := 64, frame := 83333333, ls := 41667, settle := 10000, w := 30000 } := by
  decide +kernel

theorem reset_modeSlot_one : State.reset.modeSlot 1 =
    { h := 1280, v := 720, lw := 2, f := 48, frame := 100000000, ls := 66667, settle := 10000, w := 48000 } := by
  decide +kernel

/-- The raw size of a tile of whole columns, by the height of its band. -/
theorem rawSize_of_full {m : Mode} {c : Nat} (hc : 128 * (c + 1) ≤ m.h) (b : Nat) :
    m.rawSize b c = 512 * m.tileH b := by
  have hw : m.tileW c = 128 := by unfold Mode.tileW; omega
  rw [Mode.rawSize, hw]
  omega

/-- Settles O6: the four general parts by the ceiling division, the figures of the two reference modes by
their whole columns. -/
theorem tilesOfAMode : Obligations.TilesOfAMode := by
  refine ⟨fun m => ?_, fun m b c => ⟨rfl, tileIndex_lt⟩, fun m b c => ⟨rfl, rfl, rfl⟩,
    fun m x y => tile_covers, ?_, ?_⟩
  · obtain ⟨hc, hc'⟩ := le_mul_cdiv (n := 128) (by decide) m.h
    obtain ⟨hb, hb'⟩ := le_mul_cdiv (n := 64) (by decide) m.v
    exact ⟨hc, hc', hb, hb', tiles_of_valid⟩
  · rw [reset_modeSlot_zero]
    refine ⟨rfl, rfl, rfl, fun b c hb hc => ?_, fun c hc => ?_⟩
    · rw [rawSize_of_full (by dsimp only; omega), Mode.tileH]
      dsimp only
      omega
    · rw [rawSize_of_full (by dsimp only; omega)]
      rfl
  · rw [reset_modeSlot_one]
    refine ⟨rfl, rfl, rfl, fun c hc => ?_⟩
    rw [rawSize_of_full (by dsimp only; omega)]
    rfl

end Sys2Proof.Machine
end

section
set_option Elab.async false
namespace Sys2Proof.Machine

/-! ### CLEAR of the link counters (R57, 7002.10) -/

/-- A bad block has been counted on lane 5; nothing else has happened since reset. -/
def State.oneBadBlock : State := State.reset.pute 0x7010 5 0x07 1

/-- Refutes O17: CLEAR of 7002 also zeroes the counters of each lane, 7010[n].07 to 09, and the footprint of
COUNTER_CLEAR names object 7002 alone. The count of lane 5 is lost. -/
theorem not_contentCommandsKeepTheRest : ¬ Obligations.ContentCommandsKeepTheRest := by
  intro h
  obtain ⟨s', hr, hk⟩ := h (.counterClear 0 0x7002 1) State.oneBadBlock rfl rfl
  have hrun : runs (.counterClear 0 0x7002 1) State.oneBadBlock ((State.oneBadBlock.acceptedAt 0).clearCounters 0x7002) :=
    runs_counterClear (r := ⟨0x7002, 1, 0x10, 0x10, "CLEAR", .u 8, .wo, false, 0, .now⟩) (by decide +kernel)
      (by decide +kernel) (by decide +kernel) rfl (by decide)
  obtain rfl := Host.Outcome.next.inj (hrun.symm.trans hr)
  have hlost := tget?_clearCounters (State.oneBadBlock.acceptedAt 0) (o := 0x7002) (k := mkey 0x7010 5 0x07)
    (by decide +kernel)
  have hkept := (hk fun _ => by decide +kernel).keys (mkey 0x7010 5 0x07) (by decide +kernel)
  have hwas : tget? (mkey 0x7010 5 0x07) State.oneBadBlock.dict = some 1 := by decide +kernel
  rw [hlost, hwas] at hkept
  exact nomatch hkept

end Sys2Proof.Machine
end

section
set_option Elab.async false
namespace Sys2Proof.Machine

/-! ### A parcel start block behind its header (R36, R43) -/

/-- A tile parcel's common header for position (0, 0) of wall 0, with a body of nine bytes (R35). -/
def nineByteHdr : Bytes :=
  let h := [0x01#8, 0x01#8] ++ zeros 10 ++ beBytes 4 5 ++ beBytes 4 9
  h ++ beBytes 4 (crc32c h)

/-- Mesh port 0 is up on its lane 128 alone, and the header of a parcel has been decided on there. -/
def State.headerDecided : State :=
  (({ (State.reset.pute 0x7003 0 0x05 2).pute 0x7010 128 0x01 2 with
      lanes := { Lanes.reset with groups := [(128, { Group.reset with rxMap := 1 })] } } : State).enter
    0).doParcelHeader 0 nineByteHdr

/-- The parcel start block that brings that header as its first payload bytes. -/
def headerStart : Bytes := mkBlock 2 0 (nineByteHdr ++ zeros 40)

/-- Refutes O45: where PARCEL_HEADER_ARRIVES has decided on a parcel's header, the parcel start block that
brings the same header is the first block of that parcel (`startParcel` passes it on), so the parcel under
way keeps its header and no parcel without one begins. -/
theorem not_blocksAccepted : ¬ Obligations.BlocksAccepted := by
  rintro ⟨-, hstart, -⟩
  obtain ⟨s', hr, -, i, hi, -, -, hh⟩ := hstart State.headerDecided 1 128 headerStart (by decide +kernel)
  have he : guarded true ((State.headerDecided.enter 1).receiveBlock 128 headerStart) = .next s' := hr
  obtain ⟨-, rfl⟩ := guarded_next.1 he
  have hkept : (((State.headerDecided.enter 1).receiveBlock 128 headerStart).ingress.inbound.head?.all
      fun j => j.hdr == nineByteHdr) = true := by decide +kernel
  rw [Option.mem_def.1 hi, Option.all_some, hh] at hkept
  exact absurd hkept (by decide +kernel)

end Sys2Proof.Machine
end

section
set_option Elab.async false
namespace Sys2Proof.Machine

/-! ### Writes that go to the act of a unit (R8) -/

/-- A row of `n` elements whose written number goes to the act of its unit, in a class. -/
def unitRow (n cls : Nat) (r : MemberRow) : Bool :=
  r.acc != .w1c && r.ty != .blob && r.elements == n && classIn 0 r == cls

/-- Whatever all rows of an object's member have, the row of each of its elements has. -/
theorem rowOf_all {P : MemberRow → Bool} {o e m : Nat} {r : MemberRow} (h : rowOf o e m = some r)
    (hall : (memberRows.all fun r =>
      !(r.object == o && decide (r.first ≤ m) && decide (m ≤ r.last)) || P r) = true) : P r = true := by
  obtain ⟨hr, ho, hf, hl, -⟩ := rowOf_some h
  simpa [ho, hf, hl] using List.all_eq_true.1 hall r hr

theorem lt_elements_of_rowOf {o e m : Nat} {r : MemberRow} (h : rowOf o e m = some r) : e < r.elements := by
  have hp := List.find?_some h
  simp only [Bool.and_eq_true, decide_eq_true_eq] at hp
  exact hp.1.1.2

/-- An accepted write below 5000 that takes effect at once, where its unit's act leaves nothing waiting. -/
theorem runs_unitWrite {c : Instr} {s u : State} {t o e m v : Nat} (n cls : Nat)
    (he : exec c s = writes t 0 o e m v s) (ha : s.acceptsValue t 0 o e m v = true)
    (hn : cls = 0 ∨ s.displayRuns = false) (hu : (s.acceptedAt t).ownLow? 0 o e m v = some u)
    (hc : e < n → u.calm = true) (ho : o < 0x5000 := by decide) (hm : m ≠ 0x10 := by decide)
    (hrow : (memberRows.all fun r =>
      !(r.object == o && decide (r.first ≤ m) && decide (m ≤ r.last)) || unitRow n cls r) = true := by
        decide +kernel) : runs c s u ∧ e < n := by
  obtain ⟨r, hr⟩ := acceptsValue_row ha
  have hunit := rowOf_all hr hrow
  simp only [unitRow, Bool.and_eq_true, bne_iff_ne, beq_iff_eq] at hunit
  obtain ⟨⟨⟨hw, hb⟩, hel⟩, hcls⟩ := hunit
  have hlt : e < n := hel ▸ lt_elements_of_rowOf hr
  have hnow : s.atOnce o e m = true := by
    obtain h0 | hd := hn
    · simp [State.atOnce, hr, hcls, h0]
    · simp [State.atOnce, hd]
  have hown : (s.acceptedAt t).own 0 (stagedValue o e m v) = u := by
    simp [State.own, stagedValue, hr, hw, hb, hm, ho, hu]
  refine ⟨he.trans ?_, hlt⟩
  rw [writes, memberWrite_accepted ha, deliver_atOnce hr hnow, hown, settle_of_calm (hc hlt)]

/-! ### Fences of the pools (R72, R116, R117) -/

/-- A fold of writes to one member of other elements. -/
theorem ve_foldl_pute {o n m v : Nat} {l : List Nat} (hl : ∀ k ∈ l, mkey o n m ≠ mkey o k m) (s : State) :
    (l.foldl (fun (st : State) k => st.pute o k m v) s).ve o n m = s.ve o n m := by
  induction l generalizing s with
  | nil => rfl
  | cons k l ih =>
    obtain ⟨hk, hl⟩ := List.forall_mem_cons.1 hl
    rw [List.foldl_cons, ih hl, ve_pute_ne hk]

/-- The decode lanes and the ray engines. -/
def Pool.known (p : Pool) : Prop := p = dlanes ∨ p = engines

theorem Pool.known.bounds {p : Pool} (hp : p.known) : p.object < 65536 ∧ p.units ≤ 272 := by
  obtain rfl | rfl := hp
  · decide
  · decide

theorem Pool.known.object {p : Pool} (hp : p.known) : p.object = 0x3810 ∨ p.object = 0x4810 :=
  hp.imp (congrArg Pool.object) (congrArg Pool.object)

section
variable {s : State} {p : Pool} {n : Nat}

/-- What is shown of the pools lies apart from the states of their units, and from their fences. -/
theorem ve_showUnits (hp : p.known) {m : Nat} (hm : m = 1 ∨ m = 2) (s : State) (n : Nat) :
    s.showUnits.ve p.object n m = s.ve p.object n m := by
  refine (State.showUnits_keeps s).ve _ _ _ ?_
  obtain rfl | rfl := hp <;> obtain rfl | rfl := hm <;> decide +kernel

/-- Only spares take roles. -/
theorem ve_promote_state (hp : p.known) (hn : n < 65536) (h : s.ve p.object n 1 ≠ 1) :
    (s.promote p).ve p.object n 1 = s.ve p.object n 1 := by
  obtain ⟨ho, hu⟩ := hp.bounds
  refine ve_foldl_pute (fun k hk he => h ?_) s
  obtain ⟨hspare, -⟩ := List.mem_filter.1 (List.mem_of_mem_take hk)
  obtain ⟨hrange, hstate⟩ := List.mem_filter.1 hspare
  have hlt : k < 65536 := (List.mem_range.1 hrange).trans_le (hu.trans (by decide))
  obtain ⟨-, rfl, -⟩ := mkey_inj ho ho hn (by decide) hlt (by decide) he
  exact beq_iff_eq.1 hstate

theorem ve_promote_fenced (hp : p.known) : (s.promote p).ve p.object n 2 = s.ve p.object n 2 := by
  refine (promote_keepsPool s p).ve _ _ _ ?_
  obtain rfl | rfl := hp <;> decide +kernel

theorem mkey_state_ne_fenced (o n : Nat) : mkey o n 2 ≠ mkey o n 1 := by
  unfold mkey
  omega

theorem fenceUnit_state (hp : p.known) (hn : n < 65536) : (s.fenceUnit p n).ve p.object n 1 = 2 := by
  have h2 : (s.pute p.object n 1 2).ve p.object n 1 = 2 := ve_pute_self ..
  rw [State.fenceUnit, ve_showUnits hp (.inl rfl), ve_promote_state hp hn (by rw [h2]; decide), h2]

theorem fenceUnit_fenced (hp : p.known) : (s.fenceUnit p n).ve p.object n 2 = s.ve p.object n 2 := by
  rw [State.fenceUnit, ve_showUnits hp (.inr rfl), ve_promote_fenced hp, ve_pute_ne (mkey_state_ne_fenced _ _)]

theorem returnUnit_state (hp : p.known) (h : s.ve p.object n 1 = 2) :
    (s.returnUnit p n).ve p.object n 1 = 3 := by
  rw [State.returnUnit, if_pos h, ve_showUnits hp (.inl rfl), ve_pute_self]

theorem returnUnit_fenced (hp : p.known) : (s.returnUnit p n).ve p.object n 2 = s.ve p.object n 2 := by
  unfold State.returnUnit
  split
  · rw [ve_showUnits hp (.inr rfl), ve_pute_ne (mkey_state_ne_fenced _ _)]
  · rfl

/-- A fence that waits, or none, leaves a fenced unit out of service. -/
theorem settleFence_state (hp : p.known) (hn : n < 65536) (h : s.ve p.object n 1 = 2) :
    (s.settleFence p n).ve p.object n 1 = 2 := by
  unfold State.settleFence
  split
  · exact fenceUnit_state hp hn
  · exact h

theorem settleFence_fenced (hp : p.known) : (s.settleFence p n).ve p.object n 2 = s.ve p.object n 2 := by
  unfold State.settleFence
  split
  · rw [fenceUnit_fenced hp, (State.dropFence_keeps s p n).ve _ _ _ rfl]
  · rfl

/-- What the fenced member of a unit brings about. -/
theorem ownFence_effect (hp : p.known) (hn : n < 65536) (s : State) (v : Nat) :
    (s.ownFence p n v).ve p.object n 2 = v ∧ (v = 1 → (s.ownFence p n v).ve p.object n 1 = 2) ∧
      (v = 0 → s.ve p.object n 1 = 2 → (s.ownFence p n v).ve p.object n 1 = 3) := by
  have h2 : (s.putKept p.object n 2 v).ve p.object n 2 = v := ve_putKept_self ..
  unfold State.ownFence
  dsimp only
  split
  next hv =>
    exact ⟨(fenceUnit_fenced hp).trans h2, fun _ => fenceUnit_state hp hn, fun h0 => absurd (h0.symm.trans hv) (by decide)⟩
  next hv =>
    have hk : (s.putKept p.object n 2 v).ve p.object n 1 = s.ve p.object n 1 := by
      refine (State.putKept_keeps1 ..).ve _ _ _ ?_
      obtain rfl | rfl := hp <;> decide +kernel
    exact ⟨(returnUnit_fenced hp).trans ((settleFence_fenced hp).trans h2), fun h1 => absurd h1 hv,
      fun _ h => returnUnit_state hp (settleFence_state hp hn (hk.trans h))⟩

/-- From a state in which nothing waits, a fence leaves nothing waiting. -/
theorem ownFence_calm (hp : p.known) (hc : s.calm = true) (n v : Nat) : (s.ownFence p n v).calm = true := by
  have hf : fretFoot.sub Foot.any = true := by decide +kernel
  have hfence : ∀ x : State, Calmly Foot.any x (x.fenceUnit p n) := fun x =>
    (calmly_fenceUnit x hp.object n).mono hf
  have hkept : Calmly Foot.any s (s.putKept p.object n 2 v) :=
    .mono (.ofKeeps (State.putKept_keepsA ..))
  have hsettle : ∀ x : State, Calmly Foot.any x (x.settleFence p n) := fun x =>
    .ite (fun _ => (Calmly.ofKeeps (State.dropFence_keeps x p n)).mono.trans (hfence _) (Foot.sub_refl _))
      fun _ => .refl _ x
  have hreturn : ∀ x : State, Calmly Foot.any x (x.returnUnit p n) := fun x =>
    .ite (fun _ => ((Calmly.ofKeeps (State.pute_keepsA x ..)).mono.trans ((calmly_showUnits _).mono hf)
      (Foot.sub_refl _))) fun _ => .refl _ x
  have h : Calmly Foot.any s (s.ownFence p n v) :=
    .ite (fun _ => hkept.trans (hfence _) (Foot.sub_refl _)) fun _ =>
      (hkept.trans (hsettle _) (Foot.sub_refl _)).trans (hreturn _) (Foot.sub_refl _)
  exact (h hc).2

end

/-- An accepted write of a unit's fence while display is stopped. -/
theorem runs_fence {c : Instr} {s : State} {p : Pool} {t n v : Nat} (hp : p.known)
    (he : exec c s = writes t 0 p.object n 0x02 v s) (ha : s.acceptsValue t 0 p.object n 0x02 v = true)
    (hd : s.displayRuns = false) (hc : s.calm = true)
    (hu : (s.acceptedAt t).ownLow? 0 p.object n 0x02 v = some ((s.acceptedAt t).ownFence p n v)) :
    ∃ s', runs c s s' ∧ s'.mgmt.lastCode = 0 ∧ s'.ve p.object n 0x02 = v ∧
      (v = 1 → s'.ve p.object n 0x01 = 2) ∧
      (v = 0 → s.ve p.object n 0x01 = 2 → s'.ve p.object n 0x01 = 3) := by
  have hcalm : ((s.acceptedAt t).ownFence p n v).calm = true :=
    ownFence_calm (s := s.acceptedAt t) hp hc n v
  have hrun : runs c s ((s.acceptedAt t).ownFence p n v) ∧ n < p.units := by
    obtain rfl | rfl := hp
    · exact runs_unitWrite (o := 0x3810) 272 1 he ha (.inr hd) hu fun _ => hcalm
    · exact runs_unitWrite (o := 0x4810) 136 1 he ha (.inr hd) hu fun _ => hcalm
  have hlt : n < 65536 := hrun.2.trans_le (hp.bounds.2.trans (by decide))
  have hm : ((s.acceptedAt t).ownFence p n v).mgmt = (s.acceptedAt t).mgmt :=
    (State.ownFence_keeps ..).mgmt.resolve_left (by decide)
  exact ⟨_, hrun.1, by rw [hm]; rfl, ownFence_effect hp hlt (s.acceptedAt t) v⟩

/-! ### Fences of the compression lanes (R75) -/

theorem ownClane_fenced (s : State) (k v : Nat) : (s.ownClane k v).ve 0x3820 k 0x04 = v := by
  have hk : (s.putKept 0x3820 k 0x04 v).ve 0x3820 k 0x04 = v := ve_putKept_self ..
  unfold State.ownClane
  dsimp only
  rw [(State.showClanes_keeps _).ve 0x3820 k 0x04 (by decide +kernel)]
  split
  · exact hk
  · rw [(State.clanRest_keeps ..).ve 0x3820 k 0x04 (by decide +kernel), hk]

/-- A lane that is not at work shows its fence at once. -/
theorem ownClane_state {s : State} {k v : Nat} (h : s.ve 0x3820 k 0x03 ≠ 1) :
    (s.ownClane k v).ve 0x3820 k 0x03 = if v = 1 then 2 else 0 := by
  have hk : (s.putKept 0x3820 k 0x04 v).ve 0x3820 k 0x04 = v := ve_putKept_self ..
  unfold State.ownClane
  dsimp only
  rw [(State.showClanes_keeps _).ve 0x3820 k 0x03 (by decide +kernel), if_neg h, State.clanRest, ve_pute_self, hk]

/-! ### Triggers that wait (R55) -/

/-- A trigger waits during a replay, while display does not run, and before the latch point of its step 0. -/
theorem takeTrigger_waits {s : State} {g : Trigger} (hg : g.count ≠ 0) (h : s.ingress.replay.isSome = true ∨
    s.seq.running = false ∨ s.wallReaches s.comingBoundary g.start = false) :
    s.takeTrigger g = { s with ingress := { s.ingress with trigger := some g } } := by
  rw [State.takeTrigger, if_neg hg]
  obtain h | h | h := h
  · rw [if_pos h]
  · simp [h]
  · simp [h]

/-- Settles O25: each write is accepted and reaches the act of its unit at once, and that act leaves nothing
waiting. -/
theorem cueAndPoolWrites : Obligations.CueAndPoolWrites := by
  refine ⟨fun s t v ha hc _ hr hg => ?_, fun s t cue v ha hc => ?_, fun s t n v ha hd hc => ?_,
    fun s t n v ha hd hc => ?_, fun s t n v ha hc => ?_⟩
  · have hw : (s.acceptedAt t).takeTrigger s.heldTrigger =
        { s.acceptedAt t with ingress := { s.ingress with trigger := some s.heldTrigger } } :=
      takeTrigger_waits hg (.inr (.inl hr))
    exact ⟨_, (runs_unitWrite 1 0 rfl ha (.inl rfl) (congrArg some hw) fun _ => hc).1, rfl, rfl⟩
  · have hk := State.emptyCue_keeps (s.acceptedAt t) cue
    have hcalm : ((s.acceptedAt t).emptyCue cue).calm = true := (calm_congr hk.seq_eq hk.net_eq).trans hc
    refine ⟨_, (runs_unitWrite 65536 0 rfl ha (.inl rfl) rfl fun _ => hcalm).1, rfl, ?_, ve_pute_self .., ?_⟩
    · rw [State.emptyCue, ve_pute_ne (by unfold mkey; omega), ve_pute_self]
    · exact tget?_tdel_self ..
  · exact runs_fence (p := dlanes) (.inl rfl) rfl ha hd hc rfl
  · exact runs_fence (p := engines) (.inr rfl) rfl ha hd hc rfl
  · have hk := State.ownClane_keeps (s.acceptedAt t) n v
    have hcalm : ((s.acceptedAt t).ownClane n v).calm = true := (calm_congr hk.seq_eq hk.net_eq).trans hc
    have hm : ((s.acceptedAt t).ownClane n v).mgmt = (s.acceptedAt t).mgmt := hk.mgmt.resolve_left (by decide)
    exact ⟨_, (runs_unitWrite 16 0 rfl ha (.inl rfl) rfl fun _ => hcalm).1, by rw [hm]; rfl,
      ownClane_fenced .., ownClane_state (s := s.acceptedAt t) (v := v)⟩

end Sys2Proof.Machine
end

section
set_option Elab.async false
namespace Sys2Proof.Machine

/-! ### Outputs are only added -/

/-- The outputs of a state stand, and more may follow them. -/
def OutGrows (s u : State) : Prop := s.out <+: u.out

namespace OutGrows

variable {F : Foot} {s u w : State}

theorem refl (s : State) : OutGrows s s := List.prefix_rfl

theorem trans (h : OutGrows s u) (g : OutGrows u w) : OutGrows s w := List.IsPrefix.trans h g

theorem ofKeeps (h : Keeps F s u) (hf : F.parts.contains .out = false := by rfl) : OutGrows s u := by
  rw [OutGrows, h.out.resolve_left (Bool.eq_false_iff.1 hf)]

/-- A step without outputs follows. -/
theorem step (h : OutGrows s u) (g : Keeps F u w) (hf : F.parts.contains .out = false := by rfl) :
    OutGrows s w :=
  h.trans (ofKeeps g hf)

theorem ite {c : Prop} [Decidable c] {a b : State} (ha : OutGrows s a) (hb : OutGrows s b) :
    OutGrows s (if c then a else b) := by
  split
  · exact ha
  · exact hb

theorem foldl {α : Type} {f : State → α → State} (h : ∀ x a, OutGrows x (f x a)) (l : List α) (s : State) :
    OutGrows s (l.foldl f s) := by
  induction l generalizing s with
  | nil => exact .refl _
  | cons a l ih => exact (h s a).trans (ih _)

theorem mem {o : Output} (h : OutGrows s u) (ho : o ∈ s.out) : o ∈ u.out := List.IsPrefix.subset h ho

end OutGrows

section
variable (s : State)

theorem outGrows_emit (o : Output) : OutGrows s (s.emit o) := List.prefix_append ..

theorem outGrows_putBlock (l k q : Nat) (b : Bytes) : OutGrows s (s.putBlock l k q b) :=
  .trans (.ofKeeps (State.putLane_keeps ..)) (outGrows_emit ..)

theorem outGrows_sendMarker (q l : Nat) : OutGrows s (State.sendMarker q s l) :=
  (outGrows_putBlock ..).step (State.putLane_keeps ..)

theorem outGrows_sendRow {send : State → Nat → State} (h : ∀ x l, OutGrows x (send x l)) (l : Nat) :
    OutGrows s (s.sendRow l send) :=
  (OutGrows.foldl h ..).step (State.putGroup_keeps ..)

theorem outGrows_padRow (l q : Nat) : OutGrows s (s.padRow l q) :=
  .ite (.refl s) ((OutGrows.foldl (fun _ _ => outGrows_putBlock ..) ..).step (State.putGroup_keeps ..))

theorem outGrows_dueRows (l q : Nat) : OutGrows s (s.dueRows l q) := by
  have hrow : ∀ (x : State) (g : Group) (send : State → Nat → State), (∀ y k, OutGrows y (send y k)) →
      OutGrows x ((x.putGroup l g).sendRow l send) := fun x g _ h =>
    .trans (.ofKeeps (State.putGroup_keeps x l g)) (outGrows_sendRow _ h l)
  have hm : ∀ (c : Prop) [Decidable c] (g : Group), OutGrows s
      (if c then (s.putGroup l g).sendRow l (State.sendMarker q) else s) := fun c _ g =>
    .ite (hrow _ _ _ fun _ _ => outGrows_sendMarker ..) (.refl s)
  exact .ite (.refl s) (.ite ((hm ..).trans (hrow _ _ _ fun _ _ => outGrows_putBlock ..)) (hm ..))

theorem outGrows_fillerRow (l : Nat) : OutGrows s (s.fillerRow l) :=
  (((outGrows_padRow ..).trans (outGrows_dueRows ..)).step (State.putGroup_keeps ..)).trans
    (outGrows_sendRow _ (fun _ _ => outGrows_putBlock ..) l)

theorem outGrows_sendSlot (l k q : Nat) (b : Bytes) : OutGrows s (s.sendSlot l k q b) := by
  unfold State.sendSlot
  split
  · exact .refl s
  · exact (outGrows_putBlock ..).step (State.putGroup_keeps ..)

theorem outGrows_sendTraining (l : Nat) : OutGrows s (s.sendTraining l) :=
  (outGrows_sendMarker ..).trans (outGrows_putBlock ..)

theorem outGrows_wakeTx (l : Nat) : OutGrows s (s.wakeTx l) :=
  .ite
    (.ite (((OutGrows.ofKeeps (State.putLane_keeps ..)).step (State.showSleep_keeps ..)).trans
      (outGrows_sendTraining ..)) (.refl s))
    (.ite (.trans (.ofKeeps (State.pute_keeps1 ..)) (.foldl outGrows_sendTraining ..)) (.refl s))

theorem outGrows_sendNew (l : Nat) (b : Held) : OutGrows s (s.sendNew l b) :=
  (((outGrows_dueRows ..).step (State.putGroup_keeps ..)).trans (outGrows_sendSlot ..)).step
    (State.putGroup_keeps ..)

theorem outGrows_sendQueued (l : Nat) (b : Held) : OutGrows s (State.sendQueued l s b) :=
  .ite (.ite (outGrows_fillerRow ..) (outGrows_sendNew ..)) (.ofKeeps (State.putGroup_keeps ..))

theorem outGrows_sendBlock (l k : Nat) (b : Bytes) (rows : List Nat) : OutGrows s (s.sendBlock l k b rows) := by
  have hw : OutGrows s (s.wakeTx l) := outGrows_wakeTx s l
  have hq : ∀ h : Held, OutGrows s (State.sendQueued l (s.wakeTx l) h) := fun h =>
    hw.trans (outGrows_sendQueued ..)
  exact .ite ((hw.trans (outGrows_putBlock ..)).step (State.putGroup_keeps ..))
    (.ite (.ite ((hq _).trans (outGrows_fillerRow ..)) (hq _))
      ((hw.trans (outGrows_dueRows ..)).trans (outGrows_sendSlot ..)))

end

/-! ### Counters -/

/-- A counter that counts between two steps that leave it alone. -/
theorem counted_between {F G : Foot} {s x u : State} {o e m : Nat} (h : Keeps F s x)
    (g : Keeps G (x.ince o e m) u) (hF : F.free (mkey o 0 m) = true := by decide +kernel)
    (hG : G.free (mkey o 0 m) = true := by decide +kernel) : counted s u o e m := fun hroom => by
  have hx : x.ve o e m = s.ve o e m := h.ve o e m hF
  rw [g.ve o e m hG, ince_room (by rwa [hx]), ve_pute_self, hx]

/-! ### The parcel under way on a port (R36, R45) -/

theorem port_ne_of_mem_endInbound {s : State} {p : Nat} {j : Inbound}
    (h : j ∈ (s.endInbound p).ingress.inbound) : j.port ≠ p := by
  unfold State.endInbound at h
  split at h
  next hn => exact fun hp => List.find?_eq_none.1 hn j h (beq_iff_eq.2 hp)
  next => exact bne_iff_ne.1 (List.mem_filter.1 h).2

theorem endInbound_of_nil {s : State} (h : s.ingress.inbound = []) (p : Nat) : s.endInbound p = s := by
  simp [State.endInbound, State.inbound?, h]

/-- A parcel under way is added in front. -/
def State.addInbound (s : State) (i : Inbound) : State :=
  { s with ingress := { s.ingress with inbound := i :: s.ingress.inbound } }

theorem addInbound_keeps (s : State) (i : Inbound) (p : Nat) :
    Keeps ⟨[.ingress], []⟩ s ((s.addInbound i).wholeInbound p) :=
  Keeps.trans (Keeps.upd (.refl _ s) (hi := .inl rfl)) (State.wholeInbound_keeps ..) (Foot.sub_refl _)

section
variable {s : State} {i : Inbound}

theorem inbound?_addInbound (s : State) (i : Inbound) : (s.addInbound i).inbound? i.port = some i := by
  simp [State.addInbound, State.inbound?]

/-- A kept parcel that is not relayed stays in front, whole or not. -/
theorem head_wholeInbound_of_keep (hk : i.keep = true) (ho : i.outs = []) :
    ((s.addInbound i).wholeInbound i.port).ingress.inbound.head? = some i := by
  have hi : ({ i with outs := [] } : Inbound) = i := by rw [← ho]
  simp only [State.wholeInbound, inbound?_addInbound, hk, if_true]
  split
  · rfl
  · simp [State.freeOuts, State.addInbound, hi]

/-- A parcel that is not kept is the one of its port, until it is whole. -/
theorem eq_of_mem_wholeInbound (hs : ∀ j ∈ s.ingress.inbound, j.port ≠ i.port) (hk : i.keep = false) {j : Inbound}
    (hj : j ∈ ((s.addInbound i).wholeInbound i.port).ingress.inbound) (hp : j.port = i.port) : j = i := by
  simp only [State.wholeInbound, inbound?_addInbound, hk, Bool.false_eq_true, if_false] at hj
  split at hj
  · exact (List.mem_cons.1 hj).resolve_right fun h => hs j h hp
  · exact absurd hp (port_ne_of_mem_endInbound hj)

end

/-! ### The header of a parcel (R43, R44) -/

/-- The members by which the relay decision goes. -/
def relayKeys : List Nat :=
  [mkey 0x3000 0 2, mkey 0x3000 0 3, mkey 0x3010 0 1, mkey 0x3300 0 1, mkey 0x3300 0 2, mkey 0x3400 0 1]

theorem Keeps.relayDecision_eq {F : Foot} {s u : State} (h : Keeps F s u) (p : Nat) (x : ParcelHdr)
    (hk : relayKeys.all F.free = true := by decide +kernel) : u.relayDecision p x = s.relayDecision p x := by
  simp only [relayKeys, List.all_cons, List.all_nil, Bool.and_eq_true] at hk
  obtain ⟨hx, hy, hup, hpri, halt, htree, -⟩ := hk
  simp only [State.relayDecision, State.portUp, h.v_eq _ _ hx, h.v_eq _ _ hy, h.ve _ _ _ hup, h.ve _ _ _ hpri,
    h.ve _ _ _ halt, h.ve _ _ _ htree]
  rfl

/-- A parcel of a version and kind that the tile knows (R44). -/
def ParcelHdr.known (h : ParcelHdr) : Bool := h.version == 1 && decide (1 ≤ h.kind ∧ h.kind ≤ 5)

/-- The state in which a header that has arrived is judged: the parcel before it is gone, and the header is
counted. -/
def State.headerCounted (s : State) (p : Nat) : State := (s.endInbound p).ince 0x3010 p 0x02

/-- The state in which a header's parcel goes to its output ports: what is wrong with it has been counted. -/
def State.headerJudged (s : State) (d : RelayDecision) (refused : Bool) : State :=
  let s1 := if d.counter = 0 then s else s.inc 0x3002 d.counter
  if refused then s1.inc 0x3002 0x01 else s1

/-- The parcel whose first block has come before its header. -/
def State.begun? (s : State) (p : Nat) : Option Inbound := (s.inbound? p).filter fun i => i.hdr == []

/-- A parcel under way once its header has been decided on. -/
def State.headerEntry (s : State) (p : Nat) (hdr : Bytes) (keep refused : Bool) (outs : List Nat) : Inbound :=
  { port := p, hdr := hdr, keep := keep, refused := refused, outs := outs,
    left := ((s.begun? p).map Inbound.left).getD (parcelHdr hdr).blocks, first := [] }

section
variable {s : State} {p : Nat} {hdr : Bytes}

theorem headerCounted_keeps (s : State) (p : Nat) :
    Keeps ⟨[.ingress], [(0x301002, 0x301002)]⟩ s (s.headerCounted p) :=
  Keeps.trans ((State.endInbound_keeps ..).mono (by decide +kernel)) (State.ince_keeps1 ..) (by decide +kernel)

theorem headerCounted_ingress (s : State) (p : Nat) : (s.headerCounted p).ingress = (s.endInbound p).ingress :=
  (State.ince_keeps1 ..).ingress_eq

theorem headerJudged_keeps (s : State) (d : RelayDecision) (r : Bool) :
    Keeps ⟨[], [(0x300200, 0x3002FF)]⟩ s (s.headerJudged d r) := by
  have hi : ∀ (x : State) (m : Nat), Keeps ⟨[], [(0x300200, 0x3002FF)]⟩ x (x.inc 0x3002 m) := fun x m =>
    (State.inc_keepsO x 0x3002 m).mono (by decide +kernel)
  unfold State.headerJudged
  refine Keeps.optE (.ite (fun _ => .refl _ s) fun _ => hi s _) fun _ => hi _ _

/-- A header that fails its check, or names another wall, is refused. -/
theorem doParcelHeader_refused (h : hdrCheckOk hdr = false ∨ (parcelHdr hdr).wall ≠ s.v 0x3000 0x01) :
    s.doParcelHeader p hdr = (((s.headerCounted p).inc 0x3002 0x01).addInbound
      (s.headerEntry p hdr false true [])).wholeInbound p := by
  have hbad : (!hdrCheckOk hdr || (parcelHdr hdr).wall != s.v 0x3000 0x01) = true := by simpa using h
  unfold State.doParcelHeader
  dsimp only
  rw [if_pos hbad, State.headerEntry, State.begun?]
  cases (s.inbound? p).filter fun i => i.hdr == [] <;> rfl

/-- A header of the tile's wall whose check holds goes on by the relay decision. -/
theorem doParcelHeader_decided (hc : hdrCheckOk hdr = true) (hw : (parcelHdr hdr).wall = s.v 0x3000 0x01)
    {d : RelayDecision} (hd : s.relayDecision p (parcelHdr hdr) = d) {keep known : Bool}
    (hkeep : (d.keep && s.ve 0x2030 0x373 0x02 != 0) = keep) (hkn : (parcelHdr hdr).known = known) :
    s.doParcelHeader p hdr =
      ((d.outs.foldl (State.relayOn p (relayHdr hdr) (((s.begun? p).map fun i => [i.first]).getD []))
        ((s.headerCounted p).headerJudged d (keep && !known))).addInbound
          (s.headerEntry p hdr (keep && known) (keep && !known)
            (((s.headerCounted p).headerJudged d (keep && !known)).startsOn d.outs))).wholeInbound p := by
  have hk := headerCounted_keeps s p
  have hgood : ¬ (!hdrCheckOk hdr || (parcelHdr hdr).wall != s.v 0x3000 0x01) = true := by simp [hc, hw]
  subst hd hkeep hkn
  rw [← hk.relayDecision_eq, ← hk.ve 0x2030 0x373 0x02 (by decide +kernel)]
  unfold State.doParcelHeader
  extract_lets h begun left blocks s1 add
  have hleft : ((s.begun? p).map Inbound.left).getD (parcelHdr hdr).blocks = left := by
    change (begun.map Inbound.left).getD _ = _
    cases hb : begun <;> simp only [left, hb] <;> rfl
  have hblocks : ((s.begun? p).map fun i => [i.first]).getD [] = blocks := by
    change (begun.map _).getD _ = _
    cases hb : begun <;> simp only [blocks, hb] <;> rfl
  have hadd : ∀ st k r o, add st k r o = (st.addInbound (s.headerEntry p hdr k r o)).wholeInbound p :=
    fun _ _ _ _ => by
      rw [State.headerEntry, hleft]
      rfl
  rw [if_neg hgood, hadd, hblocks]
  rfl

end
end Sys2Proof.Machine
end

section
set_option Elab.async false
namespace Sys2Proof.Machine

/-! ### Relayed parcels that start (R45) -/

/-- The blocks that go out with a relayed parcel leave what it has started on. -/
theorem startRelay_starts (s : State) (o : Nat) (hdr : Bytes) (bl : List Bytes) :
    Keeps ⟨[.out, .lanes], [(0x700309, 0x700309), (0x701001, 0x701001)]⟩
      (({ s with ingress := { s.ingress with busy := o :: s.ingress.busy } } : State).ince 0x3010 o 0x03)
      (s.startRelay o hdr bl) ∧ .meshParcel o hdr ∈ (s.startRelay o hdr bl).out := by
  let F : Foot := ⟨[.out, .lanes], [(0x700309, 0x700309), (0x701001, 0x701001)]⟩
  have hsend : ∀ (x : State) (k : Nat) (b : Bytes), Keeps F x (x.sendBlock (meshLane o) k b []) := fun x k b =>
    (State.sendBlock_keeps x ..).mono (by decide +kernel)
  have hemit : ∀ x : State, Keeps F x (x.emit (.meshParcel o hdr)) := fun x =>
    (State.emit_keeps ..).mono (by decide +kernel)
  have hmem : ∀ x : State, .meshParcel o hdr ∈ (x.emit (.meshParcel o hdr)).out := fun x =>
    List.mem_append_right _ (List.mem_singleton_self _)
  unfold State.startRelay
  dsimp only
  split
  · exact ⟨hemit _, hmem _⟩
  · exact ⟨Keeps.foldl ((hemit _).trans (hsend ..) (Foot.sub_refl _)) fun _ _ => hsend ..,
      ((outGrows_sendBlock ..).trans (.foldl (fun _ _ => outGrows_sendBlock ..) ..)).mem (hmem _)⟩

theorem startRelay_ingress (s : State) (o : Nat) (hdr : Bytes) (bl : List Bytes) :
    (s.startRelay o hdr bl).ingress = { s.ingress with busy := o :: s.ingress.busy } :=
  (startRelay_starts s o hdr bl).1.ingress_eq.trans (State.ince_keeps1 ..).ingress_eq

/-- A parcel that starts is counted on its port. -/
theorem startRelay_counted {F : Foot} {s x : State} (h : Keeps F s x) (o : Nat) (hdr : Bytes) (bl : List Bytes)
    (hi : F.parts.contains .ingress = true := by rfl)
    (hF : F.free (mkey 0x3010 0 0x03) = true := by decide +kernel) :
    counted s (x.startRelay o hdr bl) 0x3010 o 0x03 :=
  counted_between (Keeps.upd h (hi := .inl hi)) (startRelay_starts x o hdr bl).1 hF

/-! ### The parcel that leaves a relay buffer next (R45) -/

/-- What leaves first: kinds 2, 3 and 4. -/
def Waiting.urgent (w : Waiting) : Bool := decide (2 ≤ w.kind ∧ w.kind ≤ 4)

/-- The parcels that wait for a port, in the order in which they start. -/
def State.relayOrder (s : State) (p : Nat) : List Waiting :=
  let w := s.ingress.waiting.filter fun w => w.out == p
  w.filter Waiting.urgent ++ w.filter fun w => !w.urgent

/-- The first parcel of the order starts on its port, and waits no longer. -/
theorem doRelayStart_first {s : State} {p : Nat} {x : Waiting} {l : List Waiting} (h : s.relayOrder p = x :: l) :
    ∃ y, Keeps ⟨[.ingress], [(0x700309, 0x700309)]⟩ s y ∧ y.ingress.waiting = s.ingress.waiting.erase x ∧
      s.doRelayStart p = y.startRelay p x.hdr x.blocks := by
  have hk : ∀ (i : Ingress) (v : Nat), Keeps ⟨[.ingress], [(0x700309, 0x700309)]⟩ s
      (({ s with ingress := i } : State).pute 0x7003 p 0x09 v) := fun i v =>
    Keeps.trans (Keeps.upd (.refl _ s) (hi := .inl rfl)) (State.pute_keeps1 ..) (by decide +kernel)
  unfold State.doRelayStart
  extract_lets _ s1 w first
  rw [show first = x :: l from h]
  exact ⟨_, Keeps.upd (hk _ _) (hi := .inl rfl), rfl, rfl⟩

/-- RELAY_PARCEL_START of a port for which parcels wait. -/
theorem relayParcelStart_starts {s : State} {t p : Nat} {x : Waiting} {l : List Waiting} (hp : p < 8)
    (h : s.relayOrder p = x :: l) : ∃ s', runs (.relayParcelStart t p) s s' ∧ counted s s' 0x3010 p 0x03 ∧
      .meshParcel p x.hdr ∈ s'.out ∧ p ∈ s'.ingress.busy ∧ s'.ingress.waiting = s.ingress.waiting.erase x := by
  obtain ⟨y, hy, hw, he⟩ := doRelayStart_first (s := s.enter t) h
  refine ⟨y.startRelay p x.hdr x.blocks, guarded_next.2 ⟨decide_eq_true hp, he⟩, ?_,
    (startRelay_starts ..).2, ?_, ?_⟩
  · have hsy : Keeps ⟨[.now, .out, .ingress], [(0x700309, 0x700309)]⟩ s y :=
      ((State.enter_keeps s t).mono (by decide +kernel)).trans hy (by decide +kernel)
    exact startRelay_counted hsy _ _ _
  · rw [startRelay_ingress]
    exact List.mem_cons_self
  · rw [startRelay_ingress]
    exact hw

theorem filter_erase_out {l : List Waiting} (p : Nat) (x : Waiting) :
    (l.erase x).filter (fun w => w.out == p) = (l.filter fun w => w.out == p).erase x :=
  List.erase_filter.symm

theorem relayOrder_of_single {s : State} {p : Nat} {x : Waiting}
    (h : s.ingress.waiting.filter (fun w => w.out == p) = [x]) : s.relayOrder p = [x] := by
  cases hx : x.urgent <;> simp [State.relayOrder, h, hx]

/-- A parcel of kinds 2 to 4 overtakes one of kinds 1 and 5. -/
theorem relayOrder_of_pair {s : State} {p : Nat} {x y : Waiting}
    (h : s.ingress.waiting.filter (fun w => w.out == p) = [x, y]) (hx : x.urgent = false) (hy : y.urgent = true) :
    s.relayOrder p = [y, x] := by
  simp [State.relayOrder, h, hx, hy]

/-! ### Parcel headers (R43, R44, R45) -/

/-- A parcel that is relayed starts on a port that is idle and awake. -/
theorem relayOn_starts {s : State} {src o : Nat} {hdr : Bytes} {bl : List Bytes} (hb : o ∉ s.ingress.busy)
    (ha : s.portAsleep o = false) : State.relayOn src hdr bl s o = s.startRelay o hdr bl := by
  simp [State.relayOn, hb, ha]

section
variable {s : State} {p : Nat} {hdr : Bytes}

/-- A parcel for this tile alone is kept, and goes to no port. -/
theorem relayDecision_of_own (hr : (parcelHdr hdr).rect = false) (hx : (parcelHdr hdr).x0 = s.v 0x3000 0x02)
    (hy : (parcelHdr hdr).y0 = s.v 0x3000 0x03) :
    s.relayDecision p (parcelHdr hdr) = { keep := true, outs := [], counter := 0 } := by
  simp [State.relayDecision, hr, hx, hy]

/-- PARCEL_HEADER_ARRIVES of a parcel that this tile alone keeps. -/
theorem doParcelHeader_own (hc : hdrCheckOk hdr = true) (hw : (parcelHdr hdr).wall = s.v 0x3000 0x01)
    (hr : (parcelHdr hdr).rect = false) (hx : (parcelHdr hdr).x0 = s.v 0x3000 0x02)
    (hy : (parcelHdr hdr).y0 = s.v 0x3000 0x03) (hk : (parcelHdr hdr).known = true)
    (hg : s.ve 0x2030 0x373 0x02 ≠ 0) : counted s (s.doParcelHeader p hdr) 0x3010 p 0x02 ∧
      ∃ i ∈ (s.doParcelHeader p hdr).ingress.inbound.head?, i.port = p ∧ i.hdr = hdr ∧ i.keep = true ∧
        i.outs = [] := by
  rw [doParcelHeader_decided (keep := true) (known := true) hc hw (relayDecision_of_own hr hx hy)
    (by simpa using hg) hk]
  constructor
  · exact counted_between (State.endInbound_keeps s p)
      (F := ⟨[.ingress], []⟩) (G := ⟨[.ingress], [(0x300200, 0x3002FF)]⟩)
      (((headerJudged_keeps ..).mono (by decide +kernel)).trans (addInbound_keeps ..) (by decide +kernel))
  · exact ⟨_, head_wholeInbound_of_keep (i := s.headerEntry p hdr true false []) rfl rfl, rfl, rfl, rfl, rfl⟩

/-- A refused parcel is counted, and is neither kept nor relayed. -/
theorem doParcelHeader_bad (h : hdrCheckOk hdr = false ∨ (parcelHdr hdr).wall ≠ s.v 0x3000 0x01) :
    counted s (s.doParcelHeader p hdr) 0x3002 0 0x01 ∧
      ∀ i ∈ (s.doParcelHeader p hdr).ingress.inbound, i.port = p → i.keep = false ∧ i.outs = [] := by
  rw [doParcelHeader_refused h]
  refine ⟨counted_between (headerCounted_keeps s p) (addInbound_keeps ..), fun i hi hp => ?_⟩
  have hs : ∀ j ∈ ((s.headerCounted p).inc 0x3002 0x01).ingress.inbound, j.port ≠ p := by
    rw [(State.inc_keepsO _ 0x3002 0x01).ingress_eq, headerCounted_ingress]
    exact fun _ => port_ne_of_mem_endInbound
  rw [eq_of_mem_wholeInbound (i := s.headerEntry p hdr false true []) hs rfl hi hp]
  exact ⟨rfl, rfl⟩

/-- A parcel for one output port, which is idle and awake, starts on it at once. -/
theorem doParcelHeader_relayed {o : Nat} (hc : hdrCheckOk hdr = true) (hw : (parcelHdr hdr).wall = s.v 0x3000 0x01)
    (ho : (s.relayDecision p (parcelHdr hdr)).outs = [o]) (hb : o ∉ s.ingress.busy) (ha : s.portAsleep o = false)
    (hn : s.ingress.inbound = []) : counted s (s.doParcelHeader p hdr) 0x3010 o 0x03 ∧
      Output.meshParcel o (relayHdr hdr) ∈ (s.doParcelHeader p hdr).out := by
  rw [doParcelHeader_decided hc hw rfl rfl rfl, ho]
  set d := s.relayDecision p (parcelHdr hdr)
  generalize (d.keep && s.ve 0x2030 0x373 0x02 != 0) = keep
  generalize (parcelHdr hdr).known = known
  have hy := headerJudged_keeps (s.headerCounted p) d (keep && !known)
  set y := (s.headerCounted p).headerJudged d (keep && !known)
  have hsy : Keeps ⟨[.ingress], [(0x301002, 0x301002), (0x300200, 0x3002FF)]⟩ s y :=
    ((headerCounted_keeps s p).mono (by decide +kernel)).trans hy (by decide +kernel)
  have hi : y.ingress = s.ingress := by
    rw [hy.ingress_eq, headerCounted_ingress, endInbound_of_nil hn]
  have hstart : State.relayOn p (relayHdr hdr) (((s.begun? p).map fun i => [i.first]).getD []) y o =
      y.startRelay o (relayHdr hdr) (((s.begun? p).map fun i => [i.first]).getD []) :=
    relayOn_starts (hi ▸ hb) (by rw [← ha, State.portAsleep, State.portAsleep, hsy.ve _ _ _ (by decide +kernel)])
  rw [List.foldl_cons, List.foldl_nil, hstart]
  obtain ⟨hkeeps, hmem⟩ := startRelay_starts y o (relayHdr hdr) (((s.begun? p).map fun i => [i.first]).getD [])
  constructor
  · exact counted_between (G := ⟨[.ingress, .out, .lanes], [(0x700309, 0x700309), (0x701001, 0x701001)]⟩)
      (Keeps.upd hsy (hi := .inl rfl))
      ((hkeeps.mono (by decide +kernel)).trans (addInbound_keeps ..) (by decide +kernel))
  · exact (OutGrows.ofKeeps (addInbound_keeps ..)).mem hmem

end

end Sys2Proof.Machine
end

section
set_option Elab.async false
namespace Sys2Proof.Machine

/-! ### Whole parcels that the tile keeps (R42) -/

theorem goodParcel_kind {s : State} {kind : Nat} {bs : Bytes} (h : s.goodParcel kind bs = true) :
    field bs 1 1 = kind := by
  simp only [State.goodParcel, Bool.and_eq_true, beq_iff_eq] at h
  exact h.1.1.1

section
variable {s u : State} {t port kind : Nat} {bs : Bytes}

/-- A good parcel that the tile keeps passes the relay, and then does what its kind does. -/
theorem runs_kept {c : Instr} {ok : State → Bool} {act : State → State}
    (hc : exec c s = guarded (decide (port < 8))
      ((s.enter t).wholeParcel port kind bs fun st => st.judged bs (ok st) act))
    (hp : port < 8) (hk : s.keepsParcel port bs = true) (hg : s.goodParcel kind bs = true)
    (ho : ∀ u, Keeps relayFoot s u → ok u = true) :
    ∃ u, Keeps relayFoot s u ∧ SameContent s u ∧ runs c s (act u) := by
  have hkind := goodParcel_kind hg
  simp only [State.goodParcel, Bool.and_eq_true] at hg
  obtain ⟨⟨⟨-, hf⟩, hb⟩, -⟩ := hg
  obtain ⟨hv, h1, h5⟩ := hdrFieldsOk_known hf
  have ha := parcelArrives_kept (s.enter t) port hk hv h1 h5 (take_header_ne_nil hb)
  have hr : Keeps relayFoot s ((s.enter t).parcelArrives port bs).2 :=
    ((State.enter_keeps s t).mono (by decide +kernel)).trans (parcelArrives_keepsRelay ..) (Foot.sub_refl _)
  refine ⟨_, hr, sameContent_parcelArrives (s.enter t) port bs,
    hc.trans (guarded_next.2 ⟨decide_eq_true hp, ?_⟩)⟩
  simp only [State.wholeParcel, ha, hkind, beq_self_eq_true, Bool.and_true, if_true]
  exact judged_of_good hf hb (ho _ hr) act

/-- Each command of R37 to R39 files a good parcel that the tile keeps. -/
theorem runs_parcelIn_kept (h1 : 1 ≤ kind) (h3 : kind ≤ 3) (hp : port < 8) (hk : s.keepsParcel port bs = true)
    (hg : s.goodParcel kind bs = true) :
    ∃ u, Keeps relayFoot s u ∧ SameContent s u ∧ runs (parcelIn kind t port bs) s (u.fileKept bs) := by
  have hbody := (Bool.and_eq_true_iff.1 hg).2
  obtain rfl | rfl | rfl : kind = 1 ∨ kind = 2 ∨ kind = 3 := by omega
  · exact runs_kept (ok := fun st => tileFieldsOk st.mode (parcelBody bs)) rfl hp hk hg fun u hu => by
      rw [hu.mode_eq_of_relay]
      exact hbody
  · exact runs_kept (ok := fun _ => headerFieldsOk (parcelHdr bs).cueLoad (parcelBody bs)) rfl hp hk hg
      fun _ _ => hbody
  · exact runs_kept (ok := fun _ => closeFieldsOk (parcelHdr bs) (parcelBody bs)) rfl hp hk hg
      fun _ _ => hbody

/-! ### Parcels of the frame that the next store assembles (R48) -/

theorem SameIn.assembles_eq (h : SameContent s u) : u.assembles bs = s.assembles bs := by
  obtain ⟨hnx, -, -, hrep, -⟩ := h.lateView_eq
  have hcopy : u.ingress.spillCopy = s.ingress.spillCopy :=
    (congrArg Ingress.spillCopy (show u.ingress.content = s.ingress.content from h) :)
  rw [State.assembles, State.assembles, hnx, hrep, hcopy]

theorem fileKept_of_assembles (h : s.assembles bs = true) : s.fileKept bs = s.fileParcel .next bs := by
  simp only [State.assembles, Bool.and_eq_true, Option.isNone_iff_eq_none, beq_iff_eq, Bool.not_eq_true'] at h
  obtain ⟨⟨⟨hrep, hnum⟩, hcopy⟩, hcue⟩ := h
  simp [State.fileKept, State.fileStreamed, hrep, hnum, hcopy, hcue]

/-- A parcel of the next store's frame is filed in that store. -/
theorem runs_parcelIn_filed (h1 : 1 ≤ kind) (h3 : kind ≤ 3) (hp : port < 8) (hk : s.keepsParcel port bs = true)
    (hg : s.goodParcel kind bs = true) (ha : s.assembles bs = true) :
    ∃ u, Keeps relayFoot s u ∧ u.nextStore = s.nextStore ∧
      runs (parcelIn kind t port bs) s (u.fileParcel .next bs) := by
  obtain ⟨u, hr, hs, hrun⟩ := runs_parcelIn_kept (t := t) h1 h3 hp hk hg
  exact ⟨u, hr, hs.lateView_eq.1, fileKept_of_assembles (hs.assembles_eq.trans ha) ▸ hrun⟩

end

/-! ### The next store -/

theorem nextStore_putNext (s : State) (f : Frame) : (s.putNext f).nextStore = f := by
  by_cases h : 1 - s.ingress.sel = 0 <;> simp [State.nextStore, State.putNext, State.putStore, State.storeAt, h]

theorem Keeps.nextStore_eq {F : Foot} {s u : State} (h : Keeps F s u)
    (hf : F.parts.contains .ingress = false := by rfl) : u.nextStore = s.nextStore := by
  rw [State.nextStore, State.nextStore, State.storeAt, State.storeAt, h.ingress_eq hf]

/-- What has come for a frame: its header and close, and the tiles that were accepted (R47, R51). -/
def Frame.arrived (f : Frame) : (Option FrameHdr × Option Nat) × Nat × List Nat :=
  ((f.header, f.close), f.accepted, f.received)

theorem enforceBudget_arrived (m : Mode) (b n : Nat) (x : Budget) :
    (enforceBudget m b n x).frame.arrived = x.frame.arrived := by
  induction n generalizing x with
  | zero => rfl
  | succ n ih =>
    simp only [enforceBudget]
    split
    · split
      · rfl
      · exact ih _
    · rfl

/-- The budgets of R46 take tiles away, and what has come stands. -/
theorem Frame.insert_arrived (f : Frame) (m : Mode) (t : Tile) : (f.insert m t).frame.arrived = f.arrived :=
  enforceBudget_arrived ..

/-- The judgement of R51 leaves what has come. -/
theorem judgeComplete_arrived (s : State) : (s.judgeComplete .next).nextStore.arrived = s.nextStore.arrived := by
  have hput : ∀ (x : State) (f : Frame), (x.putFrameAt .next f).nextStore = f := nextStore_putNext
  have hadd : ∀ (x : State) (o m n : Nat), (x.add o m n).nextStore = x.nextStore := fun x o m n =>
    (State.add_keeps1 x o m n).nextStore_eq
  have hinc : ∀ (x : State) (o m : Nat), (x.inc o m).nextStore = x.nextStore := fun x o m =>
    (State.inc_keeps1 x o m).nextStore_eq
  unfold State.judgeComplete
  extract_lets f gone s0 s1 f1
  have h1 : s1.nextStore.arrived = s.nextStore.arrived := by
    by_cases hc : f.counted = true
    · simp only [s1, if_pos hc]
    · simp only [s1, s0, if_neg hc, hadd, hput]
      rfl
  split
  · split
    · rw [hinc, hput]
      exact h1
    · exact h1
  · rfl

/-! ### What is filed in the next store (R37 to R39, R47) -/

section
variable {s : State} {p b c : Nat} {x : Bytes}

/-- The queue of a tile in the next store, by plane, band and column (R34, R84). -/
def State.queueAt (s : State) (p b c : Nat) : Nat :=
  queueOf (renumbered s.nextStore.created p) (s.mode.tileIndex b c)

/-- A tile that has come already is counted, and nothing else. -/
theorem fileTile_again (h : s.queueAt p b c ∈ s.nextStore.received) :
    s.fileTile .next p b c x = s.inc 0x3002 0x08 :=
  if_pos h

/-- A tile of a plane that the frame may have goes into the frame, within the budgets of R46. -/
theorem fileTile_first (hq : s.queueAt p b c ∉ s.nextStore.received)
    (hpl : s.nextStore.counted = false ∨ renumbered s.nextStore.created p < s.nextStore.planes)
    (h64 : renumbered s.nextStore.created p < 64) : ∃ (f : Frame) (u : State), u.nextStore = f ∧
      f.arrived = ((s.nextStore.header, s.nextStore.close), s.nextStore.accepted + 1,
        s.queueAt p b c :: s.nextStore.received) ∧
      Keeps ⟨[.ingress], [(0x300209, 0x30020A)]⟩ s u ∧
      s.fileTile .next p b c x = (u.ince 0x3100 (s.queueAt p b c) 0x03).judgeComplete .next := by
  have hplane : ¬ (s.nextStore.counted && decide (s.nextStore.planes ≤ renumbered s.nextStore.created p)) = true := by
    rcases hpl with h | h <;> simp [h]
  have hadd : ∀ (f : Frame) (n k : Nat), Keeps ⟨[], [(0x300209, 0x30020A)]⟩ (s.putNext f)
      (((s.putNext f).add 0x3002 0x09 n).add 0x3002 0x0A k) := fun f n k =>
    Keeps.trans ((State.add_keeps1 ..).mono (by decide +kernel)) (State.add_keeps1 ..) (by decide +kernel)
  unfold State.fileTile
  extract_lets f m pl q f1 y
  refine ⟨y.frame, ((s.putNext y.frame).add 0x3002 0x09 y.bandDrops).add 0x3002 0x0A y.granuleDrops, ?_,
    Frame.insert_arrived .., ?_, ?_⟩
  · rw [(hadd ..).nextStore_eq, nextStore_putNext]
  · exact Keeps.trans ((State.putNext_keeps ..).mono (by decide +kernel)) (hadd ..) (by decide +kernel)
  · exact (if_neg hq).trans ((if_neg hplane).trans (if_neg (Nat.not_le.2 h64)))

theorem fileHeader_first (h : s.nextStore.header = none) (y : FrameHdr) :
    s.fileHeader .next y = (s.putNext { s.nextStore with header := some y }).judgeComplete .next :=
  if_neg (by simp [State.frameAt, h])

theorem fileClose_first (h : s.nextStore.close = none) (n : Nat) :
    s.fileClose .next n = (s.putNext { s.nextStore with close := some n }).judgeComplete .next :=
  if_neg (by simp [State.frameAt, h])

end

section
variable {s : State} {t port : Nat} {bs : Bytes} (hp : port < 8) (hk : s.keepsParcel port bs = true)
  (ha : s.assembles bs = true)
include hp hk ha

/-- A tile of the next frame is accepted and counted for its queue. -/
theorem tile_filed (hg : s.goodParcel 1 bs = true) (hq : s.tileQueue bs ∉ s.nextStore.received)
    (hpl : s.nextStore.counted = false ∨
      renumbered s.nextStore.created (field (parcelBody bs) 0 1) < s.nextStore.planes)
    (h64 : renumbered s.nextStore.created (field (parcelBody bs) 0 1) < 64) :
    ∃ s', runs (.tile t port bs) s s' ∧ s'.nextStore.arrived = ((s.nextStore.header, s.nextStore.close),
      s.nextStore.accepted + 1, s.tileQueue bs :: s.nextStore.received) ∧
      counted s s' 0x3100 (s.tileQueue bs) 0x03 := by
  obtain ⟨u, hr, hnx, hrun⟩ := runs_parcelIn_filed (t := t) (by decide) (by decide) hp hk hg ha
  have hqu : u.queueAt (field (parcelBody bs) 0 1) (field (parcelBody bs) 1 1) (field (parcelBody bs) 2 1) =
      s.tileQueue bs := by
    rw [State.queueAt, State.tileQueue, hnx, hr.mode_eq_of_relay]
  obtain ⟨f, y, hf, harr, hy, he⟩ := fileTile_first (s := u) (p := field (parcelBody bs) 0 1)
    (b := field (parcelBody bs) 1 1) (c := field (parcelBody bs) 2 1) (x := (parcelBody bs).drop 8)
    (by rwa [hqu, hnx]) (by rwa [hnx]) (by rwa [hnx])
  have hfile : u.fileParcel .next bs = (y.ince 0x3100 (s.tileQueue bs) 0x03).judgeComplete .next := by
    simp only [State.fileParcel, goodParcel_kind hg]
    rw [he, hqu]
  refine ⟨_, hfile ▸ hrun, ?_, ?_⟩
  · rw [judgeComplete_arrived, (State.ince_keeps1 ..).nextStore_eq, hf, harr, hqu, hnx]
  · exact counted_between (F := ⟨[.now, .out, .ingress, .lanes], (0x300209, 0x30020A) :: relayFoot.keys⟩)
      ((hr.mono (by decide +kernel)).trans hy (by decide +kernel)) (State.judgeComplete_keeps ..)

/-- A tile that has come before is counted, and nothing else. -/
theorem tile_again (hg : s.goodParcel 1 bs = true) (hq : s.tileQueue bs ∈ s.nextStore.received) :
    ∃ s', runs (.tile t port bs) s s' ∧ s'.nextStore = s.nextStore ∧ counted s s' 0x3002 0 0x08 := by
  obtain ⟨u, hr, hnx, hrun⟩ := runs_parcelIn_filed (t := t) (by decide) (by decide) hp hk hg ha
  have hfile : u.fileParcel .next bs = u.inc 0x3002 0x08 := by
    simp only [State.fileParcel, goodParcel_kind hg]
    refine fileTile_again ?_
    rwa [State.queueAt, hnx, hr.mode_eq_of_relay]
  refine ⟨_, hfile ▸ hrun, (State.inc_keeps1 ..).nextStore_eq.trans hnx, ?_⟩
  exact counted_between hr (.refl ⟨[], []⟩ _)

/-- The frame header of the next frame is filed. -/
theorem header_filed (hg : s.goodParcel 2 bs = true) (hn : s.nextStore.header = none) :
    ∃ s', runs (.frameHeader t port bs) s s' ∧ ∃ h : FrameHdr, h.planes = field (parcelBody bs) 0 1 ∧
      h.tp = field (parcelBody bs) 4 12 ∧
      s'.nextStore.arrived =
        ((some h, s.nextStore.close), s.nextStore.accepted, s.nextStore.received) := by
  obtain ⟨u, -, hnx, hrun⟩ := runs_parcelIn_filed (t := t) (by decide) (by decide) hp hk hg ha
  refine ⟨_, hrun, ⟨field (parcelBody bs) 0 1, field (parcelBody bs) 4 12,
    disparities (parcelBody bs) (field (parcelBody bs) 0 1)⟩, rfl, rfl, ?_⟩
  simp only [State.fileParcel, goodParcel_kind hg]
  rw [fileHeader_first (hnx ▸ hn), judgeComplete_arrived, nextStore_putNext, hnx]
  rfl

/-- The frame close of the next frame is filed. -/
theorem close_filed (hg : s.goodParcel 3 bs = true) (hn : s.nextStore.close = none) :
    ∃ s', runs (.frameClose t port bs) s s' ∧ s'.nextStore.arrived =
      ((s.nextStore.header, some (field (parcelBody bs) 0 4)), s.nextStore.accepted, s.nextStore.received) := by
  obtain ⟨u, -, hnx, hrun⟩ := runs_parcelIn_filed (t := t) (by decide) (by decide) hp hk hg ha
  refine ⟨_, hrun, ?_⟩
  simp only [State.fileParcel, goodParcel_kind hg]
  rw [fileClose_first (hnx ▸ hn), judgeComplete_arrived, nextStore_putNext, hnx]
  rfl

end

/-- Settles O39: the header decides, a waiting parcel starts, and what comes for the next frame is filed. -/
theorem parcelsAndFrames : Obligations.ParcelsAndFrames := by
  refine ⟨?_, ?_, ?_, ?_, ?_, ?_, ?_, ?_, ?_⟩
  · intro s t p hdr hp hc hw hr hx hy hv hk1 hk5 hg
    have hk : (parcelHdr hdr).known = true := by simp [ParcelHdr.known, hv, hk1, hk5]
    obtain ⟨hcount, hhead⟩ := doParcelHeader_own (s := s.enter t) (p := p) hc hw hr hx hy hk hg
    exact ⟨_, guarded_next.2 ⟨decide_eq_true hp, rfl⟩, hcount, hhead⟩
  · intro s t p hdr hp h
    obtain ⟨hcount, hgone⟩ := doParcelHeader_bad (s := s.enter t) (p := p) h
    exact ⟨_, guarded_next.2 ⟨decide_eq_true hp, rfl⟩, hcount, hgone⟩
  · intro s t p o hdr hp _ hc hw ho hb ha hn
    obtain ⟨hcount, hout⟩ := doParcelHeader_relayed (s := s.enter t) hc hw ho hb ha hn
    exact ⟨_, guarded_next.2 ⟨decide_eq_true hp, rfl⟩, hcount, hout⟩
  · intro s t p x hp h
    obtain ⟨s', hrun, hcount, hout, hbusy, hw⟩ := relayParcelStart_starts (t := t) hp (relayOrder_of_single h)
    refine ⟨s', hrun, hcount, hout, hbusy, fun hx => ?_⟩
    have hmem : x ∈ s.ingress.waiting.filter fun w => w.out == p := h ▸ List.mem_singleton_self x
    have hleft : x ∈ (s'.ingress.waiting).filter fun w => w.out == p :=
      List.mem_filter.2 ⟨hx, (List.mem_filter.1 hmem).2⟩
    rw [hw, filter_erase_out, h, List.erase_cons_head] at hleft
    exact List.not_mem_nil hleft
  · intro s t p x y hp h hx hy2 hy4
    have hux : x.urgent = false := by rcases hx with hx | hx <;> simp [Waiting.urgent, hx]
    have huy : y.urgent = true := by simp [Waiting.urgent, hy2, hy4]
    obtain ⟨s', hrun, -, hout, -, hw⟩ := relayParcelStart_starts (t := t) hp (relayOrder_of_pair h hux huy)
    refine ⟨s', hrun, hout, ?_⟩
    have hne : (x == y) = false := beq_eq_false_iff_ne.2 fun e => by simp [e, huy] at hux
    rw [hw, filter_erase_out, h, List.erase_cons_tail (by simp [hne]), List.erase_cons_head]
  · intro s t p bs hp hk hg ha hq hpl h64
    obtain ⟨s', hrun, harr, hcount⟩ := tile_filed (t := t) hp hk ha hg hq hpl h64
    exact ⟨s', hrun, congrArg (·.2.1) harr, congrArg (·.2.2) harr, hcount⟩
  · intro s t p bs hp hk hg ha hn
    obtain ⟨s', hrun, h, hpl, htp, harr⟩ := header_filed (t := t) hp hk ha hg hn
    exact ⟨s', hrun, congrArg (·.2.1) harr, h, congrArg (·.1.1) harr, hpl, htp⟩
  · intro s t p bs hp hk hg ha hn
    obtain ⟨s', hrun, harr⟩ := close_filed (t := t) hp hk ha hg hn
    exact ⟨s', hrun, congrArg (·.1.2) harr, congrArg (·.2.1) harr⟩
  · exact fun s t p bs hp hk hg ha hq => tile_again hp hk ha hg hq

end Sys2Proof.Machine
end

section
set_option Elab.async false
namespace Sys2Proof.Machine

/-! ### What decides whether a trigger waits (R55, R133, R359) -/

/-- The members by which wall time goes. -/
def wallKeys : List Nat := [mkey 0x8001 0 1, mkey 0x8000 0 6]

section
variable {F : Foot} {s u : State}

theorem Keeps.wallReaches_eq (h : Keeps F s u) (t code : Nat)
    (hn : F.parts.contains .net = false := by rfl)
    (hk : wallKeys.all F.free = true := by decide +kernel) : u.wallReaches t code = s.wallReaches t code := by
  simp only [wallKeys, List.all_cons, List.all_nil, Bool.and_eq_true] at hk
  obtain ⟨hstate, hrate, -⟩ := hk
  rw [State.wallReaches, State.wallReaches, State.wallAt?, State.wallAt?, State.residualAt, State.residualAt,
    h.net_eq hn, h.v_eq _ _ hstate, h.v_eq _ _ hrate]

theorem Keeps.comingBoundary_eq (h : Keeps F s u) (hq : F.parts.contains .seq = false := by rfl)
    (hk : figureKeys.all F.free = true := by decide +kernel) : u.comingBoundary = s.comingBoundary := by
  rw [State.comingBoundary, State.comingBoundary, h.seq_eq hq, h.figures_eq (h.seq_eq hq) hk]

end

/-! ### Triggers (R40, R55) -/

section
variable {s u : State} {t port : Nat} {bs : Bytes}

/-- A trigger that the tile keeps is taken. -/
theorem runs_cueTrigger_kept (hp : port < 8) (hk : s.keepsParcel port bs = true) (hg : s.goodParcel 4 bs = true) :
    ∃ u, Keeps relayFoot s u ∧ SameContent s u ∧
      runs (.cueTrigger t port bs) s (u.takeTrigger (triggerOf (parcelBody bs))) :=
  runs_kept (ok := fun _ => triggerFieldsOk (parcelBody bs)) rfl hp hk hg fun _ _ =>
    (Bool.and_eq_true_iff.1 hg).2

/-- A trigger of no cues ends the replay, and none waits from here on. -/
theorem takeTrigger_ends {g : Trigger} (hg : g.count = 0) : s.takeTrigger g = { s with
    ingress := { s.ingress with
      trigger := none, replay := s.ingress.replay.map fun (r : Replay) => { r with ending := true } } } :=
  if_pos hg

/-- A trigger whose latch point has passed becomes active at once. -/
theorem takeTrigger_activates {g : Trigger} (hg : g.count ≠ 0) (hr : s.ingress.replay = none)
    (hq : s.seq.running = true) (hw : s.wallReaches s.comingBoundary g.start = true) :
    s.takeTrigger g = s.activateReplay g := by
  rw [State.takeTrigger, if_neg hg, if_neg (by simp [hr]), if_pos (by simp [hq, hw])]

/-- Step 0 of a replay that becomes active. -/
def Trigger.step0 (g : Trigger) : Replay :=
  { trig := g, step := 0, copied := false, ending := false, spoiled := false }

theorem step0_cue (g : Trigger) : g.step0.cue = g.first % 65536 := by
  simp [Trigger.step0, Replay.cue]

/-- A step's cue has the next store, and its copy has begun. -/
theorem startStep_begins (s : State) (r : Replay) : (s.startStep r).ingress.trigger = s.ingress.trigger ∧
    (s.startStep r).nextStore.cue = some r.cue ∧
    (s.startStep r).ingress.replay = some { r with copied := false, spoiled := false } ∧
    (s.startStep r).v 0x3041 0x01 = s.v 0x3041 0x01 := by
  have hl := State.leaveNext_keeps s
  have hput := fun f => State.putNext_keeps s.leaveNext f
  have htrig : ∀ (x : State) (f : Frame), (x.putNext f).ingress.trigger = x.ingress.trigger := fun x f => by
    unfold State.putNext State.putStore
    split <;> rfl
  refine ⟨?_, ?_, rfl, ?_⟩
  · exact (htrig ..).trans (congrArg Ingress.trigger hl.ingress_eq)
  · exact congrArg Frame.cue (nextStore_putNext s.leaveNext _)
  · exact ((hput _).v_eq 0x3041 0x01).trans (hl.v_eq 0x3041 0x01)

/-- A replay that becomes active begins with its step 0, and the trigger waits no longer. -/
theorem activateReplay_starts (s : State) (g : Trigger) : ∃ x : State, x.ingress.trigger = none ∧
    x.v 0x3041 0x01 = 1 ∧ s.activateReplay g = x.startStep g.step0 := by
  have hshow : ∀ y : State, ((y.showReplay true).put 0x3041 0x03 0).v 0x3041 0x01 = 1 := fun y =>
    ((State.put_keeps1 (y.showReplay true) 0x3041 0x03 0).v_eq 0x3041 0x01).trans (v_put_self ..)
  unfold State.activateReplay
  extract_lets s1 s2
  exact ⟨{ s2 with ingress := { s2.ingress with trigger := none } }, rfl, hshow s1.dropSpill, rfl⟩

end

/-! ### DRAM (R280, R287, R289) -/

/-- The members by which requests to DRAM are served. -/
def dramKeys : List Nat :=
  [mkey 0x7800 0 2, mkey 0x7800 0 4, mkey 0x7800 0 0xA, mkey 0x7800 0 0xB, mkey 0x7800 0 0xC, mkey 0x7820 0 1]

theorem Keeps.dramFault_eq {F : Foot} {s u : State} (h : Keeps F s u) (a n : Nat)
    (hm : u.memory = s.memory) (hk : dramKeys.all F.free = true := by decide +kernel) :
    u.dramFault a n = s.dramFault a n := by
  simp only [dramKeys, List.all_cons, List.all_nil, Bool.and_eq_true] at hk
  obtain ⟨hgrain, hhaven, hpop, hranks, hsize, hstate, -⟩ := hk
  have hp : u.populated = s.populated := by rw [State.populated, State.populated, h.v_eq _ _ hpop]
  have hg : u.grain = s.grain := by rw [State.grain, State.grain, h.v_eq _ _ hgrain]
  have hsize : u.chanSize = s.chanSize := by
    simp only [State.chanSize, State.rankSize, h.v_eq _ _ hranks, h.v_eq _ _ hsize]
  have hc : u.chanData = s.chanData := by
    simp only [State.chanData, State.haven, hp, hsize, h.v_eq _ _ hhaven]
  have hplace : ∀ x, u.placeOf x = s.placeOf x := fun x => by
    simp only [State.placeOf, State.chunkChannel, State.chunkOf, State.redirected, State.havenPlace,
      State.localAddr, hm, hp, hg, hc]
    rfl
  have hserves : ∀ c, u.chanServes c = s.chanServes c := fun c => by
    rw [State.chanServes, State.chanServes, h.ve 0x7820 c 1 hstate]
  simp only [State.dramFault, State.usable, State.servingChannel, hp, hg, hc, hplace, hserves]
  rfl

/-- A write that is served stands in DRAM. -/
theorem dramWrite_served {s : State} {a : Nat} {bs : Bytes} (h : s.dramFault a bs.length = 0) (port : Nat) :
    s.dramWrite port a bs = (true, { s with memory := { s.memory with dram := mwrites s.memory.dram a bs } }) :=
  if_pos h

theorem dramRead_served {s : State} {a n : Nat} (h : s.dramFault a n = 0) (port : Nat) :
    s.dramRead port a n = (some (mreads s.memory.dram a n), s) :=
  if_pos h

/-! ### Layer data (R41) -/

section
variable {s : State} {t port : Nat} {bs : Bytes}

/-- What R41 and R90 record of layer data leaves DRAM. -/
theorem layerShown (y : State) (n frame b k : Nat) :
    (((y.pute 0x3020 n 0x03 frame).pute 0x4030 n 0x01 b).adde 0x4030 n 0x01 k).ve 0x3020 n 0x03 = frame ∧
      (((y.pute 0x3020 n 0x03 frame).pute 0x4030 n 0x01 b).adde 0x4030 n 0x01 k).memory = y.memory := by
  have hk : Keeps ⟨[], [(0x403001, 0x403001)]⟩ (y.pute 0x3020 n 0x03 frame)
      (((y.pute 0x3020 n 0x03 frame).pute 0x4030 n 0x01 b).adde 0x4030 n 0x01 k) :=
    Keeps.trans ((State.pute_keeps1 _ 0x4030 n 0x01 b).mono (by decide +kernel)) (State.adde_keeps1 ..)
      (by decide +kernel)
  exact ⟨(hk.ve _ _ _ (by decide +kernel)).trans (ve_pute_self ..), hk.memory.resolve_left (by decide)⟩

/-- The bytes of layer data stand in the buffer. -/
def layerStored (s : State) (body : Bytes) : State :=
  { s with memory := { s.memory with
      dram := mwrites s.memory.dram (s.ve 0x3020 (field body 0 1) 0x01 + field body 4 4) (body.drop 8) } }

/-- Layer data whose write is served stands in the buffer, under the frame number. -/
theorem writeLayer_served {frame : Nat} {body : Bytes}
    (h : s.dramFault (s.ve 0x3020 (field body 0 1) 0x01 + field body 4 4) (body.drop 8).length = 0) :
    (s.writeLayer frame body).ve 0x3020 (field body 0 1) 0x03 = frame ∧
      (s.writeLayer frame body).memory.dram =
        mwrites s.memory.dram (s.ve 0x3020 (field body 0 1) 0x01 + field body 4 4) (body.drop 8) := by
  unfold State.writeLayer
  dsimp only
  rw [dramWrite_served h]
  obtain ⟨hframe, hmem⟩ := layerShown (layerStored s body) (field body 0 1) frame
    (if s.ve 0x3020 (field body 0 1) 0x03 = frame then s.ve 0x4030 (field body 0 1) 0x01 else 0) (body.length - 8)
  exact ⟨hframe, congrArg Memory.dram hmem⟩

/-- Layer data that the tile keeps is written. -/
theorem runs_layerData_kept (hp : port < 8) (hk : s.keepsParcel port bs = true) (hg : s.goodParcel 5 bs = true) :
    ∃ u, Keeps relayFoot s u ∧ SameContent s u ∧
      runs (.layerData t port bs) s (u.writeLayer (parcelHdr bs).frame (parcelBody bs)) :=
  runs_kept (ok := fun st => st.layerFieldsOk (parcelBody bs)) rfl hp hk hg fun u hu => by
    rw [State.layerFieldsOk, hu.ve 0x3020 _ 0x02 (by decide +kernel)]
    exact (Bool.and_eq_true_iff.1 hg).2

end

/-! ### The end of the copy from spill (R49) -/

/-- The ingress but for what the two stores hold. -/
def Ingress.beside (i : Ingress) : Ingress := { i with store0 := Frame.empty, store1 := Frame.empty }

/-- What the ingress holds beside the two stores stands. -/
abbrev SameBeside : State → State → Prop := SameIn Ingress.beside

section
variable (s : State)

theorem sameBeside_putNext (f : Frame) : SameBeside s (s.putNext f) := by
  unfold State.putNext State.putStore
  split <;> rfl

theorem sameBeside_judgeComplete : SameBeside s (s.judgeComplete .next) := by
  unfold State.judgeComplete
  extract_lets f gone s0 s1 f1
  have h1 : SameBeside s s1 :=
    .ite (fun _ => rfl) fun _ => (sameBeside_putNext s _).step (State.add_keeps1 ..)
  exact .ite (fun _ => .ite (fun _ => (h1.trans (sameBeside_putNext ..)).step (State.inc_keeps1 ..)) fun _ => h1)
    fun _ => rfl

theorem sameBeside_fileParcel (bs : Bytes) : SameBeside s (s.fileParcel .next bs) := by
  have hput : ∀ f, SameBeside s ((s.putNext f).judgeComplete .next) := fun f =>
    (sameBeside_putNext s f).trans (sameBeside_judgeComplete _)
  have hinc : ∀ m, SameBeside s (s.inc 0x3002 m) := fun m => .ofKeeps (State.inc_keeps1 ..)
  unfold State.fileParcel
  dsimp only
  split
  · exact .ite (fun _ => hinc _) fun _ => .ite (fun _ => hinc _) fun _ => .ite (fun _ => hinc _) fun _ =>
      ((((sameBeside_putNext s _).step (State.add_keeps1 ..)).step (State.add_keeps1 ..)).step
        (State.ince_keeps1 ..)).trans (sameBeside_judgeComplete _)
  · exact .ite (fun _ => hinc _) fun _ => hput _
  · exact .ite (fun _ => hinc _) fun _ => hput _

end

/-- What the copy of spilled parcels into the next store may change. -/
def copyFoot : Foot :=
  ⟨[.ingress], [(0x300201, 0x300202), (0x300208, 0x30020A), (0x30020E, 0x30020E), (0x310003, 0x310003),
    (0x350001, 0x350001)]⟩

/-- A spilled parcel whose read is served changes nothing but the stores and the counters. -/
theorem copySpilled_served {s : State} {r : Spilled} (h : s.dramFault (s.v 0x3000 0x07 + r.off) r.len = 0)
    (b : Bool) : ∃ u, State.copySpilled (b, s) r = (b, u) ∧ Keeps copyFoot s u ∧ SameBeside s u := by
  unfold State.copySpilled
  dsimp only
  rw [dramRead_served h]
  refine ⟨_, rfl, ?_, ?_⟩
  · exact .ite (fun _ => (State.fileParcel_keeps ..).mono (by decide +kernel)) fun _ =>
      (State.inc_keeps1 ..).mono (by decide +kernel)
  · exact .ite (fun _ => sameBeside_fileParcel ..) fun _ => .ofKeeps (State.inc_keeps1 ..)

/-- So does the copy of all of them. -/
theorem foldl_copySpilled_served {s : State} {l : List Spilled}
    (h : ∀ r ∈ l, s.dramFault (s.v 0x3000 0x07 + r.off) r.len = 0) (b : Bool) :
    ∃ u, l.foldl State.copySpilled (b, s) = (b, u) ∧ SameBeside s u := by
  induction l generalizing s with
  | nil => exact ⟨s, rfl, rfl⟩
  | cons r l ih =>
    obtain ⟨x, hx, hk, hb⟩ := copySpilled_served (h r (List.mem_cons_self ..)) b
    obtain ⟨u, hu, hbu⟩ := ih (s := x) fun y hy => by
      rw [hk.dramFault_eq _ _ (hk.memory.resolve_left (by decide)), hk.v_eq 0x3000 0x07]
      exact h y (List.mem_cons_of_mem _ hy)
    exact ⟨u, by rw [List.foldl_cons, hx, hu], hb.trans hbu⟩

/-- The copy from spill ends: what is left there is the frame that waits for its store. -/
theorem doSpillCopyDone_served {s : State} {n : Nat} (hc : s.ingress.spillCopy = true)
    (hn : s.nextStore.number = some n) (h : ((s.ingress.spill.filter fun r => r.frame == n).all fun r =>
      s.dramFault (s.v 0x3000 0x07 + r.off) r.len == 0) = true) :
    s.doSpillCopyDone.ingress.spillCopy = false ∧ s.doSpillCopyDone.ingress.spillFrame = s.ingress.spillFrame ∧
      s.doSpillCopyDone.ingress.spill =
        s.ingress.spill.filter fun r => some r.frame == s.ingress.spillFrame := by
  obtain ⟨u, hu, hb⟩ := foldl_copySpilled_served (fun r hr => beq_iff_eq.1 (List.all_eq_true.1 h r hr)) true
  have hb : u.ingress.beside = s.ingress.beside := hb
  have hframe : u.ingress.spillFrame = s.ingress.spillFrame := (congrArg Ingress.spillFrame hb :)
  have hspill : u.ingress.spill = s.ingress.spill := (congrArg Ingress.spill hb :)
  unfold State.doSpillCopyDone
  rw [hn]
  dsimp only
  rw [if_pos hc, hu]
  exact ⟨rfl, hframe, congrArg (List.filter _) hspill⟩

/-! ### The end of a cue's copy (R55) -/

/-- The copy of a complete cue ends: the next store shows it. -/
theorem doCueCopyDone_complete {s : State} {r : Replay} (hr : s.ingress.replay = some r) (hc : r.copied = false)
    (hs : r.spoiled = false) (hp : s.pageFault (tget [] r.cue s.ingress.pages) = none)
    (h2 : s.ve 0x3500 r.cue 0x01 = 2) :
    s.doCueCopyDone.ingress.replay = some { r with copied := true } ∧
      s.doCueCopyDone.nextStore = { s.frameAt (.cue r.cue) with cue := some r.cue, number := none } := by
  unfold State.doCueCopyDone
  rw [hr]
  dsimp only
  rw [if_neg (by simp [hc, hs]), hp]
  dsimp only
  rw [if_pos h2]
  exact ⟨rfl, nextStore_putNext ..⟩

/-- Settles O40: a trigger is taken by its count and its time, layer data is written, and a copy ends. -/
theorem cuesAndLayers : Obligations.CuesAndLayers := by
  refine ⟨?_, ?_, ?_, ?_, ?_, ?_⟩
  · intro s t p bs hp hk hg h0
    obtain ⟨u, -, hs, hrun⟩ := runs_cueTrigger_kept (t := t) hp hk hg
    obtain ⟨-, -, -, hrep, -⟩ := hs.lateView_eq
    rw [takeTrigger_ends h0] at hrun
    refine ⟨_, hrun, rfl, ?_, fun r hr => ?_⟩
    · rw [← hrep]
      exact Option.isSome_map ..
    · obtain ⟨x, -, rfl⟩ := Option.mem_map.1 hr
      rfl
  · intro s t p bs hp hk hg h0 hw
    obtain ⟨u, hr, hs, hrun⟩ := runs_cueTrigger_kept (t := t) hp hk hg
    obtain ⟨-, -, -, hrep, -⟩ := hs.lateView_eq
    rw [takeTrigger_waits h0 (by rwa [hrep, hr.seq_eq, hr.comingBoundary_eq, hr.wallReaches_eq])] at hrun
    exact ⟨_, hrun, rfl, hrep⟩
  · intro s t p bs hp hk hg h0 hn hq hw
    obtain ⟨u, hr, hs, hrun⟩ := runs_cueTrigger_kept (t := t) hp hk hg
    obtain ⟨-, -, -, hrep, -⟩ := hs.lateView_eq
    obtain ⟨x, htrig, hshow, hx⟩ := activateReplay_starts u (triggerOf (parcelBody bs))
    rw [takeTrigger_activates h0 (by rwa [hrep]) (by rwa [hr.seq_eq])
      (by rwa [hr.comingBoundary_eq, hr.wallReaches_eq]), hx] at hrun
    obtain ⟨htrig', hcue, hreplay, hshow'⟩ := startStep_begins x (triggerOf (parcelBody bs)).step0
    exact ⟨_, hrun, htrig'.trans htrig, hshow'.trans hshow, hcue.trans (congrArg some (step0_cue _)), _, hreplay,
      rfl, rfl, rfl⟩
  · intro s t p bs hp hk hg hf
    obtain ⟨u, hr, -, hrun⟩ := runs_layerData_kept (t := t) hp hk hg
    have hm : u.memory = s.memory := hr.memory.resolve_left (by decide)
    obtain ⟨hframe, hdram⟩ := writeLayer_served (s := u) (frame := (parcelHdr bs).frame)
      (by rwa [hr.ve 0x3020 _ 0x01 (by decide +kernel), hr.dramFault_eq _ _ hm])
    exact ⟨_, hrun, hframe, by rw [hdram, hm, hr.ve 0x3020 _ 0x01 (by decide +kernel)]⟩
  · exact fun s t n hc hn h => ⟨_, rfl, doSpillCopyDone_served (s := s.enter t) hc hn h⟩
  · exact fun s t r hr hc hs hp h2 => ⟨_, rfl, doCueCopyDone_complete (s := s.enter t) hr hc hs hp h2⟩

end Sys2Proof.Machine
end

section
set_option Elab.async false
namespace Sys2Proof.Machine

/-! ### Hogels (R31, R58) -/

theorem hogelBytes_append (l r : List Nat) : hogelBytes (l ++ r) = hogelBytes l ++ hogelBytes r :=
  List.flatMap_append

theorem length_hogelBytes (l : List Nat) : (hogelBytes l).length = 4 * l.length := by
  induction l with
  | nil => rfl
  | cons x l ih =>
    have hx : (beBytes 4 x).length = 4 := rfl
    simp only [hogelBytes, List.flatMap_cons, List.length_append, List.length_cons, hx] at ih ⊢
    omega

theorem beNat_hogel (r g b a : Byte) :
    beNat [r, g, b, a] = ((r.toNat * 256 + g.toNat) * 256 + b.toNat) * 256 + a.toNat := by
  simp [beNat]

/-- A hogel as bytes, and read again. -/
theorem beBytes_beNat_hogel (r g b a : Byte) : beBytes 4 (beNat [r, g, b, a]) = [r, g, b, a] := by
  have hr := r.isLt
  have hg := g.isLt
  have hb := b.isLt
  have ha := a.isLt
  rw [beNat_hogel]
  simp only [beBytes, List.cons.injEq, and_true]
  refine ⟨?_, ?_, ?_, ?_⟩ <;> (apply BitVec.eq_of_toNat_eq; rw [BitVec.toNat_ofNat]; omega)

theorem beNat_beBytes_hogel {x : Nat} (h : x < 2 ^ 32) : beNat (beBytes 4 x) = x := by
  simp only [beBytes, beNat_hogel, BitVec.toNat_ofNat]
  omega

theorem lt_of_mem_hogelsOf {raw : Bytes} {x : Nat} (h : x ∈ hogelsOf raw) : x < 2 ^ 32 := by
  induction raw using hogelsOf.induct with
  | case1 r g b a rest ih =>
    obtain rfl | h := List.mem_cons.1 h
    · rw [beNat_hogel]
      omega
    · exact ih h
  | case2 l hl => simp [hogelsOf] at h

/-- The hogels of a whole raw tile are its bytes. -/
theorem hogelBytes_hogelsOf {raw : Bytes} (h : raw.length % 4 = 0) : hogelBytes (hogelsOf raw) = raw := by
  induction raw using hogelsOf.induct with
  | case1 r g b a rest ih =>
    have hrest : rest.length % 4 = 0 := by
      simp only [List.length_cons] at h
      omega
    rw [hogelsOf, hogelBytes, List.flatMap_cons, beBytes_beNat_hogel]
    exact congrArg ([r, g, b, a] ++ ·) (ih hrest)
  | case2 l hl =>
    match l, h with
    | [], _ => rfl
    | r :: g :: b :: a :: rest, _ => exact absurd rfl (hl r g b a rest)

theorem length_hogelsOf {raw : Bytes} (h : raw.length % 4 = 0) : (hogelsOf raw).length = raw.length / 4 := by
  have := congrArg List.length (hogelBytes_hogelsOf h)
  rw [length_hogelBytes] at this
  omega

/-! ### What the decoder's parts leave (R59 to R61) -/

theorem length_copyBack (d k : Nat) (out : List Nat) : (copyBack d k out).length = out.length + k := by
  induction k generalizing out with
  | zero => rfl
  | succ k ih => rw [copyBack, ih, List.length_cons]; omega

/-- Literals reach their count at most. -/
theorem length_takeLiterals_le (k : Nat) (bs : Bytes) (out : List Nat) :
    (takeLiterals k bs out).1.length ≤ out.length + k := by
  induction k generalizing bs out with
  | zero => exact Nat.le_refl _
  | succ k ih =>
    unfold takeLiterals
    split
    · refine (ih ..).trans ?_
      rw [List.length_cons]
      omega
    · exact Nat.le_add_right ..

/-- A varint that breaks its rule has a reason of R63. -/
theorem readVarint_error {bs : Bytes} {e : Nat} (h : readVarint bs = .error e) : e ≠ 0 := by
  unfold readVarint at h
  repeat' split at h
  all_goals cases h
  all_goals decide

/-- The smallest count of a command (R59). -/
def countBase (kind : Nat) : Nat := if kind = 3 then 2 else 1

/-- The rest of a count: a varint where the count code is full (R59). -/
def readCount (k : Nat) (bs : Bytes) : Except Nat (Nat × Bytes) := if k < 63 then .ok (0, bs) else readVarint bs

theorem readCount_error {k : Nat} {bs : Bytes} {e : Nat} (h : readCount k bs = .error e) : e ≠ 0 := by
  unfold readCount at h
  split at h
  · cases h
  · exact readVarint_error h

/-- What a command does once its count is known, and the commands after it. -/
def actCommand (n w fuel kind count : Nat) (bs : Bytes) (out : List Nat) : Nat × List Nat :=
  match kind with
  | 0 =>
    match takeLiterals count bs out with
    | (out', rest, true) => runCommands n w fuel rest out'
    | (out', _, false) => (5, out')
  | 1 => runCommands n w fuel bs (copyBack 1 count out)
  | 2 => runCommands n w fuel bs (copyBack w count out)
  | _ =>
    match readVarint bs with
    | .error e => (e, out)
    | .ok (d, rest) =>
      if d = 0 ∨ out.length < d then (4, out) else runCommands n w fuel rest (copyBack d count out)

/-- The decoder at a command byte. -/
theorem runCommands_cons (n w fuel : Nat) (c : Byte) (rest : Bytes) (out : List Nat) :
    runCommands n w (fuel + 1) (c :: rest) out =
      if n ≤ out.length then (7, out)
      else if c.toNat % 64 < 63 ∧ n < out.length + c.toNat % 64 + countBase (c.toNat / 64) then (3, out)
      else if c.toNat / 64 = 2 ∧ out.length < w then (4, out)
      else
        match readCount (c.toNat % 64) rest with
        | .error e => (e, out)
        | .ok (v, rest) =>
          if n < out.length + (c.toNat % 64 + countBase (c.toNat / 64) + v) then (3, out)
          else actCommand n w fuel (c.toNat / 64) (c.toNat % 64 + countBase (c.toNat / 64) + v) rest out :=
  rfl

/-! ### No output beyond the tile (R62) -/

/-- The output stays within `n` hogels, and a stream without a reason reaches them. -/
def WithinTile (n : Nat) (r : Nat × List Nat) : Prop := r.2.length ≤ n ∧ (r.1 = 0 → r.2.length = n)

theorem withinTile_of_stop {n e : Nat} {out : List Nat} (he : e ≠ 0) (h : out.length ≤ n) : WithinTile n (e, out) :=
  ⟨h, fun h0 => absurd h0 he⟩

theorem withinTile_actCommand {n w fuel kind count : Nat} {bs : Bytes} {out : List Nat}
    (ih : ∀ bs out, out.length ≤ n → WithinTile n (runCommands n w fuel bs out))
    (h : out.length + count ≤ n) : WithinTile n (actCommand n w fuel kind count bs out) := by
  have hcopy : ∀ d, (copyBack d count out).length ≤ n := fun d => (length_copyBack ..).trans_le h
  have hlit := (length_takeLiterals_le count bs out).trans h
  have hout : out.length ≤ n := by omega
  unfold actCommand
  split
  · split
    next heq => exact ih _ _ (by rwa [heq] at hlit)
    next heq => exact withinTile_of_stop (by decide) (by rwa [heq] at hlit)
  · exact ih _ _ (hcopy 1)
  · exact ih _ _ (hcopy w)
  · split
    next he => exact withinTile_of_stop (readVarint_error he) hout
    next =>
      split
      · exact withinTile_of_stop (by decide) hout
      · exact ih _ _ (hcopy _)

theorem withinTile_runCommands {n : Nat} (w fuel : Nat) (bs : Bytes) {out : List Nat} (h : out.length ≤ n) :
    WithinTile n (runCommands n w fuel bs out) := by
  induction fuel generalizing bs out with
  | zero => exact withinTile_of_stop (by decide) h
  | succ fuel ih =>
    cases bs with
    | nil =>
      refine ⟨h, fun h0 => ?_⟩
      simp only [runCommands] at h0 ⊢
      split at h0
      · cases h0
      · omega
    | cons c rest =>
      rw [runCommands_cons]
      split
      · exact withinTile_of_stop (by decide) h
      split
      · exact withinTile_of_stop (by decide) h
      split
      · exact withinTile_of_stop (by decide) h
      split
      next he => exact withinTile_of_stop (readCount_error he) h
      next =>
        split
        · exact withinTile_of_stop (by decide) h
        · exact withinTile_actCommand (fun _ _ => ih _) (by omega)

/-- Settles O10: a stored or fill stream has the length of the tile, and the commands of a coded one stay within
it (`withinTile_runCommands`). -/
theorem decodedStreamsFillTheTile : Obligations.DecodedStreamsFillTheTile := by
  intro n w bs hn
  unfold decodeStream
  split
  · exact ⟨Nat.zero_le _, fun h => absurd h (by decide)⟩
  extract_lets mode r
  split
  · exact ⟨Nat.zero_le _, fun h => absurd h (by decide)⟩
  split
  · split
    next h => exact ⟨h.le, fun _ => h⟩
    next => exact ⟨Nat.zero_le _, fun h => absurd h (by decide)⟩
  split
  · split
    next h =>
      have : (List.replicate (n / 4) ‹Bytes›).flatten.length = n := by
        rw [List.length_flatten, List.map_replicate, List.sum_replicate, h, smul_eq_mul]
        omega
      exact ⟨this.le, fun _ => this⟩
    next => exact ⟨Nat.zero_le _, fun h => absurd h (by decide)⟩
  · obtain ⟨hle, heq⟩ : WithinTile (n / 4) r := withinTile_runCommands _ _ _ (Nat.zero_le _)
    simp only [length_hogelBytes, List.length_reverse]
    exact ⟨by omega, fun h0 => by have := heq h0; omega⟩

end Sys2Proof.Machine
end

section
set_option Elab.async false
namespace Sys2Proof.Machine

/-! ### Counts and distances, written and read (R59, R60) -/

theorem beBytes_one (v : Nat) : beBytes 1 v = [BitVec.ofNat 8 v] := by
  simp [beBytes]

theorem toNat_byte {v : Nat} (h : v < 256) : (BitVec.ofNat 8 v).toNat = v :=
  BitVec.toNat_ofNat .. ▸ Nat.mod_eq_of_lt h

theorem byte_ne_continue {v : Nat} (h : v < 256) (hv : v ≠ 128) : BitVec.ofNat 8 v ≠ 0x80#8 := fun he =>
  hv ((toNat_byte h).symm.trans (congrArg BitVec.toNat he))

theorem readVarint_varint {v : Nat} (h : v < 2 ^ 21) (bs : Bytes) : readVarint (varint v ++ bs) = .ok (v, bs) := by
  unfold varint
  split
  · have h0 := byte_ne_continue (v := v) (by omega) (by omega)
    have t0 := toNat_byte (v := v) (by omega)
    simp only [beBytes_one, List.cons_append, List.nil_append, readVarint, if_neg h0, t0]
    rw [if_pos (by assumption)]
  split
  · have h0 := byte_ne_continue (v := 128 + v / 128) (by omega) (by omega)
    have t0 := toNat_byte (v := 128 + v / 128) (by omega)
    have t1 := toNat_byte (v := v % 128) (by omega)
    simp only [beBytes_one, List.cons_append, List.nil_append, readVarint, if_neg h0, t0, t1]
    rw [if_neg (by omega), if_pos (by omega)]
    congr 2
    omega
  · have h0 := byte_ne_continue (v := 128 + v / 16384) (by omega) (by omega)
    have t0 := toNat_byte (v := 128 + v / 16384) (by omega)
    have t1 := toNat_byte (v := 128 + v / 128 % 128) (by omega)
    have t2 := toNat_byte (v := v % 128) (by omega)
    simp only [beBytes_one, List.cons_append, List.nil_append, readVarint, if_neg h0, t0, t1, t2]
    rw [if_neg (by omega), if_neg (by omega), if_pos (by omega)]
    congr 2
    omega

theorem command_ne_nil (kind count : Nat) : command kind count ≠ [] := by
  unfold command
  extract_lets base
  split <;> simp [beBytes_one]

/-- A command that fits the tile is read with its kind and count. -/
theorem runCommands_command {n w kind count : Nat} {out : List Nat} (hk : kind < 4) (hb : countBase kind ≤ count)
    (hc : count < 2 ^ 21) (hn : out.length + count ≤ n) (hw : kind = 2 → w ≤ out.length) (fuel : Nat) (bs : Bytes) :
    runCommands n w (fuel + 1) (command kind count ++ bs) out = actCommand n w fuel kind count bs out := by
  have hbase : 0 < countBase kind := by unfold countBase; split <;> decide
  unfold command
  extract_lets base
  have hbs : base = countBase kind := rfl
  rw [hbs]
  split
  · have t0 := toNat_byte (v := kind * 64 + (count - countBase kind)) (by omega)
    have hkind : (kind * 64 + (count - countBase kind)) / 64 = kind := by omega
    have hcode : (kind * 64 + (count - countBase kind)) % 64 = count - countBase kind := by omega
    have hcount : count - countBase kind + countBase kind + 0 = count := by omega
    simp only [beBytes_one, List.cons_append, List.nil_append, runCommands_cons, t0, hkind, hcode]
    rw [if_neg (by omega), if_neg (by omega), if_neg (by omega), readCount, if_pos (by assumption)]
    dsimp only
    rw [hcount, if_neg (by omega)]
  · have t0 := toNat_byte (v := kind * 64 + 63) (by omega)
    have hkind : (kind * 64 + 63) / 64 = kind := by omega
    have hcode : (kind * 64 + 63) % 64 = 63 := by omega
    have hcount : 63 + countBase kind + (count - countBase kind - 63) = count := by omega
    simp only [beBytes_one, List.cons_append, List.nil_append, runCommands_cons, t0, hkind, hcode]
    rw [if_neg (by omega), if_neg (by omega), if_neg (by omega), readCount, if_neg (by decide),
      readVarint_varint (by omega)]
    dsimp only
    rw [hcount, if_neg (by omega)]

theorem actCommand_copy {n w count d : Nat} {bs rest : Bytes} {out : List Nat}
    (hr : readVarint bs = .ok (d, rest)) (hd : 1 ≤ d) (hout : d ≤ out.length) (fuel : Nat) :
    actCommand n w fuel 3 count bs out = runCommands n w fuel rest (copyBack d count out) := by
  have h : actCommand n w fuel 3 count bs out = match readVarint bs with
    | .error e => (e, out)
    | .ok (d, rest) =>
      if d = 0 ∨ out.length < d then (4, out) else runCommands n w fuel rest (copyBack d count out) := rfl
  rw [h, hr]
  exact if_neg (by omega)

/-! ### Pieces of a stream -/

/-- From any stream that goes on behind it, `code` takes the decoder of a tile from one output to another. -/
def Decodes (n w : Nat) (code : Bytes) (out out' : List Nat) : Prop :=
  ∀ fuel rest, code.length + rest.length < fuel → ∃ fuel', rest.length < fuel' ∧
    runCommands n w fuel (code ++ rest) out = runCommands n w fuel' rest out'

namespace Decodes
variable {n w : Nat} {x y : Bytes} {out out' out'' : List Nat}

theorem nil (n w : Nat) (out : List Nat) : Decodes n w [] out out := fun fuel _ h => ⟨fuel, by simpa using h, rfl⟩

theorem append (hx : Decodes n w x out out') (hy : Decodes n w y out' out'') : Decodes n w (x ++ y) out out'' := by
  intro fuel rest h
  rw [List.length_append] at h
  obtain ⟨fuel', h', hx⟩ := hx fuel (y ++ rest) (by rw [List.length_append]; omega)
  obtain ⟨fuel'', h'', hy⟩ := hy fuel' rest (by rwa [List.length_append] at h')
  exact ⟨fuel'', h'', by rw [List.append_assoc, hx, hy]⟩

/-- A command with the bytes that belong to it. -/
theorem command {kind count : Nat} (hk : kind < 4) (hb : countBase kind ≤ count) (hc : count < 2 ^ 21)
    (hn : out.length + count ≤ n) (hw : kind = 2 → w ≤ out.length)
    (h : ∀ fuel rest, actCommand n w fuel kind count (x ++ rest) out = runCommands n w fuel rest out') :
    Decodes n w (Machine.command kind count ++ x) out out' := by
  intro fuel rest hf
  have hlen := List.length_pos_of_ne_nil (command_ne_nil kind count)
  rw [List.length_append] at hf
  obtain ⟨fuel, rfl⟩ : ∃ k, fuel = k + 1 := ⟨fuel - 1, by omega⟩
  exact ⟨fuel, by omega, by rw [List.append_assoc, runCommands_command hk hb hc hn hw, h]⟩

/-- A command with no bytes behind its count. -/
theorem bare {kind count : Nat} (hk : kind < 4) (hb : countBase kind ≤ count) (hc : count < 2 ^ 21)
    (hn : out.length + count ≤ n) (hw : kind = 2 → w ≤ out.length)
    (h : ∀ fuel rest, actCommand n w fuel kind count rest out = runCommands n w fuel rest out') :
    Decodes n w (Machine.command kind count) out out' := by
  rw [← List.append_nil (Machine.command kind count)]
  exact command hk hb hc hn hw h

/-- A stream of pieces that fill the tile decodes to it. -/
theorem fills (h : Decodes n w x [] out) (hn : out.length = n) (fuel : Nat) (hf : x.length < fuel) :
    runCommands n w fuel x [] = (0, out) := by
  obtain ⟨fuel', h0, hrun⟩ := h fuel [] hf
  obtain ⟨k, rfl⟩ : ∃ k, fuel' = k + 1 := ⟨fuel' - 1, (Nat.succ_pred_eq_of_pos h0).symm⟩
  rw [List.append_nil] at hrun
  rw [hrun, runCommands, if_neg (by omega)]

end Decodes

/-! ### Output newest first, and the source (R61) -/

/-- The output when the first `i` hogels of the source have come. -/
def outputAt (hs : List Nat) (i : Nat) : List Nat := (hs.take i).reverse

/-- The hogel `d` positions before position `i`, or (0, 0, 0, 0) where there is none (R59). -/
def behind (hs : List Nat) (i d : Nat) : Nat := if i < d then 0 else hs.getD (i - d) 0

/-- `k` hogels from position `i` on each equal the one `d` before it. -/
def Repeats (hs : List Nat) (d i k : Nat) : Prop :=
  i + k ≤ hs.length ∧ ∀ j < k, hs.getD (i + j) 0 = behind hs (i + j) d

section
variable {hs : List Nat} {d i k : Nat}

theorem length_outputAt (h : i ≤ hs.length) : (outputAt hs i).length = i := by
  rw [outputAt, List.length_reverse, List.length_take, min_eq_left h]

theorem outputAt_succ (h : i < hs.length) : outputAt hs (i + 1) = hs.getD i 0 :: outputAt hs i := by
  rw [outputAt, List.take_succ_eq_append_getElem h, List.reverse_concat, List.getD_eq_getElem _ _ h, outputAt]

theorem getD_outputAt (h : i ≤ hs.length) (hd : 0 < d) : (outputAt hs i).getD (d - 1) 0 = behind hs i d := by
  have hlen : (hs.take i).length = i := by rw [List.length_take, min_eq_left h]
  unfold behind outputAt
  split
  · exact List.getD_eq_default _ _ (by rw [List.length_reverse]; omega)
  · rw [List.getD_eq_getElem _ _ (by rw [List.length_reverse]; omega), List.getD_eq_getElem _ _ (by omega),
      List.getElem_reverse, List.getElem_take]
    congr 1
    omega

/-- A copy of what repeats is the source. -/
theorem copyBack_outputAt (hd : 0 < d) (h : Repeats hs d i k) :
    copyBack d k (outputAt hs i) = outputAt hs (i + k) := by
  induction k generalizing i with
  | zero => rfl
  | succ k ih =>
    obtain ⟨hlen, heq⟩ := h
    have h0 : hs.getD i 0 = behind hs i d := heq 0 (Nat.succ_pos k)
    rw [copyBack, getD_outputAt (by omega) hd, ← h0, ← outputAt_succ (by omega), ih ⟨by omega, fun j hj => ?_⟩,
      Nat.add_right_comm, Nat.add_assoc]
    have := heq (j + 1) (by omega)
    rwa [show i + 1 + j = i + (j + 1) by omega]

theorem takeLiterals_hogelBytes {l : List Nat} (hl : ∀ x ∈ l, x < 2 ^ 32) (bs : Bytes) (out : List Nat) :
    takeLiterals l.length (hogelBytes l ++ bs) out = (l.reverse ++ out, bs, true) := by
  induction l generalizing out with
  | nil => rfl
  | cons x l ih =>
    obtain ⟨hx, hl⟩ := List.forall_mem_cons.1 hl
    have h : hogelBytes (x :: l) ++ bs = beBytes 4 x ++ (hogelBytes l ++ bs) := List.append_assoc ..
    have hx := beNat_beBytes_hogel hx
    rw [h, List.length_cons, List.reverse_cons, List.append_assoc, List.singleton_append]
    simp only [beBytes, List.cons_append, List.nil_append] at hx ⊢
    rw [takeLiterals, hx, ih hl]

end

end Sys2Proof.Machine
end

section
set_option Elab.async false
namespace Sys2Proof.Machine

/-! ### What the searches of a compression lane find (R73) -/

theorem runLen_repeats (x : Nat) (l : List Nat) : runLen x l ≤ l.length ∧ ∀ j < runLen x l, l.getD j 0 = x := by
  induction l with
  | nil => exact ⟨Nat.le_refl _, fun _ h => absurd h (Nat.not_lt_zero _)⟩
  | cons y ys ih =>
    rw [runLen]
    split
    next hy =>
      refine ⟨Nat.succ_le_succ ih.1, fun j hj => ?_⟩
      cases j with
      | zero => exact hy
      | succ j => exact ih.2 j (Nat.lt_of_succ_lt_succ hj)
    next => exact ⟨Nat.zero_le _, fun _ h => absurd h (Nat.not_lt_zero _)⟩

theorem agree_repeats (l r : List Nat) :
    agree l r ≤ r.length ∧ ∀ j < agree l r, r.getD j 0 = l.getD j 0 := by
  induction l, r using agree.induct with
  | case1 x xs ys ih =>
    rw [agree, if_pos rfl]
    refine ⟨Nat.succ_le_succ ih.1, fun j hj => ?_⟩
    cases j with
    | zero => rfl
    | succ j => exact ih.2 j (Nat.lt_of_succ_lt_succ hj)
  | case2 x xs y ys h =>
    rw [agree, if_neg h]
    exact ⟨Nat.zero_le _, fun _ h => absurd h (Nat.not_lt_zero _)⟩
  | case3 l r h =>
    rw [agree]
    · exact ⟨Nat.zero_le _, fun _ h => absurd h (Nat.not_lt_zero _)⟩
    · exact h

/-- The hogels of the source. -/
def PackSrc.hogels (p : PackSrc) : List Nat := p.src.toList

/-- What a search at position `i` has found stands in the source. -/
structure FoundAt (p : PackSrc) (i : Nat) (f : Found) : Prop where
  run : Repeats p.hogels 1 i f.run
  up : 1 ≤ f.up → p.w ≤ i ∧ Repeats p.hogels p.w i f.up
  copy : 2 ≤ f.copy → 1 ≤ f.dist ∧ f.dist ≤ i ∧ Repeats p.hogels f.dist i f.copy

/-- Every linked position is below `i`. -/
def Chains.below (ch : Chains) (i : Nat) : Prop := ∀ e ∈ ch, e.2 < i

section
variable {p : PackSrc} {i j b : Nat} {ch : Chains}

theorem length_hogels (p : PackSrc) : p.hogels.length = p.src.size := Array.length_toList

theorem from_eq_drop (p : PackSrc) (i : Nat) : p.from i = p.hogels.drop i := by
  rw [PackSrc.from, Array.toList_extract, List.extract_eq_take_drop, PackSrc.hogels, List.take_of_length_le]
  rw [List.length_drop, Array.length_toList]

theorem getD_drop (l : List Nat) (i j : Nat) : (l.drop i).getD j 0 = l.getD (i + j) 0 := by
  rw [List.getD_eq_getElem?_getD, List.getElem?_drop, ← List.getD_eq_getElem?_getD]

theorem repeats_agree (hj : j < i) (hi : i ≤ p.src.size) :
    Repeats p.hogels (i - j) i (agree (p.from j) (p.from i)) := by
  obtain ⟨hlen, heq⟩ := agree_repeats (p.from j) (p.from i)
  simp only [from_eq_drop, List.length_drop, length_hogels, getD_drop] at hlen heq ⊢
  refine ⟨by rw [length_hogels]; omega, fun k hk => ?_⟩
  rw [heq k hk, behind, if_neg (by omega)]
  congr 1
  omega

theorem repeats_run (hi : i ≤ p.src.size) :
    Repeats p.hogels 1 i (runLen (if i = 0 then 0 else p.src.getD (i - 1) 0) (p.from i)) := by
  have hx : (if i = 0 then 0 else p.src.getD (i - 1) 0) = behind p.hogels i 1 := by
    simp [behind, PackSrc.hogels]
  rw [hx]
  obtain ⟨hlen, heq⟩ := runLen_repeats (behind p.hogels i 1) (p.from i)
  simp only [from_eq_drop, List.length_drop, length_hogels, getD_drop] at hlen heq ⊢
  refine ⟨by rw [length_hogels]; omega, fun k hk => (heq k hk).trans ?_⟩
  cases k with
  | zero => rfl
  | succ k =>
    rw [← heq k (by omega), behind, if_neg (by omega)]
    rfl

/-- The best of candidates below `i` is an agreement with a position below `i`. -/
theorem bestOf_found (hi : i ≤ p.src.size) {cands : List Nat} (hc : ∀ j ∈ cands, j < i) {b : Nat × Nat}
    (hb : 0 < b.1 → 1 ≤ b.2 ∧ b.2 ≤ i ∧ Repeats p.hogels b.2 i b.1) :
    let r := bestOf p i (p.from i) cands b
    0 < r.1 → 1 ≤ r.2 ∧ r.2 ≤ i ∧ Repeats p.hogels r.2 i r.1 := by
  induction cands generalizing b with
  | nil => exact hb
  | cons j js ih =>
    obtain ⟨hj, hjs⟩ := List.forall_mem_cons.1 hc
    refine ih hjs ?_
    split
    · exact fun _ => ⟨by dsimp only; omega, Nat.sub_le .., repeats_agree hj hi⟩
    · exact hb

theorem link_below (h : ch.below b) (hi : i < b) : (p.link ch i).below b := by
  unfold PackSrc.link
  split
  · exact List.forall_mem_cons.2 ⟨hi, h⟩
  · exact h

theorem foldl_link_below {l : List Nat} {a : Nat} (h : ch.below b) (hl : ∀ k ∈ l, a + k < b) :
    Chains.below (l.foldl (fun c k => p.link c (a + k)) ch) b := by
  induction l generalizing ch with
  | nil => exact h
  | cons k l ih =>
    obtain ⟨hk, hl⟩ := List.forall_mem_cons.1 hl
    exact ih (link_below h hk) hl

theorem Chains.below.mono {a b : Nat} (h : ch.below a) (hab : a ≤ b) : ch.below b :=
  fun e he => (h e he).trans_le hab

/-- A search finds what stands in the source, and links its position at most. -/
theorem search_found (hw : 0 < p.w) (hi : i < p.src.size) (hch : ch.below i) :
    FoundAt p i (p.search ch i).1 ∧ (p.search ch i).2.below (i + 1) := by
  have hrun := repeats_run (p := p) hi.le
  have hup : 1 ≤ (if i < p.w then 0 else agree (p.from (i - p.w)) (p.from i)) → p.w ≤ i ∧
      Repeats p.hogels p.w i (if i < p.w then 0 else agree (p.from (i - p.w)) (p.from i)) := by
    split
    · exact fun h => absurd h (by decide)
    · have hrep := repeats_agree (p := p) (j := i - p.w) (by omega) hi.le
      rw [show i - (i - p.w) = p.w by omega] at hrep
      exact fun _ => ⟨by omega, hrep⟩
  have hlink : ch.below (i + 1) := hch.mono (Nat.le_succ i)
  unfold PackSrc.search
  extract_lets here r u h cands b
  split
  · exact ⟨⟨hrun, hup, fun (h2 : 2 ≤ 0) => absurd h2 (by decide)⟩, hlink⟩
  · have hc : ∀ j ∈ cands, j < i := fun j hj => by
      obtain ⟨e, he, rfl⟩ := List.mem_map.1 hj
      exact hch e (List.mem_filter.1 (List.mem_of_mem_take he)).1
    have hb : 0 < b.1 → 1 ≤ b.2 ∧ b.2 ≤ i ∧ Repeats p.hogels b.2 i b.1 :=
      bestOf_found hi.le hc fun h => absurd h (by decide)
    refine ⟨⟨hrun, hup, ?_⟩, link_below hlink (Nat.lt_succ_self i)⟩
    dsimp only
    split
    · exact fun h => absurd h (by decide)
    · exact fun _ => hb (by omega)

end

end Sys2Proof.Machine
end

section
set_option Elab.async false
namespace Sys2Proof.Machine

/-! ### The stream that a compression lane writes (R73) -/

section
variable {p : PackSrc} {i m : Nat} {f : Found}

/-- Literals bring the source from one position to another. -/
theorem literals_decode (hsize : p.src.size < 2 ^ 21) (hx : ∀ x ∈ p.hogels, x < 2 ^ 32) {lit : Nat} (hlit : lit ≤ i)
    (hi : i ≤ p.src.size) :
    Decodes p.src.size p.w (p.literals lit i) (outputAt p.hogels lit) (outputAt p.hogels i) := by
  have hlen := length_hogels p
  unfold PackSrc.literals
  split
  next hlt =>
    have hl : (p.src.extract lit i).toList = (p.hogels.take i).drop lit := by
      rw [Array.toList_extract, List.extract_eq_drop_take', PackSrc.hogels]
    have hcount : ((p.hogels.take i).drop lit).length = i - lit := by
      rw [List.length_drop, List.length_take]
      omega
    have hout : outputAt p.hogels i = ((p.hogels.take i).drop lit).reverse ++ outputAt p.hogels lit := by
      have h := List.take_append_drop lit (p.hogels.take i)
      rw [List.take_take, min_eq_left hlit] at h
      rw [outputAt, outputAt, ← List.reverse_append, h]
    rw [hl]
    refine .command (by decide) (by simp [countBase]; omega) (by omega) ?_ (fun h => absurd h (by decide)) fun _ _ => ?_
    · rw [length_outputAt (by omega)]
      omega
    · have := takeLiterals_hogelBytes (l := (p.hogels.take i).drop lit)
        (fun x h => hx x (List.mem_of_mem_take (List.mem_of_mem_drop h))) ‹Bytes› (outputAt p.hogels lit)
      rw [hcount] at this
      rw [actCommand, this, hout]
  next hge =>
    rw [show lit = i by omega]
    exact .nil _ _ _

theorem repeat_decodes (hsize : p.src.size < 2 ^ 21) (h1 : 1 ≤ m) (h : Repeats p.hogels 1 i m) :
    Decodes p.src.size p.w (command 1 m) (outputAt p.hogels i) (outputAt p.hogels (i + m)) := by
  have hlen := length_hogels p
  have hle := h.1
  have hout := length_outputAt (hs := p.hogels) (i := i) (by omega)
  exact .bare (by decide) h1 (by omega) (by omega) (fun h => absurd h (by decide)) fun _ _ => by
    rw [actCommand, copyBack_outputAt Nat.one_pos h]

theorem copyUp_decodes (hsize : p.src.size < 2 ^ 21) (hw : 0 < p.w) (h1 : 1 ≤ m) (hi : p.w ≤ i)
    (h : Repeats p.hogels p.w i m) :
    Decodes p.src.size p.w (command 2 m) (outputAt p.hogels i) (outputAt p.hogels (i + m)) := by
  have hlen := length_hogels p
  have hle := h.1
  have hout := length_outputAt (hs := p.hogels) (i := i) (by omega)
  exact .bare (by decide) h1 (by omega) (by omega) (fun _ => by omega) fun _ _ => by
    rw [actCommand, copyBack_outputAt hw h]

theorem copy_decodes (hsize : p.src.size < 2 ^ 21) {d : Nat} (h2 : 2 ≤ m) (hd : 1 ≤ d) (hi : d ≤ i)
    (h : Repeats p.hogels d i m) :
    Decodes p.src.size p.w (command 3 m ++ varint d) (outputAt p.hogels i) (outputAt p.hogels (i + m)) := by
  have hlen := length_hogels p
  have hle := h.1
  have hout := length_outputAt (hs := p.hogels) (i := i) (by omega)
  refine .command (by decide) h2 (by omega) (by omega) (fun h => absurd h (by decide)) fun _ _ => ?_
  rw [actCommand_copy (readVarint_varint (by omega) _) (by omega) (by omega), copyBack_outputAt hd h]

/-- The command taken at a position brings the source on by as many hogels as it covers. -/
theorem taken_decodes (hw : 0 < p.w) (hsize : p.src.size < 2 ^ 21) (hf : FoundAt p i f) {run up : Bool}
    (hrun : run = true → 1 ≤ f.run) (hup : up = true → 1 ≤ f.up) (hcopy : run = false → up = false → 2 ≤ f.copy)
    (hm : m = if run then f.run else if up then f.up else f.copy) :
    1 ≤ m ∧ i + m ≤ p.src.size ∧ Decodes p.src.size p.w
      (if run then command 1 m else if up then command 2 m else command 3 m ++ varint f.dist)
      (outputAt p.hogels i) (outputAt p.hogels (i + m)) := by
  have hlen := length_hogels p
  subst hm
  cases run with
  | true => exact ⟨hrun rfl, hlen ▸ hf.run.1, repeat_decodes hsize (hrun rfl) hf.run⟩
  | false =>
    cases up with
    | true =>
      obtain ⟨hi, hrep⟩ := hf.up (hup rfl)
      exact ⟨hup rfl, hlen ▸ hrep.1, copyUp_decodes hsize hw (hup rfl) hi hrep⟩
    | false =>
      have h2 := hcopy rfl rfl
      obtain ⟨hd, hi, hrep⟩ := hf.copy h2
      exact ⟨Nat.le_of_lt h2, hlen ▸ hrep.1, copy_decodes hsize h2 hd hi hrep⟩

end

/-- Where the search of the position stands: still to come, or kept from a look-ahead. -/
def Searched (p : PackSrc) (i : Nat) (memo : Option Found) (ch : Chains) : Prop :=
  match memo with
  | none => ch.below i
  | some f => FoundAt p i f ∧ ch.below (i + 1)

/-- The results at a position, searched now or kept, stand in the source. -/
theorem look_found {p : PackSrc} {i : Nat} {memo : Option Found} {f : Found} {ch ch0 : Chains} (hw : 0 < p.w)
    (hi : i < p.src.size) (hs : Searched p i memo ch0) (hnone : memo = none → p.search ch0 i = (f, ch))
    (hsome : ∀ g, memo = some g → (g, ch0) = (f, ch)) : FoundAt p i f ∧ ch.below (i + 1) := by
  cases memo with
  | none =>
    have := search_found hw hi hs
    rwa [hnone rfl] at this
  | some g =>
    cases hsome g rfl
    exact hs

/-- A look-ahead is kept for the next position, and links one position more. -/
theorem ahead_found {p : PackSrc} {i : Nat} {f g : Found} {ch ch2 : Chains} {lazy : Bool} (hw : 0 < p.w)
    (hl : lazy = true → i + 1 < p.src.size) (hch : ch.below (i + 1))
    (h : (if lazy = true then p.search ch (i + 1) else (f, ch)) = (g, ch2)) :
    Searched p (i + 1) (if lazy = true then some g else none) ch2 ∧ ch2.below (i + if lazy = true then 2 else 1) := by
  cases lazy with
  | true =>
    have := search_found hw (hl rfl) hch
    rw [show p.search ch (i + 1) = (g, ch2) from h] at this
    exact ⟨this, this.2⟩
  | false =>
    cases h
    exact ⟨hch, hch⟩

/-- What the loop of R73 keeps: its literals and its position lie in the source, its chains behind the position,
and what it has written decodes to the source before the literals. -/
structure PackKeeps (p : PackSrc) (st : PackState) : Prop where
  lit : st.lit ≤ st.i
  pos : st.i ≤ p.src.size
  searched : Searched p st.i st.memo st.chains
  out : ∃ code, st.out = 0#8 :: code ∧ Decodes p.src.size p.w code [] (outputAt p.hogels st.lit)

section
variable {p : PackSrc} {st : PackState} {ch : Chains} {ins m : Nat} {cmd : Bytes} {memo : Option Found}

/-- The position goes on by one hogel more of literals. -/
theorem PackKeeps.skip (h : PackKeeps p st) (hi : st.i < p.src.size) (hs : Searched p (st.i + 1) memo ch) :
    PackKeeps p { st with i := st.i + 1, chains := ch, memo := memo, inserted := ins } :=
  ⟨h.lit.trans (Nat.le_succ _), hi, hs, h.out⟩

/-- The literals so far and a command that covers `m` hogels are written. -/
theorem PackKeeps.emit (hsize : p.src.size < 2 ^ 21) (hx : ∀ x ∈ p.hogels, x < 2 ^ 32) (h : PackKeeps p st)
    (hm : st.i + m ≤ p.src.size) (hch : ch.below (st.i + m))
    (hcmd : Decodes p.src.size p.w cmd (outputAt p.hogels st.i) (outputAt p.hogels (st.i + m))) :
    PackKeeps p { i := st.i + m, lit := st.i + m, chains := ch, memo := none, inserted := ins,
                  out := st.out ++ p.literals st.lit st.i ++ cmd } := by
  obtain ⟨code, hout, hcode⟩ := h.out
  refine ⟨Nat.le_refl _, hm, hch, code ++ p.literals st.lit st.i ++ cmd, by rw [hout]; rfl, ?_⟩
  exact (hcode.append (literals_decode hsize hx h.lit h.pos)).append hcmd

/-- At each turn the loop goes on by one hogel, or writes its literals and the command it takes. -/
theorem loop_keeps (hw : 0 < p.w) (hsize : p.src.size < 2 ^ 21) (hx : ∀ x ∈ p.hogels, x < 2 ^ 32) (fuel : Nat)
    (h : PackKeeps p st) : PackKeeps p (p.loop fuel st) := by
  induction fuel generalizing st with
  | zero => exact h
  | succ fuel ih =>
    rw [PackSrc.loop]
    split
    · exact h
    next hlt =>
    have hi : st.i < p.src.size := Nat.lt_of_not_le hlt
    split
    next f ch hlook =>
    obtain ⟨hf, hch⟩ : FoundAt p st.i f ∧ ch.below (st.i + 1) :=
      look_found hw hi h.searched (fun hm => by rw [hm] at hlook; exact hlook)
        (fun g hm => by rw [hm] at hlook; exact hlook)
    extract_lets isCopy isRun isUp lazy upTo m cmd from_
    split
    next g ch2 hahead =>
    have hlazy : lazy = true → isCopy = true ∧ st.i + 1 < p.src.size := fun h => by
      simp only [lazy, Bool.and_eq_true, decide_eq_true_eq] at h
      exact ⟨h.1.1, h.2⟩
    obtain ⟨hskip, hch2⟩ := ahead_found hw (fun h => (hlazy h).2) hch hahead
    extract_lets better none_ ch3
    split
    next => exact ih (h.skip hi hskip)
    next hnone =>
      have htaken : isRun = false → isUp = false → isCopy = true := fun hr hu => by
        simp only [none_, hr, hu, Bool.or_eq_true, Bool.false_or, not_or, Bool.not_eq_true, Bool.not_eq_false'] at hnone
        exact hnone.2
      have hcopy : isCopy = true → isRun = false ∧ isUp = false ∧ 2 ≤ f.copy := fun hc => by
        simp only [isCopy, Bool.and_eq_true, Bool.not_eq_true', decide_eq_true_eq] at hc
        obtain ⟨⟨hr, hu⟩, h2⟩ := hc
        exact ⟨hr, by simp only [isUp, Bool.and_assoc, hu, Bool.and_false], h2⟩
      obtain ⟨hm1, hmle, hcmd⟩ := taken_decodes (i := st.i) (m := m) hw hsize hf (run := isRun) (up := isUp)
        (fun hr => by simp only [isRun, Bool.and_eq_true, decide_eq_true_eq] at hr; exact hr.1.1)
        (fun hu => by simp only [isUp, Bool.and_eq_true, decide_eq_true_eq] at hu; exact hu.1.2)
        (fun hr hu => (hcopy (htaken hr hu)).2.2) rfl
      have hupTo : upTo ≤ st.i + m := by
        refine Nat.add_le_add_left ?_ _
        split
        next hl =>
          obtain ⟨hr, hu, h2⟩ := hcopy (hlazy hl).1
          simpa only [m, hr, hu, Bool.false_eq_true, if_false] using h2
        next => exact hm1
      refine ih (h.emit hsize hx hmle (foldl_link_below (hch2.mono hupTo) fun k hk => ?_) hcmd)
      have := List.mem_range.1 hk
      omega

end

end Sys2Proof.Machine
end

section
set_option Elab.async false
namespace Sys2Proof.Machine

/-! ### Compressed tiles decode to their source (R73, R75) -/

theorem decodeStream_storedMode (n w : Nat) (rest : Bytes) : decodeStream n w (0x40#8 :: rest) =
    if rest.length = n then { reason := 0, raw := rest } else { reason := 2, raw := [] } := rfl

theorem decodeStream_fillMode (n w : Nat) (rest : Bytes) : decodeStream n w (0x80#8 :: rest) =
    if rest.length = 4 then { reason := 0, raw := (List.replicate (n / 4) rest).flatten }
    else { reason := 2, raw := [] } := rfl

theorem decodeStream_codedMode (n w : Nat) (rest : Bytes) : decodeStream n w (0#8 :: rest) =
    { reason := (runCommands (n / 4) w rest.length.succ rest []).1,
      raw := hogelBytes (runCommands (n / 4) w rest.length.succ rest []).2.reverse } := rfl

section
variable {raw : Bytes}

theorem decodeStream_stored (w : Nat) (raw : Bytes) :
    decodeStream raw.length w (0x40#8 :: raw) = { reason := 0, raw := raw } := by
  rw [decodeStream_storedMode, if_pos rfl]

/-- A tile of equal hogels is its first hogel, repeated. -/
theorem decodeStream_fill (h4 : raw.length % 4 = 0) (hpos : 0 < raw.length)
    (hall : (hogelsOf raw).all (· == (hogelsOf raw).headD 0) = true) (w : Nat) :
    decodeStream raw.length w (0x80#8 :: raw.take 4) = { reason := 0, raw := raw } := by
  have hhs : hogelsOf raw = List.replicate (raw.length / 4) ((hogelsOf raw).headD 0) :=
    List.eq_replicate_iff.2 ⟨length_hogelsOf h4, fun x hx => beq_iff_eq.1 (List.all_eq_true.1 hall x hx)⟩
  have hraw : raw = (List.replicate (raw.length / 4) (beBytes 4 ((hogelsOf raw).headD 0))).flatten := by
    rw [← List.map_replicate, ← List.flatMap_def, ← hhs]
    exact (hogelBytes_hogelsOf h4).symm
  have hfirst : raw.take 4 = beBytes 4 ((hogelsOf raw).headD 0) := by
    obtain ⟨k, hk⟩ : ∃ k, raw.length / 4 = k + 1 := ⟨raw.length / 4 - 1, by omega⟩
    rw [hk, List.replicate_succ, List.flatten_cons] at hraw
    rw [congrArg (List.take 4) hraw]
    exact List.take_left' rfl
  rw [decodeStream_fillMode, if_pos (by rw [List.length_take]; omega), hfirst, ← hraw]

/-- The coded stream of the loop, whatever its fuel, decodes to the source. -/
theorem decodeStream_coded {w : Nat} (hw : 0 < w) (h4 : raw.length % 4 = 0) (hlen : raw.length ≤ 32768)
    (level fuel : Nat) :
    let p : PackSrc := { src := (hogelsOf raw).toArray, w := w, level := level }
    let st := p.loop fuel { i := 0, lit := 0, chains := [], memo := none, inserted := 0, out := [0#8] }
    decodeStream raw.length w (st.out ++ p.literals st.lit (hogelsOf raw).length) = { reason := 0, raw := raw } := by
  intro p st
  have hhs : p.hogels = hogelsOf raw := rfl
  have hsize : p.src.size = (hogelsOf raw).length := rfl
  have hcount := length_hogelsOf h4
  have hsmall : p.src.size < 2 ^ 21 := by omega
  have hx : ∀ x ∈ p.hogels, x < 2 ^ 32 := fun _ h => lt_of_mem_hogelsOf h
  have hst : PackKeeps p st := loop_keeps hw hsmall hx fuel
    ⟨Nat.le_refl _, Nat.zero_le _, fun _ h => absurd h List.not_mem_nil, [], rfl, .nil _ _ _⟩
  obtain ⟨code, hout, hcode⟩ := hst.out
  have hdec := hcode.append (literals_decode hsmall hx (hst.lit.trans hst.pos) (Nat.le_refl _))
  have hall : outputAt p.hogels p.src.size = (hogelsOf raw).reverse := by
    rw [outputAt, hhs, hsize, List.take_length]
  rw [hall] at hdec
  have hrun := hdec.fills (by rw [List.length_reverse]; rfl) _ (Nat.lt_succ_self _)
  rw [hout, List.cons_append, decodeStream_codedMode, ← hcount, ← hsize, hrun, List.reverse_reverse,
    hogelBytes_hogelsOf h4]

end

/-- Settles O11: the stored and the fill mode carry the tile as it is, and a coded stream decodes to the source
before its literals at every turn of the loop (`loop_keeps`). -/
theorem compressedTilesDecodeBack : Obligations.CompressedTilesDecodeBack := by
  intro level w raw hlevel hw hpos hlen h4
  unfold compress
  extract_lets stored hs p st coded
  split
  · exact decodeStream_stored w raw
  split
  next hall => exact decodeStream_fill h4 hpos hall w
  split
  · exact decodeStream_stored w raw
  · exact decodeStream_coded hw h4 hlen level _

end Sys2Proof.Machine
end

section
set_option Elab.async false
namespace Sys2Proof.Machine

/-! ### Bands at the deadline (R20, R21) -/

/-- Fret 0 is on display from cycle 0 on, and band 0 of fret 1 is in synthesis. -/
def State.bandInSynthesis : State :=
  { State.reset with
    seq := { Seq.reset with running := true }
    ray := { Ray.reset with window := true, fret := 1, band := some 0 } }

/-- Nothing is committed in the deadline cycle or later. -/
theorem doBandCommit_of_pastDeadline {s : State} (h : s.pastDeadline = true) (ecc : List Ecc) :
    s.doBandCommit ecc = s := by
  rw [State.doBandCommit, if_pos h]

/-- Refutes O41: BAND_COMMIT has no hypothesis on the time, and in the deadline cycle of the window (the start of
slot 29 of the fret on display) or later the array commits nothing: the band stays in synthesis. -/
theorem not_decodingAndSynthesis : ¬ Obligations.DecodingAndSynthesis := by
  rintro ⟨-, -, -, -, hcommit, -⟩
  obtain ⟨s', hr, hband, -⟩ := hcommit State.bandInSynthesis 1208334 0 [] rfl rfl
  have he : guarded true ((State.bandInSynthesis.enter 1208334).doBandCommit []) = .next s' := hr
  have hlate : (State.bandInSynthesis.enter 1208334).pastDeadline = true := by decide +kernel
  obtain ⟨-, rfl⟩ := guarded_next.1 he
  rw [doBandCommit_of_pastDeadline hlate] at hband
  exact nomatch hband

end Sys2Proof.Machine
end

section
set_option Elab.async false
namespace Sys2Proof.Machine

/-! ### What frames leave of the codec and the compositor -/

theorem Keeps.comp_eq {F : Foot} {s u : State} (h : Keeps F s u) (hf : F.parts.contains .comp = false := by rfl) :
    u.comp = s.comp :=
  h.comp.resolve_left (Bool.eq_false_iff.1 hf)

theorem Keeps.codec_eq {F : Foot} {s u : State} (h : Keeps F s u) (hf : F.parts.contains .codec = false := by rfl) :
    u.codec = s.codec :=
  h.codec.resolve_left (Bool.eq_false_iff.1 hf)

theorem nextStore_congr {s u : State} (h : u.ingress = s.ingress) : u.nextStore = s.nextStore := by
  rw [State.nextStore, State.nextStore, State.storeAt, State.storeAt, h]

/-! ### A composition starts (R91) -/

section
variable {s : State} {k : Nat}

/-- 4001.01 to 4001.03 for a composition under way. -/
theorem put_composition_shown (x : State) (frame tiles : Nat) :
    let u := ((x.put 0x4001 0x01 2).put 0x4001 0x02 frame).put 0x4001 0x03 tiles
    u.nextStore = x.nextStore ∧ u.v 0x4001 0x01 = 2 ∧ u.v 0x4001 0x02 = frame := by
  intro u
  have h2 : Keeps _ (x.put 0x4001 0x01 2) _ := State.put_keeps1 _ 0x4001 0x02 frame
  have h3 : Keeps _ _ u := State.put_keeps1 _ 0x4001 0x03 tiles
  refine ⟨?_, ?_, ?_⟩
  · rw [h3.nextStore_eq, h2.nextStore_eq, (State.put_keeps1 ..).nextStore_eq]
  · rw [h3.v_eq 0x4001 0x01, h2.v_eq 0x4001 0x01, v_put_self]
  · rw [h3.v_eq 0x4001 0x02, v_put_self]

/-- A composition that starts touches no tile and ends, or shows itself and its frame. -/
theorem doCompositionStart_starts (hc : s.composable = true) (hl : s.enabledLayers ≠ [])
    (hr : s.unready s.nextStore = [] ∨ s.waitLimitReached s.nextStore = true) :
    s.doCompositionStart.nextStore.comp = 3 ∨ s.doCompositionStart.nextStore.comp = 1 ∧
      s.doCompositionStart.v 0x4001 0x01 = 2 ∧ s.doCompositionStart.v 0x4001 0x02 = s.nextStore.contentNo := by
  unfold State.doCompositionStart
  extract_lets f ls unready p m qs s1 x cap capturing s2 s3
  rw [if_pos (by simp [hc, ls, hl]), if_pos (by simpa [unready, f] using hr)]
  split
  · exact .inl (congrArg Frame.comp (nextStore_putNext ..))
  · obtain ⟨hnext, hstate, hframe⟩ := put_composition_shown s3 f.contentNo qs.length
    have hstore : s3.nextStore = { x with comp := 1 } :=
      (nextStore_congr (s := s2) (u := s3) rfl).trans (nextStore_putNext s1 { x with comp := 1 })
    exact .inr ⟨by rw [hnext, hstore], hstate, hframe⟩

/-! ### A tile goes to a compression lane (R92) -/

/-- The lowest touched queue goes to the lowest idle lane. -/
theorem doCompressStart_starts {q : Nat} {rest l : List Nat} (ht : s.comp.todo = q :: rest)
    (hk : s.idleClanes = k :: l) (ecc : List Ecc) :
    (s.doCompressStart ecc).comp.todo = rest ∧ (s.doCompressStart ecc).ve 0x3820 k 0x03 = 1 ∧
      ∃ j ∈ (s.doCompressStart ecc).codec.cjobs.head?, j.lane = k ∧ j.q = q := by
  unfold State.doCompressStart
  rw [ht, hk]
  dsimp only
  generalize State.baseTile _ k q = base
  generalize compress _ _ _ = coded
  exact ⟨rfl, ve_pute_self .., _, rfl, rfl, rfl⟩

/-! ### A tile is compressed (R75, R76) -/

theorem clanRest_state (s : State) (k : Nat) :
    (s.clanRest k).ve 0x3820 k 0x03 = 0 ∨ (s.clanRest k).ve 0x3820 k 0x03 = 2 := by
  rw [State.clanRest, ve_pute_self]
  split
  · exact .inr rfl
  · exact .inl rfl

/-- A mismatch leaves the tiles of the lanes. -/
theorem verifyMismatch_cjobs (s : State) (k : Nat) : (s.verifyMismatch k).codec.cjobs = s.codec.cjobs := by
  unfold State.verifyMismatch
  extract_lets near s1 codec s2
  have hs1 : s1.codec = s.codec :=
    (State.log_keeps ..).codec_eq.trans ((State.ince_keeps1 ..).codec_eq.trans (State.inc_keeps1 ..).codec_eq)
  have hs2 : s2.codec.cjobs = s.codec.cjobs := by
    change s1.codec.cjobs = s.codec.cjobs
    rw [hs1]
  split
  · rw [(State.showClanes_keeps _).codec_eq, (State.putKept_keeps1 ..).codec_eq, hs2]
  · exact hs2

/-- The lane of a tile that is compressed has no tile, and counts towards its next mismatch (R75). -/
def State.laneFree (s : State) (k : Nat) : State :=
  { s with codec := { s.codec with
    cjobs := s.codec.cjobs.filter (fun x => x.lane != k),
    sinceMismatch := match tget? k s.codec.sinceMismatch with
      | some n => tput k (n + 1) s.codec.sinceMismatch
      | none => s.codec.sinceMismatch } }

/-- The tile is counted, and judged by the verify decoder (R75). -/
def State.laneJudged (s : State) (k : Nat) (mismatch bySize : Bool) : State :=
  let s2 := s.ince 0x3820 k 0x01
  let s3 := if bySize then s2.inc 0x3802 0x09 else s2
  (if mismatch then s3.verifyMismatch k else s3).clanRest k

theorem laneFree_keeps (s : State) (k : Nat) : Keeps ⟨[.codec], []⟩ s (s.laneFree k) :=
  Keeps.upd (.refl _ s) (hc := .inl rfl)

theorem judged_of_counted_keeps (s : State) (k : Nat) (mismatch bySize : Bool) :
    Keeps ⟨[.codec, .memory, .logs], [(0x180002, 0x180002), (0x180101, 0x180103), (0x380104, 0x380104),
      (0x380208, 0x380209), (0x382002, 0x382004), (0x900005, 0x900005)]⟩
      (s.ince 0x3820 k 0x01) (s.laneJudged k mismatch bySize) := by
  unfold State.laneJudged
  refine Keeps.trans ?_ (State.clanRest_keeps ..) (by decide +kernel)
  refine Keeps.optE (Keeps.optE (.refl _ _) fun _ => ?_) fun _ => ?_
  · exact (State.inc_keeps1 ..).mono (by decide +kernel)
  · exact (State.verifyMismatch_keeps ..).mono (by decide +kernel)

theorem laneJudged_cjobs (s : State) (k : Nat) (mismatch bySize : Bool) :
    (s.laneJudged k mismatch bySize).codec.cjobs = s.codec.cjobs := by
  have hcount : (s.ince 0x3820 k 0x01).codec = s.codec := (State.ince_keeps1 ..).codec_eq
  unfold State.laneJudged
  extract_lets s2 s3
  have h3 : s3.codec = s.codec := by
    cases bySize with
    | true => exact ((State.inc_keeps1 s2 0x3802 0x09).codec_eq).trans hcount
    | false => exact hcount
  rw [(State.clanRest_keeps ..).codec_eq]
  cases mismatch with
  | true => exact (verifyMismatch_cjobs s3 k).trans (congrArg Codec.cjobs h3)
  | false => exact congrArg Codec.cjobs h3

/-- COMPRESSION_DONE of a lane's tile: the lane is free, and the result is written or discarded. -/
theorem doCompressionDone_ends {j : CompressJob} (hj : s.codec.cjobs.find? (fun j => j.lane == k) = some j)
    (mismatch : Bool) :
    Keeps ⟨[.ingress, .comp], [(0x300209, 0x30020A), (0x38020A, 0x38020A), (0x400101, 0x400101),
      (0x400205, 0x400205)]⟩ ((s.laneFree k).laneJudged k mismatch j.bySize) (s.doCompressionDone k mismatch) := by
  unfold State.doCompressionDone
  rw [hj]
  refine Keeps.ite (fun _ => ?_) fun _ => (State.inc_keeps1 ..).mono (by decide +kernel)
  refine Keeps.trans (Keeps.upd ?_ (hcm := .inl rfl)) (State.endComposition_keeps ..) (by decide +kernel)
  exact (State.storeResult_keeps ..).mono (by decide +kernel)

/-- What may change once the lane's tile is counted. -/
def laneDoneFoot : Foot :=
  ⟨[.ingress, .codec, .comp, .memory, .logs], [(0x180002, 0x180002), (0x180101, 0x180103), (0x300209, 0x30020A),
    (0x380104, 0x380104), (0x380208, 0x38020A), (0x382002, 0x382004), (0x400101, 0x400101), (0x400205, 0x400205),
    (0x900005, 0x900005)]⟩

/-- The lane's tile is counted, and the lane is idle or fenced without a tile. -/
theorem doCompressionDone_effect {j : CompressJob} (hj : s.codec.cjobs.find? (fun j => j.lane == k) = some j)
    (mismatch : Bool) :
    counted s (s.doCompressionDone k mismatch) 0x3820 k 0x01 ∧
      (∀ x ∈ (s.doCompressionDone k mismatch).codec.cjobs, x.lane ≠ k) ∧
      ((s.doCompressionDone k mismatch).ve 0x3820 k 0x03 = 0 ∨ (s.doCompressionDone k mismatch).ve 0x3820 k 0x03 = 2) := by
  have hends := doCompressionDone_ends hj mismatch
  have hafter : Keeps laneDoneFoot ((s.laneFree k).ince 0x3820 k 0x01) (s.doCompressionDone k mismatch) :=
    ((judged_of_counted_keeps ..).mono (by decide +kernel)).trans hends (by decide +kernel)
  refine ⟨counted_between (laneFree_keeps s k) hafter, fun x hx => ?_, ?_⟩
  · rw [hends.codec_eq, laneJudged_cjobs] at hx
    exact bne_iff_ne.1 (List.mem_filter.1 hx).2
  · rw [hends.ve 0x3820 k 0x03 (by decide +kernel)]
    exact clanRest_state ..

/-! ### The capture ends (R94) -/

/-- A write is served where DRAM answers without an error (R287). -/
theorem dramWrite_served_iff (s : State) (port a : Nat) (bs : Bytes) :
    (s.dramWrite port a bs).1 = true ↔ s.dramFault a bs.length = 0 := by
  unfold State.dramWrite
  extract_lets k
  split
  next h => exact iff_of_true rfl h
  next h =>
    split
    · exact iff_of_false Bool.false_ne_true h
    · exact iff_of_false Bool.false_ne_true h

/-- The capture of a plane with no tile left to write ends, and a served image is shown by its slot and frame. -/
theorem doCaptureDone_ends (hc : s.comp.capturing = true) (hn : s.nextStore.comp = 1)
    (ho : s.comp.open_.all (fun q => queuePlane q != s.comp.capPlane) = true) :
    s.doCaptureDone.comp.capturing = false ∧
      ((s.dramWrite 4 (s.comp.capBase + s.comp.capSlot * (4 * s.mode.h * s.mode.v))
          ((List.range s.mode.v).flatMap (s.captureRow s.mode s.comp.capPlane))).1 = true →
        s.doCaptureDone.v 0x4001 0x05 = s.comp.capSlot ∧ s.doCaptureDone.v 0x4001 0x04 = s.nextStore.contentNo) := by
  unfold State.doCaptureDone
  extract_lets c m image r x xcomp s1 s2
  rw [if_pos ⟨hc, hn, ho⟩]
  have hend := State.endComposition_keeps s2
  have hnext : s1.nextStore = s.nextStore :=
    (nextStore_congr (s := x) (u := s1) rfl).trans (State.dramWrite_keeps s 4 _ image).nextStore_eq
  have hput : Keeps ⟨[], [(0x400104, 0x400105), (0x400207, 0x400207)]⟩ s1
      (((s1.put 0x4001 0x04 s1.nextStore.contentNo).put 0x4001 0x05 c.capSlot).inc 0x4002 0x07) :=
    (((State.put_keeps1 ..).mono (by decide +kernel)).trans (State.put_keeps1 ..) (by decide +kernel)).trans
      (State.inc_keeps1 ..) (by decide +kernel)
  have hcomp : s2.comp = s1.comp := by
    simp only [s2]
    split
    · exact hput.comp_eq
    · rfl
  constructor
  · rw [hend.comp_eq, hcomp]
  · intro hserved
    have hs2 : s2 = ((s1.put 0x4001 0x04 s1.nextStore.contentNo).put 0x4001 0x05 c.capSlot).inc 0x4002 0x07 :=
      if_pos hserved
    rw [hend.v_eq 0x4001 0x05, hend.v_eq 0x4001 0x04, hs2, (State.inc_keeps1 ..).v_eq 0x4001 0x05,
      (State.inc_keeps1 ..).v_eq 0x4001 0x04, v_put_self, (State.put_keeps1 _ 0x4001 0x05 _).v_eq 0x4001 0x04,
      v_put_self, hnext]
    exact ⟨rfl, rfl⟩

end

/-- Settles O42: a composition starts and shows itself, a tile goes to a lane and leaves it, and the capture
ends; each command enters its cycle first, which none of these facts depends on but the wait limit. -/
theorem composition : Obligations.Composition := by
  refine ⟨?_, ?_, ?_, ?_⟩
  · intro s t hc hl hr
    have h := doCompositionStart_starts (s := s.enter t) hc hl hr
    refine ⟨_, rfl, h.symm.imp And.left id, fun h1 => ?_⟩
    exact (h.resolve_left fun h3 => absurd (h1.symm.trans h3) (by decide)).2
  · intro s found q k rest l he ht hk
    exact ⟨_, guarded_next.2 ⟨he, rfl⟩, doCompressStart_starts (s := s.enter found.t) ht hk found.ecc⟩
  · intro s t k mismatch j hk hj
    exact ⟨_, guarded_next.2 ⟨decide_eq_true hk, rfl⟩, doCompressionDone_effect (s := s.enter t) hj mismatch⟩
  · intro s t hc hn ho
    obtain ⟨hends, hshown⟩ := doCaptureDone_ends (s := s.enter t) hc hn ho
    refine ⟨_, rfl, hends, fun hserved => hshown ?_⟩
    rw [dramWrite_served_iff] at hserved ⊢
    exact ((State.enter_keeps s t).dramFault_eq _ _ rfl).trans hserved

end Sys2Proof.Machine
end

section
set_option Elab.async false
namespace Sys2Proof.Machine

/-! ### Plane counts by the number of sub-views (R109) -/

theorem pmax_of_le {m : Mode} {sv : Nat} (h : m.f * sv ≤ 128) : m.pmax sv = 64 :=
  if_pos h

theorem pmax_of_lt {m : Mode} {sv : Nat} (h : 128 < m.f * sv) : m.pmax sv = 32 :=
  if_neg (Nat.not_le.2 h)

/-- Fewer sub-views keep the 64 planes that a greater number of them has. -/
theorem pmax_of_le_subviews {m : Mode} {sv limit : Nat} (hsv : sv ≤ limit) (h : m.f * limit ≤ 128) :
    m.pmax sv = 64 :=
  pmax_of_le ((Nat.mul_le_mul_left m.f hsv).trans h)

/-- Settles O8: 64 × 4 views are more than 128 at the reference tile and 64 × 2 are not; at the small tile the
48 × 2 views of its whole lenslet width are not. -/
theorem planeLimits : Obligations.PlaneLimits := by
  refine ⟨fun m sv => rfl, ?_, fun sv _ hsv => ?_⟩
  · rw [reset_modeSlot_zero]
    exact ⟨pmax_of_lt (by decide), pmax_of_le (by decide), pmax_of_le (by decide)⟩
  · rw [reset_modeSlot_one] at hsv ⊢
    exact pmax_of_le_subviews hsv (by decide)

end Sys2Proof.Machine
end

section
set_option Elab.async false
namespace Sys2Proof.Machine

/-! ### Colour and bit of a slot (R125) -/

section
variable {f j : Nat}

theorem slotColour_even (h : f % 2 = 0) : slotColour f j = j / 10 := if_pos h

theorem slotBit_even (h : f % 2 = 0) : slotBit f j = 9 - j % 10 := if_pos h

theorem slotColour_odd (h : f % 2 = 1) : slotColour f j = 2 - j / 10 :=
  if_neg (by rw [h]; exact Nat.one_ne_zero)

theorem slotBit_odd (h : f % 2 = 1) : slotBit f j = j % 10 :=
  if_neg (by rw [h]; exact Nat.one_ne_zero)

end

/-- Counted from the end, the slots of a fret run through the colours, and through the bits of each. -/
theorem slot_mirrored {j : Nat} (h : j < 30) :
    (29 - j) / 10 = 2 - j / 10 ∧ (29 - j) % 10 = 9 - j % 10 := by omega

theorem even_frets_of_valid {m : Mode} (h : m.valid = true) : m.f % 2 = 0 := by
  simp only [Mode.valid, Bool.and_eq_true, decide_eq_true_eq] at h
  omega

/-- Settles O7: the slots of an odd fret are those of an even one, counted from the end. -/
theorem planesOfASlot : Obligations.PlanesOfASlot := by
  refine ⟨fun f j h => ⟨slotColour_even h, slotBit_even h⟩, fun f j h => ⟨slotColour_odd h, slotBit_odd h⟩,
    fun f g j hf hg hj => ?_, fun m h => even_frets_of_valid h⟩
  obtain ⟨hcolour, hbit⟩ := slot_mirrored hj
  constructor
  · rw [slotColour_odd hg, slotColour_even hf, hcolour]
  · rw [slotBit_odd hg, slotBit_even hf, hbit]
    omega

end Sys2Proof.Machine
end

section
set_option Elab.async false
namespace Sys2Proof.Machine

/-! ### The code of the last direct write (R331) -/

section
variable {F : Foot} {s u : State}

theorem Keeps.mgmt_eq (h : Keeps F s u) (hf : F.parts.contains .mgmt = false := by rfl) : u.mgmt = s.mgmt :=
  h.mgmt.resolve_left (Bool.eq_false_iff.1 hf)

theorem Keeps.lastCode_eq (h : Keeps F s u) (hf : F.parts.contains .mgmt = false := by rfl) :
    u.mgmt.lastCode = s.mgmt.lastCode :=
  congrArg Mgmt.lastCode (h.mgmt_eq hf)

end

/-- What every step leaves alone, the whole run leaves alone. -/
theorem foldl_unchanged {α β : Type} {π : State → β} {f : State → α → State} (h : ∀ x a, π (f x a) = π x)
    (l : List α) (s : State) : π (l.foldl f s) = π s := by
  induction l generalizing s with
  | nil => rfl
  | cons a l ih => exact (ih _).trans (h s a)

theorem queueEvent_lastCode (s : State) (ev : Event) (m : Nat) :
    (s.queueEvent ev m).mgmt.lastCode = s.mgmt.lastCode := by
  unfold State.queueEvent
  split
  · dsimp only
    split
    · rw [inc_mgmt, (State.ince_keeps1 ..).mgmt_eq]
    · rfl
  · rfl

theorem updateHirq_mgmt (s : State) : s.updateHirq.mgmt = s.mgmt := by
  unfold State.updateHirq
  split <;> rfl

/-- Events queue, and leave the code of the last direct write. -/
theorem event_lastCode (s : State) (o e m cause : Nat) :
    (s.event o e m cause).mgmt.lastCode = s.mgmt.lastCode := by
  unfold State.event
  rw [updateHirq_mgmt]
  exact foldl_unchanged (π := fun x => x.mgmt.lastCode) (fun x i => queueEvent_lastCode x _ (i + 1)) _ _

theorem unlock_lastCode (s : State) : s.unlock.mgmt.lastCode = s.mgmt.lastCode := by
  have h1 : (((s.put 0x6801 0x04 0).inc 0x6802 0x06).calEnd).mgmt.lastCode = s.mgmt.lastCode :=
    (State.calEnd_keeps _).lastCode_eq.trans ((State.inc_keeps1 ..).lastCode_eq.trans
      (State.put_keeps1 ..).lastCode_eq)
  unfold State.unlock
  dsimp only
  split
  · split
    · exact (event_lastCode ..).trans h1
    · exact h1
  · rfl

theorem disengage_lastCode (s : State) : s.disengage.mgmt.lastCode = s.mgmt.lastCode := by
  unfold State.disengage
  split
  · exact unlock_lastCode _
  · rfl

theorem droneWheel_lastCode (s : State) : s.droneWheel.mgmt.lastCode = s.mgmt.lastCode := by
  unfold State.droneWheel
  dsimp only
  split
  · exact ((State.putWheel_keeps ..).lastCode_eq).trans (disengage_lastCode s)
  · exact disengage_lastCode s

/-! ### Writes of the timeline's own members (R8, R331) -/

theorem atOnce_of_stopped {s : State} (h : s.displayRuns = false) (o e m : Nat) : s.atOnce o e m = true := by
  simp [State.atOnce, h]

/-- A member of the class now takes its value at once. -/
theorem atOnce_of_now {o e m : Nat} (h : (rowOf o e m).any (fun r => classIn 0 r == 0) = true) (s : State) :
    s.atOnce o e m = true := by
  obtain ⟨r, hr, hcls⟩ := (Option.any_eq_true ..).1 h
  simp only [State.atOnce, hr, hcls, Bool.or_true]

/-- An accepted write from 5000 on that takes effect at once: the act of its unit, and what waited for display to
stop may follow. -/
theorem runs_timelineWrite {c : Instr} {s u : State} {t o e m v : Nat} (he : exec c s = writes t 0 o e m v s)
    (ha : s.acceptsValue t 0 o e m v = true) (hn : s.atOnce o e m = true)
    (hu : (s.acceptedAt t).ownHigh? o e m v = some u)
    (ho : ownedHigh o e m = true := by decide +kernel) : runs c s u.settle := by
  obtain ⟨r, hr⟩ := acceptsValue_row ha
  refine he.trans ?_
  rw [writes, memberWrite_accepted ha, deliver_atOnce hr hn, own_high ho hu]

/-- The same where the act leaves nothing waiting. -/
theorem runs_calmWrite {c : Instr} {s u : State} {t o e m v : Nat} (he : exec c s = writes t 0 o e m v s)
    (ha : s.acceptsValue t 0 o e m v = true) (hn : s.atOnce o e m = true)
    (hu : (s.acceptedAt t).ownHigh? o e m v = some u) (hc : u.calm = true)
    (ho : ownedHigh o e m = true := by decide +kernel) : runs c s u := by
  simpa only [settle_of_calm hc] using runs_timelineWrite he ha hn hu ho

/-- The same where display runs on. -/
theorem runs_writeInDisplay {c : Instr} {s u : State} {t o e m v : Nat} (he : exec c s = writes t 0 o e m v s)
    (ha : s.acceptsValue t 0 o e m v = true) (hn : s.atOnce o e m = true)
    (hu : (s.acceptedAt t).ownHigh? o e m v = some u) (hd : u.displayRuns = true)
    (ho : ownedHigh o e m = true := by decide +kernel) : runs c s u := by
  simpa only [settle_of_displayRuns hd] using runs_timelineWrite he ha hn hu ho

theorem displayRun_now (s : State) : s.atOnce 0x5000 0 0x02 = true := atOnce_of_now (by decide +kernel) s

theorem drone_now (s : State) : s.atOnce 0x5800 0 0x0A = true := atOnce_of_now (by decide +kernel) s

/-! ### What the writes of the timeline come to (R139, R147, R169, R170) -/

theorem displayRuns_of_state {s : State} (h : s.v 0x5001 0x03 = 5) : s.displayRuns = true := by
  simp [State.displayRuns, h]

theorem stopped_of_state {s : State} (h : s.v 0x5001 0x03 = 0 ∨ s.v 0x5001 0x03 = 4) :
    s.displayRuns = false := by
  obtain h | h := h <;> simp [State.displayRuns, h]

theorem state_of_displayRuns {s : State} (h : s.displayRuns = true) :
    s.v 0x5001 0x03 ≠ 0 ∧ s.v 0x5001 0x03 ≠ 4 :=
  ⟨fun h0 => Bool.false_ne_true ((stopped_of_state (.inl h0)).symm.trans h),
    fun h4 => Bool.false_ne_true ((stopped_of_state (.inr h4)).symm.trans h)⟩

/-- A stop that is requested while display runs (R147). -/
theorem requestStop_stops {s : State} (h : s.displayRuns = true) :
    s.requestStop.v 0x5001 0x03 = 5 ∧ s.requestStop.seq.stopDue = true := by
  have h5 : ∀ x : State, (x.put 0x5001 0x03 5).calEnd.v 0x5001 0x03 = 5 := fun x =>
    ((State.calEnd_keeps _).v_eq ..).trans (v_put_self ..)
  rw [State.requestStop, if_pos h]
  refine ⟨h5 _, ?_⟩
  rw [calEnd_seq, put_seq]

/-- Drone mode shows its state (R169). -/
theorem beginDrone_state (s : State) : s.beginDrone.v 0x5001 0x03 = 4 := by
  have h4 : ((s.put 0x5001 0x03 4).panelState 6).takeSlate.v 0x5001 0x03 = 4 :=
    ((State.takeSlate_keeps _).v_eq ..).trans
      (((State.panelState_keeps ..).v_eq ..).trans (v_put_self ..))
  exact ((State.refreshSlate_keeps _).v_eq ..).trans h4

/-- Both halves leave display, and the short form of the clear is due. -/
def State.halvesOut (s : State) : State :=
  let s3 := s.putHalf 0 { s.half 0 with short := true, joined := false }
  s3.putHalf 1 { s3.half 1 with short := true, joined := false }

theorem halvesOut_keeps (s : State) : Keeps ⟨[.panel], []⟩ s s.halvesOut :=
  (State.putHalf_keeps ..).trans (State.putHalf_keeps ..) (Foot.sub_refl _)

/-- What the end of drone mode does once its members show it. -/
theorem endDrone_of_drone {s : State} (h : s.v 0x5001 0x03 = 4) : s.endDrone =
    (((((((s.darken (List.range 16)).put 0x5001 0x03 0).put 0x5800 0x0A 0).panelState 3).dropAllHashes
      0).dropAllHashes 1).halvesOut) := if_pos h

/-- Drone mode ends, and the member that asked for it shows so (R170). -/
theorem endDrone_state {s : State} (h : s.v 0x5001 0x03 = 4) :
    s.endDrone.v 0x5001 0x03 = 0 ∧ s.endDrone.v 0x5800 0x0A = 0 := by
  rw [endDrone_of_drone h]
  generalize s.darken (List.range 16) = x
  have h3 : ((x.put 0x5001 0x03 0).put 0x5800 0x0A 0).v 0x5001 0x03 = 0 :=
    ((State.put_keeps1 ..).v_eq ..).trans (v_put_self ..)
  have hA : ((x.put 0x5001 0x03 0).put 0x5800 0x0A 0).v 0x5800 0x0A = 0 := v_put_self ..
  generalize (x.put 0x5001 0x03 0).put 0x5800 0x0A 0 = y at h3 hA
  have hp : Keeps ⟨[.panel], [(0x580101, 0x580101)]⟩ y (y.panelState 3) :=
    (State.panelState_keeps y 3).mono (by decide +kernel)
  have hd := (hp.trans (State.dropAllHashes_keeps _ 0) (by decide +kernel)).trans
    (State.dropAllHashes_keeps _ 1) (by decide +kernel)
  have hk := hd.trans (halvesOut_keeps _) (by decide +kernel)
  exact ⟨(hk.v_eq ..).trans h3, (hk.v_eq ..).trans hA⟩

section
variable {s : State} {t : Nat}

theorem displayRunStart_runs (ha : s.acceptsValue t 0 0x5000 0 0x02 1 = true) (hc : s.calm = true) :
    ∃ s', runs (.displayRunStart t) s s' ∧ s'.mgmt.lastCode = 0 ∧ s'.v 0x5000 0x02 = 1 :=
  ⟨_, runs_calmWrite rfl ha (displayRun_now s) rfl (calmly_ownRun (s.acceptedAt t) 1 hc).2,
    (State.putKept_keeps1 (s.acceptedAt t) 0x5000 0 0x02 1).lastCode_eq, ve_putKept_self ..⟩

theorem displayRunStop_runs (ha : s.acceptsValue t 0 0x5000 0 0x02 0 = true) (hd : s.displayRuns = true) :
    ∃ s', runs (.displayRunStop t) s s' ∧ s'.mgmt.lastCode = 0 ∧ s'.v 0x5000 0x02 = 0 ∧
      s'.v 0x5001 0x03 = 5 ∧ s'.seq.stopDue = true := by
  have hk := State.putKept_keeps1 (s.acceptedAt t) 0x5000 0 0x02 0
  have hv : ((s.acceptedAt t).putKept 0x5000 0 0x02 0).v 0x5000 0x02 = 0 := ve_putKept_self ..
  have hr : ((s.acceptedAt t).putKept 0x5000 0 0x02 0).displayRuns = true :=
    (displayRuns_congr (hk.v_eq ..)).trans hd
  have hs := State.requestStop_keeps ((s.acceptedAt t).putKept 0x5000 0 0x02 0)
  obtain ⟨h5, hstop⟩ := requestStop_stops hr
  have hown : (s.acceptedAt t).ownRun 0 = ((s.acceptedAt t).putKept 0x5000 0 0x02 0).requestStop := by
    simp only [State.ownRun, if_true]
  exact ⟨_, runs_writeInDisplay rfl ha (displayRun_now s) (congrArg some hown) (displayRuns_of_state h5),
    hs.lastCode_eq.trans hk.lastCode_eq, (hs.v_eq ..).trans hv, h5, hstop⟩

theorem timingMode_runs {v : Nat} (ha : s.acceptsValue t 0 0x5000 0 0x01 v = true)
    (hd : s.displayRuns = false) (hc : s.calm = true) :
    ∃ s', runs (.timingMode t v) s s' ∧ s'.mgmt.lastCode = 0 ∧ s'.v 0x5000 0x01 = v ∧
      s'.v 0x5001 0x04 = v := by
  have hk := State.putKept_keeps1 (s.acceptedAt t) 0x5000 0 0x01 v
  have hv : ((s.acceptedAt t).putKept 0x5000 0 0x01 v).v 0x5000 0x01 = v := ve_putKept_self ..
  have hr : ¬ ((s.acceptedAt t).putKept 0x5000 0 0x01 v).displayRuns = true := by
    rw [displayRuns_congr (hk.v_eq ..)]
    exact Bool.eq_false_iff.1 hd
  have hown : (s.acceptedAt t).ownMode v =
      (((s.acceptedAt t).putKept 0x5000 0 0x01 v).put 0x5001 0x04 v).recomputeReduction.configAll := if_neg hr
  have hput : (((s.acceptedAt t).putKept 0x5000 0 0x01 v).put 0x5001 0x04 v).v 0x5001 0x04 = v := v_put_self ..
  have hshow : Keeps ⟨[.out, .panel, .lanes], [(0x189104, 0x189108), (0x700309, 0x700309),
      (0x701001, 0x701001)]⟩ (((s.acceptedAt t).putKept 0x5000 0 0x01 v).put 0x5001 0x04 v)
      ((s.acceptedAt t).ownMode v) := by
    rw [hown]
    exact ((State.recomputeReduction_keeps _).mono (by decide +kernel)).trans (State.configAll_keeps _)
      (by decide +kernel)
  refine ⟨_, runs_calmWrite rfl ha (atOnce_of_stopped hd ..) rfl (calmly_ownMode (s.acceptedAt t) v hc).2,
    (State.ownMode_keeps (s.acceptedAt t) v).lastCode_eq, ?_, (hshow.v_eq ..).trans hput⟩
  exact (hshow.v_eq ..).trans (((State.put_keeps1 ..).v_eq ..).trans hv)

theorem droneEnter_begins (ha : s.acceptsValue t 0 0x5800 0 0x0A 1 = true) (h0 : s.v 0x5001 0x03 = 0)
    (hc : s.calm = true) :
    ∃ s', runs (.droneEnter t) s s' ∧ s'.mgmt.lastCode = 0 ∧ s'.v 0x5001 0x03 = 4 ∧ s'.v 0x5800 0x0A = 1 := by
  have hst : (s.acceptedAt t).v 0x5001 0x03 = 0 := h0
  have hown : (s.acceptedAt t).ownDrone 1 = ((s.acceptedAt t).put 0x5800 0x0A 1).droneWheel.beginDrone := by
    simp only [State.ownDrone, hst, if_true, OfNat.zero_ne_ofNat, if_false]
  have hw := State.droneWheel_keeps ((s.acceptedAt t).put 0x5800 0x0A 1)
  have hb := State.beginDrone_keeps ((s.acceptedAt t).put 0x5800 0x0A 1).droneWheel
  have hcalm : ((s.acceptedAt t).put 0x5800 0x0A 1).droneWheel.calm = true :=
    (calm_congr hw.seq_eq hw.net_eq).trans hc
  have hv : ((s.acceptedAt t).put 0x5800 0x0A 1).v 0x5800 0x0A = 1 := v_put_self ..
  exact ⟨_, runs_calmWrite rfl ha (drone_now s) (congrArg some hown) (calmly_beginDrone _ hcalm).2,
    hb.lastCode_eq.trans (droneWheel_lastCode _), beginDrone_state _,
    (hb.v_eq ..).trans ((hw.v_eq ..).trans hv)⟩

theorem droneEnter_waits (ha : s.acceptsValue t 0 0x5800 0 0x0A 1 = true) (hd : s.displayRuns = true) :
    ∃ s', runs (.droneEnter t) s s' ∧ s'.mgmt.lastCode = 0 ∧ s'.v 0x5001 0x03 = 5 ∧ s'.seq.droneDue = true := by
  obtain ⟨h0, h4⟩ := state_of_displayRuns (s := s.acceptedAt t) hd
  have hown : (s.acceptedAt t).ownDrone 1 = ({ (s.acceptedAt t).put 0x5800 0x0A 1 with
      seq := { ((s.acceptedAt t).put 0x5800 0x0A 1).seq with droneDue := true } } : State).requestStop := by
    simp only [State.ownDrone, h0, h4, if_true, if_false]
  have hput : ((s.acceptedAt t).put 0x5800 0x0A 1).displayRuns = true :=
    (displayRuns_congr ((State.put_keeps1 ..).v_eq ..)).trans hd
  have hcode : ((s.acceptedAt t).put 0x5800 0x0A 1).mgmt.lastCode = 0 := rfl
  generalize (s.acceptedAt t).put 0x5800 0x0A 1 = y at hown hput hcode
  have hr : ({ y with seq := { y.seq with droneDue := true } } : State).displayRuns = true := hput
  obtain ⟨h5, -⟩ := requestStop_stops hr
  have hk := State.requestStop_keeps { y with seq := { y.seq with droneDue := true } }
  have hq := congrArg Seq.droneDue (onWheel_requestStop { y with seq := { y.seq with droneDue := true } }).seq
  refine ⟨_, runs_writeInDisplay rfl ha (drone_now s) (congrArg some hown) (displayRuns_of_state h5),
    hk.lastCode_eq.trans hcode, h5, hq⟩

theorem droneLeave_ends (ha : s.acceptsValue t 0 0x5800 0 0x0A 0 = true) (h4 : s.v 0x5001 0x03 = 4)
    (hc : s.calm = true) :
    ∃ s', runs (.droneLeave t) s s' ∧ s'.mgmt.lastCode = 0 ∧ s'.v 0x5001 0x03 = 0 ∧ s'.v 0x5800 0x0A = 0 := by
  have hst : (s.acceptedAt t).v 0x5001 0x03 = 4 := h4
  have hown : (s.acceptedAt t).ownDrone 0 = ((s.acceptedAt t).put 0x5800 0x0A 0).endDrone.droneWheelEnds := by
    simp only [State.ownDrone, hst, if_true, Nat.zero_ne_one, if_false]
  have hput : ((s.acceptedAt t).put 0x5800 0x0A 0).v 0x5001 0x03 = 4 := ((State.put_keeps1 ..).v_eq ..).trans hst
  obtain ⟨h0, hA⟩ := endDrone_state hput
  have he := State.endDrone_keeps ((s.acceptedAt t).put 0x5800 0x0A 0)
  have hw := State.droneWheelEnds_keeps ((s.acceptedAt t).put 0x5800 0x0A 0).endDrone
  have hcalm : ((s.acceptedAt t).put 0x5800 0x0A 0).endDrone.droneWheelEnds.calm = true :=
    (calm_congr (hw.seq_eq.trans he.seq_eq) (hw.net_eq.trans he.net_eq)).trans hc
  exact ⟨_, runs_calmWrite rfl ha (drone_now s) (congrArg some hown) hcalm, hw.lastCode_eq.trans he.lastCode_eq,
    (hw.v_eq ..).trans h0, (hw.v_eq ..).trans hA⟩

end

/-- Settles O26: each write reaches the act of its unit at once, and that act shows its effect. -/
theorem displayWrites : Obligations.DisplayWrites :=
  ⟨fun _ _ ha hc => displayRunStart_runs ha hc, fun _ _ ha hd => displayRunStop_runs ha hd,
    fun _ _ _ ha hd hc => timingMode_runs ha hd hc, fun _ _ ha h0 hc => droneEnter_begins ha h0 hc,
    fun _ _ ha hd => droneEnter_waits ha hd, fun _ _ ha h4 hc => droneLeave_ends ha h4 hc⟩

end Sys2Proof.Machine
end

section
set_option Elab.async false
namespace Sys2Proof.Machine

/-! ### What a fret boundary leaves of the timeline (R16, R134) -/

/-- The timeline goes on in its fret: the sequencer but for a requested stop, the fret shown, and display where it
runs. -/
structure FretSteady (s u : State) : Prop where
  seq : u.seq.unstopped = s.seq.unstopped
  fret : u.v 0x5001 0x02 = s.v 0x5001 0x02
  runs : s.displayRuns = true → u.displayRuns = true

namespace FretSteady

variable {F : Foot} {s u w : State}

theorem refl (s : State) : FretSteady s s := ⟨rfl, rfl, id⟩

theorem trans (h : FretSteady s u) (g : FretSteady u w) : FretSteady s w where
  seq := g.seq.trans h.seq
  fret := g.fret.trans h.fret
  runs := g.runs ∘ h.runs

/-- A step that has no part in the timeline. -/
theorem ofKeeps (h : Keeps F s u) (hq : F.parts.contains .seq = false := by rfl)
    (h2 : F.free (mkey 0x5001 0 0x02) = true := by decide +kernel)
    (h3 : F.free (mkey 0x5001 0 0x03) = true := by decide +kernel) : FretSteady s u where
  seq := congrArg Seq.unstopped (h.seq_eq hq)
  fret := h.v_eq _ _ h2
  runs := (displayRuns_congr (h.v_eq _ _ h3)).trans

/-- One more such step. -/
theorem step (h : FretSteady s u) (g : Keeps F u w) (hq : F.parts.contains .seq = false := by rfl)
    (h2 : F.free (mkey 0x5001 0 0x02) = true := by decide +kernel)
    (h3 : F.free (mkey 0x5001 0 0x03) = true := by decide +kernel) : FretSteady s w :=
  h.trans (ofKeeps g hq h2 h3)

theorem ite {c : Prop} [Decidable c] {a b : State} (ha : FretSteady s a) (hb : FretSteady s b) :
    FretSteady s (if c then a else b) := by
  split
  · exact ha
  · exact hb

theorem foldl {α : Type} {f : State → α → State} (h : ∀ x a, FretSteady x (f x a)) (l : List α) (s : State) :
    FretSteady s (l.foldl f s) := by
  induction l generalizing s with
  | nil => exact .refl _
  | cons a l ih => exact (h s a).trans (ih _)

end FretSteady

section
variable (s : State)

/-- A stop that is requested comes at the next nut mark: until then the timeline goes on (R147). -/
theorem fretSteady_requestStop : FretSteady s s.requestStop where
  seq := (onWheel_requestStop s).seq
  fret := (State.requestStop_keeps s).v_eq ..
  runs h := displayRuns_of_state (requestStop_stops h).1

theorem fretSteady_judgeUnits : FretSteady s s.judgeUnits := by
  have hbits : ∀ a b, FretSteady s ((s.putBit 0x1891 0x01 3 a).putBit 0x1891 0x01 4 b) := fun a b =>
    .step (.ofKeeps (State.putBit_keeps1 ..)) (State.putBit_keeps1 ..)
  unfold State.judgeUnits
  exact .ite ((hbits _ _).trans (fretSteady_requestStop _)) (hbits _ _)

theorem fretSteady_showUnits : FretSteady s s.showUnits := by
  unfold State.showUnits
  refine .trans (.step ?_ (State.recomputeReduction_keeps _)) (fretSteady_judgeUnits _)
  exact ((((FretSteady.ofKeeps (State.put_keeps1 ..)).step (State.put_keeps1 ..)).step (State.put_keeps1 ..)).step
    (State.put_keeps1 ..)).step (State.put_keeps1 ..)

/-- A unit that leaves service lets the timeline go on, if with a stop at the next nut mark (R72, R116, R397). -/
theorem fretSteady_fenceUnit {p : Pool} (hp : p.known) (n : Nat) : FretSteady s (s.fenceUnit p n) := by
  have hk := promote_keepsPool (s.pute p.object n 0x01 2) p
  have hfence : FretSteady s (s.pute p.object n 0x01 2) := by
    obtain rfl | rfl := hp <;> exact .ofKeeps (State.pute_keeps1 ..)
  refine (hfence.trans ?_).trans (fretSteady_showUnits _)
  obtain rfl | rfl := hp <;> exact .ofKeeps hk

theorem fretSteady_applyFences : FretSteady s s.applyFences := by
  have h1 : FretSteady s (s.codec.fenceDue.foldl (fun st n => st.fenceUnit dlanes n) s) :=
    .foldl (fun x n => fretSteady_fenceUnit x (.inl rfl) n) _ s
  have h2 := h1.trans (.foldl (fun x n => fretSteady_fenceUnit x (p := engines) (.inr rfl) n) s.ray.fenceDue _)
  exact ⟨h2.seq, h2.fret, h2.runs⟩

/-- A kept member outside 5001 takes its value, and the timeline goes on. -/
theorem fretSteady_putKept {o m : Nat} (e v : Nat) (ho : o < 65536) (hm : m < 256)
    (h : o * 256 + m < 0x500100 ∨ 0x5001FF < o * 256 + m) : FretSteady s (s.putKept o e m v) where
  seq := congrArg Seq.unstopped (putKept_seq ..)
  fret := by
    have hk := State.putKept_keeps1 s o e m v
    rw [Nat.mod_eq_of_lt ho, Nat.mod_eq_of_lt hm] at hk
    exact hk.v_eq 0x5001 0x02 (free_singleton (by
      clear hk; norm_num; omega))
  runs := (displayRuns_putKept s e v ho hm h).trans

end

/-! ### The fret that ends (R140, R143, R145) -/

/-- Which copy is shown, and what waits for an apply point. -/
def Seq.ahead (q : Seq) : Nat × List Pending := (q.copySel, q.pend)

section
variable (s : State)

theorem freeze_ahead (n h x : Nat) : (s.freeze n h x).seq.ahead = s.seq.ahead := by
  unfold State.freeze
  dsimp only
  split
  · rfl
  · simp only [Seq.ahead, apply_ite State.seq, log_seq, event_seq, ince_seq, inc_seq, ite_self]

theorem signHalf_ahead (n f h : Nat) : (s.signHalf n f h).seq.ahead = s.seq.ahead := by
  unfold State.signHalf
  exact foldl_unchanged (π := fun x => x.seq.ahead) (fun x r => freeze_ahead x n h r) _ _

theorem finishFret_ahead : s.finishFret.seq.ahead = s.seq.ahead := by
  have h2 := (signHalf_ahead (s.signHalf s.shownFrame (s.v 0x5001 0x02) 0) s.shownFrame (s.v 0x5001 0x02) 1).trans
    (signHalf_ahead s s.shownFrame (s.v 0x5001 0x02) 0)
  unfold State.finishFret
  dsimp only [List.foldl_cons, List.foldl_nil]
  revert h2
  generalize State.signHalf _ _ _ 1 = x
  exact id

theorem cutFret_ahead : s.cutFret.seq.ahead = s.seq.ahead := by
  unfold State.cutFret
  extract_lets s1 s2 q
  have h1 : s1.seq = s.seq :=
    (State.emits_keeps ..).seq_eq.trans ((State.cutSamples_keeps ..).seq_eq.trans (inc_seq ..))
  have h2 : s2.seq = s1.seq :=
    foldl_unchanged (π := State.seq) (fun x h => (State.closeLoad_keeps x h []).seq_eq) _ _
  have h3 : s2.seq.ahead = s.seq.ahead := congrArg Seq.ahead (h2.trans h1)
  exact h3

/-- The next boundary cuts the fret on display (R140). -/
def State.fretEarly : Bool :=
  !s.seq.inGap && s.target?.isSome && decide (s.now < s.seq.fretStart + s.figures.fretPeriod)

/-- The fret on display has been judged, and cut where the boundary is early; freeze blanking follows it. -/
def State.fretClosed : State := (if s.fretEarly then s.fretOver.cutFret else s.fretOver).freezeBlanking

/-- What the end of a fret leaves alone. -/
structure FretEnded (s u : State) : Prop where
  ahead : u.seq.ahead = s.seq.ahead
  now : u.now = s.now
  state : u.v 0x5001 0x03 = s.v 0x5001 0x03

theorem FretEnded.trans {s u w : State} (h : FretEnded s u) (g : FretEnded u w) : FretEnded s w where
  ahead := g.ahead.trans h.ahead
  now := g.now.trans h.now
  state := g.state.trans h.state

theorem fretOver_ended : FretEnded s s.fretOver := by
  have hk := State.finishFret_keeps s
  unfold State.fretOver
  split
  · exact ⟨rfl, rfl, rfl⟩
  · exact ⟨finishFret_ahead s, hk.now_eq, hk.v_eq ..⟩

theorem fretClosed_ended : FretEnded s s.fretClosed := by
  have hcut : FretEnded s.fretOver s.fretOver.cutFret :=
    ⟨cutFret_ahead _, (State.cutFret_keeps _).now_eq, (State.cutFret_keeps _).v_eq ..⟩
  have hblank : ∀ x : State, FretEnded x x.freezeBlanking := fun _ => ⟨rfl, rfl, rfl⟩
  unfold State.fretClosed
  refine .trans ?_ (hblank _)
  split
  · exact (fretOver_ended s).trans hcut
  · exact fretOver_ended s

/-! ### The fret that begins (R16, R21, R134) -/

/-- The next fret is shown, from the other copy. -/
def State.fretShown : State :=
  ({ s.fretClosed with seq := { s.fretClosed.seq with
      copySel := 1 - s.fretClosed.seq.copySel, fret := s.nextFret, fretStart := s.fretClosed.now, inGap := false,
      slot := 0, slots := 0, shownA := [], shownB := [], found := [], odd := false } } : State).put 0x5001 0x02
    s.nextFret

/-- What follows at a boundary once the fret-class values have taken effect. -/
def State.fretRest (f : Nat) : State :=
  let sf := s.retireBanks.fretPanel.fretBridge
  let s4 := if f = 0 then sf.calRamps else sf
  if f + 1 < s4.figures.f then s4.openWindow (s4.v 0x5001 0x01) (f + 1) else s4

theorem fretBegin_eq : s.fretBegin = (s.fretShown.applyFences.applyClass 1).fretRest s.nextFret := rfl

end

/-- The next fret of `s` is displayed from the other copy, with the items of `l` waiting. -/
structure FretBegun (s : State) (l : List Pending) (u : State) : Prop where
  runs : u.displayRuns = true
  shown : u.v 0x5001 0x02 = s.nextFret
  fret : u.seq.fret = s.nextFret
  start : u.seq.fretStart = s.now
  gap : u.seq.inGap = false
  slots : u.seq.slots = 0
  copy : u.seq.copySel = 1 - s.seq.copySel
  pend : u.seq.pend = l

theorem FretBegun.stays {s u w : State} {l : List Pending} (h : FretBegun s l u) (g : FretSteady u w) :
    FretBegun s l w where
  runs := g.runs h.runs
  shown := g.fret.trans h.shown
  fret := (congrArg Seq.fret g.seq).trans h.fret
  start := (congrArg Seq.fretStart g.seq).trans h.start
  gap := (congrArg Seq.inGap g.seq).trans h.gap
  slots := (congrArg Seq.slots g.seq).trans h.slots
  copy := (congrArg Seq.copySel g.seq).trans h.copy
  pend := (congrArg Seq.pend g.seq).trans h.pend

section
variable {s : State}

theorem fretShown_begun (hd : s.displayRuns = true) : FretBegun s s.seq.pend s.fretShown := by
  obtain ⟨ha, hn, h3⟩ := fretClosed_ended s
  simp only [Seq.ahead, Prod.mk.injEq] at ha
  obtain ⟨hc, hp⟩ := ha
  have hv : s.fretShown.v 0x5001 0x02 = s.nextFret := v_put_self ..
  have h3' : s.fretShown.v 0x5001 0x03 = s.fretClosed.v 0x5001 0x03 := (State.put_keeps1 _ 0x5001 0x02 _).v_eq ..
  exact {
    runs := (displayRuns_congr (h3'.trans h3)).trans hd
    shown := hv
    fret := rfl
    start := hn
    gap := rfl
    slots := rfl
    copy := congrArg (1 - ·) hc
    pend := hp }

/-- Without a fret-class value nothing takes effect. -/
theorem applyClass_of_none (h : s.seq.pend.all (fun p => p.cls != 1) = true) : s.applyClass 1 = s := by
  have h1 : s.seq.pend.filter (fun p => p.cls == 1) = [] :=
    List.filter_eq_nil_iff.2 fun p hp => by simpa using List.all_eq_true.1 h p hp
  have hn : s.seq.pend.filter (fun p => p.cls != 1) = s.seq.pend := List.filter_eq_self.2 (List.all_eq_true.1 h)
  simp only [State.applyClass, h1, hn, ownAll_nil]

/-- One plain fret-class value takes effect. -/
theorem applyClass_of_plain {x : State} {p : Pending} (hp : s.seq.pend = [p]) (hc : p.cls = 1)
    (hm : plainMember x p.object p.element p.member p.value = true) :
    s.applyClass 1 = ({ s with seq := { s.seq with pend := [] } } : State).putKept p.object p.element p.member
      p.value := by
  simp only [State.applyClass, hp, List.filter_cons, hc, beq_self_eq_true, bne_self_eq_false, if_true,
    Bool.false_eq_true, if_false, List.filter_nil]
  exact (ownAll_singleton _ p).trans (own_plain (x := p.item) p.master hm)

end

/-! ### What follows the fret-class values (R161, R199, R268, R384) -/

/-- The trims of a string are its members 08 to 0A (R193). -/
theorem trimMember_cases (a : Nat) : trimMember a = 0x08 ∨ trimMember a = 0x09 ∨ trimMember a = 0x0A := by
  unfold trimMember
  split
  · exact .inl rfl
  · split
    · exact .inr (.inl rfl)
    · exact .inr (.inr rfl)

/-- What falls due at the bridge changes the gains and the trims of strings, and none of their leads. -/
theorem fretBridge_keepsLeads (s : State) :
    Keeps ⟨[.bridge], [(0x60020A, 0x60020A), (0x601007, 0x60100A), (0x602003, 0x602003)]⟩ s s.fretBridge := by
  have htrim : ∀ (x : State) n a v, Keeps ⟨[.bridge], [(0x60020A, 0x60020A), (0x601007, 0x60100A),
      (0x602003, 0x602003)]⟩ x (x.pute 0x6010 n (trimMember a) v) := fun x n a v => by
    obtain h | h | h := trimMember_cases a
    all_goals
      rw [h]
      exact (State.pute_keeps1 ..).mono (by decide +kernel)
  unfold State.fretBridge
  dsimp only
  refine .foldl (.foldl ((State.applyReleases_keeps s).mono (by decide +kernel)) fun x c => ?_) fun x n => ?_
  · split
    · exact (((State.putCourse_keeps ..).mono (by decide +kernel)).trans (State.pute_keeps1 ..)
        (by decide +kernel)).trans (State.inc_keeps1 ..) (by decide +kernel)
    · exact .refl _ _
  · refine .optT ?_ fun _ => (State.putStr_keeps ..).mono (by decide +kernel)
    split
    · refine .trans ?_ (htrim ..) (Foot.sub_refl _)
      split
      · exact (State.pute_keeps1 ..).mono (by decide +kernel)
      · exact .refl _ _
    · split
      · exact (State.pute_keeps1 ..).mono (by decide +kernel)
      · exact .refl _ _

/-- What a boundary may change once the fret-class values have taken effect. -/
def fretRestFoot : Foot :=
  ⟨[.codec, .ray, .panel, .bridge, .memory, .logs],
    [(0x180002, 0x180002), (0x180101, 0x180103), (0x283102, 0x283102), (0x580100, 0x5801FF), (0x581202, 0x581202),
      (0x60020A, 0x60020A), (0x601007, 0x60100A), (0x602003, 0x602003), (0x780103, 0x780104), (0x780203, 0x780203),
      (0x781001, 0x781003), (0x900005, 0x900005)]⟩

theorem fretRest_keeps (s : State) (f : Nat) : Keeps fretRestFoot s (s.fretRest f) := by
  have hbanks : Keeps fretRestFoot s s.retireBanks := (State.retireBanks_keeps s).mono (by decide +kernel)
  have hsf := (hbanks.trans (State.fretPanel_keeps _) (by decide +kernel)).trans (fretBridge_keepsLeads _)
    (by decide +kernel)
  unfold State.fretRest
  refine .optE (.optE hsf fun _ => ?_) fun _ => ?_
  · exact (State.calRamps_keeps _).mono (by decide +kernel)
  · exact (State.openWindow_keeps ..).mono (by decide +kernel)

/-- No member that masters write lies there, but for a bank's fence. -/
theorem rwRows_apartFromRest : (memberRows.all fun r =>
    r.acc != .rw || r.object == 0x7810 && r.first == 2 && r.last == 2 || fretRestFoot.keys.all fun q =>
      decide (r.object * 256 + r.last < q.1) || decide (q.2 < r.object * 256 + r.first)) = true := by
  decide +kernel

/-- The fence of a bank goes to the act of its unit (R268). -/
theorem plainMember_bankFence (s : State) (e v : Nat) : plainMember s 0x7810 e 2 v = false := by
  unfold plainMember
  split
  · exact Bool.and_false _
  · rfl

/-- A plain member stands through what follows the fret-class values. -/
theorem plainMember_apartFromRest {s : State} {o e m v : Nat} (h : plainMember s o e m v = true) :
    fretRestFoot.free (mkey o 0 m) = true := by
  obtain ⟨r, hr, ha, -, -⟩ := plainMember_row h
  obtain ⟨hmem, hob, hf, hl, ho, -, hm⟩ := rowOf_some hr
  have hap := List.all_eq_true.1 rwRows_apartFromRest r hmem
  simp only [ha, bne_self_eq_false, Bool.false_or, Bool.or_eq_true, Bool.and_eq_true, beq_iff_eq] at hap
  obtain ⟨⟨h7, h2⟩, h2'⟩ | hap := hap
  · obtain rfl : m = 2 := by omega
    obtain rfl : o = 0x7810 := hob.symm.trans h7
    exact absurd h (by rw [plainMember_bankFence]; exact Bool.false_ne_true)
  · refine List.all_eq_true.2 fun q hq => ?_
    have hq := List.all_eq_true.1 hap q hq
    simp only [Bool.or_eq_true, decide_eq_true_eq, keyCode, keyObject_mkey, keyMember_mkey, hob,
      Nat.mod_eq_of_lt ho, Nat.mod_eq_of_lt hm] at hq ⊢
    omega

/-! ### Fret boundaries (R134, R140, R213) -/

section
variable {s : State} {t : Nat} {glide : Bool}

/-- The boundary that comes next, in glide or outside it. -/
theorem doFret_of_due (hr : s.seq.running = true) (ho : s.seq.overlap = false) (hg : s.target?.isSome = glide)
    (hf : s.nextFret < s.figures.f) (he : glide = true → s.edgeReached = true) :
    s.doFret glide = s.fretBegin.settle := by
  have hedge : (!glide || s.edgeReached) = true := by
    cases glide
    · rfl
    · exact he rfl
  simp only [State.doFret, hr, ho, hg, hf, hedge, beq_self_eq_true, decide_true, Bool.not_false, Bool.and_self,
    if_true]

/-- The fences that wait have taken effect in the fret that begins. -/
theorem fretFenced_begun (hd : s.displayRuns = true) : FretBegun s s.seq.pend s.fretShown.applyFences :=
  (fretShown_begun hd).stays (fretSteady_applyFences _)

/-- A boundary at which no fret-class value waits. -/
theorem fretBegin_undisturbed (hd : s.displayRuns = true) (hp : s.seq.pend.all (fun p => p.cls != 1) = true) :
    FretBegun s s.seq.pend s.fretBegin := by
  have hb := fretFenced_begun hd
  rw [fretBegin_eq, applyClass_of_none (by rw [hb.pend]; exact hp)]
  exact hb.stays (.ofKeeps (fretRest_keeps ..))

/-- A boundary at which one plain fret-class value takes effect. -/
theorem fretBegin_applies {x : State} {p : Pending} (hd : s.displayRuns = true) (hp : s.seq.pend = [p])
    (hc : p.cls = 1) (hm : plainMember x p.object p.element p.member p.value = true) :
    FretBegun s [] s.fretBegin ∧ s.fretBegin.ve p.object p.element p.member = p.value := by
  obtain ⟨-, hout, ho, hmb⟩ := plainMember_apart hm
  have hb := fretFenced_begun hd
  have hclass := applyClass_of_plain (hb.pend.trans hp) hc hm
  rw [fretBegin_eq, hclass]
  generalize s.fretShown.applyFences = y at hb
  have h0 : FretBegun s [] { y with seq := { y.seq with pend := [] } } := { hb with pend := rfl }
  have hk := fretRest_keeps (State.putKept { y with seq := { y.seq with pend := [] } } p.object p.element p.member
    p.value) s.nextFret
  refine ⟨(h0.stays (fretSteady_putKept _ _ _ ho hmb hout)).stays (.ofKeeps hk), ?_⟩
  exact (hk.ve _ _ _ (plainMember_apartFromRest hm)).trans (ve_putKept_self ..)

theorem fretBegin_runs {c : Instr} {l : List Pending} (hc : exec c s = .next ((s.enter t).doFret glide))
    (hr : s.seq.running = true) (ho : s.seq.overlap = false) (hg : s.target?.isSome = glide)
    (hf : s.nextFret < s.figures.f) (he : glide = true → (s.enter t).edgeReached = true)
    (hb : FretBegun (s.enter t) l (s.enter t).fretBegin) : runs c s (s.enter t).fretBegin := by
  have hd := doFret_of_due (s := s.enter t) hr ho hg hf he
  rw [settle_of_displayRuns hb.runs] at hd
  exact hc.trans (congrArg _ hd)

end

/-! ### Overdue boundaries (R144) -/

section
variable (s : State) (n h x : Nat)

/-- What a freeze may change before and after its own count. -/
def freezeFoot : Foot :=
  ⟨[.out, .seq, .memory, .clock, .mgmt, .logs], [(0x101107, 0x101107), (0x103003, 0x103003), (0x180002, 0x180002),
    (0x180101, 0x180103), (0x500205, 0x500205), (0x900005, 0x900005)]⟩

theorem freeze_of_found {s : State} {h x : Nat} (hf : (h, x) ∈ s.seq.found) : s.freeze n h x = s :=
  if_pos (List.contains_iff_mem.2 hf)

/-- A freeze that has not been found yet counts once, with nothing else of its object. -/
theorem freeze_split {s : State} {h x : Nat} (hf : (h, x) ∉ s.seq.found) :
    ∃ y, Keeps freezeFoot s y ∧ Keeps freezeFoot (y.ince 0x5011 h (3 + x)) (s.freeze n h x) := by
  refine ⟨if s.seq.found.any fun r => r.1 == h then s else s.inc 0x5002 0x05, ?_, ?_⟩
  · exact .ite (fun _ => .refl _ s) fun _ => (State.inc_keeps1 ..).mono (by decide +kernel)
  · unfold State.freeze
    rw [if_neg (mt List.contains_iff_mem.1 hf)]
    dsimp only
    generalize State.ince _ 0x5011 h (3 + x) = y
    have he : Keeps freezeFoot y (y.event 0x5011 h (3 + x) x) := (State.event_keeps ..).mono (by decide +kernel)
    exact .upd (.optT he fun _ => (State.log_keeps ..).mono (by decide +kernel)) (hsq := .inl rfl)

theorem freeze_seq_of_new {s : State} {h x : Nat} (hf : (h, x) ∉ s.seq.found) :
    (s.freeze n h x).seq.found = (h, x) :: s.seq.found ∧ (s.freeze n h x).seq.frozeNow = true := by
  unfold State.freeze
  rw [if_neg (mt List.contains_iff_mem.1 hf)]
  simp only [apply_ite State.seq, log_seq, event_seq, ince_seq, inc_seq, ite_self, and_self]

theorem freeze_found : (h, x) ∈ (s.freeze n h x).seq.found := by
  by_cases hf : (h, x) ∈ s.seq.found
  · rwa [freeze_of_found n hf]
  · rw [(freeze_seq_of_new n hf).1]
    exact List.mem_cons_self

theorem freeze_found_grows {r : Nat × Nat} (hr : r ∈ s.seq.found) : r ∈ (s.freeze n h x).seq.found := by
  by_cases hf : (h, x) ∈ s.seq.found
  · rwa [freeze_of_found n hf]
  · rw [(freeze_seq_of_new n hf).1]
    exact List.mem_cons_of_mem _ hr

/-- A freeze of one engine that has not been found yet counts there. -/
theorem freeze_counted {s : State} {h x : Nat} (hx : x < 5) (hf : (h, x) ∉ s.seq.found) :
    counted s (s.freeze n h x) 0x5011 h (3 + x) := by
  obtain ⟨y, hy, hu⟩ := freeze_split n hf
  have hfree : freezeFoot.free (mkey 0x5011 0 (3 + x)) = true := by
    interval_cases x <;> decide +kernel
  exact counted_between hy hu hfree hfree

/-- A freeze of the one engine leaves the counts of the other. -/
theorem ve_freeze_other {k : Nat} (hk : k < 2) (hh : h < 2) (hne : k ≠ h) (hx : x < 5) :
    (s.freeze n h x).ve 0x5011 k 0x06 = s.ve 0x5011 k 0x06 := by
  by_cases hf : (h, x) ∈ s.seq.found
  · rw [freeze_of_found n hf]
  · obtain ⟨y, hy, hu⟩ := freeze_split n hf
    obtain ⟨v, i, ha⟩ := adde_cases y 0x5011 h (3 + x) 1
    have hmk : mkey 0x5011 k 0x06 ≠ mkey 0x5011 h (3 + x) := by unfold mkey; omega
    rw [hu.ve _ _ _ (by decide +kernel), State.ince, ha, ve_pute_ne hmk]
    exact hy.ve _ _ _ (by decide +kernel)

end

theorem doOverdue_of_running {s : State} (hr : s.seq.running = true) (ht : s.target?.isNone = true) :
    s.doOverdue = (s.freeze s.shownFrame 0 3).freeze s.shownFrame 1 3 := by
  simp only [State.doOverdue, hr, ht, Bool.and_self, if_true, List.foldl_cons, List.foldl_nil]

/-- An overdue boundary is a freeze of both engines, each counted once where none was found in the fret. -/
theorem doOverdue_freezes {s : State} (hr : s.seq.running = true) (ht : s.target?.isNone = true) :
    (0, 3) ∈ s.doOverdue.seq.found ∧ (1, 3) ∈ s.doOverdue.seq.found ∧
      (s.seq.found = [] → s.doOverdue.seq.frozeNow = true ∧ counted s s.doOverdue 0x5011 0 0x06 ∧
        counted s s.doOverdue 0x5011 1 0x06) := by
  rw [doOverdue_of_running hr ht]
  generalize s.shownFrame = n
  refine ⟨freeze_found_grows _ _ _ _ (freeze_found ..), freeze_found .., fun hf => ?_⟩
  have hnew0 : (0, 3) ∉ s.seq.found := by simp [hf]
  have hnew1 : (1, 3) ∉ (s.freeze n 0 3).seq.found := by simp [(freeze_seq_of_new n hnew0).1, hf]
  have h0 := freeze_counted n (by decide) hnew0
  have h1 := freeze_counted n (by decide) hnew1
  have hv0 := ve_freeze_other (s.freeze n 0 3) n 1 3 (k := 0) (by decide) (by decide) (by decide) (by decide)
  have hv1 := ve_freeze_other s n 0 3 (k := 1) (by decide) (by decide) (by decide) (by decide)
  refine ⟨(freeze_seq_of_new n hnew1).2, fun hroom => hv0.trans (h0 hroom), fun hroom => ?_⟩
  rw [← hv1] at hroom ⊢
  exact h1 hroom

/-! ### Plane slots (R18, R143) -/

/-- Slot `j` has begun: every half that latches shows it. -/
def State.slotBegun (s : State) : State :=
  { s with seq := { s.seq with
      slot := s.seq.slots, slots := s.seq.slots + 1,
      odd := s.seq.odd || (s.target?.isNone && s.now != s.seq.fretStart + s.figures.slotStart s.seq.slots),
      shownA := if s.latching 0 then s.seq.shownA ++ [s.seq.slots] else s.seq.shownA,
      shownB := if s.latching 1 then s.seq.shownB ++ [s.seq.slots] else s.seq.shownB } }

theorem doSlot_of_due {s : State} (hr : s.seq.running = true) (hg : s.seq.inGap = false) (hj : s.seq.slots < 30)
    (ecc : List Ecc) : s.doSlot ecc =
      (((s.slotBegun.eccAll ecc).slotResets).slotLoad (s.v 0x5001 0x02) s.seq.slots ecc).slotBridge
        (s.v 0x5001 0x02) s.seq.slots := by
  unfold State.doSlot
  dsimp only
  rw [if_pos (by simp only [hr, hg, hj, decide_true, Bool.not_false, Bool.and_self])]
  rfl

/-- What a slot does once it has begun leaves the timeline. -/
theorem doSlot_steady {s : State} (hr : s.seq.running = true) (hg : s.seq.inGap = false) (hj : s.seq.slots < 30)
    (ecc : List Ecc) : (s.doSlot ecc).seq = s.slotBegun.seq := by
  rw [doSlot_of_due hr hg hj, (State.slotBridge_keeps ..).seq_eq, (State.slotLoad_keeps ..).seq_eq,
    (State.slotResets_keeps _).seq_eq, (State.eccAll_keeps ..).seq_eq]

/-! ### The synthesis deadline (R20) -/

theorem doDeadline_closes {s : State} (h : s.ray.window = true) :
    s.doDeadline.ray.window = false ∧ s.doDeadline.codec.window = false := by
  unfold State.doDeadline
  rw [if_pos h]
  exact ⟨rfl, rfl⟩

theorem doSynthesisDeadline_closes {s : State} (h : s.ray.window = true) :
    s.doSynthesisDeadline.ray.window = false ∧ s.doSynthesisDeadline.codec.window = false := by
  have hl : ∀ (x : State) c, (x.loadPlane c 0 0 []).ray = x.ray ∧ (x.loadPlane c 0 0 []).codec = x.codec := by
    intro x c
    have hk := State.loadPlane_keeps x c 0 0 []
    exact ⟨hk.ray.resolve_left (by decide), hk.codec_eq⟩
  unfold State.doSynthesisDeadline
  dsimp only
  split
  · rw [(hl ..).1, (hl ..).2]
    exact doDeadline_closes h
  · exact doDeadline_closes h

/-! ### The start of display (R147, R395) -/

/-- Display has started at `t` in a mode slot: the timeline stands in the nut gap of its first frame, and copy 1
counts as shown (the model's choice where R21 is silent, log entry 89). -/
structure DisplayBegun (slot t : Nat) (u : State) : Prop where
  state : u.v 0x5001 0x03 = 1
  mode : u.v 0x5001 0x04 = slot
  running : u.seq.running = true
  gap : u.seq.inGap = true
  copy : u.seq.copySel = 1
  start : u.seq.frameStart = t

theorem DisplayBegun.stays {slot t : Nat} {F : Foot} {s u : State} (h : DisplayBegun slot t s) (g : Keeps F s u)
    (hq : F.parts.contains .seq = false := by rfl) (h3 : F.free (mkey 0x5001 0 0x03) = true := by decide +kernel)
    (h4 : F.free (mkey 0x5001 0 0x04) = true := by decide +kernel) : DisplayBegun slot t u where
  state := (g.v_eq _ _ h3).trans h.state
  mode := (g.v_eq _ _ h4).trans h.mode
  running := (congrArg Seq.running (g.seq_eq hq)).trans h.running
  gap := (congrArg Seq.inGap (g.seq_eq hq)).trans h.gap
  copy := (congrArg Seq.copySel (g.seq_eq hq)).trans h.copy
  start := (congrArg Seq.frameStart (g.seq_eq hq)).trans h.start

/-- The timeline at the start, once the factor and the members of its mode are set (R403). -/
theorem displayBegun_of_fresh (y : State) (slot k : Nat) : DisplayBegun slot y.now
    ((({ y.freshTimeline.forgetPilots with seq := { y.freshTimeline.forgetPilots.seq with factor := k } } :
      State).put 0x5001 0x04 slot).put 0x5001 0x03 1) := by
  have hq : y.freshTimeline.forgetPilots.seq = y.freshTimeline.seq := (State.forgetPilots_keeps _).seq_eq
  generalize y.freshTimeline.forgetPilots = x at hq
  have h4 : ∀ z : State, (z.put 0x5001 0x04 slot).v 0x5001 0x04 = slot := fun _ => v_put_self ..
  exact {
    state := v_put_self ..
    mode := ((State.put_keeps1 ..).v_eq ..).trans (h4 _)
    running := (congrArg Seq.running hq :)
    gap := (congrArg Seq.inGap hq :)
    copy := (congrArg Seq.copySel hq :)
    start := (congrArg Seq.frameStart hq :) }

/-- What the start of display may change after its first decision. -/
def startFoot : Foot :=
  ⟨[.out, .ingress, .codec, .ray, .panel, .lanes, .memory, .logs],
    [(0x180002, 0x180002), (0x180101, 0x180103), (0x480101, 0x480104), (0x480106, 0x480108), (0x480203, 0x480205),
      (0x580100, 0x5801FF), (0x580201, 0x580201), (0x580203, 0x580204), (0x580209, 0x580209), (0x70020C, 0x70020C),
      (0x700309, 0x700309), (0x701001, 0x701001), (0x900005, 0x900005)]⟩

/-- Display starts, its first frame is decided on, and what follows that lets the timeline and the decision stand. -/
theorem doDisplayStart_decides {s : State} (h : s.canStart = true) :
    ∃ x, DisplayBegun (s.v 0x5000 0x01) s.now x ∧
      Keeps startFoot ((x.put 0x5001 0x07 2).put 0x5001 0x08 0) s.doDisplayStart := by
  unfold State.doDisplayStart
  rw [if_pos h]
  extract_lets slot counted s1 k q s2 s3
  have hn : (if counted then s else s.advanceFrame).now = s.now := by
    split
    · rfl
    · exact (State.advanceFrame_keeps s).now_eq
  have h2 : DisplayBegun slot s.now s2 := hn ▸ displayBegun_of_fresh _ slot k
  have h3 : DisplayBegun slot s.now s3 :=
    ((h2.stays (State.put_keeps1 ..)).stays (State.releaseAll_keeps ..)).stays (State.recomputeReduction_keeps _)
  clear_value s3
  have hj := h3.stays (State.judgeNext_keeps s3 (s3.wallAt? s3.now))
  generalize s3.judgeNext (s3.wallAt? s3.now) = p at hj ⊢
  obtain ⟨d, s4⟩ := p
  dsimp -zeta only
  extract_lets s5 i s6 s7 s8
  have h6 : Keeps startFoot s5 s6 := Keeps.upd (.refl _ s5) (hi := .inl rfl)
  have h7 : Keeps startFoot s5 s7 :=
    (h6.trans (State.chooseViews_keeps ..) (by decide +kernel)).trans (State.openWindow_keeps ..) (by decide +kernel)
  have h8 : Keeps startFoot s5 s8 := .foldl h7 fun x n =>
    ((State.startClear_keeps x n shortForm).mono (by decide +kernel)).trans (State.putHalf_keeps ..) (by decide +kernel)
  exact ⟨s4, hj, (h8.trans (State.nutPanel_keeps _) (by decide +kernel)).trans (State.setReceivers_keeps _)
    (by decide +kernel)⟩

/-- Display starts, with the start shown as its decision and no repeats counted (R147). -/
theorem doDisplayStart_begins {s : State} (h : s.canStart = true) :
    DisplayBegun (s.v 0x5000 0x01) s.now s.doDisplayStart ∧ s.doDisplayStart.v 0x5001 0x07 = 2 ∧
      s.doDisplayStart.v 0x5001 0x08 = 0 := by
  obtain ⟨x, hx, hk⟩ := doDisplayStart_decides h
  have h7 : (x.put 0x5001 0x07 2).v 0x5001 0x07 = 2 := v_put_self ..
  have h7' : ((x.put 0x5001 0x07 2).put 0x5001 0x08 0).v 0x5001 0x07 = 2 := ((State.put_keeps1 ..).v_eq ..).trans h7
  have h8 : ((x.put 0x5001 0x07 2).put 0x5001 0x08 0).v 0x5001 0x08 = 0 := v_put_self ..
  have hp := (hx.stays (State.put_keeps1 x 0x5001 0x07 2)).stays (State.put_keeps1 _ 0x5001 0x08 0)
  exact ⟨hp.stays hk, (hk.v_eq ..).trans h7', (hk.v_eq ..).trans h8⟩

/-- Settles O33: a boundary begins the next fret from the other copy, an overdue one is a freeze of both engines, and
the slots, the deadline and the start of display act on the timeline as they say. -/
theorem fretsAndSlots : Obligations.FretsAndSlots := by
  refine ⟨fun s t hr ho hg hf hd hp => ?_, fun s t hr ho hg hf he hd hp => ?_, fun s t hr ht => ?_,
    fun s t p hr ho hg hf hd hp hc hm => ?_, fun s t ecc he hr hg hj => ?_, fun s t hw => ?_, fun s t hs => ?_⟩
  · have hb := fretBegin_undisturbed (s := s.enter t) hd hp
    exact ⟨_, fretBegin_runs rfl hr ho hg hf nofun hb, hb.shown, hb.fret, hb.start, hb.gap, hb.slots, hb.copy,
      hb.pend⟩
  · have hb := fretBegin_undisturbed (s := s.enter t) hd hp
    exact ⟨_, fretBegin_runs rfl hr ho hg hf (fun _ => he) hb, hb.shown, hb.fret, hb.start, hb.gap, hb.copy⟩
  · obtain ⟨h0, h1, hnew⟩ := doOverdue_freezes (s := s.enter t) hr ht
    exact ⟨_, rfl, h0, h1, hnew, (State.doOverdue_keeps (s.enter t)).v_eq 0x5001 0x02⟩
  · obtain ⟨hb, hv⟩ := fretBegin_applies (s := s.enter t) hd hp hc hm
    exact ⟨_, fretBegin_runs rfl hr ho hg hf nofun hb, hv, hb.pend⟩
  · have hq := doSlot_steady (s := s.enter t) hr hg hj ecc
    exact ⟨_, guarded_next.2 ⟨he, rfl⟩, congrArg Seq.slots hq, congrArg Seq.slot hq, congrArg Seq.shownA hq,
      congrArg Seq.shownB hq, (State.doSlot_keeps (s.enter t) ecc).v_eq 0x5001 0x02⟩
  · exact ⟨_, rfl, doSynthesisDeadline_closes (s := s.enter t) hw⟩
  · obtain ⟨hb, h7, h8⟩ := doDisplayStart_begins hs
    exact ⟨_, rfl, hb.state, hb.running, hb.mode, h7, h8, hb.gap, hb.copy, hb.start⟩

end Sys2Proof.Machine
end

section
set_option Elab.async false
namespace Sys2Proof.Machine

/-! ### Bits of members -/

/-- A number with bit `k` set, around that bit. -/
theorem eq_of_testBit {v k : Nat} (h : v.testBit k = true) :
    v = 2 ^ (k + 1) * (v / 2 ^ (k + 1)) + (2 ^ k + v % 2 ^ k) := by
  rw [Nat.testBit_eq_decide_div_mod_eq, decide_eq_true_eq] at h
  have hq : v / 2 ^ k = 2 * (v / 2 ^ (k + 1)) + 1 := by
    rw [Nat.pow_succ, ← Nat.div_div_eq_div_mul]
    omega
  calc v = 2 ^ k * (v / 2 ^ k) + v % 2 ^ k := (Nat.div_add_mod ..).symm
    _ = 2 ^ (k + 1) * (v / 2 ^ (k + 1)) + (2 ^ k + v % 2 ^ k) := by rw [hq]; ring

theorem testBit_setBit (v k j : Nat) (b : Bool) :
    (setBit v k b).testBit j = if j = k then b else v.testBit j := by
  cases b with
  | true =>
    simp only [setBit, if_true, Nat.testBit_or, Nat.testBit_two_pow]
    split
    · simp [*]
    · simp [Ne.symm ‹_›]
  | false =>
    simp only [setBit, Bool.false_eq_true, if_false]
    split
    next h =>
      have hv := eq_of_testBit h
      have hr : v % 2 ^ k < 2 ^ k := Nat.mod_lt _ (Nat.two_pow_pos k)
      generalize v / 2 ^ (k + 1) = q at hv
      generalize v % 2 ^ k = r at hv hr
      have hw : v - 2 ^ k = 2 ^ (k + 1) * q + r := by omega
      have hs : 2 ^ k + r < 2 ^ (k + 1) := by rw [Nat.pow_succ]; omega
      rw [hw, hv, Nat.testBit_two_pow_mul_add _ (by omega), Nat.testBit_two_pow_mul_add _ hs]
      obtain hj | rfl | hj := lt_trichotomy j k
      · simp [hj.ne, Nat.lt_succ_of_lt hj, Nat.testBit_two_pow_add_gt hj]
      · simp [Nat.testBit_lt_two_pow hr]
      · simp [hj.ne', Nat.not_lt.2 (Nat.succ_le_of_lt hj)]
    next h =>
      split
      next hj => rw [hj, Bool.eq_false_iff.2 h]
      next => rfl

section
variable (s : State) (o m : Nat)

@[simp] theorem bit_putBit_self (k : Nat) (b : Bool) : (s.putBit o m k b).bit o m k = b := by
  simp [State.bit, State.putBit, testBit_setBit]

theorem bit_putBit_ne {j k : Nat} (h : j ≠ k) (b : Bool) : (s.putBit o m k b).bit o m j = s.bit o m j := by
  simp [State.bit, State.putBit, testBit_setBit, h]

end

theorem bit_congr {s u : State} {o m : Nat} (h : u.v o m = s.v o m) (k : Nat) : u.bit o m k = s.bit o m k :=
  congrArg (fun v => v.testBit k) h

end Sys2Proof.Machine
end

section
set_option Elab.async false
namespace Sys2Proof.Machine

/-! ### The halves beside their loads (R150 to R163) -/

theorem Keeps.panel_eq {F : Foot} {s u : State} (h : Keeps F s u)
    (hf : F.parts.contains .panel = false := by rfl) : u.panel = s.panel :=
  h.panel.resolve_left (Bool.eq_false_iff.1 hf)

/-- A half but for its load, its row hashes and its band. -/
def Half.standing (x : Half) : Half := { x with load := 0, hashes := [], rows := [], band := 0 }

/-- The panel but for the loads, row hashes and bands of its halves: what the blocks of a load, a FILL, a CONFIG
or a RESET leave as it was. -/
def State.standing (s : State) : Panel :=
  { s.panel with halfA := s.panel.halfA.standing, halfB := s.panel.halfB.standing }

section
variable {F : Foot} {s u : State}

theorem Keeps.standing_eq (h : Keeps F s u) (hf : F.parts.contains .panel = false := by rfl) :
    u.standing = s.standing := by
  rw [State.standing, h.panel_eq hf, State.standing]

theorem half_congr (h : u.panel = s.panel) (k : Nat) : u.half k = s.half k := by
  rw [State.half, h, State.half]

theorem half_standing (h : u.standing = s.standing) (k : Nat) :
    (u.half k).standing = (s.half k).standing := by
  unfold State.half
  split
  · exact congrArg Panel.halfA h
  · exact congrArg Panel.halfB h

@[simp] theorem half_putHalf_self (s : State) (h : Nat) (x : Half) : (s.putHalf h x).half h = x := by
  unfold State.putHalf State.half
  split <;> rfl

theorem half_putHalf_ne {h k : Nat} (hh : h < 2) (hk : k < 2) (hne : k ≠ h) (s : State) (x : Half) :
    (s.putHalf h x).half k = s.half k := by
  unfold State.putHalf State.half
  by_cases h0 : h = 0
  · rw [if_pos h0, if_neg (h0 ▸ hne), if_neg (h0 ▸ hne)]
  · have hk0 : k = 0 := by omega
    rw [if_neg h0, if_pos hk0, if_pos hk0]

@[simp] theorem faulted_putHalf (s : State) (h : Nat) (x : Half) :
    (s.putHalf h x).panel.faulted = s.panel.faulted := by
  unfold State.putHalf
  split <;> rfl

theorem standing_putHalf_congr {h : Nat} {x y : Half} (hs : u.standing = s.standing)
    (hx : x.standing = y.standing) : (u.putHalf h x).standing = (s.putHalf h y).standing := by
  unfold State.putHalf
  split
  · exact congrArg₂ (fun (p : Panel) (z : Half) => { p with halfA := z }) hs hx
  · exact congrArg₂ (fun (p : Panel) (z : Half) => { p with halfB := z }) hs hx

theorem putHalf_half (s : State) (h : Nat) : s.putHalf h (s.half h) = s := by
  unfold State.putHalf State.half
  split <;> rfl

/-- A half that stands as it did. -/
theorem standing_putHalf {h : Nat} {x : Half} (hx : x.standing = (s.half h).standing) :
    (s.putHalf h x).standing = s.standing := by
  rw [standing_putHalf_congr rfl hx, putHalf_half]

end

end Sys2Proof.Machine
end

section
set_option Elab.async false
namespace Sys2Proof.Machine

/-! ### What the blocks of the panel leave (R150 to R163) -/

/-- A key that a table does not list. -/
theorem tget?_eq_none {α : Type} {k : Nat} {l : Tbl α} (h : ∀ e ∈ l, e.1 ≠ k) : tget? k l = none := by
  induction l with
  | nil => rfl
  | cons e l ih =>
    obtain ⟨he, hl⟩ := List.forall_mem_cons.1 h
    exact (if_neg (Ne.symm he)).trans (ih hl)

/-- Entries set at other keys. -/
theorem tget?_foldl_tput {α : Type} {k : Nat} {l : Tbl α} (h : ∀ e ∈ l, e.1 ≠ k) (t : Tbl α) :
    tget? k (l.foldl (fun (t : Tbl α) e => tput e.1 e.2 t) t) = tget? k t := by
  induction l generalizing t with
  | nil => rfl
  | cons e l ih =>
    obtain ⟨he, hl⟩ := List.forall_mem_cons.1 h
    exact (ih hl _).trans (tget?_tput_ne (Ne.symm he) ..)

section
variable (s : State) (h : Nat)

/-- The end of a load: no row is under way, and a row that was not delivered has no hash (R154). -/
theorem closeLoad_panel (late : List Nat) : ∃ hashes : Tbl Nat,
    (s.closeLoad h late).panel = (s.putHalf h { s.half h with hashes := hashes, rows := [] }).panel ∧
      ∀ r ∈ late, r ∈ (s.half h).rows.map Prod.fst → tget? r hashes = none := by
  unfold State.closeLoad
  extract_lets x n queued bad lost kept hashes s1 s2
  refine ⟨hashes, ?_, fun r hr hrow => ?_⟩
  · have h2 : s2.panel = s1.panel := by
      unfold s2
      split
      · rfl
      · exact (State.inc_keeps1 ..).panel_eq.trans (State.add_keeps1 ..).panel_eq
    refine (foldl_unchanged (π := State.panel) (fun y l => (State.putGroup_keeps ..).panel_eq) _ _).trans ?_
    exact h2.trans (State.add_keeps1 ..).panel_eq
  · have hbad : bad r = true := by simp [bad, hr]
    have hlost : r ∈ lost := List.mem_filter.2 ⟨hrow, hbad⟩
    have hkept : ∀ e ∈ kept, e.1 ≠ r := by
      rintro e he rfl
      simpa [hbad] using (List.mem_filter.1 he).2
    have hold : ∀ e ∈ x.hashes.filter fun e => !(lost.contains e.1), e.1 ≠ r := by
      rintro e he rfl
      simpa [hlost] using (List.mem_filter.1 he).2
    exact (tget?_foldl_tput hkept _).trans (tget?_eq_none hold)

theorem standing_closeLoad (late : List Nat) : (s.closeLoad h late).standing = s.standing := by
  obtain ⟨hashes, hp, -⟩ := closeLoad_panel s h late
  have hs : (s.putHalf h { s.half h with hashes := hashes, rows := [] }).standing = s.standing :=
    standing_putHalf rfl
  rw [← hs, State.standing, hp, State.standing]

/-- What ends a load before another one, or before a park. -/
theorem standing_loadEnded : ((s.closeLoad h []).flushLanes h).standing = s.standing :=
  (State.flushLanes_keeps ..).standing_eq.trans (standing_closeLoad s h [])

theorem standing_dropAllHashes : (s.dropAllHashes h).standing = s.standing :=
  standing_putHalf rfl

theorem standing_applyBand : (s.applyBand h).standing = s.standing :=
  standing_putHalf rfl

theorem standing_sendConfig : (s.sendConfig h).standing = s.standing :=
  (standing_dropAllHashes ..).trans (State.sendPanel_keeps ..).standing_eq

theorem standing_sendFill (v : Byte) : (s.sendFill h v).standing = s.standing := by
  have hp := fun lanes payload => (State.sendPanel_keeps s lanes payload).standing_eq
  unfold State.sendFill
  extract_lets s1
  split
  · refine (standing_putHalf ?_).trans (hp ..)
    rfl
  · exact (standing_dropAllHashes ..).trans (hp ..)

theorem standing_sendReset : (s.sendReset h).standing = s.standing := by
  unfold State.sendReset
  extract_lets s1
  have h1 : s1.standing = s.standing := by
    unfold s1
    split
    · exact standing_applyBand s h
    · rfl
  refine (State.flushLanes_keeps ..).standing_eq.trans ?_
  split
  · exact (State.sendBlock_keeps ..).standing_eq.trans h1
  · exact h1

theorem standing_load (all : Bool) (data : Nat → Bytes) : (s.load h all data).standing = s.standing := by
  unfold State.load
  extract_lets s0 x n m p d skip rows forced sent s1
  have h0 : s0.standing = s.standing := standing_loadEnded s h
  have h1 : s1.standing = s.standing := by
    refine ((State.add_keeps1 ..).standing_eq.trans (standing_putHalf ?_)).trans h0
    rfl
  split
  · exact h0
  · refine (foldl_unchanged (π := State.standing) (fun y k => ?_) _ _).trans h1
    dsimp only
    split
    · exact (State.loadLane_keeps ..).standing_eq
    · rfl

/-- The waveform tables that go out have no part in the halves (R164). -/
theorem half_sendWaves (k : Nat) : s.sendWaves.half k = s.half k := by
  unfold State.sendWaves
  split
  · exact half_congr (foldl_unchanged (π := State.panel) (fun y x => (State.sendWave_keeps y x).panel_eq) _ _) k
  · rfl

/-- A half at the beginning of clear-before-light (R166). -/
def Half.cleared (x : Half) (count : Nat) : Half :=
  { x with park := 0, dstep := 0, clearing := true, clearLeft := count, clearTotal := count, lack := false }

theorem standing_cleared {x y : Half} (hx : x.standing = y.standing) (count : Nat) :
    (x.cleared count).standing = (y.cleared count).standing :=
  congrArg (fun z : Half => z.cleared count) hx

theorem standing_startClear (count : Nat) :
    (s.startClear h count).standing = (s.putHalf h ((s.half h).cleared count)).standing := by
  unfold State.startClear
  extract_lets s1 x s2 s3
  have h1 : s1.standing = s.standing := (State.putClear_keeps ..).standing_eq.trans (standing_closeLoad s h [])
  have h2 : s2.standing = (s.putHalf h ((s.half h).cleared count)).standing :=
    standing_putHalf_congr h1 (standing_cleared (half_standing h1 h) count)
  have h3 : s3.standing = s2.standing :=
    calc s3.standing = (((s2.sendConfig h).sendFill h 0#8).sendBias h).standing := standing_sendReset ..
      _ = ((s2.sendConfig h).sendFill h 0#8).standing := (State.sendBias_keeps ..).standing_eq
      _ = (s2.sendConfig h).standing := standing_sendFill ..
      _ = s2.standing := standing_sendConfig ..
  split
  · exact h3.trans h2
  · exact (State.panelState_keeps ..).standing_eq.trans (h3.trans h2)

theorem faulted_startClear (count : Nat) : (s.startClear h count).panel.faulted = s.panel.faulted :=
  (congrArg Panel.faulted (standing_startClear s h count)).trans (faulted_putHalf s h ((s.half h).cleared count))

end

/-! ### The slate (R169) -/

theorem refreshSlate_darkUntil (s : State) : s.refreshSlate.panel.darkUntil = s.refreshEnd := by
  have hd : (s.droneDark s.refreshEnd).panel.darkUntil = s.refreshEnd := rfl
  unfold State.refreshSlate
  extract_lets x m slate
  have hx : ∀ (y : State) (h : Nat), ((((y.applyBand h).load h true fun r =>
      mreads slate (r * m.rowBytes + h * (m.hb / 8)) (m.hb / 8)).advancePhase h).sendReset h).standing =
      y.standing := fun y h => by
    calc _ = ((y.applyBand h).load h true _).standing :=
        (standing_sendReset ..).trans (State.advancePhase_keeps ..).standing_eq
      _ = y.standing := (standing_load ..).trans (standing_applyBand y h)
  exact (congrArg Panel.darkUntil (foldl_unchanged (π := State.standing) hx x.droneHalves x)).trans hd

end Sys2Proof.Machine
end

section
set_option Elab.async false
namespace Sys2Proof.Machine

/-! ### Rails (R165, R168) -/

/-- The panel but for its rail sequence: what a step of the rails leaves as it was. -/
def State.unrailed (s : State) : Panel := { s.panel with rail := 0, railNo := 0 }

theorem Keeps.unrailed_eq {F : Foot} {s u : State} (h : Keeps F s u)
    (hf : F.parts.contains .panel = false := by rfl) : u.unrailed = s.unrailed := by
  rw [State.unrailed, h.panel_eq hf, State.unrailed]

theorem half_unrailed {s u : State} (h : u.unrailed = s.unrailed) (k : Nat) : u.half k = s.half k := by
  have ha : u.unrailed.halfA = s.unrailed.halfA := congrArg Panel.halfA h
  have hb : u.unrailed.halfB = s.unrailed.halfB := congrArg Panel.halfB h
  unfold State.half
  split
  · exact ha
  · exact hb

theorem faulted_unrailed {s u : State} (h : u.unrailed = s.unrailed) : u.panel.faulted = s.panel.faulted :=
  (congrArg Panel.faulted h : u.unrailed.faulted = s.unrailed.faulted)

section
variable (s : State)

theorem pgGood_panel (n : Nat) : (s.pgGood n).panel =
    { s.panel with rail := if n = 3 then 0 else 2, railNo := if n = 3 then 0 else n } := by
  unfold State.pgGood
  split
  · exact (State.bringUpPanel_keeps _).panel_eq
  · rfl

theorem unrailed_pgGood (n : Nat) : (s.pgGood n).unrailed = s.unrailed := by
  rw [State.unrailed, pgGood_panel, State.unrailed]

theorem unrailed_railEnable (n : Nat) : (s.railEnable n).unrailed = s.unrailed := by
  unfold State.railEnable
  extract_lets s1
  split
  · exact unrailed_pgGood ..
  · rfl

theorem unrailed_railsOn : s.railsOn.unrailed = s.unrailed := by
  unfold State.railsOn
  split
  · rfl
  · exact (unrailed_railEnable ..).trans (State.panelState_keeps ..).unrailed_eq

theorem unrailed_railsOff : s.railsOff.unrailed = s.unrailed :=
  (unrailed_railsOn _).trans (State.panelState_keeps ..).unrailed_eq

theorem unrailed_railRelease (kind : Nat) : (s.railRelease kind).unrailed = s.unrailed := by
  unfold State.railRelease
  extract_lets en
  split
  · exact unrailed_railsOff s
  · extract_lets s1
    split
    · exact unrailed_railsOff s1
    · rfl

/-- The rails go down: both halves count as parked, and the discharge steps stand. -/
theorem half_railsDown {k : Nat} (hk : k < 2) (kind : Nat) : (s.railsDown kind).half k =
    { s.half k with needFull := true, park := 3, clearing := false } := by
  unfold State.railsDown
  dsimp only
  rw [half_unrailed (unrailed_railRelease _ kind)]
  obtain rfl | rfl : k = 0 ∨ k = 1 := by omega
  · rfl
  · rfl

end
end Sys2Proof.Machine
end

section
set_option Elab.async false
namespace Sys2Proof.Machine

/-! ### Park and discharge (R167) -/

/-- How far a half's park has come. -/
def Half.parking (x : Half) : Nat × Nat := (x.park, x.dstep)

/-- Parking one half, of which those in `biased` are under bias. -/
def State.parkOne (biased : List Nat) (s : State) (h : Nat) : State :=
  let s1 := ((s.closeLoad h []).flushLanes h).putClear h false
  let x := s1.half h
  let y := { x with joined := false, clearing := false, clearLeft := 0 }
  if biased.contains h then
    (s1.putHalf h { y with park := 1, dstep := 0, both := decide (biased.length = 2) }).sendPanel
      (s1.topLane h) [0x04#8, 0#8, 0#8, 0#8, 0xFF#8] |>.dropAllHashes h
  else s1.putHalf h y

section
variable (s : State)

theorem park_eq (hs : List Nat) :
    s.park hs = hs.foldl (State.parkOne (hs.filter fun h => (s.half h).park == 0)) s := rfl

/-- A half that is not under bias, or not the one that parks, goes on as it was. -/
theorem parking_parkOne {biased : List Nat} {h k : Nat} (hh : h < 2) (hk : k < 2) (hb : k ∉ biased) :
    ((s.parkOne biased h).half k).parking = (s.half k).parking := by
  unfold State.parkOne
  extract_lets s1 x y
  have h1 : s1.standing = s.standing := (State.putClear_keeps ..).standing_eq.trans (standing_loadEnded s h)
  have hs1 : (s1.half k).standing.parking = (s.half k).standing.parking :=
    congrArg Half.parking (half_standing h1 k)
  by_cases hkh : k = h
  · subst hkh
    rw [if_neg (by simpa using hb), half_putHalf_self]
    exact hs1
  · split
    · rw [State.dropAllHashes, half_putHalf_ne hh hk hkh, half_congr (State.sendPanel_keeps ..).panel_eq,
        half_putHalf_ne hh hk hkh]
      exact hs1
    · rw [half_putHalf_ne hh hk hkh]
      exact hs1

/-- A park for a stop leaves a half that is parked already where it is. -/
theorem parking_stopPark {k : Nat} (hk : k < 2) (hp : (s.half k).park ≠ 0) :
    (s.stopPark.half k).parking = (s.half k).parking := by
  unfold State.stopPark
  split
  · have hb : k ∉ [0, 1].filter fun h => (s.half h).park == 0 := fun hm =>
      hp (beq_iff_eq.1 (List.mem_filter.1 hm).2)
    simp only [park_eq]
    exact (parking_parkOne _ (by decide) hk hb).trans (parking_parkOne _ (by decide) hk hb)
  · rfl

/-- What follows the discharge of both halves leaves a discharged half so. -/
theorem parking_parked {k : Nat} (hk : k < 2) (hp : (s.half k).park = 3) :
    (s.parked.half k).parking = (s.half k).parking := by
  have hdown : ∀ kind, ((s.railsDown kind).half k).parking = (s.half k).parking := fun kind => by
    rw [half_railsDown s hk kind, Half.parking, Half.parking, hp]
  unfold State.parked
  extract_lets a b
  split
  · split
    · exact hdown 4
    · split
      · exact hdown 3
      · rw [half_congr (State.panelState_keeps ..).panel_eq]
  · rfl

/-- A discharge step that is not the last one. -/
theorem discharge_steps {h : Nat} (hd : (s.half h).dstep < 4) :
    ((s.discharge h).half h).parking = (2, (s.half h).dstep + 1) := by
  unfold State.discharge
  extract_lets x steps mask
  have hs : x.dstep < steps := hd.trans_le (by unfold steps; split <;> decide)
  rw [if_pos hs, half_congr (State.sendPanel_keeps ..).panel_eq, half_putHalf_self]
  rfl

/-- The discharge ends. -/
theorem discharge_ends {h : Nat} (hh : h < 2) (hd : 8 ≤ (s.half h).dstep) :
    ((s.discharge h).half h).parking = (3, 0) := by
  unfold State.discharge
  extract_lets x steps mask
  have hs : ¬ x.dstep < steps := Nat.not_lt.2 (le_trans (by unfold steps; split <;> decide) hd)
  have hhalf : ((s.putHalf h { x with park := 3, dstep := 0 }).sleepHalf h).half h =
      { x with park := 3, dstep := 0 } := by
    rw [half_congr (State.sleepHalf_keeps ..).panel_eq, half_putHalf_self]
  rw [if_neg hs, parking_parked _ hh (by rw [hhalf]), hhalf]
  rfl

end
end Sys2Proof.Machine
end

section
set_option Elab.async false
namespace Sys2Proof.Machine

/-! ### Panel faults (R167) -/

theorem Keeps.bridge_eq {F : Foot} {s u : State} (h : Keeps F s u)
    (hf : F.parts.contains .bridge = false := by rfl) : u.bridge = s.bridge :=
  h.bridge.resolve_left (Bool.eq_false_iff.1 hf)

/-- A source that blanks every string is noted (R188). -/
theorem mem_blank_blankAll (s : State) (src : Nat) : src ∈ (s.blankAll src).bridge.blank := by
  unfold State.blankAll
  split
  next h =>
    rw [Bool.and_eq_true] at h
    exact List.contains_iff_mem.1 h.1
  next =>
    have hb : (((s.holdDark src).put 0x6001 0x03 src).inc 0x6002 0x01).bridge = (s.holdDark src).bridge :=
      (State.inc_keeps1 ..).bridge_eq.trans (State.put_keeps1 ..).bridge_eq
    change src ∈ (((s.holdDark src).put 0x6001 0x03 src).inc 0x6002 0x01).bridge.blank
    rw [hb]
    exact List.mem_append_right _ (List.mem_singleton_self src)

/-- The strings are dark and the halves park. -/
def State.faultParked (s : State) : State := (s.endDrone.blankAll 5).park [0, 1]

/-- The fault is shown, counted in a member of 5802 and logged. -/
def State.faultNoted (s : State) (m : Nat) : State :=
  (((s.faultParked.put 0x5801 0x01 7).inc 0x5802 m).log (domSpec domPort 8 1 1 0x5802 0 m))

section
variable (s : State) (m : Nat)

theorem faultParked_keeps : Keeps ⟨[.out, .panel, .bridge, .lanes, .health],
    [(0x500103, 0x500103), (0x58000A, 0x58000A), (0x580101, 0x580101), (0x580105, 0x580105), (0x580201, 0x580201),
      (0x580203, 0x580204), (0x600103, 0x600103), (0x600201, 0x600201), (0x70020C, 0x70020C), (0x700309, 0x700309),
      (0x701001, 0x701001)]⟩ s s.faultParked :=
  (((State.endDrone_keeps s).mono (by decide +kernel)).trans (State.blankAll_keeps ..) (by decide +kernel)).trans
    (State.park_keeps ..) (by decide +kernel)

theorem panelFault_eq {s : State} (h : s.panel.faulted = false) : s.panelFault m =
    (({ s.faultNoted m with panel := { (s.faultNoted m).panel with faulted := true } } : State).dropAllHashes
      0).dropAllHashes 1 :=
  if_neg (Bool.eq_false_iff.1 h)

theorem panelFault_keepsNoted {s : State} (h : s.panel.faulted = false) :
    Keeps ⟨[.panel], []⟩ (s.faultNoted m) (s.panelFault m) := by
  rw [panelFault_eq m h]
  exact ((Keeps.upd (.refl _ _) (hp := .inl rfl)).trans (State.dropAllHashes_keeps ..) (by decide +kernel)).trans
    (State.dropAllHashes_keeps ..) (by decide +kernel)

/-- A panel fault is shown, and blanks every string. -/
theorem panelFault_shown {s : State} (h : s.panel.faulted = false) :
    (s.panelFault m).panel.faulted = true ∧ (s.panelFault m).v 0x5801 0x01 = 7 ∧
      5 ∈ (s.panelFault m).bridge.blank := by
  have hk := panelFault_keepsNoted m h
  have hlog := State.log_keeps ((s.faultParked.put 0x5801 0x01 7).inc 0x5802 m) (domSpec domPort 8 1 1 0x5802 0 m)
  refine ⟨?_, ?_, ?_⟩
  · rw [panelFault_eq m h]
    rfl
  · exact (hk.v_eq ..).trans ((hlog.v_eq ..).trans (((State.inc_keepsO ..).v_eq ..).trans (v_put_self ..)))
  · have hb : (s.panelFault m).bridge = (s.endDrone.blankAll 5).bridge :=
      calc (s.panelFault m).bridge = (s.faultNoted m).bridge := hk.bridge_eq
        _ = ((s.faultParked.put 0x5801 0x01 7).inc 0x5802 m).bridge := hlog.bridge_eq
        _ = s.faultParked.bridge := (State.inc_keeps1 ..).bridge_eq.trans (State.put_keeps1 ..).bridge_eq
        _ = (s.endDrone.blankAll 5).bridge := (State.park_keeps ..).bridge_eq
    rw [hb]
    exact mem_blank_blankAll ..

/-- The kinds of fault that are counted here: STATUS (07) and power-good (08). -/
theorem panelFault_counted {s : State} (h : s.panel.faulted = false) (hm : m = 7 ∨ m = 8) :
    counted s (s.panelFault m) 0x5802 0 m := by
  have hx : Keeps ⟨[.out, .panel, .bridge, .lanes, .health], [(0x500103, 0x500103), (0x58000A, 0x58000A),
      (0x580101, 0x580101), (0x580105, 0x580105), (0x580201, 0x580201), (0x580203, 0x580204), (0x600103, 0x600103),
      (0x600201, 0x600201), (0x70020C, 0x70020C), (0x700309, 0x700309), (0x701001, 0x701001)]⟩ s
      (s.faultParked.put 0x5801 0x01 7) := (faultParked_keeps s).trans (State.put_keeps1 ..) (by decide +kernel)
  have hu : Keeps ⟨[.panel, .memory, .logs], [(0x180002, 0x180002), (0x180101, 0x180103), (0x900005, 0x900005)]⟩
      ((s.faultParked.put 0x5801 0x01 7).inc 0x5802 m) (s.panelFault m) :=
    ((State.log_keeps ..).mono (by decide +kernel)).trans (panelFault_keepsNoted m h) (by decide +kernel)
  obtain rfl | rfl := hm
  · exact counted_between hx hu
  · exact counted_between hx hu

end

/-- Where the display state stands, the wheel has nothing to follow. -/
theorem wheelFollows_of_stays {s u : State} (h : u.v 0x5001 0x03 = s.v 0x5001 0x03) : u.wheelFollows s = u :=
  if_neg fun ⟨h4, h0⟩ => absurd (h4.symm.trans (h.symm.trans h0)) (by decide)

/-- Where nothing waits, the wheel alone follows a fault of the panel. -/
theorem wheelFollows_keepsCalm {u : State} (hc : u.calm = true) (s : State) :
    Keeps ⟨[.loop], [(0x680101, 0x680101), (0x680103, 0x680103)]⟩ u (u.wheelFollows s) :=
  (calmly_wheelFollows u s hc).1

end Sys2Proof.Machine
end

section
set_option Elab.async false
namespace Sys2Proof.Machine

/-! ### Commands that name a unit of the panel -/

section
variable {c : Instr} {s u : State}

/-- A command that names a half. -/
theorem runs_half {half : Nat} (hh : half < 2) (he : exec c s = guarded (halfOk half) u) : runs c s u :=
  he.trans (guarded_next.2 ⟨decide_eq_true hh, rfl⟩)

/-- A command that names a rail. -/
theorem runs_rail {n : Nat} (hn : n < 4) (he : exec c s = guarded (decide (n < 4)) u) : runs c s u :=
  he.trans (guarded_next.2 ⟨decide_eq_true hn, rfl⟩)

end

/-- What a step counts is counted between two steps that leave the counter alone. -/
theorem counted_within {F G : Foot} {s x y u : State} {o e m : Nat} (h : Keeps F s x) (hc : counted x y o e m)
    (g : Keeps G y u) (hF : F.free (mkey o 0 m) = true := by decide +kernel)
    (hG : G.free (mkey o 0 m) = true := by decide +kernel) : counted s u o e m := fun hroom => by
  have hx : x.ve o e m = s.ve o e m := h.ve o e m hF
  rw [g.ve o e m hG, hc (by rwa [hx]), hx]

/-! ### Power-good inputs (R165, R167, R393) -/

section
variable {s : State} {n : Nat}

/-- A power-good that comes while its rail does not wait for it is shown, and nothing follows. -/
theorem pgLevel_shown (hc : (s.transitions (1 + n) 1).chatters (1 + n) = false)
    (hr : ¬(s.panel.rail = 1 ∧ s.panel.railNo = n)) :
    s.pgLevel n true = (s.transitions (1 + n) 1).putBit 0x5801 0x04 n true := by
  have hp : ((s.transitions (1 + n) 1).putBit 0x5801 0x04 n true).panel = s.panel :=
    (State.transitions_keeps ..).panel_eq
  simp only [State.pgLevel, hc, hp, Bool.not_true, Bool.or_self, Bool.false_eq_true, if_false, if_neg hr]

/-- The power-good that a rail waits for. -/
theorem pgLevel_good (hc : (s.transitions (1 + n) 1).chatters (1 + n) = false)
    (hr : s.panel.rail = 1 ∧ s.panel.railNo = n) :
    s.pgLevel n true = ((s.transitions (1 + n) 1).putBit 0x5801 0x04 n true).pgGood n := by
  have hp : ((s.transitions (1 + n) 1).putBit 0x5801 0x04 n true).panel = s.panel :=
    (State.transitions_keeps ..).panel_eq
  simp only [State.pgLevel, hc, hp, Bool.not_true, Bool.or_self, Bool.false_eq_true, if_false, if_pos hr]

/-- A power-good that chatters counts as power not good. -/
theorem pgLevel_chatters (hc : (s.transitions (1 + n) 1).chatters (1 + n) = true) :
    s.pgLevel n true = (s.transitions (1 + n) 1).pgLost n := by
  simp only [State.pgLevel, hc, Bool.or_true, if_true]

theorem pgLevel_falls : s.pgLevel n false = (s.transitions (1 + n) 1).pgLost n := rfl

/-- A power-good that was not given, or whose enable is not asserted, is lost without a fault. -/
theorem pgLost_harmless (h : s.bit 0x5801 0x04 n = false ∨ s.bit 0x5801 0x04 (4 + n) = false) :
    s.pgLost n = s.putBit 0x5801 0x04 n false := by
  have hne : 4 + n ≠ n := by omega
  refine if_neg fun hb => ?_
  rw [bit_putBit_ne _ _ _ hne] at hb
  obtain h | h := h <;> simp [h] at hb

/-- The loss of a power-good while its enable is asserted is a fault. -/
theorem pgLost_faults (hg : s.bit 0x5801 0x04 n = true) (he : s.bit 0x5801 0x04 (4 + n) = true) :
    s.pgLost n = (s.putBit 0x5801 0x04 n false).panelFault 0x08 := by
  have hne : 4 + n ≠ n := by omega
  exact if_pos ⟨hg, (bit_putBit_ne _ _ _ hne _).trans he⟩

end

/-- What the transition of an input leaves of the members that the rails, the faults and display show. -/
theorem transitions_bit (s : State) (i c k : Nat) : (s.transitions i c).bit 0x5801 0x04 k = s.bit 0x5801 0x04 k :=
  bit_congr ((State.transitions_keeps ..).v_eq ..) k

/-- A power-good that changes no more than its bit. -/
theorem pgShown_stays (s : State) (t n : Nat) (b : Bool) :
    ((((s.enter t).transitions (1 + n) 1).putBit 0x5801 0x04 n b).wheelFollows s).bit 0x5801 0x04 n = b ∧
    ((((s.enter t).transitions (1 + n) 1).putBit 0x5801 0x04 n b).wheelFollows s).panel = s.panel := by
  have h3 : (((s.enter t).transitions (1 + n) 1).putBit 0x5801 0x04 n b).v 0x5001 0x03 = s.v 0x5001 0x03 :=
    ((State.putBit_keeps1 ..).v_eq ..).trans ((State.transitions_keeps ..).v_eq ..)
  rw [wheelFollows_of_stays h3]
  exact ⟨bit_putBit_self .., (State.transitions_keeps (s.enter t) (1 + n) 1).panel_eq⟩

section
variable {s : State} {t n : Nat}

theorem pnlPgRise_good (hn : n < 4) (hr : s.panel.rail = 1) (hno : s.panel.railNo = n)
    (hc : ((s.enter t).transitions (1 + n) 1).chatters (1 + n) = false) :
    ∃ s', runs (.pnlPgRise t n) s s' ∧ s'.bit 0x5801 0x04 n = true ∧ s'.panel.rail = (if n = 3 then 0 else 2) := by
  have hl := pgLevel_good hc ⟨hr, hno⟩
  have hk := State.pgGood_keeps (((s.enter t).transitions (1 + n) 1).putBit 0x5801 0x04 n true) n
  have h3 : ((s.enter t).pgLevel n true).v 0x5001 0x03 = s.v 0x5001 0x03 := by
    rw [hl]
    exact (hk.v_eq ..).trans (((State.putBit_keeps1 ..).v_eq ..).trans ((State.transitions_keeps ..).v_eq ..))
  refine ⟨_, runs_rail hn rfl, ?_⟩
  rw [wheelFollows_of_stays h3, hl, pgGood_panel]
  exact ⟨(bit_congr (hk.v_eq ..) n).trans (bit_putBit_self ..), rfl⟩

theorem pnlPgRise_shown (hn : n < 4) (hr : ¬(s.panel.rail = 1 ∧ s.panel.railNo = n))
    (hc : ((s.enter t).transitions (1 + n) 1).chatters (1 + n) = false) :
    ∃ s', runs (.pnlPgRise t n) s s' ∧ s'.bit 0x5801 0x04 n = true ∧ s'.panel = s.panel := by
  refine ⟨_, runs_rail hn rfl, ?_⟩
  rw [pgLevel_shown hc hr]
  exact pgShown_stays s t n true

theorem pnlPgRise_chatters (hn : n < 4) (hb : s.bit 0x5801 0x04 n = false)
    (hc : ((s.enter t).transitions (1 + n) 1).chatters (1 + n) = true) :
    ∃ s', runs (.pnlPgRise t n) s s' ∧ s'.bit 0x5801 0x04 n = false ∧ s'.panel = s.panel := by
  refine ⟨_, runs_rail hn rfl, ?_⟩
  have hg : ((s.enter t).transitions (1 + n) 1).bit 0x5801 0x04 n = false := (transitions_bit ..).trans hb
  rw [pgLevel_chatters hc, pgLost_harmless (.inl hg)]
  exact pgShown_stays s t n false

theorem pnlPgFall_disabled (hn : n < 4) (he : s.bit 0x5801 0x04 (4 + n) = false) :
    ∃ s', runs (.pnlPgFall t n) s s' ∧ s'.bit 0x5801 0x04 n = false ∧ s'.panel = s.panel := by
  refine ⟨_, runs_rail hn rfl, ?_⟩
  have hoff : ((s.enter t).transitions (1 + n) 1).bit 0x5801 0x04 (4 + n) = false := (transitions_bit ..).trans he
  rw [pgLevel_falls, pgLost_harmless (.inr hoff)]
  exact pgShown_stays s t n false

theorem pnlPgFall_faults (hn : n < 4) (hg : s.bit 0x5801 0x04 n = true) (he : s.bit 0x5801 0x04 (4 + n) = true)
    (hf : s.panel.faulted = false) (hc : s.calm = true) :
    ∃ s', runs (.pnlPgFall t n) s s' ∧ s'.bit 0x5801 0x04 n = false ∧ s'.panel.faulted = true ∧
      s'.v 0x5801 0x01 = 7 ∧ counted s s' 0x5802 0 0x08 := by
  have hl : (s.enter t).pgLevel n false =
      (((s.enter t).transitions (1 + n) 1).putBit 0x5801 0x04 n false).panelFault 0x08 :=
    pgLost_faults ((transitions_bit ..).trans hg) ((transitions_bit ..).trans he)
  have hpre : Keeps ⟨[.now, .out, .clock, .mgmt], [(0x101107, 0x101107), (0x103003, 0x103003), (0x180107, 0x180107),
      (0x188001, 0x188001), (0x580104, 0x580104), (0x600202, 0x600202)]⟩ s
      (((s.enter t).transitions (1 + n) 1).putBit 0x5801 0x04 n false) :=
    (((State.enter_keeps s t).mono (by decide +kernel)).trans (State.transitions_keeps ..) (by decide +kernel)).trans
      (State.putBit_keeps1 ..) (by decide +kernel)
  have hbit : (((s.enter t).transitions (1 + n) 1).putBit 0x5801 0x04 n false).bit 0x5801 0x04 n = false :=
    bit_putBit_self ..
  refine ⟨_, runs_rail hn rfl, ?_⟩
  rw [hl]
  generalize ((s.enter t).transitions (1 + n) 1).putBit 0x5801 0x04 n false = x at hpre hbit
  have hfx : x.panel.faulted = false := (congrArg Panel.faulted hpre.panel_eq).trans hf
  have hk := State.panelFault_keeps x 0x08
  have hcalm : (x.panelFault 0x08).calm = true :=
    (calm_congr (hk.seq_eq.trans hpre.seq_eq) (hk.net_eq.trans hpre.net_eq)).trans hc
  have hw := wheelFollows_keepsCalm hcalm s
  obtain ⟨hfault, h7, -⟩ := panelFault_shown 0x08 hfx
  exact ⟨(bit_congr (hw.v_eq ..) n).trans ((bit_congr (hk.v_eq ..) n).trans hbit),
    (congrArg Panel.faulted hw.panel_eq).trans hfault, (hw.v_eq ..).trans h7,
    counted_within hpre (panelFault_counted 0x08 hfx (.inr rfl)) hw⟩

end

/-! ### The rail sequence (R165) -/

section
variable {s : State} {t : Nat}

theorem railDelayExpiry_raises (hr : s.panel.rail = 2) :
    ∃ s', runs (.railDelayExpiry t) s s' ∧ s'.bit 0x5801 0x04 (4 + (s.panel.railNo + 1)) = true := by
  have hrun : execRailDelayExpiry t s = .next ((s.enter t).railEnable (s.panel.railNo + 1)) := by
    have hrt : (s.enter t).panel.rail = 2 := hr
    simp only [execRailDelayExpiry, hrt]
    rfl
  refine ⟨_, hrun, ?_⟩
  unfold State.railEnable
  extract_lets s1
  have hbit : s1.bit 0x5801 0x04 (4 + (s.panel.railNo + 1)) = true := bit_putBit_self ..
  split
  · exact (bit_congr ((State.pgGood_keeps ..).v_eq ..) _).trans hbit
  · exact hbit

/-- Of four asserted enables the last one is released. -/
theorem railRelease_last (kind : Nat) (h : s.v 0x5801 0x04 / 16 = 15) :
    (s.railRelease kind).v 0x5801 0x04 / 16 = 7 ∧ (s.railRelease kind).panel.rail = kind := by
  have hset : setBit (s.v 0x5801 0x04) 7 false = s.v 0x5801 0x04 - 128 := by
    have hb : (s.v 0x5801 0x04).testBit 7 = true := by
      rw [Nat.testBit_eq_decide_div_mod_eq, decide_eq_true_eq]
      omega
    simp [setBit, hb]
  have h7 : (s.putBit 0x5801 0x04 (4 + 3) false).v 0x5801 0x04 / 16 = 7 := by
    have hv : (s.putBit 0x5801 0x04 (4 + 3) false).v 0x5801 0x04 = s.v 0x5801 0x04 - 128 := (v_put_self ..).trans hset
    omega
  have hfind : [3, 2, 1, 0].find? (fun n => Nat.testBit 15 n) = some 3 := by decide
  have heq : s.railRelease kind = { s.putBit 0x5801 0x04 (4 + 3) false with
      panel := { s.panel with rail := kind, railNo := 3 } } := by
    simp only [State.railRelease, h, hfind, h7]
    rfl
  rw [heq]
  exact ⟨h7, rfl⟩

theorem railDelayExpiry_releases (hr : s.panel.rail = 3) (h : s.v 0x5801 0x04 / 16 = 15) :
    ∃ s', runs (.railDelayExpiry t) s s' ∧ s'.v 0x5801 0x04 / 16 = 7 ∧ s'.panel.rail = 3 := by
  have hrun : execRailDelayExpiry t s = .next ((s.enter t).railRelease 3) := by
    have hrt : (s.enter t).panel.rail = 3 := hr
    simp only [execRailDelayExpiry, hrt]
  exact ⟨_, hrun, railRelease_last 3 h⟩

theorem pgTimeout_fails (hr : s.panel.rail = 1) :
    ∃ s', runs (.pgTimeout t) s s' ∧ s'.panel.faulted = true ∧ s'.v 0x5801 0x01 = 7 ∧
      counted s s' 0x5802 0 0x08 := by
  have hrun : execPgTimeout t s = .next (s.enter t).pgFails := congrArg Host.Outcome.next (if_pos hr)
  have hx : Keeps ⟨[.now, .out, .panel, .lanes], [(0x580101, 0x580101), (0x580104, 0x580105), (0x701001, 0x701001),
      (0x701003, 0x701003), (0x701006, 0x701006)]⟩ s ((s.enter t).railsDown 3) :=
    ((State.enter_keeps s t).mono (by decide +kernel)).trans (State.railsDown_keeps ..) (by decide +kernel)
  have hu : Keeps ⟨[.panel, .memory, .logs], [(0x180002, 0x180002), (0x180101, 0x180103), (0x580101, 0x580101),
      (0x900005, 0x900005)]⟩ (((s.enter t).railsDown 3).inc 0x5802 0x08) (s.enter t).pgFails :=
    Keeps.upd (((State.log_keeps ..).mono (by decide +kernel)).trans (State.put_keeps1 ..) (by decide +kernel))
      (hp := .inl rfl)
  have h7 : (s.enter t).pgFails.v 0x5801 0x01 = 7 :=
    v_put_self ((((s.enter t).railsDown 3).inc 0x5802 0x08).log (domSpec domPort 8 1 1 0x5802 0 0x08)) 0x5801 0x01 7
  exact ⟨_, hrun, rfl, h7, counted_between hx hu⟩

end

/-! ### Loads, STATUS and the slate (R154, R167, R169) -/

section
variable {s : State} {t half : Nat}

theorem loadCutoff_closes (hh : half < 2) (late : List Nat) :
    ∃ s', runs (.loadCutoff t half late) s s' ∧ (s'.half half).rows = [] ∧
      (s'.half half).mapped = (s.half half).mapped ∧
      ∀ r ∈ late, r ∈ (s.half half).rows.map Prod.fst → tget? r (s'.half half).hashes = none := by
  obtain ⟨hashes, hp, hnone⟩ := closeLoad_panel (s.enter t) half late
  have hx := (half_congr hp half).trans (half_putHalf_self ..)
  refine ⟨_, runs_half hh rfl, ?_⟩
  rw [hx]
  exact ⟨rfl, rfl, hnone⟩

theorem panelStatusLost_shown (hh : half < 2) (hu : s.railsUp = true)
    (hb : s.bit 0x5801 0x05 (2 + half) = false) :
    ∃ s', runs (.panelStatusLost t half) s s' ∧ s'.bit 0x5801 0x05 (2 + half) = true ∧
      counted s s' 0x5802 0 0x05 ∧ s'.panel = s.panel := by
  have hcond : (s.enter t).railsUp = true ∧ (!(s.enter t).bit 0x5801 0x05 (2 + half)) = true :=
    ⟨hu, congrArg not hb⟩
  have hrun : execPanelStatusLost t half s = guarded (halfOk half)
      (((s.enter t).putBit 0x5801 0x05 (2 + half) true).inc 0x5802 0x05) :=
    congrArg (guarded (halfOk half)) (if_pos hcond)
  have hi := State.inc_keeps1 ((s.enter t).putBit 0x5801 0x05 (2 + half) true) 0x5802 0x05
  have hx : Keeps ⟨[.now, .out], [(0x580105, 0x580105)]⟩ s ((s.enter t).putBit 0x5801 0x05 (2 + half) true) :=
    ((State.enter_keeps s t).mono (by decide +kernel)).trans (State.putBit_keeps1 ..) (by decide +kernel)
  exact ⟨_, runs_half hh hrun, (bit_congr (hi.v_eq ..) _).trans (bit_putBit_self ..),
    counted_between hx (.refl ⟨[], []⟩ _), hi.panel_eq⟩

theorem droneRefresh_darkens (h4 : s.v 0x5001 0x03 = 4) :
    ∃ s', runs (.droneRefresh t) s s' ∧ s'.panel.darkUntil = (s.enter t).refreshEnd := by
  have hrun : execDroneRefresh t s = .next (s.enter t).refreshSlate := congrArg Host.Outcome.next (if_pos h4)
  exact ⟨_, hrun, refreshSlate_darkUntil _⟩

end

/-- Settles O37: a load closes at its cut-off, a lost STATUS is shown and counted, the slate is refreshed, and each
power-good and each expiry takes the rail sequence one step on. -/
theorem panelTimersAndRails : Obligations.PanelTimersAndRails :=
  ⟨fun _ _ _ late hh => loadCutoff_closes hh late, fun _ _ _ hh hu hb => panelStatusLost_shown hh hu hb,
    fun _ _ h4 => droneRefresh_darkens h4, fun _ _ _ hn hr hno hc => pnlPgRise_good hn hr hno hc,
    fun _ _ _ hn hr hc => pnlPgRise_shown hn hr hc, fun _ _ _ hn hb hc => pnlPgRise_chatters hn hb hc,
    fun _ _ hr _ => railDelayExpiry_raises hr, fun _ _ hr h => railDelayExpiry_releases hr h,
    fun _ _ hr => pgTimeout_fails hr⟩

end Sys2Proof.Machine
end

section
set_option Elab.async false
namespace Sys2Proof.Machine

/-! ### Clear before light (R156, R161, R166) -/

section
variable {s : State} {h : Nat}

/-- A half whose lanes stand keeps its mapping. -/
theorem remap_of_settled (hl : s.liveLanes h = (s.half h).mapped) (hg : (s.half h).gone = [])
    (hk : (s.half h).lack = false) : s.remap h = s :=
  if_pos ⟨hl, hg, by rw [hk]; rfl⟩

theorem doClear_starts (hr : s.remap h = s) (hu : s.railsUp = true) (hf : s.panel.faulted = false)
    (ho : s.v 0x5800 0x0F = 1) (hp : (s.half h).park = 3) (hk : (s.half h).lack = false)
    (hm : (s.half h).mapped ≠ []) (hd : s.displayRuns = false) : s.doClear h =
      (s.startClear h (if (s.half h).needFull then s.v 0x5800 0x06 else shortForm)).sendWaves := by
  simp [State.doClear, hr, hu, hf, ho, hp, hk, hm, hd]

/-- Clear-before-light has begun on a half: it is not parked, and the latches of its form are to come. -/
theorem startClear_half (s : State) (h count : Nat) : ((s.startClear h count).half h).clearing = true ∧
    ((s.startClear h count).half h).park = 0 ∧ ((s.startClear h count).half h).clearLeft = count := by
  have hx := half_standing (standing_startClear s h count) h
  rw [half_putHalf_self] at hx
  exact ⟨congrArg Half.clearing hx, congrArg Half.park hx, congrArg Half.clearLeft hx⟩

/-- A half is not clear while it is in clear-before-light. -/
theorem startClear_bit (s : State) (h count : Nat) :
    (s.startClear h count).bit 0x5801 0x05 h = false := by
  unfold State.startClear
  extract_lets s1 x s2 s3
  have h1 : s1.bit 0x5801 0x05 h = false := bit_putBit_self ..
  have hk : Keeps ⟨[.out, .panel, .lanes], [(0x70020C, 0x70020C), (0x700309, 0x700309), (0x701001, 0x701001)]⟩ s1 s3 :=
    ((((((State.putHalf_keeps ..).mono (by decide +kernel)).trans (State.sendConfig_keeps ..) (by decide +kernel)).trans
      (State.sendFill_keeps ..) (by decide +kernel)).trans (State.sendBias_keeps ..) (by decide +kernel)).trans
      (State.sendReset_keeps ..) (by decide +kernel))
  have h3 : s3.bit 0x5801 0x05 h = false := (bit_congr (hk.v_eq ..) h).trans h1
  split
  · exact h3
  · exact (bit_congr ((State.panelState_keeps ..).v_eq ..) h).trans h3

/-- A half with one exercise latch less to come. -/
def Half.exercised (x : Half) : Half := { x with clearLeft := x.clearLeft - 1 }

/-- A half whose latches have ended. -/
def Half.readied (x : Half) : Half := { x with clearing := false, needFull := false, short := false }

/-- The fill of the latch that comes next: the mirrors go to and fro. -/
def Half.fill (x : Half) : Byte := if (x.clearTotal - x.clearLeft + 1) % 2 = 1 then 0xFF#8 else 0#8

/-- The end of the latches of a half: the panel is clear there, whatever state the panel shows then. -/
def State.readied (s : State) (h : Nat) : State :=
  (s.putHalf h (s.half h).readied).putClear h true

theorem doLatch_exercise (hc : (s.half h).clearing = true) (hl : 0 < (s.half h).clearLeft) :
    s.doLatch h = (((s.advancePhase h).putHalf h (s.half h).exercised).sendFill h (s.half h).fill).sendReset h :=
  (if_neg (by simp [hc])).trans (if_pos hl)

theorem doLatch_end (hc : (s.half h).clearing = true) (hl : (s.half h).clearLeft = 0) :
    s.doLatch h = ((((s.advancePhase h).sendFill h 0#8).sendReset h).readied h) ∨
      ∃ v, s.doLatch h = ((((s.advancePhase h).sendFill h 0#8).sendReset h).readied h).panelState v := by
  unfold State.doLatch
  extract_lets x s1 k s2 y s3 busy
  rw [if_neg (by simp [x, hc]), if_neg (by simp [x, hl])]
  split
  · exact .inr ⟨4, rfl⟩
  · split
    · exact .inl rfl
    · exact .inr ⟨3, rfl⟩

/-- An exercise latch, and the latches that are left after it. -/
theorem doLatch_exercises (hc : (s.half h).clearing = true) (hl : 0 < (s.half h).clearLeft) :
    ((s.doLatch h).half h).clearLeft = (s.half h).clearLeft - 1 ∧ ((s.doLatch h).half h).clearing = true := by
  have hx : ((s.doLatch h).half h).standing = (s.half h).exercised.standing := by
    rw [doLatch_exercise hc hl, half_standing ((standing_sendReset ..).trans (standing_sendFill ..)), half_putHalf_self]
  exact ⟨congrArg Half.clearLeft hx, (congrArg Half.clearing hx).trans hc⟩

theorem readied_shows (s : State) (h : Nat) :
    (s.readied h).half h = (s.half h).readied ∧ (s.readied h).bit 0x5801 0x05 h = true :=
  ⟨(half_congr (State.putClear_keeps ..).panel_eq h).trans (half_putHalf_self ..), bit_putBit_self ..⟩

/-- The last latch: the half is clear, and needs no full form any more. -/
theorem doLatch_ends (hc : (s.half h).clearing = true) (hl : (s.half h).clearLeft = 0) :
    ((s.doLatch h).half h).clearing = false ∧ ((s.doLatch h).half h).needFull = false ∧
      (s.doLatch h).bit 0x5801 0x05 h = true := by
  obtain ⟨hx, hb⟩ := readied_shows (((s.advancePhase h).sendFill h 0#8).sendReset h) h
  obtain he | ⟨v, he⟩ := doLatch_end hc hl
  · rw [he, hx]
    exact ⟨rfl, rfl, hb⟩
  · have hk := State.panelState_keeps ((((s.advancePhase h).sendFill h 0#8).sendReset h).readied h) v
    rw [he, half_congr hk.panel_eq, hx]
    exact ⟨rfl, rfl, (bit_congr (hk.v_eq ..) h).trans hb⟩

end

section
variable {s : State} {t half : Nat}

theorem clearBeforeLight_starts (hh : half < 2) (hl : s.liveLanes half = (s.half half).mapped)
    (hg : (s.half half).gone = []) (hk : (s.half half).lack = false) (hu : s.railsUp = true)
    (hf : s.panel.faulted = false) (ho : s.v 0x5800 0x0F = 1) (hp : (s.half half).park = 3)
    (hm : (s.half half).mapped ≠ []) (hd : s.displayRuns = false) :
    ∃ s', runs (.clearBeforeLight t half) s s' ∧ (s'.half half).clearing = true ∧ (s'.half half).park = 0 ∧
      (s'.half half).clearLeft = (if (s.half half).needFull then s.v 0x5800 0x06 else shortForm) ∧
      s'.bit 0x5801 0x05 half = false := by
  have hc := doClear_starts (s := s.enter t) (remap_of_settled hl hg hk) hu hf ho hp hk hm hd
  refine ⟨_, runs_half hh rfl, ?_⟩
  rw [hc, half_sendWaves]
  obtain ⟨hclear, hpark, hleft⟩ := startClear_half (s.enter t) half
    (if (s.half half).needFull then s.v 0x5800 0x06 else shortForm)
  exact ⟨hclear, hpark, hleft, (bit_congr ((State.sendWaves_keeps _).v_eq ..) half).trans (startClear_bit ..)⟩

theorem exerciseLatch_exercises (hh : half < 2) (hc : (s.half half).clearing = true)
    (hl : 0 < (s.half half).clearLeft) :
    ∃ s', runs (.exerciseLatch t half) s s' ∧ (s'.half half).clearLeft = (s.half half).clearLeft - 1 ∧
      (s'.half half).clearing = true :=
  ⟨_, runs_half hh rfl, doLatch_exercises (s := s.enter t) hc hl⟩

theorem exerciseLatch_ends (hh : half < 2) (hc : (s.half half).clearing = true)
    (hl : (s.half half).clearLeft = 0) :
    ∃ s', runs (.exerciseLatch t half) s s' ∧ (s'.half half).clearing = false ∧ (s'.half half).needFull = false ∧
      s'.bit 0x5801 0x05 half = true :=
  ⟨_, runs_half hh rfl, doLatch_ends (s := s.enter t) hc hl⟩

theorem parkTimeExpiry_discharges (hh : half < 2) (hp : (s.half half).park = 1) (hd : (s.half half).dstep < 4) :
    ∃ s', runs (.parkTimeExpiry t half) s s' ∧ (s'.half half).park = 2 ∧
      (s'.half half).dstep = (s.half half).dstep + 1 := by
  have hs : ((s.enter t).stopPark.half half).parking = (s.half half).parking :=
    parking_stopPark (s.enter t) hh (hp.trans_ne Nat.one_ne_zero)
  have hpark : ((s.enter t).stopPark.half half).park = 1 := (congrArg Prod.fst hs).trans hp
  have hstep : ((s.enter t).stopPark.half half).dstep = (s.half half).dstep := congrArg Prod.snd hs
  have hx := discharge_steps (s.enter t).stopPark (h := half) (by rwa [hstep])
  rw [hstep] at hx
  exact ⟨_, runs_half hh (congrArg (guarded (halfOk half)) (if_pos hpark)), congrArg Prod.fst hx,
    congrArg Prod.snd hx⟩

theorem dischargeStepExpiry_runs (hh : half < 2) (hp : (s.half half).park = 2) :
    runs (.dischargeStepExpiry t half) s ((s.enter t).discharge half) :=
  runs_half hh (congrArg (guarded (halfOk half)) (if_pos hp))

theorem dischargeStepExpiry_steps (hh : half < 2) (hp : (s.half half).park = 2) (hd : (s.half half).dstep < 4) :
    ∃ s', runs (.dischargeStepExpiry t half) s s' ∧ (s'.half half).park = 2 ∧
      (s'.half half).dstep = (s.half half).dstep + 1 := by
  have hx := discharge_steps (s.enter t) (h := half) hd
  exact ⟨_, dischargeStepExpiry_runs hh hp, congrArg Prod.fst hx, congrArg Prod.snd hx⟩

theorem dischargeStepExpiry_ends (hh : half < 2) (hp : (s.half half).park = 2) (hd : 8 ≤ (s.half half).dstep) :
    ∃ s', runs (.dischargeStepExpiry t half) s s' ∧ (s'.half half).park = 3 ∧ (s'.half half).dstep = 0 := by
  have hx := discharge_ends (s.enter t) hh hd
  exact ⟨_, dischargeStepExpiry_runs hh hp, congrArg Prod.fst hx, congrArg Prod.snd hx⟩

end

/-! ### STATUS (R152, R167) -/

/-- The low bits of a flag word stand as a field above them is replaced by nothing. -/
theorem testBit_sub_field {w x k j : Nat} (hj : j < k) (hw : w.testBit j = false) :
    (w - x * 2 ^ k).testBit j = false := by
  obtain hle | hlt := Nat.le_total (x * 2 ^ k) w
  · have hm : (w - x * 2 ^ k) % 2 ^ k = w % 2 ^ k := by
      rw [Nat.mul_comm] at hle ⊢
      exact Nat.sub_mul_mod hle
    have hb := congrArg (fun v => v.testBit j) hm
    simpa [hj, hw] using hb
  · rw [Nat.sub_eq_zero_of_le hlt, Nat.zero_testBit]

section
variable {s : State} {h : Nat} {p : Bytes}

/-- A STATUS without flags (R163, R167): the temperature is shown and the status-lost bit cleared, the band may
change, and there is no fault. -/
theorem takeStatus_quiet (hh : h < 2) (hf : statusFlags p % 16 = 0) :
    (s.takeStatus h p).v 0x5801 (0x0A + h) = ofS 16 (statusTemp p) ∧
      (s.takeStatus h p).bit 0x5801 0x05 (2 + h) = false ∧ (s.takeStatus h p).panel = s.panel ∧
      (s.takeStatus h p).v 0x5001 0x03 = s.v 0x5001 0x03 := by
  unfold State.takeStatus
  extract_lets flags w w' s1 b b' s3 table sent
  have hflags : flags = 0 := hf
  have hw' : w'.testBit (2 + h) = false := by
    have hset : (setBit w (2 + h) false).testBit (2 + h) = false := by simp [testBit_setBit]
    simp only [w', hflags, Nat.zero_mul, Nat.add_zero]
    exact testBit_sub_field (by omega) hset
  have h01 : h = 0 ∨ h = 1 := by omega
  have h1 : Keeps ⟨[], [(0x580102, 0x580103), (0x580200, 0x5802FF)]⟩
      ((s.put 0x5801 0x05 w').put 0x5801 (0x0A + h) (ofS 16 (statusTemp p))) s1 :=
    (State.add_keepsO _ 0x5802 0x05 _).mono (by decide +kernel)
  have h3 : Keeps ⟨[], [(0x580102, 0x580103), (0x580200, 0x5802FF)]⟩ s1 s3 := by
    refine .ite (fun _ => .refl _ _) fun _ => ?_
    refine .trans ((State.put_keeps1 ..).mono ?_) (State.inc_keeps1 ..) (by decide +kernel)
    obtain rfl | rfl := h01 <;> decide +kernel
  have hk := h1.trans h3 (Foot.sub_refl _)
  have hput : ∀ (x : State) (v : Nat), Keeps ⟨[], [(0x58010A, 0x58010B)]⟩ x (x.put 0x5801 (0x0A + h) v) := fun x v => by
    refine (State.put_keeps1 ..).mono ?_
    obtain rfl | rfl := h01 <;> decide +kernel
  rw [if_neg (by simp [hflags])]
  refine ⟨(hk.v_eq _ _ ?_).trans (v_put_self ..), ?_, hk.panel_eq, (hk.v_eq ..).trans (((hput ..).v_eq ..).trans
    ((State.put_keeps1 ..).v_eq ..))⟩
  · obtain rfl | rfl := h01 <;> decide +kernel
  · rw [bit_congr (hk.v_eq ..), bit_congr ((hput ..).v_eq ..), State.bit, v_put_self, hw']

end

section
variable {s : State} {t half : Nat}

theorem panelStatus_quiet (hh : half < 2) {b : Bytes} (hb : blockOk b = true) (ht : blockType b = 3)
    (ho : (blockPayload b).head? = some 0x81#8) (hu : s.railsUp = true)
    (hf : statusFlags (blockPayload b) % 16 = 0) :
    ∃ s', runs (.panelStatus t half b) s s' ∧
      s'.v 0x5801 (0x0A + half) = ofS 16 (statusTemp (blockPayload b)) ∧ s'.bit 0x5801 0x05 (2 + half) = false ∧
      s'.panel = s.panel := by
  have htaken : (s.enter t).statusTaken half b = (s.enter t).takeStatus half (blockPayload b) :=
    (if_neg (by simp [hb])).trans (if_pos ⟨ht, ho, hu⟩)
  obtain ⟨htemp, hbit, hp, hstate⟩ := takeStatus_quiet (s := s.enter t) hh hf
  have hw : ((s.enter t).statusTaken half b).wheelFollows s = (s.enter t).takeStatus half (blockPayload b) := by
    rw [htaken]
    exact wheelFollows_of_stays hstate
  exact ⟨_, runs_half hh (congrArg (guarded (halfOk half)) hw), htemp, hbit, hp⟩

theorem panelStatusTimeout_faults (hh : half < 2) (hu : s.railsUp = true) (hf : s.panel.faulted = false)
    (hc : s.calm = true) :
    ∃ s', runs (.panelStatusTimeout t half) s s' ∧ s'.panel.faulted = true ∧ s'.v 0x5801 0x01 = 7 ∧
      counted s s' 0x5802 0 0x07 ∧ 5 ∈ s'.bridge.blank := by
  have hfault : (if (s.enter t).railsUp then (s.enter t).panelFault 0x07 else s.enter t) =
      (s.enter t).panelFault 0x07 := if_pos hu
  have hk := State.panelFault_keeps (s.enter t) 0x07
  have hcalm : ((s.enter t).panelFault 0x07).calm = true := (calm_congr hk.seq_eq hk.net_eq).trans hc
  have hw := wheelFollows_keepsCalm hcalm s
  obtain ⟨hp, h7, hblank⟩ := panelFault_shown (s := s.enter t) 0x07 hf
  have hrun : execPanelStatusTimeout t half s =
      guarded (halfOk half) (((s.enter t).panelFault 0x07).wheelFollows s) :=
    congrArg (fun x : State => guarded (halfOk half) (x.wheelFollows s)) hfault
  exact ⟨_, runs_half hh hrun, (congrArg Panel.faulted hw.panel_eq).trans hp, (hw.v_eq ..).trans h7,
    counted_within (State.enter_keeps s t) (panelFault_counted 0x07 hf (.inl rfl)) hw, hw.bridge_eq ▸ hblank⟩

end

/-- Settles O38: a half goes through its clear before light and through its discharge latch by latch and step by step,
a STATUS without flags is shown, and its loss or that of a power-good is a fault of the panel. -/
theorem clearParkAndPanelFaults : Obligations.ClearParkAndPanelFaults :=
  ⟨fun _ _ _ hh hl hg hk hu hf ho hp hm hd => clearBeforeLight_starts hh hl hg hk hu hf ho hp hm hd,
    fun _ _ _ hh hc hl => exerciseLatch_exercises hh hc hl, fun _ _ _ hh hc hl => exerciseLatch_ends hh hc hl,
    fun _ _ _ hh hp hd => parkTimeExpiry_discharges hh hp hd, fun _ _ _ hh hp hd => dischargeStepExpiry_steps hh hp hd,
    fun _ _ _ hh hp hd => dischargeStepExpiry_ends hh hp hd,
    fun _ _ _ _ hh hb ht ho hu _ hf => panelStatus_quiet hh hb ht ho hu hf,
    fun _ _ _ hh hu hf hc => panelStatusTimeout_faults hh hu hf hc,
    fun _ _ _ hn hg he hf hc => pnlPgFall_faults hn hg he hf hc, fun _ _ _ hn he => pnlPgFall_disabled hn he⟩

end Sys2Proof.Machine
end

section
set_option Elab.async false
namespace Sys2Proof.Machine

/-! ### Writes of the panel (R165, R167) -/

/-- The rails coming up leave the faulted state of the panel. -/
theorem faulted_railsOn (s : State) : s.railsOn.panel.faulted = s.panel.faulted :=
  faulted_unrailed (unrailed_railsOn s)

/-- The halves are to take the full form, and the panel is faulted no more. -/
def State.rearmed (s : State) : State :=
  let s1 := { s with panel := { s.panel with faulted := false } }.releaseAll 5
  let s2 := s1.putHalf 0 { s1.half 0 with needFull := true }
  (s2.putHalf 1 { s2.half 1 with needFull := true }).panelState 5

theorem faulted_rearmed (s : State) : s.rearmed.panel.faulted = false := by
  have hr : (({ s with panel := { s.panel with faulted := false } } : State).releaseAll 5).panel.faulted = false :=
    congrArg Panel.faulted (State.releaseAll_keeps ..).panel_eq
  unfold State.rearmed
  rw [(State.panelState_keeps ..).panel_eq, faulted_putHalf, faulted_putHalf, hr]

/-- A re-arm ends the faulted state, and what it starts raises no fault. -/
theorem faulted_rearmPanel (s : State) : s.rearmPanel.panel.faulted = false := by
  have h := faulted_rearmed s
  unfold State.rearmPanel
  split
  next hf => simpa using hf
  next =>
    change (ite _ (List.foldl _ s.rearmed _) s.rearmed.railsOn).panel.faulted = false
    split
    · exact (foldl_unchanged (π := fun x : State => x.panel.faulted) (fun x k => faulted_startClear x k _) _ _).trans h
    · exact (faulted_railsOn _).trans h

/-- The request for power stands, whatever it brings about. -/
theorem ownPower_shows (s : State) (v : Nat) : (s.ownPower v).v 0x5800 0x0F = v := by
  have hv : (s.putKept 0x5800 0 0x0F v).v 0x5800 0x0F = v := ve_putKept_self ..
  unfold State.ownPower
  extract_lets s1 s2
  have h2 : s2.v 0x5800 0x0F = v := ((State.park_keeps ..).v_eq ..).trans hv
  split
  · exact ((State.railsOn_keeps _).v_eq ..).trans hv
  · split
    · exact ((State.railsDown_keeps ..).v_eq ..).trans h2
    · exact h2

section
variable {s : State} {t v : Nat}

theorem faultRearm_runs (ha : s.acceptsValue t 0 0x5800 0 0x10 v = true) (hc : s.calm = true) :
    ∃ s', runs (.faultRearm t v) s s' ∧ s'.mgmt.lastCode = 0 ∧ s'.panel.faulted = false := by
  have hk := State.rearmPanel_keeps (s.acceptedAt t)
  have hcalm : (s.acceptedAt t).rearmPanel.calm = true := (calm_congr hk.seq_eq hk.net_eq).trans hc
  exact ⟨_, runs_calmWrite rfl ha (atOnce_of_now (by decide +kernel) s) rfl hcalm, hk.lastCode_eq,
    faulted_rearmPanel _⟩

theorem panelPower_runs (ha : s.acceptsValue t 0 0x5800 0 0x0F v = true) (hc : s.calm = true) :
    ∃ s', runs (.panelPower t v) s s' ∧ s'.mgmt.lastCode = 0 ∧ s'.v 0x5800 0x0F = v := by
  have hk := State.ownPower_keeps (s.acceptedAt t) v
  have hcalm : ((s.acceptedAt t).ownPower v).calm = true := (calm_congr hk.seq_eq hk.net_eq).trans hc
  exact ⟨_, runs_calmWrite rfl ha (atOnce_of_now (by decide +kernel) s) rfl hcalm, hk.lastCode_eq,
    ownPower_shows _ v⟩

end

/-! ### The linearity reset (R193) -/

/-- The three trims of a string read 0. -/
def State.untrimmed (s : State) (n : Nat) : Prop :=
  s.ve 0x6010 n 0x08 = 0 ∧ s.ve 0x6010 n 0x09 = 0 ∧ s.ve 0x6010 n 0x0A = 0

/-- One string's trims are set to 0. -/
def State.linResetOne (s : State) (n : Nat) : State :=
  let s1 := ((s.pute 0x6010 n 0x08 0).pute 0x6010 n 0x09 0).pute 0x6010 n 0x0A 0
  if (s1.str n).trimDue.isSome then s1.putStr n { s1.str n with trimDue := none } else s1

/-- A member set to 0 reads 0 wherever it did before. -/
theorem ve_pute_zero {s : State} {o e m k n j : Nat} (h : s.ve o e m = 0 ∨ mkey o e m = mkey k n j) :
    (s.pute k n j 0).ve o e m = 0 := by
  by_cases hk : mkey o e m = mkey k n j
  · simp [State.ve, State.pute, hk]
  · rw [ve_pute_ne hk]
    exact h.resolve_right hk

theorem untrimmed_linResetOne {s : State} {n k : Nat} (h : n = k ∨ s.untrimmed n) :
    (s.linResetOne k).untrimmed n := by
  unfold State.linResetOne
  extract_lets s1
  have h1 : s1.untrimmed n := by
    obtain rfl | ⟨h8, h9, hA⟩ := h
    · exact ⟨ve_pute_zero (.inl (ve_pute_zero (.inl (ve_pute_zero (.inr rfl))))),
        ve_pute_zero (.inl (ve_pute_zero (.inr rfl))), ve_pute_zero (.inr rfl)⟩
    · exact ⟨ve_pute_zero (.inl (ve_pute_zero (.inl (ve_pute_zero (.inl h8))))),
        ve_pute_zero (.inl (ve_pute_zero (.inl (ve_pute_zero (.inl h9))))),
        ve_pute_zero (.inl (ve_pute_zero (.inl (ve_pute_zero (.inl hA)))))⟩
  split
  · exact h1
  · exact h1

theorem untrimmed_linResets {s : State} {l : List Nat} {n : Nat} (h : n ∈ l ∨ s.untrimmed n) :
    (l.foldl State.linResetOne s).untrimmed n := by
  induction l generalizing s with
  | nil => simpa using h
  | cons k l ih =>
    refine ih ?_
    rw [List.mem_cons, or_assoc, or_left_comm] at h
    exact h.imp_right untrimmed_linResetOne

theorem linReset_untrims (s : State) {n : Nat} (hn : n < 48) : s.linReset.untrimmed n :=
  untrimmed_linResets (.inl (List.mem_range.2 hn))

theorem linReset_runs {s : State} {t v : Nat} (ha : s.acceptsValue t 0 0x6000 0 0x05 v = true)
    (hc : s.calm = true) :
    ∃ s', runs (.linReset t v) s s' ∧ s'.mgmt.lastCode = 0 ∧
      ∀ n, n < 48 → s'.ve 0x6010 n 0x08 = 0 ∧ s'.ve 0x6010 n 0x09 = 0 ∧ s'.ve 0x6010 n 0x0A = 0 := by
  have hk := State.linReset_keeps (s.acceptedAt t)
  have hcalm : (s.acceptedAt t).linReset.calm = true := (calm_congr hk.seq_eq hk.net_eq).trans hc
  exact ⟨_, runs_calmWrite rfl ha (atOnce_of_now (by decide +kernel) s) rfl hcalm, hk.lastCode_eq,
    fun n hn => linReset_untrims _ hn⟩

end Sys2Proof.Machine
end

section
set_option Elab.async false
namespace Sys2Proof.Machine

/-! ### The wheel's run bit and re-arm (R229 to R234) -/

/-- The loop engine but for the states of its sections. -/
def Loop.unsectioned (l : Loop) : Loop := { l with sections := [] }

section
variable (s : State)

/-- A preset sets states of sections alone (R208). -/
theorem presetMant_loop (n : Nat) (p : Int) : (s.presetMant n p).loop.unsectioned = s.loop.unsectioned := by
  have hc : (s.clearLoop n).loop.unsectioned = s.loop.unsectioned :=
    foldl_unchanged (π := fun x : State => x.loop.unsectioned) (f := fun x j => x.putSec n j Section.zero)
      (fun _ _ => rfl) (List.range 8) s
  unfold State.presetMant
  extract_lets m k s1
  split
  · exact (congrArg Loop.unsectioned (State.showLoop_keeps ..).loop_eq).trans hc
  · exact hc

/-- The speed loop closes, and no brake comes to wait. -/
theorem closeSpeed_brakeDue : s.closeSpeed.loop.brakeDue = s.loop.brakeDue :=
  (congrArg Loop.brakeDue (presetMant_loop (s.freezeLoop 48 false) 48
    (mantOf s.torque 32768 ((s.freezeLoop 48 false).slotLastExp 48))) :)

/-- The loop engine as spin-up begins: no revolution has been measured. -/
def Loop.unmeasured (l : Loop) : Loop :=
  { l with nuts := 0, rev := none, lastTick := none, tt := 0, edges := [], ft := none, acquiring := true }

/-- Spin-up begins, or the wheel rests on. -/
theorem spinUp_loop : s.spinUp.loop = s.loop ∨ s.spinUp.loop = s.loop.unmeasured := by
  unfold State.spinUp
  split
  · exact .inl rfl
  · split
    · exact .inl (State.showRest_keeps s).loop_eq
    · exact .inr rfl

/-- What an enabled wheel may change (R231). -/
def enableFoot : Foot :=
  ⟨[.loop], [(0x680101, 0x680101), (0x680103, 0x680103), (0x68010C, 0x68010C), (0x681003, 0x681003),
    (0x681006, 0x681007), (0x68100A, 0x68100A)]⟩

/-- The wheel is enabled: it runs again or spins up, and no brake waits any more. -/
theorem ownWheel_enables : Keeps enableFoot s (s.ownWheel 1) ∧ (s.ownWheel 1).loop.brakeDue = false := by
  unfold State.ownWheel
  rw [if_neg Nat.one_ne_zero]
  extract_lets l s0
  have h0 : Keeps enableFoot s s0 := Keeps.upd (.refl _ s) (hl := .inl rfl)
  have hb : s0.loop.brakeDue = false := rfl
  split
  · exact ⟨(Keeps.upd h0 (hl := .inl rfl)).trans (State.putWheel_keeps ..) (by decide +kernel), hb⟩
  · split
    · split
      · exact ⟨h0.trans (State.closeSpeed_keeps _) (by decide +kernel), (closeSpeed_brakeDue s0).trans hb⟩
      · exact ⟨h0, hb⟩
    · refine ⟨h0.trans (State.spinUp_keeps _) (by decide +kernel), ?_⟩
      obtain h | h := spinUp_loop s0
      · rw [h, hb]
      · rw [h]
        exact hb

/-- Braking from the states in which the speed loop is closed (R229, R231). -/
theorem brake_of_closed {s : State} (h3 : 3 ≤ s.wheel) (h7 : s.wheel ≤ 7) :
    s.brake = ({ s with loop := { s.loop with brakeDue := false } } : State).disengage.putWheel 8 :=
  if_pos ⟨h3, h7⟩

theorem wheel_putWheel (st : Nat) : (s.putWheel st).wheel = st :=
  ((State.putBit_keeps1 (s.put 0x6801 0x01 st) 0x6801 0x03 0 _).v_eq 0x6801 0x01).trans (v_put_self ..)

/-- A re-arm ends the loss of the encoder, and the nut marks count anew (R234). -/
theorem rearmWheel_loop : s.rearmWheel.loop.lost = false ∧ s.rearmWheel.loop.nuts = 0 := by
  unfold State.rearmWheel
  extract_lets l s1 s2 rest
  have h2 : s2.loop.lost = false ∧ s2.loop.nuts = 0 := ⟨rfl, rfl⟩
  clear_value s2 s1
  split
  · obtain h | h := spinUp_loop (s2.putWheel 0)
    · rw [h]
      exact h2
    · rw [h]
      exact ⟨h2.1, rfl⟩
  · exact h2

end

/-! ### Writes of the wheel -/

section
variable {s : State} {t : Nat}

theorem wheelEnable_now (s : State) : s.atOnce 0x6800 0 0x01 = true := atOnce_of_now (by decide +kernel) s

theorem wheelEnable_runs (ha : s.acceptsValue t 0 0x6800 0 0x01 1 = true) (hc : s.calm = true) :
    ∃ s', runs (.wheelEnable t) s s' ∧ s'.mgmt.lastCode = 0 ∧ s'.v 0x6800 0x01 = 1 ∧ s'.loop.brakeDue = false := by
  have hk := State.putKept_keeps1 (s.acceptedAt t) 0x6800 0 0x01 1
  obtain ⟨hw, hb⟩ := ownWheel_enables ((s.acceptedAt t).putKept 0x6800 0 0x01 1)
  have hcalm : (((s.acceptedAt t).putKept 0x6800 0 0x01 1).ownWheel 1).calm = true :=
    (calm_congr (hw.seq_eq.trans hk.seq_eq) (hw.net_eq.trans hk.net_eq)).trans hc
  exact ⟨_, runs_calmWrite rfl ha (wheelEnable_now s) rfl hcalm, hw.lastCode_eq.trans hk.lastCode_eq,
    (hw.v_eq ..).trans (ve_putKept_self ..), hb⟩

theorem wheelBrake_brakes (ha : s.acceptsValue t 0 0x6800 0 0x01 0 = true) (hd : s.displayRuns = false)
    (hc : s.calm = true) (h3 : 3 ≤ s.wheel) (h7 : s.wheel ≤ 7) :
    ∃ s', runs (.wheelBrake t) s s' ∧ s'.mgmt.lastCode = 0 ∧ s'.v 0x6800 0x01 = 0 ∧ s'.wheel = 8 := by
  have hk := State.putKept_keeps1 (s.acceptedAt t) 0x6800 0 0x01 0
  have hv : ((s.acceptedAt t).putKept 0x6800 0 0x01 0).v 0x6800 0x01 = 0 := ve_putKept_self ..
  have hdy : ((s.acceptedAt t).putKept 0x6800 0 0x01 0).displayRuns = false :=
    (displayRuns_congr (hk.v_eq ..)).trans hd
  have hwheel : ((s.acceptedAt t).putKept 0x6800 0 0x01 0).wheel = s.wheel := hk.v_eq 0x6801 0x01
  have hu : (s.acceptedAt t).ownHigh? 0x6800 0 0x01 0 = some ((s.acceptedAt t).putKept 0x6800 0 0x01 0).brake := by
    change some (((s.acceptedAt t).putKept 0x6800 0 0x01 0).ownWheel 0) = _
    simp [State.ownWheel, hdy]
  generalize (s.acceptedAt t).putKept 0x6800 0 0x01 0 = y at hk hv hwheel hu
  have hb := State.brake_keeps y
  have hcalm : y.brake.calm = true := (calm_congr (hb.seq_eq.trans hk.seq_eq) (hb.net_eq.trans hk.net_eq)).trans hc
  have heq := brake_of_closed (hwheel ▸ h3) (hwheel ▸ h7)
  refine ⟨_, runs_calmWrite rfl ha (wheelEnable_now s) hu hcalm, ?_, (hb.v_eq ..).trans hv, ?_⟩
  · rw [heq, (State.putWheel_keeps ..).lastCode_eq, disengage_lastCode]
    exact hk.lastCode_eq
  · rw [heq, wheel_putWheel]

theorem wheelBrake_waits (ha : s.acceptsValue t 0 0x6800 0 0x01 0 = true) (hd : s.displayRuns = true) :
    ∃ s', runs (.wheelBrake t) s s' ∧ s'.mgmt.lastCode = 0 ∧ s'.v 0x6800 0x01 = 0 ∧
      s'.loop.brakeDue = true ∧ s'.v 0x5001 0x03 = 5 := by
  have hk := State.putKept_keeps1 (s.acceptedAt t) 0x6800 0 0x01 0
  have hv : ((s.acceptedAt t).putKept 0x6800 0 0x01 0).v 0x6800 0x01 = 0 := ve_putKept_self ..
  have hdy : ((s.acceptedAt t).putKept 0x6800 0 0x01 0).displayRuns = true :=
    (displayRuns_congr (hk.v_eq ..)).trans hd
  have hu : (s.acceptedAt t).ownHigh? 0x6800 0 0x01 0 = some ({ (s.acceptedAt t).putKept 0x6800 0 0x01 0 with
      loop := { ((s.acceptedAt t).putKept 0x6800 0 0x01 0).loop with brakeDue := true } } : State).requestStop := by
    change some (((s.acceptedAt t).putKept 0x6800 0 0x01 0).ownWheel 0) = _
    simp only [State.ownWheel, hdy, if_true]
  generalize (s.acceptedAt t).putKept 0x6800 0 0x01 0 = y at hk hv hdy hu
  have hr : ({ y with loop := { y.loop with brakeDue := true } } : State).displayRuns = true := hdy
  have hs := State.requestStop_keeps { y with loop := { y.loop with brakeDue := true } }
  obtain ⟨h5, -⟩ := requestStop_stops hr
  exact ⟨_, runs_writeInDisplay rfl ha (wheelEnable_now s) hu (displayRuns_of_state h5),
    hs.lastCode_eq.trans hk.lastCode_eq, (hs.v_eq ..).trans hv, congrArg Loop.brakeDue hs.loop_eq, h5⟩

theorem rearm_runs {v : Nat} (ha : s.acceptsValue t 0 0x6800 0 0x0F v = true) (hc : s.calm = true) :
    ∃ s', runs (.rearm t v) s s' ∧ s'.mgmt.lastCode = 0 ∧ s'.loop.lost = false ∧ s'.loop.nuts = 0 := by
  have hk := State.rearmWheel_keeps (s.acceptedAt t)
  have hcalm : (s.acceptedAt t).rearmWheel.calm = true := (calm_congr hk.seq_eq hk.net_eq).trans hc
  exact ⟨_, runs_calmWrite rfl ha (atOnce_of_now (by decide +kernel) s) rfl hcalm, hk.lastCode_eq,
    rearmWheel_loop _⟩

end

end Sys2Proof.Machine
end

section
set_option Elab.async false
namespace Sys2Proof.Machine

/-! ### Free slots of the loop engine (R202, R206 to R208) -/

/-- A row of the free slots whose written number goes to the act of the loop engine at once. -/
theorem slotRow_owned {o e m : Nat} {r : MemberRow} (hr : rowOf o e m = some r)
    (h : (memberRows.all fun r => !(r.object == o && decide (r.first ≤ m) && decide (m ≤ r.last)) ||
      (decide (0x5000 ≤ o) && classIn 0 r == 0 && r.acc != .w1c && r.ty != .blob && m != 0x10)) = true) :
    ownedHigh o e m = true ∧ (rowOf o e m).any (fun r => classIn 0 r == 0) = true := by
  have hp := rowOf_all hr h
  simp only [Bool.and_eq_true, decide_eq_true_eq, beq_iff_eq, bne_iff_ne] at hp
  obtain ⟨⟨⟨⟨ho, hcls⟩, hw⟩, hb⟩, hm⟩ := hp
  simp [ownedHigh, hr, ho, hcls, hw, hb, hm]

/-- An accepted write of a slot of the loop engine. -/
theorem runs_slotWrite {c : Instr} {s u : State} {t o e m v : Nat} (he : exec c s = writes t 0 o e m v s)
    (ha : s.acceptsValue t 0 o e m v = true) (hu : (s.acceptedAt t).ownHigh? o e m v = some u) (hc : u.calm = true)
    (hrow : (memberRows.all fun r => !(r.object == o && decide (r.first ≤ m) && decide (m ≤ r.last)) ||
      (decide (0x5000 ≤ o) && classIn 0 r == 0 && r.acc != .w1c && r.ty != .blob && m != 0x10)) = true := by
        decide +kernel) : runs c s u := by
  obtain ⟨r, hr⟩ := acceptsValue_row ha
  obtain ⟨ho, hn⟩ := slotRow_owned hr hrow
  exact runs_calmWrite he ha (atOnce_of_now hn s) hu hc ho

/-- What the sections of a slot may change in a step (R204, R207). -/
def sectionFoot : Foot := ⟨[.loop], [(0x681005, 0x681005), (0x682007, 0x682007)]⟩

/-- A step of a slot that is not frozen is counted (R206), and what it raises leaves the code of the last
direct write. -/
theorem stepLoopMant_free {s : State} {n : Nat} (h : s.ve 0x6810 n 0x03 ≠ 1) (m0 : Int) :
    (s.stepLoopMant n m0 none).2.mgmt.lastCode = s.mgmt.lastCode ∧
      counted s (s.stepLoopMant n m0 none).2 0x6810 n 0x04 := by
  unfold State.stepLoopMant
  rw [if_neg h]
  extract_lets clear
  rcases satMant m0 with ⟨m, satIn⟩
  dsimp -zeta only
  extract_lets s0 r s3 s4
  have h0 : Keeps sectionFoot s s0 :=
    Keeps.optE (.refl _ s) fun _ => (State.slotFlag_keeps ..).mono (by decide +kernel)
  have hr : Keeps sectionFoot s r.s := Keeps.foldlOf LoopRun.s h0 fun q x => LoopRun.section_keeps n q x
  have hx := State.showLoop_keeps r.s n r.m r.e
  have hs : Keeps ⟨[.loop], [(0x681005, 0x681007), (0x68100A, 0x68100A), (0x682007, 0x682007)]⟩ s
      (r.s.showLoop n r.m r.e) := (hr.mono (by decide +kernel)).trans hx (by decide +kernel)
  have h3 : s3.mgmt.lastCode = s.mgmt.lastCode := (State.ince_keeps1 ..).lastCode_eq.trans hs.lastCode_eq
  have h4 : s4.mgmt.lastCode = s.mgmt.lastCode := (State.inc_keeps1 ..).lastCode_eq.trans h3
  have g4 : Keeps ⟨[.out, .clock, .mgmt], [(0x101107, 0x101107), (0x103003, 0x103003), (0x680201, 0x680201)]⟩
      s3 s4 := (State.inc_keeps1 ..).mono (by decide +kernel)
  split
  · split
    · exact ⟨(event_lastCode ..).trans h4, counted_between hs (g4.trans (State.event_keeps ..) (by decide +kernel))⟩
    · exact ⟨h4, counted_between hs g4⟩
  · exact ⟨h3, counted_between hs (.refl ⟨[], []⟩ s3)⟩

section
variable {s : State} {t slot v : Nat}

theorem freeInput_runs (ha : s.acceptsValue t 0 0x6810 slot 0x08 v = true) (hc : s.calm = true)
    (hs : 50 ≤ slot) (hf : s.ve 0x6810 slot 0x03 ≠ 1) :
    ∃ s', runs (.freeInput t slot v) s s' ∧ s'.mgmt.lastCode = 0 ∧ counted s s' 0x6810 slot 0x04 := by
  have hk := State.freeLoop_keeps (s.acceptedAt t) slot v
  have hcalm : ((s.acceptedAt t).freeLoop slot v).calm = true := (calm_congr hk.seq_eq hk.net_eq).trans hc
  obtain ⟨hl, hn⟩ := stepLoopMant_free (s := s.acceptedAt t) hf (toS 32 v)
  have hstep : (s.acceptedAt t).freeLoop slot v = ((s.acceptedAt t).stepLoopMant slot (toS 32 v) none).2 := if_pos hs
  exact ⟨_, runs_slotWrite rfl ha rfl hcalm, (congrArg (·.mgmt.lastCode) hstep).trans hl, hstep ▸ hn⟩

/-- A preset of a slot with sections sets the last one's newest output, and clears its inputs (R208). -/
theorem presetMant_shows {s : State} {n : Nat} (h : s.slotSections n ≠ 0) (p : Int) :
    (s.presetMant n p).secState n (s.slotSections n - 1) =
      { x1 := 0, x2 := 0, y1 := (satMant p).1, y2 := (satMant p).1 } := by
  unfold State.presetMant
  dsimp only
  rw [if_neg h]
  exact tget?_tset_self ..

theorem preset_runs (ha : s.acceptsValue t 0 0x6810 slot 0x09 v = true) (hc : s.calm = true)
    (hs : 50 ≤ slot) (hk0 : s.slotSections slot ≠ 0) :
    ∃ s', runs (.preset t slot v) s s' ∧ s'.mgmt.lastCode = 0 ∧
      (s'.secState slot (s.slotSections slot - 1)).y1 = (satMant (toS 32 v)).1 ∧
      (s'.secState slot (s.slotSections slot - 1)).x1 = 0 := by
  have hk := State.freePreset_keeps (s.acceptedAt t) slot v
  have hcalm : ((s.acceptedAt t).freePreset slot v).calm = true := (calm_congr hk.seq_eq hk.net_eq).trans hc
  have hset : (s.acceptedAt t).freePreset slot v = (s.acceptedAt t).presetMant slot (toS 32 v) := if_pos hs
  have hst : ((s.acceptedAt t).freePreset slot v).secState slot (s.slotSections slot - 1) =
      { x1 := 0, x2 := 0, y1 := (satMant (toS 32 v)).1, y2 := (satMant (toS 32 v)).1 } := by
    rw [hset]
    exact presetMant_shows (s := s.acceptedAt t) hk0 _
  exact ⟨_, runs_slotWrite rfl ha rfl hcalm, hk.lastCode_eq, congrArg Section.y1 hst, congrArg Section.x1 hst⟩

end

/-- Settles O27: each write reaches the act of its unit at once, and that act shows its effect. -/
theorem driveWrites : Obligations.DriveWrites :=
  ⟨fun _ _ _ ha hc => faultRearm_runs ha hc, fun _ _ _ ha hc => panelPower_runs ha hc,
    fun _ _ _ ha hc => linReset_runs ha hc, fun _ _ ha hc => wheelEnable_runs ha hc,
    fun _ _ ha hd hc h3 h7 => wheelBrake_brakes ha hd hc h3 h7, fun _ _ ha hd => wheelBrake_waits ha hd,
    fun _ _ _ ha hc => rearm_runs ha hc, fun _ _ _ _ ha hc hs hf => freeInput_runs ha hc hs hf,
    fun _ _ _ _ ha hc hs hk => preset_runs ha hc hs hk⟩

end Sys2Proof.Machine
end

section
set_option Elab.async false
namespace Sys2Proof.Machine

/-! ### Commands that name a course or a string -/

section
variable {c : Instr} {s u : State}

/-- A command that names a course. -/
theorem runs_course {course : Nat} (hc : course < 16) (he : exec c s = guarded (courseOk course) u) : runs c s u :=
  he.trans (guarded_next.2 ⟨decide_eq_true hc, rfl⟩)

/-- A command that names a string. -/
theorem runs_string {n : Nat} (hn : n < 48) (he : exec c s = guarded (decide (n < 48)) u) : runs c s u :=
  he.trans (guarded_next.2 ⟨decide_eq_true hn, rfl⟩)

end

/-! ### What the emission inhibit leaves of the bridge (R188, R189) -/

section
variable (s : State) (src : Nat)

/-- A fast source does to the bridge what the courses' going dark does to it. -/
theorem fastInhibit_bridge (courses : List Nat) :
    (s.fastInhibit src courses).bridge = (s.darken courses).bridge := by
  have hk : Keeps ⟨[], [(0x600103, 0x600103), (0x600201, 0x600201)]⟩ s ((s.put 0x6001 0x03 src).inc 0x6002 0x01) :=
    ((State.put_keeps1 ..).mono (by decide +kernel)).trans (State.inc_keeps1 ..) (by decide +kernel)
  simp only [State.fastInhibit, State.darken, State.cutSamples, State.emits, hk.bridge_eq, hk.now_eq]

/-- A source that blanks every string leaves the level of the inhibit input. -/
theorem blankAll_emitInh : (s.blankAll src).bridge.emitInh = s.bridge.emitInh := by
  unfold State.blankAll
  split
  · rfl
  · change ((s.holdDark src).fastInhibit src (List.range 16)).bridge.emitInh = _
    rw [fastInhibit_bridge]
    rfl

/-- A release changes neither the level of the inhibit input nor whether it is stuck. -/
theorem releaseAll_inhibit : (s.releaseAll src).bridge.emitInh = s.bridge.emitInh ∧
    (s.releaseAll src).bridge.stuck = s.bridge.stuck := by
  unfold State.releaseAll
  split
  · exact ⟨rfl, rfl⟩
  · split <;> exact ⟨rfl, rfl⟩

end

/-! ### Records of strings and courses -/

theorem str_congr {s u : State} (h : u.bridge = s.bridge) (n : Nat) : u.str n = s.str n :=
  congrArg (fun b : Bridge => tget StringRec.reset n b.strings) h

theorem course_congr {s u : State} (h : u.bridge = s.bridge) (c : Nat) : u.course c = s.course c :=
  congrArg (fun b : Bridge => tget CourseRec.reset c b.courses) h

@[simp] theorem str_putStr_self (s : State) (n : Nat) (x : StringRec) : (s.putStr n x).str n = x :=
  tget_tput_self ..

@[simp] theorem course_putCourse_self (s : State) (c : Nat) (x : CourseRec) : (s.putCourse c x).course c = x :=
  tget_tput_self ..

/-! ### Plucks and the emission inhibit input (R175, R187 to R189, R195) -/

section
variable {s : State} {t course : Nat}

/-- A course that is not lit does not pluck. -/
theorem doPluck_of_dark (h : s.courseLit course = false) : s.doPluck course = s :=
  if_pos (.inr (.inr (by rw [h]; rfl)))

/-- A pluck drives one gate, at the place of the slot's bit; that of bit 9 expects a sample. -/
theorem doPluck_of_lit (hr : s.seq.running = true) (hg : s.seq.inGap = false) (hl : s.courseLit course = true) :
    (s.doPluck course).out = s.out ++ [.gate (3 * course + s.bridge.slotColour)
        (s.bridge.slotStart + s.figures.settle + s.pluckPos s.figures s.bridge.slotBit -
          s.ve 0x6010 (3 * course + s.bridge.slotColour) 0x01)
        (s.bridge.slotStart + s.figures.settle + s.pluckPos s.figures s.bridge.slotBit +
          s.figures.dur s.bridge.slotBit - s.ve 0x6010 (3 * course + s.bridge.slotColour) 0x02)] ∧
      (s.doPluck course).bridge.expect.length =
        s.bridge.expect.length + (if s.bridge.slotBit = 9 then 1 else 0) := by
  unfold State.doPluck
  rw [if_neg (by simp [hr, hg, hl])]
  dsimp only
  split
  · exact ⟨rfl, List.length_append⟩
  · exact ⟨rfl, rfl⟩

theorem doEmitAssert_asserts (s : State) :
    s.doEmitAssert.bridge.emitInh = true ∧ 1 ∈ s.doEmitAssert.bridge.blank :=
  ⟨blankAll_emitInh .., mem_blank_blankAll ..⟩

theorem doEmitRelease_releases (hi : s.bridge.emitInh = true) (hc : (s.transitions inEmit 1).chatters inEmit = false) :
    s.doEmitRelease.bridge.emitInh = false ∧ s.doEmitRelease.bridge.stuck = false := by
  have hb : (s.transitions inEmit 1).bridge.emitInh = true :=
    (congrArg Bridge.emitInh (State.transitions_keeps ..).bridge_eq).trans hi
  unfold State.doEmitRelease
  dsimp only
  rw [if_pos hi, if_neg (by simp [hb, hc])]
  exact releaseAll_inhibit ..

/-- The input that stays asserted is counted once. -/
theorem doEmitStuck_counts (hi : s.bridge.emitInh = true) (hs : s.bridge.stuck = false) :
    s.doEmitStuck.bridge.stuck = true ∧ counted s s.doEmitStuck 0x6002 0 0x03 := by
  unfold State.doEmitStuck
  rw [if_neg (by simp [hi, hs])]
  have hx : Keeps ⟨[.bridge], []⟩ s ({ s with bridge := { s.bridge with stuck := true } } : State) :=
    .upd (.refl ..) (hb := .inl rfl)
  have hev := State.event_keeps (({ s with bridge := { s.bridge with stuck := true } } : State).inc 0x6002 0x03)
    0x6001 0 0x01 0
  exact ⟨congrArg Bridge.stuck ((State.log_keeps ..).bridge_eq.trans
    (hev.bridge_eq.trans (State.inc_keeps1 ..).bridge_eq)),
    counted_within (.refl ⟨[], []⟩ s) (counted_between hx hev) (State.log_keeps ..)⟩

/-- A frozen string falls back to open loop at a gain of 1, once. -/
theorem openLoopFallback_runs {n : Nat} (hn : n < 48) (hf : (s.str n).frozen = true)
    (ho : (s.str n).openLoop = false) : runs (.openLoopFallback t n) s
      (((s.enter t).putStr n { s.str n with openLoop := true, gainDue := some 32768 }).inc 0x6002 0x08) :=
  runs_string hn (congrArg (guarded (decide (n < 48))) (if_pos ⟨hf, by
    change (!(s.str n).openLoop) = true
    rw [ho]; rfl⟩))

theorem openLoopFallback_falls (t : Nat) {n : Nat} (hn : n < 48) (hf : (s.str n).frozen = true)
    (ho : (s.str n).openLoop = false) : ∃ s', runs (.openLoopFallback t n) s s' ∧ (s'.str n).openLoop = true ∧
      (s'.str n).gainDue = some 32768 ∧ counted s s' 0x6002 0 0x08 := by
  have hstr : ((((s.enter t).putStr n { s.str n with openLoop := true, gainDue := some 32768 }).inc
      0x6002 0x08).str n) = { s.str n with openLoop := true, gainDue := some 32768 } := by
    rw [str_congr (State.inc_keeps1 ..).bridge_eq, str_putStr_self]
  have hx : Keeps ⟨[.now, .out, .bridge], []⟩ s
      ((s.enter t).putStr n { s.str n with openLoop := true, gainDue := some 32768 }) :=
    ((State.enter_keeps s t).mono (by decide +kernel)).trans (State.putStr_keeps ..) (by decide +kernel)
  exact ⟨_, openLoopFallback_runs hn hf ho, by rw [hstr], by rw [hstr], counted_between hx (.refl ⟨[], []⟩ _)⟩

end

/-- Settles O34: each command's state is written out, and the parts it names are read from it. -/
theorem plucksAndInhibit : Obligations.PlucksAndInhibit := by
  refine ⟨fun s t course hc hr hg hl => ?_, fun s t course hc hd => ?_, fun s t => ?_, fun s t hi hc => ?_,
    fun s t hi hs => ?_, fun s t input hi => ?_, fun s t n hn hf ho => openLoopFallback_falls t hn hf ho⟩
  · exact ⟨_, runs_course hc rfl, doPluck_of_lit (s := s.enter t) hr hg hl⟩
  · have h := doPluck_of_dark (s := s.enter t) hd
    exact ⟨_, runs_course hc rfl, congrArg State.out h, (congrArg State.bridge h).trans rfl⟩
  · exact ⟨_, rfl, doEmitAssert_asserts _⟩
  · exact ⟨_, rfl, doEmitRelease_releases (s := s.enter t) hi hc⟩
  · have hx := doEmitStuck_counts (s := s.enter t) hi hs
    exact ⟨_, rfl, hx.1, counted_within (State.enter_keeps s t) hx.2 (.refl ⟨[], []⟩ _)⟩
  · exact ⟨_, guarded_next.2 ⟨decide_eq_true hi, rfl⟩, rfl, rfl, rfl⟩

end Sys2Proof.Machine
end

section
set_option Elab.async false
namespace Sys2Proof.Machine

/-! ### Frames down a course link (R182, R185) -/

section
variable (s : State) (c ty i : Nat) (m p : Bool) (code slot : Nat)

/-- A frame goes down with the sequence that the course is at. -/
theorem sendDown_out : (s.sendDown c ty i m p code slot).out =
    s.out ++ [.downlink c (downlink ty i m p code slot c (s.course c).seq)] := by
  unfold State.sendDown
  cases p <;> rfl

theorem sendDown_seq : ((s.sendDown c ty i m p code slot).course c).seq = ((s.course c).seq + 1) % 65536 := by
  have hx := congrArg CourseRec.seq
    (course_putCourse_self s c { s.course c with seq := ((s.course c).seq + 1) % 65536 })
  unfold State.sendDown
  cases p <;> exact hx

/-- A frame with P = 1 asks for one frame up. -/
theorem sendDown_expect : (s.sendDown c ty i m p code slot).bridge.expect.length =
    s.bridge.expect.length + p.toNat := by
  unfold State.sendDown
  cases p
  · rfl
  · exact List.length_append

end

/-- A frame goes down, after a step that drives nothing. -/
theorem outGrows_sendDown {s u : State} (h : u.out = s.out) (c ty i : Nat) (m p : Bool) (code slot : Nat) :
    OutGrows (s.emit (.downlink c (downlink ty i m p code slot c (u.course c).seq)))
      (u.sendDown c ty i m p code slot) := by
  rw [OutGrows, sendDown_out, h]
  exact List.prefix_rfl

/-- What each step of a run over a list drives stands at its end. -/
theorem exists_out_foldl {α : Type} {f : State → α → State} {P : α → Output → Prop} {l : List α} {a : α}
    (h : ∀ x b, ∃ o, P b o ∧ OutGrows (x.emit o) (f x b)) (ha : a ∈ l) (s : State) :
    ∃ o ∈ (l.foldl f s).out, P a o := by
  obtain ⟨l₁, l₂, rfl⟩ := List.append_of_mem ha
  have hg : ∀ x b, OutGrows x (f x b) := fun x b =>
    have ⟨o, _, ho⟩ := h x b
    (outGrows_emit x o).trans ho
  obtain ⟨o, hP, ho⟩ := h (l₁.foldl f s) a
  rw [List.foldl_append, List.foldl_cons]
  exact ⟨o, (ho.trans (OutGrows.foldl hg ..)).mem (List.mem_append_right _ (List.mem_singleton_self o)), hP⟩

/-! ### Configure and poll frames, the reference window, pilots, the drone period (R184, R186, R191, R200) -/

section
variable {s : State} {t course : Nat}

/-- A configure frame alone: display runs, so no poll frame follows. -/
theorem coursePollTimer_configures (hc : course < 16) (hl : s.ve 0x6020 course 0x04 ≤ 1)
    (hr : s.seq.running = true) :
    runs (.coursePollTimer t course) s ((s.enter t).sendDown course 4 3 false true 0 31) := by
  refine runs_course hc (congrArg (guarded (courseOk course)) ?_)
  rw [if_pos (show (s.enter t).ve 0x6020 course 0x04 ≤ 1 from hl),
    if_pos (by rw [(State.sendDown_keeps ..).seq_eq]; exact hr)]

/-- A poll frame alone: the link is past its configuration. -/
theorem coursePollTimer_polls (hc : course < 16) (hl : 1 < s.ve 0x6020 course 0x04)
    (hr : s.seq.running = false) :
    runs (.coursePollTimer t course) s ((s.enter t).sendDown course 3 3 false true 0 31) := by
  refine runs_course hc (congrArg (guarded (courseOk course)) ?_)
  rw [if_neg (show ¬ (s.enter t).ve 0x6020 course 0x04 ≤ 1 from Nat.not_le.2 hl),
    if_neg (show ¬ (s.enter t).seq.running = true from Bool.eq_false_iff.1 hr)]

/-- Both frames. -/
theorem coursePollTimer_configuresAndPolls (hc : course < 16) (hl : s.ve 0x6020 course 0x04 ≤ 1)
    (hr : s.seq.running = false) : runs (.coursePollTimer t course) s
      (((s.enter t).sendDown course 4 3 false true 0 31).sendDown course 3 3 false true 0 31) := by
  refine runs_course hc (congrArg (guarded (courseOk course)) ?_)
  rw [if_pos (show (s.enter t).ve 0x6020 course 0x04 ≤ 1 from hl),
    if_neg (by rw [(State.sendDown_keeps ..).seq_eq]; exact Bool.eq_false_iff.1 hr)]

/-- A window that fits opens. -/
theorem doWindow_opens (hr : s.seq.running = true) (hf : s.windowFits = true) :
    s.doWindow.bridge.window = some (s.seq.frameStart + s.v 0x6800 0x0D) := by
  unfold State.doWindow
  rw [if_neg (by simp [hr]), if_pos hf]

/-- A window that does not fit is counted. -/
theorem doWindow_counts (hr : s.seq.running = true) (hf : s.windowFits = false) :
    s.doWindow.bridge.window = none ∧ counted s s.doWindow 0x6802 0 0x07 := by
  unfold State.doWindow
  rw [if_neg (by simp [hr]), if_neg (Bool.eq_false_iff.1 hf)]
  have hx : Keeps ⟨[.bridge], []⟩ s ({ s with bridge := { s.bridge with window := none } } : State) :=
    .upd (.refl ..) (hb := .inl rfl)
  exact ⟨congrArg Bridge.window (State.inc_keeps1 ..).bridge_eq, counted_between hx (.refl ⟨[], []⟩ _)⟩

/-- A pilot of a course that is lit ends by driving its gate and by expecting its sample. -/
theorem doPilot_lit {pilot w : Nat} (hw : s.bridge.window = some w) (hl : s.courseLit course = true) :
    ∃ (u : State) (seq : Nat), s.doPilot course pilot =
      (u.emit (.gate (3 * course + pilot % 3)
        (w + 20000 * pilot + 10000 - s.ve 0x6010 (3 * course + pilot % 3) 0x01)
        (w + 20000 * pilot + 18000 - s.ve 0x6010 (3 * course + pilot % 3) 0x02))).expect
      { course := course, kind := 2, string := 3 * course + pilot % 3, amp := pilotAmp pilot (s.v 0x5001 0x01),
        seq := seq, fall := w + 20000 * pilot + 18000 - s.ve 0x6010 (3 * course + pilot % 3) 0x02 } := by
  unfold State.doPilot
  rw [hw]
  extract_lets n a lit
  obtain ⟨code, s1⟩ := s.code n a 32768
  dsimp -zeta only
  extract_lets seq s2 t fall
  rw [if_pos hl]
  exact ⟨s2, seq, rfl⟩

/-- The gates of the last drone period have no part in the permission. -/
theorem permitted_dropGates (s : State) :
    ({ s with bridge := { s.bridge with droneGates := [] } } : State).permitted = s.permitted := rfl

/-- A drone period that is permitted sends a frame down every course. -/
theorem doDronePeriod_sends (hd : s.v 0x5001 0x03 = 4) (hp : s.fretBridge.permitted = true) {c : Nat} (hc : c < 16) :
    ∃ f, Output.downlink c f ∈ s.doDronePeriod.out := by
  have hsent : ∃ o ∈ s.doDronePeriod.out, ∃ f, o = Output.downlink (c % 16) f := by
    unfold State.doDronePeriod
    extract_lets s0 bridge s1
    have hp1 : s1.permitted = true := (permitted_dropGates s0).trans hp
    split
    next h => exact absurd hd h
    next =>
      split
      next h => rw [hp1] at h; exact Bool.noConfusion h
      next =>
        refine exists_out_foldl (P := fun b o => ∃ f, o = Output.downlink (b % 16) f) (fun x b => ?_)
          (List.mem_range.2 (Nat.lt_trans hc (by decide))) _
        extract_lets +onlyGivenNames i c n
        have hcode : (x.code n 1 32768).2.out = x.out :=
          (State.code_keeps ..).out.resolve_left (Bool.eq_false_iff.1 rfl)
        generalize x.code n 1 32768 = y at hcode ⊢
        obtain ⟨code, st⟩ := y
        dsimp -zeta only
        extract_lets t fall rise lit u
        have hu : OutGrows _ u := outGrows_sendDown hcode ..
        refine ⟨_, ⟨_, rfl⟩, hu.trans ?_⟩
        split
        · exact (OutGrows.ofKeeps (.upd (.refl ⟨[.bridge], []⟩ _) (hb := .inl rfl))).trans (outGrows_emit ..)
        · exact .refl _
  obtain ⟨_, ho, f, rfl⟩ := hsent
  exact ⟨f, by rwa [Nat.mod_eq_of_lt hc] at ho⟩

end

/-- Settles O35: the frames and the gate that each timer drives are written out; a drone period's frames stand
among its outputs because outputs are only added. -/
theorem courseTimers : Obligations.CourseTimers := by
  refine ⟨fun s t c hc hl hr => ?_, fun s t c hc hl hr => ?_, fun s t hr hf => ?_, fun s t hr hf => ?_,
    fun s t c pilot w hc hp hw hl => ?_, fun s t hd hp => ?_, fun s t c hc hl hr => ?_⟩
  · exact ⟨_, coursePollTimer_configures hc hl hr, sendDown_out .., sendDown_seq .., sendDown_expect ..⟩
  · exact ⟨_, coursePollTimer_polls hc hl hr, sendDown_out .., sendDown_seq .., sendDown_expect ..⟩
  · exact ⟨_, rfl, doWindow_opens (s := s.enter t) hr hf⟩
  · have hx := doWindow_counts (s := s.enter t) hr hf
    exact ⟨_, rfl, hx.1, counted_within (State.enter_keeps s t) hx.2 (.refl ⟨[], []⟩ _)⟩
  · obtain ⟨u, seq, hx⟩ := doPilot_lit (s := s.enter t) (course := c) (pilot := pilot) hw hl
    exact ⟨_, guarded_next.2 ⟨Bool.and_eq_true_iff.2 ⟨decide_eq_true hc, decide_eq_true hp⟩, rfl⟩,
      by rw [hx]; exact List.mem_append_right _ (List.mem_singleton_self _), _,
      (congrArg (fun u : State => u.bridge.expect.getLast?) hx).trans (List.getLast?_concat ..), rfl, rfl, rfl, rfl⟩
  · exact ⟨_, rfl, fun c hc => doDronePeriod_sends (s := s.enter t) hd hp hc⟩
  · refine ⟨_, coursePollTimer_configuresAndPolls hc hl hr, ?_, ?_⟩
    · rw [sendDown_out, sendDown_out, sendDown_seq]
      rfl
    · rw [sendDown_expect, sendDown_expect]
      rfl

end Sys2Proof.Machine
end

section
set_option Elab.async false
namespace Sys2Proof.Machine

/-! ### What follows a good sample (R192 to R195) -/

/-- What may change once a sample's member shows it. -/
def sampleFoot : Foot := ⟨[.out, .bridge, .loop, .clock, .mgmt], [(0x101107, 0x101107), (0x103003, 0x103003),
  (0x600207, 0x600207), (0x60020B, 0x60020B), (0x680201, 0x680201), (0x681003, 0x681007), (0x68100A, 0x68100A),
  (0x682007, 0x682007)]⟩

/-- A sample's consequences stay with its string: the samples of the strings read as before, and so do the
frames that are expected and the courses. -/
structure StringActs (s u : State) : Prop where
  keeps : Keeps sampleFoot s u
  expect : u.bridge.expect = s.bridge.expect
  courses : u.bridge.courses = s.bridge.courses

namespace StringActs

variable {F : Foot} {s u w : State}

theorem refl (s : State) : StringActs s s := ⟨.refl _ _, rfl, rfl⟩

theorem trans (h : StringActs s u) (g : StringActs u w) : StringActs s w :=
  ⟨h.keeps.trans g.keeps (Foot.sub_refl _), g.expect.trans h.expect, g.courses.trans h.courses⟩

theorem ofKeeps (h : Keeps F s u) (hs : F.sub sampleFoot = true := by decide +kernel)
    (hf : F.parts.contains .bridge = false := by rfl) : StringActs s u :=
  ⟨h.mono hs, congrArg Bridge.expect (h.bridge_eq hf), congrArg Bridge.courses (h.bridge_eq hf)⟩

theorem putStr (s : State) (n : Nat) (x : StringRec) : StringActs s (s.putStr n x) :=
  ⟨(State.putStr_keeps ..).mono (by decide +kernel), rfl, rfl⟩

theorem ite {c : Prop} [Decidable c] {a b : State} (ha : StringActs s a) (hb : StringActs s b) :
    StringActs s (if c then a else b) := by
  split
  · exact ha
  · exact hb

theorem course (h : StringActs s u) (c : Nat) : u.course c = s.course c :=
  congrArg (tget CourseRec.reset c) h.courses

end StringActs

section
variable (s : State) (n : Nat)

theorem freezeCheck_stringActs : StringActs s (s.freezeCheck n) :=
  .ite (.refl s) (((StringActs.putStr ..).trans (.ofKeeps (State.freezeLoop_keeps ..))).trans
    (.ofKeeps (State.inc_keeps1 ..)))

theorem thawCheck_stringActs : StringActs s (s.thawCheck n) :=
  .ite (((StringActs.putStr ..).trans (.ofKeeps (State.presetLoop_keeps ..))).trans
    (.ofKeeps (State.freezeLoop_keeps ..))) (.refl s)

theorem trimStep_stringActs (a s1 sa : Nat) : StringActs s (s.trimStep n a s1 sa) := by
  unfold State.trimStep
  extract_lets x cur
  split
  next new st heq =>
    have hst : StringActs s st := by
      split at heq
      · obtain rfl : (s.draw 2623).2 = st := congrArg Prod.snd heq
        exact .ofKeeps (State.draw_keeps ..)
      · obtain rfl : s = st := congrArg Prod.snd heq
        exact .refl s
    have hput := fun y => hst.trans (.putStr st n y)
    exact .ite ((hput _).trans (.ofKeeps (State.inc_keeps1 ..))) (hput _)

/-- A monitor sample is shown, and its string may freeze. -/
theorem monitor_stringActs (v : Nat) : StringActs (s.pute 0x6010 n 0x04 v) (s.monitor n (some v)) := by
  unfold State.monitor
  dsimp only
  exact .ite (.putStr ..) ((StringActs.putStr ..).trans (freezeCheck_stringActs ..))

/-- A first pilot sample is shown, and its string may thaw or its loop take a step. -/
theorem pilotFirst_stringActs (v : Nat) : StringActs (s.pute 0x6010 n 0x05 v) (s.pilotFirst n v) := by
  unfold State.pilotFirst
  extract_lets string s1
  have h1 : StringActs (s.pute 0x6010 n 0x05 v) s1 := .putStr ..
  refine .ite (h1.trans (thawCheck_stringActs ..)) (.ite h1 ?_)
  have hin := State.loopInput_keeps s1 n v
  generalize s1.loopInput n v = input at hin ⊢
  obtain ⟨e, s2⟩ := input
  have hstep := State.stepLoop_keeps s2 n e 32768 gainDest
  dsimp -zeta only
  generalize s2.stepLoop n e 32768 gainDest = output at hstep ⊢
  exact ((h1.trans (.ofKeeps hin)).trans (.ofKeeps hstep)).trans (.putStr ..)

end

/-! ### What follows a good status frame (R185, R186, R188, R197) -/

/-- What may change once a status frame's members show it. -/
def statusFoot : Foot := ⟨[.out, .bridge], [(0x600103, 0x600103), (0x600201, 0x600201), (0x600204, 0x600204),
  (0x602004, 0x602004), (0x602006, 0x602006)]⟩

/-- A status frame's consequences: what it showed stands, and so does the count of frames lost in a row. -/
structure StatusActs (c : Nat) (s u : State) : Prop where
  keeps : Keeps statusFoot s u
  lost : (u.course c).lost = (s.course c).lost

namespace StatusActs

variable {F : Foot} {c : Nat} {s u w : State}

theorem refl (s : State) : StatusActs c s s := ⟨.refl _ _, rfl⟩

theorem trans (h : StatusActs c s u) (g : StatusActs c u w) : StatusActs c s w :=
  ⟨h.keeps.trans g.keeps (Foot.sub_refl _), g.lost.trans h.lost⟩

theorem ofKeeps (h : Keeps F s u) (hs : F.sub statusFoot = true := by decide +kernel)
    (hf : F.parts.contains .bridge = false := by rfl) : StatusActs c s u :=
  ⟨h.mono hs, by rw [course_congr (h.bridge_eq hf)]⟩

theorem putCourse {x : CourseRec} (h : x.lost = (s.course c).lost := by rfl) : StatusActs c s (s.putCourse c x) :=
  ⟨(State.putCourse_keeps ..).mono (by decide +kernel), by rw [course_putCourse_self, h]⟩

theorem fastInhibit (s : State) (src : Nat) (courses : List Nat) : StatusActs c s (s.fastInhibit src courses) :=
  ⟨(State.fastInhibit_keeps ..).mono (by decide +kernel),
    (congrArg (fun b : Bridge => (tget CourseRec.reset c b.courses).lost) (fastInhibit_bridge ..)).trans rfl⟩

theorem ite {p : Prop} [Decidable p] {a b : State} (ha : StatusActs c s a) (hb : StatusActs c s b) :
    StatusActs c s (if p then a else b) := by
  split
  · exact ha
  · exact hb

end StatusActs

theorem courseBand_statusActs (s : State) (c : Nat) (T : Int) : StatusActs c s (s.courseBand c T) := by
  unfold State.courseBand
  dsimp only
  exact .ite (.refl s) (.ite .putCourse (.refl s))

/-- A good status frame ends a run of lost ones, and shows the case temperature and the driver's flags. -/
theorem statusUp_shows (s : State) (c : Nat) (f : BitVec 64) :
    (s.statusUp c f).ve 0x6020 c 0x02 = ofS 16 (toS 16 (upValue f)) ∧
      (s.statusUp c f).ve 0x6020 c 0x05 = upFlags f ∧ ((s.statusUp c f).course c).lost = 0 := by
  unfold State.statusUp
  extract_lets T fl s0 s1 s2 r s3 r3 flagged s4 x s5
  have h2 : StatusActs c s1 s2 :=
    .ite ((StatusActs.ofKeeps (State.ince_keeps1 ..)).trans (.ofKeeps (State.inc_keeps1 ..))) (.refl _)
  have h3 : StatusActs c s2 s3 :=
    .ite (.refl _) (.ite ((StatusActs.ofKeeps (State.pute_keeps1 ..)).trans .putCourse) .putCourse)
  have hflagged : StatusActs c s3 flagged := .putCourse
  have h4 : StatusActs c s3 s4 :=
    .ite (.ite hflagged (hflagged.trans (.fastInhibit ..))) (.ite .putCourse (.refl _))
  have h5 : StatusActs c s4 s5 := .ite .putCourse (.refl _)
  have h : StatusActs c s1 (s5.courseBand c T) := (((h2.trans h3).trans h4).trans h5).trans (courseBand_statusActs ..)
  refine ⟨?_, ?_, ?_⟩
  · rw [h.keeps.ve 0x6020 c 0x02 (by decide +kernel), ve_pute_ne (by unfold mkey; omega), ve_pute_self]
  · rw [h.keeps.ve 0x6020 c 0x05 (by decide +kernel), ve_pute_self]
  · exact h.lost.trans (congrArg CourseRec.lost (course_putCourse_self ..))

/-! ### Frames that come up (R183 to R186, R192, R194) -/

section
variable {s : State} {c : Nat} {f : BitVec 64} {x : Expect}

/-- A sample answers the frame that asked for it, and its member shows it to the end. -/
theorem StringActs.shown {u : State} {m v : Nat}
    (h : StringActs (((s.unexpect x).courseHeard c).pute 0x6010 x.string m v) u)
    (hm : sampleFoot.free (mkey 0x6010 0 m) = true := by decide +kernel) :
    u.bridge.expect = s.bridge.expect.erase x ∧ u.ve 0x6010 x.string m = v ∧ (u.course c).lost = 0 :=
  ⟨h.expect, (h.keeps.ve 0x6010 x.string m hm).trans (ve_pute_self ..),
    congrArg CourseRec.lost ((h.course c).trans (course_putCourse_self (s.unexpect x) c _))⟩

/-- A good monitor sample is shown at its string. -/
theorem monitorUp_shows (hx : s.asked c (upSeq f) [1] = some x) :
    (s.monitorUp c f).bridge.expect = s.bridge.expect.erase x ∧
      (s.monitorUp c f).ve 0x6010 x.string 0x04 = upValue f ∧ ((s.monitorUp c f).course c).lost = 0 := by
  unfold State.monitorUp
  rw [hx]
  exact StringActs.shown (monitor_stringActs ..)

/-- A good pilot sample is shown at its string, in the member of its amplitude. -/
theorem pilotUp_shows (hx : s.asked c (upSeq f) [2, 4] = some x) (hk : x.kind ≠ 4) :
    (s.pilotUp c f).bridge.expect = s.bridge.expect.erase x ∧
      (s.pilotUp c f).ve 0x6010 x.string (if x.amp = 1 then 0x05 else 0x06) = upValue f ∧
      ((s.pilotUp c f).course c).lost = 0 := by
  unfold State.pilotUp
  rw [hx]
  dsimp only
  rw [if_neg hk]
  split
  · exact StringActs.shown (pilotFirst_stringActs ..)
  · split
    · exact StringActs.shown (.ite (trimStep_stringActs ..) (.refl _))
    · exact StringActs.shown (.refl _)

/-- What a lost frame may change beside its two counters. -/
def lostFoot : Foot := ⟨[.out, .bridge, .health], [(0x600103, 0x600103), (0x600201, 0x600201),
  (0x600206, 0x600207), (0x601004, 0x601004), (0x602004, 0x602004), (0x681003, 0x681003)]⟩

theorem lostUp_keepsCounts (s : State) (x : Expect) :
    Keeps lostFoot (((s.unexpect x).ince 0x6020 x.course 0x07).inc 0x6002 0x05) (s.lostUp x) := by
  unfold State.lostUp
  extract_lets c s1 s2 r s3
  have h2 : Keeps lostFoot s1 s2 :=
    .optE (.refl _ _) fun _ => (State.monitor_keeps s1 x.string none).mono (by decide +kernel)
  have h3 : Keeps lostFoot s1 s3 := h2.trans (State.putCourse_keeps ..) (by decide +kernel)
  exact .optE h3 fun _ => (State.loseLink_keeps ..).mono (by decide +kernel)

/-- The oldest frame that a course owes is counted as lost, at the course and at the bridge. -/
theorem loseOldest_counts (t : Nat) (hx : s.bridge.expect.find? (fun y => y.course == c) = some x) :
    counted s ((s.enter t).loseOldest c) 0x6020 c 0x07 ∧ counted s ((s.enter t).loseOldest c) 0x6002 0 0x05 := by
  have hc : x.course = c := beq_iff_eq.1 (List.find?_some (p := fun y : Expect => y.course == c) hx)
  have hlose : (s.enter t).loseOldest c = (s.enter t).lostUp x := by
    unfold State.loseOldest
    rw [show (s.enter t).bridge.expect.find? (fun y => y.course == c) = some x from hx]
  have hbefore : Keeps ⟨[.now, .out, .bridge], []⟩ s ((s.enter t).unexpect x) :=
    ((State.enter_keeps s t).mono (by decide +kernel)).trans (State.unexpect_keeps ..) (by decide +kernel)
  have hbetween : Keeps ⟨[.now, .out, .bridge], [(0x602007, 0x602007)]⟩ s
      (((s.enter t).unexpect x).ince 0x6020 c 0x07) :=
    (hbefore.mono (by decide +kernel)).trans (State.ince_keeps1 ..) (by decide +kernel)
  have hafter := lostUp_keepsCounts (s.enter t) x
  rw [hc] at hafter
  rw [hlose]
  exact ⟨counted_within (.refl ⟨[], []⟩ s) (counted_between hbefore (State.inc_keeps1 ..)) hafter,
    counted_between hbetween hafter⟩

/-! A good frame goes to the act of its type. -/

theorem uplink_monitor (hf : upGood f = true) (ht : upType f = 1) : s.uplink c f = s.monitorUp c f := by
  simp [State.uplink, hf, ht]

theorem uplink_pilot (hf : upGood f = true) (ht : upType f = 2) : s.uplink c f = s.pilotUp c f := by
  simp [State.uplink, hf, ht]

theorem uplink_status (hf : upGood f = true) (ht : upType f = 3) : s.uplink c f = s.statusUp c f := by
  simp [State.uplink, hf, ht]

end

/-- Settles O36: what a sample or a status frame sets off leaves alone what the frame brought, and what a lost
frame sets off leaves its counters alone. -/
theorem uplinkFrames : Obligations.UplinkFrames := by
  refine ⟨fun s t c f x hc hf ht hx => ?_, fun s t c f x hc hf ht hx hk => ?_, fun s t c f hc hf ht => ?_,
    fun s t c f x hc hf hx => ?_, fun s t c x hc hx => ?_⟩
  · obtain ⟨he, hv, hl⟩ := monitorUp_shows (s := s.enter t) hx
    exact ⟨_, runs_course hc (congrArg (guarded (courseOk c)) (uplink_monitor hf ht)), hv, he, hl⟩
  · obtain ⟨he, hv, -⟩ := pilotUp_shows (s := s.enter t) hx hk
    exact ⟨_, runs_course hc (congrArg (guarded (courseOk c)) (uplink_pilot hf ht)), he, hv⟩
  · exact ⟨_, runs_course hc (congrArg (guarded (courseOk c)) (uplink_status hf ht)), statusUp_shows ..⟩
  · exact ⟨_, runs_course hc (congrArg (guarded (courseOk c)) (if_neg (Bool.eq_false_iff.1 hf))),
      loseOldest_counts t hx⟩
  · exact ⟨_, runs_course hc rfl, loseOldest_counts t hx⟩

end Sys2Proof.Machine
end

section
set_option Elab.async false
namespace Sys2Proof.Machine

/-! ### Check values fit their fields (R387) -/

theorem crcShiftRef_lt {poly w : Nat} (hp : poly < 2 ^ w) (k : Nat) {c : Nat} (hc : c < 2 ^ w) :
    crcShiftRef poly k c < 2 ^ w := by
  induction k generalizing c with
  | zero => exact hc
  | succ k ih =>
    have hhalf : c / 2 < 2 ^ w := (Nat.div_le_self ..).trans_lt hc
    rw [crcShiftRef]
    split
    · exact ih (Nat.xor_lt_two_pow hhalf hp)
    · exact ih hhalf

theorem crcShift_lt {poly w : Nat} (hp : poly < 2 ^ (w + 1)) (k : Nat) {c : Nat} (hc : c < 2 ^ (w + 1)) :
    crcShift (w + 1) poly k c < 2 ^ (w + 1) := by
  induction k generalizing c with
  | zero => exact hc
  | succ k ih =>
    rw [crcShift, Nat.add_sub_cancel]
    split
    · exact ih (Nat.xor_lt_two_pow (Nat.mod_lt _ (Nat.two_pow_pos _)) hp)
    · exact ih (by rw [pow_succ]; omega)

/-- A register that each byte keeps within its width ends within it. -/
theorem crcOf_lt {kind w : Nat} (hi : crcInit kind < 2 ^ w) (hf : ∀ c < 2 ^ w, crcFinal kind c < 2 ^ w)
    (hb : ∀ c < 2 ^ w, ∀ b : Byte, crcByte kind c b.toNat < 2 ^ w) (bs : Bytes) : crcOf kind bs < 2 ^ w :=
  hf _ (List.foldlRecOn (motive := (· < 2 ^ w)) bs _ hi fun c hc b _ => hb c hc b)

theorem crc32c_lt (bs : Bytes) : crc32c bs < 256 ^ 4 :=
  crcOf_lt (kind := 0) (w := 32) (by decide) (fun _ hc => Nat.xor_lt_two_pow hc (by decide))
    (fun _ hc b => crcShiftRef_lt (by decide) 8 (Nat.xor_lt_two_pow hc (b.isLt.trans (by decide)))) bs

theorem crc8_lt (bs : Bytes) : crc8 bs < 256 :=
  crcOf_lt (kind := 3) (w := 8) (by decide) (fun _ hc => hc)
    (fun _ hc b => crcShift_lt (w := 7) (by decide) 8 (Nat.xor_lt_two_pow hc b.isLt)) bs

/-! ### Numbers spelled as bytes (R5) -/

@[simp] theorem beBytes_length (n v : Nat) : (beBytes n v).length = n := by
  induction n with
  | zero => rfl
  | succ n ih => rw [beBytes, List.length_cons, ih]

/-- Reading on through the bytes of a number. -/
theorem foldl_beBytes (n v a : Nat) :
    (beBytes n v).foldl (fun x b => x * 256 + b.toNat) a = a * 256 ^ n + v % 256 ^ n := by
  induction n generalizing a with
  | zero => simp [beBytes, Nat.mod_one]
  | succ n ih =>
    have hlead : (BitVec.ofNat 8 (v / 256 ^ n)).toNat = v / 256 ^ n % 256 := BitVec.toNat_ofNat ..
    have hsplit : v % (256 ^ n * 256) = v % 256 ^ n + 256 ^ n * (v / 256 ^ n % 256) := Nat.mod_mul
    rw [beBytes, List.foldl_cons, ih, hlead, pow_succ, hsplit]
    ring

/-- A field reads back the number that was spelled there. -/
theorem field_beBytes {pre : Bytes} {o n v : Nat} (ho : pre.length = o) (hv : v < 256 ^ n) (post : Bytes) :
    field (pre ++ (beBytes n v ++ post)) o n = v := by
  rw [field, slice, ← ho, List.drop_left, List.take_left' (beBytes_length n v), beNat, foldl_beBytes,
    Nat.zero_mul, Nat.zero_add, Nat.mod_eq_of_lt hv]

/-! ### Blocks (R240) -/

/-- The 66 bytes of a block that its CRC covers. -/
def blockHead (ty seq : Nat) (payload : Bytes) : Bytes := beBytes 2 (ty * 4096 + seq) ++ payload

section
variable {ty seq : Nat} {payload : Bytes}

theorem mkBlock_eq (hs : seq < 4096) (hp : payload.length = 64) : mkBlock ty seq payload =
    blockHead ty seq payload ++ beBytes 4 (crc32c (blockHead ty seq payload)) := by
  have hpad : (payload ++ zeros (64 - payload.length)).take 64 = payload := List.take_left' hp
  unfold mkBlock
  rw [hpad, Nat.mod_eq_of_lt hs]
  rfl

theorem blockHead_length (hp : payload.length = 64) : (blockHead ty seq payload).length = 66 := by
  rw [blockHead, List.length_append, beBytes_length, hp]

/-- A block passes its check. -/
theorem blockOk_mkBlock (hs : seq < 4096) (hp : payload.length = 64) : blockOk (mkBlock ty seq payload) = true := by
  have hcrc := field_beBytes (blockHead_length (ty := ty) (seq := seq) hp) (crc32c_lt (blockHead ty seq payload)) []
  rw [List.append_nil] at hcrc
  rw [mkBlock_eq hs hp, blockOk, hcrc, List.take_left' (blockHead_length hp), List.length_append,
    blockHead_length hp, beBytes_length]
  exact beq_self_eq_true _

/-- The first two bytes of a block hold its type and its sequence. -/
theorem field_mkBlock (ht : ty < 16) (hs : seq < 4096) (hp : payload.length = 64) :
    field (mkBlock ty seq payload) 0 2 = ty * 4096 + seq := by
  rw [mkBlock_eq hs hp, blockHead, List.append_assoc]
  exact field_beBytes (pre := []) rfl (by omega) _

theorem blockPayload_mkBlock (hs : seq < 4096) (hp : payload.length = 64) :
    blockPayload (mkBlock ty seq payload) = payload := by
  rw [mkBlock_eq hs hp, blockHead, List.append_assoc, blockPayload, slice,
    List.drop_left' (beBytes_length ..), List.take_left' hp]

end

/-! ### Frames of course links and of the drive link (R181, R216) -/

/-- A frame of `n` upper bytes and their CRC-8. -/
def crcFrame (n upper : Nat) : Nat := upper * 256 + crc8 (beBytes n upper)

theorem crcFrame_div (n upper : Nat) : crcFrame n upper / 256 = upper := by
  have h := crc8_lt (beBytes n upper)
  unfold crcFrame
  omega

/-- A frame passes its check. -/
theorem crcFrame_checks (n upper : Nat) : crc8 (beBytes n (crcFrame n upper / 256)) = crcFrame n upper % 256 := by
  have h := crc8_lt (beBytes n upper)
  rw [crcFrame_div]
  unfold crcFrame
  omega

theorem crcFrame_lt {n upper : Nat} (hu : upper < 256 ^ n) : crcFrame n upper < 256 ^ (n + 1) := by
  have h := crc8_lt (beBytes n upper)
  unfold crcFrame
  rw [pow_succ]
  omega

/-- What a downlink frame carries above its CRC (R182). -/
def downlinkUpper (ty i : Nat) (m p : Bool) (code slot course seq : Nat) : Nat :=
  ty * 2 ^ 52 + i * 2 ^ 50 + m.toNat * 2 ^ 49 + p.toNat * 2 ^ 48 + code * 2 ^ 32 + slot * 2 ^ 27 + course * 2 ^ 16 + seq

section
variable {ty i code slot course seq : Nat}

theorem downlink_toNat (m p : Bool) (ht : ty < 16) (hi : i < 4) (hc : code < 2 ^ 16) (hl : slot < 32)
    (hu : course < 2 ^ 11) (hs : seq < 2 ^ 16) : (downlink ty i m p code slot course seq).toNat =
      crcFrame 7 (downlinkUpper ty i m p code slot course seq) := by
  have hlt : downlinkUpper ty i m p code slot course seq < 256 ^ 7 := by
    have hm := m.toNat_lt
    have hp := p.toNat_lt
    unfold downlinkUpper
    omega
  have hup : ty * 2 ^ 52 + i * 2 ^ 50 + (if m then 2 ^ 49 else 0) + (if p then 2 ^ 48 else 0) +
      code * 2 ^ 32 + slot * 2 ^ 27 + course * 2 ^ 16 + seq % 65536 = downlinkUpper ty i m p code slot course seq := by
    rw [Nat.mod_eq_of_lt (show seq < 65536 from hs)]
    cases m <;> cases p <;> rfl
  unfold downlink
  rw [hup]
  exact (BitVec.toNat_ofNat ..).trans (Nat.mod_eq_of_lt (crcFrame_lt hlt))

end

/-- What a drive command carries above its CRC (R217). -/
def driveUpper (ty : Nat) (torque : Int) (seq : Nat) (enabled : Bool) : Nat :=
  ty * 2 ^ 36 + ofS 16 torque * 2 ^ 16 + seq * 2 ^ 8 + enabled.toNat

theorem ofS_lt (w : Nat) (i : Int) : ofS w i < 2 ^ w := by
  have hpos : (0 : Int) < 2 ^ w := by positivity
  have h : i % 2 ^ w < ((2 ^ w : Nat) : Int) := by
    push_cast
    exact Int.emod_lt_of_pos i hpos
  exact (Int.toNat_lt (Int.emod_nonneg i hpos.ne')).2 h

theorem driveFrame_toNat {ty seq : Nat} (ht : ty < 16) (hs : seq < 256) (torque : Int) (enabled : Bool) :
    (driveFrame ty torque seq enabled).toNat = crcFrame 5 (driveUpper ty torque seq enabled) := by
  have hlt : driveUpper ty torque seq enabled < 256 ^ 5 := by
    have htorque := ofS_lt 16 torque
    have he := enabled.toNat_lt
    unfold driveUpper
    omega
  have hup : ty * 2 ^ 36 + ofS 16 torque * 2 ^ 16 + seq % 256 * 2 ^ 8 + (if enabled then 1 else 0) =
      driveUpper ty torque seq enabled := by
    rw [Nat.mod_eq_of_lt hs]
    cases enabled <;> rfl
  unfold driveFrame
  rw [hup]
  exact (BitVec.toNat_ofNat ..).trans (Nat.mod_eq_of_lt (crcFrame_lt hlt))

/-- A field above the CRC is a field of the upper bits. -/
theorem crcFrame_div_pow (n upper k : Nat) : crcFrame n upper / 2 ^ (8 + k) = upper / 2 ^ k := by
  rw [pow_add, ← Nat.div_div_eq_div_mul]
  exact congrArg (· / 2 ^ k) (crcFrame_div n upper)

/-- Settles O13: a block is its head and the CRC over it, a frame its upper bits and the CRC over them; each field
is read from where it was put. -/
theorem framesRoundTrip : Obligations.FramesRoundTrip := by
  refine ⟨fun ty seq payload ht hs hp => ?_, fun ty i code slot course seq m p ht hi hc hl hu hs => ?_,
    fun ty seq torque en ht hs _ _ => ?_⟩
  · have hf := field_mkBlock ht hs hp
    refine ⟨blockOk_mkBlock hs hp, ?_, ?_, blockPayload_mkBlock hs hp⟩
    · rw [blockType, hf]
      omega
    · rw [blockSeq, hf]
      omega
  · have hf := downlink_toNat m p ht hi hc hl hu hs
    have hfield := crcFrame_div_pow 7 (downlinkUpper ty i m p code slot course seq)
    have hm := m.toNat_lt
    have hp := p.toNat_lt
    refine ⟨?_, ?_, ?_, ?_, ?_⟩
    · rw [frame64Ok, hf]
      exact beq_iff_eq.2 (crcFrame_checks ..)
    · rw [upType, hf, hfield 52, downlinkUpper]
      omega
    · rw [upString, hf, hfield 50, downlinkUpper]
      omega
    · rw [upValue, hf, hfield 32, downlinkUpper]
      omega
    · rw [upSeq, hf, hfield 0, downlinkUpper]
      omega
  · have hf := driveFrame_toNat ht hs torque en
    have hfield := crcFrame_div_pow 5 (driveUpper ty torque seq en)
    have htorque := ofS_lt 16 torque
    have hen := en.toNat_lt
    refine ⟨?_, ?_, ?_⟩
    · rw [frame48Ok, hf]
      exact beq_iff_eq.2 (crcFrame_checks ..)
    · rw [drvType, hf, hfield 36, driveUpper]
      omega
    · rw [drvSeq, hf, hfield 8, driveUpper]
      omega

end Sys2Proof.Machine
end

section
set_option Elab.async false
namespace Sys2Proof.Machine

/-! ### What a tick, an edge and a nut mark of the encoder may change (R212 to R224) -/

/-- One more step within the footprint. -/
theorem Keeps.step {F G : Foot} {s t u : State} (h : Keeps F s t) (g : Keeps G t u)
    (hs : G.sub F = true := by decide +kernel) : Keeps F s u :=
  h.trans g hs

/-- A tick of the loop engine. -/
def tickFoot : Foot := ⟨[.out, .bridge, .loop, .clock, .mgmt, .health], [(0x101107, 0x101107), (0x103003, 0x103003),
  (0x680101, 0x680101), (0x680103, 0x680106), (0x68010B, 0x68010D), (0x680201, 0x680201), (0x680205, 0x680206),
  (0x681003, 0x681007), (0x68100A, 0x68100A), (0x682007, 0x682007)]⟩

/-- The encoder's part of a measured nut mark. -/
def markFoot : Foot := ⟨[.out, .seq, .bridge, .loop, .memory, .clock, .mgmt, .health, .logs],
  [(0x101107, 0x101107), (0x103003, 0x103003), (0x180002, 0x180002), (0x180101, 0x180103), (0x500103, 0x500103),
    (0x600103, 0x600103), (0x600201, 0x600201), (0x680101, 0x680107), (0x68010B, 0x68010D), (0x680201, 0x680201),
    (0x680203, 0x680203), (0x680205, 0x680206), (0x680209, 0x680209), (0x681003, 0x681007), (0x68100A, 0x68100A),
    (0x682007, 0x682007), (0x900005, 0x900005)]⟩

section
variable (s : State)

theorem putS32_keeps1 (o m : Nat) (x : Int) :
    Keeps ⟨[], [(o % 65536 * 256 + m % 256, o % 65536 * 256 + m % 256)]⟩ s (s.putS32 o m x) := by
  unfold State.putS32
  exact .ite (fun _ => State.put_keeps1 ..) fun _ =>
    .trans (State.draw_keeps0 _ s (2 ^ 32)) (State.put_keeps1 ..) (Foot.sub_refl _)

theorem phaseTick_keepsTick (i stamp : Nat) : Keeps tickFoot s (s.phaseTick i stamp).2 := by
  unfold State.phaseTick
  split
  next => exact .refl _ _
  next =>
    dsimp only
    refine .step (.step (.step (.step ?_ (putS32_keeps1 ..)) (State.stepLoop_keeps ..)) (putS32_keeps1 ..))
      (State.lockTick_keeps ..)
    exact .upd (.refl _ _) (hl := .inl rfl)

theorem loopTick_keepsTick (i stamp : Nat) : Keeps tickFoot s (s.loopTick i stamp) := by
  unfold State.loopTick
  split
  next => exact .refl _ _
  next =>
    extract_lets tt goal acc f' l s0 pt
    have h0 : Keeps tickFoot s s0 := .upd (.refl _ _) (hl := .inl rfl)
    have hp : Keeps tickFoot s (if s0.engaged then s0.phaseTick i stamp else (0, s0)).2 :=
      .sndIte (fun _ => h0.step (phaseTick_keepsTick ..)) fun _ => h0
    generalize (if s0.engaged then s0.phaseTick i stamp else (0, s0)) = p at hp ⊢
    obtain ⟨u, s1⟩ := p
    dsimp -zeta only
    extract_lets pp s3 st s4
    have h3 : Keeps tickFoot s s3 := .optT (hp.step (State.stepLoop_keeps ..)) fun _ =>
      .step (.refl _ _) (State.putTorque_keeps ..)
    have hengage : ∀ acq, Keeps tickFoot s (s3.engage acq) := fun _ => h3.step (State.engage_keeps ..)
    have h4 : Keeps tickFoot s s4 :=
      .ite (fun _ => .ite (fun _ => .ite (fun _ => h3.step (State.putWheel_keeps ..)) fun _ => hengage true)
        fun _ => .ite (fun _ => hengage false) fun _ => h3) fun _ => h3
    exact .ite (fun _ => (h4.step (State.putTorque_keeps ..)).step (State.putWheel_keeps ..)) fun _ => h4

theorem doTick_keepsTick (i stamp : Nat) : Keeps tickFoot s (s.doTick i stamp) := by
  unfold State.doTick
  extract_lets tt l s1 st s2 l2 s3
  have h1 : Keeps tickFoot s s1 := .upd (.refl _ _) (hl := .inl rfl)
  have h2 : Keeps tickFoot s s2 :=
    .ite (fun _ => .ite (fun _ => h1.step (State.closeSpeed_keeps ..)) fun _ => h1)
      fun _ => .ite (fun _ => h1.step (loopTick_keepsTick ..)) fun _ => h1
  have h3 : Keeps tickFoot s s3 :=
    .ite (fun _ => .step (.upd h2 (hl := .inl rfl)) (State.put_keeps1 ..)) fun _ => h2
  exact h3.step (State.sendDrive_keeps ..)

theorem doEdge_keepsEdge (a b : Bool) : Keeps (footOf (.encoderEdge 0 false false)) s (s.doEdge a b) := by
  unfold State.doEdge
  extract_lets x q dir stamp n s1 counts step i s2
  have h1 : Keeps (footOf (.encoderEdge 0 false false)) s s1 := .upd (.refl _ _) (hl := .inl rfl)
  have h2 : Keeps (footOf (.encoderEdge 0 false false)) s s2 :=
    .ite (fun _ => h1.step (doTick_keepsTick ..)) fun _ => h1
  refine .ite (fun _ => .step (.upd (.refl _ _) (hl := .inl rfl)) (State.inc_keeps1 ..)) fun _ => ?_
  exact .ite (fun _ => .refl _ _) fun _ => .ite (fun _ => h2.step (State.encoderLost_keeps ..)) fun _ => h2

theorem wheelNut_keepsMark : Keeps markFoot s s.wheelNut.2 := by
  unfold State.wheelNut
  extract_lets x stamp d judged s1 l s2
  have h1 : Keeps markFoot s s1 :=
    .ite (fun _ => .step (.refl _ _) (State.encoderLost_keeps ..)) fun _ =>
      .ite (fun _ => .step (.step (.refl _ _) (State.inc_keeps1 ..)) (State.put_keeps1 ..)) fun _ => .refl _ _
  have h2 : Keeps markFoot s s2 := .upd h1 (hl := .inl rfl)
  have hp : Keeps markFoot s (if judged then s2.judgeRev (stamp - x.lastNut) else (false, s2)).2 :=
    .sndIte (fun _ => h2.step (State.judgeRev_keeps ..)) fun _ => h2
  generalize (if judged then s2.judgeRev (stamp - x.lastNut) else (false, s2)) = p at hp ⊢
  obtain ⟨out, s3⟩ := p
  have h4 : Keeps markFoot s (s3.doTick 0 stamp) := hp.step (doTick_keepsTick ..)
  dsimp only
  refine .ite (fun _ => ?_) fun _ => h4
  have hy : Keeps markFoot s { s3.doTick 0 stamp with
      loop := { (s3.doTick 0 stamp).loop with rearm := (s3.doTick 0 stamp).loop.rearm - 1 } } :=
    .upd h4 (hl := .inl rfl)
  refine .ite (fun _ => ?_) fun _ => hy
  exact .optT ((hy.step (State.putTorque_keeps ..)).step (State.closeSpeed_keeps ..)) fun _ =>
    .step (.refl _ _) (State.brake_keeps ..)

end

/-! ### Measured nut marks, where nothing waits (R138 to R141, R214, R439) -/

/-- What a measured nut mark may change. -/
def measuredNutFoot : Foot := footOf (.measuredNutMark 0)

section
variable (s : State)

theorem calmly_wheelNut : Calmly measuredNutFoot s s.wheelNut.2 := fun hc =>
  ⟨(wheelNut_keepsMark s).mono (by decide +kernel), (wheelNut_noted s).calm hc⟩

theorem restNut_waiting : s.restNut.seq.waiting = s.seq.waiting := by
  unfold State.restNut
  extract_lets half held q s1 s2
  have h2 : s2.seq.waiting = s.seq.waiting := by
    unfold s2
    split
    · rfl
    · rw [advanceFrame_seq]
      rfl
  split
  · rw [(remaps_keeps _ s2).seq_eq, h2]
  · exact h2

theorem calmly_restNut : Calmly measuredNutFoot s s.restNut :=
  .mono (.ofWaiting (State.restNut_keeps s) (restNut_waiting s))

theorem calmly_nutGlide (slot k cause : Nat) : Calmly measuredNutFoot s (s.beginGlide slot k cause) :=
  .mono (.ofInFrame (State.beginGlide_keeps ..) (inFrame_beginGlide ..))

theorem calmly_doMeasuredNut : Calmly measuredNutFoot s s.doMeasuredNut := by
  have h1 := calmly_wheelNut s
  unfold State.doMeasuredNut
  generalize s.wheelNut = p at h1 ⊢
  obtain ⟨out, s1⟩ := p
  dsimp -zeta only
  extract_lets st
  have hglide : ∀ cause, Calmly measuredNutFoot s (s1.beginGlide (s1.v 0x5001 0x04) s1.seq.factor cause).settle :=
    fun _ => .settle (h1.trans (calmly_nutGlide _ _ _ _) (Foot.sub_refl _))
  have hwait : Calmly measuredNutFoot s { s1 with seq := { s1.seq with glideWait := 2 } } :=
    h1.trans (.ofWaiting (.upd (.refl measuredNutFoot _) (hsq := .inl rfl)) rfl) (Foot.sub_refl _)
  refine .ite (fun _ => .settle (h1.trans (calmly_restNut _) (Foot.sub_refl _))) fun _ => ?_
  split
  next g _ => exact .settle (h1.step (State.countRev_keeps ..))
  next =>
    refine .ite (fun _ => ?_) fun _ => .settle h1
    exact .ite (fun _ => hglide 2) fun _ => .ite (fun _ => .settle h1) fun _ =>
      .ite (fun _ => .settle hwait) fun _ => hglide 3

end

/-! ### The writes of strings, the wheel and its loops (R193, R202, R208, R231, R234) -/

section
variable (s : State) (v : Nat)

theorem ownWheel_waiting : (s.ownWheel v).seq.waiting = s.seq.waiting := by
  unfold State.ownWheel
  split
  · split
    · exact requestStop_waiting _
    · rw [(State.brake_keeps s).seq_eq]
  · extract_lets l s0
    split
    · rw [(State.putWheel_keeps ..).seq_eq]
    · split
      · split
        · rw [(State.closeSpeed_keeps s0).seq_eq]
        · rfl
      · rw [(State.spinUp_keeps s0).seq_eq]

/-- The wheel's enable: it is journalled, and the wheel acts on it. -/
theorem calmly_wheelEnable : Calmly (footOf (.wheelEnable 0)) s ((s.putKept 0x6800 0 0x01 v).ownWheel v) :=
  ((Calmly.refl _ s).step (State.putKept_keeps1 ..)).trans
    (.ofWaiting (State.ownWheel_keeps ..) (ownWheel_waiting ..))

/-- A write of a member of a slot, where the owner's act keeps within `F`; a slot that does not exist is no
member. -/
theorem completes_slotWrite {c : Instr} {t o e m v : Nat} {G : Foot} (F : Foot) (he : exec c s = writes t 0 o e m v s)
    (hF : footOf c = F) (hw : waits c = true) (act : State → State)
    (ho : ∀ y : State, y.ownHigh? o e m v = some (act y)) (hk : ∀ y : State, Keeps G y (act y))
    (hg : (stagedValue o e m v).isGate = false := by rfl)
    (hrow : (memberRows.all fun r => !(r.object == o && decide (r.first ≤ m) && decide (m ≤ r.last)) ||
      (decide (0x5000 ≤ o) && classIn 0 r == 0 && r.acc != .w1c && r.ty != .blob && m != 0x10)) = true := by
        decide +kernel)
    (hG : G.sub F = true := by decide +kernel) (hq : G.parts.contains .seq = false := by rfl)
    (hn : G.parts.contains .net = false := by rfl) (hs : writeFoot.sub F = true := by decide +kernel)
    (ht : (⟨[.now, .out], []⟩ : Foot).sub F = true := by decide +kernel) : Completes c s := by
  subst hF
  refine completes_write hw he hg (fun y hy => ?_) hs ht
  cases hr : rowOf o e m with
  | none =>
    have hnone : y.own 0 (stagedValue o e m v) = y := by simp only [State.own, stagedValue, hr]
    rw [hnone]
    exact (Calmly.refl (footOf c) y).settled (Foot.sub_refl _) hy
  | some r =>
    rw [own_high (slotRow_owned hr hrow).1 (ho y)]
    exact (Calmly.ofKeeps (hk y) hq hn).settled hG hy

/-! ### Commands with more than one act -/

theorem openLoopFallback_keeps (n : Nat) : Keeps (footOf (.openLoopFallback 0 0)) s
    (if (s.str n).frozen ∧ !(s.str n).openLoop then
      (s.putStr n { s.str n with openLoop := true, gainDue := some 32768 }).inc 0x6002 0x08
     else s) :=
  .ite (fun _ => .step (.step (.refl _ _) (State.putStr_keeps ..)) (State.inc_keeps1 ..)) fun _ => .refl _ _

theorem driveStatus_keeps (f : BitVec 48) : Keeps (footOf (.driveStatus 0 0)) s
    (if frame48Ok f && drvType f == 1 then s.driveGood f else s.driveLost) :=
  .ite (fun _ => .step (.refl _ _) (State.driveGood_keeps ..)) fun _ => .step (.refl _ _) (State.driveLost_keeps s)

theorem spinUpTimeout_keeps : Keeps (footOf (.spinUpTimeout 0)) s
    (if s.wheel = 2 then (s.inc 0x6802 0x08).faultedCoast 2 else s) :=
  .ite (fun _ => .step (.step (.refl _ _) (State.inc_keeps1 ..)) (State.faultedCoast_keeps ..)) fun _ => .refl _ _

theorem wheelRestTimeout_keeps : Keeps (footOf (.wheelRestTimeout 0)) s
    (if s.wheel = 9 then (({ s with loop := { s.loop with rearm := 0 } } : State).putWheel 0).showRest else s) :=
  .ite (fun _ => .step (.step (.upd (.refl _ _) (hl := .inl rfl)) (State.putWheel_keeps ..))
    (State.showRest_keeps _)) fun _ => .refl _ _

theorem completes_coursePollTimer {t course : Nat} (hc : course < 16) : Completes (.coursePollTimer t course) s := by
  have h : Keeps (footOf (.coursePollTimer 0 0)) (s.enter t) (if (s.enter t).ve 0x6020 course 0x04 ≤ 1 then
      (s.enter t).sendDown course 4 3 false true 0 31 else s.enter t) :=
    .ite (fun _ => .step (.refl _ _) (State.sendDown_keeps ..)) fun _ => .refl _ _
  exact completes_of_keeps (footOf (.coursePollTimer 0 0)) (decide_eq_true hc) rfl rfl
    (.ite (fun _ => h) fun _ => h.step (State.sendDown_keeps ..))

end

/-! ### Completion and frame of the commands of strings, course links and the wheel -/

/-- Every command of strings, course links and the wheel. -/
theorem completes_light (s : State) {c : Instr} (ha : areaOf c = .light) (hc : c.wf = true) : Completes c s := by
  cases c with
  | pluck t course => exact completes_of_keeps (footOf (.pluck 0 0)) hc rfl rfl (State.doPluck_keeps (s.enter t) ..)
  | dronePeriod t =>
    exact completes_of_keeps (footOf (.dronePeriod 0)) hc rfl rfl (State.doDronePeriod_keeps (s.enter t))
  | coursePollTimer t course => exact completes_coursePollTimer s (of_decide_eq_true hc)
  | referenceWindowOpen t =>
    exact completes_of_keeps (footOf (.referenceWindowOpen 0)) hc rfl rfl (State.doWindow_keeps (s.enter t))
  | pilotFire t course pilot =>
    exact completes_of_keeps (footOf (.pilotFire 0 0 0)) hc rfl rfl (State.doPilot_keeps (s.enter t) ..)
  | monitorSample t course f =>
    exact completes_of_keeps (footOf (.monitorSample 0 0 0)) hc rfl rfl (State.uplink_keeps (s.enter t) ..)
  | pilotSample t course f =>
    exact completes_of_keeps (footOf (.monitorSample 0 0 0)) hc rfl rfl (State.uplink_keeps (s.enter t) ..)
  | driverStatusFrame t course f =>
    exact completes_of_keeps (footOf (.monitorSample 0 0 0)) hc rfl rfl (State.uplink_keeps (s.enter t) ..)
  | uplinkTimeout t course =>
    exact completes_of_keeps (footOf (.uplinkTimeout 0 0)) hc rfl rfl (State.loseOldest_keeps (s.enter t) ..)
  | badUplinkFrame t course f =>
    exact completes_of_keeps (footOf (.uplinkTimeout 0 0)) hc rfl rfl
      (.ite (fun _ => .refl _ _) fun _ => State.loseOldest_keeps (s.enter t) course)
  | emitInhAssert t =>
    exact completes_of_keeps (footOf (.emitInhAssert 0)) hc rfl rfl (State.doEmitAssert_keeps (s.enter t))
  | emitInhRelease t =>
    exact completes_of_keeps (footOf (.emitInhRelease 0)) hc rfl rfl (State.doEmitRelease_keeps (s.enter t))
  | emitInhStuck t =>
    exact completes_of_keeps (footOf (.emitInhStuck 0)) hc rfl rfl (State.doEmitStuck_keeps (s.enter t))
  | openLoopFallback t n =>
    exact completes_of_keeps (footOf (.openLoopFallback 0 0)) hc rfl rfl (openLoopFallback_keeps (s.enter t) n)
  | linReset t v =>
    exact completes_ownWrite s (footOf (.linReset 0 0)) rfl rfl rfl State.linReset (fun _ => rfl)
      fun y => (Calmly.ofKeeps (State.linReset_keeps y)).settled
  | encoderEdge t a b =>
    exact completes_of_keeps (footOf (.encoderEdge 0 false false)) hc rfl rfl (doEdge_keepsEdge (s.enter t) a b)
  | measuredNutMark t =>
    exact completes_of_calmly measuredNutFoot hc rfl rfl rfl (calmly_doMeasuredNut (s.enter t))
  | countEdgeTimeout t =>
    exact completes_of_keeps (footOf (.countEdgeTimeout 0)) hc rfl rfl
      (.ite (fun _ => State.encoderLost_keeps (s.enter t) 1 _) fun _ => .refl _ _)
  | driveCommandTimer t =>
    exact completes_of_keeps (footOf (.driveCommandTimer 0)) hc rfl rfl (State.sendDrive_keeps (s.enter t))
  | driveStatus t f => exact completes_of_keeps (footOf (.driveStatus 0 0)) hc rfl rfl (driveStatus_keeps (s.enter t) f)
  | driveStatusTimeout t =>
    exact completes_of_keeps (footOf (.driveStatusTimeout 0)) hc rfl rfl
      (.ite (fun _ => .refl _ _) fun _ => State.driveLost_keeps (s.enter t))
  | spinUp t => exact completes_of_keeps (footOf (.spinUp 0)) hc rfl rfl (State.spinUp_keeps (s.enter t))
  | spinUpTimeout t =>
    exact completes_of_keeps (footOf (.spinUpTimeout 0)) hc rfl rfl (spinUpTimeout_keeps (s.enter t))
  | wheelRestTimeout t =>
    exact completes_of_keeps (footOf (.wheelRestTimeout 0)) hc rfl rfl (wheelRestTimeout_keeps (s.enter t))
  | wheelEnable t =>
    exact completes_ownWrite s (footOf (.wheelEnable 0)) rfl rfl rfl (fun y => (y.putKept 0x6800 0 0x01 1).ownWheel 1)
      (fun _ => rfl) fun y => (calmly_wheelEnable y 1).settled
  | wheelBrake t =>
    exact completes_ownWrite s (footOf (.wheelEnable 0)) rfl rfl rfl (fun y => (y.putKept 0x6800 0 0x01 0).ownWheel 0)
      (fun _ => rfl) fun y => (calmly_wheelEnable y 0).settled
  | rearm t v =>
    exact completes_ownWrite s (footOf (.rearm 0 0)) rfl rfl rfl State.rearmWheel (fun _ => rfl)
      fun y => (Calmly.ofKeeps (State.rearmWheel_keeps y)).settled
  | freeInput t slot v =>
    exact completes_slotWrite s (footOf (.freeInput 0 0 0)) rfl rfl rfl (fun y => y.freeLoop slot v) (fun _ => rfl)
      fun y => State.freeLoop_keeps y slot v
  | preset t slot v =>
    exact completes_slotWrite s (footOf (.preset 0 0 0)) rfl rfl rfl (fun y => y.freePreset slot v) (fun _ => rfl)
      fun y => State.freePreset_keeps y slot v
  | _ => exact nomatch ha

/-- Settles O19, command by command: each act keeps within its own footprint, and from a state in which nothing
waits no write and no nut mark finds a waiting change to make. -/
theorem lightCommandsKeepTheRest : Obligations.LightCommandsKeepTheRest := fun _ s ha hc =>
  completes_light s ha hc

end Sys2Proof.Machine
end

section
set_option Elab.async false
namespace Sys2Proof.Machine

/-! ### The start torque of spin-up (R217, R230) -/

/-- A 16-bit code names no signed number above 32 767 (R3). -/
theorem toS_ofS_lt (x : Int) : toS 16 (ofS 16 x) < 32768 := by
  have hc : ofS 16 x < 65536 := by
    unfold ofS
    omega
  unfold toS
  split <;> omega

/-- What is commanded is the number that the code of 6801.0C names. -/
theorem torque_putTorque (s : State) (x : Int) : (s.putTorque x).torque = toS 16 (ofS 16 x) :=
  congrArg (toS 16) (v_put_self ..)

/-- As spin-up begins, the torque commanded is the one that the 16-bit code of 6800.06 names (R230). -/
theorem spinUp_torque {s : State} (hw : s.wheel = 0 ∨ s.wheel = 1) (he : s.b 0x6800 0x01 = true)
    (hc : s.wheelConfigured = true) (hd : s.v 0x6801 0x09 = 2) (hg : s.gateOpen? 0x372 = true) :
    s.spinUp.torque = toS 16 (ofS 16 (s.v 0x6800 0x06)) := by
  have hrest : ¬(s.wheel ≠ 0 ∧ s.wheel ≠ 1) := by omega
  have hready : ¬((!(s.b 0x6800 0x01)) = true ∨ (!s.wheelConfigured) = true ∨ s.v 0x6801 0x09 ≠ 2 ∨
      (!(s.gateOpen? 0x372)) = true) := by simp [he, hc, hd, hg]
  unfold State.spinUp
  rw [if_neg hrest, if_neg hready]
  exact (congrArg (toS 16) ((State.putWheel_keeps ..).v_eq 0x6801 0x0C)).trans (torque_putTorque ..)

/-- A configured wheel at rest with the drive link up is enabled, and 6800.06 holds 32 768: within its U16, one
above its range. -/
def State.startTorqueTooHigh : State :=
  ((((State.reset.pute 0x6800 0 0x01 1).pute 0x6800 0 0x06 32768).pute 0x6801 0 0x09 2).pute
    0x6810 48 0x01 2).pute 0x6810 49 0x01 2

/-- Refutes O44: SPIN_UP has no hypothesis on 6800.06. No accepted write sets it above 32 767, but in a state
that holds 32 768 there the code of the commanded torque is that of -32 768, which is not 6800.06. -/
theorem not_encoderAndWheel : ¬ Obligations.EncoderAndWheel := by
  rintro ⟨-, -, -, -, -, -, hspin, -⟩
  have hwheel : State.startTorqueTooHigh.wheel = 0 := by decide +kernel
  have hon : State.startTorqueTooHigh.b 0x6800 0x01 = true := by decide +kernel
  have hconf : State.startTorqueTooHigh.wheelConfigured = true := by decide +kernel
  have hdrive : State.startTorqueTooHigh.v 0x6801 0x09 = 2 := by decide +kernel
  have hgate : State.startTorqueTooHigh.gateOpen? 0x372 = true := by decide +kernel
  have hheld : State.startTorqueTooHigh.v 0x6800 0x06 = 32768 := by decide +kernel
  obtain ⟨s', hr, -, htorque, -⟩ := hspin State.startTorqueTooHigh 0 (.inl hwheel) hon hconf hdrive hgate
  obtain rfl : (State.startTorqueTooHigh.enter 0).spinUp = s' := Host.Outcome.next.inj hr
  have hcode : (State.startTorqueTooHigh.enter 0).spinUp.torque < 32768 :=
    (spinUp_torque (s := State.startTorqueTooHigh.enter 0) (.inl hwheel) hon hconf hdrive hgate).trans_lt
      (toS_ofS_lt _)
  rw [hheld] at htorque
  exact hcode.ne htorque

end Sys2Proof.Machine
end

section
set_option Elab.async false
namespace Sys2Proof.Machine

/-! ### The line code (R242) -/

theorem descramble_scramble (h : Nat) (bits : List Bool) : descramble h (scramble h bits) = bits := by
  induction bits generalizing h with
  | nil => rfl
  | cons d r ih =>
    simp only [scramble, descramble, ih, List.cons.injEq, and_true]
    cases d <;> cases earlier h 28 <;> cases earlier h 31 <;> rfl

theorem runAfter_lt {last x : Bool} {run : Nat} (h : run < 48) (hx : runAfter last run x ≠ 48) :
    runAfter last run x < 48 := by
  have hle : runAfter last run x ≤ 48 := by
    unfold runAfter
    split <;> omega
  omega

theorem runAfter_opposite (x : Bool) (run : Nat) : runAfter x run (!x) = 1 := by
  cases x <;> rfl

theorem unstuff_stuff {last : Bool} {run : Nat} (h : run < 48) (bits : List Bool) :
    unstuff last run false (stuff last run bits) = bits := by
  induction bits generalizing last run with
  | nil => rfl
  | cons x r ih =>
    unfold stuff
    split
    next hx => simp [unstuff, hx, ih (last := !x) (run := 1)]
    next hx => simp [unstuff, hx, ih (runAfter_lt h hx)]

/-- From a last bit and its run on, no run of these line bits passes 48. -/
def runsWithin (last : Bool) (run : Nat) : List Bool → Prop
  | [] => True
  | x :: r => runAfter last run x ≤ 48 ∧ runsWithin x (runAfter last run x) r

theorem runsWithin_stuff {last : Bool} {run : Nat} (h : run < 48) (bits : List Bool) :
    runsWithin last run (stuff last run bits) := by
  induction bits generalizing last run with
  | nil => trivial
  | cons x r ih =>
    unfold stuff
    split
    next hx =>
      simp only [runsWithin, hx, runAfter_opposite]
      exact ⟨le_refl _, by decide, ih (by decide)⟩
    next hx => exact ⟨(runAfter_lt h hx).le, ih (runAfter_lt h hx)⟩

/-- Any later part of the line bits is held to 48 as well. -/
theorem runsWithin_drop {last : Bool} {run : Nat} {pre l : List Bool} (h : runsWithin last run (pre ++ l)) :
    ∃ last' run', runsWithin last' run' l := by
  induction pre generalizing last run with
  | nil => exact ⟨last, run, h⟩
  | cons x pre ih => exact ih h.2

theorem runsWithin_same {x : Bool} {run n : Nat} {l : List Bool} (hr : run ≤ 48)
    (h : runsWithin x run (List.replicate n x ++ l)) : run + n ≤ 48 := by
  induction n generalizing run with
  | zero => exact hr
  | succ n ih =>
    simp only [List.replicate_succ, List.cons_append, runsWithin, runAfter, if_true] at h
    obtain ⟨hle, hrest⟩ := h
    have := ih hle hrest
    omega

theorem runsWithin_replicate {last x : Bool} {run n : Nat} {l : List Bool}
    (h : runsWithin last run (List.replicate (n + 1) x ++ l)) : n + 1 ≤ 48 := by
  rw [List.replicate_succ, List.cons_append] at h
  obtain ⟨hle, hrest⟩ := h
  have h1 : 1 ≤ runAfter last run x := by
    unfold runAfter
    split <;> omega
  have := runsWithin_same hle hrest
  omega

/-- Settles O12: each direction of the code by induction on the bits, and what is stuffed holds every run to 48. -/
theorem lineCodeRoundTrip : Obligations.LineCodeRoundTrip := by
  refine ⟨fun last run bits h => unstuff_stuff h bits, descramble_scramble, ?_⟩
  intro last run bits pre post x h he
  have hw := runsWithin_stuff (last := last) h bits
  rw [he, List.append_assoc] at hw
  obtain ⟨last', run', hrest⟩ := runsWithin_drop hw
  exact absurd (runsWithin_replicate (n := 48) hrest) (by decide)

end Sys2Proof.Machine
end

section
set_option Elab.async false
namespace Sys2Proof.Machine

/-! ### The device hold and failed channels, where nothing waits (R288, R407) -/

/-- What the end of an in-place re-train may change. -/
def retrainDoneFoot : Foot := footOf (.inplaceRetrainDone 0 0 false)

section
variable (s : State)

theorem calmly_stopNow : Calmly retrainDoneFoot s s.stopNow := by
  refine .ofWaiting ((State.stopNow_keeps s).mono (by decide +kernel)) ?_
  unfold State.stopNow
  split
  · rw [(State.calFinish_keeps _).seq_eq, (State.droneWheelEnds_keeps _).seq_eq, (State.endDrone_keeps _).seq_eq]
  · split
    · rw [(State.calFinish_keeps _).seq_eq, endTimeline_waiting]
    · rfl

theorem coast_waiting (st : Nat) : (s.coast st).seq.waiting = s.seq.waiting := by
  have h := congrArg Seq.waiting (onWheel_coast s st).seq
  exact h

theorem calmly_deviceHold : Calmly retrainDoneFoot s s.deviceHold := by
  unfold State.deviceHold
  refine .ite (fun _ => .refl _ s) fun _ => ?_
  extract_lets s1 s2 s3
  have h1 : Calmly retrainDoneFoot s s1 :=
    (((Calmly.refl _ s).step (State.blankQuiet_keeps ..)).trans (calmly_stopNow _) (Foot.sub_refl _)).step
      (State.park_keeps ..)
  have hcoast : Calmly retrainDoneFoot s1 (s1.coast 11) :=
    .mono (.ofWaiting (State.coast_keeps s1 11) (coast_waiting s1 11))
  have h2 : Calmly retrainDoneFoot s s2 := .ite (fun _ => h1) fun _ => h1.trans hcoast (Foot.sub_refl _)
  have h3 : Calmly retrainDoneFoot s s3 := (h2.step (State.selfRefresh_keeps _)).step (State.closeIslands_keeps _)
  exact ((h3.step (State.inc_keeps1 ..)).step (State.log_keeps ..)).step (State.put_keeps1 ..)

theorem calmly_chanFails (c : Nat) : Calmly retrainDoneFoot s (s.chanFails c) := by
  have he : Calmly retrainDoneFoot s s.escalate := (Calmly.refl _ s).step (State.escalate_keeps s)
  unfold State.chanFails
  refine .ite (fun _ => ?_) fun _ => ?_
  · exact ((he.step (State.log_keeps ..)).step (State.recovered_keeps ..)).step (State.beginMigration_keeps ..)
  · extract_lets s1 m s2 s3
    have h1 : Calmly retrainDoneFoot s s1 :=
      ((he.step (State.putChanState_keeps ..)).step (State.log_keeps ..)).step (State.recovered_keeps ..)
    have h2 : Calmly retrainDoneFoot s s2 :=
      .ite (fun _ => h1.step (Keeps.upd (.refl ⟨[.memory], []⟩ s1) (hme := .inl rfl))) fun _ => h1
    have h3 : Calmly retrainDoneFoot s s3 := h2.step (State.failRequests_keeps ..)
    exact .ite (fun _ => h3) fun _ => (h3.step (State.escalate_keeps _)).trans (calmly_deviceHold _) (Foot.sub_refl _)

theorem calmly_doRetrainDone (c : Nat) (ok : Bool) : Calmly retrainDoneFoot s (s.doRetrainDone c ok) := by
  unfold State.doRetrainDone
  extract_lets r s1
  refine .ite (fun _ => .refl _ s) fun _ => ?_
  have h1 : Calmly retrainDoneFoot s s1 := (Calmly.refl _ s).step (State.put_keeps1 ..)
  refine .ite (fun _ => ?_) fun _ => ?_
  · exact ((((h1.step (State.putChan_keeps ..)).step (State.leaveRefresh_keeps ..)).step
      (State.putChanState_keeps ..)).step (State.recovered_keeps ..)).step (State.chanGoesOn_keeps ..)
  · exact (h1.step (State.inc_keeps1 ..)).trans (calmly_chanFails _ _) (Foot.sub_refl _)

/-! ### Acts of single commands -/

theorem replayTimeout_keeps (lane : Nat) : Keeps (footOf (.replayTimeout 0 0)) s
    (match (s.group lane).held with
      | [] => s
      | b :: _ =>
        if (s.group lane).replay = some b.seq then
          (s.inc 0x7002 0x05).replayFails (groupOf lane) b.seq (groupOf lane)
            (if lane < 128 then [lane] else (s.inc 0x7002 0x05).txLanes (portOfLane lane))
        else
          ((s.inc 0x7002 0x05).putGroup lane { (s.inc 0x7002 0x05).group lane with fails := 0 }).resend
            (groupOf lane) b.seq (groupOf lane)) := by
  have h1 : Keeps (footOf (.replayTimeout 0 0)) s (s.inc 0x7002 0x05) := .step (.refl _ s) (State.inc_keeps1 ..)
  split
  · exact .refl _ s
  · exact .ite (fun _ => h1.step (State.replayFails_keeps ..)) fun _ =>
      (h1.step (State.putGroup_keeps ..)).step (State.resend_keeps ..)

theorem cdrLock_keeps (lane preset margin : Nat) : Keeps (footOf (.cdrLock 0 0 0 0)) s
    (if s.laneState lane = 1 ∧ s.ve 0x7010 lane 0x03 = 1 then
      ((s.putLane lane { s.lane lane with ownPreset := preset % 8, syncs := 0 }).pute
        0x7010 lane 0x0B (margin % 65536)).reachStage lane 2
     else s) :=
  .ite (fun _ => .step (.step (.step (.refl _ s) (State.putLane_keeps ..)) (State.pute_keeps1 ..))
    (State.reachStage_keeps ..)) fun _ => .refl _ s

theorem bringUpRetry_keeps (lane : Nat) : Keeps (footOf (.bringUpRetry 0 0)) s
    (if s.laneState lane = 5 ∧ s.v 0x7000 0x02 ≠ 0 then
      (if 128 ≤ lane ∧ s.ve 0x7003 (portOfLane lane) 0x05 = 0 then s.pute 0x7003 (portOfLane lane) 0x05 1
        else s).beginBringUp lane
     else s) :=
  .ite (fun _ => .step (.ite (fun _ => .step (.refl _ s) (State.pute_keeps1 ..)) fun _ => .refl _ s)
    (State.beginBringUp_keeps ..)) fun _ => .refl _ s

theorem dqsOscTimer_keeps (c : Nat) (r : ChanRec) (o : Output) : Keeps (footOf (.dqsOscTimer 0 0 0)) s
    (if s.chanActive c then (s.putChan c r).emit o else s) :=
  .ite (fun _ => .step (.step (.refl _ s) (State.putChan_keeps ..)) (State.emit_keeps ..)) fun _ => .refl _ s

theorem zqCalTimer_keeps (c : Nat) (o : Output) : Keeps (footOf (.zqCalTimer 0 0)) s
    (if s.chanActive c then s.emit o else s) :=
  .ite (fun _ => .step (.refl _ s) (State.emit_keeps ..)) fun _ => .refl _ s

/-! ### Writes of lanes, ports, banks and channels (R259, R260, R268, R273, R290) -/

/-- A row whose written numbers go to the act of a unit from 5000 on. -/
def actedRow (r : MemberRow) : Bool :=
  decide (0x5000 ≤ r.object) && r.acc != .w1c && r.ty != .blob

theorem ownedHigh_of_actedRow {o e m : Nat} {r : MemberRow} (hr : rowOf o e m = some r) (h : actedRow r = true)
    (hm : m ≠ 0x10) : ownedHigh o e m = true := by
  obtain ⟨-, ho, -⟩ := rowOf_some hr
  simp only [actedRow, Bool.and_eq_true, decide_eq_true_eq, bne_iff_ne, ho] at h
  obtain ⟨⟨h5, hw⟩, hb⟩ := h
  simp [ownedHigh, hr, h5, hw, hb, hm]

/-- A write of a member of an element, where the owner's act keeps within `G`; an element that does not exist has
no member. -/
theorem completes_elementWrite {c : Instr} {t o e m v : Nat} {G : Foot} (F : Foot)
    (he : exec c s = writes t 0 o e m v s)
    (hF : footOf c = F) (hw : waits c = true) (act : State → State)
    (ho : ∀ y : State, y.ownHigh? o e m v = some (act y)) (hk : ∀ y : State, Keeps G y (act y))
    (hg : (stagedValue o e m v).isGate = false := by rfl) (hm : m ≠ 0x10 := by decide)
    (hrow : (memberRows.all fun r => !(r.object == o && decide (r.first ≤ m) && decide (m ≤ r.last)) ||
      actedRow r) = true := by decide +kernel)
    (hG : G.sub F = true := by decide +kernel) (hq : G.parts.contains .seq = false := by rfl)
    (hn : G.parts.contains .net = false := by rfl) (hs : writeFoot.sub F = true := by decide +kernel)
    (ht : (⟨[.now, .out], []⟩ : Foot).sub F = true := by decide +kernel) : Completes c s := by
  subst hF
  refine completes_write hw he hg (fun y hy => ?_) hs ht
  cases hr : rowOf o e m with
  | none =>
    have hnone : y.own 0 (stagedValue o e m v) = y := by simp only [State.own, stagedValue, hr]
    rw [hnone]
    exact (Calmly.refl (footOf c) y).settled (Foot.sub_refl _) hy
  | some r =>
    rw [own_high (ownedHigh_of_actedRow hr (rowOf_all hr hrow) hm) (ho y)]
    exact (Calmly.ofKeeps (hk y) hq hn).settled hG hy

theorem completes_laneCmd {c : Instr} {t lane v : Nat} (he : exec c s = writes t 0 0x7010 lane 0x02 v s)
    (hF : footOf c = footOf (.laneRetrain 0 0)) (hw : waits c = true) : Completes c s :=
  completes_elementWrite s (footOf (.laneRetrain 0 0)) he hF hw (fun y => y.ownLaneCmd lane v) (fun _ => rfl)
    fun y => State.ownLaneCmd_keeps y lane v

theorem completes_channelCmd {c : Instr} {t ch v : Nat} (he : exec c s = writes t 0 0x7820 ch 0x02 v s)
    (hF : footOf c = footOf (.channelOffline 0 0)) (hw : waits c = true) : Completes c s :=
  completes_elementWrite s (footOf (.channelOffline 0 0)) he hF hw (fun y => y.ownChannel ch v) (fun _ => rfl)
    fun y => State.ownChannel_keeps y ch v

end

/-! ### Completion and frame of the commands of lanes and memories -/

/-- A command that brings a block, whose act follows once the lane has heard it. -/
theorem completes_heard {s u : State} {c : Instr} {t lane : Nat} {b : Bytes} {G : Foot} (F : Foot) (hc : c.wf = true)
    (he : exec c s = guarded c.wf u) (hF : footOf c = F) (hk : Keeps G ((s.enter t).heard lane b) u)
    (hG : G.sub F = true := by decide +kernel) (hl : (⟨[.lanes], []⟩ : Foot).sub F = true := by decide +kernel)
    (hn : (⟨[.now, .out], []⟩ : Foot).sub F = true := by decide +kernel) : Completes c s :=
  completes_of_keeps F hc he hF (((Keeps.refl F (s.enter t)).step (State.heard_keeps ..) hl).step hk hG) F.sub_refl hn

/-- Every command of lanes and memories. -/
theorem completes_store (s : State) {c : Instr} (ha : areaOf c = .store) (hc : c.wf = true) : Completes c s := by
  cases c with
  | blockData t lane b =>
    exact completes_of_keeps (footOf (.blockData 0 0 [])) hc rfl rfl (State.receiveBlock_keeps (s.enter t) lane b)
  | parcelAbort t lane b =>
    exact completes_of_keeps (footOf (.blockData 0 0 [])) hc rfl rfl (State.receiveBlock_keeps (s.enter t) lane b)
  | acknowledge t lane b =>
    exact completes_of_keeps (footOf (.blockData 0 0 [])) hc rfl rfl (State.receiveBlock_keeps (s.enter t) lane b)
  | reservedBlock t lane b =>
    exact completes_of_keeps (footOf (.blockData 0 0 [])) hc rfl rfl (State.receiveBlock_keeps (s.enter t) lane b)
  | replayTimeout t lane =>
    exact completes_of_keeps (footOf (.replayTimeout 0 0)) hc rfl rfl (replayTimeout_keeps (s.enter t) lane)
  | ackSendTimer t port =>
    exact completes_of_keeps (footOf (.ackSendTimer 0 0)) hc rfl rfl
      (.ite (fun _ => State.sendAck_keeps (s.enter t) port) fun _ => .refl _ _)
  | marker t lane b =>
    exact completes_heard (t := t) (footOf (.marker 0 0 [])) hc rfl rfl (State.doMarker_keeps _ lane b)
  | filler t lane b fill =>
    exact completes_heard (t := t) (footOf (.filler 0 0 [] 0)) hc rfl rfl (State.doFiller_keeps _ lane b fill)
  | training t lane b =>
    exact completes_heard (t := t) (footOf (.training 0 0 [])) hc rfl rfl (State.doTraining_keeps _ lane b)
  | sleep t lane b =>
    exact completes_heard (t := t) (footOf (.sleep 0 0 [])) hc rfl rfl (State.doSleep_keeps _ lane b)
  | laneMap t lane b =>
    exact completes_heard (t := t) (footOf (.sleep 0 0 [])) hc rfl rfl (State.doLaneMap_keeps _ lane b)
  | signalDetect t lane =>
    exact completes_of_keeps (footOf (.signalDetect 0 0)) hc rfl rfl (State.doSignal_keeps (s.enter t) lane)
  | cdrLock t lane preset margin =>
    exact completes_of_keeps (footOf (.cdrLock 0 0 0 0)) hc rfl rfl (cdrLock_keeps (s.enter t) lane preset margin)
  | bringUpStageTimeout t lane =>
    exact completes_of_keeps (footOf (.bringUpStageTimeout 0 0)) hc rfl rfl
      (.ite (fun _ => State.bringUpFails_keeps (s.enter t) lane _) fun _ => .refl _ _)
  | bringUpRetry t lane =>
    exact completes_of_keeps (footOf (.bringUpRetry 0 0)) hc rfl rfl (bringUpRetry_keeps (s.enter t) lane)
  | laneLockLoss t lane =>
    exact completes_of_keeps (footOf (.laneLockLoss 0 0)) hc rfl rfl (State.doLockLoss_keeps (s.enter t) lane)
  | portSleepTimer t port =>
    exact completes_of_keeps (footOf (.portSleepTimer 0 0)) hc rfl rfl (State.doPortSleep_keeps (s.enter t) port)
  | laneRetrain t lane => exact completes_laneCmd s (t := t) rfl rfl rfl
  | laneOutOfService t lane => exact completes_laneCmd s (t := t) rfl rfl rfl
  | laneReturn t lane => exact completes_laneCmd s (t := t) rfl rfl rfl
  | portRate t port v =>
    exact completes_elementWrite s (footOf (.portRate 0 0 0)) rfl rfl rfl (fun y => y.ownPortRate port v) (fun _ => rfl)
      fun y => State.ownPortRate_keeps y port v
  | portEnable t port v =>
    exact completes_elementWrite s (footOf (.portEnable 0 0 0)) rfl rfl rfl (fun y => y.ownPortEnable port v)
      (fun _ => rfl) fun y => State.ownPortEnable_keeps y port v
  | bankFenced t bank v =>
    exact completes_elementWrite s (footOf (.bankFenced 0 0 0)) rfl rfl rfl (fun y => y.ownBank bank v) (fun _ => rfl)
      fun y => State.ownBank_keeps y bank v
  | bankCopyDone t =>
    exact completes_of_keeps (footOf (.bankCopyDone 0)) hc rfl rfl (State.endBankCopy_keeps (s.enter t))
  | journalCommitTimer t =>
    exact completes_of_keeps (footOf (.journalCommitTimer 0)) hc rfl rfl (State.startCommit_keeps (s.enter t))
  | retCommit t v =>
    exact completes_elementWrite s (footOf (.retCommit 0 0)) rfl rfl rfl State.startCommit (fun _ => rfl)
      State.startCommit_keeps
  | journalCommitDone t =>
    exact completes_of_keeps (footOf (.journalCommitDone 0)) hc rfl rfl (State.commitDone_keeps (s.enter t))
  | journalHalfEmptied t =>
    exact completes_of_keeps (footOf (.journalHalfEmptied 0)) hc rfl rfl (State.halfEmptied_keeps (s.enter t))
  | dramRequest t port a n data =>
    exact completes_of_keeps (footOf (.dramRequest 0 0 0 0 none)) hc rfl rfl
      (State.doDramRequest_keeps (s.enter t) port a n data)
  | urgencyRise t request =>
    exact completes_of_keeps (footOf (.urgencyRise 0 0)) hc rfl rfl
      (Keeps.upd (.refl (footOf (.urgencyRise 0 0)) (s.enter t)) (hme := .inl rfl))
  | dramRequestDone t request ok =>
    exact completes_of_calmly (footOf (.dramRequestDone 0 0 false)) hc rfl rfl rfl
      (.settle (.ofKeeps (State.doRequestDone_keeps (s.enter t) request ok)))
  | ddrAlert t request =>
    exact completes_of_calmly (footOf (.ddrAlert 0 0)) hc rfl rfl rfl
      (.settle (.ofKeeps (State.doAlert_keeps (s.enter t) request)))
  | inplaceRetrainDone t channel ok =>
    exact completes_of_calmly retrainDoneFoot hc rfl rfl rfl (.settle (calmly_doRetrainDone (s.enter t) channel ok))
  | ddrRefreshTimer t channel =>
    exact completes_of_keeps (footOf (.ddrRefreshTimer 0 0)) hc rfl rfl (State.doRefresh_keeps (s.enter t) channel)
  | dqsOscTimer t channel count =>
    exact completes_of_keeps (footOf (.dqsOscTimer 0 0 0)) hc rfl rfl (dqsOscTimer_keeps (s.enter t) channel _ _)
  | zqCalTimer t channel =>
    exact completes_of_keeps (footOf (.zqCalTimer 0 0)) hc rfl rfl (zqCalTimer_keeps (s.enter t) channel _)
  | ddrTrainingDone t channel x =>
    exact completes_of_keeps (footOf (.ddrTrainingDone 0 0 ⟨false, false, 0, false, false, 0, 0⟩)) hc rfl rfl
      (State.doTrainingDone_keeps (s.enter t) channel x)
  | channelOffline t channel => exact completes_channelCmd s (t := t) rfl rfl rfl
  | channelRetrain t channel => exact completes_channelCmd s (t := t) rfl rfl rfl
  | channelReturn t channel => exact completes_channelCmd s (t := t) rfl rfl rfl
  | chunkMoveDone t =>
    exact completes_of_keeps (footOf (.chunkMoveDone 0)) hc rfl rfl (State.doChunkMove_keeps (s.enter t))
  | retainedRestoreDone t d =>
    exact completes_of_keeps (footOf (.retainedRestoreDone 0 ⟨[], [], none, none⟩)) hc rfl rfl
      (State.restoreDone_keeps (s.enter t) d)
  | _ => exact nomatch ha

/-- Settles O20, command by command: each act keeps within its own footprint, and from a state in which nothing
waits no write and no failed channel finds a waiting change to make. -/
theorem storeCommandsKeepTheRest : Obligations.StoreCommandsKeepTheRest := fun _ s ha hc =>
  completes_store s ha hc

end Sys2Proof.Machine
end

section
set_option Elab.async false
namespace Sys2Proof.Machine

/-! ### A commit that is asked for while MEM restarts (R273, R406) -/

/-- While MEM restarts, a commit of the journal buffer comes to wait, and none begins. -/
theorem startCommit_of_storeWaits {s : State} (h : s.storeWaits = true) :
    s.startCommit.memory.committing = s.memory.committing := by
  unfold State.startCommit
  dsimp only
  split
  · rfl
  · rw [if_pos (.inr h)]

/-- One kept member has been written since reset, and the MEM island (13) restarts. -/
def State.restartsWithJournal : State :=
  { State.reset with
    clock := { State.reset.clock with restarting := [13] }
    memory := { State.reset.memory with
      journal := [{ seq := 0, object := 0x7003, element := 0, member := 0x01, value := 1, data := [] }] } }

/-- Refutes O28: RET_COMMIT has no hypothesis on MEM. While that island restarts, the accepted write leaves the
commit waiting (`startCommit_of_storeWaits`), and the journal buffer keeps its entries. -/
theorem not_linkAndMemoryWrites : ¬ Obligations.LinkAndMemoryWrites := by
  rintro ⟨-, -, -, -, -, -, hcommit, -⟩
  have ha : State.restartsWithJournal.acceptsValue 0 0 0x9000 0 0x02 1 = true := by decide +kernel
  obtain ⟨s', hr, -, hc, -⟩ :=
    hcommit State.restartsWithJournal 0 1 ha rfl (List.cons_ne_nil _ _) rfl (by decide +kernel)
  have hw := startCommit_of_storeWaits (s := State.restartsWithJournal.acceptedAt 0) rfl
  have hcalm : (State.restartsWithJournal.acceptedAt 0).startCommit.calm = true := by decide +kernel
  have hrun : runs (.retCommit 0 1) State.restartsWithJournal (State.restartsWithJournal.acceptedAt 0).startCommit :=
    runs_calmWrite rfl ha (atOnce_of_now (by decide +kernel) _) rfl hcalm
  obtain rfl := Host.Outcome.next.inj (hrun.symm.trans hr)
  rw [hw] at hc
  exact nomatch hc

end Sys2Proof.Machine
end

section
set_option Elab.async false
namespace Sys2Proof.Machine

/-! ### Commands that name a lane or a port -/

section
variable {c : Instr} {s u : State}

/-- A command that names a lane. -/
theorem runs_lane {lane : Nat} (hl : lane < 192) (he : exec c s = guarded (laneOk lane) u) : runs c s u :=
  he.trans (guarded_next.2 ⟨decide_eq_true hl, rfl⟩)

/-- A command that names a port. -/
theorem runs_port {port : Nat} (hp : port < 8) (he : exec c s = guarded (decide (port < 8)) u) : runs c s u :=
  he.trans (guarded_next.2 ⟨decide_eq_true hp, rfl⟩)

/-- A member of an element outside the footprint reads as before. -/
theorem Keeps.ve_eq {F : Foot} (h : Keeps F s u) (o e m : Nat)
    (hk : F.free (mkey o 0 m) = true := by decide +kernel) : u.ve o e m = s.ve o e m :=
  h.ve o e m hk

end

/-! ### The groups and the lanes (R238) -/

theorem portOfLane_meshLane (p : Nat) : portOfLane (meshLane p) = p := by
  unfold portOfLane meshLane
  omega

theorem groupOf_panel {lane : Nat} (h : lane < 128) : groupOf lane = lane := if_pos h

theorem groupOf_mesh {lane : Nat} (h : 128 ≤ lane) : groupOf lane = meshLane (portOfLane lane) :=
  if_neg (Nat.not_lt.2 h)

theorem meshLane_ge (p : Nat) : 128 ≤ meshLane p := Nat.le_add_right ..

@[simp] theorem groupOf_groupOf (lane : Nat) : groupOf (groupOf lane) = groupOf lane := by
  obtain h | h := Nat.lt_or_ge lane 128
  · rw [groupOf_panel h, groupOf_panel h]
  · rw [groupOf_mesh h, groupOf_mesh (meshLane_ge _), portOfLane_meshLane]

section
variable (s : State)

theorem group_groupOf (lane : Nat) : s.group (groupOf lane) = s.group lane := by
  rw [State.group, State.group, groupOf_groupOf]

theorem group_meshLane {lane : Nat} (h : 128 ≤ lane) : s.group (meshLane (portOfLane lane)) = s.group lane := by
  rw [← groupOf_mesh h, group_groupOf]

@[simp] theorem group_putGroup_self (lane : Nat) (g : Group) : (s.putGroup lane g).group lane = g :=
  tget_tput_self ..

@[simp] theorem lane_putLane_self (lane : Nat) (r : LaneRec) : (s.putLane lane r).lane lane = r := tget_tput_self ..

theorem lane_putLane_ne {lane n : Nat} (h : n ≠ lane) (r : LaneRec) : (s.putLane lane r).lane n = s.lane n :=
  tget_tput_ne _ h ..

@[simp] theorem group_putLane (lane n : Nat) (r : LaneRec) : (s.putLane lane r).group n = s.group n := rfl

@[simp] theorem lane_putGroup (lane n : Nat) (g : Group) : (s.putGroup lane g).lane n = s.lane n := rfl

variable {s} {u : State} {F : Foot}

theorem Keeps.lanes_eq (h : Keeps F s u) (hf : F.parts.contains .lanes = false := by rfl) : u.lanes = s.lanes :=
  h.lanes.resolve_left (Bool.eq_false_iff.1 hf)

theorem Keeps.lane_eq (h : Keeps F s u) (n : Nat) (hf : F.parts.contains .lanes = false := by rfl) :
    u.lane n = s.lane n :=
  congrArg (fun x : Lanes => tget LaneRec.reset n x.recs) (h.lanes_eq hf)

theorem Keeps.group_eq (h : Keeps F s u) (n : Nat) (hf : F.parts.contains .lanes = false := by rfl) :
    u.group n = s.group n :=
  congrArg (fun x : Lanes => tget Group.reset (groupOf n) x.groups) (h.lanes_eq hf)

end

/-! ### What sending leaves of a lane (R242, R243) -/

/-- A lane's record but for its transmitter's line code and its count of markers. -/
def LaneRec.still (r : LaneRec) : LaneRec := { r with tx := Line.reset, markersSent := 0 }

section
variable (s : State) (lane n seq : Nat)

theorem still_putBlock (kind : Nat) (payload : Bytes) :
    ((s.putBlock lane kind seq payload).lane n).still = (s.lane n).still := by
  by_cases h : n = lane
  · rw [h]
    exact (congrArg LaneRec.still (lane_putLane_self s lane _)).trans rfl
  · exact congrArg LaneRec.still (lane_putLane_ne s h _)

theorem still_sendMarker : ((State.sendMarker seq s lane).lane n).still = (s.lane n).still := by
  unfold State.sendMarker
  extract_lets s1 r
  refine Eq.trans ?_ (still_putBlock s lane n seq 8 (s.markerPayload lane))
  by_cases h : n = lane
  · rw [h, lane_putLane_self]
    rfl
  · rw [lane_putLane_ne _ h]

theorem still_sendTraining : ((s.sendTraining lane).lane n).still = (s.lane n).still :=
  (still_putBlock ..).trans (still_sendMarker ..)

theorem still_reachStage (stage : Nat) : ((s.reachStage lane stage).lane n).still = (s.lane n).still :=
  still_sendTraining ..

theorem reachStage_shows (stage : Nat) : (s.reachStage lane stage).ve 0x7010 lane 0x03 = stage :=
  ((State.sendTraining_keeps ..).ve_eq 0x7010 lane 0x03).trans (ve_pute_self ..)

end

/-! ### Bring-up (R253) -/

/-- A lane whose gate is open begins its bring-up in stage 0; whether it is re-trained stands. -/
theorem beginBringUp_begins {s : State} {lane : Nat} (hg : s.gateOpen? (gateLane + lane) = true) :
    (s.beginBringUp lane).laneState lane = 1 ∧ (s.beginBringUp lane).ve 0x7010 lane 0x03 = 0 ∧
      ((s.beginBringUp lane).lane lane).retrain = (s.lane lane).retrain := by
  unfold State.beginBringUp
  rw [if_pos hg]
  extract_lets r p
  refine ⟨?_, ?_, ?_⟩
  · refine ((State.sendTraining_keeps ..).ve_eq 0x7010 lane 0x01).trans ?_
    rw [(State.pute_keeps1 ..).ve_eq 0x7010 lane 0x01, (State.pute_keeps1 ..).ve_eq 0x7010 lane 0x01, ve_pute_self]
  · refine ((State.sendTraining_keeps ..).ve_eq 0x7010 lane 0x03).trans ?_
    rw [(State.pute_keeps1 ..).ve_eq 0x7010 lane 0x03, ve_pute_self]
  · refine (congrArg LaneRec.retrain (still_sendTraining _ lane lane)).trans ?_
    change ((s.putLane lane _).lane lane).retrain = _
    rw [lane_putLane_self]

end Sys2Proof.Machine
end

section
set_option Elab.async false
namespace Sys2Proof.Machine

/-! ### The steps of a bring-up (R253, R256, R262) -/

section
variable {s : State} {t lane : Nat}

theorem signalDetect_reaches (hl : lane < 192) (h1 : s.laneState lane = 1) (h0 : s.ve 0x7010 lane 0x03 = 0) :
    ∃ s', runs (.signalDetect t lane) s s' ∧ s'.ve 0x7010 lane 0x03 = 1 := by
  have hact : (s.enter t).doSignal lane = (s.enter t).reachStage lane 1 := if_pos ⟨h1, h0⟩
  exact ⟨_, runs_lane hl rfl, hact ▸ reachStage_shows ..⟩

theorem signalDetect_wakes (hl : lane < 192) (h4 : s.laneState lane = 4) (ha : (s.lane lane).rxAsleep = true)
    (hr : s.receiverSleeps lane = false) :
    ∃ s', runs (.signalDetect t lane) s s' ∧ s'.laneState lane = 1 ∧ s'.ve 0x7010 lane 0x03 = 1 ∧
      (s'.lane lane).waking = true := by
  have hstate : ¬((s.enter t).laneState lane = 1 ∧ (s.enter t).ve 0x7010 lane 0x03 = 0) := fun h =>
    absurd (h4.symm.trans h.1) (by decide)
  have hwake : ((s.enter t).laneServes lane && ((s.enter t).lane lane).rxAsleep &&
      !((s.enter t).receiverSleeps lane)) = true := by
    have hs : s.laneServes lane = true := by simp [State.laneServes, h4]
    have hr' : (s.enter t).receiverSleeps lane = false := hr
    have ha' : ((s.enter t).lane lane).rxAsleep = true := ha
    have hs' : (s.enter t).laneServes lane = true := hs
    rw [hs', ha', hr']
    rfl
  refine ⟨_, runs_lane hl rfl, ?_⟩
  rw [State.doSignal, if_neg hstate, if_pos hwake]
  refine ⟨?_, ve_pute_self .., ?_⟩
  · exact ((State.pute_keeps1 ..).ve_eq 0x7010 lane 0x01).trans (ve_pute_self ..)
  · exact congrArg LaneRec.waking (lane_putLane_self ..)

theorem cdrLock_reaches {preset margin : Nat} (hl : lane < 192) (h1 : s.laneState lane = 1)
    (hs : s.ve 0x7010 lane 0x03 = 1) :
    ∃ s', runs (.cdrLock t lane preset margin) s s' ∧ s'.ve 0x7010 lane 0x03 = 2 ∧
      s'.ve 0x7010 lane 0x0B = margin % 65536 ∧ (s'.lane lane).ownPreset = preset % 8 := by
  refine ⟨_, (runs_lane hl rfl).trans (congrArg _ (if_pos ⟨h1, hs⟩)), reachStage_shows .., ?_, ?_⟩
  · exact ((State.reachStage_keeps ..).ve_eq 0x7010 lane 0x0B).trans (ve_pute_self ..)
  · refine (congrArg LaneRec.ownPreset (still_reachStage _ lane lane 2)).trans ?_
    change ((State.putLane _ lane _).lane lane).ownPreset = _
    rw [lane_putLane_self]

/-! ### A bring-up that fails, and its retry (R253) -/

/-- A lane leaves a group that is not up: no lane's state changes. -/
theorem leavePort_laneState (hp : lane < 128 ∨ s.ve 0x7003 (portOfLane lane) 0x05 ≠ 2) (n : Nat) :
    (s.leavePort lane).laneState n = s.laneState n := by
  unfold State.leavePort
  split
  · exact (State.putHalf_keeps ..).ve_eq 0x7010 n 0x01
  · dsimp only
    rw [if_neg (hp.resolve_left ‹_›)]
    exact (State.portTryUp_keeps ..).ve_eq 0x7010 n 0x01

/-- What a lane that leaves its group may change, its state among it. -/
def leaveFoot : Foot :=
  ⟨[.out, .ingress, .panel, .lanes, .memory, .logs],
    [(0x180002, 0x180002), (0x180101, 0x180103), (0x300202, 0x300202),
    (0x300205, 0x300205), (0x301001, 0x301001), (0x301004, 0x301004), (0x700209, 0x700209), (0x700305, 0x700307),
    (0x700309, 0x700309), (0x701001, 0x701001), (0x701003, 0x701003), (0x701006, 0x701006), (0x900005, 0x900005)]⟩

/-- A bring-up that is no re-train fails: the lane shows it, and it is counted. -/
theorem bringUpFails_shows (hr : (s.lane lane).retrain = false)
    (hp : lane < 128 ∨ s.ve 0x7003 (portOfLane lane) 0x05 ≠ 2) (stage : Nat) :
    (s.bringUpFails lane stage).laneState lane = 5 ∧ counted s (s.bringUpFails lane stage) 0x7002 0 0x07 := by
  unfold State.bringUpFails
  rw [hr]
  extract_lets s1 r s2
  rw [if_neg Bool.false_ne_true]
  have hlog : Keeps leaveFoot (s.inc 0x7002 0x07) ((s2.pute 0x7010 lane 0x01 5).recovered domLane lane) :=
    (((Keeps.mono (State.log_keeps ..) (by decide +kernel)).step (State.putLane_keeps ..)).step
      (State.pute_keeps1 ..)).step (State.recovered_keeps ..)
  constructor
  · have h5 : ((s2.pute 0x7010 lane 0x01 5).recovered domLane lane).laneState lane = 5 :=
      ((State.recovered_keeps ..).ve_eq 0x7010 lane 0x01).trans (ve_pute_self ..)
    refine (leavePort_laneState (hp.imp_right fun h => ?_) lane).trans h5
    rw [(State.recovered_keeps ..).ve_eq 0x7003 _ 0x05, (State.pute_keeps1 ..).ve_eq 0x7003 _ 0x05,
      (State.putLane_keeps ..).ve_eq 0x7003 _ 0x05, (State.log_keeps ..).ve_eq 0x7003 _ 0x05,
      (State.inc_keeps1 ..).ve_eq 0x7003 _ 0x05]
    exact h
  · exact counted_between (.refl ⟨[], []⟩ s) (hlog.step (State.leavePort_keeps ..))

theorem bringUpStageTimeout_fails (hl : lane < 192) (h1 : s.laneState lane = 1)
    (hr : (s.lane lane).retrain = false) (hp : lane < 128 ∨ s.ve 0x7003 (portOfLane lane) 0x05 ≠ 2) :
    ∃ s', runs (.bringUpStageTimeout t lane) s s' ∧ s'.laneState lane = 5 ∧ counted s s' 0x7002 0 0x07 :=
  ⟨_, (runs_lane hl rfl).trans (congrArg _ (if_pos h1)), bringUpFails_shows (s := s.enter t) hr hp _⟩

theorem bringUpRetry_begins (hl : lane < 192) (h5 : s.laneState lane = 5) (h0 : s.v 0x7000 0x02 ≠ 0)
    (hg : s.gateOpen? (gateLane + lane) = true) :
    ∃ s', runs (.bringUpRetry t lane) s s' ∧ s'.laneState lane = 1 ∧ s'.ve 0x7010 lane 0x03 = 0 := by
  refine ⟨_, (runs_lane hl rfl).trans (congrArg _ (if_pos ⟨h5, h0⟩)), ?_⟩
  obtain ⟨hstate, hstage, -⟩ := beginBringUp_begins (lane := lane) (s :=
    if 128 ≤ lane ∧ (s.enter t).ve 0x7003 (portOfLane lane) 0x05 = 0 then
      (s.enter t).pute 0x7003 (portOfLane lane) 0x05 1 else s.enter t) (by
    split
    · rw [State.gateOpen?, (State.pute_keeps1 ..).ve_eq 0x2030 _ 0x02]
      exact hg
    · exact hg)
  exact ⟨hstate, hstage⟩

/-! ### Lost lock (R257) -/

theorem laneLockLoss_restarts (hl : lane < 192) (h1 : s.laneState lane = 1) (hr : (s.lane lane).retrain = false) :
    ∃ s', runs (.laneLockLoss t lane) s s' ∧ s'.laneState lane = 1 ∧ s'.ve 0x7010 lane 0x03 = 0 ∧
      (s'.lane lane).syncs = 0 := by
  have h1' : (s.enter t).laneState lane = 1 := h1
  have hr' : ¬((s.enter t).lane lane).retrain = true := Bool.eq_false_iff.1 hr
  refine ⟨_, runs_lane hl rfl, ?_⟩
  rw [State.doLockLoss, if_pos h1', if_neg hr']
  refine ⟨?_, ve_pute_self .., congrArg LaneRec.syncs (lane_putLane_self ..)⟩
  exact ((State.pute_keeps1 ..).ve_eq 0x7010 lane 0x01).trans h1

/-- The re-train of a panel lane (R250): counted for the device and the lane, the lane is brought up and leaves
its half's mapping. -/
theorem retrainLane_retrains (hl : lane < 128) (hon : s.b 0x7000 0x01 = true)
    (hg : s.gateOpen? (gateLane + lane) = true) :
    (s.retrainLane lane).laneState lane = 1 ∧ counted s (s.retrainLane lane) 0x7002 0 0x06 ∧
      counted s (s.retrainLane lane) 0x7010 lane 0x09 ∧ ((s.retrainLane lane).lane lane).retrain = true ∧
      lane ∈ ((s.retrainLane lane).half (lane / 64)).gone := by
  unfold State.retrainLane
  rw [if_pos hon]
  extract_lets s1
  set x := s1.putLane lane { s1.lane lane with retrain := true, byMaster := false } with hx
  have hlog : Keeps ⟨[.memory, .logs, .lanes], [(0x180002, 0x180002), (0x180101, 0x180103), (0x900005, 0x900005)]⟩
      ((s.inc 0x7002 0x06).ince 0x7010 lane 0x09) x :=
    ((Keeps.mono (State.log_keeps ..) (by decide +kernel)).step (State.recover_keeps ..)).step (State.putLane_keeps ..)
  have hleave : (x.beginBringUp lane).leavePort lane = (x.beginBringUp lane).putHalf (lane / 64)
      { (x.beginBringUp lane).half (lane / 64) with gone := lane :: ((x.beginBringUp lane).half (lane / 64)).gone } :=
    if_pos hl
  have hgate : x.gateOpen? (gateLane + lane) = true := by
    rw [State.gateOpen?, hlog.ve_eq 0x2030 _ 0x02, (State.ince_keeps1 ..).ve_eq 0x2030 _ 0x02,
      (State.inc_keeps1 ..).ve_eq 0x2030 _ 0x02]
    exact hg
  obtain ⟨hstate, -, hre⟩ := beginBringUp_begins hgate
  have hafter : Keeps leaveFoot ((s.inc 0x7002 0x06).ince 0x7010 lane 0x09)
      ((x.beginBringUp lane).leavePort lane) :=
    ((hlog.mono (by decide +kernel)).step (State.beginBringUp_keeps ..)).step (State.leavePort_keeps ..)
  refine ⟨?_, ?_, ?_, ?_, ?_⟩
  · exact (leavePort_laneState (.inl hl) lane).trans hstate
  · exact counted_within (.refl ⟨[], []⟩ s) (counted_between (.refl ⟨[], []⟩ s) (State.ince_keeps1 ..)) hafter
  · exact counted_between (State.inc_keeps1 s 0x7002 0x06) hafter
  · rw [hleave, (State.putHalf_keeps ..).lane_eq, hre, hx, lane_putLane_self]
  · rw [hleave, half_putHalf_self]
    exact List.mem_cons_self

theorem laneLockLoss_retrains (hl : lane < 128) (h2 : s.laneState lane = 2) (hon : s.b 0x7000 0x01 = true)
    (hg : s.gateOpen? (gateLane + lane) = true) :
    ∃ s', runs (.laneLockLoss t lane) s s' ∧ s'.laneState lane = 1 ∧ counted s s' 0x7002 0 0x06 ∧
      counted s s' 0x7010 lane 0x09 ∧ (s'.lane lane).retrain = true ∧ lane ∈ (s'.half (lane / 64)).gone := by
  have h1 : ¬(s.enter t).laneState lane = 1 := fun h => absurd (h2.symm.trans h) (by decide)
  have hs : ¬(!(s.enter t).laneServes lane) = true := by
    have h2' : (s.enter t).laneState lane = 2 := h2
    simp [State.laneServes, h2']
  refine ⟨_, runs_lane (by omega) rfl, ?_⟩
  rw [State.doLockLoss, if_neg h1, if_neg hs, if_pos hl]
  exact retrainLane_retrains (s := s.enter t) hl hon hg

end

/-! ### Sleep of a transmit direction (R263) -/

/-- A run of steps of which each drives `k` outputs. -/
theorem out_length_foldl {α : Type} {f : State → α → State} {k : Nat}
    (h : ∀ x a, (f x a).out.length = x.out.length + k) (l : List α) (s : State) :
    (l.foldl f s).out.length = s.out.length + k * l.length := by
  induction l generalizing s with
  | nil => rfl
  | cons a l ih =>
    rw [List.foldl_cons, ih, h, List.length_cons]
    ring

theorem out_putBlock (s : State) (lane kind seq : Nat) (payload : Bytes) :
    (s.putBlock lane kind seq payload).out = s.out ++ [.block lane kind seq payload] := rfl

theorem portSleepTimer_sleeps {s : State} {t port : Nat} (hp : port < 8) (h4 : s.ve 0x7003 port 0x04 ≠ 0)
    (h5 : s.ve 0x7003 port 0x05 = 2) (h9 : s.ve 0x7003 port 0x09 = 0) (hh : (s.group (meshLane port)).held = [])
    (hn : (s.group (meshLane port)).nak = false) (hq : (s.group (meshLane port)).queue = [])
    (hb : port ∉ s.ingress.busy) :
    ∃ s', runs (.portSleepTimer t port) s s' ∧ s'.ve 0x7003 port 0x09 = 1 ∧
      s'.out.length = 2 * (s.txLanes port).length := by
  have hb' : (!((s.enter t).ingress.busy.contains port)) = true := by simpa using hb
  refine ⟨_, runs_port hp rfl, ?_⟩
  rw [State.doPortSleep, if_pos ⟨h4, h5, h9, hh, hq, hn, hb'⟩]
  refine ⟨ve_pute_self .., ?_⟩
  rw [State.pute_out, out_length_foldl (k := 2) fun x l => by simp [out_putBlock]]
  exact Nat.zero_add _

/-- Settles O47, step by step of a bring-up: the stages that a lane reaches are shown whatever it then sends. -/
theorem bringUp : Obligations.BringUp :=
  ⟨fun _ _ _ hl h1 h0 => signalDetect_reaches hl h1 h0, fun _ _ _ hl h4 ha hr => signalDetect_wakes hl h4 ha hr,
    fun _ _ _ _ _ hl h1 hs => cdrLock_reaches hl h1 hs,
    fun _ _ _ hl h1 hr hp => bringUpStageTimeout_fails hl h1 hr hp,
    fun _ _ _ hl h5 h0 hg => bringUpRetry_begins hl h5 h0 hg,
    fun _ _ _ hl h1 hr => laneLockLoss_restarts hl h1 hr,
    fun _ _ _ hl h2 hon hg => laneLockLoss_retrains hl h2 hon hg,
    fun _ _ _ hp h4 h5 h9 hh hn hq hb => portSleepTimer_sleeps hp h4 h5 h9 hh hn hq hb⟩

end Sys2Proof.Machine
end

section
set_option Elab.async false
namespace Sys2Proof.Machine

/-! ### Acknowledgements free what they cover (R249) -/

section
variable {s : State} {lane : Nat}

theorem drainQueue_of_empty (h : (s.group lane).queue = []) :
    s.drainQueue lane = s.putGroup lane { s.group lane with queue := [] } := by
  unfold State.drainQueue
  dsimp only
  rw [h]
  rfl

/-- A group's new record is put in place, the round trip shown, and no block waits for room. -/
theorem freed_shows {g : Group} (h : g.queue = []) (n : Nat) :
    (((s.putGroup lane g).showRoundTrip lane n).drainQueue lane).group lane = g ∧
      (((s.putGroup lane g).showRoundTrip lane n).drainQueue lane).lanes.recs = s.lanes.recs := by
  have hshow := State.showRoundTrip_keeps (s.putGroup lane g) lane n
  have hgroup := (hshow.group_eq lane).trans (group_putGroup_self s lane g)
  have hdrain := drainQueue_of_empty ((congrArg Group.queue hgroup).trans h)
  rw [hdrain, hgroup, group_putGroup_self, ← h]
  exact ⟨rfl, (congrArg Lanes.recs hshow.lanes_eq :)⟩

/-- An acknowledgement of a group in which no block waits for room. -/
theorem ackOn_frees (hq : (s.group lane).queue = []) (q : Nat) :
    (∀ x ∈ ((s.ackOn lane q).group lane).held, seqUpTo x.seq q = false) ∧
      ((s.ackOn lane q).group lane).txSeq = (s.group lane).txSeq ∧ (s.ackOn lane q).lanes.recs = s.lanes.recs := by
  unfold State.ackOn
  extract_lets g done
  split
  next hn =>
    refine ⟨fun x hx => ?_, rfl, rfl⟩
    simpa using List.filter_eq_nil_iff.1 (List.getLast?_eq_none_iff.1 hn) x hx
  next ended _ b hb =>
    obtain ⟨hgroup, hrecs⟩ := freed_shows (s := s) (lane := lane) (g := { g with
      held := g.held.filter fun b => !seqUpTo b.seq q
      replay := if ended then none else g.replay
      fails := if ended then 0 else g.fails }) hq (s.now - b.sentAt)
    refine ⟨fun x hx => ?_, (congrArg Group.txSeq hgroup :), hrecs⟩
    rw [hgroup] at hx
    simpa using (List.mem_filter.1 hx).2

/-! ### Slot order at a mesh receiver (R245) -/

theorem mem_portLanes_of_mem_rxOrder {p l : Nat} (h : l ∈ s.rxOrder p) : l ∈ portLanes p := by
  unfold State.rxOrder at h
  extract_lets ls at h
  have hl : l ∈ ls := by
    split at h
    · exact List.mem_reverse.1 h
    · exact h
  exact (List.mem_filter.1 hl).1

/-- With nothing waiting on the lanes of a port, there is no slot to restore. -/
theorem restoreSlots_of_empty {p : Nat} (h : ∀ l ∈ portLanes p, (s.lane l).fifo = []) (fuel : Nat) :
    State.restoreSlots p fuel s = s := by
  cases fuel with
  | zero => rfl
  | succ n =>
    rw [State.restoreSlots]
    dsimp only
    split
    · rfl
    next l hl =>
      have hnone : (s.rxOrder p).any (fun x => !((s.lane x).fifo).isEmpty) = false :=
        List.any_eq_false.2 fun x hx => by simp [h x (mem_portLanes_of_mem_rxOrder hx)]
      rw [h l (mem_portLanes_of_mem_rxOrder (List.mem_of_getElem? hl)), hnone, Bool.and_false]
      exact if_neg Bool.false_ne_true

/-- The block of the next slot has arrived on the lane of its rank: it is taken. -/
theorem restoreSlots_takes {p l : Nat} {b : Bytes} {rest : List Bytes} (fuel : Nat)
    (hl : (s.rxOrder p)[(s.group (meshLane p)).rxSlot]? = some l) (hf : (s.lane l).fifo = b :: rest) :
    State.restoreSlots p (fuel + 1) s = State.restoreSlots p fuel
      (((s.putLane l { s.lane l with fifo := rest }).rxNext p (s.rxOrder p).length).takeBlock l b) := by
  rw [State.restoreSlots]
  simp only [hl, hf]

theorem le_foldl_add {α : Type} (f : α → Nat) (l : List α) (a : Nat) : a ≤ l.foldl (fun a x => a + f x) a := by
  induction l generalizing a with
  | nil => exact Nat.le_refl a
  | cons x l ih => exact (Nat.le_add_right ..).trans (ih _)

/-- A block that arrives in its turn is taken; the next slot is waited for, and nothing else waits for a place. -/
theorem receiveBlock_inTurn (h : s.inTurn lane = true) (b : Bytes) :
    ∃ (x : State) (fuel : Nat),
      s.receiveBlock lane b = State.restoreSlots (portOfLane lane) fuel (x.takeBlock lane b) ∧
      (∀ l ∈ portLanes (portOfLane lane), (x.lane l).fifo = []) ∧
      (x.group lane).queue = (s.group lane).queue ∧ (x.group lane).txSeq = (s.group lane).txSeq := by
  simp only [State.inTurn, Bool.and_eq_true, decide_eq_true_eq, beq_iff_eq, List.all_eq_true,
    List.isEmpty_iff] at h
  obtain ⟨⟨⟨⟨⟨hlow, hhigh⟩, hup⟩, hserves⟩, hrank⟩, hempty⟩ := h
  have hin : lane ∈ s.rxOrder (portOfLane lane) := List.mem_of_getElem? hrank
  have hfifo : (s.lane lane).fifo = [] := hempty lane (mem_portLanes_of_mem_rxOrder hin)
  unfold State.receiveBlock
  extract_lets s1 p r s2
  have hc : s1.ve 0x7003 p 0x05 = 2 ∧ s1.laneServes lane = true ∧ (s1.rxOrder p).contains lane = true :=
    ⟨hup, hserves, List.contains_iff_mem.2 hin⟩
  rw [if_neg (Nat.not_lt.2 hlow), if_pos hc]
  have hr : r = { s.lane lane with rx := (s.lane lane).rx.after b } := lane_putLane_self ..
  have hs2 : (s2.lane lane).fifo = [b] := by
    rw [lane_putLane_self, hr, hfifo]
    rfl
  have hslot : (s2.rxOrder p)[(s2.group (meshLane p)).rxSlot]? = some lane := by
    rw [group_meshLane _ hlow]
    exact hrank
  have hfuel := le_foldl_add (fun l => (s2.lane l).fifo.length) (portLanes p) 1
  obtain ⟨fuel, hn⟩ := Nat.exists_eq_succ_of_ne_zero (n := 8 * ((portLanes p).foldl
    (fun a l => a + (s2.lane l).fifo.length) 1)) (by omega)
  refine ⟨(s2.putLane lane { s2.lane lane with fifo := [] }).rxNext p (s2.rxOrder p).length, fuel, ?_, ?_, ?_⟩
  · rw [hn]
    exact restoreSlots_takes fuel hslot hs2
  · intro l hl
    change ((s2.putLane lane _).lane l).fifo = []
    by_cases heq : l = lane
    · rw [heq, lane_putLane_self]
    · rw [lane_putLane_ne _ heq, lane_putLane_ne _ heq]
      exact (congrArg LaneRec.fifo (lane_putLane_ne s heq _)).trans (hempty l hl)
  · rw [← group_meshLane _ hlow, ← group_meshLane s hlow, State.rxNext, group_putGroup_self]
    exact ⟨rfl, rfl⟩

/-- An acknowledge block is taken out of the stream, entry by entry (R241, R247). -/
theorem takeBlock_ack {b : Bytes} (hok : blockOk b = true) (h5 : blockType b = 5) :
    s.takeBlock lane b = (ackEntries b).foldl (State.ackEntry lane) s := by
  have hlow : ¬12 ≤ blockType b := h5 ▸ by decide
  have hgood : ¬(!blockOk b) = true := by simp [hok]
  rw [State.takeBlock, if_neg hlow, if_neg hgood, if_pos h5]

theorem ackEntry_mesh (hl : 128 ≤ lane) (rank q : Nat) :
    State.ackEntry lane s { lane := 0xFF, nak := false, rank := rank, seq := q } =
      s.ackOn (meshLane (portOfLane lane)) q := by
  simp [State.ackEntry, Nat.not_lt.2 hl]

/-- On return lane `lane % 64` of a half an entry names one of sixteen forward lanes. -/
theorem ackEntry_panel {k : Nat} (hl : lane < 128) (hk : k < 64) (hret : k / 16 = lane % 64) (rank q : Nat) :
    State.ackEntry lane s { lane := k, nak := false, rank := rank, seq := q } = s.ackOn (lane / 64 * 64 + k) q := by
  simp [State.ackEntry, hl, hk, hret]

theorem acknowledge_mesh {t q : Nat} {b : Bytes} (h : s.inTurn lane = true) (hok : blockOk b = true)
    (h5 : blockType b = 5) (he : ackEntries b = [{ lane := 0xFF, nak := false, rank := 0, seq := q }])
    (hq : (s.group lane).queue = []) :
    ∃ s', runs (.acknowledge t lane b) s s' ∧ (∀ x ∈ (s'.group lane).held, seqUpTo x.seq q = false) ∧
      (s'.group lane).txSeq = (s.group lane).txSeq := by
  have hl : 128 ≤ lane ∧ lane < 192 := by
    simp only [State.inTurn, Bool.and_eq_true, decide_eq_true_eq] at h
    exact h.1.1.1.1
  obtain ⟨x, fuel, hrec, hempty, hxq, hxt⟩ := receiveBlock_inTurn (s := s.enter t) h b
  rw [← group_meshLane x hl.1, ← group_meshLane _ hl.1] at hxq hxt
  rw [← group_meshLane s hl.1] at hq
  obtain ⟨hfree, htx, hrecs⟩ := ackOn_frees (hxq.trans hq) q
  have hend : (s.enter t).receiveBlock lane b = x.ackOn (meshLane (portOfLane lane)) q := by
    rw [hrec, takeBlock_ack hok h5, he, List.foldl_cons, ackEntry_mesh hl.1, List.foldl_nil]
    exact restoreSlots_of_empty (fun l hm => (congrArg (fun r => (tget LaneRec.reset l r).fifo) hrecs).trans
      (hempty l hm)) fuel
  refine ⟨_, runs_lane hl.2 rfl, ?_⟩
  rw [hend, ← group_meshLane _ hl.1, ← group_meshLane s hl.1]
  exact ⟨hfree, htx.trans hxt⟩

theorem acknowledge_panel {t k q : Nat} {b : Bytes} (hl : lane < 128) (hs : s.laneServes lane = true)
    (ha : (s.lane lane).rxAsleep = false) (hok : blockOk b = true) (h5 : blockType b = 5) (hk : k < 64)
    (hret : k / 16 = lane % 64) (he : ackEntries b = [{ lane := k, nak := false, rank := 0, seq := q }])
    (hq : (s.group (lane / 64 * 64 + k)).queue = []) :
    ∃ s', runs (.acknowledge t lane b) s s' ∧
      (∀ x ∈ (s'.group (lane / 64 * 64 + k)).held, seqUpTo x.seq q = false) ∧
      (s'.group (lane / 64 * 64 + k)).txSeq = (s.group (lane / 64 * 64 + k)).txSeq := by
  have hawake : (((s.enter t).heard lane b).laneServes lane &&
      !(((s.enter t).heard lane b).lane lane).rxAsleep) = true := by
    have hrx : (((s.enter t).heard lane b).lane lane).rxAsleep = false :=
      (congrArg LaneRec.rxAsleep (lane_putLane_self ..)).trans ha
    rw [hrx]
    exact (Bool.and_true _).trans hs
  have hend : (s.enter t).receiveBlock lane b = ((s.enter t).heard lane b).ackOn (lane / 64 * 64 + k) q := by
    rw [State.receiveBlock, if_pos hl, if_pos hawake, takeBlock_ack hok h5, he, List.foldl_cons,
      ackEntry_panel hl hk hret, List.foldl_nil]
  refine ⟨_, runs_lane (by omega) rfl, ?_⟩
  rw [hend]
  obtain ⟨hfree, htx, -⟩ := ackOn_frees (s := (s.enter t).heard lane b) hq q
  exact ⟨hfree, htx⟩

end

end Sys2Proof.Machine
end

section
set_option Elab.async false
namespace Sys2Proof.Machine

/-! ### What sending leaves of a lane group (R243 to R245, R249) -/

/-- A group's record but for its counts of rows: what the rows that fall due leave alone. -/
def Group.unrowed (g : Group) : Group := { g with rows := 0, markers := 0, fillerAt := 0 }

/-- A group's record but for its rows and the blocks held: what sending a held block leaves alone. -/
def Group.still (g : Group) : Group := { g.unrowed with held := [], slot := 0 }

theorem Group.still_slotSent (g : Group) (n : Nat) : (g.slotSent n).still = g.still := by
  unfold Group.slotSent
  split <;> rfl

theorem Group.still_of_unrowed {g h : Group} (e : g.unrowed = h.unrowed) : g.still = h.still :=
  congrArg (fun x : Group => { x with held := [], slot := 0 }) e

theorem Group.replay_of_still {g h : Group} (e : g.still = h.still) :
    g.replay = h.replay ∧ g.replayAt = h.replayAt ∧ g.fails = h.fails :=
  ⟨(congrArg Group.replay e :), (congrArg Group.replayAt e :), (congrArg Group.fails e :)⟩

section
variable (s : State) (lane seq : Nat)

@[simp] theorem group_putBlock (l kind n : Nat) (payload : Bytes) :
    (s.putBlock l kind seq payload).group n = s.group n := rfl

theorem group_sendMarker (l n : Nat) : (State.sendMarker seq s l).group n = s.group n := by
  unfold State.sendMarker
  dsimp only
  rw [group_putLane, group_putBlock]

theorem group_sendFiller (l n : Nat) : (State.sendFiller seq s l).group n = s.group n := rfl

theorem unrowed_sendRow {send : State → Nat → State} (h : ∀ x l, (send x l).group lane = x.group lane) :
    ((s.sendRow lane send).group lane).unrowed = (s.group lane).unrowed := by
  unfold State.sendRow
  extract_lets s1 g
  rw [group_putGroup_self]
  exact (congrArg Group.unrowed (foldl_unchanged (π := fun x => x.group lane) h _ s) :)

/-- A row that falls due takes a new count of rows of its kind. -/
theorem unrowed_rowDue {send : State → Nat → State} (h : ∀ x l, (send x l).group lane = x.group lane) {g : Group}
    (hg : g.unrowed = (s.group lane).unrowed) :
    (((s.putGroup lane g).sendRow lane send).group lane).unrowed = (s.group lane).unrowed := by
  rw [unrowed_sendRow _ _ h, group_putGroup_self, hg]

theorem unrowed_dueRows : ((s.dueRows lane seq).group lane).unrowed = (s.group lane).unrowed := by
  unfold State.dueRows
  extract_lets g s1 g1
  have h1 : (s1.group lane).unrowed = (s.group lane).unrowed := by
    unfold s1
    split
    · exact unrowed_rowDue s lane (fun x l => group_sendMarker x seq l lane) rfl
    · rfl
  split
  · rfl
  · split
    · refine (unrowed_rowDue s1 lane (fun x l => group_sendFiller x seq l lane) ?_).trans h1
      rfl
    · exact h1

theorem still_sendSlot (kind : Nat) (payload : Bytes) :
    ((s.sendSlot lane kind seq payload).group lane).still = (s.group lane).still := by
  unfold State.sendSlot
  split
  · rfl
  next l _ =>
    dsimp only
    rw [group_putGroup_self, Group.still_slotSent]
    rfl

theorem still_sendHeld (b : Held) : ((State.sendHeld lane s b).group lane).still = (s.group lane).still := by
  unfold State.sendHeld
  extract_lets s1 g on
  rw [still_sendSlot, group_putGroup_self]
  exact (Group.still_of_unrowed (unrowed_dueRows s lane b.seq) :)

theorem still_resendHeld (again : List Held) :
    ((s.resendHeld lane again).group lane).still = (s.group lane).still := by
  unfold State.resendHeld
  extract_lets g
  rw [foldl_unchanged (π := fun x => (x.group lane).still) (fun x b => still_sendHeld x lane b), group_putGroup_self]
  rfl

/-! ### A replay (R249) -/

/-- The group's replay begins now; the blocks due are sent again, counted for the device. -/
theorem resend_replays (q charged : Nat) :
    ((s.resend lane q charged).group lane).replay = some q ∧
      ((s.resend lane q charged).group lane).replayAt = s.now ∧
      ((s.resend lane q charged).group lane).fails = (s.group lane).fails ∧
      counted s (s.resend lane q charged) 0x7002 0 0x03 := by
  unfold State.resend
  extract_lets g
  set again := g.held.filter fun b => seqUpTo q b.seq
  set s1 := s.putGroup lane { g with replay := some q, replayAt := s.now } with hs1
  have hsent : Keeps ⟨[.out, .lanes], []⟩ s (s1.resendHeld lane again) :=
    .step (.step (.refl _ s) (State.putGroup_keeps ..)) (State.resendHeld_keeps ..)
  have hcounts : Keeps ⟨[], [(0x700203, 0x700203), (0x701008, 0x701008)]⟩ (s1.resendHeld lane again)
      (((s1.resendHeld lane again).inc 0x7002 0x03).ince 0x7010 charged 0x08) :=
    .step (.step (.refl _ _) (State.inc_keeps1 ..)) (State.ince_keeps1 ..)
  have hstill := still_resendHeld s1 lane again
  rw [← hcounts.group_eq lane, hs1, group_putGroup_self] at hstill
  obtain ⟨hreplay, hat, hfails⟩ := Group.replay_of_still hstill
  exact ⟨hreplay, hat, hfails, counted_between hsent (State.ince_keeps1 ..)⟩

theorem replayTimeout_resends {t : Nat} {b : Held} {l : List Held} (hl : lane < 192)
    (hh : (s.group lane).held = b :: l) (hr : (s.group lane).replay ≠ some b.seq) :
    ∃ s', runs (.replayTimeout t lane) s s' ∧ (s'.group lane).replay = some b.seq ∧
      (s'.group lane).replayAt = max s.now t ∧ (s'.group lane).fails = 0 ∧
      counted s s' 0x7002 0 0x05 ∧ counted s s' 0x7002 0 0x03 := by
  set s2 := (s.enter t).inc 0x7002 0x05
  set s3 := s2.putGroup lane { s2.group lane with fails := 0 } with hs3
  have hact : exec (.replayTimeout t lane) s =
      guarded (laneOk lane) (s3.resend (groupOf lane) b.seq (groupOf lane)) := by
    have hh' : ((s.enter t).group lane).held = b :: l := hh
    change execReplayTimeout t lane s = _
    unfold execReplayTimeout
    dsimp only
    have hr' : ¬((s.enter t).group lane).replay = some b.seq := hr
    rw [hh']
    dsimp only
    rw [if_neg hr', hs3]
  have h2 : Keeps ⟨[.lanes], [(0x700205, 0x700205)]⟩ (s.enter t) s3 :=
    .step (.step (.refl _ _) (State.inc_keeps1 ..)) (State.putGroup_keeps ..)
  have hgone : Keeps ⟨[.out, .lanes], [(0x700203, 0x700203), (0x701008, 0x701008)]⟩ s2
      (s3.resend (groupOf lane) b.seq (groupOf lane)) :=
    .step (.step (.refl _ _) (State.putGroup_keeps ..)) (State.resend_keeps ..)
  obtain ⟨hreplay, hat, hfails, hcount⟩ := resend_replays s3 (groupOf lane) b.seq (groupOf lane)
  rw [group_groupOf] at hreplay hat hfails
  refine ⟨_, runs_lane hl hact, hreplay, hat.trans h2.now_eq, hfails.trans ?_, ?_, ?_⟩
  · rw [group_groupOf, hs3, group_putGroup_self]
  · exact (counted_between (.refl ⟨[], []⟩ (s.enter t)) hgone :)
  · exact (counted_within h2 hcount (.refl ⟨[], []⟩ _) :)

end

/-! ### The acknowledge block of a mesh receiver (R247, R248) -/

section
variable {s : State} {lane : Nat}

theorem slotLane?_dueRows (seq : Nat) : (s.dueRows lane seq).slotLane? lane = s.slotLane? lane := by
  have hslot : ((s.dueRows lane seq).group lane).slot = (s.group lane).slot :=
    (congrArg Group.slot (unrowed_dueRows s lane seq) :)
  have hlanes : (s.dueRows lane seq).groupLanes lane = s.groupLanes lane := by
    rw [State.groupLanes, State.groupLanes, State.txLanes, (State.dueRows_keeps s lane seq).ve_eq 0x7003 _ 0x06,
      State.txLanes]
  rw [State.slotLane?, State.slotLane?, hslot, hlanes]

theorem out_sendSlot {l kind seq : Nat} {payload : Bytes} (h : s.slotLane? lane = some l) :
    (s.sendSlot lane kind seq payload).out = s.out ++ [.block l kind seq payload] := by
  rw [State.sendSlot, h]
  rfl

theorem wakeTx_of_awake (hl : 128 ≤ lane) (h : s.ve 0x7003 (portOfLane lane) 0x09 = 0) : s.wakeTx lane = s := by
  rw [State.wakeTx, if_neg (Nat.not_lt.2 hl), if_neg (by rw [h]; decide)]

/-- An acknowledge block takes the next slot behind the rows that are due. -/
theorem out_sendBlock_ack {l : Nat} {payload : Bytes} (hl : 128 ≤ lane)
    (h9 : s.ve 0x7003 (portOfLane lane) 0x09 = 0) (h : s.slotLane? lane = some l) :
    (s.sendBlock lane 5 payload []).out.getLast? = some (.block l 5 (s.group lane).txSeq payload) := by
  have hsend : s.sendBlock lane 5 payload [] =
      (s.dueRows lane (s.group lane).txSeq).sendSlot lane 5 (s.group lane).txSeq payload := by
    rw [State.sendBlock, wakeTx_of_awake hl h9, if_neg (by decide), if_neg (by decide)]
  rw [hsend, out_sendSlot ((slotLane?_dueRows _).trans h), List.getLast?_concat]

theorem sendAck_sends {port l : Nat} (h9 : s.ve 0x7003 port 0x09 = 0) (h : s.slotLane? (meshLane port) = some l) :
    (s.sendAck port).out.getLast? =
      some (.block l 5 (s.group (meshLane port)).txSeq (s.group (meshLane port)).ack) := by
  have hsent := out_sendBlock_ack (payload := (s.group (meshLane port)).ack) (meshLane_ge port)
    ((portOfLane_meshLane port).symm ▸ h9) h
  unfold State.sendAck
  dsimp only
  split
  · rw [(State.inc_keeps1 ..).out.resolve_left (by decide)]
    exact hsent
  · exact hsent

theorem ackSendTimer_acks {t port l : Nat} (hp : port < 8) (h5 : s.ve 0x7003 port 0x05 = 2)
    (h9 : s.ve 0x7003 port 0x09 = 0) (hn : (s.group (meshLane port)).nak = false)
    (h : s.slotLane? (meshLane port) = some l) :
    ∃ s', runs (.ackSendTimer t port) s s' ∧
      s'.out.getLast? = some (.block l 5 (s.group (meshLane port)).txSeq
        (ackPayload 0xFF false 0 (((s.group (meshLane port)).rxSeq + 4095) % 4096))) := by
  refine ⟨_, (runs_port hp rfl).trans (congrArg _ (if_pos h5)), (sendAck_sends (s := s.enter t) h9 h).trans ?_⟩
  change some (Output.block l 5 _ (s.group (meshLane port)).ack) = _
  rw [Group.ack, if_neg (Bool.eq_false_iff.1 hn)]
  rfl

theorem ackSendTimer_naks {t port l : Nat} (hp : port < 8) (h5 : s.ve 0x7003 port 0x05 = 2)
    (h9 : s.ve 0x7003 port 0x09 = 0) (hn : (s.group (meshLane port)).nak = true)
    (h : s.slotLane? (meshLane port) = some l) :
    ∃ s', runs (.ackSendTimer t port) s s' ∧ counted s s' 0x7002 0 0x02 ∧
      s'.out.getLast? = some (.block l 5 (s.group (meshLane port)).txSeq
        (ackPayload 0xFF true (s.group (meshLane port)).nakRank (s.group (meshLane port)).rxSeq)) := by
  refine ⟨_, (runs_port hp rfl).trans (congrArg _ (if_pos h5)), ?_,
    (sendAck_sends (s := s.enter t) h9 h).trans ?_⟩
  · have hsent := State.sendBlock_keeps (s.enter t) (meshLane port) 5 (s.group (meshLane port)).ack []
    have hcount : (s.enter t).sendAck port =
        ((s.enter t).sendBlock (meshLane port) 5 (s.group (meshLane port)).ack []).inc 0x7002 0x02 := if_pos hn
    rw [hcount]
    exact (counted_between (o := 0x7002) (e := 0) (m := 0x02) hsent (.refl ⟨[], []⟩ _) :)
  · change some (Output.block l 5 _ (s.group (meshLane port)).ack) = _
    rw [Group.ack, if_pos hn]
    rfl

end

end Sys2Proof.Machine
end

section
set_option Elab.async false
namespace Sys2Proof.Machine

/-! ### Markers (R243, R253, R255) -/

/-- The lane number, the marker row and the far end's coordinates that a good marker tells. -/
def State.markerTold (s : State) (lane : Nat) (p : Bytes) : State :=
  let s1 := (s.pute 0x7010 lane 0x0C (field p 1 1)).putLane lane
    { s.lane lane with markerNo := field p 8 4, markerAt := s.now }
  if lane < 128 then s1 else s1.pute 0x7003 (portOfLane lane) 0x08 (field p 4 2)

section
variable {s : State} {lane : Nat}

theorem heard_lane_self (b : Bytes) :
    (s.heard lane b).lane lane = { s.lane lane with rx := (s.lane lane).rx.after b } := lane_putLane_self ..

theorem markerTold_keeps (p : Bytes) :
    Keeps ⟨[.lanes], [(0x70100C, 0x70100C), (0x700308, 0x700308)]⟩ s (s.markerTold lane p) := by
  have h1 : Keeps ⟨[.lanes], [(0x70100C, 0x70100C), (0x700308, 0x700308)]⟩ s
      ((s.pute 0x7010 lane 0x0C (field p 1 1)).putLane lane
        { s.lane lane with markerNo := field p 8 4, markerAt := s.now }) :=
    .step (.step (.refl _ s) (State.pute_keeps1 ..)) (State.putLane_keeps ..)
  exact .ite (fun _ => h1) fun _ => h1.step (State.pute_keeps1 ..)

theorem markerTold_lane (p : Bytes) :
    (s.markerTold lane p).lane lane = { s.lane lane with markerNo := field p 8 4, markerAt := s.now } := by
  unfold State.markerTold
  split <;> exact lane_putLane_self ..

theorem markerTold_number (p : Bytes) : (s.markerTold lane p).ve 0x7010 lane 0x0C = field p 1 1 := by
  unfold State.markerTold
  dsimp only
  split
  · exact ve_pute_self ..
  · exact ((State.pute_keeps1 ..).ve_eq 0x7010 lane 0x0C).trans (ve_pute_self ..)

theorem markerTold_far (hl : 128 ≤ lane) (p : Bytes) :
    (s.markerTold lane p).ve 0x7003 (portOfLane lane) 0x08 = field p 4 2 := by
  rw [State.markerTold, if_neg (Nat.not_lt.2 hl), ve_pute_self]

/-- A good marker on a lane that is up. -/
theorem doMarker_up {b : Bytes} (hok : blockOk b = true) (hp : field (blockPayload b) 0 1 = 0x5A)
    (h2 : s.laneState lane = 2) : s.doMarker lane b = s.markerTold lane (blockPayload b) := by
  have hs : s.laneServes lane = true := by simp [State.laneServes, h2]
  simp [State.doMarker, State.markerTold, h2, hok, hp, hs]

/-- A good marker in stage 4. -/
theorem doMarker_stage4 {b : Bytes} (hok : blockOk b = true) (hp : field (blockPayload b) 0 1 = 0x5A)
    (h1 : s.laneState lane = 1) (h4 : s.ve 0x7010 lane 0x03 = 4) :
    s.doMarker lane b = (s.markerTold lane (blockPayload b)).markerLock lane := by
  simp [State.doMarker, State.markerTold, h1, hok, hp, h4]

theorem marker_up {t : Nat} {b : Bytes} (hl : lane < 192) (hok : blockOk b = true)
    (hp : field (blockPayload b) 0 1 = 0x5A) (h2 : s.laneState lane = 2) :
    ∃ s', runs (.marker t lane b) s s' ∧ s'.ve 0x7010 lane 0x0C = field (blockPayload b) 1 1 ∧
      s'.laneState lane = 2 ∧ (s'.lane lane).markerNo = field (blockPayload b) 8 4 ∧
      (128 ≤ lane → s'.ve 0x7003 (portOfLane lane) 0x08 = field (blockPayload b) 4 2) := by
  have h2' : ((s.enter t).heard lane b).laneState lane = 2 := h2
  refine ⟨_, runs_lane hl rfl, ?_⟩
  rw [doMarker_up hok hp h2']
  exact ⟨markerTold_number _, ((markerTold_keeps _).ve_eq 0x7010 lane 0x01).trans h2',
    congrArg LaneRec.markerNo (markerTold_lane _), fun h => markerTold_far h _⟩

theorem marker_stage4 {t : Nat} {b : Bytes} (hl : lane < 128) (hok : blockOk b = true)
    (hp : field (blockPayload b) 0 1 = 0x5A) (h1 : s.laneState lane = 1) (h4 : s.ve 0x7010 lane 0x03 = 4)
    (hw : (s.lane lane).waking = false) :
    ∃ s', runs (.marker t lane b) s s' ∧
      s'.ve 0x7010 lane 0x03 = (if (s.lane lane).sinceMarker = some 63 then 7 else 4) ∧
      ((s.lane lane).sinceMarker ≠ some 63 → (s'.lane lane).sinceMarker = some 0) := by
  have h1' : ((s.enter t).heard lane b).laneState lane = 1 := h1
  have h4' : ((s.enter t).heard lane b).ve 0x7010 lane 0x03 = 4 := h4
  set x := ((s.enter t).heard lane b).markerTold lane (blockPayload b)
  have hx : x.lane lane = _ := (markerTold_lane _)
  rw [heard_lane_self] at hx
  have hsince : (x.lane lane).sinceMarker = (s.lane lane).sinceMarker := (congrArg LaneRec.sinceMarker hx :)
  have hwake : (x.lane lane).waking = false := (congrArg LaneRec.waking hx :).trans hw
  have hstage : x.ve 0x7010 lane 0x03 = 4 := ((markerTold_keeps _).ve_eq 0x7010 lane 0x03).trans h4'
  refine ⟨_, runs_lane (by omega) rfl, ?_⟩
  rw [doMarker_stage4 hok hp h1' h4', State.markerLock]
  by_cases h63 : (s.lane lane).sinceMarker = some 63
  · rw [if_neg (not_not.2 (hsince.trans h63)), if_neg (Bool.eq_false_iff.1 hwake), if_pos h63, if_pos hl]
    exact ⟨reachStage_shows .., fun h => absurd h63 h⟩
  · rw [if_pos (hsince ▸ h63), if_neg h63]
    exact ⟨hstage, fun _ => congrArg LaneRec.sinceMarker (lane_putLane_self ..)⟩

/-- A marker that arrives inverted: the lane is inverted, and stage 3 is repeated. -/
theorem marker_inverts {t : Nat} {b : Bytes} (hl : lane < 192) (h1 : s.laneState lane = 1)
    (h4 : s.ve 0x7010 lane 0x03 = 4) (hp : field (blockPayload b) 0 1 = 0xA5) :
    ∃ s', runs (.marker t lane b) s s' ∧ s'.ve 0x7010 lane 0x03 = 3 ∧
      (s'.ve 0x7010 lane 0x06).testBit 0 = !(s.ve 0x7010 lane 0x06).testBit 0 := by
  have h1' : ((s.enter t).heard lane b).laneState lane = 1 := h1
  have h4' : ((s.enter t).heard lane b).ve 0x7010 lane 0x03 = 4 := h4
  refine ⟨_, runs_lane hl rfl, ?_⟩
  rw [State.doMarker, if_neg (by simp [h4']), if_pos ⟨h1', h4', hp⟩]
  refine ⟨reachStage_shows .., ?_⟩
  rw [(State.reachStage_keeps ..).ve_eq 0x7010 lane 0x06, ve_pute_self, testBit_setBit, if_pos rfl]
  rfl

/-! ### Fillers (R244) -/

/-- The elastic buffer deletes above a fill of 3 blocks and inserts below 1. -/
theorem filler_fills {t fill : Nat} {b : Bytes} (hl : lane < 192) (hok : blockOk b = true) :
    ∃ s', runs (.filler t lane b fill) s s' ∧
      (s'.group lane).elastic = (if 3 < fill then fill - 1 else if fill < 1 then fill + 1 else fill) ∧
      (fill < 1 ∨ 3 < fill → counted s s' 0x7002 0 0x0A) := by
  set x := (s.enter t).heard lane b
  have hput : ∀ g : Group, Keeps ⟨[.lanes], []⟩ (s.enter t) (x.putGroup lane g) := fun g =>
    .step (State.heard_keeps ..) (State.putGroup_keeps ..)
  have hcount : ∀ g : Group, (((x.putGroup lane g).inc 0x7002 0x0A).group lane).elastic = g.elastic ∧
      counted s ((x.putGroup lane g).inc 0x7002 0x0A) 0x7002 0 0x0A := fun g =>
    ⟨(congrArg Group.elastic (((State.inc_keeps1 ..).group_eq lane).trans (group_putGroup_self ..)) :),
      (counted_between (o := 0x7002) (e := 0) (m := 0x0A) (hput g) (.refl ⟨[], []⟩ _) :)⟩
  refine ⟨_, runs_lane hl rfl, ?_⟩
  rw [State.doFiller, if_neg (by simp [hok])]
  split
  next => exact ⟨(hcount _).1, fun _ => (hcount _).2⟩
  next hhigh =>
    split
    next => exact ⟨(hcount _).1, fun _ => (hcount _).2⟩
    next hlow => exact ⟨congrArg Group.elastic (group_putGroup_self ..), fun h => absurd h (by omega)⟩

end

end Sys2Proof.Machine
end

section
set_option Elab.async false
namespace Sys2Proof.Machine

/-! ### Training blocks (R253, R254) -/

section
variable {s : State} {lane : Nat}

theorem doTraining_direct {b : Bytes} (h1 : s.laneState lane = 1)
    (hs : s.ve 0x7010 lane 0x03 = 2 ∨ s.ve 0x7010 lane 0x03 = 3) (hi : (s.lane lane).inverse = false)
    (hb : (blockPayload b).take 48 = trainingPattern) :
    s.doTraining lane b =
      if (s.lane lane).syncs + 1 < 16 then
        s.putLane lane { s.lane lane with syncs := (s.lane lane).syncs + 1, inverse := false }
      else
        (s.putLane lane { s.lane lane with syncs := 0, inverse := false, sinceMarker := none }).reachStage lane 4 := by
  have hne : (trainingPattern == trainingInverse) = false := by decide
  unfold State.doTraining
  simp only [h1, ne_eq, not_true_eq_false, if_false, if_pos hs, hb, hne, Bool.false_and, true_or, if_true, hi,
    Bool.false_eq_true]

theorem training_counts {t : Nat} {b : Bytes} (hl : lane < 192) (h1 : s.laneState lane = 1)
    (hs : s.ve 0x7010 lane 0x03 = 2 ∨ s.ve 0x7010 lane 0x03 = 3) (hi : (s.lane lane).inverse = false)
    (hb : (blockPayload b).take 48 = trainingPattern) :
    ∃ s', runs (.training t lane b) s s' ∧
      s'.ve 0x7010 lane 0x03 = (if 15 ≤ (s.lane lane).syncs then 4 else s.ve 0x7010 lane 0x03) ∧
      ((s.lane lane).syncs < 15 → (s'.lane lane).syncs = (s.lane lane).syncs + 1) := by
  set x := (s.enter t).heard lane b
  have hlane := heard_lane_self (s := s.enter t) (lane := lane) b
  have hsyncs : (x.lane lane).syncs = (s.lane lane).syncs := (congrArg LaneRec.syncs hlane :)
  have hact := doTraining_direct (s := x) h1 hs ((congrArg LaneRec.inverse hlane :).trans hi) hb
  refine ⟨_, runs_lane hl rfl, ?_⟩
  rw [hact, hsyncs]
  by_cases h15 : 15 ≤ (s.lane lane).syncs
  · rw [if_neg (by omega), if_pos h15]
    exact ⟨reachStage_shows .., fun h => absurd h (by omega)⟩
  · rw [if_pos (by omega), if_neg h15]
    exact ⟨rfl, fun _ => congrArg LaneRec.syncs (lane_putLane_self ..)⟩

/-- The sixteenth inverted pattern in a row inverts the lane: stage 3. -/
theorem training_inverts {t : Nat} {b : Bytes} (hl : lane < 192) (h1 : s.laneState lane = 1)
    (hs : s.ve 0x7010 lane 0x03 = 2) (hi : (s.lane lane).inverse = true) (h15 : (s.lane lane).syncs = 15)
    (h6 : (s.ve 0x7010 lane 0x06).testBit 0 = false) (hb : (blockPayload b).take 48 = trainingInverse) :
    ∃ s', runs (.training t lane b) s s' ∧ s'.ve 0x7010 lane 0x03 = 3 ∧
      (s'.ve 0x7010 lane 0x06).testBit 0 = true := by
  set x := (s.enter t).heard lane b
  have hlane := heard_lane_self (s := s.enter t) (lane := lane) b
  have hsyncs : (x.lane lane).syncs = 15 := (congrArg LaneRec.syncs hlane :).trans h15
  have hinv : (x.lane lane).inverse = true := (congrArg LaneRec.inverse hlane :).trans hi
  have hact : x.doTraining lane b = ((x.putLane lane
      { x.lane lane with syncs := 0, inverse := false, sinceMarker := none }).pute 0x7010 lane 0x06
        (setBit (x.ve 0x7010 lane 0x06) 0 true)).reachStage lane 3 := by
    have h1' : x.laneState lane = 1 := h1
    have hs' : x.ve 0x7010 lane 0x03 = 2 := hs
    have h6' : (x.ve 0x7010 lane 0x06).testBit 0 = false := h6
    unfold State.doTraining
    simp [h1', hs', h6', hb, hsyncs, hinv]
  refine ⟨_, runs_lane hl rfl, ?_⟩
  rw [hact]
  refine ⟨reachStage_shows .., ?_⟩
  rw [(State.reachStage_keeps ..).ve_eq 0x7010 lane 0x06, ve_pute_self, testBit_setBit, if_pos rfl]

/-! ### Sleep (R262) -/

theorem sleep_sleeps {t : Nat} {b : Bytes} (hl : lane < 192) (hok : blockOk b = true)
    (hs : s.laneServes lane = true) :
    ∃ s', runs (.sleep t lane b) s s' ∧ s'.laneState lane = 4 ∧ (s'.lane lane).rxAsleep = true := by
  set x := (s.enter t).heard lane b
  set y := x.putLane lane { x.lane lane with rxAsleep := true }
  have hasleep : (y.lane lane).rxAsleep = true := congrArg LaneRec.rxAsleep (lane_putLane_self ..)
  have hs' : x.laneServes lane = true := hs
  have hs'' : y.laneServes lane = true := hs
  refine ⟨_, runs_lane hl rfl, ?_⟩
  rw [State.doSleep, if_neg (by simp [hok]), if_pos hs', State.showSleep, if_pos hs'', hasleep, Bool.or_true,
    if_pos rfl]
  exact ⟨ve_pute_self .., hasleep⟩

end

/-! ### Lane maps (R245, R258) -/

theorem field_byte_lt (bs : Bytes) (o : Nat) : field bs o 1 < 256 := by
  unfold field slice
  cases bs.drop o with
  | nil => decide
  | cons b l => simpa [beNat] using b.isLt

/-- The lanes that a BITS8 names add up to it. -/
theorem sum_bitLanes (p : Nat) {w : Nat} (hw : w < 256) :
    (bitLanes p w).foldl (fun a l => a + 2 ^ ((l - 128) % 8)) 0 = w := by
  have hrank : ∀ k, (meshLane p + k - 128) % 8 = k % 8 := fun k => by
    unfold meshLane
    omega
  have hsum : ∀ w < 256,
      ((List.range 8).filter fun k => w.testBit (k % 8)).foldl (fun a k => a + 2 ^ (k % 8)) 0 = w := by
    decide +kernel
  unfold bitLanes portLanes
  rw [List.filter_map, List.foldl_map]
  simp only [hrank, Function.comp_def]
  exact hsum w hw

/-- The receive lanes of a lane's port are those that a BITS8 names, from the next row on; 7003[p].07 shows those
in service. -/
def State.rxMapped (s : State) (lane w : Nat) : State :=
  (s.putGroup lane { s.group lane with rxMap := w, rxSlot := 0 }).showRx (portOfLane lane)

section
variable {s : State} {lane p w : Nat}

theorem portCheck_of_enough (ht : s.ve 0x7003 p 0x03 ≤ (s.txLanes p).length)
    (hr : s.ve 0x7003 p 0x03 ≤ (s.rxLanes p).length) : s.portCheck p = s :=
  if_neg fun h => h.2.elim (Nat.not_lt.2 ht) (Nat.not_lt.2 hr)

theorem rxOrder_of_direct (h : s.reversed p = false) : s.rxOrder p = bitLanes p (s.group (meshLane p)).rxMap :=
  if_neg (Bool.eq_false_iff.1 h)

theorem receives_heard (b : Bytes) : (s.heard lane b).receives = s.receives := funext fun l => by
  refine congrArg (s.laneServes l || ·) ?_
  by_cases heq : l = lane
  · rw [heq, heard_lane_self]
  · exact congrArg LaneRec.waking (lane_putLane_ne s heq _)

theorem rxMapped_keeps : Keeps ⟨[.lanes], [(0x700307, 0x700307)]⟩ s (s.rxMapped lane w) :=
  .step (.step (.refl _ s) (State.putGroup_keeps ..)) (State.showRx_keeps ..)

theorem rxMapped_group : (s.rxMapped lane w).group lane = { s.group lane with rxMap := w, rxSlot := 0 } :=
  ((State.showRx_keeps ..).group_eq lane).trans (group_putGroup_self ..)

theorem receives_rxMapped : (s.rxMapped lane w).receives = s.receives := funext fun l => by
  have hlane : (s.rxMapped lane w).lane l = s.lane l := (State.showRx_keeps ..).lane_eq l
  rw [State.receives, State.receives, State.laneServes, State.laneServes, State.laneState, State.laneState,
    rxMapped_keeps.ve_eq 0x7010 l 0x01, hlane]

theorem rxOrder_putMap (hlow : 128 ≤ lane) (h : s.reversed (portOfLane lane) = false) :
    (s.putGroup lane { s.group lane with rxMap := w, rxSlot := 0 }).rxOrder (portOfLane lane) =
      bitLanes (portOfLane lane) w := by
  rw [rxOrder_of_direct (by exact h), group_meshLane _ hlow, group_putGroup_self]

theorem rxOrder_rxMapped (hlow : 128 ≤ lane) (h : s.reversed (portOfLane lane) = false) :
    (s.rxMapped lane w).rxOrder (portOfLane lane) = bitLanes (portOfLane lane) w := by
  have hrev : (s.rxMapped lane w).reversed (portOfLane lane) = false := by
    rw [← h, State.reversed, State.reversed]
    simp only [rxMapped_keeps.ve_eq 0x7010 _ 0x06]
  rw [rxOrder_of_direct hrev, group_meshLane _ hlow, rxMapped_group]

theorem rxMapped_shows (hlow : 128 ≤ lane) (h : s.reversed (portOfLane lane) = false) (hw : w < 256)
    (hall : (bitLanes (portOfLane lane) w).all s.receives = true) :
    (s.rxMapped lane w).ve 0x7003 (portOfLane lane) 0x07 = w := by
  have hlanes : (s.putGroup lane { s.group lane with rxMap := w, rxSlot := 0 }).rxLanes (portOfLane lane) =
      bitLanes (portOfLane lane) w := by
    rw [State.rxLanes, rxOrder_putMap hlow h]
    exact List.filter_eq_self.2 (List.all_eq_true.1 hall)
  rw [State.rxMapped, State.showRx, ve_pute_self, hlanes, sum_bitLanes _ hw]

theorem doLaneMap_direct {b : Bytes} (hlow : 128 ≤ lane) (hok : blockOk b = true)
    (h5 : s.ve 0x7003 (portOfLane lane) 0x05 = 2) (hrev : s.reversed (portOfLane lane) = false) :
    s.doLaneMap lane b = (s.rxMapped lane (field (blockPayload b) 0 1)).portCheck (portOfLane lane) := by
  simp [State.doLaneMap, State.rxMapped, hlow, hok, h5, hrev]

theorem laneMap_maps {t : Nat} {b : Bytes} (hlow : 128 ≤ lane) (hl : lane < 192) (hok : blockOk b = true)
    (h5 : s.ve 0x7003 (portOfLane lane) 0x05 = 2) (hrev : s.reversed (portOfLane lane) = false)
    (htx : s.ve 0x7003 (portOfLane lane) 0x03 ≤ (s.txLanes (portOfLane lane)).length)
    (hrx : s.ve 0x7003 (portOfLane lane) 0x03 ≤ ((bitLanes (portOfLane lane)
      (field (blockPayload b) 0 1)).filter s.receives).length) :
    ∃ s', runs (.laneMap t lane b) s s' ∧ s'.ve 0x7003 (portOfLane lane) 0x05 = 2 ∧
      (s'.group lane).rxSlot = 0 ∧
      s'.rxOrder (portOfLane lane) = bitLanes (portOfLane lane) (field (blockPayload b) 0 1) ∧
      ((bitLanes (portOfLane lane) (field (blockPayload b) 0 1)).all s.receives = true →
        s'.ve 0x7003 (portOfLane lane) 0x07 = field (blockPayload b) 0 1) := by
  set w := field (blockPayload b) 0 1
  set x := (s.enter t).heard lane b
  have h5' : x.ve 0x7003 (portOfLane lane) 0x05 = 2 := h5
  have hrev' : x.reversed (portOfLane lane) = false := hrev
  have hreceives : x.receives = s.receives := receives_heard (s := s.enter t) b
  have hcheck : (x.rxMapped lane w).portCheck (portOfLane lane) = x.rxMapped lane w := by
    refine portCheck_of_enough ?_ ?_
    · rw [State.txLanes, rxMapped_keeps.ve_eq 0x7003 _ 0x03, rxMapped_keeps.ve_eq 0x7003 _ 0x06]
      exact htx
    · rw [rxMapped_keeps.ve_eq 0x7003 _ 0x03, State.rxLanes, rxOrder_rxMapped hlow hrev', receives_rxMapped, hreceives]
      exact hrx
  refine ⟨_, runs_lane hl rfl, ?_⟩
  rw [doLaneMap_direct hlow hok h5' hrev', hcheck]
  exact ⟨(rxMapped_keeps.ve_eq 0x7003 _ 0x05).trans h5', congrArg Group.rxSlot rxMapped_group,
    rxOrder_rxMapped hlow hrev', fun hall => rxMapped_shows hlow hrev' (field_byte_lt ..) (hreceives ▸ hall)⟩

end

/-- Settles O46: an acknowledgement frees by `ackOn_frees`, sending leaves a group's replay by `still_resendHeld`, and
a block that a lane hears changes its own record alone. -/
theorem acknowledgementsAndLaneBlocks : Obligations.AcknowledgementsAndLaneBlocks :=
  ⟨fun _ _ _ _ _ h hok h5 he hq => acknowledge_mesh h hok h5 he hq,
    fun _ _ _ _ _ _ hl hs ha hok h5 hk hret he hq => acknowledge_panel hl hs ha hok h5 hk hret he hq,
    fun s _ lane _ _ hl hh hr => replayTimeout_resends s lane hl hh hr,
    fun _ _ _ _ hp h5 h9 hn h => ackSendTimer_acks hp h5 h9 hn h,
    fun _ _ _ _ hp h5 h9 hn h => ackSendTimer_naks hp h5 h9 hn h,
    fun _ _ _ _ hl hok hp h2 => marker_up hl hok hp h2,
    fun _ _ _ _ hl hok hp h1 h4 hw => marker_stage4 hl hok hp h1 h4 hw,
    fun _ _ _ _ hl h1 h4 hp => marker_inverts hl h1 h4 hp,
    fun _ _ _ _ _ hl hok => filler_fills hl hok,
    fun _ _ _ _ hl h1 hs hi hb => training_counts hl h1 hs hi hb,
    fun _ _ _ _ hl h1 hs hi h15 h6 hb => training_inverts hl h1 hs hi h15 h6 hb,
    fun _ _ _ _ hl hok hs => sleep_sleeps hl hok hs,
    fun _ _ _ _ hlow hl hok h5 hrev htx hrx => laneMap_maps hlow hl hok h5 hrev htx hrx⟩

end Sys2Proof.Machine
end

section
set_option Elab.async false
namespace Sys2Proof.Machine

/-! ### The memory part of the state -/

section
variable {F : Foot} {s u : State}

theorem Keeps.memory_eq (h : Keeps F s u) (hf : F.parts.contains .memory = false := by rfl) : u.memory = s.memory :=
  h.memory.resolve_left (Bool.eq_false_iff.1 hf)

end

/-! ### Bank copies (R268) -/

/-- The oldest copy under way ends. -/
theorem endBankCopy_mark {c : BankCopy} (l : List BankCopy) (h : c.ended = false) :
    State.endBankCopy.mark (c :: l) = { c with ended := true } :: l := by
  rw [State.endBankCopy.mark, h, if_neg Bool.false_ne_true]

/-- While frets run, an ended copy waits for the next fret boundary. -/
theorem endBankCopy_running {s : State} (h : s.seq.running = true) :
    s.endBankCopy.memory.copies = State.endBankCopy.mark s.memory.copies := by
  rw [State.endBankCopy, if_pos h, (State.showBanks_keeps _).memory_eq]

/-! ### Commits of the journal buffer (R273, R406) -/

section
variable {s : State} {l rest : List JEntry}

/-- The entries go into the active half. -/
theorem startCommit_active (hf : fitJournal 0 s.memory.journal = (l, rest)) (hl : l ≠ [])
    (hc : s.memory.committing = none) (hw : s.storeWaits = false)
    (hroom : s.memory.activeUsed + journalBlocks l ≤ 128) :
    s.startCommit = { s with memory := { s.memory with
      committing := some l, journal := rest, activeUsed := s.memory.activeUsed + journalBlocks l,
      commitWaits := false } } := by
  simp [State.startCommit, hf, hl, hc, hw, hroom]

/-- The active half cannot take the entries, and the other half is empty. -/
theorem startCommit_otherHalf (hf : fitJournal 0 s.memory.journal = (l, rest)) (hl : l ≠ [])
    (hc : s.memory.committing = none) (hw : s.storeWaits = false)
    (hfull : 128 < s.memory.activeUsed + journalBlocks l) (he : s.memory.emptying = false) :
    s.startCommit = { s with memory := { s.memory with
      committing := some l, journal := rest, activeUsed := journalBlocks l,
      activeHalf := 1 - s.memory.activeHalf, emptying := true, commitWaits := false } } := by
  simp [State.startCommit, hf, hl, hc, hw, he, Nat.not_le.2 hfull]

/-- Neither half can take the entries. -/
theorem startCommit_waits (hf : fitJournal 0 s.memory.journal = (l, rest)) (hl : l ≠ [])
    (hfull : 128 < s.memory.activeUsed + journalBlocks l) (he : s.memory.emptying = true) :
    s.startCommit = { s with memory := { s.memory with commitWaits := true } } := by
  simp [State.startCommit, hf, hl, he, Nat.not_le.2 hfull]

end

/-! ### Blocks of the retained store that are written (R276) -/

/-- A block that is written changes the write counts alone. -/
theorem wearBlock_memory (s : State) (k : Nat) :
    ∃ w, (s.wearBlock k).memory = { s.memory with wear := w } := by
  unfold State.wearBlock
  dsimp only
  split <;> exact ⟨_, rfl⟩

theorem foldl_wearBlock_memory {α : Type} (f : α → Nat) (l : List α) (s : State) :
    ∃ w, (l.foldl (fun (st : State) i => st.wearBlock (f i)) s).memory = { s.memory with wear := w } := by
  induction l generalizing s with
  | nil => exact ⟨s.memory.wear, rfl⟩
  | cons i l ih =>
    obtain ⟨w, hw⟩ := wearBlock_memory s (f i)
    obtain ⟨w', hw'⟩ := ih (s.wearBlock (f i))
    exact ⟨w', hw'.trans (by rw [hw])⟩

theorem wearBlock_commitWaits (s : State) (k : Nat) : (s.wearBlock k).memory.commitWaits = s.memory.commitWaits := by
  obtain ⟨w, hw⟩ := wearBlock_memory s k
  rw [hw]

/-! ### Commits that have been written (R272, R273) -/

theorem halfEntries_putHalfEntries_self (s : State) (h : Nat) (l : List JEntry) :
    (s.putHalfEntries h l).halfEntries h = l := by
  unfold State.putHalfEntries State.halfEntries
  split <;> rfl

/-- Besides the halves, nothing of the memory changes. -/
theorem putHalfEntries_memory (s : State) (h : Nat) (l : List JEntry) :
    ∃ a b, (s.putHalfEntries h l).memory = { s.memory with half0 := a, half1 := b } := by
  unfold State.putHalfEntries
  split
  · exact ⟨l, s.memory.half1, rfl⟩
  · exact ⟨s.memory.half0, l, rfl⟩

section
variable {s : State} {l : List JEntry}

/-- A commit that has been written, before it is counted. -/
def State.commitWritten (s : State) (l : List JEntry) : State :=
  let h := s.memory.activeHalf
  let x := (List.range (journalBlocks l)).foldl (fun (st : State) i =>
    st.wearBlock (journalKey h (s.memory.activeUsed - journalBlocks l + i)))
    (s.putHalfEntries h (s.halfEntries h ++ l))
  { x with memory := { x.memory with committing := none } }

theorem committed_eq (s : State) (l : List JEntry) : s.committed l = (s.commitWritten l).inc 0x9000 0x07 := rfl

theorem commitWritten_keeps (s : State) (l : List JEntry) :
    Keeps ⟨[.memory], [(0x900005, 0x900005)]⟩ s (s.commitWritten l) := by
  have hput := State.putHalfEntries_keeps s s.memory.activeHalf (s.halfEntries s.memory.activeHalf ++ l)
  exact Keeps.upd (.foldl (hput.mono (by decide +kernel)) fun _ _ => State.wearBlock_keeps ..) (hme := .inl rfl)

theorem committed_counted (s : State) (l : List JEntry) : counted s (s.committed l) 0x9000 0 0x07 :=
  counted_between (o := 0x9000) (e := 0) (m := 0x07) (commitWritten_keeps s l) (.refl ⟨[], []⟩ _)

/-- The entries of a commit stand in the active half, and its blocks have been written. -/
theorem committed_memory (s : State) (l : List JEntry) : ∃ w, (s.committed l).memory =
    { (s.putHalfEntries s.memory.activeHalf (s.halfEntries s.memory.activeHalf ++ l)).memory with
      committing := none, wear := w } := by
  obtain ⟨w, hw⟩ := foldl_wearBlock_memory
    (fun i => journalKey s.memory.activeHalf (s.memory.activeUsed - journalBlocks l + i)) (List.range (journalBlocks l))
    (s.putHalfEntries s.memory.activeHalf (s.halfEntries s.memory.activeHalf ++ l))
  refine ⟨w, ?_⟩
  rw [committed_eq, (State.inc_keeps1 ..).memory_eq, State.commitWritten, hw]

theorem committed_halfEntries (s : State) (l : List JEntry) :
    (s.committed l).halfEntries s.memory.activeHalf = s.halfEntries s.memory.activeHalf ++ l := by
  obtain ⟨w, hw⟩ := committed_memory s l
  rw [State.halfEntries, hw]
  exact halfEntries_putHalfEntries_self ..

/-- A commit in progress that nothing holds up is written, and no other one follows. -/
theorem commitDone_writes (hc : s.memory.committing = some l) (hn : s.memory.commitWaits = false)
    (hw : s.storeWaits = false) (hj : journalBytes s.memory.journal < 16384) :
    s.commitDone = s.committed l := by
  obtain ⟨w, hm⟩ := committed_memory s l
  obtain ⟨a, b, hp⟩ := putHalfEntries_memory s s.memory.activeHalf (s.halfEntries s.memory.activeHalf ++ l)
  have hwaits : (s.committed l).memory.commitWaits = false := by rw [hm, hp]; exact hn
  have hbytes : (s.committed l).memory.journal = s.memory.journal := by rw [hm, hp]
  simp [State.commitDone, hc, hw, hwaits, hbytes, Nat.not_le.2 hj]

end

/-! ### The half that has been emptied (R272, R273) -/

theorem writeRecord_commitWaits (s : State) (key : Nat) :
    (s.writeRecord key).memory.commitWaits = s.memory.commitWaits :=
  (foldl_unchanged (π := fun x => x.memory.commitWaits) (fun _ _ => wearBlock_commitWaits ..) _ _).trans rfl

/-- Where no commit waits, none follows once the half is empty. -/
theorem halfEmptied_empties {s : State} (he : s.memory.emptying = true) (hn : s.memory.commitWaits = false)
    (hw : s.storeWaits = false) :
    s.halfEmptied.memory.emptying = false ∧ s.halfEmptied.halfEntries (1 - s.memory.activeHalf) = [] := by
  set h := 1 - s.memory.activeHalf
  set l := s.halfEntries h
  set s1 := (touchedRecords l).foldl State.writeRecord (l.foldl State.applyEntry
    ((touchedRecords l).foldl State.ageRecord s))
  have h1 : s1.memory.commitWaits = false :=
    calc s1.memory.commitWaits
      _ = (l.foldl State.applyEntry ((touchedRecords l).foldl State.ageRecord s)).memory.commitWaits :=
        foldl_unchanged (π := fun x => x.memory.commitWaits) writeRecord_commitWaits _ _
      _ = ((touchedRecords l).foldl State.ageRecord s).memory.commitWaits :=
        foldl_unchanged (π := fun x => x.memory.commitWaits) (f := State.applyEntry) (fun _ _ => rfl) _ _
      _ = s.memory.commitWaits :=
        foldl_unchanged (π := fun x => x.memory.commitWaits) (f := State.ageRecord) (fun _ _ => rfl) _ _
      _ = false := hn
  have h2 : (s1.putHalfEntries h []).memory.commitWaits = false := by
    obtain ⟨a, b, hp⟩ := putHalfEntries_memory s1 h []
    rw [hp]
    exact h1
  have hs : s.halfEmptied = { s1.putHalfEntries h [] with
      memory := { (s1.putHalfEntries h []).memory with emptying := false } } := by
    rw [State.halfEmptied, if_pos ⟨he, by rw [hw]; rfl⟩]
    exact if_neg (Bool.eq_false_iff.1 h2)
  rw [hs]
  exact ⟨rfl, halfEntries_putHalfEntries_self s1 h []⟩

/-- Settles O48: a commit by where its entries go (`startCommit_active`, `startCommit_otherHalf`,
`startCommit_waits`), and a written commit or an emptied half by what its memory then holds. -/
theorem retainedStore : Obligations.RetainedStore := by
  refine ⟨fun s t c l hr hc he => ⟨_, rfl, ?_⟩, fun s t l rest hf hl hc hw hroom => ⟨_, rfl, ?_⟩,
    fun s t l rest hf hl hc hw hfull he => ⟨_, rfl, ?_⟩, fun s t l rest hf hl hc hfull he => ⟨_, rfl, ?_⟩,
    fun s t l hc hn hw hj => ⟨_, rfl, ?_⟩, fun s t he hn hw => ⟨_, rfl, ?_⟩⟩
  · rw [endBankCopy_running (s := s.enter t) hr, State.enter_memory, hc, endBankCopy_mark l he]
  · rw [startCommit_active (s := s.enter t) hf hl hc hw hroom]
    exact ⟨rfl, rfl, rfl, rfl⟩
  · rw [startCommit_otherHalf (s := s.enter t) hf hl hc hw hfull he]
    exact ⟨rfl, rfl, rfl, rfl, rfl⟩
  · rw [startCommit_waits (s := s.enter t) hf hl hfull he]
    exact ⟨rfl, hc, rfl⟩
  · rw [commitDone_writes (s := s.enter t) hc hn hw hj]
    obtain ⟨w, hm⟩ := committed_memory (s.enter t) l
    exact ⟨by rw [hm], committed_counted (s.enter t) l, committed_halfEntries (s.enter t) l⟩
  · exact halfEmptied_empties (s := s.enter t) he hn hw

end Sys2Proof.Machine
end

section
set_option Elab.async false
namespace Sys2Proof.Machine

/-! ### Commands that name a channel -/

theorem runs_chan {i : Instr} {s u : State} {c : Nat} (hc : c < 4) (he : exec i s = guarded (chanOk c) u) :
    runs i s u :=
  he.trans (guarded_next.2 ⟨decide_eq_true hc, rfl⟩)

/-! ### The channels' records and states (R289 to R292) -/

section
variable {F : Foot} {s u : State} {c : Nat}

@[simp] theorem chan_putChan_self (s : State) (c : Nat) (r : ChanRec) : (s.putChan c r).chan c = r :=
  tget_tput_self ..

theorem chan_putChan_ne {d : Nat} (h : d ≠ c) (s : State) (r : ChanRec) : (s.putChan c r).chan d = s.chan d :=
  tget_tput_ne _ h ..

theorem Keeps.chan_eq (h : Keeps F s u) (c : Nat) (hf : F.parts.contains .memory = false := by rfl) :
    u.chan c = s.chan c :=
  congrArg (fun x : Memory => tget ChanRec.reset c x.chans) (h.memory_eq hf)

theorem Keeps.chanState_eq (h : Keeps F s u) (c : Nat)
    (hk : F.free (mkey 0x7820 0 0x01) = true := by decide +kernel) : u.chanState c = s.chanState c :=
  h.ve_eq 0x7820 c 0x01 hk

@[simp] theorem chanState_putChanState (s : State) (c st : Nat) : (s.putChanState c st).chanState c = st :=
  ((State.putBit_keeps1 ..).chanState_eq c).trans (ve_pute_self ..)

theorem Keeps.chanSize_eq (h : Keeps F s u) (hsize : F.free (mkey 0x7800 0 0x0B) = true := by decide +kernel)
    (hrank : F.free (mkey 0x7800 0 0x0C) = true := by decide +kernel) : u.chanSize = s.chanSize := by
  rw [State.chanSize, State.chanSize, State.rankSize, State.rankSize, h.v_eq 0x7800 0x0B hsize,
    h.v_eq 0x7800 0x0C hrank]

end

/-! ### What scheduling leaves of a channel (R283, R284) -/

/-- Outputs are only added, and every channel keeps its training results or goes on without any. -/
def Scheduled (s u : State) : Prop := OutGrows s u ∧ ∀ d, (u.chan d).trained = (s.chan d).trained

namespace Scheduled

variable {F : Foot} {s u w : State}

theorem refl (s : State) : Scheduled s s := ⟨.refl s, fun _ => rfl⟩

theorem trans (h : Scheduled s u) (g : Scheduled u w) : Scheduled s w :=
  ⟨h.1.trans g.1, fun d => (g.2 d).trans (h.2 d)⟩

/-- One more step that leaves the memories and the outputs as they were. -/
theorem step (h : Scheduled s u) (g : Keeps F u w) (ho : F.parts.contains .out = false := by rfl)
    (hm : F.parts.contains .memory = false := by rfl) : Scheduled s w :=
  h.trans ⟨.ofKeeps g ho, fun d => congrArg ChanRec.trained (g.chan_eq d hm)⟩

theorem ite {p : Prop} [Decidable p] {a b : State} (ha : Scheduled s a) (hb : Scheduled s b) :
    Scheduled s (if p then a else b) := by
  split
  · exact ha
  · exact hb

theorem emits (h : Scheduled s u) (os : List Output) : Scheduled s (u.emits os) :=
  h.trans ⟨List.prefix_append .., fun _ => rfl⟩

theorem emit (h : Scheduled s u) (o : Output) : Scheduled s (u.emit o) := h.emits [o]

theorem putChan (h : Scheduled s u) {c : Nat} {r : ChanRec} (hr : r.trained = (u.chan c).trained) :
    Scheduled s (u.putChan c r) := by
  refine h.trans ⟨.ofKeeps (State.putChan_keeps ..), fun d => ?_⟩
  obtain rfl | hd := eq_or_ne d c
  · rw [chan_putChan_self, hr]
  · rw [chan_putChan_ne hd]

end Scheduled

section
variable (s : State)

theorem scheduled_enterRefresh (c : Nat) : Scheduled s (s.enterRefresh c) := by
  unfold State.enterRefresh
  refine .ite (.refl s) (.ite ?_ (.emit ?_ _))
  · exact (Scheduled.refl s).putChan rfl
  · exact (Scheduled.refl s).putChan rfl

theorem scheduled_countActs (c bank n : Nat) : Scheduled s (s.countActs c bank n) := by
  unfold State.countActs
  refine .ite (.ite (.step (.emit ?_ _) (State.inc_keeps1 ..)) ?_) (.refl s)
  · exact (Scheduled.refl s).putChan rfl
  · exact (Scheduled.refl s).putChan rfl

theorem scheduled_activate (c bank row : Nat) : Scheduled s (s.activate c bank row) := by
  unfold State.activate
  split
  next f s0 hdraw =>
  have h0 : Scheduled s s0 := by
    obtain rfl : (s.draw (2 ^ 32)).2 = s0 := congrArg Prod.snd hdraw
    exact (Scheduled.refl s).step (State.draw_keeps ..)
  refine .ite (.trans (.step (.emits ?_ _) (State.add_keeps1 ..)) (scheduled_countActs ..)) ?_
  all_goals
    refine .trans ?_ (scheduled_countActs ..)
    exact h0.putChan rfl

theorem scheduled_sendRequest (r : DramReq) : Scheduled s (s.sendRequest r) :=
  Scheduled.emits (.ite (.refl s) (scheduled_activate ..)) _

theorem scheduled_issue (r : DramReq) : Scheduled s (s.issue r) := by
  have h : Scheduled s { s.sendRequest r with memory := { (s.sendRequest r).memory with
      requests := (s.sendRequest r).memory.requests.map fun (q : DramReq) =>
        if q.id = r.id then { q with issued := some (s.sendRequest r).now } else q } } :=
    scheduled_sendRequest s r
  exact .ite (h.step (State.judgeLatency_keeps ..)) h

theorem scheduled_issueFrom (c fuel : Nat) : Scheduled s (State.issueFrom c fuel s) := by
  induction fuel generalizing s with
  | zero => exact .refl s
  | succ fuel ih =>
    unfold State.issueFrom
    split
    · exact .refl s
    · exact (scheduled_issue ..).trans (ih _)

theorem scheduled_chanGoesOn (c : Nat) : Scheduled s (s.chanGoesOn c) :=
  .ite (.ite (.refl s) (scheduled_enterRefresh ..)) (.ite (scheduled_issueFrom ..) (.refl s))

end

/-! ### A channel without waiting requests -/

section
variable {s : State} {c : Nat}

theorem firstRequest_eq_none (h : (s.memory.requests.all fun q => q.channel != c || q.issued.isSome) = true) :
    s.firstRequest c = none := by
  have hnone : s.memory.requests.filter (s.issuable c) = [] := by
    refine List.filter_eq_nil_iff.2 fun q hq hi => ?_
    have hq' := List.all_eq_true.1 h q hq
    simp only [State.issuable, Bool.and_eq_true, beq_iff_eq, Option.isNone_iff_eq_none] at hi
    obtain ⟨⟨⟨⟨hch, hiss⟩, -⟩, -⟩, -⟩ := hi
    simp [hch, hiss] at hq'
  rw [State.firstRequest, hnone, List.foldl_nil]

theorem issueFrom_of_none (h : s.firstRequest c = none) (fuel : Nat) : State.issueFrom c fuel s = s := by
  cases fuel with
  | zero => rfl
  | succ fuel => rw [State.issueFrom, h]

theorem chanGoesOn_of_allIssued (hd : (s.chan c).drains = false)
    (h : (s.memory.requests.all fun q => q.channel != c || q.issued.isSome) = true) : s.chanGoesOn c = s := by
  rw [State.chanGoesOn, if_neg (Bool.eq_false_iff.1 hd), issueFrom_of_none (firstRequest_eq_none h), ite_self]

theorem drains_of_chanActive (h : s.chanActive c = true) : (s.chan c).drains = false := by
  rw [State.chanActive, Bool.and_eq_true] at h
  exact Bool.not_eq_eq_eq_not.1 h.2

end

/-! ### Refresh and calibration (R278, R286) -/

/-- A channel whose rows are closed and whose activates are lowered by a refresh. -/
def ChanRec.refreshed (x : ChanRec) : ChanRec :=
  { x with openRows := [], acts := x.acts.map fun (e : Nat × Nat) => (e.1, e.2 - x.rfmInitial) }

section
variable {s : State} {c : Nat}

theorem doRefresh_active (h : s.chanActive c = true) :
    s.doRefresh c = ((s.putChan c (s.chan c).refreshed).emit (.ddr c 1 0)).chanGoesOn c :=
  if_pos h

/-- The refresh command comes first. -/
theorem doRefresh_head (h : s.chanActive c = true) (ho : s.out = []) :
    (s.doRefresh c).out.head? = some (.ddr c 1 0) := by
  obtain ⟨more, hmore⟩ := (scheduled_chanGoesOn ((s.putChan c (s.chan c).refreshed).emit (.ddr c 1 0)) c).1
  rw [doRefresh_active h, ← hmore]
  change (s.out ++ [_] ++ more).head? = _
  rw [ho]
  rfl

/-- Where no request waits, nothing follows the refresh. -/
theorem doRefresh_idle (h : s.chanActive c = true)
    (hi : (s.memory.requests.all fun q => q.channel != c || q.issued.isSome) = true) :
    s.doRefresh c = (s.putChan c (s.chan c).refreshed).emit (.ddr c 1 0) := by
  rw [doRefresh_active h]
  refine chanGoesOn_of_allIssued ?_ hi
  exact (congrArg ChanRec.drains (chan_putChan_self s c _)).trans (drains_of_chanActive h)

end

theorem refreshTimer_refreshes (s : State) (t : Nat) {c : Nat} (hc : c < 4) (h : s.chanActive c = true) :
    ∃ s', runs (.ddrRefreshTimer t c) s s' ∧ s'.out.head? = some (.ddr c 1 0) ∧
      ((s.memory.requests.all fun q => q.channel != c || q.issued.isSome) = true →
        s'.out = [.ddr c 1 0] ∧ (s'.chan c).openRows = [] ∧ s'.dict = s.dict) := by
  refine ⟨_, runs_chan hc rfl, doRefresh_head (s := s.enter t) h rfl, fun hi => ?_⟩
  rw [doRefresh_idle (s := s.enter t) h hi]
  exact ⟨rfl, congrArg ChanRec.openRows (chan_putChan_self (s.enter t) c _), rfl⟩

theorem oscTimer_tracks (s : State) (t : Nat) {c : Nat} (count : Nat) (hc : c < 4) (h : s.chanActive c = true) :
    ∃ s', runs (.dqsOscTimer t c count) s s' ∧ s'.out = [.ddr c 6 0] ∧ (s'.chan c).oscillator = count ∧
      (s'.chan c).drift = (count : Int) - (s.chan c).oscBase.getD count ∧ s'.dict = s.dict := by
  have hrec := chan_putChan_self (s.enter t) c { s.chan c with
    oscillator := count, oscBase := some ((s.chan c).oscBase.getD count),
    drift := (count : Int) - (s.chan c).oscBase.getD count }
  refine ⟨_, runs_chan hc rfl, ?_⟩
  rw [if_pos (show (s.enter t).chanActive c = true from h)]
  exact ⟨rfl, congrArg ChanRec.oscillator hrec, congrArg ChanRec.drift hrec, rfl⟩

theorem zqCalTimer_calibrates (s : State) (t : Nat) {c : Nat} (hc : c < 4) (h : s.chanActive c = true) :
    ∃ s', runs (.zqCalTimer t c) s s' ∧ s'.out = [.ddr c 5 0] ∧ s'.memory = s.memory ∧ s'.dict = s.dict := by
  refine ⟨_, runs_chan hc rfl, ?_⟩
  rw [if_pos (show (s.enter t).chanActive c = true from h)]
  exact ⟨rfl, rfl, rfl⟩

end Sys2Proof.Machine
end

section
set_option Elab.async false
namespace Sys2Proof.Machine

/-! ### What a training leaves (R278, R279) -/

theorem leaveRefresh_memory (s : State) (c : Nat) :
    ∃ l, (s.leaveRefresh c).memory = { s.memory with chans := l } := by
  unfold State.leaveRefresh
  dsimp only
  split <;> exact ⟨_, rfl⟩

/-- The channel is trained, and no other part of the memory changes. -/
theorem trainedChan_memory (s : State) (c : Nat) (x : DdrTraining) :
    ∃ l, (s.trainedChan c x).memory = { s.memory with chans := l } ∧ (tget ChanRec.reset c l).trained = true := by
  obtain ⟨l, hl⟩ := leaveRefresh_memory s c
  refine ⟨(s.trainedChan c x).memory.chans, ?_, ?_⟩
  · exact congrArg (fun m : Memory => { m with chans := (s.trainedChan c x).memory.chans }) hl
  · exact congrArg ChanRec.trained (tget_tput_self ..)

theorem trainedChan_size (s : State) (c : Nat) (x : DdrTraining) :
    (s.trainedChan c x).ve 0x7820 c 0x03 = s.chanSize := by
  unfold State.trainedChan
  extract_lets r s1
  have h1 : s1.chanSize = s.chanSize := ((State.leaveRefresh_keeps s c).step (State.putChan_keeps ..)).chanSize_eq
  rw [(State.pute_keeps1 ..).ve_eq 0x7820 c 0x03, (State.pute_keeps1 ..).ve_eq 0x7820 c 0x03, ve_pute_self, h1]

theorem writeTuneRecord_memory (s : State) (k : Nat) :
    ∃ q w, (s.writeTuneRecord k).memory = { s.memory with tuneSeq := q, wear := w } := by
  unfold State.writeTuneRecord
  extract_lets q
  obtain ⟨w, hw⟩ := wearBlock_memory
    { s with memory := { s.memory with tuneSeq := tput k (nextSeqs q) s.memory.tuneSeq } }
    (tuneWear k (if writesFirst q then 0 else 1))
  exact ⟨_, w, hw⟩

/-- A training that succeeds, before the channel goes on: what it left, and its results kept after a full flow. -/
def State.trainingKept (s : State) (c : Nat) (x : DdrTraining) : State :=
  let s1 := (s.put 0x7801 0x05 (x.micros % 2 ^ 32)).trainedChan c x
  if (s.chan c).trained && x.fastOk then s1 else s1.writeTuneRecord (64 + c)

section
variable {s : State} {c : Nat} {x : DdrTraining}

theorem trainingKept_keeps (s : State) (c : Nat) (x : DdrTraining) :
    Keeps ⟨[.memory], [(0x900005, 0x900005)]⟩ ((s.put 0x7801 0x05 (x.micros % 2 ^ 32)).trainedChan c x)
      (s.trainingKept c x) :=
  .ite (fun _ => .refl ..) fun _ => State.writeTuneRecord_keeps ..

/-- The channel is trained, and of the rest of the memory the tuning region alone changes. -/
theorem trainingKept_memory (s : State) (c : Nat) (x : DdrTraining) : ∃ l q w,
    (s.trainingKept c x).memory = { s.memory with chans := l, tuneSeq := q, wear := w } ∧
      (tget ChanRec.reset c l).trained = true := by
  obtain ⟨l, hl, ht⟩ := trainedChan_memory (s.put 0x7801 0x05 (x.micros % 2 ^ 32)) c x
  unfold State.trainingKept
  extract_lets s1
  split
  · exact ⟨l, _, _, hl, ht⟩
  · obtain ⟨q, w, hw⟩ := writeTuneRecord_memory s1 (64 + c)
    exact ⟨l, q, w, hw.trans (by rw [hl]; rfl), ht⟩

theorem trainingKept_trained : ((s.trainingKept c x).chan c).trained = true := by
  obtain ⟨l, q, w, hm, ht⟩ := trainingKept_memory s c x
  rw [State.chan, hm]
  exact ht

theorem trainingKept_serviceState : (s.trainingKept c x).serviceState c = s.serviceState c := by
  obtain ⟨l, q, w, hm, -⟩ := trainingKept_memory s c x
  rw [State.serviceState, State.serviceState, hm]

theorem trainingKept_redirects : (s.trainingKept c x).memory.redirects = s.memory.redirects := by
  obtain ⟨l, q, w, hm, -⟩ := trainingKept_memory s c x
  rw [hm]

theorem trainingKept_size : (s.trainingKept c x).ve 0x7820 c 0x03 = s.chanSize := by
  rw [(trainingKept_keeps s c x).ve_eq 0x7820 c 0x03, trainedChan_size, (State.put_keeps1 ..).chanSize_eq]

theorem trainingKept_micros : (s.trainingKept c x).v 0x7801 0x05 = x.micros % 2 ^ 32 := by
  rw [(trainingKept_keeps s c x).v_eq 0x7801 0x05, (State.trainedChan_keeps ..).v_eq 0x7801 0x05, v_put_self]

/-! ### The end of a training (R289, R292) -/

/-- A training that succeeds leads on by what the channel is to do. -/
theorem doTrainingDone_ok (h1 : s.chanState c = 1)
    (hok : ((s.chan c).trained && x.fastOk || x.fullOk) = true) :
    s.doTrainingDone c x =
      if (s.chan c).returnDue then ((s.trainingKept c x).beginReturn c).chanGoesOn c
      else if (s.chan c).offline then
        ((s.trainingKept c x).putChan c { (s.trainingKept c x).chan c with retrained := true }).putChanState c 4
      else (((s.trainingKept c x).putChanState c ((s.trainingKept c x).serviceState c)).judgeDdr).chanGoesOn c := by
  unfold State.doTrainingDone
  rw [if_neg (not_not.2 h1)]
  exact if_pos hok

theorem training_serves (h1 : s.chanState c = 1) (hok : ((s.chan c).trained && x.fastOk || x.fullOk) = true)
    (hr : (s.chan c).returnDue = false) (ho : (s.chan c).offline = false) :
    (s.doTrainingDone c x).chanState c = s.serviceState c ∧ ((s.doTrainingDone c x).chan c).trained = true ∧
      (s.doTrainingDone c x).ve 0x7820 c 0x03 = s.chanSize ∧
      (s.doTrainingDone c x).v 0x7801 0x05 = x.micros % 2 ^ 32 := by
  rw [doTrainingDone_ok h1 hok, if_neg (Bool.eq_false_iff.1 hr), if_neg (Bool.eq_false_iff.1 ho),
    trainingKept_serviceState]
  set z := (s.trainingKept c x).putChanState c (s.serviceState c)
  have hz : Keeps ⟨[], [(0x189002, 0x189002), (0x780102, 0x780102), (0x782001, 0x782001)]⟩ (s.trainingKept c x)
      z.judgeDdr := ((Keeps.refl _ _).step (State.putChanState_keeps ..)).step (State.judgeDdr_keeps z)
  have hgo := State.chanGoesOn_keeps z.judgeDdr c
  refine ⟨?_, ?_, ?_, ?_⟩
  · rw [hgo.chanState_eq, (State.judgeDdr_keeps z).chanState_eq, chanState_putChanState]
  · rw [(scheduled_chanGoesOn ..).2, hz.chan_eq, trainingKept_trained]
  · rw [hgo.ve_eq 0x7820 c 0x03, hz.ve_eq 0x7820 c 0x03, trainingKept_size]
  · rw [hgo.v_eq 0x7801 0x05, hz.v_eq 0x7801 0x05, trainingKept_micros]

/-- Chunks begin to come back, or there are none. -/
theorem beginReturn_state (s : State) (c : Nat) :
    (s.beginReturn c).chanState c = if (tget? c s.memory.redirects).isNone then 2 else 6 := by
  unfold State.beginReturn
  extract_lets _ s1 _ _
  have h1 : s1.memory.redirects = s.memory.redirects := rfl
  rw [h1]
  split
  next h => rw [chanState_putChanState, h, Option.isNone_none, if_pos rfl]
  next h =>
    rw [h]
    exact ((State.pute_keeps1 ..).chanState_eq c).trans (chanState_putChanState ..)

theorem beginReturn_trained (s : State) (c : Nat) : ((s.beginReturn c).chan c).trained = (s.chan c).trained := by
  have hput := congrArg ChanRec.trained (chan_putChan_self s c
    { s.chan c with returnDue := false, offline := false, retrained := false })
  unfold State.beginReturn
  extract_lets _ s1 _ _
  split <;> exact hput

theorem training_returns (h1 : s.chanState c = 1) (hok : ((s.chan c).trained && x.fastOk || x.fullOk) = true)
    (hr : (s.chan c).returnDue = true) :
    (s.doTrainingDone c x).chanState c = (if (tget? c s.memory.redirects).isNone then 2 else 6) ∧
      ((s.doTrainingDone c x).chan c).trained = true := by
  rw [doTrainingDone_ok h1 hok, if_pos hr]
  constructor
  · rw [(State.chanGoesOn_keeps ..).chanState_eq, beginReturn_state, trainingKept_redirects]
  · rw [(scheduled_chanGoesOn ..).2, beginReturn_trained, trainingKept_trained]

theorem training_offline (h1 : s.chanState c = 1) (hok : ((s.chan c).trained && x.fastOk || x.fullOk) = true)
    (hr : (s.chan c).returnDue = false) (ho : (s.chan c).offline = true) :
    (s.doTrainingDone c x).chanState c = 4 ∧ ((s.doTrainingDone c x).chan c).retrained = true := by
  rw [doTrainingDone_ok h1 hok, if_neg (Bool.eq_false_iff.1 hr), if_pos ho]
  refine ⟨chanState_putChanState .., ?_⟩
  rw [(State.putChanState_keeps ..).chan_eq, chan_putChan_self]

end

/-! ### Requests of a failed channel (R287, R289) -/

section
variable (s : State)

theorem spoil_requests (a n : Nat) : (s.spoil a n).memory.requests = s.memory.requests := by
  unfold State.spoil
  split
  next junk s1 heq =>
  obtain rfl : (s.freeBytes n).2 = s1 := congrArg Prod.snd heq
  have hfree := (State.freeBytes_keeps s n).memory_eq
  exact (congrArg Memory.requests hfree :)

theorem wearBlock_requests (k : Nat) : (s.wearBlock k).memory.requests = s.memory.requests := by
  obtain ⟨w, hw⟩ := wearBlock_memory s k
  rw [hw]

theorem log_requests (l : LogSpec) : (s.log l).memory.requests = s.memory.requests := by
  unfold State.log
  extract_lets n bs lost _ s1 s2 s3 pin _ s4
  have h2 : s2.memory = s1.memory := (State.put_keeps1 ..).memory_eq.trans (State.inc_keeps1 ..).memory_eq
  have h3 : s3.memory = s2.memory := by
    unfold s3
    split
    · exact (State.inc_keeps1 ..).memory_eq
    · rfl
  have hs : s3.memory.requests = s.memory.requests := congrArg Memory.requests (h3.trans h2)
  split
  · rw [(State.inc_keeps1 ..).memory_eq,
      foldl_unchanged (π := fun x => x.memory.requests) (fun x _ => wearBlock_requests x _)]
    exact hs
  · exact hs

theorem errorResponse_requests (port kind a : Nat) :
    (s.errorResponse port kind a).memory.requests = s.memory.requests :=
  (log_requests ..).trans (congrArg Memory.requests (State.inc_keeps1 s 0x7802 0x07).memory_eq)

theorem portEffect_requests (port a n : Nat) : (s.portEffect port a n).memory.requests = s.memory.requests := by
  unfold State.portEffect
  split
  · rfl
  · split
    · rw [(State.passSpilled_keeps ..).memory_eq]
    · rfl
    · rfl
  · split <;> rfl
  · split
    · rw [(State.passSpilled_keeps ..).memory_eq]
    · rfl
  all_goals rfl

end

/-- The error response to a request of a failed channel, whose bytes are undefined if it was a write. -/
def State.failRequest (s : State) (r : DramReq) : State :=
  (((if r.write.isSome then s.spoil r.addr r.len else s).dropRequest r.id).errorResponse r.port 4 r.addr).portEffect
    r.port r.addr r.len

theorem failRequests_eq (s : State) (c : Nat) :
    s.failRequests c = (s.memory.requests.filter fun r => r.channel == c).foldl State.failRequest s := rfl

theorem failRequest_requests (s : State) (r : DramReq) :
    (s.failRequest r).memory.requests = s.memory.requests.filter fun q => q.id != r.id := by
  have hspoil : (if r.write.isSome then s.spoil r.addr r.len else s).memory.requests = s.memory.requests := by
    split
    · exact spoil_requests ..
    · rfl
  rw [State.failRequest, portEffect_requests, errorResponse_requests, State.dropRequest, hspoil]

/-- What is answered is no longer waiting. -/
theorem mem_failedRequests {l : List DramReq} {s : State} {q : DramReq}
    (h : q ∈ (l.foldl State.failRequest s).memory.requests) : q ∈ s.memory.requests ∧ q ∉ l := by
  induction l generalizing s with
  | nil => exact ⟨h, List.not_mem_nil⟩
  | cons r l ih =>
    obtain ⟨hq, hl⟩ := ih h
    rw [failRequest_requests, List.mem_filter, bne_iff_ne] at hq
    obtain ⟨hs, hid⟩ := hq
    exact ⟨hs, List.not_mem_cons_of_ne_of_not_mem (fun he => hid (he ▸ rfl)) hl⟩

/-- A failed channel keeps no request. -/
theorem failRequests_answersAll (s : State) (c : Nat) :
    ((s.failRequests c).memory.requests.all fun q => q.channel != c) = true := by
  rw [failRequests_eq]
  refine List.all_eq_true.2 fun q hq => ?_
  obtain ⟨hs, hl⟩ := mem_failedRequests hq
  rw [List.mem_filter, not_and, beq_iff_eq] at hl
  exact bne_iff_ne.2 (hl hs)

/-! ### A training that fails (R289) -/

/-- A training that fails, before the channel's requests are answered. -/
def State.trainingFailed (s : State) (c : Nat) (x : DdrTraining) : State :=
  let s1 := (((s.put 0x7801 0x05 (x.micros % 2 ^ 32)).inc 0x7802 0x0D).putChanState c 7).log
    (domSpec domChannel c 3 1 0x7802 0 0x0D)
  let s2 := s1.putChan c { s1.chan c with returnDue := false, offline := false }
  if s2.memory.migrating = some c then { s2 with memory := { s2.memory with migrating := none } } else s2

section
variable {s : State} {c : Nat} {x : DdrTraining}

theorem doTrainingDone_fails (h1 : s.chanState c = 1)
    (hok : ((s.chan c).trained && x.fastOk || x.fullOk) = false) :
    s.doTrainingDone c x = (s.trainingFailed c x).failRequests c := by
  unfold State.doTrainingDone
  rw [if_neg (not_not.2 h1)]
  exact if_neg (Bool.eq_false_iff.1 hok)

theorem trainingFailed_keeps (s : State) (c : Nat) (x : DdrTraining) :
    Keeps ⟨[.memory, .logs], [(0x180002, 0x180002), (0x180101, 0x180103), (0x900005, 0x900005)]⟩
      (((s.put 0x7801 0x05 (x.micros % 2 ^ 32)).inc 0x7802 0x0D).putChanState c 7) (s.trainingFailed c x) := by
  unfold State.trainingFailed
  extract_lets s1 _ s2 _
  have h : Keeps ⟨[.memory, .logs], [(0x180002, 0x180002), (0x180101, 0x180103), (0x900005, 0x900005)]⟩
      (((s.put 0x7801 0x05 (x.micros % 2 ^ 32)).inc 0x7802 0x0D).putChanState c 7) s2 :=
    (State.log_keeps ..).step (State.putChan_keeps s1 ..)
  exact .ite (fun _ => Keeps.upd h (hme := .inl rfl)) fun _ => h

theorem training_fails (h1 : s.chanState c = 1)
    (hok : ((s.chan c).trained && x.fastOk || x.fullOk) = false) :
    (s.doTrainingDone c x).chanState c = 7 ∧ counted s (s.doTrainingDone c x) 0x7802 0 0x0D ∧
      ((s.doTrainingDone c x).memory.requests.all fun q => q.channel != c) = true := by
  rw [doTrainingDone_fails h1 hok]
  have hfail := State.failRequests_keeps (s.trainingFailed c x) c
  refine ⟨?_, ?_, failRequests_answersAll ..⟩
  · rw [hfail.chanState_eq, (trainingFailed_keeps ..).chanState_eq, chanState_putChanState]
  · intro hroom
    have hcount := counted_between (o := 0x7802) (e := 0) (m := 0x0D)
      (State.put_keeps1 s 0x7801 0x05 (x.micros % 2 ^ 32)) (.refl ⟨[], []⟩ _)
    rw [hfail.ve_eq 0x7802 0 0x0D, (trainingFailed_keeps ..).ve_eq 0x7802 0 0x0D,
      (State.putChanState_keeps ..).ve_eq 0x7802 0 0x0D]
    exact hcount hroom

end

/-! ### Chunks that have moved (R291, R292) -/

/-- A chunk has moved: the channel's redirects are now these, and its bytes are counted. -/
def State.chunkMoved (s : State) (c : Nat) (r : Nat × Nat) : State :=
  ({ s with memory := { s.memory with
      redirects := tput c r s.memory.redirects, nextChunk := s.memory.nextChunk + 1 } }).adde 0x7820 c 0x06 s.grain

section
variable {s : State} {c : Nat}

@[simp] theorem chunkMoved_memory (s : State) (c : Nat) (r : Nat × Nat) : (s.chunkMoved c r).memory =
    { s.memory with redirects := tput c r s.memory.redirects, nextChunk := s.memory.nextChunk + 1 } :=
  (State.adde_keeps1 ..).memory_eq

/-- What follows a chunk that has moved: the next one, or the end of the return or of the migration. -/
theorem doChunkMove_eq (hm : s.memory.migrating = some c) (hw : s.chunkWritten = false) :
    s.doChunkMove =
      if s.memory.returning then
        let x := s.chunkMoved c (s.memory.nextChunk + 1, (tget (0, 0) c s.memory.redirects).2)
        if s.memory.nextChunk + 1 < (tget (0, 0) c s.memory.redirects).2 then x
        else ({ x with memory := { x.memory with
          redirects := tdel c x.memory.redirects, migrating := none, returning := false } }).putChanState c 2
      else
        let x := s.chunkMoved c (0, s.memory.nextChunk + 1)
        if s.memory.nextChunk + 1 < s.chunksOf then x
        else ({ x with memory := { x.memory with migrating := none } }).putChanState c 4 := by
  unfold State.doChunkMove
  split
  next h => exact nomatch h.symm.trans hm
  next h _ => exact nomatch h.symm.trans hw
  next d h _ =>
    obtain rfl : d = c := Option.some.inj (h.symm.trans hm)
    rfl

/-- A chunk has gone to its haven; after the last one the channel is offline. -/
theorem doChunkMove_out (hm : s.memory.migrating = some c) (hr : s.memory.returning = false)
    (hw : s.chunkWritten = false) :
    s.doChunkMove.memory.nextChunk = s.memory.nextChunk + 1 ∧
      tget? c s.doChunkMove.memory.redirects = some (0, s.memory.nextChunk + 1) ∧
      (s.chunksOf ≤ s.memory.nextChunk + 1 →
        s.doChunkMove.memory.migrating = none ∧ s.doChunkMove.chanState c = 4) := by
  rw [doChunkMove_eq hm hw, if_neg (Bool.eq_false_iff.1 hr)]
  extract_lets x
  have hx : x.memory = _ := chunkMoved_memory ..
  have hnext : x.memory.nextChunk = s.memory.nextChunk + 1 := by rw [hx]
  have hto : tget? c x.memory.redirects = some (0, s.memory.nextChunk + 1) := by rw [hx, tget?_tput_self]
  split
  next hmore => exact ⟨hnext, hto, fun hlast => absurd hmore (Nat.not_lt.2 hlast)⟩
  next =>
    rw [(State.putChanState_keeps ..).memory_eq]
    exact ⟨hnext, hto, fun _ => ⟨rfl, chanState_putChanState ..⟩⟩

/-- The last chunk has come back: no chunk of the channel is redirected, and it is in service again. -/
theorem doChunkMove_back (hm : s.memory.migrating = some c) (hr : s.memory.returning = true)
    (hw : s.chunkWritten = false) (hlast : (tget (0, 0) c s.memory.redirects).2 ≤ s.memory.nextChunk + 1) :
    tget? c s.doChunkMove.memory.redirects = none ∧ s.doChunkMove.memory.migrating = none ∧
      s.doChunkMove.chanState c = 2 := by
  rw [doChunkMove_eq hm hw, if_pos hr]
  extract_lets x
  rw [if_neg (Nat.not_lt.2 hlast), (State.putChanState_keeps ..).memory_eq]
  exact ⟨tget?_tdel_self .., rfl, chanState_putChanState ..⟩

/-- While a write to the chunk that moves has not completed, the chunk stays where it is. -/
theorem doChunkMove_waits (hw : s.chunkWritten = true) : s.doChunkMove = s := by
  unfold State.doChunkMove
  split
  · rfl
  · rfl
  next _ h => exact nomatch h.symm.trans hw

end

/-- Settles O50: a timer by what it sends, a training by what the channel is to do (`doTrainingDone_ok`), and a
move by whether it was the last one. -/
theorem channels : Obligations.Channels :=
  ⟨fun s t _ hc h => refreshTimer_refreshes s t hc h,
    fun s t _ count hc h => oscTimer_tracks s t count hc h,
    fun s t _ hc h => zqCalTimer_calibrates s t hc h,
    fun s t _ _ hc h1 hok hr ho => ⟨_, runs_chan hc rfl, training_serves (s := s.enter t) h1 hok hr ho⟩,
    fun s t _ _ hc h1 hok hr => ⟨_, runs_chan hc rfl, training_returns (s := s.enter t) h1 hok hr⟩,
    fun s t _ _ hc h1 hok hr ho => ⟨_, runs_chan hc rfl, training_offline (s := s.enter t) h1 hok hr ho⟩,
    fun s t _ _ hc h1 hok => ⟨_, runs_chan hc rfl, training_fails (s := s.enter t) h1 hok⟩,
    fun s t _ _ hm hr hw => ⟨_, rfl, doChunkMove_out (s := s.enter t) hm hr hw⟩,
    fun s t _ _ hm hr hw hlast => ⟨_, rfl, doChunkMove_back (s := s.enter t) hm hr hw hlast⟩,
    fun s t hw => ⟨_, rfl, (congrArg State.memory (doChunkMove_waits (s := s.enter t) hw)).trans rfl,
      (congrArg State.dict (doChunkMove_waits (s := s.enter t) hw)).trans rfl⟩⟩

end Sys2Proof.Machine
end

section
set_option Elab.async false
namespace Sys2Proof.Machine

/-! ### The address that an error response records (R287) -/

section
variable {s : State} {r : DramReq}

/-- 7803.01 takes the address as it stands. -/
theorem errorResponse_addr (s : State) (port kind a : Nat) : (s.errorResponse port kind a).v 0x7803 0x01 = a := by
  unfold State.errorResponse
  extract_lets ch
  rw [(State.log_keeps ..).v_eq 0x7803 0x01, (State.put_keeps1 ..).v_eq 0x7803 0x01,
    (State.put_keeps1 ..).v_eq 0x7803 0x01, v_put_self]

theorem requestFails_addr (s : State) (r : DramReq) (kind : Nat) :
    (s.requestFails r kind).v 0x7803 0x01 = r.addr := by
  unfold State.requestFails
  extract_lets s1 s2 x soon s3
  have h2 : s2.v 0x7803 0x01 = r.addr := by
    rw [(State.portEffect_keeps ..).v_eq 0x7803 0x01, errorResponse_addr]
  have h3 : s3.v 0x7803 0x01 = r.addr := ((State.putChan_keeps ..).v_eq 0x7803 0x01).trans h2
  split
  · exact ((State.beginRetrain_keeps ..).v_eq 0x7803 0x01).trans h3
  · exact h3

/-- A read whose third replay fails its CRC leaves its address in 7803.01. -/
theorem requestDone_addr {id : Nat} (hi : s.issued? id = some r) (hw : r.write = none) (hr : 3 ≤ r.replays)
    (hcrc : s.ve 0x7820 r.channel 0x04 = 1) : (s.doRequestDone id false).v 0x7803 0x01 = r.addr := by
  have he : s.doRequestDone id false = s.crcFails r 0x05 2 := by
    unfold State.doRequestDone
    rw [hi]
    exact if_pos ⟨by rw [hw]; rfl, rfl, hcrc⟩
  rw [he]
  unfold State.crcFails
  extract_lets s1 others _ s2
  have h2 : s2.v 0x7803 0x01 = r.addr := by
    unfold s2
    rw [if_neg (Nat.not_lt.2 hr), requestFails_addr]
  rw [(State.chanGoesOn_keeps ..).v_eq 0x7803 0x01]
  split
  · rw [(State.beginRetrain_keeps ..).v_eq 0x7803 0x01, (State.escalate_keeps _).v_eq 0x7803 0x01, h2]
  · exact h2

end

/-- An issued read of channel 0 that has been replayed three times, at an address of 65 bits. -/
def farRead : DramReq :=
  { id := 0, port := 2, addr := 2 ^ 64, len := 1, write := none, urgency := 0, start := 0, replays := 3,
    channel := 0, row := 0, bank := 0, loc := 0, also := none, issued := some 0, guards := false }

/-- Channel 0 checks the CRC of reads, and that read is its one request. -/
def State.farReadIssued : State :=
  { State.reset.pute 0x7820 0 0x04 1 with memory := { Memory.reset with requests := [farRead] } }

/-- Refutes O49: the clause for a read that fails for good has no hypothesis on its address. No accepted request
lies at 2 ^ 64 or beyond, but in a state that holds one the error response puts the address into 7803.01 as it is
(`requestDone_addr`), and not its remainder by 2 ^ 64. -/
theorem not_dramRequests : ¬ Obligations.DramRequests := by
  rintro ⟨-, -, -, -, -, -, -, hfails, -⟩
  have hi : State.farReadIssued.issued? 0 = some farRead := by decide +kernel
  have hcrc : State.farReadIssued.ve 0x7820 0 0x04 = 1 := ve_pute_self State.reset 0x7820 0 0x04 1
  obtain ⟨s', hr, haddr, -⟩ := hfails State.farReadIssued 0 0 farRead hi rfl rfl (Nat.le_refl 3) hcrc
  have hcalm := (Calmly.ofKeeps (State.doRequestDone_keeps (State.farReadIssued.enter 0) 0 false) rfl rfl rfl).2
  obtain rfl : ((State.farReadIssued.enter 0).doRequestDone 0 false).settle = s' := Host.Outcome.next.inj hr
  rw [settle_of_calm hcalm, requestDone_addr (s := State.farReadIssued.enter 0) hi rfl (Nat.le_refl 3) hcrc] at haddr
  exact absurd haddr (by decide)

end Sys2Proof.Machine
end

section
set_option Elab.async false
/-! ### Messages (R322, R323) -/

namespace Sys2Proof.Machine

theorem shaRound_length {h : List Nat} (hl : h.length = 8) (kw : Nat × Nat) : (shaRound h kw).length = 8 := by
  unfold shaRound
  split
  · rfl
  · exact hl

theorem foldl_shaRound_length (l : List (Nat × Nat)) :
    ∀ {h : List Nat}, h.length = 8 → (l.foldl shaRound h).length = 8 := by
  induction l with
  | nil => exact fun hl => hl
  | cons kw l ih => exact fun hl => ih (shaRound_length hl kw)

theorem shaBlock_length {h : List Nat} (hl : h.length = 8) (blk : Bytes) : (shaBlock h blk).length = 8 := by
  simp only [shaBlock, List.length_map, List.length_zip, hl, foldl_shaRound_length _ hl, Nat.min_self]

theorem shaBlocks_length (k : Nat) : ∀ (bs : Bytes) {h : List Nat}, h.length = 8 →
    (shaBlocks k bs h).length = 8 := by
  induction k with
  | zero => exact fun _ _ hl => hl
  | succ k ih => exact fun bs _ hl => ih (bs.drop 64) (shaBlock_length hl (bs.take 64))

theorem sha256_length (bs : Bytes) : (sha256 bs).length = 32 := by
  have h8 : (shaBlocks ((shaPad bs).length / 64) (shaPad bs) shaH).length = 8 :=
    shaBlocks_length _ _ (by simp [shaH, words32])
  simp only [sha256, List.length_flatMap, beBytes_length, List.map_const', h8, List.sum_replicate,
    smul_eq_mul, Nat.reduceMul]

theorem tagOf_length (key msg : Bytes) : (tagOf key msg).length = 16 := by
  simp only [tagOf, hmac, List.length_take, sha256_length, Nat.reduceLeDiff, inf_of_le_left]

/-- The signed head of a packed message. -/
def packHead (ty m flags session seq chord : Nat) (body : Bytes) : Bytes :=
  [1#8] ++ beBytes 1 ty ++ beBytes 1 m ++ beBytes 1 flags ++ beBytes 4 session ++
    beBytes 4 seq ++ beBytes 2 chord ++ beBytes 2 body.length ++ body

theorem packMsg_eq (ty m flags session seq chord : Nat) (body key : Bytes) :
    packMsg ty m flags session seq chord body key =
      packHead ty m flags session seq chord body ++ tagOf key (packHead ty m flags session seq chord body) := rfl

theorem packHead_length (ty m flags session seq chord : Nat) (body : Bytes) :
    (packHead ty m flags session seq chord body).length = 16 + body.length := by
  simp only [packHead, List.length_append, List.length_cons, List.length_nil, beBytes_length]

/-- A field behind a part of a byte string is a field of the rest. -/
theorem field_append_of_le {pre : Bytes} {o : Nat} (h : pre.length ≤ o) (post : Bytes) (n : Nat) :
    field (pre ++ post) o n = field post (o - pre.length) n := by
  rw [field, slice, List.drop_append, List.drop_eq_nil_of_le h, List.nil_append]
  rfl

/-- The field that a byte string begins with. -/
theorem field_beBytes_append {n v : Nat} (hv : v < 256 ^ n) (post : Bytes) : field (beBytes n v ++ post) 0 n = v :=
  field_beBytes (pre := []) rfl hv post

/-- R322: a packed message has the length of its header, and its parts lie where they are read. -/
theorem parseMsg_packMsg {ty m flags session seq chord : Nat} {body : Bytes} (key : Bytes) (hty : ty < 256)
    (hm : m < 256) (hf : flags < 256) (hs : session < 2 ^ 32) (hq : seq < 2 ^ 32) (hc : chord < 2 ^ 16)
    (hb : body.length ≤ 1408) :
    parseMsg (packMsg ty m flags session seq chord body key) = some
      { version := 1, type := ty, master := m, flags := flags, session := session, seq := seq, chord := chord,
        body := body, head := packHead ty m flags session seq chord body,
        tag := tagOf key (packHead ty m flags session seq chord body) } := by
  have hhead := packHead_length ty m flags session seq chord body
  have htag := tagOf_length key (packHead ty m flags session seq chord body)
  rw [packMsg_eq]
  generalize tagOf key (packHead ty m flags session seq chord body) = tag at htag ⊢
  have hsplit : packHead ty m flags session seq chord body ++ tag =
      beBytes 1 1 ++ (beBytes 1 ty ++ (beBytes 1 m ++ (beBytes 1 flags ++ (beBytes 4 session ++
        (beBytes 4 seq ++ (beBytes 2 chord ++ (beBytes 2 body.length ++ (body ++ tag)))))))) := by
    simp only [packHead, List.append_assoc]
    rfl
  have hn : field (packHead ty m flags session seq chord body ++ tag) 14 2 = body.length := by
    simp only [hsplit, field_append_of_le, beBytes_length, Nat.reduceLeDiff, Nat.reduceSub]
    exact field_beBytes_append (by omega) _
  have hbody : slice (packHead ty m flags session seq chord body ++ tag) 16 body.length = body := by
    simp [hsplit, slice, List.drop_append, List.drop_eq_nil_of_le]
  have hlen : (packHead ty m flags session seq chord body ++ tag).length = 32 + body.length := by
    rw [List.length_append, hhead, htag]
    omega
  have htake := List.take_left' (l₂ := tag) hhead
  have hdrop := List.drop_left' (l₂ := tag) hhead
  simp only [parseMsg, hn, hbody, htake, hdrop, if_pos (And.intro hlen hb), Option.some.injEq, Msg.mk.injEq, and_true]
  simp only [hsplit, field_append_of_le, beBytes_length, Nat.reduceLeDiff, Nat.reduceSub]
  exact ⟨field_beBytes_append (by omega) _, field_beBytes_append (by omega) _, field_beBytes_append (by omega) _,
    field_beBytes_append (by omega) _, field_beBytes_append (by omega) _, field_beBytes_append (by omega) _,
    field_beBytes_append (by omega) _⟩

/-- A byte string that parses is its head and 16 bytes of tag. -/
theorem split_of_parseMsg {b : Bytes} {x : Msg} (h : parseMsg b = some x) :
    b = x.head ++ x.tag ∧ x.head.length = 16 + x.body.length ∧ x.tag.length = 16 := by
  simp only [parseMsg, Option.ite_none_right_eq_some, Option.some.injEq] at h
  obtain ⟨⟨hlen, -⟩, rfl⟩ := h
  refine ⟨(List.take_append_drop _ b).symm, ?_, ?_⟩
  · simp only [slice, List.length_take, List.length_drop]
    omega
  · simp only [List.length_drop]
    omega

/-- Settles O14: the parts of a message have the lengths of their fields, so each lies where it is read; and the
header's length leaves 16 bytes for the tag. -/
theorem messagesRoundTrip : Obligations.MessagesRoundTrip := by
  refine ⟨fun ty m flags session seq chord body key hty hm hf hs hq hc hb => ?_, fun b x => split_of_parseMsg⟩
  exact ⟨_, parseMsg_packMsg key hty hm hf hs hq hc hb, rfl, rfl, rfl, rfl, rfl, rfl, rfl, rfl, rfl⟩

end Sys2Proof.Machine
end

section
set_option Elab.async false
namespace Sys2Proof.Machine

/-! ### What the gates may change (R304 to R307) -/

/-- Every member of the gates. -/
def gateKeys : List (Nat × Nat) := [(0x202000, 0x2020FF), (0x203000, 0x2030FF)]

/-- What the owner of the gates may change. -/
def gateFoot : Foot := ⟨[.bridge, .clock], [(0x200102, 0x200102), (0x200204, 0x200205), (0x201001, 0x201001),
  (0x201004, 0x201004), (0x202000, 0x2020FF), (0x203000, 0x2030FF), (0x602004, 0x602004)]⟩

/-- What a gate request that is given up may change. -/
def abandonFoot : Foot := ⟨[.clock, .mgmt], [(0x200102, 0x200102), (0x200204, 0x200205), (0x201001, 0x201001),
  (0x201004, 0x201004), (0x202000, 0x2020FF), (0x203000, 0x2030FF)]⟩

/-- The same, with the answer to the WRITE that waited. -/
def gateFailsFoot : Foot := ⟨[.out, .clock, .mgmt, .net], [(0x200102, 0x200102), (0x200204, 0x200205),
  (0x201001, 0x201001), (0x201004, 0x201004), (0x202000, 0x2020FF), (0x203000, 0x2030FF)]⟩

section
variable (s : State)

theorem pute_gate_keeps (unit : Bool) (e m v : Nat) : Keeps ⟨[], gateKeys⟩ s (s.pute (gateObject unit) e m v) := by
  cases unit
  · exact (State.pute_keepsO s 0x2020 e m v).mono (by decide +kernel)
  · exact (State.pute_keepsO s 0x2030 e m v).mono (by decide +kernel)

theorem putGate_keepsGate (unit : Bool) (e st : Nat) : Keeps ⟨[], gateKeys⟩ s (s.putGate unit e st) := by
  have h := pute_gate_keeps s unit e 0x02 st
  unfold State.putGate
  exact .ite (fun _ => h.step (pute_gate_keeps ..)) fun _ => .ite (fun _ => h.step (pute_gate_keeps ..)) fun _ => h

theorem putGates_keepsGate (l : List Nat) (st : Nat) :
    Keeps ⟨[], gateKeys⟩ s (l.foldl (fun (x : State) n => x.putGate false n st) s) :=
  .foldl (.refl _ s) fun x n => putGate_keepsGate x false n st

theorem openIslandsOf_keeps (l : List Nat) :
    Keeps ⟨[.clock], [(0x201001, 0x201001), (0x201004, 0x201004)]⟩ s (l.foldl State.openIsland s) :=
  .foldl (.refl _ s) State.openIsland_keeps

theorem stopIslands_keeps (l : List Nat) :
    Keeps ⟨[.clock], [(0x201001, 0x201001), (0x201004, 0x201004)]⟩ s (l.foldl State.stopIsland s) :=
  .foldl (.refl _ s) State.stopIsland_keeps

theorem ownGate_keepsGate (unit : Bool) (e v : Nat) : Keeps gateFoot s (s.ownGate unit e v) := by
  have hreq : ∀ r, Keeps gateFoot s { s with clock := { s.clock with gateReq := r } } := fun _ =>
    Keeps.upd (.refl _ s) (hck := .inl rfl)
  unfold State.ownGate
  dsimp only
  refine .ite (fun _ => (State.gateRefused_keeps ..).mono (by decide +kernel)) fun _ => .ite (fun _ => ?_) fun _ => ?_
  · exact .ite (fun _ => .refl _ s) fun _ =>
      .ite (fun _ => (hreq _).step (putGate_keepsGate ..)) fun _ => (hreq _).step (putGates_keepsGate ..)
  · refine .ite (fun _ => .refl _ s) fun _ => .ite (fun _ => (putGate_keepsGate ..).mono (by decide +kernel)) fun _ => ?_
    exact (((hreq _).step (putGates_keepsGate ..)).step (openIslandsOf_keeps ..)).step (State.gateRamped_keeps ..)

theorem gateIdle_keepsGate : Keeps ⟨[.clock], [(0x201001, 0x201001), (0x201004, 0x201004), (0x202000, 0x2020FF),
    (0x203000, 0x2030FF)]⟩ s s.gateIdle := by
  unfold State.gateIdle
  split
  next =>
    have hreq : Keeps ⟨[.clock], [(0x201001, 0x201001), (0x201004, 0x201004), (0x202000, 0x2020FF),
        (0x203000, 0x2030FF)]⟩ s { s with clock := { s.clock with gateReq := none } } :=
      Keeps.upd (.refl _ s) (hck := .inl rfl)
    exact .ite (fun _ => .ite (fun _ => hreq.step (putGate_keepsGate ..)) fun _ =>
      (hreq.step (putGates_keepsGate ..)).step (stopIslands_keeps ..)) fun _ => .refl _ s
  next => exact .refl _ s

theorem gateAbandon_keepsGate : Keeps abandonFoot s s.gateAbandon := by
  unfold State.gateAbandon
  split
  next =>
    have h1 : Keeps abandonFoot s ({ s with
        clock := { s.clock with gateReq := none }
        mgmt := { s.mgmt with lastCode := 7 } } : State) :=
      Keeps.upd (.refl _ s) (hck := .inl rfl) (hmg := .inl rfl)
    have h1 := h1.step (State.gateRefused_keeps _ 7)
    exact .ite (fun _ => .ite (fun _ => h1.step (putGate_keepsGate ..)) fun _ => h1.step (putGates_keepsGate ..))
      fun _ => (h1.step (putGates_keepsGate ..)).step (stopIslands_keeps ..)
  next => exact .refl _ s

theorem gateFails_keepsGate : Keeps gateFailsFoot s s.gateFails :=
  ((gateAbandon_keepsGate s).mono (by decide +kernel)).step (State.gateAnswer_keeps ..)

/-- A footprint over all members, narrowed to the members that change. -/
theorem Keeps.narrow {s : State} {P : List Part} {K : List (Nat × Nat)} {u : State} (h : Keeps ⟨P, [(0, 0xFFFFFF)]⟩ s u)
    (hk : ∀ k, (⟨P, K⟩ : Foot).free k = true → tget? k u.dict = tget? k s.dict) : Keeps ⟨P, K⟩ s u :=
  { h with keys := hk }

theorem openGates_keepsGate : Keeps gateFailsFoot s s.openGates := by
  unfold gateFailsFoot
  refine Keeps.narrow (State.openGates_keeps s) fun k hk => ?_
  rw [← (gateFails_keepsGate s).keys k hk]
  refine tget?_filter (fun _ => ?_) _
  simp only [Foot.free, List.all_eq_true, Bool.or_eq_true, decide_eq_true_eq] at hk
  have h2 := hk (0x202000, 0x2020FF) (by simp)
  have h3 := hk (0x203000, 0x2030FF) (by simp)
  simp only [keyCode, keyMember] at h2 h3
  simp only [Bool.and_eq_true, bne_iff_ne, ne_eq]
  omega

/-- What a warm restart may change. -/
def warmFoot : Foot := footOf (.autoRestartTimer 0)

theorem warmRestart_keepsWarm : Keeps warmFoot s s.warmRestart := by
  unfold State.warmRestart
  dsimp only
  refine .step (.step (.step (.step (.step ?_ (State.put_keeps1 ..)) (State.put_keeps1 ..)) (State.fullClear_keeps _))
    (openGates_keepsGate _)) (State.openIslands_keeps _)
  exact Keeps.upd (.refl _ s) (hb := .inl rfl) (hck := .inl rfl) (hlg := .inl rfl)

end


/-! ### What waits, where clocks, supplies and islands fail -/

section
variable (s : State)

theorem Calmly.ofStepTo {F : Foot} {s u : State} (h : Keeps F s u) (hq : u.seq.waiting = s.seq.waiting)
    (hn : s.net.stepTo = none → u.net.stepTo = none) : Calmly F s u := fun hc => by
  refine ⟨h, ?_⟩
  simp only [Seq.waiting, Prod.mk.injEq] at hq
  obtain ⟨hp, hnut, hs, hd⟩ := hq
  rw [calm_iff] at hc ⊢
  rw [hp, hnut, hs, hd]
  exact ⟨hc.1, hc.2.1, hc.2.2.1, hc.2.2.2.1, hn hc.2.2.2.2⟩

/-- A step that leaves the sequencer as it was, and a step of wall time as pending as it was. -/
theorem Calmly.ofNet {F : Foot} {s u : State} (h : Keeps F s u) (hn : u.net.stepTo = s.net.stepTo)
    (hq : F.parts.contains .seq = false := by rfl) : Calmly F s u :=
  .ofStepTo h (congrArg Seq.waiting (h.seq_eq hq)) hn.trans

/-! #### Messages leave, and a step of wall time pends as before -/

theorem sendOwn_stepTo (port : Nat) (o : Output) (slot : Option Nat) :
    (s.sendOwn port o slot).net.stepTo = s.net.stepTo := by
  unfold State.sendOwn
  split <;> rfl

theorem sendOut_stepTo (path : Nat) (peer msg : Bytes) : (s.sendOut path peer msg).net.stepTo = s.net.stepTo := by
  unfold State.sendOut
  split
  · rfl
  · exact sendOwn_stepTo ..

theorem sendIn_stepTo (m type : Nat) (body : Bytes) : (s.sendIn m type body).2.net.stepTo = s.net.stepTo := by
  unfold State.sendIn
  split
  · rfl
  · exact sendOut_stepTo ..

theorem reply_stepTo (m req code : Nat) (items : List (Nat × Bytes)) (extra : Bytes) :
    (s.reply m req code items extra).net.stepTo = s.net.stepTo := by
  have h := sendIn_stepTo s m 6 (replyBody req code items extra)
  unfold State.reply
  generalize s.sendIn m 6 (replyBody req code items extra) = p at h
  dsimp only
  split
  · exact h
  · rw [(State.holdReply_keeps ..).net_eq, h]

theorem replyIn_stepTo (m id seq code : Nat) (items : List (Nat × Bytes)) (extra : Bytes) :
    (s.replyIn m id seq code items extra).net.stepTo = s.net.stepTo := by
  unfold State.replyIn
  split
  · exact reply_stepTo ..
  · rfl

theorem answer_stepTo (h : Handoff) : (s.answer h).net.stepTo = s.net.stepTo := by
  unfold State.answer
  split
  · rfl
  · exact replyIn_stepTo ..

theorem gateAnswer_stepTo (refused : Bool) : (s.gateAnswer refused).net.stepTo = s.net.stepTo := by
  unfold State.gateAnswer
  split
  · rfl
  · dsimp only
    split
    · exact answer_stepTo ..
    · rfl

theorem gateFails_stepTo : s.gateFails.net.stepTo = s.net.stepTo := by
  unfold State.gateFails
  rw [gateAnswer_stepTo, (gateAbandon_keepsGate s).net_eq]

/-! #### Wall time -/

theorem setWall_stepTo (v : Nat) : (s.setWall v).net.stepTo = s.net.stepTo := by
  have hput : ∀ (u : State) (o m x : Nat), (u.put o m x).net = u.net := fun _ _ _ _ => rfl
  have hinc : ∀ (u : State) (o m : Nat), (u.inc o m).net = u.net := fun u o m => (State.inc_keeps1 u o m).net_eq
  have hev : ∀ (u : State) (o m : Nat), (u.event o 0 m 0).net = u.net := fun u o m =>
    (State.event_keeps u o 0 m 0).net_eq
  unfold State.setWall
  dsimp only
  split
  · rfl
  · rw [hput, hev]
    split
    · rw [hinc, hput]
    · split
      · rw [hinc, hput]
      · split
        · rw [hinc]
          rfl
        · rfl

theorem holdover_stepTo : s.holdover.net.stepTo = s.net.stepTo := by
  unfold State.holdover
  rw [setWall_stepTo]

/-- With no slot that tracks, wall time makes no step, and none comes to pend. -/
theorem judgeWall_stepTo (h0 : s.tracks 0 = false) (h1 : s.tracks 1 = false) :
    s.judgeWall.net.stepTo = s.net.stepTo := by
  unfold State.judgeWall
  simp only [h0, h1]
  split <;> simp [holdover_stepTo]

theorem putSlot_stepTo (i : Nat) (sl : Slot) : (s.putSlot i sl).net.stepTo = s.net.stepTo := by
  unfold State.putSlot
  split <;> rfl

theorem markFailed_stepTo (i : Nat) : (s.markFailed i).net.stepTo = s.net.stepTo := by
  unfold State.markFailed
  split
  · rfl
  · rw [(State.inc_keeps1 ..).net_eq]
    exact putSlot_stepTo ..

theorem markFailed_domain (i j : Nat) (hj : j < 2) : (s.markFailed i).domainOf j = s.domainOf j := by
  refine (State.markFailed_keeps s i).v_eq _ _ ?_
  interval_cases j <;> decide +kernel

theorem markFailed_tracks (i : Nat) (hi : i < 2) : (s.markFailed i).tracks i = false := by
  have hd := markFailed_domain s i i hi
  rw [State.tracks, beq_eq_false_iff_ne, State.slotState, hd]
  split
  · decide
  next hne =>
    unfold State.markFailed
    split
    next h =>
      rw [State.slotState, if_neg hne] at h
      omega
    next =>
      dsimp only
      rw [(State.inc_keeps1 _ 0x8002 0x05).ve 0x8010 i 0x01 (by decide +kernel), State.putSlotState, ve_pute_self]
      decide

theorem markFailed_tracks_ne {i j : Nat} (hj : j < 2) (hi : i < 2) (hne : j ≠ i) :
    (s.markFailed i).tracks j = s.tracks j := by
  have hd := markFailed_domain s i j hj
  have hv : (s.markFailed i).ve 0x8010 j 0x01 = s.ve 0x8010 j 0x01 := by
    unfold State.markFailed
    split
    · rfl
    · dsimp only
      rw [(State.inc_keeps1 _ 0x8002 0x05).ve 0x8010 j 0x01 (by decide +kernel), State.putSlotState,
        ve_pute_ne (fun h => hne (mkey_inj (by decide) (by decide) (by omega) (by decide) (by omega) (by decide) h).2.1)]
      unfold State.putSlot
      split <;> rfl
  rw [State.tracks, State.tracks, State.slotState, State.slotState, hd, hv]

theorem failSlots_stepTo : s.failSlots.net.stepTo = s.net.stepTo := by
  unfold State.failSlots
  rw [judgeWall_stepTo _ ?_ (markFailed_tracks _ 1 (by decide)), markFailed_stepTo, markFailed_stepTo]
  rw [markFailed_tracks_ne _ (by decide) (by decide) (by decide), markFailed_tracks _ 0 (by decide)]

theorem wallLost_stepTo : s.wallLost.net.stepTo = none := by
  unfold State.wallLost
  rw [setWall_stepTo]
  rfl

theorem sendIp6_stepTo (port dst : Nat) (pkt : Bytes) : (s.sendIp6 port dst pkt).net.stepTo = s.net.stepTo := by
  unfold State.sendIp6
  split
  · exact sendOwn_stepTo ..
  · rfl

theorem ethLinkDown_stepTo (p : Nat) : (s.ethLink p false).net.stepTo = s.net.stepTo := rfl

/-! #### The supply and the islands -/

theorem stopNow_waiting : s.stopNow.seq.waiting = s.seq.waiting := by
  unfold State.stopNow
  split
  · rw [(State.calFinish_keeps _).seq_eq, (State.droneWheelEnds_keeps _).seq_eq, (State.endDrone_keeps _).seq_eq]
  · split
    · rw [(State.calFinish_keeps _).seq_eq, endTimeline_waiting]
    · rfl

theorem faultedCoast_waiting (bit : Nat) : (s.faultedCoast bit).seq.waiting = s.seq.waiting := by
  have h := congrArg Seq.waiting (onWheel_faultedCoast s bit).seq
  exact h

/-- What the loss of a lock may change. -/
def clockFoot : Foot := footOf (.hclkLoss 0)

theorem calmly_lockLost (slip : Bool) : Calmly clockFoot s (s.lockLost slip) := by
  unfold State.lockLost
  dsimp only
  have h1 : Calmly clockFoot s ((s.lossNoted slip).put 0x2001 0x01 3) :=
    ((Calmly.refl _ s).step (State.lossNoted_keeps s slip)).step (State.put_keeps1 ..)
  generalize (s.lossNoted slip).put 0x2001 0x01 3 = x at h1
  have h2 : Calmly clockFoot s ({ x with clock := { x.clock with
      hold := true, opening := [], openingNow := none, islandsDue := false } } : State) :=
    h1.step (G := ⟨[.clock], []⟩) (Keeps.upd (.refl _ x) (hck := .inl rfl))
  generalize ({ x with clock := { x.clock with
      hold := true, opening := [], openingNow := none, islandsDue := false } } : State) = y at h2
  have h3 : Calmly clockFoot s (y.gateFails.blankAll 3) :=
    (h2.trans (.ofNet (gateFails_keepsGate y) (gateFails_stepTo y))).step (State.blankAll_keeps ..)
  have h4 := h3.trans (.ofWaiting (State.faultedCoast_keeps _ 1) (faultedCoast_waiting _ 1))
  have h5 := h4.trans (.ofWaiting (State.stopNow_keeps _) (stopNow_waiting _))
  have h6 := (h5.step (State.park_keeps _ [0, 1])).step (State.selfRefresh_keeps _)
  exact (h6.trans (.ofStepTo (State.wallLost_keeps _) (congrArg Seq.waiting (State.wallLost_keeps _).seq_eq)
    fun _ => wallLost_stepTo _)).step (State.event_keeps ..)

theorem calmly_clockFails (slip : Bool) : Calmly clockFoot s (s.clockFails slip) := by
  have hck : ∀ c, Calmly clockFoot s { s with clock := c } := fun _ =>
    .mono (.ofKeeps (F := ⟨[.clock], []⟩) (Keeps.upd (.refl _ s) (hck := .inl rfl)))
  have hforced : ∀ st, Calmly clockFoot s (((s.lossNoted false).coreForced).put 0x2001 0x01 st) := fun _ =>
    (((Calmly.refl _ s).step (State.lossNoted_keeps ..)).step (State.coreForced_keeps _)).step (State.put_keeps1 ..)
  unfold State.clockFails
  refine .ite (fun _ => hck _) fun _ => ?_
  split
  · exact calmly_lockLost s slip
  · exact .ite (fun _ => .refl _ s) fun _ => hforced 4
  · exact .ite (fun _ => .refl _ s) fun _ => hforced 0
  · exact .refl _ s
  · exact .ite (fun _ => .refl _ s) fun _ => hck _

/-- What the power-fail sequence may change. -/
def powerFoot : Foot := footOf (.pfail 0)

theorem calmly_powerFail : Calmly powerFoot s s.powerFail := by
  unfold State.powerFail
  refine .ite (fun _ => .refl _ s) fun _ => ?_
  dsimp only
  have h0 : Calmly powerFoot s ({ s with clock := { s.clock with pfailRun := true, pfailReleased := false } } : State) :=
    (Calmly.refl _ s).step (G := ⟨[.clock], []⟩) (Keeps.upd (.refl _ s) (hck := .inl rfl))
  generalize ({ s with clock := { s.clock with pfailRun := true, pfailReleased := false } } : State) = x at h0
  have h1 := (h0.step (State.blankAll_keeps x 2)).trans
    (.ofWaiting (State.faultedCoast_keeps _ 7) (faultedCoast_waiting _ 7))
  have h2 := (h1.trans (.ofWaiting (State.stopNow_keeps _) (stopNow_waiting _))).step (State.park_keeps _ [0, 1])
  generalize (((x.blankAll 2).faultedCoast 7).stopNow).park [0, 1] = y at h2
  have h3 : Calmly powerFoot s (if (y.half 0).park = 3 ∧ (y.half 1).park = 3 ∧ y.v 0x5801 0x04 / 16 ≠ 0 then
      y.railsDown 4 else y) := .ite (fun _ => h2.step (State.railsDown_keeps ..)) fun _ => h2
  exact (((h3.step (State.startCommit_keeps _)).step (State.selfRefresh_keeps _)).step
    (State.closeIslands_keeps _)).step (State.put_keeps1 ..)

theorem calmly_pfailFalls : Calmly powerFoot s s.pfailFalls := by
  unfold State.pfailFalls
  dsimp only
  have h1 : Calmly powerFoot s (s.transitions 0 (if s.clock.pfail then 2 else 1)) :=
    (Calmly.refl _ s).step (State.transitions_keeps ..)
  generalize s.transitions 0 (if s.clock.pfail then 2 else 1) = x at h1
  have h2 : Calmly powerFoot s ({ x with clock := { x.clock with pfail := true } } : State) :=
    h1.step (G := ⟨[.clock], []⟩) (Keeps.upd (.refl _ x) (hck := .inl rfl))
  exact .ite (fun _ => h1) fun _ => .ite
    (fun _ => (h2.step (State.log_keeps ..)).trans (calmly_powerFail _) (Foot.sub_refl _)) fun _ => h2

theorem calmly_railLow (r : Nat) : Calmly (footOf (.railUndervoltage 0 0)) s (s.railLow r) := by
  have h1 : Calmly (footOf (.railUndervoltage 0 0)) s (s.railFault r 0) :=
    (Calmly.refl _ s).step (State.railFault_keeps ..)
  unfold State.railLow
  dsimp only
  have hp : Keeps _ _ _ := State.powerFail_keeps (s.railFault r 0)
  exact .ite (fun _ => h1.trans (fun hc => ⟨hp, (calmly_powerFail _ hc).2⟩)) fun _ => h1

/-- What the error of an island may change. -/
def islandFoot : Foot := footOf (.islandError 0 0)

theorem calmly_haltDisplay : Calmly islandFoot s s.haltDisplay := by
  have h1 : Calmly islandFoot s s.stopNow := .mono (.ofWaiting (State.stopNow_keeps s) (stopNow_waiting s))
  unfold State.haltDisplay
  exact .ite (fun _ => h1.step (State.brake_keeps _)) fun _ => h1

theorem calmly_netStops : Calmly islandFoot s
    { ((s.failSlots.ethLink 0 false).ethLink 1 false) with
      net := { ((s.failSlots.ethLink 0 false).ethLink 1 false).net with queue := [] } } := by
  have h1 : Calmly islandFoot s s.failSlots := .mono (.ofNet (State.failSlots_keeps s) (failSlots_stepTo s))
  have h2 := h1.trans (.ofNet (State.ethLink_keeps s.failSlots 0 false) rfl)
  have h3 := h2.trans (.ofNet (State.ethLink_keeps _ 1 false) rfl)
  exact h3.trans (G := ⟨[.net], []⟩) (.ofNet (Keeps.upd (.refl _ _) (hnt := .inl rfl)) rfl)

theorem calmly_islandStops (i : Nat) : Calmly islandFoot s (s.islandStops i) := by
  have hr := Calmly.refl islandFoot s
  unfold State.islandStops
  split
  · exact hr.step (State.takeOver_keeps s)
  · exact calmly_netStops s
  · exact (hr.step (State.meshLost_keeps s)).step (State.dropNext_keeps _)
  · exact hr.step (State.codecStops_keeps s)
  · exact hr.step (State.compStops_keeps s)
  · exact hr.step (G := ⟨[.ray], []⟩) (Keeps.upd (.refl _ s) (hr := .inl rfl))
  · exact ((calmly_haltDisplay s).step (State.park_keeps ..)).step (State.stageLost_keeps _)
  · exact hr.step (State.park_keeps ..)
  · exact hr.step (State.park_keeps ..)
  · exact hr.step (State.blankQuiet_keeps ..)
  · exact .ite (fun _ => hr) fun _ => hr.trans (.ofWaiting (State.coast_keeps s 11) (coast_waiting s 11))
  · exact hr.step (State.lanesStop_keeps s)
  · exact hr.step (State.memStops_keeps s)
  · exact hr

theorem calmly_islandHold : Calmly islandFoot s s.deviceHold := fun hc =>
  ⟨(State.deviceHold_keeps s).mono (by decide +kernel), (calmly_deviceHold s hc).2⟩

theorem calmly_islandError (i : Nat) : Calmly islandFoot s (s.islandError i) := by
  have hr := Calmly.refl islandFoot s
  unfold State.islandError
  dsimp only
  refine .ite (fun _ => hr.step (State.log_keeps ..)) fun _ => .ite (fun _ => ?_) fun _ => .ite (fun _ => ?_) fun _ => ?_
  · exact (hr.step (State.log_keeps ..)).trans (calmly_islandHold _) (Foot.sub_refl _)
  · exact ((hr.step (State.escalate_keeps s)).step (State.log_keeps ..)).trans (calmly_islandHold _) (Foot.sub_refl _)
  · have h1 := ((hr.step (State.inc_keeps1 s 0x1801 0x05)).step (State.log_keeps _
      (domSpec domIsland i 0 2 0x1801 0 0x05))).step (State.recover_keeps _ domIsland i 0)
    have h2 := (h1.trans (calmly_islandStops _ i) (Foot.sub_refl _)).step (State.stopIsland_keeps _ i)
    refine .step (.step h2 (G := ⟨[.clock], []⟩) ?_) (State.openPast_keeps ..)
    exact Keeps.upd (.refl _ _) (hck := .inl rfl)

end

end Sys2Proof.Machine
end

section
set_option Elab.async false
namespace Sys2Proof.Machine

/-! ### Writes below 5000 (R8, R331) -/

section
variable {F G : Foot} {s : State} {c : Instr} {t master o e m v : Nat}

/-- Rows whose written numbers go to the act of a unit. -/
def lowRow (r : MemberRow) : Bool := r.acc != .w1c && r.ty != .blob

/-- A written number below 5000 goes to the act of its unit, where its element exists. -/
theorem own_low (act : State → State) (ho : ∀ y : State, y.ownLow? master o e m v = some (act y)) (hlo : o < 0x5000)
    (hm : m ≠ 0x10) (hrow : (memberRows.all fun r => !(r.object == o && decide (r.first ≤ m) && decide (m ≤ r.last)) ||
      lowRow r) = true) (y : State) :
    y.own master (stagedValue o e m v) = y ∨ y.own master (stagedValue o e m v) = act y := by
  cases hr : rowOf o e m with
  | none => exact .inl (by simp only [State.own, stagedValue, hr])
  | some r =>
    have hp := rowOf_all hr hrow
    simp only [lowRow, Bool.and_eq_true, bne_iff_ne] at hp
    obtain ⟨hw, hb⟩ := hp
    refine .inr ?_
    simp [State.own, stagedValue, hr, hw, hb, hm, hlo, ho]

/-- A direct write of a gate: where it is refused, the refusal is counted with the gates too (R305, R306). -/
theorem memberWrite_keepsGate {x : Staged}
    (hown : ∀ y : State, y.calm = true → Keeps F y (y.own master x).settle) (hF : writeFoot.sub F = true)
    (hG : (⟨[], [(0x200102, 0x200102), (0x200204, 0x200205)]⟩ : Foot).sub F = true)
    (hc : s.calm = true) (len : Nat) : Keeps F s (s.memberWrite master len x) := by
  have h1 : ∀ code, Keeps F s { s with mgmt := { s.mgmt with lastCode := code } } := fun _ =>
    (Keeps.upd (.refl writeFoot s) (hmg := .inl rfl)).mono hF
  have h2 : ∀ (u : State) (code : Nat), Keeps F u (u.refuse master x.object x.element x.member code) := fun u code =>
    ((State.refuse_keeps u ..).mono (F := writeFoot) (by decide +kernel)).mono hF
  unfold State.memberWrite
  dsimp only
  refine .ite (fun _ => (h1 _).trans (deliver_settle_keeps hown hF hc) (Foot.sub_refl _)) fun _ => ?_
  have h3 := fun code => (h1 code).trans (h2 _ code) (Foot.sub_refl _)
  exact .ite (fun _ => (h3 _).trans (State.gateRefused_keeps ..) hG) fun _ => h3 _

/-- A write of a member below 5000, where its unit's act, from a state in which nothing waits, keeps within `F`. -/
theorem completes_lowWrite (F : Foot) (act : State → State)
    (he : exec c s = writes t master o e m v s) (hF : footOf c = F) (hw : waits c = true)
    (ho : ∀ y : State, y.ownLow? master o e m v = some (act y))
    (hk : ∀ y : State, y.calm = true → Keeps F y (act y).settle)
    (hlo : o < 0x5000 := by decide) (hm : m ≠ 0x10 := by decide)
    (hg : (stagedValue o e m v).isGate = false := by rfl)
    (hrow : (memberRows.all fun r => !(r.object == o && decide (r.first ≤ m) && decide (m ≤ r.last)) ||
      lowRow r) = true := by decide +kernel)
    (hs : writeFoot.sub F = true := by decide +kernel)
    (hn : (⟨[.now, .out], []⟩ : Foot).sub F = true := by decide +kernel) : Completes c s := by
  subst hF
  refine ⟨_, he, fun h => ((State.enter_keeps s t).mono hn).trans
    (memberWrite_keepsCalm (s := s.enter t) hg (fun y hy => ?_) hs (h hw) _) (Foot.sub_refl _)⟩
  obtain hy' | hy' := own_low act ho hlo hm hrow y
  · rw [hy', settle_of_calm hy]
    exact .refl _ y
  · rw [hy']
    exact hk y hy

/-- A write of a gate's request. -/
theorem completes_gateWrite (unit : Bool) (F : Foot)
    (he : exec c s = writes t 0 (gateObject unit) e 0x01 v s) (hF : footOf c = F) (hw : waits c = true)
    (hG : gateFoot.sub F = true := by decide +kernel) (hs : writeFoot.sub F = true := by decide +kernel)
    (hr : (⟨[], [(0x200102, 0x200102), (0x200204, 0x200205)]⟩ : Foot).sub F = true := by decide +kernel)
    (hn : (⟨[.now, .out], []⟩ : Foot).sub F = true := by decide +kernel) : Completes c s := by
  subst hF
  refine ⟨_, he, fun h => ((State.enter_keeps s t).mono hn).trans
    (memberWrite_keepsGate (s := s.enter t) (fun y hy => ?_) hs hr (h hw) _) (Foot.sub_refl _)⟩
  have hy' : y.own 0 (stagedValue (gateObject unit) e 0x01 v) = y ∨
      y.own 0 (stagedValue (gateObject unit) e 0x01 v) = y.ownGate unit e v := by
    cases unit
    · exact own_low (fun u => u.ownGate false e v) (fun _ => rfl) (by decide) (by decide) (by decide +kernel) y
    · exact own_low (fun u => u.ownGate true e v) (fun _ => rfl) (by decide) (by decide) (by decide +kernel) y
  have hact : Calmly gateFoot y (y.ownGate unit e v) := .ofKeeps (ownGate_keepsGate y unit e v)
  obtain hy' | hy' := hy'
  · rw [hy', settle_of_calm hy]
    exact .refl _ y
  · rw [hy']
    exact hact.settled hG hy

end

/-! ### Completion and frame of the commands of clocks, power, start-up and test -/

section
variable (s : State)

theorem gateIdled_keeps : Keeps (footOf (.gateIdle 0)) s
    (match s.clock.gateReq with
      | some r => if r.closing then s.gateIdle.gateAnswer false else s
      | none => s) := by
  split
  · exact .ite (fun _ => ((gateIdle_keepsGate s).mono (by decide +kernel)).step (State.gateAnswer_keeps ..)) fun _ => .refl _ s
  · exact .refl _ s

theorem gateTimedOut_keeps : Keeps (footOf (.gateCloseTimeout 0)) s
    (match s.clock.gateReq with
      | some r => if r.closing then s.gateFails else s
      | none => s) := by
  split
  · exact .ite (fun _ => (gateFails_keepsGate s).mono (by decide +kernel)) fun _ => .refl _ s
  · exact .refl _ s

theorem railReturned_keeps (rail : Nat) : Keeps (footOf (.railReturn 0 0)) s
    { s.pute 0x2040 rail 0x01 1 with clock := { (s.pute 0x2040 rail 0x01 1).clock with
        badRails := (s.pute 0x2040 rail 0x01 1).clock.badRails.filter (· != rail) } } :=
  Keeps.upd (.step (.refl _ s) (State.pute_keeps1 ..)) (hck := .inl rfl)

theorem autoRestart_keepsWarm : Keeps warmFoot s s.autoRestart :=
  .ite (fun _ => warmRestart_keepsWarm s) fun _ => .refl _ s

theorem calmly_warmRestart : Calmly warmFoot s s.warmRestart := by
  refine .ofNet (warmRestart_keepsWarm s) ?_
  unfold State.warmRestart
  rw [(State.openIslands_keeps _).net_eq]
  unfold State.openGates
  dsimp only
  rw [gateFails_stepTo, (State.fullClear_keeps _).net_eq, (State.put_keeps1 ..).net_eq, (State.put_keeps1 ..).net_eq]

end

/-- Every command of clocks, power, start-up and test. -/
theorem completes_supply (s : State) {c : Instr} (ha : areaOf c = .supply) (hc : c.wf = true) : Completes c s := by
  cases c with
  | chatterEnd t input =>
    exact completes_of_keeps (footOf (.chatterEnd 0 0)) hc rfl rfl
      (Keeps.upd (.refl (footOf (.chatterEnd 0 0)) (s.enter t)) (hck := .inl rfl))
  | resetRelease t =>
    exact completes_of_keeps (footOf (.resetRelease 0)) hc rfl rfl (State.resetRelease_keeps (s.enter t) t)
  | resetAssert t => exact completes_of_keeps (footOf (.resetAssert 0)) hc rfl rfl (State.resetAssert_keeps (s.enter t))
  | pllLock t => exact completes_of_keeps (footOf (.pllLock 0)) hc rfl rfl (State.pllLock_keeps (s.enter t))
  | pllSlip t =>
    exact completes_of_calmly clockFoot hc rfl rfl rfl (.settle (calmly_clockFails (s.enter t) true))
  | pllLockTimeout t =>
    exact completes_of_keeps (footOf (.pllLockTimeout 0)) hc rfl rfl (State.lockTimeout_keeps (s.enter t))
  | hclkLoss t =>
    exact completes_of_calmly clockFoot hc rfl rfl rfl (.settle (calmly_clockFails (s.enter t) false))
  | holdPhaseEnd t =>
    exact completes_of_keeps (footOf (.holdPhaseEnd 0)) hc rfl rfl (State.holdPhaseEnd_keeps (s.enter t))
  | hclkQualified t =>
    exact completes_of_keeps (footOf (.hclkQualified 0)) hc rfl rfl (State.hclkQualified_keeps (s.enter t))
  | ratioRampStep t i =>
    exact completes_of_keeps (footOf (.ratioRampStep 0 0)) hc rfl rfl (State.rampStep_keeps (s.enter t) i)
  | ratioSet t i v =>
    exact completes_lowWrite (footOf (.ratioSet 0 0 0)) (fun y => y.ownRatio i v) rfl rfl rfl (fun _ => rfl)
      fun y => (Calmly.ofKeeps (State.ownRatio_keeps y i v)).settled
  | muxForcedSwitch t i =>
    exact completes_of_keeps (footOf (.muxForcedSwitch 0 0)) hc rfl rfl (State.forcedSwitch_keeps (s.enter t) i)
  | gateClose t unit e => exact completes_gateWrite unit (footOf (.gateClose 0 false 0)) rfl rfl rfl
  | gateIdle t => exact completes_of_keeps (footOf (.gateIdle 0)) hc rfl rfl (gateIdled_keeps (s.enter t))
  | gateCloseTimeout t =>
    exact completes_of_keeps (footOf (.gateCloseTimeout 0)) hc rfl rfl (gateTimedOut_keeps (s.enter t))
  | gateOpen t unit e => exact completes_gateWrite unit (footOf (.gateOpen 0 false 0)) rfl rfl rfl
  | railUndervoltage t r =>
    exact completes_of_calmly (footOf (.railUndervoltage 0 0)) hc rfl rfl rfl (.settle (calmly_railLow (s.enter t) r))
  | railOvervoltage t r =>
    exact completes_of_keeps (footOf (.railOvervoltage 0 0)) hc rfl rfl (State.railFault_keeps (s.enter t) r 2)
  | pfail t => exact completes_of_calmly powerFoot hc rfl rfl rfl (.settle (calmly_pfailFalls (s.enter t)))
  | autoRestartTimer t => exact completes_of_keeps warmFoot hc rfl rfl (autoRestart_keepsWarm (s.enter t))
  | warmRestart t v =>
    exact completes_lowWrite (footOf (.warmRestart 0 0)) State.warmRestart rfl rfl rfl (fun _ => rfl)
      fun y => (calmly_warmRestart y).settled
  | islandRampsDone t l =>
    exact completes_of_keeps (footOf (.islandRampsDone 0 [])) hc rfl rfl (State.islandRampsDone_keeps (s.enter t) l)
  | islandError t i =>
    exact completes_of_calmly islandFoot hc rfl rfl rfl (.settle (calmly_islandError (s.enter t) i))
  | islandRestartDone t i =>
    exact completes_of_calmly (footOf (.islandRestartDone 0 0)) hc rfl rfl rfl
      (.settle (.ofKeeps (State.islandRestarted_keeps (s.enter t) i)))
  | extest t => exact completes_of_keeps (footOf (.extest 0)) hc rfl rfl (State.updateIr_keeps (s.enter t) _)
  | samplePreload t => exact completes_of_keeps (footOf (.extest 0)) hc rfl rfl (State.updateIr_keeps (s.enter t) _)
  | clamp t => exact completes_of_keeps (footOf (.extest 0)) hc rfl rfl (State.updateIr_keeps (s.enter t) _)
  | highz t => exact completes_of_keeps (footOf (.extest 0)) hc rfl rfl (State.updateIr_keeps (s.enter t) _)
  | bypass t => exact completes_of_keeps (footOf (.extest 0)) hc rfl rfl (State.updateIr_keeps (s.enter t) _)
  | tapReset t =>
    exact completes_of_keeps (footOf (.tapReset 0)) hc rfl rfl
      (Keeps.upd (.refl (footOf (.tapReset 0)) (s.enter t)) (hti := .inl rfl))
  | pfailRelease t =>
    exact completes_of_keeps (footOf (.pfailRelease 0)) hc rfl rfl (State.pfailRelease_keeps (s.enter t))
  | railReturn t r =>
    exact completes_of_keeps (footOf (.railReturn 0 0)) hc rfl rfl (railReturned_keeps (s.enter t) r)
  | _ => exact nomatch ha

/-- Settles O21, command by command: each act keeps within its own footprint, the gates' acts within the gates' own
members, and from a state in which nothing waits no fault of a clock, a supply or an island brings about a
waiting change. -/
theorem supplyCommandsKeepTheRest : Obligations.SupplyCommandsKeepTheRest := fun _ s ha hc =>
  completes_supply s ha hc

end Sys2Proof.Machine
end

section
set_option Elab.async false
namespace Sys2Proof.Machine

/-! ### Heat (R365 to R377) -/

/-- The powers that an evaluation takes. -/
def powersOf (powers : List Nat) : List Nat := (List.range 24).map fun n => powers.getD n 0 % 65536

/-- The diode codes that an evaluation takes. -/
def diodesOf (diodes : List Int) : List Int := (List.range 4).map fun d => toS 16 (ofS 16 (diodes.getD d 0))

/-- The rise of Tg since the last evaluation that was 256 ms or more before (R369). -/
def State.riseTo (s : State) (tg : Int) : Int :=
  match oldTg s.health.history s.now with
  | some x => tg - x
  | none => 0

/-- The figures of an evaluation are entered. -/
def State.heatEntered (s : State) (nodes : List Int) (tg : Int) : State :=
  { s with health := { s.health with
    nodes := nodes, history := (s.now, tg) :: pruneTg s.now s.health.history, tg := tg, rise := s.riseTo tg } }

/-- The figures of an evaluation are shown: nodes, powers, diodes, Tg with its source, and the rise rate. -/
def State.heatShown (s : State) (ps : List Nat) (ds nodes : List Int) (tg : Int) (src : Nat) (rise : Int) : State :=
  (((((List.range 4).foldl (fun (st : State) d => st.pute 0x2812 d 0x01 (ofS 16 (ds.getD d 0)))
    ((List.range 24).foldl (fun (st : State) n => st.pute 0x2811 n 0x01 (ps.getD n 0))
      ((List.range 32).foldl (fun (st : State) n => st.putS16 0x2810 n 0x01 (toSixteenths (nodes.getD n 0)))
        s))).putS16 0x2801 0 0x01 (toSixteenths tg)).put 0x2801 0x02 src).putS16 0x2801 0 0x03 (riseShown rise))

/-- The sum of the powers is shown; what it shows past its width the spec leaves open. -/
def State.powerShown (s : State) (total : Nat) : State :=
  if total < 65536 then s.put 0x2801 0x06 total else (s.draw 65536).2.put 0x2801 0x06 (s.draw 65536).1

/-- The members that show an evaluation. -/
def heatKeys : List (Nat × Nat) := [(0x280101, 0x280103), (0x280106, 0x280106), (0x281001, 0x281001),
  (0x281101, 0x281101), (0x281201, 0x281201)]

section
variable (s : State)

/-- An evaluation measures, enters and shows. -/
theorem measureHeat_eq (powers : List Nat) (diodes : List Int) :
    s.measureHeat powers diodes =
      ((s.heatEntered (s.nextNodes (powersOf powers) (diodesOf diodes))
        (governing (s.nextNodes (powersOf powers) (diodesOf diodes)) (diodesOf diodes)).1).heatShown (powersOf powers)
          (diodesOf diodes) (s.nextNodes (powersOf powers) (diodesOf diodes))
          (governing (s.nextNodes (powersOf powers) (diodesOf diodes)) (diodesOf diodes)).1
          (governing (s.nextNodes (powersOf powers) (diodesOf diodes)) (diodesOf diodes)).2
          (s.riseTo (governing (s.nextNodes (powersOf powers) (diodesOf diodes)) (diodesOf diodes)).1)).powerShown
        ((powersOf powers).foldl (· + ·) 0) := rfl

theorem putS16_keeps1 (o e m : Nat) (x : Int) :
    Keeps ⟨[], [(o % 65536 * 256 + m % 256, o % 65536 * 256 + m % 256)]⟩ s (s.putS16 o e m x) := by
  unfold State.putS16
  exact .ite (fun _ => State.pute_keeps1 ..) fun _ =>
    .trans (State.draw_keeps0 _ s 65536) (State.pute_keeps1 ..) (Foot.sub_refl _)

theorem heatShown_keeps (ps : List Nat) (ds ns : List Int) (tg : Int) (src : Nat) (rise : Int) :
    Keeps ⟨[], heatKeys⟩ s (s.heatShown ps ds ns tg src rise) := by
  refine .step (.step (.step ?_ (putS16_keeps1 ..)) (State.put_keeps1 ..)) (putS16_keeps1 ..)
  refine .foldl (.foldl (.foldl (.refl _ s) fun u _ => ?_) fun u _ => ?_) fun u _ => ?_
  · exact .step (.refl _ u) (putS16_keeps1 ..)
  · exact .step (.refl _ u) (State.pute_keeps1 ..)
  · exact .step (.refl _ u) (State.pute_keeps1 ..)

theorem powerShown_keeps (total : Nat) : Keeps ⟨[], [(0x280106, 0x280106)]⟩ s (s.powerShown total) :=
  .ite (fun _ => .step (.refl _ s) (State.put_keeps1 ..)) fun _ =>
    .step (State.draw_keeps0 _ s 65536) (State.put_keeps1 ..)

theorem measureHeat_keeps1 (powers : List Nat) (diodes : List Int) :
    Keeps ⟨[.health], heatKeys⟩ s (s.measureHeat powers diodes) := by
  rw [measureHeat_eq]
  refine .step (.step ?_ (heatShown_keeps ..)) (powerShown_keeps ..)
  exact Keeps.upd (.refl _ s) (hhh := .inl rfl)

/-- What a thermal evaluation may change. -/
def heatFoot : Foot := footOf (.thermalEvaluation 0 [] [])

theorem calmly_thermalShutdown : Calmly heatFoot s s.thermalShutdown := by
  unfold State.thermalShutdown
  dsimp only
  have h1 : ∀ h, Calmly heatFoot s ({ s.inc 0x2802 0x04 with health := h } : State) := fun h =>
    ((Calmly.refl _ s).step (State.inc_keeps1 s 0x2802 0x04)).step (G := ⟨[.health], []⟩)
      (Keeps.upd (.refl _ _) (hhh := .inl rfl))
  have h2 := fun h k => ((h1 h).step (State.wearBlock_keeps _ k)).step (State.showRecord_keeps _)
  have h3 := fun h k => (((h2 h k).step (State.putBit_keeps1 _ 0x2801 0x05 4 true)).step
    (State.putBit_keeps1 _ 0x2801 0x05 5 true)).step (State.event_keeps _ 0x2802 0 0x04 0)
  have h4 := fun h k => (h3 h k).step (State.log_keeps _ (noteSpec 2 0x2802 0 0x04 0 0 0))
  exact (h4 _ _).trans fun hc => ⟨State.powerFail_keeps _, (calmly_powerFail _ hc).2⟩

theorem judgeInterval_keeps1 : Keeps ⟨[], [(0x280105, 0x280105)]⟩ s s.judgeInterval :=
  .ite (fun _ => .step (.refl _ s) (State.putBit_keeps1 ..)) fun _ =>
    .ite (fun _ => .step (.refl _ s) (State.putBit_keeps1 ..)) fun _ => .refl _ s

theorem calmly_evaluate (powers : List Nat) (diodes : List Int) : Calmly heatFoot s (s.evaluate powers diodes) := by
  have h1 : Calmly heatFoot s (s.measureHeat powers diodes).judgeInterval :=
    ((Calmly.refl _ s).step (measureHeat_keeps1 ..)).step (judgeInterval_keeps1 _)
  unfold State.evaluate
  generalize (s.measureHeat powers diodes).judgeInterval = x at h1
  have h2 := (h1.step (State.riseAlarm_keeps x x.health.rise)).step (State.fastThrottle_keeps _ x.health.rise)
  dsimp only
  generalize (x.riseAlarm x.health.rise).fastThrottle x.health.rise = y at h2
  have h3 : ∀ h, Calmly heatFoot s { y with health := h } := fun _ =>
    h2.step (G := ⟨[.health], []⟩) (Keeps.upd (.refl _ _) (hhh := .inl rfl))
  exact .ite (fun _ => .ite (fun _ => h3 _) fun _ => (h3 _).trans (calmly_thermalShutdown _) (Foot.sub_refl _))
    fun _ => h3 _

theorem lifeSecond_keepsLife : Keeps (footOf (.lifeSecond 0)) s s.lifeSecond := by
  unfold State.lifeSecond
  refine .ite (fun _ => ?_) fun _ => .refl _ s
  dsimp only
  refine .step (Keeps.upd ?_ (hhh := .inl rfl)) (putS16_keeps1 ..)
  exact .step (.step (.refl _ s) (State.ince_keeps1 ..)) (State.inc_keeps1 ..)

theorem calmly_ownSdClear : Calmly (footOf (.sdClear 0 0)) s s.ownSdClear := by
  unfold State.ownSdClear
  dsimp only
  have h1 : ∀ h, Calmly (footOf (.sdClear 0 0)) s ({ s with health := h } : State) := fun _ =>
    (Calmly.refl _ s).step (G := ⟨[.health], []⟩) (Keeps.upd (.refl _ _) (hhh := .inl rfl))
  have h2 := fun h k => (((h1 h).step (State.wearBlock_keeps _ k)).step (State.showRecord_keeps _)).step
    (State.putBit_keeps1 _ 0x2801 0x05 5 false)
  exact .ite (fun _ => (h2 _ _).trans (calmly_warmRestart _)) fun _ => h2 _ _

end

/-! ### Completion and frame of the commands of network time, health and calibration -/

section
variable (s : State)

theorem revertTimer_keeps : Keeps (footOf (.revertTimer 0)) s
    (if s.v 0x8001 0x01 = 3 ∧ s.tracks 0 ∧ s.v 0x8000 0x07 ≠ 0 ∧
      s.net.slot0.trackSince + s.v 0x8000 0x07 * secCycles ≤ s.now then s.switchWall 0 else s) :=
  .ite (fun _ => .step (.refl _ s) (State.switchWall_keeps ..)) fun _ => .refl _ s

theorem freeRun_keeps : Keeps (footOf (.freeRunTimer 0)) s
    (({ s with net := { s.net with wallBase := 0, wallAt := s.now, wallRate := 0, resid := 0 } } : State).setWall 1) :=
  .step (Keeps.upd (.refl _ s) (hnt := .inl rfl)) (State.setWall_keeps ..)

theorem holdoverNotice_keeps : Keeps (footOf (.holdoverNotice 0)) s
    ((s.putBit 0x8001 0x02 3 true).event 0x8001 0 0x02 0) :=
  .step (.step (.refl _ s) (State.putBit_keeps1 ..)) (State.event_keeps ..)

theorem slewDone_keeps : Keeps (footOf (.slewDone 0)) s
    (({ s with net := { s.net with resid := 0, residAt := s.now } } : State).putBit 0x8001 0x02 0 false) :=
  .step (Keeps.upd (.refl _ s) (hnt := .inl rfl)) (State.putBit_keeps1 ..)

theorem throttleTimer_keeps : Keeps (footOf (.throttleStepTimer 0)) s
    (if s.displayRuns ∧ s.v 0x5001 0x05 = 255 then s else s.throttleStep) :=
  .ite (fun _ => .refl _ s) fun _ => .step (.refl _ s) (State.throttleStep_keeps s)

theorem completes_cal {c : Instr} {t v : Nat} (he : exec c s = writes t 0 0x2830 0 0x01 v s)
    (hF : footOf c = footOf (.calTile 0)) (hw : waits c = true) : Completes c s :=
  completes_lowWrite (footOf (.calTile 0)) (fun y => y.ownCal v) he hF hw (fun _ => rfl)
    fun y => (Calmly.ofKeeps (State.ownCal_keeps y v)).settled

theorem completes_cv {c : Instr} {t u m master v : Nat} (he : exec c s = writes t master 0x2840 u m v s)
    (hF : footOf c = footOf (.cvKind 0 0 0 0)) (hw : waits c = true) (hm : m ≠ 0x10)
    (hrow : (memberRows.all fun r => !(r.object == 0x2840 && decide (r.first ≤ m) && decide (m ≤ r.last)) ||
      lowRow r) = true) : Completes c s :=
  completes_lowWrite (footOf (.cvKind 0 0 0 0)) (fun y => y.ownCv u m master v) he hF hw (fun _ => rfl)
    (fun y => (Calmly.ofKeeps (State.ownCv_keeps y u m master v)).settled) (hm := hm) (hrow := hrow)

/-- Where nothing waits, no step of wall time is pending, and STEP_NOW makes none. -/
theorem completes_stepNow (t v : Nat) : Completes (.stepNow t v) s :=
  completes_ownWrite s (footOf (.stepNow 0 0)) rfl rfl rfl State.ownStepNow (fun _ => rfl) fun y hy => by
    have h : y.ownStepNow = y := by
      unfold State.ownStepNow
      rw [(calm_iff.1 hy).2.2.2.2]
      rfl
    rw [h, settle_of_calm hy]
    exact .refl _ y

end

/-- Every command of network time. -/
theorem completes_network (s : State) {c : Instr} (ha : areaOf c = .network) (hc : c.wf = true) : Completes c s := by
  cases c with
  | ethFrameRx t p f ok =>
    exact completes_of_keeps (footOf (.ethFrameRx 0 0 [] false)) hc rfl rfl (State.frameIn_keeps (s.enter t) p f ok)
  | relayFrameTx t p =>
    exact completes_of_keeps (footOf (.relayFrameTx 0 0)) hc rfl rfl (State.relayOut_keeps (s.enter t) p)
  | sync t p f => exact completes_of_keeps (footOf (.sync 0 0 [])) hc rfl rfl (State.doSync_keeps (s.enter t) p f)
  | followUp t p f =>
    exact completes_of_keeps (footOf (.followUp 0 0 [])) hc rfl rfl (State.doFollowUp_keeps (s.enter t) p f)
  | delayResp t p f =>
    exact completes_of_keeps (footOf (.delayResp 0 0 [])) hc rfl rfl (State.doDelayResp_keeps (s.enter t) p f)
  | announce t p f =>
    exact completes_of_keeps (footOf (.announce 0 0 [])) hc rfl rfl (State.doAnnounce_keeps (s.enter t) p f)
  | announceTimeout t i =>
    exact completes_of_keeps (footOf (.announce 0 0 [])) hc rfl rfl (State.announceLost_keeps (s.enter t) i)
  | delayReqSend t i =>
    exact completes_of_keeps (footOf (.delayReqSend 0 0)) hc rfl rfl (State.doDelayReq_keeps (s.enter t) i)
  | neighborSolicitation t p f =>
    exact completes_of_keeps (footOf (.echoRequest 0 0 [])) hc rfl rfl (State.answerNs_keeps (s.enter t) p f)
  | echoRequest t p f =>
    exact completes_of_keeps (footOf (.echoRequest 0 0 [])) hc rfl rfl (State.answerEcho_keeps (s.enter t) p f)
  | dadDone t g d =>
    exact completes_of_keeps (footOf (.slewDone 0)) hc rfl rfl (State.doDad_keeps (s.enter t) g d)
  | ethLinkChange t p up =>
    exact completes_of_keeps (footOf (.ethLinkChange 0 0 false)) hc rfl rfl (State.ethLink_keeps (s.enter t) p up)
  | revertTimer t => exact completes_of_keeps (footOf (.revertTimer 0)) hc rfl rfl (revertTimer_keeps (s.enter t))
  | freeRunTimer t =>
    exact completes_of_keeps (footOf (.freeRunTimer 0)) hc rfl rfl
      (.ite (fun _ => freeRun_keeps (s.enter t)) fun _ => .refl _ _)
  | holdoverNotice t =>
    exact completes_of_keeps (footOf (.holdoverNotice 0)) hc rfl rfl
      (.ite (fun _ => holdoverNotice_keeps (s.enter t)) fun _ => .refl _ _)
  | slewDone t =>
    exact completes_of_keeps (footOf (.slewDone 0)) hc rfl rfl
      (.ite (fun _ => slewDone_keeps (s.enter t)) fun _ => .refl _ _)
  | stepNow t v => exact completes_stepNow s t v
  | _ => exact nomatch ha

/-- Every command of health, calibration and check values. -/
theorem completes_health (s : State) {c : Instr} (ha : areaOf c = .health) (hc : c.wf = true) : Completes c s := by
  cases c with
  | thermalEvaluation t ps ds =>
    exact completes_of_calmly heatFoot hc rfl rfl rfl (.settle (calmly_evaluate (s.enter t) ps ds))
  | modelMismatch t d =>
    exact completes_of_keeps (footOf (.modelMismatch 0 0)) hc rfl rfl (State.modelMismatch_keeps (s.enter t))
  | fastThrottleRelease t =>
    exact completes_of_keeps (footOf (.fastThrottleRelease 0)) hc rfl rfl (State.fastRelease_keeps (s.enter t))
  | throttleStepTimer t =>
    exact completes_of_keeps (footOf (.throttleStepTimer 0)) hc rfl rfl (throttleTimer_keeps (s.enter t))
  | lifeSecond t => exact completes_of_keeps (footOf (.lifeSecond 0)) hc rfl rfl (lifeSecond_keepsLife (s.enter t))
  | sdClear t v =>
    exact completes_lowWrite (footOf (.sdClear 0 0)) State.ownSdClear rfl rfl rfl (fun _ => rfl)
      fun y => (calmly_ownSdClear y).settled
  | probePresenceTimer t =>
    exact completes_of_keeps (footOf (.probePresenceTimer 0)) hc rfl rfl (State.doPresence_keeps (s.enter t))
  | probeReading t w =>
    exact completes_of_keeps (footOf (.probeReading 0 0)) hc rfl rfl (State.doProbeReading_keeps (s.enter t) w)
  | calCourse t course => exact completes_cal s (t := t) (if_pos (of_decide_eq_true hc)) rfl rfl
  | calTile t => exact completes_cal s (t := t) rfl rfl rfl
  | calAbort t => exact completes_cal s (t := t) rfl rfl rfl
  | calPluck t => exact completes_of_keeps (footOf (.calPluck 0)) hc rfl rfl (State.doCalPluck_keeps (s.enter t))
  | calTimeout t => exact completes_of_keeps (footOf (.calTimeout 0)) hc rfl rfl (State.calLimit_keeps (s.enter t))
  | cvKind t u master v => exact completes_cv s (t := t) rfl rfl rfl (by decide) (by decide +kernel)
  | cvReset t u master v => exact completes_cv s (t := t) rfl rfl rfl (by decide) (by decide +kernel)
  | cvFeed8 t u master v => exact completes_cv s (t := t) rfl rfl rfl (by decide) (by decide +kernel)
  | cvFeed16 t u master v => exact completes_cv s (t := t) rfl rfl rfl (by decide) (by decide +kernel)
  | cvFeed32 t u master v => exact completes_cv s (t := t) rfl rfl rfl (by decide) (by decide +kernel)
  | cvCheck t u master v => exact completes_cv s (t := t) rfl rfl rfl (by decide) (by decide +kernel)
  | cvOwnerTimeout t u =>
    exact completes_of_keeps (footOf (.cvOwnerTimeout 0 0)) hc rfl rfl (State.pute_keeps1 (s.enter t) ..)
  | _ => exact nomatch ha

/-- Settles O23, command by command: each act keeps within its own footprint, and from a state in which nothing
waits neither a thermal shutdown nor a write finds a waiting change to make. -/
theorem networkAndHealthCommandsKeepTheRest : Obligations.NetworkAndHealthCommandsKeepTheRest := fun _ s ha hc =>
  ha.elim (completes_network s · hc) (completes_health s · hc)

end Sys2Proof.Machine
end

section
set_option Elab.async false
namespace Sys2Proof.Machine

/-! ### Requests of an open session (R320 to R326) -/

/-- The request of a session, as it is read. -/
def asked (y : Session) (ty m seq chord : Nat) (body : Bytes) : Msg where
  version := 1
  type := ty
  master := m
  flags := 0
  session := y.id
  seq := seq
  chord := chord
  body := body
  head := packHead ty m 0 y.id seq chord body
  tag := tagOf y.key (packHead ty m 0 y.id seq chord body)

section
variable {s : State} {c : Instr} {t path m seq chord ty : Nat} {peer body : Bytes} {y z : Session}

theorem reached_bounds (h : s.reached m path = true) : 1 ≤ m ∧ m ≤ 14 := by
  unfold State.reached at h
  split at h
  · omega
  · simp only [Bool.and_eq_true, decide_eq_true_eq] at h
    omega

/-- What `canAsk` holds. -/
theorem canAsk_iff : s.canAsk path m seq y = true ↔ s.yalokOpen path = true ∧ path < 3 ∧ s.handingOver = false ∧
    s.reached m path = true ∧ s.session? m = some y ∧ y.fresh seq = true ∧ seq < 2 ^ 32 ∧ y.id < 2 ^ 32 ∧
      y.seqOut < 2 ^ 32 := by
  simp only [State.canAsk, Bool.and_eq_true, decide_eq_true_eq, Bool.not_eq_true', beq_iff_eq, and_assoc]

/-- A well-formed message of a command's own type is carried out on an open path (R320, R323). -/
theorem receiveAs_of_formed {is : Msg → Bool} {msg : Bytes} {x : Msg} (hy : s.yalokOpen path = true)
    (hh : s.handingOver = false) (hx : parseMsg msg = some x) (hf : x.formed = true) (his : is x = true) :
    s.receiveAs is path peer msg = s.admitMsg path peer x := by
  simp [State.receiveAs, hy, hh, hx, hf, his]

/-- A fresh request with the session's tag is served, and the session takes its sequence, path and peer (R326). -/
theorem request_of_session (hs : s.session? m = some y) (hf : y.fresh seq = true) (path : Nat) (peer : Bytes)
    (chord ty : Nat) (body : Bytes) :
    s.request path peer (asked y ty m seq chord body) =
      (s.putSession m (y.take seq path peer)).serve (asked y ty m seq chord body) path := by
  have hr : (s.masterRec m).session = some y := hs
  simp [State.request, asked, hr, hf]

/-- A request that an open session may send is served. -/
theorem runs_request {is : Msg → Bool} (ha : s.canAsk path m seq y = true)
    (he : exec c s = arrives t path peer (requestIn y ty m seq chord body) is s)
    (his : is (asked y ty m seq chord body) = true) (hform : (asked y ty m seq chord body).formed = true)
    (hty : 1 < ty ∧ ty < 256) (hc : chord < 2 ^ 16) (hb : body.length ≤ 1408) :
    runs c s ((s.asks t path peer m seq y).serve (asked y ty m seq chord body) path) := by
  obtain ⟨hopen, hp, hh, hreach, hs, hf, hseq, hid, -⟩ := canAsk_iff.1 ha
  have hm := reached_bounds hreach
  have hparse : parseMsg (requestIn y ty m seq chord body) = some (asked y ty m seq chord body) :=
    parseMsg_packMsg y.key hty.2 (by omega) (by decide) hid hseq hc hb
  refine he.trans ?_
  have hadmit : (s.enter t).admitMsg path peer (asked y ty m seq chord body) =
      (s.asks t path peer m seq y).serve (asked y ty m seq chord body) path := by
    have h1 : (asked y ty m seq chord body).type ≠ 1 := by simp only [asked]; omega
    have h2 : (s.enter t).reached (asked y ty m seq chord body).master path = true := hreach
    rw [State.admitMsg, if_pos h2, if_neg h1]
    exact request_of_session (s := s.enter t) hs hf ..
  refine guarded_next.2 ⟨decide_eq_true hp, ?_⟩
  exact (receiveAs_of_formed (s := s.enter t) hopen hh hparse hform his).trans hadmit

end

/-! ### What a message that is sent leaves unchanged -/

/-- Of management, only the records of the masters changed. -/
def MastersOnly (s u : State) : Prop := u.mgmt = { s.mgmt with masters := u.mgmt.masters }

namespace MastersOnly

variable {s u w : State}

theorem refl (s : State) : MastersOnly s s := rfl

theorem trans (h : MastersOnly s u) (g : MastersOnly u w) : MastersOnly s w := by
  unfold MastersOnly at *
  rw [g, h]

theorem ofKeeps {F : Foot} (h : Keeps F s u) (hf : F.parts.contains .mgmt = false := by rfl) : MastersOnly s u := by
  rw [MastersOnly, h.mgmt_eq hf]

theorem chord_eq (h : MastersOnly s u) (n : Nat) : u.chord n = s.chord n := by
  unfold MastersOnly at h
  rw [State.chord, h]
  rfl

theorem queues_eq (h : MastersOnly s u) : u.mgmt.queues = s.mgmt.queues := by
  unfold MastersOnly at h
  rw [h]

theorem sent_eq (h : MastersOnly s u) : u.mgmt.sent = s.mgmt.sent := by
  unfold MastersOnly at h
  rw [h]

theorem handoff_eq (h : MastersOnly s u) : u.mgmt.handoff = s.mgmt.handoff := by
  unfold MastersOnly at h
  rw [h]

theorem lastCode_eq (h : MastersOnly s u) : u.mgmt.lastCode = s.mgmt.lastCode := by
  unfold MastersOnly at h
  rw [h]

end MastersOnly

section
variable (s : State)

theorem mastersOnly_putMaster (m : Nat) (x : Master) : MastersOnly s (s.putMaster m x) := rfl

theorem mastersOnly_putSession (m : Nat) (x : Session) : MastersOnly s (s.putSession m x) := rfl

theorem mastersOnly_sendIn (m ty : Nat) (body : Bytes) : MastersOnly s (s.sendIn m ty body).2 := by
  unfold State.sendIn
  split
  · exact .refl s
  · exact (mastersOnly_putSession s ..).trans (.ofKeeps (State.sendOut_keeps ..))

theorem mastersOnly_holdReply (m req : Nat) (msg : Bytes) : MastersOnly s (s.holdReply m req msg) := by
  unfold State.holdReply
  split
  · exact .refl s
  · exact mastersOnly_putSession s ..

theorem mastersOnly_reply (m req code : Nat) (items : List (Nat × Bytes)) (extra : Bytes) :
    MastersOnly s (s.reply m req code items extra) := by
  have h := mastersOnly_sendIn s m 6 (replyBody req code items extra)
  unfold State.reply
  generalize s.sendIn m 6 (replyBody req code items extra) = p at h ⊢
  dsimp only
  split
  · exact h
  · exact h.trans (mastersOnly_holdReply ..)

theorem mastersOnly_replyIn (m id seq code : Nat) (items : List (Nat × Bytes)) (extra : Bytes) :
    MastersOnly s (s.replyIn m id seq code items extra) := by
  unfold State.replyIn
  split
  · exact mastersOnly_reply ..
  · exact .refl s

end

/-! ### Sessions and what is sent in them -/

section
variable {s u : State} {m n path port : Nat} {peer msg : Bytes} {z : Session}

theorem session_putSession_self (s : State) (m : Nat) (x : Session) : (s.putSession m x).session? m = some x := by
  simp [State.session?, State.masterRec, State.putSession, State.putMaster]

theorem masterRec_putMaster_self (s : State) (m : Nat) (x : Master) : (s.putMaster m x).masterRec m = x := by
  simp [State.masterRec, State.putMaster]

theorem masterRec_putMaster_ne (h : n ≠ m) (s : State) (x : Master) :
    (s.putMaster m x).masterRec n = s.masterRec n :=
  tget_tput_ne _ h _ _

theorem session_congr (h : u.mgmt.masters = s.mgmt.masters) (k : Nat) : u.session? k = s.session? k := by
  rw [State.session?, State.masterRec, h]
  rfl

/-- What has been sent has been sent still, once more outputs follow. -/
theorem State.sentOwn.mono {o : Output} (h : s.sentOwn port o) (ho : OutGrows s u)
    (hq : u.net.queue = s.net.queue) : u.sentOwn port o := by
  unfold State.sentOwn at *
  rw [hq]
  exact h.imp ho.mem id

theorem State.hasSent.mono (h : s.hasSent path peer msg) (ho : OutGrows s u)
    (hq : u.net.queue = s.net.queue) : u.hasSent path peer msg := by
  unfold State.hasSent at *
  split
  · rw [if_pos ‹_›] at h
    exact ho.mem h
  · rw [if_neg ‹_›] at h
    exact h.mono ho hq

theorem State.hasSent.ofKeeps {F : Foot} (h : s.hasSent path peer msg) (g : Keeps F s u)
    (ho : F.parts.contains .out = false := by rfl) (hn : F.parts.contains .net = false := by rfl) :
    u.hasSent path peer msg :=
  h.mono (.ofKeeps g ho) (congrArg Net.queue (g.net_eq hn))

theorem sentOwn_sendOwn (s : State) (port : Nat) (o : Output) (slot : Option Nat) :
    (s.sendOwn port o slot).sentOwn port o := by
  unfold State.sendOwn
  split
  · exact .inr ⟨_, List.mem_append_right _ (List.mem_singleton_self _), rfl, rfl⟩
  · exact .inl (by simp)

theorem hasSent_sendOut (s : State) (path : Nat) (peer msg : Bytes) : (s.sendOut path peer msg).hasSent path peer msg := by
  unfold State.hasSent State.sendOut
  split
  · simp
  · exact sentOwn_sendOwn ..

/-- A message leaves in an open session (R326). -/
theorem sendIn_of_session (hs : s.session? m = some z) (ty : Nat) (body : Bytes) :
    s.sendIn m ty body = (packMsg ty m 0x80 z.id z.seqOut 0xFFFF body z.key,
      (s.putSession m { z with seqOut := (z.seqOut + 1) % 2 ^ 32 }).sendOut z.path z.peer
        (packMsg ty m 0x80 z.id z.seqOut 0xFFFF body z.key)) := by
  simp only [State.sendIn, hs]

theorem hasSent_sendIn (hs : s.session? m = some z) (ty : Nat) (body : Bytes) :
    (s.sendIn m ty body).2.hasSent z.path z.peer (packMsg ty m 0x80 z.id z.seqOut 0xFFFF body z.key) := by
  rw [sendIn_of_session hs]
  exact hasSent_sendOut ..

/-- A REPLY leaves in an open session, and the session stays open (R323, R326). -/
theorem hasSent_reply (hs : s.session? m = some z) (req code : Nat) (items : List (Nat × Bytes)) (extra : Bytes) :
    (s.reply m req code items extra).hasSent z.path z.peer (replyOut z m req code items extra) := by
  have h := hasSent_sendIn hs 6 (replyBody req code items extra)
  unfold State.reply
  generalize s.sendIn m 6 (replyBody req code items extra) = p at h ⊢
  dsimp only
  split
  · exact h
  · exact h.ofKeeps (State.holdReply_keeps ..)

theorem session_sendIn_ne (h : n ≠ m) (s : State) (ty : Nat) (body : Bytes) :
    (s.sendIn m ty body).2.session? n = s.session? n := by
  unfold State.sendIn
  split
  · rfl
  · rw [session_congr (congrArg Mgmt.masters (State.sendOut_keeps ..).mgmt_eq)]
    exact congrArg Master.session (masterRec_putMaster_ne h _ _)

end

end Sys2Proof.Machine
end

section
set_option Elab.async false
namespace Sys2Proof.Machine

/-! ### Sessions close (R327) -/

section
variable (s : State)

theorem abortSlot_keeps (n : Nat) : Keeps ⟨[.mgmt], [(0x101105, 0x101105)]⟩ s (s.abortSlot n false) :=
  .step (Keeps.upd (.refl _ s) (hmg := .inl rfl)) (State.inc_keeps1 _ 0x1011 0x05)

theorem abortSlot_masters (n : Nat) : (s.abortSlot n false).mgmt.masters = s.mgmt.masters := by
  simp only [State.abortSlot, Bool.false_eq_true, if_false]
  rw [(State.inc_keeps1 ..).mgmt_eq]
  rfl

theorem abortChords_keeps (m id : Nat) : Keeps ⟨[.mgmt], [(0x101105, 0x101105)]⟩ s (s.abortChords m id) :=
  .foldl (.refl _ s) fun x n => .ite (fun _ => abortSlot_keeps x n) fun _ => .refl _ x

theorem abortChords_masters (m id : Nat) : (s.abortChords m id).mgmt.masters = s.mgmt.masters := by
  unfold State.abortChords
  generalize List.range 32 = l
  induction l generalizing s with
  | nil => rfl
  | cons n l ih =>
    rw [List.foldl_cons, ih]
    dsimp only
    split
    · exact abortSlot_masters ..
    · rfl

theorem closeSession_keepsClose (m : Nat) : Keeps ⟨[.mgmt], [(0x101105, 0x101105)]⟩ s (s.closeSession m) := by
  unfold State.closeSession
  split
  · exact .refl _ s
  · exact .step (Keeps.upd (.refl _ s) (hmg := .inl rfl)) (abortChords_keeps ..)

/-- A master's session is closed, and no other. -/
theorem closeSession_session (m k : Nat) : (s.closeSession m).session? k = if k = m then none else s.session? k := by
  unfold State.closeSession
  split
  next hn =>
    split
    · rw [‹k = m›, hn]
    · rfl
  next =>
    rw [session_congr (abortChords_masters ..)]
    split
    next hk => rw [hk, State.session?, masterRec_putMaster_self]
    next hk => exact congrArg Master.session (masterRec_putMaster_ne hk _ _)

theorem sessionLapses_session (m k : Nat) : (s.sessionLapses m).session? k = if k = m then none else s.session? k := by
  unfold State.sessionLapses
  split
  · exact closeSession_session ..
  next hn =>
    split
    next hk =>
      rw [hk, State.session?, masterRec_putMaster_self]
      exact Option.not_isSome_iff_eq_none.1 hn
    next hk => exact congrArg Master.session (masterRec_putMaster_ne hk _ _)

end

/-! ### Events go out and are acknowledged (R341) -/

section
variable {s : State} {m : Nat} {y : Session}

theorem ackEvents_queue (s : State) (m n : Nat) : tget [] m (s.ackEvents m n).mgmt.queues =
    (tget [] m s.mgmt.queues).filter fun (e : Event) => decide (n < e.number) := by
  unfold State.ackEvents
  dsimp only
  rw [updateHirq_mgmt]
  split <;> simp

theorem ackEvents_session (s : State) (m n k : Nat) : (s.ackEvents m n).session? k = s.session? k := by
  refine session_congr ?_ k
  unfold State.ackEvents
  dsimp only
  rw [updateHirq_mgmt]
  split <;> rfl

/-- Up to sixteen entries go out in one EVENT message. -/
theorem sendBatches_one (es : List Event) (hes : es ≠ []) (hlen : es.length ≤ 16) (fuel : Nat) :
    s.sendBatches m es (fuel + 2) =
      { (s.sendIn m 10 (beBytes 1 es.length ++ zeros 3 ++ es.flatMap Event.bytes)).2 with
        mgmt := { (s.sendIn m 10 (beBytes 1 es.length ++ zeros 3 ++ es.flatMap Event.bytes)).2.mgmt with
          sent := tput m (((s.sendIn m 10 (beBytes 1 es.length ++ zeros 3 ++ es.flatMap Event.bytes)).2.sentTo m).filter
            (fun x => !(es.any fun (e : Event) => e.number == x.1)) ++ es.map fun (e : Event) =>
              (e.number, (s.sendIn m 10 (beBytes 1 es.length ++ zeros 3 ++ es.flatMap Event.bytes)).2.now))
            (s.sendIn m 10 (beBytes 1 es.length ++ zeros 3 ++ es.flatMap Event.bytes)).2.mgmt.sent } } := by
  simp [State.sendBatches, hes, List.take_of_length_le hlen, List.drop_eq_nil_of_le hlen]

/-- The waiting entries of a master that has been sent none go out in its session. -/
theorem sendEvents_first (hs : s.session? m = some y) (hsent : s.sentTo m = []) (hq : tget [] m s.mgmt.queues ≠ [])
    (hlen : (tget [] m s.mgmt.queues).length ≤ 16) :
    (s.sendEvents m).hasSent y.path y.peer (packMsg 10 m 0x80 y.id y.seqOut 0xFFFF
      (beBytes 1 (tget [] m s.mgmt.queues).length ++ zeros 3 ++ (tget [] m s.mgmt.queues).flatMap Event.bytes) y.key) ∧
    (s.sendEvents m).sentTo m = (tget [] m s.mgmt.queues).map fun e => (e.number, s.now) := by
  have hdue : (tget [] m s.mgmt.queues).filter (fun (e : Event) =>
      match (s.sentTo m).find? fun x => x.1 == e.number with
      | some x => decide (x.2 + secCycles ≤ s.now)
      | none => true) = tget [] m s.mgmt.queues := by
    simp [hsent]
  have he : s.sendEvents m = s.sendBatches m (tget [] m s.mgmt.queues) (62 + 2) := by
    unfold State.sendEvents
    rw [if_neg (by simp [hs])]
    exact congrArg (s.sendBatches m · 64) hdue
  have hout := hasSent_sendIn hs 10 (beBytes 1 (tget [] m s.mgmt.queues).length ++ zeros 3 ++
    (tget [] m s.mgmt.queues).flatMap Event.bytes)
  have hmgmt := mastersOnly_sendIn s m 10 (beBytes 1 (tget [] m s.mgmt.queues).length ++ zeros 3 ++
    (tget [] m s.mgmt.queues).flatMap Event.bytes)
  have hnow := (State.sendIn_keeps s m 10 (beBytes 1 (tget [] m s.mgmt.queues).length ++ zeros 3 ++
    (tget [] m s.mgmt.queues).flatMap Event.bytes)).now_eq
  rw [he, sendBatches_one _ hq hlen]
  generalize (s.sendIn m 10 _).2 = u at hout hmgmt hnow ⊢
  refine ⟨hout.mono List.prefix_rfl rfl, ?_⟩
  have hu : u.sentTo m = [] := by rw [State.sentTo, hmgmt.sent_eq]; exact hsent
  simp [State.sentTo, ← hnow] at hu ⊢
  simp [hu]

end

/-! ### Sessions open (R325) -/

section
variable {s : State} {path m chord seq : Nat} {peer body : Bytes} {x : Msg}

/-- What the OPEN that is carried out leaves: one opening session more, and the reply on its path. -/
theorem opens_accepted (path : Nat) (peer : Bytes) (hr : ((s.masterRec x.master).opens.filter fun u =>
    decide (s.now < u + secCycles)).length < 10) (ht : tagOf (s.masterKey x.master) x.head = x.tag) :
    ∃ (u : State) (y : Session) (msg : Bytes), Keeps ⟨[], []⟩ s u ∧ y.path = path ∧ y.peer = peer ∧ y.seqIn = 0 ∧
      s.opens path peer x = (u.putMaster x.master { s.masterRec x.master with
        opening := (s.masterRec x.master).opening ++ [y]
        opens := s.now :: (s.masterRec x.master).opens.filter fun u => decide (s.now < u + secCycles) }).sendOut
          path peer msg := by
  unfold State.opens
  dsimp only
  rw [if_neg (by omega), if_neg (not_not_intro ht)]
  exact ⟨_, _, _, (State.draw_keeps ..).trans (State.freeBytes_keeps ..) rfl, rfl, rfl, rfl, rfl⟩

theorem masterRec_sendOut (s : State) (path : Nat) (peer msg : Bytes) (m : Nat) :
    (s.sendOut path peer msg).masterRec m = s.masterRec m :=
  congrArg (fun g : Mgmt => tget Master.reset m g.masters) (State.sendOut_keeps ..).mgmt_eq

theorem openSession_opens {t : Nat} (hy : s.yalokOpen path = true) (hp : path < 3) (hh : s.handingOver = false)
    (hr : s.reached m path = true) (hc : chord < 2 ^ 16) (hs : seq < 2 ^ 32) (hb : body.length = 16)
    (hten : ((s.masterRec m).opens.filter fun u => decide (max s.now t < u + secCycles)).length < 10) :
    ∃ s', runs (.openSession t path peer (packMsg 1 m 0 0 seq chord body (s.masterKey m))) s s' ∧
      (s'.masterRec m).opening.length = (s.masterRec m).opening.length + 1 ∧
      (s'.masterRec m).session = (s.masterRec m).session ∧
      (∃ z ∈ (s'.masterRec m).opening.getLast?, z.path = path ∧ z.peer = peer ∧ z.seqIn = 0) ∧
      (path = 0 → s'.out.length = 1) := by
  obtain ⟨h1, h14⟩ := reached_bounds hr
  obtain ⟨x, hx, hv, hty, hm, hf, -, -, -, hbody, htag⟩ := messagesRoundTrip.1 1 m 0 0 seq chord body
    (s.masterKey m) (by decide) (by omega) (by decide) (by decide) hs hc (by omega)
  have hform : x.formed = true := by simp [Msg.formed, hv, hf, hm, hty, hbody, hb, bodyLength]; omega
  have htag' : tagOf (s.masterKey x.master) x.head = x.tag := by rw [hm, htag]
  obtain ⟨u, y, msg, hu, hyp, hype, hy0, he⟩ := opens_accepted (s := s.enter t) (x := x) path peer (by rw [hm]; exact hten)
    htag'
  refine ⟨(s.enter t).opens path peer x, guarded_next.2 ⟨decide_eq_true hp, ?_⟩, ?_⟩
  · refine (receiveAs_of_formed (s := s.enter t) hy hh hx hform (by simpa using hty)).trans ?_
    rw [State.admitMsg, if_pos (hm ▸ hr), if_pos hty]
  · rw [he, hm]
    refine ⟨?_, ?_, ⟨y, ?_, hyp, hype, hy0⟩, fun h0 => ?_⟩
    · simp [masterRec_sendOut, masterRec_putMaster_self]
      rfl
    · rw [masterRec_sendOut, masterRec_putMaster_self]
      rfl
    · simp [masterRec_sendOut, masterRec_putMaster_self]
    · have hout : u.out = [] := hu.out.resolve_left (by decide)
      simp [State.sendOut, h0, State.putMaster, hout]

end

/-! ### O53 -/

section
variable {s : State} {t path m seq : Nat} {peer : Bytes} {y : Session}

theorem session_asks (s : State) (t path : Nat) (peer : Bytes) (m seq : Nat) (y : Session) :
    (s.asks t path peer m seq y).session? m = some (y.take seq path peer) :=
  session_putSession_self ..

/-- A request with a body of its type's length keeps to R323. -/
theorem asked_formed {ty chord : Nat} {body : Bytes} (hm : m ≤ 14) (hty : ty ≠ 4 ∧ ty ≠ 5 ∧ ty ≠ 8)
    (hb : bodyLength ty = some body.length) : (asked y ty m seq chord body).formed = true := by
  obtain ⟨h4, h5, h8⟩ := hty
  simp [Msg.formed, asked, h4, h5, h8, hb]
  exact decide_eq_true (show m ≤ 15 by omega)

theorem sendOut_dict (s : State) (path : Nat) (peer msg : Bytes) : (s.sendOut path peer msg).dict = s.dict := by
  unfold State.sendOut
  split
  · rfl
  · unfold State.sendOwn
    split <;> rfl

theorem sendIn_dict (s : State) (m ty : Nat) (body : Bytes) : (s.sendIn m ty body).2.dict = s.dict := by
  unfold State.sendIn
  split
  · rfl
  · exact sendOut_dict ..

theorem holdReply_dict (s : State) (m seq : Nat) (msg : Bytes) : (s.holdReply m seq msg).dict = s.dict := by
  unfold State.holdReply
  split <;> rfl

theorem close_closes (ha : s.canAsk path m seq y = true) :
    ∃ s', runs (.close t path peer (requestIn y 3 m seq 0xFFFF [])) s s' ∧ s'.session? m = none ∧
      s'.hasSent path peer (replyOut y m seq 0 [] []) := by
  have hm := reached_bounds (canAsk_iff.1 ha).2.2.2.1
  refine ⟨_, runs_request ha rfl rfl (asked_formed hm.2 (by decide) rfl) (by decide) (by decide)
    (by decide), ?_, ?_⟩
  · exact (closeSession_session ..).trans (if_pos rfl)
  · exact (hasSent_reply (session_asks ..) ..).ofKeeps (closeSession_keepsClose ..)

theorem keepalive_answered (ha : s.canAsk path m seq y = true) :
    ∃ s', runs (.keepalive t path peer (requestIn y 12 m seq 0xFFFF [])) s s' ∧
      s'.hasSent path peer (packMsg 12 m 0x80 y.id y.seqOut 0xFFFF [] y.key) ∧ s'.dict = s.dict := by
  have hm := reached_bounds (canAsk_iff.1 ha).2.2.2.1
  refine ⟨_, runs_request ha rfl rfl (asked_formed hm.2 (by decide) rfl) (by decide) (by decide)
    (by decide), ?_, ?_⟩
  · exact (hasSent_sendIn (session_asks ..) ..).ofKeeps (State.holdReply_keeps ..)
  · exact (holdReply_dict ..).trans (sendIn_dict ..)

theorem eventAck_acknowledges {k : Nat} (ha : s.canAsk path m seq y = true) (hk : k < 2 ^ 32) :
    ∃ s', runs (.eventAck t path peer (requestIn y 11 m seq 0xFFFF (beBytes 4 k))) s s' ∧
      tget [] m s'.mgmt.queues = (tget [] m s.mgmt.queues).filter (fun e => decide (k < e.number)) ∧
      s'.hasSent path peer (replyOut y m seq 0 [] []) := by
  have hm := reached_bounds (canAsk_iff.1 ha).2.2.2.1
  have hfield : field (beBytes 4 k) 0 4 = k := by simpa using field_beBytes_append (n := 4) (v := k) (by omega) []
  refine ⟨_, runs_request ha rfl rfl (asked_formed hm.2 (by decide) (by simp [bodyLength])) (by decide) (by decide)
    (by simp), ?_, ?_⟩
  · have hs : State.serve (s.asks t path peer m seq y) (asked y 11 m seq 0xFFFF (beBytes 4 k)) path =
        ((s.asks t path peer m seq y).ackEvents m k).reply m seq 0 [] [] :=
      congrArg (fun j => ((s.asks t path peer m seq y).ackEvents m j).reply m seq 0 [] []) hfield
    rw [hs, (mastersOnly_reply ..).queues_eq, ackEvents_queue]
    rfl
  · exact hasSent_reply ((ackEvents_session ..).trans (session_asks ..)) ..

theorem sessionTimeout_closes (h1 : 1 ≤ m) (h14 : m ≤ 14) :
    ∃ s', runs (.sessionTimeout t m) s s' ∧ s'.session? m = none ∧ ∀ k, k ≠ m → s'.session? k = s.session? k :=
  ⟨_, guarded_next.2 ⟨decide_eq_true ⟨h1, h14⟩, rfl⟩, (sessionLapses_session ..).trans (if_pos rfl), fun _ hk =>
    (sessionLapses_session ..).trans (if_neg hk)⟩

theorem malformedMessage_counted (hp : path < 3) :
    ∃ s', runs (.malformedMessage t path) s s' ∧ counted s s' 0x1011 0 0x08 ∧ s'.out = [] := by
  refine ⟨_, guarded_next.2 ⟨decide_eq_true hp, rfl⟩, ?_, ?_⟩
  · exact counted_between (State.enter_keeps s t) (Keeps.refl ⟨[], []⟩ _)
  · exact (State.inc_keeps1 (s.enter t) 0x1011 0x08).out.resolve_left (by decide)

end

/-- Settles O53: an open session's request is served, and what is sent in a session stays sent through the steps
that follow. -/
theorem sessionsAndEvents : Obligations.SessionsAndEvents := by
  refine ⟨fun s t path m chord seq peer body => openSession_opens, fun s t path m seq peer y => close_closes,
    fun s t m => sessionTimeout_closes, fun s t path => malformedMessage_counted,
    fun s t path m seq peer y => keepalive_answered, fun s t path m seq _ peer y => eventAck_acknowledges,
    fun s t m y c h1 h14 hs hsent hq hlen =>
      ⟨(s.enter t).sendEvents m, ?_, sendEvents_first (s := s.enter t) hs hsent hq hlen⟩⟩
  cases c <;> exact guarded_next.2 ⟨decide_eq_true ⟨h1, h14⟩, rfl⟩

end Sys2Proof.Machine
end

section
set_option Elab.async false
namespace Sys2Proof.Machine

/-! ### A KEEPALIVE behind own frames (R351) -/

/-- The open session of master 2 on Ethernet port 0. -/
def portSession : Session :=
  { id := 1, key := [], path := 1, peer := [], seqIn := 0, seen := [], seqOut := 1, replies := [], opened := 0 }

/-- Master 2 is served on port 0, and an own frame waits to leave there. -/
def State.frameWaiting : State :=
  let s := (((State.reset.put 0x1000 0x03 1).put 0x2001 0x01 2).pute 0x8020 0 0x02 1).pute 0x2010 2 0x04 1
  { s with
    mgmt := { s.mgmt with service := true, masters := [(2, { Master.reset with session := some portSession })] }
    net := { s.net with queue := [⟨0, false, 0, [], some (.yalok 1 [] []), none⟩] } }

/-- Refutes O22: the answer to a KEEPALIVE on an Ethernet port goes out as an own frame, and where one waits it
waits behind it. The queue of the network is then one longer, and the footprint of KEEPALIVE does not name that
part. -/
theorem not_managementCommandsKeepTheRest : ¬ Obligations.ManagementCommandsKeepTheRest := by
  intro h
  have ha : State.frameWaiting.canAsk 1 2 1 portSession = true := by decide +kernel
  obtain ⟨s', hr, hk⟩ := h (.keepalive 0 1 [] (requestIn portSession 12 2 1 0xFFFF [])) State.frameWaiting rfl rfl
  have hrun := runs_request (c := .keepalive 0 1 [] (requestIn portSession 12 2 1 0xFFFF [])) (t := 0) (peer := []) ha
    rfl rfl (asked_formed (by decide) (by decide) rfl) (by decide) (by decide) (by decide)
  obtain rfl := Host.Outcome.next.inj (hrun.symm.trans hr)
  have hkept := congrArg (fun n : Net => n.queue.length) ((hk nofun).net_eq rfl)
  exact absurd hkept (by decide +kernel)

/-! ### A warm restart ends a gate request (R305, R307) -/

/-- A power failure is over, and a request to close the gate of unit 2 waits for the unit to be idle. -/
def State.gateWaiting : State :=
  let s := State.reset.put 0x1890 0x01 4
  { s with clock := { s.clock with pfail := false, gateReq := some ⟨true, 2, true⟩ } }

/-- Refutes O29: a warm restart opens every gate, and a gate request that waits is refused there as busy. The last
code is then 7, that of the refusal, and no longer the 0 of WARM_RESTART. -/
theorem not_clockWrites : ¬ Obligations.ClockWrites := by
  rintro ⟨-, -, -, -, -, hwarm⟩
  obtain ⟨s', hr, hcode, -⟩ := hwarm State.gateWaiting 0 1 (by decide +kernel) (by decide +kernel)
  have hlast : (match exec (.warmRestart 0 1) State.gateWaiting with
    | .next u => u.mgmt.lastCode
    | _ => 0) = 7 := by decide +kernel
  have he : exec (.warmRestart 0 1) State.gateWaiting = .next s' := hr
  rw [he] at hlast
  exact absurd (hcode.symm.trans hlast) (by decide)

/-- The next item to hand over is a warm restart, and behind it waits the second item of a WRITE whose first item,
a gate request, waits for its unit to be idle. -/
def State.gateItemWaiting : State :=
  { State.gateWaiting with mgmt := { State.gateWaiting.mgmt with
      handoff := [⟨stagedValue 0x1890 0 0x04 1, 1, 1, 1, true, [0], 0⟩,
        ⟨stagedValue 0x1100 0 0x01 0, 2, 2, 2, true, [0, 0], 1⟩]
      gateItem := some ⟨stagedValue 0x2030 2 0x01 0, 2, 2, 2, false, [0, 0], 0⟩ } }

/-- Refutes O54: as the first item is handed over, the gate request is refused as busy, and its code 7 is entered
among those of its WRITE. The items that remain are then no longer as they were. -/
theorem not_readsAndWrites : ¬ Obligations.ReadsAndWrites := by
  rintro ⟨-, -, -, hitem, -⟩
  obtain ⟨s', hr, -, hrest⟩ := hitem State.gateItemWaiting 0 _ _ rfl
  obtain rfl : (State.gateItemWaiting.enter 0).handItem = s' := Host.Outcome.next.inj hr
  have hcodes : (State.gateItemWaiting.enter 0).handItem.mgmt.handoff.map Handoff.codes = [[7, 0]] := by decide +kernel
  rw [hrest rfl] at hcodes
  exact nomatch hcodes

/-! ### Islands that open while the hold phase begins (R310) -/

/-- The hold phase of a coast, with an island left over in the order of opening. -/
def State.holdPhase : State :=
  let s := State.reset.put 0x2001 0x01 3
  { s with clock := { s.clock with opening := [2] } }

/-- Refutes O52: HOLD_PHASE_END stops the islands outside the service and leaves the order of opening as it is. No
hypothesis says that the order is empty, as the loss of lock leaves it. -/
theorem not_pllAndClockTree : ¬ Obligations.PllAndClockTree := by
  rintro ⟨-, -, hhold, -⟩
  obtain ⟨s', hr, -, -, hopen, -⟩ := hhold State.holdPhase 0 (by decide +kernel)
  obtain rfl : (State.holdPhase.enter 0).holdPhaseEnd = s' := Host.Outcome.next.inj hr
  exact absurd hopen (by decide +kernel)

end Sys2Proof.Machine
end

section
set_option Elab.async false
namespace Sys2Proof.Machine

/-! ### What an event leaves of management -/

/-- Management but the event queues and the number of the next event. -/
def Mgmt.butEvents (g : Mgmt) : Mgmt := { g with queues := [], nextEvent := 0 }

theorem queueEvent_butEvents (s : State) (ev : Event) (m : Nat) :
    (s.queueEvent ev m).mgmt.butEvents = s.mgmt.butEvents := by
  unfold State.queueEvent
  split
  · dsimp only
    split
    · rw [inc_mgmt, (State.ince_keeps1 ..).mgmt_eq]
      rfl
    · rfl
  · rfl

theorem event_butEvents (s : State) (o e m cause : Nat) : (s.event o e m cause).mgmt.butEvents = s.mgmt.butEvents := by
  unfold State.event
  rw [updateHirq_mgmt]
  exact foldl_unchanged (π := fun x => x.mgmt.butEvents) (fun x i => queueEvent_butEvents x _ (i + 1)) _ _

/-! ### Firmware (R343 to R347) -/

/-- No image is under verification. -/
def State.verified (s : State) : State := { s with mgmt := { s.mgmt with verifying := none } }

/-- A slot that does not run shows whether its image is valid. -/
def State.slotJudged (s : State) (slot : Nat) : State :=
  if s.fwState slot = 4 then s else s.pute 0x9100 slot 0x02 (if s.slotValid slot then 2 else 3)

section
variable {s : State} {t slot start : Nat}

/-- An image of a slot that does not run is found valid or invalid; an invalid one is counted and raised. -/
theorem verifyDone_eq (hv : s.mgmt.verifying = some slot) (h4 : s.fwState slot ≠ 4) : s.verifyDone slot =
    if s.slotValid slot then s.verified.pute 0x9100 slot 0x02 2
    else ((s.verified.pute 0x9100 slot 0x02 3).inc 0x9102 0x03).event 0x9102 0 0x03 0 := by
  have hdef : s.verifyDone slot = if s.mgmt.verifying ≠ some slot then s
      else if s.verified.slotValid slot then s.verified.slotJudged slot
      else ((s.verified.slotJudged slot).inc 0x9102 0x03).event 0x9102 0 0x03 0 := rfl
  have h4' : ¬ s.verified.fwState slot = 4 := h4
  have hsame : s.verified.slotValid slot = s.slotValid slot := rfl
  rw [hdef, if_neg (not_not_intro hv), State.slotJudged, if_neg h4', hsame]
  by_cases hok : s.slotValid slot = true
  · simp only [hok, if_true]
  · simp only [hok, if_false, Bool.false_eq_true]

theorem fwVerifyDone_judges (hslot : slot < 2) (hv : s.mgmt.verifying = some slot) (h4 : s.fwState slot ≠ 4) :
    ∃ s', runs (.fwVerifyDone t slot) s s' ∧ s'.mgmt.verifying = none ∧
      s'.fwState slot = (if s.slotValid slot then 2 else 3) ∧
      (s.slotValid slot = false → counted s s' 0x9102 0 0x03) := by
  refine ⟨(s.enter t).verifyDone slot, guarded_next.2 ⟨decide_eq_true hslot, rfl⟩, ?_⟩
  rw [verifyDone_eq (s := s.enter t) hv h4]
  have hsame : (s.enter t).slotValid slot = s.slotValid slot := rfl
  rw [hsame]
  cases s.slotValid slot with
  | true => exact ⟨rfl, ve_pute_self .., nofun⟩
  | false =>
    have hk : Keeps ⟨[.now, .out, .mgmt], [(0x910002, 0x910002)]⟩ s
        ((s.enter t).verified.pute 0x9100 slot 0x02 3) :=
      .step (Keeps.upd ((State.enter_keeps s t).mono (by decide +kernel)) (hmg := .inl rfl)) (State.pute_keeps1 ..)
    refine ⟨congrArg Mgmt.verifying ((event_butEvents ..).trans (congrArg Mgmt.butEvents (inc_mgmt ..))), ?_,
      fun _ => counted_between hk (State.event_keeps ..)⟩
    exact ((State.event_keeps ..).ve_eq ..).trans (((State.inc_keeps1 ..).ve_eq ..).trans (ve_pute_self ..))

theorem answerHeld_none (hn : s.mgmt.heldMsgs = []) : s.answerHeld = s := by
  unfold State.answerHeld
  rw [hn, List.foldl_nil, ← hn]

/-- The new core has service: the slots show it, and the time that the hand-over took is entered. -/
def State.handedShown (s : State) (slot took : Nat) : State :=
  (((((s.pute 0x9100 s.runningSlot 0x02 2).pute 0x9100 slot 0x02 4).put 0x9101 0x05 slot).put 0x9101 0x06 0).put
    0x9101 0x07 took)

theorem handedShown_keeps (s : State) (slot took : Nat) :
    Keeps ⟨[], [(0x910002, 0x910002), (0x910105, 0x910107)]⟩ s (s.handedShown slot took) :=
  .step (.step (.step (.step (.step (.refl _ s) (State.pute_keeps1 ..)) (State.pute_keeps1 ..))
    (State.pute_keeps1 ..)) (State.pute_keeps1 ..)) (State.pute_keeps1 ..)

/-- Service is with the slot, no hand-over is shown, and the slot runs. -/
theorem handedShown_shows (s : State) (slot took : Nat) : (s.handedShown slot took).v 0x9101 0x05 = slot ∧
    (s.handedShown slot took).v 0x9101 0x06 = 0 ∧ (s.handedShown slot took).fwState slot = 4 := by
  unfold State.handedShown
  refine ⟨?_, ?_, ?_⟩
  · exact ((State.pute_keeps1 ..).v_eq ..).trans (((State.pute_keeps1 ..).v_eq ..).trans (v_put_self ..))
  · exact ((State.pute_keeps1 ..).v_eq ..).trans (v_put_self ..)
  · exact ((State.pute_keeps1 ..).ve_eq ..).trans (((State.pute_keeps1 ..).ve_eq ..).trans
      (((State.pute_keeps1 ..).ve_eq ..).trans (ve_pute_self ..)))

theorem handoverDone_completes (hh : s.mgmt.handover = some (slot, start)) (hm : s.mgmt.heldMsgs = []) :
    ∃ s', runs (.handoverDone t) s s' ∧ s'.mgmt.handover = none ∧ s'.v 0x9101 0x05 = slot ∧
      s'.v 0x9101 0x06 = 0 ∧ s'.fwState slot = 4 ∧ counted s s' 0x9102 0 0x01 ∧
      s'.mgmt.activeCore = 1 - s.mgmt.activeCore := by
  have hk : Keeps ⟨[.now, .out, .mgmt], [(0x910002, 0x910002), (0x910105, 0x910107)]⟩ s
      (State.handedShown { s.enter t with mgmt := { (s.enter t).mgmt with
        handover := none, activeCore := 1 - s.mgmt.activeCore } } slot ((max s.now t - start) / 5000 % 2 ^ 32)) :=
    ((Keeps.upd ((State.enter_keeps s t).mono (by decide +kernel)) (hmg := .inl rfl)).trans (handedShown_keeps ..)
      (by decide +kernel))
  have hu : (s.enter t).handedOver slot start =
      (State.handedShown { s.enter t with mgmt := { (s.enter t).mgmt with
        handover := none, activeCore := 1 - s.mgmt.activeCore } } slot
          ((max s.now t - start) / 5000 % 2 ^ 32)).inc 0x9102 0x01 := rfl
  refine ⟨(s.enter t).handedOver slot start, ?_, ?_⟩
  · refine congrArg Host.Outcome.next ?_
    have hh' : (s.enter t).mgmt.handover = some (slot, start) := hh
    simp only [hh']
    refine answerHeld_none ?_
    rw [hu, inc_mgmt]
    exact hm
  · rw [hu, inc_mgmt]
    refine ⟨rfl, ?_, ?_, ?_, counted_between hk (.refl ⟨[], []⟩ _), rfl⟩
    · exact ((State.inc_keeps1 ..).v_eq ..).trans (handedShown_shows ..).1
    · exact ((State.inc_keeps1 ..).v_eq ..).trans (handedShown_shows ..).2.1
    · exact ((State.inc_keeps1 ..).ve_eq ..).trans (handedShown_shows ..).2.2

theorem handoverTimeout_fails (hh : s.handingOver = true) (hm : s.mgmt.heldMsgs = []) :
    ∃ s', runs (.handoverTimeout t) s s' ∧ s'.mgmt.handover = none ∧ s'.v 0x9101 0x06 = 3 ∧
      counted s s' 0x9102 0 0x02 ∧ s'.v 0x9101 0x05 = s.v 0x9101 0x05 := by
  have hf : (s.enter t).handoverFails.mgmt.butEvents =
      { (s.enter t).mgmt.butEvents with handover := none } :=
    (event_butEvents ..).trans (congrArg Mgmt.butEvents (inc_mgmt ..))
  have hk : Keeps ⟨[.now, .out, .mgmt], [(0x910106, 0x910106)]⟩ s
      (State.put { s.enter t with mgmt := { (s.enter t).mgmt with handover := none } } 0x9101 0x06 3) :=
    .step (Keeps.upd ((State.enter_keeps s t).mono (by decide +kernel)) (hmg := .inl rfl)) (State.pute_keeps1 ..)
  have hh' : (s.enter t).handingOver = true := hh
  have hm' : (s.enter t).handoverFails.mgmt.heldMsgs = [] := (congrArg Mgmt.heldMsgs hf).trans hm
  refine ⟨(s.enter t).handoverFails, ?_, congrArg Mgmt.handover hf, ?_, counted_between hk (State.event_keeps ..), ?_⟩
  · refine congrArg Host.Outcome.next ?_
    rw [if_pos hh', answerHeld_none hm']
  · exact ((State.event_keeps ..).v_eq ..).trans (((State.inc_keeps1 ..).v_eq ..).trans (v_put_self ..))
  · exact ((State.event_keeps ..).v_eq ..).trans (((State.inc_keeps1 ..).v_eq ..).trans (hk.v_eq ..))

theorem tget?_map_values {α β : Type} (f : α → β) (k : Nat) (l : Tbl α) :
    tget? k (l.map fun e => (e.1, f e.2)) = (tget? k l).map f := by
  induction l with
  | nil => rfl
  | cons e l ih =>
    simp only [List.map_cons, tget?]
    split
    · rfl
    · exact ih

/-- A master without its sessions. -/
def Master.lapsed (x : Master) : Master := { x with session := none, opening := [] }

/-- Management as a take-over leaves it (R347). -/
def Mgmt.takenOver (m : Mgmt) : Mgmt :=
  { m with
    masters := m.masters.map fun e => (e.1, e.2.lapsed)
    chords := m.chords.map fun e => (e.1, { Chord.reset with gen := e.2.gen })
    sent := [], handoff := [], gateItem := none, gateReply := none, handover := none, heldMsgs := []
    verifying := none
    activeCore := 1 - m.activeCore }

theorem takenOver_sessions (m : Mgmt) (k : Nat) : (tget Master.reset k m.takenOver.masters).session = none := by
  have h : tget? k m.takenOver.masters = (tget? k m.masters).map Master.lapsed := tget?_map_values ..
  rw [tget, h]
  cases tget? k m.masters <;> rfl

/-- A take-over leaves management so, shows a hand-over that it ends, and counts itself. -/
theorem takeOver_eq (s : State) : ∃ x, Keeps ⟨[.mgmt, .health], [(0x910106, 0x910106)]⟩ s x ∧
    x.mgmt = s.mgmt.takenOver ∧ s.takeOver = (x.inc 0x9102 0x05).log (noteSpec 2 0x9102 0 0x05 0 0 0) := by
  have hk : Keeps ⟨[.mgmt, .health], [(0x910106, 0x910106)]⟩ s { s with mgmt := s.mgmt.takenOver } :=
    Keeps.upd (.refl _ s) (hmg := .inl rfl)
  refine ⟨(if s.handingOver then State.put { s with mgmt := s.mgmt.takenOver } 0x9101 0x06 3
    else { s with mgmt := s.mgmt.takenOver }).calEnd, ?_, ?_, rfl⟩
  · exact .step (.ite (fun _ => .step hk (State.pute_keeps1 ..)) fun _ => hk) (State.calEnd_keeps ..)
  · split <;> rfl

theorem watchdogTakeover_takes (s : State) (t : Nat) :
    ∃ s', runs (.watchdogTakeover t) s s' ∧ counted s s' 0x9102 0 0x05 ∧ s'.mgmt.handover = none ∧
      s'.mgmt.handoff = [] ∧ (∀ m, s'.session? m = none) ∧ s'.mgmt.queues = s.mgmt.queues := by
  obtain ⟨x, hk, hm, he⟩ := takeOver_eq (s.enter t)
  have hmgmt : (s.enter t).takeOver.mgmt = s.mgmt.takenOver := by
    rw [he, (State.log_keeps ..).mgmt_eq, inc_mgmt, hm]
    rfl
  refine ⟨(s.enter t).takeOver, rfl, ?_, ?_, ?_, fun k => ?_, ?_⟩
  · rw [he]
    have henter : Keeps ⟨[.now, .out, .mgmt, .health], [(0x910106, 0x910106)]⟩ s (s.enter t) :=
      (State.enter_keeps s t).mono (by decide +kernel)
    exact counted_between (henter.trans hk (by decide +kernel)) (State.log_keeps ..)
  · rw [hmgmt]
    rfl
  · rw [hmgmt]
    rfl
  · rw [State.session?, State.masterRec, hmgmt, takenOver_sessions]
  · rw [hmgmt]
    rfl

end

/-- Settles O56, command by command: what each shows stays through the event or the log entry that follows it. -/
theorem firmware : Obligations.Firmware :=
  ⟨fun _ _ _ => fwVerifyDone_judges, fun _ _ _ _ => handoverDone_completes, fun _ _ => handoverTimeout_fails,
    watchdogTakeover_takes⟩

end Sys2Proof.Machine
end

section
set_option Elab.async false
namespace Sys2Proof.Machine

/-! ### Parts that a step leaves alone -/

section
variable {F : Foot} {s u : State}

theorem Keeps.health_eq (h : Keeps F s u) (hf : F.parts.contains .health = false := by rfl) : u.health = s.health :=
  h.health.resolve_left (Bool.eq_false_iff.1 hf)

theorem Keeps.clock_eq (h : Keeps F s u) (hf : F.parts.contains .clock = false := by rfl) : u.clock = s.clock :=
  h.clock.resolve_left (Bool.eq_false_iff.1 hf)

theorem Keeps.logs_eq (h : Keeps F s u) (hf : F.parts.contains .logs = false := by rfl) : u.logs = s.logs :=
  h.logs.resolve_left (Bool.eq_false_iff.1 hf)

theorem Keeps.out_eq (h : Keeps F s u) (hf : F.parts.contains .out = false := by rfl) : u.out = s.out :=
  h.out.resolve_left (Bool.eq_false_iff.1 hf)

end

/-! ### Probe readings (R379) -/

section
variable {s : State} {t : Nat} {w : BitVec 32}

theorem probePresence_triggers (hn : s.health.cal = none) :
    ∃ s', runs (.probePresenceTimer t) s s' ∧
      s'.out = [.probeTrig (max s.now t + 8000) (max s.now t + 20000)] ∧ s'.dict = s.dict := by
  refine ⟨(s.enter t).doPresence, rfl, ?_, ?_⟩ <;> simp [State.doPresence, hn]

theorem probeReading_valid (h : probeValid w = true) :
    ∃ s', runs (.probeReading t w) s s' ∧ s'.v 0x2820 0x05 = w.toNat / 256 ∧ s'.v 0x2820 0x04 = 1 ∧
      s'.health.probeBad = 0 := by
  refine ⟨(s.enter t).doProbeReading w, rfl, ?_⟩
  unfold State.doProbeReading
  rw [if_pos h]
  refine ⟨?_, ?_, rfl⟩
  · exact ((State.mapCal_keeps ..).v_eq ..).trans (((State.pute_keeps1 ..).v_eq ..).trans (v_put_self ..))
  · exact ((State.mapCal_keeps ..).v_eq ..).trans (v_put_self ..)

theorem probeReading_bad (h : probeValid w = false) :
    ∃ s', runs (.probeReading t w) s s' ∧ s'.health.probeBad = s.health.probeBad + 1 ∧
      s'.v 0x2820 0x05 = s.v 0x2820 0x05 ∧ (15 ≤ s.health.probeBad → s'.v 0x2820 0x04 = 0) := by
  have hk : ∃ u, Keeps ⟨[.now, .out, .health], [(0x280208, 0x280208)]⟩ s u ∧
      u.health.probeBad = s.health.probeBad + 1 ∧ (s.enter t).doProbeReading w =
        if 16 ≤ s.health.probeBad + 1 then (u.put 0x2820 0x04 0).calEnd else u := by
    have hbad : Keeps ⟨[.now, .out, .health], [(0x280208, 0x280208)]⟩ s { s.enter t with
        health := { s.health with probeBad := s.health.probeBad + 1 } } :=
      Keeps.upd ((State.enter_keeps s t).mono (by decide +kernel)) (hhh := .inl rfl)
    unfold State.doProbeReading
    rw [if_neg (by simp [h])]
    refine ⟨_, .ite (fun _ => .step hbad (State.inc_keeps1 _ 0x2802 0x08)) fun _ => hbad, ?_, rfl⟩
    split
    · exact congrArg Health.probeBad (State.inc_keeps1 ..).health_eq
    · rfl
  obtain ⟨u, hu, hn, he⟩ := hk
  refine ⟨(s.enter t).doProbeReading w, rfl, ?_⟩
  rw [he]
  split
  next h16 =>
    refine ⟨hn, ?_, fun _ => ((State.calEnd_keeps ..).v_eq ..).trans (v_put_self ..)⟩
    exact ((State.calEnd_keeps ..).v_eq ..).trans (((State.pute_keeps1 ..).v_eq ..).trans (hu.v_eq ..))
  next h16 => exact ⟨hn, hu.v_eq .., fun h15 => absurd (by omega) h16⟩

end

/-! ### Calibration plucks and limits (R381, R385) -/

section
variable {s : State} {t : Nat} {k : Cal}

theorem mapCal_cal (s : State) (f : Cal → Cal) : (s.mapCal f).health.cal = s.health.cal.map f := rfl

theorem sendDown_grows (s : State) (c ty i : Nat) (m p : Bool) (code slot : Nat) :
    OutGrows s (s.sendDown c ty i m p code slot) := by
  rw [OutGrows, sendDown_out]
  exact List.prefix_append ..

/-- The calibration goes on to a pluck, and the probe is asked for a reading around it. -/
def State.pluckTriggered (s : State) (k : Cal) : State :=
  (s.mapCal fun x => { x with pluck := k.pluck + 1, pair := calPair k.pluck }).emit
    (.probeTrig (s.now + 8000) (s.now + 20000))

theorem doCalPluck_triggers (hk : s.health.cal = some k) (hp : k.phase = 2) (hw : k.window = true)
    (h16 : k.pluck < 16) : Keeps ⟨[.out, .bridge], [(0x600209, 0x600209), (0x60100B, 0x60100B)]⟩
      (s.pluckTriggered k) s.doCalPluck ∧ OutGrows (s.pluckTriggered k) s.doCalPluck ∧
        (calPair k.pluck = none → s.doCalPluck = s.pluckTriggered k) := by
  have hnot : ¬(k.phase ≠ 2 ∨ (!k.window) = true ∨ 16 ≤ k.pluck) := by simp [hp, hw, h16]
  unfold State.doCalPluck
  rw [hk]
  dsimp only
  rw [if_neg hnot]
  split
  · exact ⟨.refl _ _, .refl _, fun _ => rfl⟩
  next p hp =>
    have htop (x : State) (hi : Bool) (n : Nat) : Keeps ⟨[], [(0x600209, 0x600209), (0x60100B, 0x60100B)]⟩ x
        (if hi then (x.ince 0x6010 n 0x0B).inc 0x6002 0x09 else x) :=
      .ite (fun _ => .step (.step (.refl _ x) (State.ince_keeps1 ..)) (State.inc_keeps1 ..)) fun _ => .refl _ x
    refine ⟨?_, ?_, fun hn => nomatch hp.symm.trans hn⟩
    · exact .ite (fun _ => .step (.step (.step (Keeps.mono (htop ..) (by decide +kernel)) (State.sendDown_keeps ..))
        (State.emit_keeps ..)) (State.expect_keeps ..)) fun _ =>
          .step (Keeps.mono (htop ..) (by decide +kernel)) (State.sendDown_keeps ..)
    · have hdown (x : State) (hi : Bool) (n : Nat) (lit : Bool) : OutGrows x ((if hi then
          (x.ince 0x6010 n 0x0B).inc 0x6002 0x09 else x).sendDown k.course 2 (if lit then p / 4 else 3) lit false
            (x.calCodeOf n (2 ^ (p % 4))).1 31) :=
        (OutGrows.ofKeeps (htop x hi n)).trans (sendDown_grows ..)
      exact .ite (.step (.trans (hdown ..) (outGrows_emit ..)) (State.expect_keeps ..)) (hdown ..)

theorem calPluck_plucks (hk : s.health.cal = some k) (hp : k.phase = 2) (hw : k.window = true) (h16 : k.pluck < 16) :
    ∃ s', runs (.calPluck t) s s' ∧ s'.health.cal = some { k with pluck := k.pluck + 1, pair := calPair k.pluck } ∧
      .probeTrig (max s.now t + 8000) (max s.now t + 20000) ∈ s'.out ∧ (k.pluck % 4 = 0 → s'.out.length = 1) := by
  obtain ⟨hkeeps, hgrows, hdark⟩ := doCalPluck_triggers (s := s.enter t) hk hp hw h16
  refine ⟨(s.enter t).doCalPluck, rfl, ?_, hgrows.mem (List.mem_singleton_self _), fun h0 => ?_⟩
  · rw [hkeeps.health_eq]
    exact (mapCal_cal ..).trans (congrArg (Option.map _) hk)
  · rw [hdark (if_pos h0)]
    rfl

theorem calTimeout_ends (hk : s.health.cal = some k) (hp : k.phase ≠ 0) (htile : k.tile = false) :
    ∃ s', runs (.calTimeout t) s s' ∧ s'.health.cal = some { k with ending := true } ∧ s'.dict = s.dict := by
  have he : (s.enter t).calLimit = (s.enter t).calEnd := by simp [State.calLimit, hk, hp, htile]
  refine ⟨(s.enter t).calLimit, rfl, ?_⟩
  rw [he]
  refine ⟨?_, rfl⟩
  exact (mapCal_cal ..).trans (congrArg (Option.map _) hk)

theorem calTimeout_fails (hk : s.health.cal = some k) (hp : k.phase ≠ 0) (htile : k.tile = true)
    (hn : max s.now t < k.n0 + 22 * secCycles) :
    ∃ s', runs (.calTimeout t) s s' ∧ s'.ve 0x2831 k.course 0x01 = 2 ∧ counted s s' 0x2802 0 0x07 ∧
      ∃ c ∈ s'.health.cal, c.phase = 4 ∧ c.failed = k.failed ++ [k.course] := by
  have he : (s.enter t).calLimit = ((s.enter t).courseFails k.course).mapCal fun x =>
      { x with phase := 4, window := false, failed := x.failed ++ [k.course] } := by
    have hnow : ¬(k.tile ∧ k.n0 + 22 * secCycles ≤ (s.enter t).now) := fun h => absurd h.2 (Nat.not_le.2 hn)
    have hk0 : (s.enter t).health.cal = some k := hk
    unfold State.calLimit
    rw [hk0]
    dsimp only
    rw [if_neg hp, if_neg hnow, if_pos htile]
  have hk' : ((s.enter t).courseFails k.course).health.cal = some k := by
    rw [(State.courseFails_keeps ..).health_eq]
    exact hk
  refine ⟨(s.enter t).calLimit, rfl, ?_⟩
  rw [he]
  refine ⟨?_, ?_, { k with phase := 4, window := false, failed := k.failed ++ [k.course] }, ?_, rfl, rfl⟩
  · exact ((State.mapCal_keeps ..).ve_eq ..).trans (((State.inc_keeps1 ..).ve_eq ..).trans (ve_pute_self ..))
  · have hk1 : Keeps ⟨[.now, .out], [(0x283101, 0x283101)]⟩ s ((s.enter t).pute 0x2831 k.course 0x01 2) :=
      .step ((State.enter_keeps s t).mono (by decide +kernel)) (State.pute_keeps1 ..)
    exact counted_between hk1 (State.mapCal_keeps ..)
  · rw [mapCal_cal, hk']
    rfl

end

/-- Settles O60, command by command: a reading or a pluck changes the calibration under way, and what is counted or
driven after it leaves that alone. -/
theorem calibrationAndTap : Obligations.CalibrationAndTap :=
  ⟨fun _ _ => probePresence_triggers, fun _ _ _ => probeReading_valid, fun _ _ _ => probeReading_bad,
    fun _ _ _ => calPluck_plucks, fun _ _ _ => calTimeout_ends, fun _ _ _ => calTimeout_fails,
    fun _ _ => ⟨⟨_, rfl, rfl, rfl⟩, ⟨_, rfl, rfl, rfl⟩, ⟨_, rfl, rfl, rfl⟩, ⟨_, rfl, rfl, rfl⟩, ⟨_, rfl, rfl, rfl⟩,
      ⟨_, rfl, rfl, rfl⟩⟩⟩

end Sys2Proof.Machine
end

section
set_option Elab.async false
namespace Sys2Proof.Machine

/-! ### Own frames (R351) -/

/-- Only outputs and the frames that wait for an Ethernet port changed. -/
def SendsOnly (s u : State) : Prop := ∃ o q, u = { s with out := o, net := { s.net with queue := q } }

namespace SendsOnly

variable {s u w : State}

theorem refl (s : State) : SendsOnly s s := ⟨_, _, rfl⟩

theorem trans (h : SendsOnly s u) (g : SendsOnly u w) : SendsOnly s w := by
  obtain ⟨o, q, rfl⟩ := h
  obtain ⟨o', q', rfl⟩ := g
  exact ⟨o', q', rfl⟩

theorem dict_eq (h : SendsOnly s u) : u.dict = s.dict := by
  obtain ⟨o, q, rfl⟩ := h
  rfl

theorem ve_eq (h : SendsOnly s u) (o e m : Nat) : u.ve o e m = s.ve o e m := by
  rw [State.ve, h.dict_eq]
  rfl

theorem linkOk_eq (h : SendsOnly s u) : u.net.linkOk = s.net.linkOk := by
  obtain ⟨o, q, rfl⟩ := h
  rfl

theorem globalOk_eq (h : SendsOnly s u) : u.net.globalOk = s.net.globalOk := by
  obtain ⟨o, q, rfl⟩ := h
  rfl

theorem slot_eq (h : SendsOnly s u) (i : Nat) : u.slot i = s.slot i := by
  obtain ⟨o, q, rfl⟩ := h
  rfl

end SendsOnly

/-- A link that has come up begins duplicate address detection for the link-local address, unless that is in use. -/
def State.linkDad (s : State) : State := if s.net.linkOk then s else s.sendDad s.linkLocal

/-- The same for the global address, where one is configured. -/
def State.globalDad (s : State) : State :=
  match s.globalAddr with
  | some a => if s.net.globalOk then s else s.sendDad a
  | none => s

section
variable (s : State)

theorem sendOwn_sendsOnly (port : Nat) (o : Output) (slot : Option Nat) : SendsOnly s (s.sendOwn port o slot) := by
  unfold State.sendOwn
  split <;> exact ⟨_, _, rfl⟩

theorem sendIp6_sendsOnly (port dst : Nat) (pkt : Bytes) : SendsOnly s (s.sendIp6 port dst pkt) := by
  unfold State.sendIp6
  split
  · exact sendOwn_sendsOnly ..
  · exact .refl s

theorem sendDad_sendsOnly (a : Nat) : SendsOnly s (s.sendDad a) :=
  (sendIp6_sendsOnly ..).trans (sendIp6_sendsOnly ..)

theorem sendMld_sendsOnly (port : Nat) : SendsOnly s (s.sendMld port) := sendIp6_sendsOnly ..

theorem linkDad_sendsOnly : SendsOnly s s.linkDad := by
  unfold State.linkDad
  split
  · exact .refl s
  · exact sendDad_sendsOnly ..

theorem globalDad_sendsOnly : SendsOnly s s.globalDad := by
  unfold State.globalDad
  split
  · split
    · exact .refl s
    · exact sendDad_sendsOnly ..
  · exact .refl s

theorem ethLinkUp_sendsOnly (p : Nat) (h : s.islandRuns 2 = true) (hs : s.ve 0x8020 p 0x01 ≠ 2) :
    SendsOnly (s.pute 0x8020 p 0x02 1) (s.ethLink p true) := by
  have hup : ¬(true = true ∧ ((!(s.islandRuns 2)) = true ∨ s.ve 0x8020 p 0x01 = 2)) := by simp [h, hs]
  have he : s.ethLink p true = ((s.pute 0x8020 p 0x02 1).sendMld p).linkDad.globalDad := if_neg hup
  rw [he]
  exact (sendMld_sendsOnly ..).trans ((linkDad_sendsOnly _).trans (globalDad_sendsOnly _))

end

/-! ### Frames and links (R349, R350) -/

section
variable {s : State} {t p : Nat} {f : Bytes}

theorem runs_eth {c : Instr} {u : State} (hp : p < 2) (he : exec c s = guarded (ethOk p) u) : runs c s u :=
  he.trans (guarded_next.2 ⟨decide_eq_true hp, rfl⟩)

theorem relayFrame_keeps (s : State) (out : Nat) (stamp : Int) (f : Bytes) :
    Keeps ⟨[.net], [(0x80020B, 0x80020B), (0x80200A, 0x80200A)]⟩ s (s.relayFrame out stamp f) := by
  unfold State.relayFrame
  exact .ite (fun _ => .refl _ s) fun _ => .ite (fun _ => .step (.step (.refl _ s) (State.ince_keeps1 ..))
    (State.inc_keeps1 ..)) fun _ => Keeps.upd (.refl _ s) (hnt := .inl rfl)

/-- A frame is held for a port that is up and has room. -/
theorem relayFrame_queues {out : Nat} (hu : s.ethUp out = true) (hr : s.relayHeld out + f.length + 4 ≤ 65536)
    (stamp : Int) : (s.relayFrame out stamp f).net.queue.length = s.net.queue.length + 1 := by
  unfold State.relayFrame
  rw [if_neg (by simp [hu]), if_neg (by omega)]
  exact List.length_append

/-- A good frame is counted; what a PTP message that is ignored counts comes after. -/
theorem frameIn_counts (hi : s.islandRuns 2 = true) (hu : s.ethUp p = true) (h60 : 60 ≤ f.length)
    (h1518 : f.length ≤ 1518) : ∃ u, Keeps ⟨[], [(0x800209, 0x800209)]⟩ (s.ince 0x8020 p 0x08) u ∧
      s.frameIn p f true = if isPause f then s.ince 0x8020 p 0x08
        else if u.v 0x8000 0x0E = 0 ∧ field f 0 6 ≠ u.mac then u.relayFrame (1 - p) (u.rxStamp p u.now) f else u := by
  refine ⟨if (s.ince 0x8020 p 0x08).ptpIgnored f then (s.ince 0x8020 p 0x08).inc 0x8002 0x09 else s.ince 0x8020 p 0x08,
    .ite (fun _ => .step (.refl _ _) (State.inc_keeps1 ..)) fun _ => .refl _ _, ?_⟩
  unfold State.frameIn
  rw [if_neg (by simp [hi, hu]), if_neg (by omega), if_neg (by simp), if_neg (by omega)]

theorem ethFrameRx_good (hp : p < 2) (hi : s.islandRuns 2 = true) (hu : s.ethUp p = true) (h60 : 60 ≤ f.length)
    (h1518 : f.length ≤ 1518) :
    ∃ s', runs (.ethFrameRx t p f true) s s' ∧ counted s s' 0x8020 p 0x08 ∧
      (isPause f = false → s.v 0x8000 0x0E = 0 → field f 0 6 ≠ s.mac → s.ethUp (1 - p) = true →
        s.relayHeld (1 - p) + f.length + 4 ≤ 65536 → s'.net.queue.length = s.net.queue.length + 1) := by
  obtain ⟨u, hk, he⟩ := frameIn_counts (s := s.enter t) hi hu h60 h1518
  refine ⟨(s.enter t).frameIn p f true, runs_eth hp rfl, ?_, fun hpause hrelay hmac hother hroom => ?_⟩
  · have hin : Keeps ⟨[.net], [(0x800209, 0x800209), (0x80020B, 0x80020B), (0x80200A, 0x80200A)]⟩
        ((s.enter t).ince 0x8020 p 0x08) ((s.enter t).frameIn p f true) := by
      rw [he]
      have hu' : Keeps ⟨[.net], [(0x800209, 0x800209), (0x80020B, 0x80020B), (0x80200A, 0x80200A)]⟩
          ((s.enter t).ince 0x8020 p 0x08) u := hk.mono (by decide +kernel)
      exact .ite (fun _ => .refl _ _) fun _ => .ite (fun _ => .step hu' (relayFrame_keeps ..)) fun _ => hu'
    exact counted_between (State.enter_keeps s t) hin
  · have hall : Keeps ⟨[], [(0x800209, 0x800209), (0x802008, 0x802008)]⟩ (s.enter t) u :=
      .step (.step (.refl _ _) (State.ince_keeps1 ..)) hk
    have hnet : u.net = s.net := hall.net_eq
    rw [he, if_neg (by simp [hpause]), if_pos ⟨(hall.v_eq ..).trans hrelay, hmac⟩, relayFrame_queues, hnet]
    · exact (congrArg (· == 1) (hall.ve_eq ..)).trans hother
    · rw [State.relayHeld, hnet]
      exact hroom

theorem ethFrameRx_bad (hp : p < 2) (hi : s.islandRuns 2 = true) (hu : s.ethUp p = true) (h1518 : f.length ≤ 1518) :
    ∃ s', runs (.ethFrameRx t p f false) s s' ∧ counted s s' 0x8020 p 0x09 ∧ s'.net = s.net ∧ s'.out = [] := by
  have he : (s.enter t).frameIn p f false = (s.enter t).ince 0x8020 p 0x09 := by
    unfold State.frameIn
    rw [if_neg (by simp; exact ⟨hi, hu⟩), if_neg (by omega), if_pos Bool.not_false]
  refine ⟨(s.enter t).frameIn p f false, runs_eth hp rfl, ?_⟩
  rw [he]
  exact ⟨counted_between (State.enter_keeps s t) (.refl ⟨[], []⟩ _), (State.ince_keeps1 ..).net_eq,
    (State.ince_keeps1 ..).out_eq⟩

/-- The one frame that waits for a port is the next that it sends. -/
theorem sendOrder_singleton {x : Relayed} (hx : x.out = p) : (sendOrder p [x]).head? = some x := by
  unfold sendOrder
  rw [List.filter_cons_of_pos (by simp [hx])]
  cases hptp : x.ptp <;> cases hown : x.own <;> simp [hptp, hown]

/-- The state in which the one frame that waited has left. -/
def State.sentAll (s : State) : State := { s with net := { s.net with queue := [] } }

theorem erase_sent {x : Relayed} (hq : s.net.queue = [x]) :
    { s with net := { s.net with queue := s.net.queue.erase x } } = s.sentAll := by
  rw [hq, List.erase_cons_head]
  rfl

/-- An own frame that waited leaves. -/
theorem relayOut_own {x : Relayed} {o : Output} (hq : s.net.queue = [x]) (hx : x.out = p) (ho : x.own = some o) :
    s.relayOut p = s.sentAll.ownOut p o x.slot := by
  have hnext : (sendOrder p s.net.queue).head? = some x := by rw [hq, sendOrder_singleton hx]
  simp only [State.relayOut, hnext, erase_sent hq, ho]

/-- A relayed frame leaves as it came, unless it is a PTP event message. -/
theorem relayOut_plain {x : Relayed} (hq : s.net.queue = [x]) (hx : x.out = p) (ho : x.own = none)
    (ha : ptpAt x.frame = none) : s.relayOut p = s.sentAll.emit (.ethFrame p x.frame) := by
  have hnext : (sendOrder p s.net.queue).head? = some x := by rw [hq, sendOrder_singleton hx]
  simp only [State.relayOut, hnext, erase_sent hq, ho, ha]

/-- An event message leaves with its residence time, while the correction is on (R355). -/
theorem relayOut_event {x : Relayed} {o : Nat} (hq : s.net.queue = [x]) (hx : x.out = p) (ho : x.own = none)
    (ha : ptpAt x.frame = some o) (hb : s.b 0x8000 0x0D = true) (hg : ptpGood (ptpOf x.frame) = true)
    (ht : ptpType (ptpOf x.frame) ≤ 1) : s.relayOut p = (s.sentAll.emit (.ethFrame p (correctFrame x.frame o
      (psToUnits (s.txStamp p s.now - x.stamp) s.wallRate)))).inc 0x8002 0x0A := by
  have hnext : (sendOrder p s.net.queue).head? = some x := by rw [hq, sendOrder_singleton hx]
  simp only [State.relayOut, hnext, erase_sent hq, ho, ha]
  rw [if_pos ⟨hb, hg, ht⟩]

/-- An own frame goes out of its port, and the queue and the members stay as they are. -/
theorem ownOut_sends (s : State) (p : Nat) (o : Output) (slot : Option Nat) :
    (s.ownOut p o slot).net.queue = s.net.queue ∧ (s.ownOut p o slot).out = s.out ++ [o] ∧
      (s.ownOut p o slot).dict = s.dict := by
  unfold State.ownOut State.putSlot
  split
  · split <;> exact ⟨rfl, rfl, rfl⟩
  · exact ⟨rfl, rfl, rfl⟩

theorem relayFrameTx_event {x : Relayed} {o : Nat} (hp : p < 2) (hq : s.net.queue = [x]) (hx : x.out = p)
    (ho : x.own = none) (ha : ptpAt x.frame = some o) (hb : s.b 0x8000 0x0D = true)
    (hg : ptpGood (ptpOf x.frame) = true) (ht : ptpType (ptpOf x.frame) ≤ 1) :
    ∃ s', runs (.relayFrameTx t p) s s' ∧ s'.net.queue = [] ∧ counted s s' 0x8002 0 0x0A ∧
      s'.out = [.ethFrame p (correctFrame x.frame o
        (psToUnits (s.txStamp p (max s.now t) - x.stamp) s.wallRate))] := by
  refine ⟨_, runs_eth hp rfl, ?_⟩
  rw [relayOut_event (s := s.enter t) hq hx ho ha hb hg ht]
  have hk : Keeps ⟨[.now, .out, .net], []⟩ s ((s.enter t).sentAll.emit (.ethFrame p (correctFrame x.frame o
      (psToUnits ((s.enter t).txStamp p (s.enter t).now - x.stamp) (s.enter t).wallRate)))) :=
    .step (Keeps.upd ((State.enter_keeps s t).mono (by decide +kernel)) (hnt := .inl rfl)) (State.emit_keeps ..)
  exact ⟨congrArg Net.queue (State.inc_keeps1 ..).net_eq, counted_between hk (.refl ⟨[], []⟩ _),
    (State.inc_keeps1 ..).out_eq⟩

/-- A link shows what the command says, whatever it sends as it comes up. -/
theorem ethLinkChange_shown {up : Bool} (hp : p < 2) (h : up = true → s.islandRuns 2 = true ∧ s.ve 0x8020 p 0x01 ≠ 2) :
    ∃ s', runs (.ethLinkChange t p up) s s' ∧ s'.ve 0x8020 p 0x02 = if up then 1 else 0 := by
  refine ⟨_, runs_eth hp rfl, ?_⟩
  cases up with
  | true =>
    obtain ⟨hi, hs⟩ := h rfl
    exact ((ethLinkUp_sendsOnly (s.enter t) p hi hs).ve_eq ..).trans (ve_pute_self ..)
  | false => exact ve_pute_self ..

theorem dadDone_judged (s : State) (t : Nat) (dup : Bool) :
    ∃ s', runs (.dadDone t false dup) s s' ∧ s'.net.linkOk = !dup ∧
      (dup = true → s'.bit 0x8001 0x02 5 = true) ∧ s'.net.globalOk = s.net.globalOk := by
  refine ⟨_, rfl, ?_⟩
  cases dup with
  | true =>
    simp only [State.doDad, Bool.false_eq_true, if_false, if_true, Bool.not_true, Bool.false_and]
    exact ⟨rfl, fun _ => bit_putBit_self .., rfl⟩
  | false =>
    simp only [State.doDad, Bool.false_eq_true, if_false, Bool.not_false, Bool.true_or, Bool.and_self, List.foldl_cons,
      List.foldl_nil]
    have hs := (sendMld_sendsOnly { s.enter t with net := { s.net with linkOk := true } } 0).trans
      (sendMld_sendsOnly _ 1)
    exact ⟨hs.linkOk_eq, nofun, hs.globalOk_eq⟩

end

/-! ### Answers to what arrives (R352) -/

section
variable {s : State} {t p : Nat} {f : Bytes}

theorem sendIp6_sent (hu : s.ethUp p = true) (dst : Nat) (pkt : Bytes) :
    (s.sendIp6 p dst pkt).sentOwn p (.ethFrame p (s.ownHead dst 0x86DD ++ pkt)) := by
  unfold State.sendIp6
  rw [if_pos hu]
  exact sentOwn_sendOwn ..

/-- A solicitation for an own address, from a node that has one, is answered to that node. -/
theorem answerNs_own (hf : s.icmpFor f 135 = true) (ha : field f (frameBody f + 48) 16 ∈ s.ownAddrs)
    (h0 : ip6Src f ≠ 0) : s.answerNs p f = s.sendIp6 p (field f 6 6)
      (ip6Packet (field f (frameBody f + 48) 16) (ip6Src f) 58 255
        (icmp (field f (frameBody f + 48) 16) (ip6Src f) 136
          (beBytes 4 0x60000000 ++ beBytes 16 (field f (frameBody f + 48) 16) ++ [2#8, 1#8] ++
            beBytes 6 s.mac))) := by
  unfold State.answerNs
  simp only [hf, List.contains_iff_mem.2 ha, and_self, if_true, h0, decide_false, Bool.false_eq_true, if_false]

theorem neighborSolicitation_answered (hp : p < 2) (hf : s.icmpFor f 135 = true) (hu : s.ethUp p = true)
    (ha : field f (frameBody f + 48) 16 ∈ s.ownAddrs) (h0 : ip6Src f ≠ 0) :
    ∃ s', runs (.neighborSolicitation t p f) s s' ∧ s'.dict = s.dict ∧
      s'.sentOwn p (.ethFrame p (s.ownHead (field f 6 6) 0x86DD ++
        ip6Packet (field f (frameBody f + 48) 16) (ip6Src f) 58 255
          (icmp (field f (frameBody f + 48) 16) (ip6Src f) 136
            (beBytes 4 0x60000000 ++ beBytes 16 (field f (frameBody f + 48) 16) ++ [2#8, 1#8] ++
              beBytes 6 s.mac)))) := by
  refine ⟨_, runs_eth hp rfl, ?_⟩
  rw [answerNs_own (s := s.enter t) hf ha h0]
  have hmac : (s.enter t).mac = s.mac := rfl
  rw [hmac]
  exact ⟨(sendIp6_sendsOnly ..).dict_eq, sendIp6_sent (s := s.enter t) hu ..⟩

theorem echoRequest_answered (hp : p < 2) (hf : s.icmpFor f 128 = true) (hu : s.ethUp p = true)
    (ha : ip6Dst f ∈ s.ownAddrs) :
    ∃ s', runs (.echoRequest t p f) s s' ∧ s'.dict = s.dict ∧
      s'.sentOwn p (.ethFrame p (s.ownHead (field f 6 6) 0x86DD ++
        ip6Packet (ip6Dst f) (ip6Src f) 58 64 (icmp (ip6Dst f) (ip6Src f) 129
          (slice f (frameBody f + 44) (field f (frameBody f + 4) 2 - 4))))) := by
  have he : (s.enter t).answerEcho p f = (s.enter t).sendIp6 p (field f 6 6)
      (ip6Packet (ip6Dst f) (ip6Src f) 58 64 (icmp (ip6Dst f) (ip6Src f) 129
        (slice f (frameBody f + 44) (field f (frameBody f + 4) 2 - 4)))) :=
    if_pos ⟨hf, List.contains_iff_mem.2 ha⟩
  refine ⟨_, runs_eth hp rfl, ?_⟩
  rw [he]
  exact ⟨(sendIp6_sendsOnly ..).dict_eq, sendIp6_sent (s := s.enter t) hu ..⟩

end

/-- Settles O57: what goes out as an own frame leaves the members alone, and the one frame that waits for a port is
the next to leave it. -/
theorem framesAndAddresses : Obligations.FramesAndAddresses := by
  refine ⟨fun _ _ _ _ => ethFrameRx_good, fun _ _ _ _ => ethFrameRx_bad, fun s t p x hp hq hx ho ha => ?_,
    fun s t p x o hp hq hx ho => ?_, fun _ _ _ _ _ => relayFrameTx_event, fun _ _ _ _ => ethLinkChange_shown,
    dadDone_judged, fun _ _ _ _ => neighborSolicitation_answered, fun _ _ _ _ => echoRequest_answered⟩
  · exact ⟨_, runs_eth hp (congrArg (guarded _) (relayOut_plain (s := s.enter t) hq hx ho ha)), rfl, rfl, rfl⟩
  · exact ⟨_, runs_eth hp (congrArg (guarded _) (relayOut_own (s := s.enter t) hq hx ho)), ownOut_sends ..⟩

end Sys2Proof.Machine
end

section
set_option Elab.async false
namespace Sys2Proof.Machine

/-! ### What wall time leaves of the network (R359 to R361) -/

/-- Of the network, wall time changes at most what it keeps of itself: the slots and the frames stay. -/
def SameSlots (s u : State) : Prop := u.net.slot0 = s.net.slot0 ∧ u.net.slot1 = s.net.slot1

namespace SameSlots

variable {s u w : State}

theorem refl (s : State) : SameSlots s s := ⟨rfl, rfl⟩

theorem trans (h : SameSlots s u) (g : SameSlots u w) : SameSlots s w := ⟨g.1.trans h.1, g.2.trans h.2⟩

theorem ofKeeps {F : Foot} (h : Keeps F s u) (hf : F.parts.contains .net = false := by rfl) : SameSlots s u := by
  rw [SameSlots, h.net_eq hf]
  exact ⟨rfl, rfl⟩

theorem slot_eq (h : SameSlots s u) (i : Nat) : u.slot i = s.slot i := by
  rw [State.slot, h.1, h.2]
  rfl

end SameSlots

section
variable (s : State)

/-- A change of wall time's state notes at most when holdover began. -/
theorem setWall_net (v : Nat) : (s.setWall v).net = { s.net with holdSince := (s.setWall v).net.holdSince } := by
  have hput : ∀ (u : State) (o m x : Nat), (u.put o m x).net = u.net := fun _ _ _ _ => rfl
  have hinc : ∀ (u : State) (o m : Nat), (u.inc o m).net = u.net := fun u o m => (State.inc_keeps1 u o m).net_eq
  have hev : ∀ (u : State) (o m : Nat), (u.event o 0 m 0).net = u.net := fun u o m =>
    (State.event_keeps u o 0 m 0).net_eq
  unfold State.setWall
  dsimp only
  split
  · rfl
  · rw [hput, hev]
    split
    · rw [hinc, hput]
    · split
      · rw [hinc, hput]
      · split
        · rw [hinc]
          rfl
        · rfl

theorem setWall_sameSlots (v : Nat) : SameSlots s (s.setWall v) := by
  rw [SameSlots, setWall_net]
  exact ⟨rfl, rfl⟩

/-- Wall time that takes a slot as its source keeps the residual, and no step is pending. -/
theorem useSlot_net (i : Nat) (r : Int) : (s.useSlot i r).net =
    { s.net with resid := r, residAt := s.now, stepTo := none, holdSince := (s.useSlot i r).net.holdSince } := by
  unfold State.useSlot
  rw [setWall_net]
  rfl

theorem useSlot_sameSlots (i : Nat) (r : Int) : SameSlots s (s.useSlot i r) := by
  rw [SameSlots, useSlot_net]
  exact ⟨rfl, rfl⟩

theorem holdover_sameSlots : SameSlots s s.holdover := by
  unfold State.holdover
  rw [SameSlots, setWall_net]
  exact ⟨rfl, rfl⟩

theorem stepWall_sameSlots (i : Nat) : SameSlots s (s.stepWall i) := by
  have hcount : SameSlots s ((s.inc 0x8002 0x04).putBit 0x8001 0x02 2 true) :=
    (SameSlots.ofKeeps (State.inc_keeps1 s 0x8002 0x04)).trans (.ofKeeps (State.pute_keeps1 ..))
  exact hcount.trans (useSlot_sameSlots ..)

/-- A step to a slot comes to pend. -/
def State.stepPends (s : State) (i : Nat) : State :=
  if s.net.stepTo.isSome then { s with net := { s.net with stepTo := some i } }
  else (({ s with net := { s.net with stepTo := some i } } : State).putBit 0x8001 0x02 1 true).event 0x8001 0 0x02 0

theorem stepPends_sameSlots (i : Nat) : SameSlots s (s.stepPends i) := by
  unfold State.stepPends
  split
  · exact ⟨rfl, rfl⟩
  · rw [SameSlots, (State.event_keeps ..).net_eq]
    exact ⟨rfl, rfl⟩

/-- A source that no longer tracks is given up. -/
def State.sourceJudged (s : State) : State :=
  if (s.v 0x8001 0x01 = 2 ∧ !(s.tracks 0)) ∨ (s.v 0x8001 0x01 = 3 ∧ !(s.tracks 1)) then s.holdover else s

theorem sourceJudged_sameSlots : SameSlots s s.sourceJudged := by
  unfold State.sourceJudged
  split
  · exact holdover_sameSlots s
  · exact .refl s

theorem switchWall_sameSlots (i : Nat) : SameSlots s (s.switchWall i) := by
  have he : s.switchWall i = if (s.wall - (s.slot i).time s.now).natAbs ≤ 65536 * s.v 0x8000 0x08 then
      s.useSlot i (s.wall - (s.slot i).time s.now)
    else if s.v 0x5001 0x03 = 0 then s.stepWall i else (s.stepPends i).sourceJudged := rfl
  rw [he]
  split
  · exact useSlot_sameSlots ..
  · split
    · exact stepWall_sameSlots ..
    · exact (stepPends_sameSlots ..).trans (sourceJudged_sameSlots _)

theorem judgeWall_sameSlots : SameSlots s s.judgeWall := by
  unfold State.judgeWall
  dsimp only
  split
  · split
    · exact useSlot_sameSlots ..
    · exact .refl s
  · split
    · exact .refl s
    · split
      · exact switchWall_sameSlots ..
      · exact holdover_sameSlots s
  · split
    · split
      · exact switchWall_sameSlots ..
      · exact holdover_sameSlots s
    · split
      · exact switchWall_sameSlots ..
      · exact .refl s
  · split
    · exact switchWall_sameSlots ..
    · exact .refl s

end

/-! ### Slots -/

section
variable {F : Foot} {s u : State} {i : Nat}

theorem slot_putSlot_self (s : State) (i : Nat) (x : Slot) : (s.putSlot i x).slot i = x := by
  unfold State.putSlot State.slot
  split <;> rfl

theorem slotFor_lt {dom : Nat} (h : s.slotFor dom = some i) : i < 2 := by
  unfold State.slotFor at h
  grind

theorem ptpFor_some {f m : Bytes} {ty : Nat} (h : s.ptpFor f ty = some (i, m)) : i < 2 := by
  unfold State.ptpFor at h
  dsimp only at h
  split at h
  · obtain ⟨j, hj, he⟩ := Option.map_eq_some_iff.1 h
    exact (Prod.mk.inj he).1 ▸ slotFor_lt hj
  · exact nomatch h

theorem Keeps.domainOf_eq (h : Keeps F s u) (hi : i < 2) (h1 : F.free (mkey 0x8000 0 0x01) = true := by decide +kernel)
    (h2 : F.free (mkey 0x8000 0 0x02) = true := by decide +kernel) : u.domainOf i = s.domainOf i := by
  obtain rfl | rfl : i = 0 ∨ i = 1 := by omega
  · exact h.v_eq 0x8000 0x01 h1
  · exact h.v_eq 0x8000 0x02 h2

theorem Keeps.slotState_eq (h : Keeps F s u) (hi : i < 2) (h1 : F.free (mkey 0x8000 0 0x01) = true := by decide +kernel)
    (h2 : F.free (mkey 0x8000 0 0x02) = true := by decide +kernel)
    (h3 : F.free (mkey 0x8010 0 0x01) = true := by decide +kernel) : u.slotState i = s.slotState i := by
  rw [State.slotState, h.domainOf_eq hi h1 h2, h.ve_eq 0x8010 i 0x01 h3]
  rfl

/-- A slot with a domain is in the state that it is put in. -/
theorem slotState_putSlotState {v : Nat} (hi : i < 2) (hs : s.slotState i ≠ 0) (hv : 1 ≤ v) :
    (s.putSlotState i v).slotState i = v := by
  have hd : s.domainOf i ≠ 255 := fun h => hs (if_pos h)
  rw [State.slotState, (State.putSlotState_keeps s i v).domainOf_eq hi, if_neg hd, State.putSlotState, ve_pute_self]
  omega

end

/-! ### SYNC and FOLLOW_UP (R357) -/

/-- A slot at the beginning of an acquisition: it keeps its masters, its estimate and its rate. -/
def Slot.acquiring (x : Slot) : Slot :=
  { x with
    started := false
    good := 0
    outliers := 0
    delays := []
    exchanges := 0
    sync := none
    dreq := none
    lastT := none }

/-- A slot that listens or has failed begins to acquire. -/
def State.slotAcquires (s : State) (i : Nat) : State :=
  if s.slotState i = 1 ∨ s.slotState i = 4 then
    ((s.putSlot i (s.slot i).acquiring).putSlotState i 2).pute 0x8010 i 0x06 0
  else s

section
variable {s : State} {t p i : Nat} {f m : Bytes}

theorem slotAcquires_keeps (s : State) (i : Nat) :
    Keeps ⟨[.net], [(0x801001, 0x801001), (0x801006, 0x801006)]⟩ s (s.slotAcquires i) :=
  .ite (fun _ => .step (.step (.step (.refl _ s) (State.putSlot_keeps ..)) (State.putSlotState_keeps ..))
    (State.pute_keeps1 ..)) fun _ => .refl _ s

theorem slotAcquires_state (hi : i < 2) (h : s.slotState i = 1 ∨ s.slotState i = 4) :
    (s.slotAcquires i).slotState i = 2 := by
  have hne : (s.putSlot i (s.slot i).acquiring).slotState i ≠ 0 := by
    rw [(State.putSlot_keeps ..).slotState_eq hi]
    omega
  unfold State.slotAcquires
  rw [if_pos h, (State.pute_keeps1 ..).slotState_eq hi, slotState_putSlotState hi hne (by decide)]

theorem sync_kept (hp : p < 2) (hf : s.ptpFor f 0 = some (i, m)) (hm : s.fromMaster i p m = true)
    (hc : s.classOk i = true) (h2 : ptpTwoStep m = true) :
    ∃ s', runs (.sync t p f) s s' ∧ (s'.slot i).sync = some (ptpSeq m, s.rxStamp p (max s.now t), ptpCorr m) ∧
      s'.ve 0x8010 i 0x08 = ptpInterval m ∧ ((s.slotState i = 1 ∨ s.slotState i = 4) → s'.slotState i = 2) := by
  have hi := ptpFor_some hf
  have he : (s.enter t).doSync p f =
      (((s.enter t).pute 0x8010 i 0x08 (ptpInterval m)).slotAcquires i).putSlot i
        { (((s.enter t).pute 0x8010 i 0x08 (ptpInterval m)).slotAcquires i).slot i with
          sync := some (ptpSeq m, s.rxStamp p (max s.now t), ptpCorr m) } := by
    have hf' : (s.enter t).ptpFor f 0 = some (i, m) := hf
    have hgo : ¬((!((s.enter t).fromMaster i p m)) = true ∨ (!((s.enter t).classOk i)) = true) := by
      have hm' : (s.enter t).fromMaster i p m = true := hm
      have hc' : (s.enter t).classOk i = true := hc
      simp [hm', hc']
    unfold State.doSync
    rw [hf']
    dsimp only
    rw [if_neg hgo, if_pos h2]
    rfl
  refine ⟨_, runs_eth hp rfl, ?_⟩
  rw [he]
  refine ⟨by rw [slot_putSlot_self], ?_, fun h => ?_⟩
  · exact ((State.putSlot_keeps ..).ve_eq ..).trans (((slotAcquires_keeps ..).ve_eq ..).trans (ve_pute_self ..))
  · rw [(State.putSlot_keeps ..).slotState_eq hi]
    refine slotAcquires_state hi ?_
    rwa [(State.pute_keeps1 ..).slotState_eq hi]

/-- The first Sync of an acquisition sets the estimate. -/
theorem measure_first (h : (s.slot i).started = false) (t1 corr t2 : Int) : s.measure i p t1 corr t2 =
    s.putSlot i { s.slot i with
      started := true
      base := t1 + corr + (s.slot i).mpd + s.asym p + psToUnits (200 * s.now - t2) (s.slot i).yd
      baseAt := s.now
      rate := (s.slot i).yd
      good := 1
      lastSync := s.now
      lastT := some (t1, t1 + corr + (s.slot i).mpd + s.asym p, corr) } := by
  unfold State.measure
  dsimp only
  rw [if_pos (by rw [h]; rfl)]

/-- Sixteen good measurements are asked for. -/
theorem judgeTracking_of_good_lt (h : (s.slot i).good < 16) : s.judgeTracking i = s := by
  unfold State.judgeTracking
  dsimp only
  rw [if_neg fun hc => absurd hc.2.1 (by omega)]

theorem followUp_begins {t2 c : Int} (hp : p < 2) (hf : s.ptpFor f 8 = some (i, m)) (hm : s.fromMaster i p m = true)
    (hs : (s.slot i).sync = some (ptpSeq m, t2, c)) (hn : (s.slot i).started = false) :
    ∃ s', runs (.followUp t p f) s s' ∧ (s'.slot i).sync = none ∧ (s'.slot i).started = true ∧
      (s'.slot i).good = 1 ∧ (s'.slot i).lastSync = max s.now t ∧
      (s'.slot i).lastT = some (ptpStamp m 34,
        ptpStamp m 34 + (c + ptpCorr m) + (s.slot i).mpd + s.asym p, c + ptpCorr m) := by
  have he : (s.enter t).doFollowUp p f = (((s.enter t).putSlot i { s.slot i with sync := none }).measure i p
      (ptpStamp m 34) (c + ptpCorr m) t2).judgeTracking i := by
    have hf' : (s.enter t).ptpFor f 8 = some (i, m) := hf
    have hs' : ((s.enter t).slot i).sync = some (ptpSeq m, t2, c) := hs
    have hm' : (s.enter t).fromMaster i p m = true := hm
    unfold State.doFollowUp
    rw [hf']
    dsimp only
    rw [hs']
    dsimp only
    rw [if_neg (by simp [hm'])]
    rfl
  refine ⟨_, runs_eth hp rfl, ?_⟩
  rw [he]
  have hslot := slot_putSlot_self (s.enter t) i { s.slot i with sync := none }
  have hasym : ((s.enter t).putSlot i { s.slot i with sync := none }).asym p = s.asym p :=
    congrArg (fun v => toS 32 v * 65536 / 1000) ((State.putSlot_keeps (s.enter t) i _).ve_eq 0x8020 p 0x07)
  have hnow := (State.putSlot_keeps (s.enter t) i { s.slot i with sync := none }).now_eq
  generalize (s.enter t).putSlot i { s.slot i with sync := none } = u at hslot hasym hnow ⊢
  have hstart : (u.slot i).started = false := by rw [hslot]; exact hn
  rw [measure_first hstart, judgeTracking_of_good_lt (by simp only [slot_putSlot_self]; decide)]
  simp only [slot_putSlot_self, hasym, hnow, hslot, State.enter_now]
  exact ⟨trivial, trivial, trivial, trivial, rfl⟩

/-! ### DELAY_RESP (R357) -/

/-- A slot that begins to track notes since when, and has no outliers. -/
theorem judgeTracking_slot (s : State) (i : Nat) : ∃ since out, (s.judgeTracking i).slot i =
    { s.slot i with trackSince := since, outliers := out } := by
  unfold State.judgeTracking
  dsimp only
  split
  · refine ⟨s.now, 0, ?_⟩
    rw [(judgeWall_sameSlots _).slot_eq, (SameSlots.ofKeeps (State.putSlotState_keeps ..)).slot_eq, slot_putSlot_self]
  · exact ⟨_, _, rfl⟩

/-- A delay exchange that has found the delay `d`. -/
def Slot.exchanged (x : Slot) (d : Int) : Slot :=
  { x with delays := (d :: x.delays).take 16, exchanges := x.exchanges + 1, dreq := none }

theorem doDelayResp_answered {t3 t1 t2 c d : Int} (hf : s.ptpFor f 9 = some (i, m)) (hm : s.fromMaster i p m = true)
    (hreq : (s.slot i).dreq = some (ptpSeq m, t3)) (hl : (s.slot i).lastT = some (t1, t2, c))
    (ho : field m 44 10 = s.ownPort) (hs : (s.slot i).started = true)
    (hd : (t2 - t1 - c - s.asym p + (ptpStamp m 34 - (s.slot i).timePs t3 - ptpCorr m)) / 2 = d) :
    ∃ v, s.doDelayResp p f = ((s.putSlot i ((s.slot i).exchanged d)).pute 0x8010 i 0x06 v).judgeTracking i := by
  unfold State.doDelayResp
  rw [hf]
  dsimp only
  rw [hreq, hl]
  dsimp only
  rw [if_neg (by simp [hm, ← ho, hs]), hd]
  refine ⟨ofS 64 ((s.putSlot i ((s.slot i).exchanged d)).slot i).mpd, ?_⟩
  rw [Slot.exchanged, hl]

theorem delayResp_exchanges {t3 t1 t2 c : Int} (hp : p < 2) (hf : s.ptpFor f 9 = some (i, m))
    (hm : s.fromMaster i p m = true) (hd : (s.slot i).dreq = some (ptpSeq m, t3))
    (hl : (s.slot i).lastT = some (t1, t2, c)) (ho : field m 44 10 = s.ownPort) (hs : (s.slot i).started = true) :
    ∃ s', runs (.delayResp t p f) s s' ∧ (s'.slot i).exchanges = (s.slot i).exchanges + 1 ∧
      (s'.slot i).dreq = none ∧
      (s'.slot i).delays = ((t2 - t1 - c - s.asym p +
        (ptpStamp m 34 - (s.slot i).timePs t3 - ptpCorr m)) / 2 :: (s.slot i).delays).take 16 := by
  obtain ⟨v, he⟩ := doDelayResp_answered (s := s.enter t) hf hm hd hl ho hs rfl
  refine ⟨_, runs_eth hp rfl, ?_⟩
  obtain ⟨since, out, hslot⟩ := judgeTracking_slot (((s.enter t).putSlot i (((s.enter t).slot i).exchanged
    ((t2 - t1 - c - (s.enter t).asym p + (ptpStamp m 34 - ((s.enter t).slot i).timePs t3 - ptpCorr m)) / 2))).pute
      0x8010 i 0x06 v) i
  rw [he, hslot, (SameSlots.ofKeeps (State.pute_keeps1 ..)).slot_eq, slot_putSlot_self]
  exact ⟨rfl, rfl, rfl⟩

end

/-! ### Announce messages (R356) -/

section
variable {s : State} {t p i id : Nat} {f m : Bytes}

/-- A slot that fails keeps the masters that it has heard. -/
theorem markFailed_foreign (s : State) (i : Nat) : ((s.markFailed i).slot i).foreign = (s.slot i).foreign := by
  unfold State.markFailed
  split
  · rfl
  · dsimp only
    rw [(SameSlots.ofKeeps (State.inc_keeps1 ..)).slot_eq, (SameSlots.ofKeeps (State.putSlotState_keeps ..)).slot_eq,
      slot_putSlot_self]

theorem failSlot_foreign (s : State) (i : Nat) : ((s.failSlot i).slot i).foreign = (s.slot i).foreign := by
  unfold State.failSlot
  split
  · rfl
  · rw [(judgeWall_sameSlots _).slot_eq, markFailed_foreign]

/-- A slot with a domain that fails shows it. -/
theorem failSlot_state (hi : i < 2) (h : s.slotState i ≠ 0) : (s.failSlot i).slotState i = 4 := by
  unfold State.failSlot
  split
  next h4 => omega
  next h4 =>
    rw [(State.judgeWall_keeps _).slotState_eq hi]
    unfold State.markFailed
    rw [if_neg h4]
    dsimp only
    rw [(State.inc_keeps1 ..).slotState_eq hi, slotState_putSlotState hi _ (by decide)]
    rwa [(State.putSlot_keeps ..).slotState_eq hi]

/-- The members of a slot show its best master. -/
def State.masterShown (s : State) (i : Nat) (best : Option Foreign) : State :=
  match best with
  | none => ((((s.pute 0x8010 i 0x02 0).pute 0x8010 i 0x03 255).putBlob 0x8010 i 0x04 []).pute
      0x8010 i 0x09 255).pute 0x8010 i 0x0A 0
  | some x => ((((s.pute 0x8010 i 0x02 (x.dataset.getD 5 0)).pute 0x8010 i 0x03
      (x.dataset.getD 1 0)).putBlob 0x8010 i 0x04 (beBytes 10 x.identity)).pute 0x8010 i 0x09
      x.port).pute 0x8010 i 0x0A (x.dataset.getD 6 0)

theorem masterShown_keeps (s : State) (i : Nat) (best : Option Foreign) :
    Keeps ⟨[.blobs], [(0x801002, 0x801003), (0x801009, 0x80100A)]⟩ s (s.masterShown i best) := by
  unfold State.masterShown
  split <;> exact .step (.step (.step (.step (.step (.refl _ s) (State.pute_keeps1 ..)) (State.pute_keeps1 ..))
    (State.putBlob_keeps ..)) (State.pute_keeps1 ..)) (State.pute_keeps1 ..)

/-- The slot has selected a master, which its members show. -/
def State.masterTaken (s : State) (i : Nat) (best : Option Foreign) : State :=
  (s.masterShown i best).putSlot i { s.slot i with selected := best.map fun x => (x.identity, x.port) }

theorem masterTaken_slotState (hi : i < 2) (best : Option Foreign) :
    (s.masterTaken i best).slotState i = s.slotState i :=
  ((State.putSlot_keeps ..).slotState_eq hi).trans ((masterShown_keeps ..).slotState_eq hi)

/-- A slot that loses its master, or whose master's class is too high, fails as it takes the new one. -/
theorem selectMaster_cases (s : State) (i : Nat) : ∃ best, s.selectMaster i = s.masterTaken i best ∨
    s.selectMaster i = (s.masterTaken i best).failSlot i := by
  have he : ∃ lost : Bool, s.selectMaster i =
      if lost then (s.masterTaken i (bestForeign (s.slot i).foreign s.now)).failSlot i
      else s.masterTaken i (bestForeign (s.slot i).foreign s.now) := ⟨_, rfl⟩
  obtain ⟨lost, h⟩ := he
  refine ⟨bestForeign (s.slot i).foreign s.now, ?_⟩
  rw [h]
  cases lost with
  | true => exact .inr rfl
  | false => exact .inl rfl

theorem selectMaster_foreign (s : State) (i : Nat) : ((s.selectMaster i).slot i).foreign = (s.slot i).foreign := by
  have htaken (best : Option Foreign) : ((s.masterTaken i best).slot i).foreign = (s.slot i).foreign := by
    rw [State.masterTaken, slot_putSlot_self]
  obtain ⟨best, h | h⟩ := selectMaster_cases s i
  · rw [h, htaken]
  · rw [h, failSlot_foreign, htaken]

/-- A slot that has failed has still failed with its next master. -/
theorem selectMaster_failed (hi : i < 2) (h : s.slotState i = 4) : (s.selectMaster i).slotState i = 4 := by
  obtain ⟨best, hb | hb⟩ := selectMaster_cases s i
  · rw [hb, masterTaken_slotState hi, h]
  · rw [hb, failSlot_state hi]
    rw [masterTaken_slotState hi, h]
    decide

theorem announce_heard (hp : p < 2) (hf : s.ptpFor f 11 = some (i, m)) :
    ∃ s', runs (.announce t p f) s s' ∧ ∃ x ∈ (s'.slot i).foreign.head?, x.identity = ptpSource m ∧ x.port = p ∧
      x.dataset = announceData m := by
  have hf' : (s.enter t).ptpFor f 11 = some (i, m) := hf
  refine ⟨_, runs_eth hp rfl, ?_⟩
  unfold State.doAnnounce
  rw [hf']
  dsimp only
  rw [selectMaster_foreign, slot_putSlot_self]
  exact ⟨_, rfl, rfl, rfl, rfl⟩

theorem announceTimeout_fails (hi : i < 2) (hs : (s.slot i).selected = some (id, p)) :
    ∃ s', runs (.announceTimeout t i) s s' ∧
      (s'.slot i).foreign = (s.slot i).foreign.filter (fun y => !(y.identity == id && y.port == p)) ∧
      (s.slotState i ≠ 0 → s'.slotState i = 4) := by
  have hs' : ((s.enter t).slot i).selected = some (id, p) := hs
  refine ⟨(s.enter t).announceLost i, runs_eth hi rfl, ?_⟩
  unfold State.announceLost
  dsimp only
  rw [hs']
  dsimp only
  refine ⟨?_, fun h0 => selectMaster_failed hi (failSlot_state hi ?_)⟩
  · rw [selectMaster_foreign, failSlot_foreign, slot_putSlot_self]
    rfl
  · rwa [(State.putSlot_keeps ..).slotState_eq hi]

end

/-- A Delay_Req has been sent at a stamp. -/
def Slot.asked (x : Slot) (stamp : Int) : Slot :=
  { x with dreq := some (x.dseq, stamp), dseq := (x.dseq + 1) % 65536 }

/-! ### Delay requests and the timers of wall time (R353, R359, R360) -/

section
variable {s : State} {t p i id : Nat}

theorem delayReqSend_sends (hi : i < 2) (hs : (s.slot i).selected = some (id, p)) (hn : s.islandRuns 2 = true)
    (ha : s.slotState i = 2 ∨ s.slotState i = 3) (hu : s.ethUp p = true) :
    ∃ s', runs (.delayReqSend t i) s s' ∧ counted s s' 0x8002 0 0x08 ∧
      (s'.slot i).dreq = some ((s.slot i).dseq, s.txStamp p (max s.now t)) ∧
      (s'.slot i).dseq = ((s.slot i).dseq + 1) % 65536 ∧
      s'.sentOwn p (.ethFrame p (s.ptpFrame (s.delayReq i p (s.slot i).dseq))) := by
  have hgo : (s.enter t).islandRuns 2 = true ∧ ((s.enter t).slotState i = 2 ∨ (s.enter t).slotState i = 3) ∧
      (s.enter t).ethUp p = true := ⟨hn, ha, hu⟩
  have hs' : ((s.enter t).slot i).selected = some (id, p) := hs
  refine ⟨(s.enter t).doDelayReq i, runs_eth hi rfl, ?_⟩
  have he : (s.enter t).doDelayReq i = (((s.enter t).putSlot i ((s.slot i).asked (s.txStamp p (max s.now t)))).sendOwn p
      (.ethFrame p (s.ptpFrame (s.delayReq i p (s.slot i).dseq))) (some i)).inc 0x8002 0x08 := by
    unfold State.doDelayReq
    dsimp only
    rw [hs']
    dsimp only
    rw [if_pos hgo, ← hs']
    rfl
  rw [he]
  have hk : Keeps ⟨[.now, .out, .net], []⟩ s ((s.enter t).putSlot i ((s.slot i).asked (s.txStamp p (max s.now t)))) :=
    .step ((State.enter_keeps s t).mono (by decide +kernel)) (State.putSlot_keeps ..)
  refine ⟨counted_between (hk.step (State.sendOwn_keeps ..)) (.refl ⟨[], []⟩ _), ?_, ?_, ?_⟩
  · rw [(SameSlots.ofKeeps (State.inc_keeps1 ..)).slot_eq, (sendOwn_sendsOnly ..).slot_eq, slot_putSlot_self]
    rfl
  · rw [(SameSlots.ofKeeps (State.inc_keeps1 ..)).slot_eq, (sendOwn_sendsOnly ..).slot_eq, slot_putSlot_self]
    rfl
  · exact (sentOwn_sendOwn ..).mono (.ofKeeps (State.inc_keeps1 ..)) (congrArg Net.queue (State.inc_keeps1 ..).net_eq)

/-- From backup to the primary: the change is counted. -/
theorem setWall_primary (h : s.v 0x8001 0x01 = 3) : s.setWall 2 =
    (((s.put 0x8001 0x01 2).inc 0x8002 0x02).event 0x8001 0 0x01 0).put 0x8001 0x06
      ((s.put 0x8001 0x01 2).inc 0x8002 0x02).wallTime := by
  unfold State.setWall
  simp [h]

/-- Wall time that goes from the backup to the primary shows it, and counts it. -/
theorem useSlot_primary (h : s.v 0x8001 0x01 = 3) (r : Int) :
    (s.useSlot 0 r).v 0x8001 0x01 = 2 ∧ counted s (s.useSlot 0 r) 0x8002 0 0x02 := by
  have hk : Keeps ⟨[.net], [(0x800102, 0x800102)]⟩ s (((State.putBit { s with net :=
      { s.net with resid := r, residAt := s.now, stepTo := none } } 0x8001 0x02 0
        (decide (r ≠ 0))).putBit 0x8001 0x02 1 false).putBit 0x8001 0x02 4 true) :=
    .step (.step (.step (Keeps.upd (.refl _ s) (hnt := .inl rfl)) (State.pute_keeps1 ..)) (State.pute_keeps1 ..))
      (State.pute_keeps1 ..)
  unfold State.useSlot
  dsimp only
  generalize State.putBit (State.putBit (State.putBit _ _ _ _ _) _ _ _ _) _ _ _ _ = w at hk ⊢
  rw [if_pos rfl, setWall_primary ((hk.v_eq ..).trans h)]
  constructor
  · exact ((State.pute_keeps1 ..).v_eq ..).trans (((State.event_keeps ..).v_eq ..).trans
      (((State.inc_keeps1 ..).v_eq ..).trans (v_put_self ..)))
  · have hput : Keeps ⟨[.net], [(0x800101, 0x800102)]⟩ s (w.put 0x8001 0x01 2) :=
      .step (hk.mono (by decide +kernel)) (State.pute_keeps1 ..)
    have hend : Keeps ⟨[.out, .clock, .mgmt], [(0x101107, 0x101107), (0x103003, 0x103003), (0x800106, 0x800106)]⟩
        ((w.put 0x8001 0x01 2).inc 0x8002 0x02) ((((w.put 0x8001 0x01 2).inc 0x8002 0x02).event 0x8001 0 0x01 0).put
          0x8001 0x06 ((w.put 0x8001 0x01 2).inc 0x8002 0x02).wallTime) :=
      .step (.step (.refl _ _) (State.event_keeps ..)) (State.pute_keeps1 ..)
    exact counted_between hput hend

/-- Wall time that begins to run freely shows it. -/
theorem setWall_freeRun (h : s.v 0x8001 0x01 = 0) : (s.setWall 1).v 0x8001 0x01 = 1 := by
  have he : s.setWall 1 =
      ((s.put 0x8001 0x01 1).event 0x8001 0 0x01 0).put 0x8001 0x06 (s.put 0x8001 0x01 1).wallTime := by
    unfold State.setWall
    simp [h]
  rw [he]
  exact ((State.pute_keeps1 ..).v_eq ..).trans (((State.event_keeps ..).v_eq ..).trans (v_put_self ..))

theorem revertTimer_reverts (h3 : s.v 0x8001 0x01 = 3) (ht : s.tracks 0 = true) (hd : s.v 0x8000 0x07 ≠ 0)
    (hn : s.net.slot0.trackSince + s.v 0x8000 0x07 * secCycles ≤ max s.now t)
    (hr : ((s.enter t).wall - (s.slot 0).time (max s.now t)).natAbs ≤ 65536 * s.v 0x8000 0x08) :
    ∃ s', runs (.revertTimer t) s s' ∧ s'.v 0x8001 0x01 = 2 ∧ counted s s' 0x8002 0 0x02 ∧
      s'.net.resid = (s.enter t).wall - (s.slot 0).time (max s.now t) ∧ s'.net.stepTo = none := by
  have hgo : (s.enter t).v 0x8001 0x01 = 3 ∧ (s.enter t).tracks 0 = true ∧ (s.enter t).v 0x8000 0x07 ≠ 0 ∧
      (s.enter t).net.slot0.trackSince + (s.enter t).v 0x8000 0x07 * secCycles ≤ (s.enter t).now := ⟨h3, ht, hd, hn⟩
  have hrun : runs (.revertTimer t) s ((s.enter t).useSlot 0 ((s.enter t).wall - (s.slot 0).time (max s.now t))) := by
    refine congrArg Host.Outcome.next ?_
    rw [if_pos hgo]
    exact if_pos hr
  obtain ⟨hv, hc⟩ := useSlot_primary (s := s.enter t) h3 ((s.enter t).wall - (s.slot 0).time (max s.now t))
  exact ⟨_, hrun, hv, hc, by rw [useSlot_net], by rw [useSlot_net]⟩

theorem freeRunTimer_runs (h0 : s.v 0x8001 0x01 = 0) (hd : s.v 0x8000 0x09 ≠ 0) (ht0 : s.tracks 0 = false)
    (ht1 : s.tracks 1 = false) (hn : s.clock.t0 + s.v 0x8000 0x09 * secCycles ≤ max s.now t) :
    ∃ s', runs (.freeRunTimer t) s s' ∧ s'.v 0x8001 0x01 = 1 ∧ s'.net.wallBase = 0 ∧
      s'.net.wallAt = max s.now t ∧ s'.net.wallRate = 0 ∧ s'.net.resid = 0 := by
  have hgo : (s.enter t).v 0x8001 0x01 = 0 ∧ (s.enter t).v 0x8000 0x09 ≠ 0 ∧ (!((s.enter t).tracks 0)) = true ∧
      (!((s.enter t).tracks 1)) = true ∧ (s.enter t).clock.t0 + (s.enter t).v 0x8000 0x09 * secCycles ≤ (s.enter t).now := by
    refine ⟨h0, hd, ?_, ?_, hn⟩
    · exact congrArg (! ·) ht0
    · exact congrArg (! ·) ht1
  refine ⟨_, congrArg Host.Outcome.next (if_pos hgo), ?_, ?_⟩
  · exact setWall_freeRun h0
  · rw [setWall_net]
    exact ⟨rfl, rfl, rfl, rfl⟩

theorem holdoverNotice_notes (h4 : s.v 0x8001 0x01 = 4) (hd : s.v 0x8000 0x13 ≠ 0)
    (hn : s.net.holdSince + s.v 0x8000 0x13 * secCycles ≤ max s.now t) :
    ∃ s', runs (.holdoverNotice t) s s' ∧ s'.bit 0x8001 0x02 3 = true ∧ s'.net = s.net := by
  have hgo : (s.enter t).v 0x8001 0x01 = 4 ∧ (s.enter t).v 0x8000 0x13 ≠ 0 ∧
      (s.enter t).net.holdSince + (s.enter t).v 0x8000 0x13 * secCycles ≤ (s.enter t).now := ⟨h4, hd, hn⟩
  refine ⟨_, congrArg Host.Outcome.next (if_pos hgo), ?_, (State.event_keeps ..).net_eq⟩
  exact (congrArg (Nat.testBit · 3) ((State.event_keeps ..).v_eq 0x8001 0x02)).trans (bit_putBit_self ..)

theorem slewDone_ends (hv : s.v 0x8001 0x01 = 2 ∨ s.v 0x8001 0x01 = 3) (hr : s.residualAt (max s.now t) = 0) :
    ∃ s', runs (.slewDone t) s s' ∧ s'.bit 0x8001 0x02 0 = false ∧ s'.net.resid = 0 ∧
      s'.net.residAt = max s.now t := by
  have hgo : ((s.enter t).v 0x8001 0x01 = 2 ∨ (s.enter t).v 0x8001 0x01 = 3) ∧
      (s.enter t).residualAt (s.enter t).now = 0 := ⟨hv, hr⟩
  exact ⟨_, congrArg Host.Outcome.next (if_pos hgo), bit_putBit_self .., rfl, rfl⟩

end

/-- Settles O58: what a message sets in its slot stays through the judgement of wall time, which changes no slot. -/
theorem domainSlotsAndWallTimers : Obligations.DomainSlotsAndWallTimers :=
  ⟨fun _ _ _ _ _ _ => sync_kept, fun _ _ _ _ _ _ _ _ => followUp_begins, fun _ _ _ _ _ _ _ _ _ _ => delayResp_exchanges,
    fun _ _ _ _ _ _ => announce_heard, fun _ _ _ _ _ => announceTimeout_fails, fun _ _ _ _ _ => delayReqSend_sends,
    fun _ _ => revertTimer_reverts, fun _ _ => freeRunTimer_runs, fun _ _ => holdoverNotice_notes,
    fun _ _ => slewDone_ends⟩

end Sys2Proof.Machine
end

section
set_option Elab.async false
namespace Sys2Proof.Machine

/-! ### What the end of display leaves of the clock and of the health (R147, R233, R309, R412) -/

/-- The clock but what an interrupt, a gate, and islands that open or close change. -/
def Clock.supply (c : Clock) : Clock :=
  { c with
    hirq := false
    gateReq := none
    ramping := []
    opening := []
    openingNow := none
    islandsDue := false
    islandsStopped := false }

/-- The health but the calibration under way. -/
def Health.heat (h : Health) : Health := { h with cal := none }

/-- The supply stands, and so does the heat. -/
structure Steady (s u : State) : Prop where
  clock : u.clock.supply = s.clock.supply
  health : u.health.heat = s.health.heat

namespace Steady

variable {F : Foot} {s u w : State}

theorem refl (s : State) : Steady s s := ⟨rfl, rfl⟩

theorem trans (h : Steady s u) (g : Steady u w) : Steady s w := ⟨g.clock.trans h.clock, g.health.trans h.health⟩

theorem ofKeeps (h : Keeps F s u) (hc : F.parts.contains .clock = false := by rfl)
    (hh : F.parts.contains .health = false := by rfl) : Steady s u :=
  ⟨congrArg Clock.supply (h.clock_eq hc), congrArg Health.heat (h.health_eq hh)⟩

theorem step (h : Steady s u) (g : Keeps F u w) (hc : F.parts.contains .clock = false := by rfl)
    (hh : F.parts.contains .health = false := by rfl) : Steady s w := h.trans (.ofKeeps g hc hh)

theorem ite {c : Prop} [Decidable c] {a b : State} (ha : Steady s a) (hb : Steady s b) : Steady s (if c then a else b) := by
  split
  · exact ha
  · exact hb

theorem foldl {α : Type} {f : State → α → State} (h : ∀ x a, Steady x (f x a)) (l : List α) (s : State) :
    Steady s (l.foldl f s) := by
  induction l generalizing s with
  | nil => exact .refl s
  | cons a l ih => exact (h s a).trans (ih _)

theorem hclk_eq (h : Steady s u) : u.clock.hclk = s.clock.hclk := congrArg (·.hclk) h.clock

theorem locked_eq (h : Steady s u) : u.clock.locked = s.clock.locked := congrArg (·.locked) h.clock

theorem pfail_eq (h : Steady s u) : u.clock.pfail = s.clock.pfail := congrArg (·.pfail) h.clock

theorem pfailRun_eq (h : Steady s u) : u.clock.pfailRun = s.clock.pfailRun := congrArg (·.pfailRun) h.clock

theorem badRails_eq (h : Steady s u) : u.clock.badRails = s.clock.badRails := congrArg (·.badRails) h.clock

theorem restarting_eq (h : Steady s u) : u.clock.restarting = s.clock.restarting := congrArg (·.restarting) h.clock

theorem resetN_eq (h : Steady s u) : u.clock.resetN = s.clock.resetN := congrArg (·.resetN) h.clock

end Steady

section
variable (s : State)

/-- An event changes at most the interrupt of the clock. -/
theorem event_steady (o e m cause : Nat) : Steady s (s.event o e m cause) := by
  refine ⟨?_, congrArg Health.heat (State.event_keeps ..).health_eq⟩
  have hqueue (x : State) (ev : Event) (i : Nat) : (x.queueEvent ev i).clock = x.clock :=
    (State.queueEvent_keeps ..).clock_eq
  have hhirq (x : State) : x.updateHirq.clock.supply = x.clock.supply := by
    unfold State.updateHirq
    split <;> rfl
  unfold State.event
  rw [hhirq]
  exact congrArg Clock.supply (foldl_unchanged (π := State.clock) (fun x i => hqueue x _ (i + 1)) _ _)

theorem calEnd_steady : Steady s s.calEnd := ⟨rfl, rfl⟩

theorem requestStop_steady : Steady s s.requestStop := .ite ⟨rfl, rfl⟩ (.refl s)

theorem unlock_steady : Steady s s.unlock := by
  have h1 : Steady s ((s.put 0x6801 0x04 0).inc 0x6802 0x06).calEnd :=
    ((Steady.ofKeeps (State.put_keeps1 s 0x6801 0x04 0)).step (State.inc_keeps1 ..)).trans (calEnd_steady _)
  exact .ite (.ite ((h1.step (State.putBit_keeps1 ..)).trans (event_steady ..)) h1) (.refl s)

theorem disengage_steady : Steady s s.disengage := by
  have h1 (l : Loop) : Steady s { s with loop := l } := ⟨rfl, rfl⟩
  exact .ite (((((h1 _).step (State.putBit_keeps1 ..)).step (State.put_keeps1 ..)).step
    (State.freezeLoop_keeps ..)).trans (unlock_steady _)) (.refl s)

theorem coast_steady (st : Nat) : Steady s (s.coast st) := by
  have h1 := ((((disengage_steady s).step (State.freezeLoop_keeps _ 48 true)).step
    (State.freezeLoop_keeps _ 49 true)).step (State.putTorque_keeps _ 0)).step (State.put_keeps1 _ 0x6801 0x05 0)
  have hloop (x : State) (l : Loop) : Steady x { x with loop := l } := ⟨rfl, rfl⟩
  have h2 (x : State) (l : Loop) : Steady x (({ x with loop := l } : State).requestStop.putWheel st) :=
    ((hloop x l).trans (requestStop_steady _)).step (State.putWheel_keeps ..)
  have h3 := fun l => h1.trans (h2 _ l)
  unfold State.coast
  exact .ite ((h3 _).step (State.emit_keeps ..)) ((h3 _).step (State.sendDrive_keeps _))

theorem faultedCoast_steady (bit : Nat) : Steady s (s.faultedCoast bit) := by
  have h1 : Steady s (s.putBit 0x6801 0x06 bit true) := .ofKeeps (State.putBit_keeps1 ..)
  unfold State.faultedCoast
  exact .ite h1 ((Steady.ite h1 (h1.step (State.log_keeps ..))).trans (coast_steady ..))

theorem blankAll_steady (src : Nat) : Steady s (s.blankAll src) :=
  .ite (.refl s) ((Steady.ofKeeps (State.holdDark_keeps s src)).step (State.fastInhibit_keeps ..) |>.trans
    (calEnd_steady _))

theorem blankQuiet_steady (src : Nat) : Steady s (s.blankQuiet src) :=
  ((Steady.ofKeeps (State.holdDark_keeps s src)).step (State.darken_keeps ..)).trans (calEnd_steady _)

theorem setCal_steady (c : Option Cal) : Steady s { s with health := { s.health with cal := c } } := ⟨rfl, rfl⟩

theorem calClose_steady (k : Cal) : Steady s (s.calClose k) := by
  have h1 : Steady s (if k.phase = 0 then s else s.calRelease k) :=
    .ite (.refl s) (.ofKeeps (State.calRelease_keeps s k))
  unfold State.calClose
  exact ((((h1.step (State.put_keeps1 ..)).step (State.put_keeps1 ..)).step (State.put_keeps1 ..)).step
    (State.put_keeps1 ..)).trans (setCal_steady ..)

theorem calFinish_steady : Steady s s.calFinish := by
  unfold State.calFinish
  split
  · exact .refl s
  · exact (Steady.ite (.refl s) (.ofKeeps (State.courseFails_keeps ..))).trans (calClose_steady ..)

theorem stopNow_steady : Steady s s.stopNow :=
  .ite (((Steady.ofKeeps (State.endDrone_keeps s)).step (State.droneWheelEnds_keeps _)).trans (calFinish_steady _))
    (.ite ((Steady.ofKeeps (State.endTimeline_keeps s)).trans (calFinish_steady _)) (.refl s))

theorem stopIsland_steady (i : Nat) : Steady s (s.stopIsland i) := by
  refine ⟨?_, congrArg Health.heat (State.stopIsland_keeps s i).health_eq⟩
  unfold State.stopIsland
  rfl

theorem stopIslands_steady (l : List Nat) : Steady s (l.foldl State.stopIsland s) := .foldl stopIsland_steady l s

theorem setOpening_steady (stopped due : Bool) (l : List Nat) (o : Option Nat) : Steady s { s with clock := { s.clock with
    islandsStopped := stopped, islandsDue := due, opening := l, openingNow := o } } := ⟨rfl, rfl⟩

theorem closeIslands_steady : Steady s s.closeIslands :=
  (stopIslands_steady s outsideService).trans (setOpening_steady ..)

/-! ### Blanking and the end of display -/

theorem darken_blank (courses : List Nat) : (s.darken courses).bridge.blank = s.bridge.blank := rfl

theorem endDrone_blank : s.endDrone.bridge.blank = s.bridge.blank := by
  by_cases h : s.v 0x5001 0x03 = 4
  · rw [endDrone_of_drone h, (halvesOut_keeps _).bridge_eq, (State.dropAllHashes_keeps ..).bridge_eq,
      (State.dropAllHashes_keeps ..).bridge_eq, (State.panelState_keeps ..).bridge_eq]
    rfl
  · rw [State.endDrone, if_neg h]

theorem endTimeline_blank : s.endTimeline.bridge.blank = s.bridge.blank := by
  unfold State.endTimeline
  rw [(State.setReceivers_keeps _).bridge_eq]
  rfl

theorem endTimeline_state : s.endTimeline.v 0x5001 0x03 = 0 := by
  unfold State.endTimeline
  extract_lets s0 q b l s1
  exact ((State.setReceivers_keeps _).v_eq ..).trans (restShown_state s1 (s1.v 0x5000 0x01))

/-- What stops at once leaves the blanking as it is. -/
theorem stopNow_blank : s.stopNow.bridge.blank = s.bridge.blank := by
  unfold State.stopNow
  split
  · rw [(State.calFinish_keeps _).bridge_eq, (State.droneWheelEnds_keeps _).bridge_eq, endDrone_blank]
  · split
    · rw [(State.calFinish_keeps _).bridge_eq, endTimeline_blank]
    · rfl

/-- Display has stopped, and drone mode too. -/
theorem stopNow_displayRuns : s.stopNow.displayRuns = false := by
  unfold State.stopNow
  split
  next h =>
    exact stopped_of_state (.inl (((State.calFinish_keeps _).v_eq ..).trans
      (((State.droneWheelEnds_keeps _).v_eq ..).trans (endDrone_state h).1)))
  next =>
    split
    next => exact stopped_of_state (.inl (((State.calFinish_keeps _).v_eq ..).trans (endTimeline_state s)))
    next h => exact Bool.eq_false_iff.2 h

/-! ### The power-fail sequence (R412) -/

/-- The power-fail sequence has begun. -/
def State.powerLost (s : State) : State :=
  { s with clock := { s.clock with pfailRun := true, pfailReleased := false } }

/-- What the power-fail sequence shows when it has run. -/
structure PowerFailed (s u : State) : Prop where
  steady : Steady s.powerLost u
  blank : 2 ∈ u.bridge.blank
  stopped : u.displayRuns = false
  held : u.v 0x1890 0x01 = 4

/-- Behind the end of display the halves park, the rails follow where both have, and the journal and the DRAM are
made safe. -/
def State.powerDown (s : State) : State :=
  (if ((s.park [0, 1]).half 0).park = 3 ∧ ((s.park [0, 1]).half 1).park = 3 ∧ (s.park [0, 1]).v 0x5801 0x04 / 16 ≠ 0 then
    (s.park [0, 1]).railsDown 4 else s.park [0, 1]).startCommit.selfRefresh

theorem powerDown_keeps : Keeps ⟨[.out, .panel, .lanes, .memory], [(0x580101, 0x580105), (0x580201, 0x580204),
    (0x70020C, 0x70020C), (0x700309, 0x700309), (0x701001, 0x701006)]⟩ s s.powerDown := by
  have h1 : Keeps ⟨[.out, .panel, .lanes, .memory], [(0x580101, 0x580105), (0x580201, 0x580204),
      (0x70020C, 0x70020C), (0x700309, 0x700309), (0x701001, 0x701006)]⟩ s (s.park [0, 1]) :=
    (State.park_keeps ..).mono (by decide +kernel)
  exact .step (.step (.ite (fun _ => .step h1 (State.railsDown_keeps ..)) fun _ => h1) (State.startCommit_keeps _))
    (State.selfRefresh_keeps _)

theorem powerFail_eq : s.powerFail = if s.clock.pfailRun then s else
    ((s.powerLost.blankAll 2).faultedCoast 7).stopNow.powerDown.closeIslands.put 0x1890 0x01 4 := rfl

theorem powerFail_fails (h : s.clock.pfailRun = false) : PowerFailed s s.powerFail := by
  rw [powerFail_eq, if_neg (by simp [h])]
  have hstop : Steady s.powerLost ((s.powerLost.blankAll 2).faultedCoast 7).stopNow :=
    ((blankAll_steady _ 2).trans (faultedCoast_steady _ 7)).trans (stopNow_steady _)
  have hblank : 2 ∈ ((s.powerLost.blankAll 2).faultedCoast 7).stopNow.bridge.blank := by
    rw [stopNow_blank, (State.faultedCoast_keeps ..).bridge_eq]
    exact mem_blank_blankAll ..
  have hend := stopNow_displayRuns ((s.powerLost.blankAll 2).faultedCoast 7)
  generalize ((s.powerLost.blankAll 2).faultedCoast 7).stopNow = x at hstop hblank hend
  have hk := powerDown_keeps x
  have hs : Steady s.powerLost (x.powerDown.closeIslands.put 0x1890 0x01 4) :=
    ((hstop.step hk).trans (closeIslands_steady _)).step (State.put_keeps1 ..)
  exact ⟨hs, by rw [(State.put_keeps1 ..).bridge_eq, (State.closeIslands_keeps _).bridge_eq, hk.bridge_eq]; exact hblank,
    (displayRuns_congr (((State.put_keeps1 ..).v_eq ..).trans (((State.closeIslands_keeps _).v_eq ..).trans
      (hk.v_eq ..)))).trans hend, v_put_self ..⟩

end

end Sys2Proof.Machine
end

section
set_option Elab.async false
namespace Sys2Proof.Machine

/-! ### An evaluation, step by step (R365 to R369, R376) -/

section
variable (s : State) (powers : List Nat) (diodes : List Int)

/-- What an evaluation measures is judged: the interval, the alarm of the rise and the fast throttle. -/
def State.heatJudged (x : State) : State :=
  (x.judgeInterval.riseAlarm x.judgeInterval.health.rise).fastThrottle x.judgeInterval.health.rise

/-- The episode of heat is set. -/
def State.setHot (b : Bool) : State := { s with health := { s.health with hot := b } }

theorem evaluate_eq : s.evaluate powers diodes =
    if 27136 ≤ (s.measureHeat powers diodes).heatJudged.health.tg then
      if (s.measureHeat powers diodes).heatJudged.health.hot then (s.measureHeat powers diodes).heatJudged.setHot true
      else ((s.measureHeat powers diodes).heatJudged.setHot true).thermalShutdown
    else (s.measureHeat powers diodes).heatJudged.setHot false := by
  unfold State.evaluate State.heatJudged State.setHot
  rw [show (106 * 256 : Int) = 27136 from by norm_num]

/-- The members that the judging of an evaluation may change. -/
def judgeKeys : List (Nat × Nat) := [(0x101107, 0x101107), (0x103003, 0x103003), (0x180002, 0x180002),
  (0x180101, 0x180103), (0x201003, 0x201003), (0x280104, 0x280105), (0x280201, 0x280202), (0x900005, 0x900005)]

theorem heatJudged_keeps : Keeps ⟨[.out, .memory, .clock, .mgmt, .logs], judgeKeys⟩ s s.heatJudged :=
  .step (.step ((judgeInterval_keeps1 s).mono (by decide +kernel)) (State.riseAlarm_keeps ..))
    (State.fastThrottle_keeps ..)

theorem startRamp_steady (i : Nat) : Steady s (s.startRamp i) := by
  unfold State.startRamp
  exact .ite ⟨rfl, rfl⟩ (.refl s)

theorem thermalRatio_steady (r : Nat) : Steady s (s.thermalRatio r) :=
  (Steady.ofKeeps (State.pute_keeps1 ..)).trans (startRamp_steady _ 6)

theorem heatJudged_steady : Steady s s.heatJudged := by
  have hset (x : State) (b : Bool) (k : Nat) : Steady x (x.putBit 0x2801 0x05 k b) := .ofKeeps (State.putBit_keeps1 ..)
  have hcount (x : State) (m : Nat) : Steady x ((x.inc 0x2802 m).event 0x2802 0 m 0) :=
    (Steady.ofKeeps (State.inc_keeps1 ..)).trans (event_steady ..)
  have halarm (x : State) (r : Int) : Steady x (x.riseAlarm r) :=
    .ite ((hset ..).trans (hcount ..)) (.ite (hset ..) (.refl x))
  have hfast (x : State) (r : Int) : Steady x (x.fastThrottle r) := by
    unfold State.fastThrottle
    refine .ite ?_ (.refl x)
    exact ((Steady.ite (.refl x) (((hset ..).trans (hcount ..)).step (State.log_keeps ..))).step
      (State.put_keeps1 ..)).trans (thermalRatio_steady ..)
  exact ((Steady.ofKeeps (judgeInterval_keeps1 s)).trans (halarm ..)).trans (hfast ..)

theorem measureHeat_health : (s.measureHeat powers diodes).health =
    (s.heatEntered (s.nextNodes (powersOf powers) (diodesOf diodes))
      (governing (s.nextNodes (powersOf powers) (diodesOf diodes)) (diodesOf diodes)).1).health := by
  rw [measureHeat_eq, (powerShown_keeps ..).health_eq, (heatShown_keeps ..).health_eq]

theorem heatJudged_health : s.heatJudged.health = s.health := (heatJudged_keeps s).health_eq

theorem measureHeat_nodes : (s.measureHeat powers diodes).heatJudged.health.nodes.length = 32 := by
  rw [heatJudged_health, measureHeat_health]
  simp [State.heatEntered, State.nextNodes]

/-- Each lane of an array object shows what the fold puts there. -/
theorem foldl_pute_range (o m k : Nat) (f : Nat → Nat) (x : State) (hk : k ≤ 65536) {n : Nat} (hn : n < k) :
    ((List.range k).foldl (fun (st : State) j => st.pute o j m (f j)) x).ve o n m = f n := by
  induction k with
  | zero => omega
  | succ k ih =>
    rw [List.range_succ, List.foldl_append]
    rcases Nat.lt_succ_iff_lt_or_eq.1 hn with h | rfl
    · rw [List.foldl_cons, List.foldl_nil, ve_pute_ne (by unfold mkey; omega), ih (by omega) h]
    · exact ve_pute_self ..

theorem heatShown_powers (ps : List Nat) (ds ns : List Int) (tg : Int) (src : Nat) (rise : Int) {n : Nat} (hn : n < 24) :
    (s.heatShown ps ds ns tg src rise).ve 0x2811 n 0x01 = ps.getD n 0 := by
  have hdiodes (x : State) : Keeps ⟨[], [(0x281201, 0x281201)]⟩ x
      ((List.range 4).foldl (fun (st : State) d => st.pute 0x2812 d 0x01 (ofS 16 (ds.getD d 0))) x) :=
    .foldl (.refl _ x) fun u _ => .step (.refl _ u) (State.pute_keeps1 ..)
  rw [State.heatShown, (putS16_keeps1 ..).ve 0x2811 n 0x01 (by decide +kernel),
    (State.put_keeps1 ..).ve 0x2811 n 0x01 (by decide +kernel), (putS16_keeps1 ..).ve 0x2811 n 0x01 (by decide +kernel),
    (hdiodes _).ve 0x2811 n 0x01 (by decide +kernel), foldl_pute_range _ _ 24 _ _ (by omega) hn]

theorem measureHeat_powers {n : Nat} (hn : n < 24) :
    (s.measureHeat powers diodes).heatJudged.ve 0x2811 n 0x01 = powers.getD n 0 % 65536 := by
  rw [(heatJudged_keeps _).ve 0x2811 n 0x01 (by decide +kernel), measureHeat_eq,
    (powerShown_keeps ..).ve 0x2811 n 0x01 (by decide +kernel), heatShown_powers _ _ _ _ _ _ _ hn]
  simp [powersOf, List.getD, hn]

/-! ### Thermal shutdown (R376, R377) -/

/-- A shutdown is recorded. -/
def State.recorded : State :=
  { s with health := { s.health with
    records := (s.shutdownRecord (s.v 0x2802 0x04) :: s.health.records).take 8 } }

/-- The record takes a block of the retained store, is shown, and the shutdown is told. -/
def State.recordTold (block : Nat) : State :=
  ((((s.wearBlock block).showRecord.putBit 0x2801 0x05 4 true).putBit 0x2801 0x05 5 true).event 0x2802 0 0x04 0).log
    (noteSpec 2 0x2802 0 0x04 0 0 0)

/-- A counted shutdown is recorded and told. -/
def State.shutdownTold : State := s.recorded.recordTold (shutdownWear (s.v 0x2802 0x04 % 8))

theorem thermalShutdown_eq : s.thermalShutdown = (s.inc 0x2802 0x04).shutdownTold.powerFail := rfl

/-- The members that telling of a shutdown may change. -/
def toldKeys : List (Nat × Nat) := [(0x101107, 0x101107), (0x103003, 0x103003), (0x180002, 0x180002),
  (0x180101, 0x180103), (0x280105, 0x280105), (0x280401, 0x280405), (0x900005, 0x900005)]

theorem recordTold_keeps (block : Nat) : Keeps ⟨[.out, .memory, .clock, .mgmt, .logs], toldKeys⟩ s (s.recordTold block) :=
  .step (.step (.step (.step (.step (.step (.refl _ s) (State.wearBlock_keeps ..)) (State.showRecord_keeps _))
    (State.putBit_keeps1 ..)) (State.putBit_keeps1 ..)) (State.event_keeps ..)) (State.log_keeps ..)

theorem recordTold_steady (block : Nat) : Steady s (s.recordTold block) :=
  (((((Steady.ofKeeps (State.wearBlock_keeps s block)).step (State.showRecord_keeps _)).step
    (State.putBit_keeps1 ..)).step (State.putBit_keeps1 ..)).trans (event_steady ..)).step (State.log_keeps ..)

theorem shutdownTold_keeps : Keeps ⟨[.out, .memory, .clock, .mgmt, .health, .logs], toldKeys⟩ s s.shutdownTold :=
  .step (Keeps.upd (.refl _ s) (hhh := .inl rfl)) (recordTold_keeps s.recorded _)

/-- What governs of the heat. -/
def Health.governed (h : Health) : List Int × Int × Bool := (h.nodes, h.tg, h.hot)

theorem governed_eq_iff {h k : Health} : h.governed = k.governed ↔ h.nodes = k.nodes ∧ h.tg = k.tg ∧ h.hot = k.hot := by
  simp [Health.governed]

theorem recorded_clock : s.recorded.clock = s.clock := rfl

theorem shutdownTold_governed : s.shutdownTold.health.governed = s.health.governed := by
  rw [State.shutdownTold, (recordTold_keeps ..).health_eq]
  rfl

theorem powerFail_governed : s.powerFail.health.governed = s.health.governed := by
  cases h : s.clock.pfailRun with
  | true => rw [powerFail_eq, if_pos h]
  | false =>
    have hheat := congrArg Health.governed (powerFail_fails s h).steady.health
    exact hheat

theorem thermalShutdown_governed : s.thermalShutdown.health.governed = s.health.governed := by
  rw [thermalShutdown_eq, powerFail_governed, shutdownTold_governed, (State.inc_keeps1 ..).health_eq]

theorem thermalShutdown_counted : counted s s.thermalShutdown 0x2802 0 0x04 :=
  
  counted_within (.refl ⟨[], []⟩ s) (counted_between (.refl ⟨[], []⟩ s) (shutdownTold_keeps (s.inc 0x2802 0x04)))
    (State.powerFail_keeps _)

theorem thermalShutdown_fails (h : s.clock.pfailRun = false) :
    PowerFailed (s.inc 0x2802 0x04).shutdownTold s.thermalShutdown := by
  refine powerFail_fails _ ?_
  rw [State.shutdownTold, (recordTold_steady ..).pfailRun_eq, recorded_clock, (State.inc_keeps1 ..).clock_eq, h]

/-! ### A thermal evaluation -/

/-- What a thermal evaluation finds and shows, and whether it shuts the device down. -/
theorem evaluate_shows : (s.evaluate powers diodes).health.nodes.length = 32 ∧
    (s.evaluate powers diodes).health.hot = decide (27136 ≤ (s.evaluate powers diodes).health.tg) ∧
    ∀ n, n < 24 → (s.evaluate powers diodes).ve 0x2811 n 0x01 = powers.getD n 0 % 65536 := by
  have hnodes := measureHeat_nodes s powers diodes
  have hpowers := fun n (hn : n < 24) => measureHeat_powers s powers diodes hn
  rw [evaluate_eq]
  generalize (s.measureHeat powers diodes).heatJudged = y at hnodes hpowers
  split
  next htg =>
    split
    · exact ⟨hnodes, (decide_eq_true htg).symm, hpowers⟩
    · obtain ⟨hn, ht, hh⟩ := governed_eq_iff.1 (thermalShutdown_governed (y.setHot true))
      refine ⟨(congrArg List.length hn).trans hnodes, ?_, fun n hlt => ?_⟩
      · rw [hh, ht]
        exact (decide_eq_true htg).symm
      · rw [(State.thermalShutdown_keeps _).ve 0x2811 n 0x01 (by decide +kernel)]
        exact hpowers n hlt
  next htg => exact ⟨hnodes, (decide_eq_false htg).symm, hpowers⟩

theorem evaluate_shutsDown (hhot : s.health.hot = false) (hp : s.clock.pfailRun = false) :
    ((s.evaluate powers diodes).health.hot = true → counted s (s.evaluate powers diodes) 0x2802 0 0x04 ∧
      (s.evaluate powers diodes).clock.pfailRun = true ∧ 2 ∈ (s.evaluate powers diodes).bridge.blank ∧
      (s.evaluate powers diodes).displayRuns = false) ∧
    ((s.evaluate powers diodes).health.hot = false → (s.evaluate powers diodes).ve 0x2802 0 0x04 = s.ve 0x2802 0 0x04) := by
  have hy : (s.measureHeat powers diodes).heatJudged.health.hot = false := by
    rw [heatJudged_health, measureHeat_health]
    exact hhot
  have hk : Keeps ⟨[.out, .memory, .clock, .mgmt, .health, .logs], judgeKeys ++ heatKeys⟩ s
      (s.measureHeat powers diodes).heatJudged :=
    ((measureHeat_keeps1 s powers diodes).mono (by decide +kernel)).step (heatJudged_keeps _)
  have hpy : (s.measureHeat powers diodes).heatJudged.clock.pfailRun = false := by
    rw [(heatJudged_steady _).pfailRun_eq, (measureHeat_keeps1 ..).clock_eq, hp]
  rw [evaluate_eq]
  generalize (s.measureHeat powers diodes).heatJudged = y at hy hk hpy
  split
  next htg =>
    rw [if_neg (by simp [hy])]
    have hset : Keeps ⟨[.health], []⟩ y (y.setHot true) := Keeps.upd (.refl _ y) (hhh := .inl rfl)
    have hk' := hk.step hset
    have hf := thermalShutdown_fails (y.setHot true) hpy
    have hc := thermalShutdown_counted (y.setHot true)
    refine ⟨fun _ => ⟨counted_within hk' hc (.refl ⟨[], []⟩ _), hf.steady.pfailRun_eq, hf.blank, hf.stopped⟩, fun h => ?_⟩
    obtain ⟨-, -, hh⟩ := governed_eq_iff.1 (thermalShutdown_governed (y.setHot true))
    exact absurd (hh.symm.trans h) Bool.noConfusion
  next htg => exact ⟨fun h => Bool.noConfusion h, fun _ => hk.ve 0x2802 0 0x04 (by decide +kernel)⟩

end

section
variable {s : State} {t : Nat}

theorem thermalEvaluation_runs (powers : List Nat) (diodes : List Int) (hc : s.calm = true) :
    runs (.thermalEvaluation t powers diodes) s ((s.enter t).evaluate powers diodes) :=
  congrArg Host.Outcome.next (settle_of_calm (calmly_evaluate (s.enter t) powers diodes hc).2)

/-! ### The timers of health (R368, R370, R373, R375, R389) -/

theorem modelMismatch_tells {d : Nat} (hd : d < 4) :
    ∃ s', runs (.modelMismatch t d) s s' ∧ counted s s' 0x2802 0 0x05 ∧ s'.bit 0x2801 0x05 3 = true := by
  have hx : Keeps ⟨[.now, .out], [(0x280105, 0x280105)]⟩ s ((s.enter t).putBit 0x2801 0x05 3 true) :=
    .step ((State.enter_keeps s t).mono (by decide +kernel)) (State.putBit_keeps1 ..)
  have hend (x : State) := (Keeps.step (.step (F := ⟨[.out, .memory, .clock, .mgmt, .logs], [(0x101107, 0x101107),
      (0x103003, 0x103003), (0x180002, 0x180002), (0x180101, 0x180103), (0x900005, 0x900005)]⟩) (.refl _ x)
    (State.event_keeps x 0x2802 0 0x05 0)) (State.log_keeps _ (noteSpec 1 0x2802 0 0x05 0 0 0)))
  refine ⟨(s.enter t).modelMismatch, if_pos (decide_eq_true hd), counted_between hx (hend _), ?_⟩
  exact (bit_congr (((hend _).v_eq 0x2801 0x05).trans ((State.inc_keeps1 ..).v_eq 0x2801 0x05)) 3).trans
    (bit_putBit_self ..)

theorem fastThrottleRelease_releases (h : riseBelow s.health.rise 100 = true) :
    ∃ s', runs (.fastThrottleRelease t) s s' ∧ s'.bit 0x2801 0x05 2 = false ∧ s'.health = s.health :=
  ⟨(s.enter t).putBit 0x2801 0x05 2 false, congrArg Host.Outcome.next (if_pos h), bit_putBit_self .., rfl⟩

theorem throttleStepTimer_displaying (hd : s.displayRuns = true) (hm : s.v 0x5001 0x05 = 255) :
    ∃ s', runs (.throttleStepTimer t) s s' ∧ s'.dict = s.dict :=
  ⟨s.enter t, congrArg Host.Outcome.next (if_pos ⟨hd, hm⟩), rfl⟩

theorem throttleStepTimer_steps (hb : s.bit 0x2801 0x05 2 = false) (hd : s.displayRuns = false ∨ s.v 0x5001 0x05 ≠ 255) :
    ∃ s', runs (.throttleStepTimer t) s s' ∧
      s'.v 0x2801 0x04 = (if s.v 0x2801 0x04 < s.throttleTarget then s.v 0x2801 0x04 + 1
        else if s.throttleTarget < s.v 0x2801 0x04 then s.v 0x2801 0x04 - 1 else s.v 0x2801 0x04) ∧
      s'.ve 0x2010 6 0x03 = nextRatio (s'.v 0x2801 0x04) (s.ve 0x2010 6 0x03) := by
  have hstep : (s.enter t).throttleStep = _ := if_neg (by exact (Bool.eq_false_iff.1 hb))
  have hd' : ¬((s.enter t).displayRuns ∧ (s.enter t).v 0x5001 0x05 = 255) := fun h =>
    hd.elim (fun h0 => absurd (h.1.symm.trans h0) (by decide)) fun hne => hne h.2
  refine ⟨_, congrArg Host.Outcome.next ((if_neg hd').trans hstep), ?_, ?_⟩
  · exact ((State.thermalRatio_keeps ..).v_eq 0x2801 0x04).trans (v_put_self ..)
  · have hratio (x : State) (r : Nat) : (x.thermalRatio r).ve 0x2010 6 0x03 = r :=
      ((State.startRamp_keeps ..).ve_eq ..).trans (ve_pute_self ..)
    rw [hratio, (State.thermalRatio_keeps ..).v_eq 0x2801 0x04, v_put_self]
    rfl

theorem lifeSecond_counts (hr : s.clock.resetN = true) :
    ∃ s', runs (.lifeSecond t) s s' ∧ counted s s' 0x2801 0 0x08 ∧
      counted s s' 0x2803 (tempBin s.health.tg) 0x01 ∧ s'.health.tgSum = s.health.tgSum + s.health.tg := by
  have hshow (x : State) (h : Health) (r : Int) : Keeps ⟨[.health], [(0x280107, 0x280107)]⟩ x
      (({ x with health := h } : State).putS16 0x2801 0 0x07 r) :=
    .step (Keeps.upd (.refl _ x) (hhh := .inl rfl)) (putS16_keeps1 ..)
  have hbin : Keeps ⟨[.now, .out], [(0x280301, 0x280301)]⟩ s ((s.enter t).ince 0x2803 (tempBin s.health.tg) 0x01) :=
    .step ((State.enter_keeps s t).mono (by decide +kernel)) (State.ince_keeps1 ..)
  refine ⟨_, congrArg Host.Outcome.next (if_pos hr), counted_between hbin (hshow ..), ?_, ?_⟩
  · exact counted_between (F := ⟨[.now, .out], []⟩) ((State.enter_keeps s t).mono (by decide +kernel))
      (.step (F := ⟨[.health], [(0x280107, 0x280108)]⟩) ((State.inc_keeps1 _ 0x2801 0x08).mono (by decide +kernel))
        (hshow ..))
  · rw [(putS16_keeps1 ..).health_eq, (State.inc_keeps1 ..).health_eq, (State.ince_keeps1 ..).health_eq]
    rfl

theorem cvOwnerTimeout_lapses {u : Nat} (hu : u < 16) :
    ∃ s', runs (.cvOwnerTimeout t u) s s' ∧ s'.ve 0x2840 u 0x0C = 255 ∧ s'.health = s.health :=
  ⟨_, if_pos (decide_eq_true hu), ve_pute_self .., rfl⟩

end

/-- Settles O59: the timers of health, and what an evaluation finds, shows and shuts down. -/
theorem health : Obligations.Health := by
  refine ⟨fun _ _ _ => modelMismatch_tells, fun _ _ => fastThrottleRelease_releases,
    fun _ _ => throttleStepTimer_displaying, fun _ _ => throttleStepTimer_steps, fun _ _ => lifeSecond_counts,
    fun _ _ _ => cvOwnerTimeout_lapses, fun s t ps ds hc => ?_, fun s t ps ds hc hhot hp _ => ?_⟩
  · exact ⟨_, thermalEvaluation_runs ps ds hc, evaluate_shows (s.enter t) ps ds⟩
  · exact ⟨_, thermalEvaluation_runs ps ds hc, evaluate_shutsDown (s.enter t) ps ds hhot hp⟩

end Sys2Proof.Machine
end

section
set_option Elab.async false
namespace Sys2Proof.Machine

/-! ### What gates and wall time leave of the supply (R305, R312, R362) -/

section
variable (s : State)

theorem setGateReq_steady (r : Option GateReq) : Steady s { s with clock := { s.clock with gateReq := r } } := ⟨rfl, rfl⟩

theorem putGates_steady (l : List Nat) (st : Nat) :
    Steady s (l.foldl (fun (x : State) n => x.putGate false n st) s) := .ofKeeps (putGates_keepsGate ..)

theorem gateAbandon_steady : Steady s s.gateAbandon := by
  unfold State.gateAbandon
  split
  next =>
    have h0 (m : Mgmt) : Steady s { s with clock := { s.clock with gateReq := none }, mgmt := m } := ⟨rfl, rfl⟩
    have h1 := fun m => (h0 m).step (State.gateRefused_keeps _ 7)
    exact .ite (.ite ((h1 _).step (putGate_keepsGate ..)) ((h1 _).trans (putGates_steady ..)))
      (((h1 _).trans (putGates_steady ..)).trans (stopIslands_steady ..))
  next => exact .refl s

theorem gateFails_steady : Steady s s.gateFails := (gateAbandon_steady s).step (State.gateAnswer_keeps ..)

/-- A gate request that is given up sets at most the bit of a refusal. -/
theorem gateAbandon_bit {k : Nat} (hk : k ≠ 3) : s.gateAbandon.bit 0x2001 0x02 k = s.bit 0x2001 0x02 k := by
  have hrefused (x : State) (hx : x.dict = s.dict) : (x.gateRefused 7).bit 0x2001 0x02 k = s.bit 0x2001 0x02 k := by
    refine (bit_congr ((State.inc_keeps1 (x.putBit 0x2001 0x02 3 true) 0x2002 0x04).v_eq 0x2001 0x02) k).trans ?_
    rw [bit_putBit_ne _ _ _ hk]
    simp only [State.bit, State.v, State.ve, hx]
  have hgate {x y : State} (h : Keeps ⟨[], gateKeys⟩ x y) : y.bit 0x2001 0x02 k = x.bit 0x2001 0x02 k :=
    bit_congr (h.v_eq 0x2001 0x02) k
  unfold State.gateAbandon
  split
  next =>
    dsimp only
    split
    · split
      · exact (hgate (putGate_keepsGate ..)).trans (hrefused _ rfl)
      · exact (hgate (putGates_keepsGate ..)).trans (hrefused _ rfl)
    · exact (bit_congr ((stopIslands_keeps ..).v_eq 0x2001 0x02) k).trans
        ((hgate (putGates_keepsGate ..)).trans (hrefused _ rfl))
  next => rfl

theorem gateFails_bit {k : Nat} (hk : k ≠ 3) : s.gateFails.bit 0x2001 0x02 k = s.bit 0x2001 0x02 k :=
  (bit_congr ((State.gateAnswer_keeps ..).v_eq 0x2001 0x02) k).trans (gateAbandon_bit s hk)

theorem setNet_steady (n : Net) : Steady s { s with net := n } := ⟨rfl, rfl⟩

theorem setWall_steady (v : Nat) : Steady s (s.setWall v) := by
  have hput (x : State) (o m k : Nat) : Steady x (x.put o m k) := .ofKeeps (State.put_keeps1 ..)
  have hcount (x : State) (m : Nat) : Steady x (x.inc 0x8002 m) := .ofKeeps (State.inc_keeps1 ..)
  have hshow {x : State} (h : Steady s x) : Steady s ((x.event 0x8001 0 0x01 0).put 0x8001 0x06 x.wallTime) :=
    (h.trans (event_steady ..)).trans (hput ..)
  have h1 := hput s 0x8001 0x01 v
  unfold State.setWall
  exact .ite (.refl s) (hshow (.ite (h1.trans (hcount ..)) (.ite (h1.trans (hcount ..))
    (.ite ((h1.trans (setNet_steady ..)).trans (hcount ..)) h1))))

theorem wallLost_steady : Steady s s.wallLost := by
  have h1 : Steady s ((s.clearSlot 0).clearSlot 1) :=
    (Steady.ofKeeps (State.clearSlot_keeps s 0)).step (State.clearSlot_keeps _ 1)
  exact (((h1.trans (setNet_steady ..)).step (State.putBit_keeps1 ..)).step (State.putBit_keeps1 ..)).trans
    (setWall_steady ..)

/-! ### The loss of the reference (R309, R312) and a slip (R296) -/

/-- The clock after a loss, or a slip. -/
def State.unlocked (slip : Bool) : State :=
  { s with clock := { s.clock with hclk := slip && s.clock.hclk, locked := false, qualified := false } }

theorem lossNoted_eq (slip : Bool) : s.lossNoted slip =
    (((s.unlocked slip).putBit 0x2001 0x02 (if slip then 1 else 0) true).inc 0x2002 (if slip then 0x02 else 0x01)).log
      (noteSpec 2 0x2002 0 (if slip then 0x02 else 0x01) 0 0 0) := rfl

theorem lossNoted_steady (slip : Bool) : Steady (s.unlocked slip) (s.lossNoted slip) := by
  rw [lossNoted_eq]
  exact (((Steady.refl _).step (State.putBit_keeps1 ..)).step (State.inc_keepsO ..)).step (State.log_keeps ..)

/-- The members that a log entry may change. -/
def logKeys : List (Nat × Nat) := [(0x180002, 0x180002), (0x180101, 0x180103), (0x900005, 0x900005)]

theorem lossNoted_bit (slip : Bool) : (s.lossNoted slip).bit 0x2001 0x02 (if slip then 1 else 0) = true := by
  rw [lossNoted_eq]
  exact (bit_congr (((State.log_keeps ..).v_eq 0x2001 0x02).trans ((State.inc_keepsO ..).v_eq 0x2001 0x02)) _).trans
    (bit_putBit_self ..)

theorem lossNoted_counted (slip : Bool) : counted s (s.lossNoted slip) 0x2002 0 (if slip then 0x02 else 0x01) := by
  have h1 : Keeps ⟨[.clock], [(0x200102, 0x200102)]⟩ s
      ((s.unlocked slip).putBit 0x2001 0x02 (if slip then 1 else 0) true) :=
    .step (Keeps.upd (.refl _ s) (hck := .inl rfl)) (State.putBit_keeps1 ..)
  rw [lossNoted_eq]
  cases slip with
  | true => exact counted_between h1 (State.log_keeps ..)
  | false => exact counted_between h1 (State.log_keeps ..)

/-- The hold phase begins. -/
def State.holding : State :=
  { s with clock := { s.clock with hold := true, opening := [], openingNow := none, islandsDue := false } }

theorem holding_hclk : s.holding.clock.hclk = s.clock.hclk := rfl

theorem holding_v (o m : Nat) : s.holding.v o m = s.v o m := rfl

theorem holding_locked : s.holding.clock.locked = s.clock.locked := rfl

/-- A loss is noted and the hold phase begins. -/
def State.holdBegins (slip : Bool) : State := ((s.lossNoted slip).put 0x2001 0x01 3).holding

/-- With the loss of a lock light, display and wheel end, the halves park, DRAM refreshes itself, and wall time is
lost. -/
def State.lockEnds (m : Nat) : State :=
  (((((s.blankAll 3).faultedCoast 1).stopNow.park [0, 1]).selfRefresh).wallLost).event 0x2002 0 m 0

theorem lockLost_eq (slip : Bool) :
    s.lockLost slip = (s.holdBegins slip).gateFails.lockEnds (if slip then 0x02 else 0x01) := by
  unfold State.lockLost State.lockEnds State.holdBegins State.holding
  rfl

/-- What the end of light, display and wheel at the loss of a lock may change. -/
def lockEndsFoot : Foot :=
  ⟨clockFoot.parts, clockFoot.keys.filter fun r => decide (r.2 < 0x200100) || decide (0x2002FF < r.1)⟩

theorem lockEnds_keeps (m : Nat) : Keeps lockEndsFoot s (s.lockEnds m) := by
  have h1 : Keeps lockEndsFoot s ((s.blankAll 3).faultedCoast 1).stopNow :=
    .step (.step (.step (.refl _ s) (State.blankAll_keeps ..)) (State.faultedCoast_keeps ..)) (State.stopNow_keeps _)
  exact .step (.step (.step (.step h1 (State.park_keeps ..)) (State.selfRefresh_keeps _)) (State.wallLost_keeps _))
    (State.event_keeps ..)

theorem lockEnds_steady (m : Nat) : Steady s (s.lockEnds m) := by
  have h1 : Steady s ((s.blankAll 3).faultedCoast 1).stopNow :=
    ((blankAll_steady s 3).trans (faultedCoast_steady _ 1)).trans (stopNow_steady _)
  exact (((h1.step (State.park_keeps ..)).step (State.selfRefresh_keeps _)).trans (wallLost_steady _)).trans
    (event_steady ..)

theorem lockEnds_dark (m : Nat) : 3 ∈ (s.lockEnds m).bridge.blank ∧ (s.lockEnds m).displayRuns = false := by
  have hblank : 3 ∈ ((s.blankAll 3).faultedCoast 1).stopNow.bridge.blank := by
    rw [stopNow_blank, (State.faultedCoast_keeps ..).bridge_eq]
    exact mem_blank_blankAll ..
  have hend := stopNow_displayRuns ((s.blankAll 3).faultedCoast 1)
  unfold State.lockEnds
  generalize ((s.blankAll 3).faultedCoast 1).stopNow = x at hblank hend
  have hk : Keeps ⟨[.out, .blobs, .panel, .lanes, .memory, .clock, .mgmt, .net], lockEndsFoot.keys.filter fun r =>
      decide (r.2 < 0x500100) || decide (0x5001FF < r.1)⟩ x
      (((x.park [0, 1]).selfRefresh.wallLost).event 0x2002 0 m 0) :=
    .step (.step (.step (.step (.refl _ x) (State.park_keeps ..)) (State.selfRefresh_keeps _)) (State.wallLost_keeps _))
      (State.event_keeps ..)
  exact ⟨hk.bridge_eq ▸ hblank, (displayRuns_congr (hk.v_eq ..)).trans hend⟩

/-- What the loss of a lock shows. -/
theorem lockLost_shows (slip : Bool) : (s.lockLost slip).v 0x2001 0x01 = 3 ∧
    (s.lockLost slip).clock.hclk = (slip && s.clock.hclk) ∧ (s.lockLost slip).clock.locked = false ∧
    (s.lockLost slip).bit 0x2001 0x02 (if slip then 1 else 0) = true ∧
    counted s (s.lockLost slip) 0x2002 0 (if slip then 0x02 else 0x01) ∧
    3 ∈ (s.lockLost slip).bridge.blank ∧ (s.lockLost slip).displayRuns = false := by
  rw [lockLost_eq]
  generalize hm : (if slip then 0x02 else 0x01 : Nat) = m
  have hg := gateFails_keepsGate (s.holdBegins slip)
  have hend := lockEnds_keeps (s.holdBegins slip).gateFails m
  obtain ⟨hblank, hdark⟩ := lockEnds_dark (s.holdBegins slip).gateFails m
  have hsteady := (gateFails_steady (s.holdBegins slip)).trans (lockEnds_steady _ m)
  have hclock : Steady (s.unlocked slip) ((s.lossNoted slip).put 0x2001 0x01 3) :=
    (lossNoted_steady s slip).step (State.put_keeps1 ..)
  have hhold : Keeps ⟨[.clock], [(0x200101, 0x200101)]⟩ (s.lossNoted slip) (s.holdBegins slip) :=
    Keeps.upd (.step (.refl _ _) (State.put_keeps1 ..)) (hck := .inl rfl)
  refine ⟨?_, ?_, ?_, ?_, ?_, hblank, hdark⟩
  · rw [hend.v_eq 0x2001 0x01, hg.v_eq 0x2001 0x01, State.holdBegins, holding_v, v_put_self]
  · rw [hsteady.hclk_eq, State.holdBegins, holding_hclk, hclock.hclk_eq]
    rfl
  · rw [hsteady.locked_eq, State.holdBegins, holding_locked, hclock.locked_eq]
    rfl
  · refine (bit_congr (hend.v_eq 0x2001 0x02) _).trans ((gateFails_bit _ (by split <;> decide)).trans ?_)
    exact (bit_congr (hhold.v_eq 0x2001 0x02) _).trans (lossNoted_bit s slip)
  · have hafter := ((hhold.mono (F := ⟨gateFailsFoot.parts ++ lockEndsFoot.parts, [(0x200101, 0x200102)] ++
      gateFailsFoot.keys ++ lockEndsFoot.keys⟩) (by decide +kernel)).step hg).step hend
    have hcount := lossNoted_counted s slip
    subst hm
    cases slip with
    | true => exact counted_within (.refl ⟨[], []⟩ s) hcount hafter
    | false => exact counted_within (.refl ⟨[], []⟩ s) hcount hafter

/-! ### The supply inputs (R316, R412) -/

theorem PowerFailed.runs {s u : State} (h : PowerFailed s u) : u.clock.pfailRun = true := h.steady.pfailRun_eq

theorem PowerFailed.pfail_eq {s u : State} (h : PowerFailed s u) : u.clock.pfail = s.clock.pfail := h.steady.pfail_eq

theorem PowerFailed.badRails_eq {s u : State} (h : PowerFailed s u) : u.clock.badRails = s.clock.badRails :=
  h.steady.badRails_eq

theorem transitions_steady (input count : Nat) : ∃ e c, Steady { s with clock := { s.clock with edges := e, chatter := c } }
    (s.transitions input count) := by
  unfold State.transitions
  dsimp only
  split
  · exact ⟨_, _, .refl _⟩
  · split
    · exact ⟨_, _, .ofKeeps (State.inc_keeps1 ..)⟩
    · split
      · exact ⟨_, _, .refl _⟩
      · exact ⟨_, _, ((Steady.ofKeeps (State.putBit_keeps1 ..)).step (State.inc_keeps1 ..)).trans (event_steady ..)⟩

/-- The power-fail input has fallen. -/
def State.pfailLow : State := { s with clock := { s.clock with pfail := true } }

theorem pfailLow_pfail : s.pfailLow.clock.pfail = true := rfl

theorem powerFailLogged_eq : s.powerFailLogged = (s.log (noteSpec 2 0x1890 0 0x01 0 0 0)).powerFail := rfl

theorem pfailFalls_eq (h : s.clock.pfail = false) : s.pfailFalls =
    if (s.transitions 0 1).pfailLow.clock.resetN then (s.transitions 0 1).pfailLow.powerFailLogged
    else (s.transitions 0 1).pfailLow := by
  unfold State.pfailFalls State.pfailLow
  simp only [h, Bool.false_eq_true, if_false]

theorem pfailFalls_fails (hr : s.clock.resetN = true) (hp : s.clock.pfail = false) (hrun : s.clock.pfailRun = false) :
    s.pfailFalls.clock.pfail = true ∧ s.pfailFalls.clock.pfailRun = true ∧ 2 ∈ s.pfailFalls.bridge.blank ∧
      s.pfailFalls.displayRuns = false ∧ s.pfailFalls.v 0x1890 0x01 = 4 := by
  obtain ⟨e, c, h⟩ := transitions_steady s 0 1
  have hlog := State.log_keeps (s.transitions 0 1).pfailLow (noteSpec 2 0x1890 0 0x01 0 0 0)
  have hf := powerFail_fails ((s.transitions 0 1).pfailLow.log (noteSpec 2 0x1890 0 0x01 0 0 0))
    ((congrArg Clock.pfailRun hlog.clock_eq).trans (h.pfailRun_eq.trans hrun))
  have hr' : (s.transitions 0 1).pfailLow.clock.resetN = true := h.resetN_eq.trans hr
  rw [pfailFalls_eq s hp, if_pos hr', powerFailLogged_eq]
  refine ⟨?_, hf.runs, hf.blank, hf.stopped, hf.held⟩
  rw [hf.pfail_eq, hlog.clock_eq, pfailLow_pfail]

/-- A rail that leaves its limits is noted as bad. -/
def State.railNoted (r : Nat) : State :=
  { s with clock := { s.clock with
    badRails := if s.clock.badRails.contains r then s.clock.badRails else s.clock.badRails ++ [r] } }

theorem railFault_eq (r v : Nat) (h : s.clock.resetN = true) : s.railFault r v =
    ((((s.pute 0x2040 r 0x01 v).railNoted r).ince 0x2040 r 0x02).inc 0x2002 0x06).log (noteSpec 2 0x2040 r 0x02 0 0 0) :=
  if_pos h

theorem railNoted_bad (r : Nat) : r ∈ (s.railNoted r).clock.badRails := by
  unfold State.railNoted
  dsimp only
  split
  next h => exact List.contains_iff_mem.1 h
  next => simp

theorem railLow_fails {r : Nat} (hr : s.clock.resetN = true) (hrun : s.clock.pfailRun = false) :
    (s.railLow r).ve 0x2040 r 0x01 = 0 ∧ counted s (s.railLow r) 0x2040 r 0x02 ∧ counted s (s.railLow r) 0x2002 0 0x06 ∧
      r ∈ (s.railLow r).clock.badRails ∧ (s.railLow r).clock.pfailRun = true ∧ 2 ∈ (s.railLow r).bridge.blank ∧
      (s.railLow r).displayRuns = false := by
  have hx : Keeps ⟨[.clock], [(0x204001, 0x204001)]⟩ s ((s.pute 0x2040 r 0x01 0).railNoted r) :=
    Keeps.upd (.step (.refl _ s) (State.pute_keeps1 ..)) (hck := .inl rfl)
  have hv : ((s.pute 0x2040 r 0x01 0).railNoted r).ve 0x2040 r 0x01 = 0 := ve_pute_self ..
  have hbad := railNoted_bad (s.pute 0x2040 r 0x01 0) r
  have hn : ((s.pute 0x2040 r 0x01 0).railNoted r).clock.resetN = true ∧
      ((s.pute 0x2040 r 0x01 0).railNoted r).clock.pfailRun = false := ⟨hr, hrun⟩
  have he : s.railLow r = if (s.railFault r 0).clock.resetN then (s.railFault r 0).powerFail else s.railFault r 0 := rfl
  rw [he, railFault_eq s r 0 hr]
  generalize (s.pute 0x2040 r 0x01 0).railNoted r = x at hx hv hbad hn
  have hl := State.log_keeps ((x.ince 0x2040 r 0x02).inc 0x2002 0x06) (noteSpec 2 0x2040 r 0x02 0 0 0)
  have hs : Steady x (((x.ince 0x2040 r 0x02).inc 0x2002 0x06).log (noteSpec 2 0x2040 r 0x02 0 0 0)) :=
    ((Steady.ofKeeps (State.ince_keeps1 ..)).step (State.inc_keeps1 ..)).step (State.log_keeps ..)
  have hf := powerFail_fails _ (hs.pfailRun_eq.trans hn.2)
  rw [if_pos (hs.resetN_eq.trans hn.1)]
  have hp := State.powerFail_keeps (((x.ince 0x2040 r 0x02).inc 0x2002 0x06).log (noteSpec 2 0x2040 r 0x02 0 0 0))
  refine ⟨?_, ?_, ?_, ?_, hf.runs, hf.blank, hf.stopped⟩
  · rw [hp.ve 0x2040 r 0x01 (by decide +kernel), hl.ve 0x2040 r 0x01 (by decide +kernel),
      (State.inc_keeps1 ..).ve 0x2040 r 0x01 (by decide +kernel),
      (State.ince_keeps1 ..).ve 0x2040 r 0x01 (by decide +kernel), hv]
  · have hinc : Keeps ⟨[.memory, .logs], (0x200206, 0x200206) :: logKeys⟩ (x.ince 0x2040 r 0x02) _ :=
      .step (.step (.refl _ _) (State.inc_keeps1 _ 0x2002 0x06)) (State.log_keeps _ (noteSpec 2 0x2040 r 0x02 0 0 0))
    exact counted_within (.refl ⟨[], []⟩ s) (counted_between hx hinc) hp
  · have hince : Keeps ⟨[.clock], [(0x204001, 0x204002)]⟩ s (x.ince 0x2040 r 0x02) :=
      (hx.mono (by decide +kernel)).step (State.ince_keeps1 ..)
    exact counted_within (.refl ⟨[], []⟩ s) (counted_between hince hl) hp
  · rw [hf.badRails_eq, hs.badRails_eq]
    exact hbad

end

end Sys2Proof.Machine
end

section
set_option Elab.async false
namespace Sys2Proof.Machine

/-! ### Island errors and the hold of the device (R404 to R406) -/

section
variable (s : State)

theorem openIsland_steady (i : Nat) : Steady s (s.openIsland i) :=
  ((Steady.ofKeeps (State.pute_keeps1 ..)).step (State.pute_keeps1 ..)).trans (startRamp_steady ..)

theorem openNext_steady : Steady s s.openNext := by
  have h0 (l : List Nat) (o : Option Nat) :
      Steady s { s with clock := { s.clock with opening := l, openingNow := o } } := ⟨rfl, rfl⟩
  unfold State.openNext
  split
  · exact ⟨rfl, rfl⟩
  · exact .ite ((h0 ..).trans (startRamp_steady ..)) ((h0 ..).trans (openIsland_steady ..))

theorem openPast_steady (i : Nat) : Steady s (s.openPast i) := .ite (openNext_steady s) (.refl s)

/-- The error of an island is counted and logged, and its recovery begins. -/
def State.islandNoted (i : Nat) : State :=
  ((s.inc 0x1801 0x05).log (domSpec domIsland i 0 2 0x1801 0 0x05)).recover domIsland i 0

/-- An island is isolated for its restart. -/
def State.islandIsolated (i : Nat) : State :=
  { s with clock := { s.clock with
    restarting := s.clock.restarting ++ [i], opening := s.clock.opening.filter (· != i) } }

theorem islandError_eq {i : Nat} (hh : s.v 0x1890 0x01 ≠ 6) (hi : i ≠ 0) (hr : i ∉ s.clock.restarting) :
    s.islandError i = ((((s.islandNoted i).islandStops i).stopIsland i).islandIsolated i).openPast i := by
  unfold State.islandError
  dsimp only
  rw [if_neg hh, if_neg hi, if_neg (by simpa using hr)]
  rfl

theorem islandError_isolates {i : Nat} (hh : s.v 0x1890 0x01 ≠ 6) (hi : i ≠ 0) (hr : i ∉ s.clock.restarting) :
    i ∈ (s.islandError i).clock.restarting ∧ counted s (s.islandError i) 0x1801 0 0x05 := by
  rw [islandError_eq s hh hi hr]
  constructor
  · rw [(openPast_steady ..).restarting_eq]
    exact List.mem_append_right _ (List.mem_singleton_self i)
  · have hnoted : Keeps ⟨[.memory, .logs], logKeys⟩ (s.inc 0x1801 0x05) (s.islandNoted i) :=
      .step (.step (.refl _ _) (State.log_keeps ..)) (State.recover_keeps ..)
    have hstop : Keeps ⟨islandFoot.parts, (0x180101, 0x180104) :: islandFoot.keys.filter fun r =>
        decide (r.2 < 0x180105) || decide (0x180105 < r.1)⟩ (s.islandNoted i)
        ((((s.islandNoted i).islandStops i).stopIsland i).islandIsolated i) :=
      Keeps.upd (.step (.step (.refl _ _) (State.islandStops_keeps ..)) (State.stopIsland_keeps ..)) (hck := .inl rfl)
    exact counted_within (.refl ⟨[], []⟩ s) (counted_between (.refl ⟨[], []⟩ s) hnoted)
      (hstop.step (State.openPast_keeps ..))

/-- A wheel that coasts while display does not run asks for no stop. -/
theorem coast_stopped (st : Nat) (h : s.displayRuns = false) : (s.coast st).displayRuns = false := by
  have hfreeze : Keeps ⟨[.out, .loop, .clock, .mgmt, .health], [(0x101107, 0x101107),
      (0x103003, 0x103003), (0x680000, 0x6810FF)]⟩ s
      ((((s.disengage.freezeLoop 48 true).freezeLoop 49 true).putTorque 0).put 0x6801 0x05 0) :=
    .step (.step (.step (.step ((State.disengage_keeps s).mono (by decide +kernel)) (State.freezeLoop_keeps ..))
      (State.freezeLoop_keeps ..)) (State.putTorque_keeps ..)) (State.put_keeps1 ..)
  have hrest (x : State) (l : Loop) (hx : x.displayRuns = false) :
      (({ x with loop := l } : State).requestStop.putWheel st).displayRuns = false := by
    have hl : ({ x with loop := l } : State).displayRuns = false := hx
    rw [State.requestStop, if_neg (Bool.eq_false_iff.1 hl)]
    exact (displayRuns_congr ((State.putWheel_keeps ..).v_eq 0x5001 0x03)).trans hl
  have hready := (displayRuns_congr (hfreeze.v_eq 0x5001 0x03)).trans h
  unfold State.coast
  dsimp only
  split
  · exact (displayRuns_congr ((State.emit_keeps ..).v_eq 0x5001 0x03)).trans (hrest _ _ hready)
  · exact (displayRuns_congr ((State.sendDrive_keeps _).v_eq 0x5001 0x03)).trans (hrest _ _ hready)

theorem deviceHold_eq (h : s.v 0x1890 0x01 ≠ 6) : s.deviceHold =
    (((((if (((s.blankQuiet 6).stopNow).park [0, 1]).wheel = 11 then ((s.blankQuiet 6).stopNow).park [0, 1]
      else (((s.blankQuiet 6).stopNow).park [0, 1]).coast 11).selfRefresh.closeIslands).inc 0x1801 0x06).log
        (domSpec domDevice 0 0 2 0x1801 0 0x06)).put 0x1890 0x01 6) := if_neg h

/-- What a device that holds shows: display is off. -/
theorem deviceHold_holds (h : s.v 0x1890 0x01 ≠ 6) :
    s.deviceHold.v 0x1890 0x01 = 6 ∧ s.deviceHold.displayRuns = false := by
  rw [deviceHold_eq s h]
  refine ⟨v_put_self .., ?_⟩
  have hend := stopNow_displayRuns (s.blankQuiet 6)
  generalize (s.blankQuiet 6).stopNow = x at hend
  have hpark := (State.park_keeps x [0, 1]).v_eq 0x5001 0x03
  generalize x.park [0, 1] = y at hpark
  have hy : y.displayRuns = false := (displayRuns_congr hpark).trans hend
  have hcoast : (if y.wheel = 11 then y else y.coast 11).displayRuns = false := by
    split
    · exact hy
    · exact coast_stopped y 11 hy
  generalize (if y.wheel = 11 then y else y.coast 11) = z at hcoast
  refine (displayRuns_congr ?_).trans hcoast
  rw [(State.put_keeps1 ..).v_eq 0x5001 0x03, (State.log_keeps ..).v_eq 0x5001 0x03,
    (State.inc_keeps1 ..).v_eq 0x5001 0x03, (State.closeIslands_keeps _).v_eq 0x5001 0x03,
    (State.selfRefresh_keeps _).v_eq 0x5001 0x03]

theorem islandError_core (h : s.v 0x1890 0x01 ≠ 6) :
    (s.islandError 0).v 0x1890 0x01 = 6 ∧ (s.islandError 0).displayRuns = false := by
  have he : s.islandError 0 = (s.log (domSpec domIsland 0 0 2 0x1801 0 0x05)).deviceHold := by
    unfold State.islandError
    dsimp only
    rw [if_neg h, if_pos rfl]
  rw [he]
  exact deviceHold_holds _ (by rwa [(State.log_keeps ..).v_eq 0x1890 0x01])

/-! ### The end of an island's restart (R406) -/

/-- An island returns from its restart. -/
def State.islandBack (i : Nat) : State :=
  { s with clock := { s.clock with restarting := s.clock.restarting.filter (· != i) } }

/-- The members that show a port or a lane. -/
def portKeys : List (Nat × Nat) := [(0x300202, 0x300205), (0x301001, 0x301004), (0x700305, 0x700309),
  (0x701001, 0x701006)]

theorem portDown_keepsQuiet (p : Nat) : Keeps ⟨[.out, .ingress, .lanes], portKeys⟩ s (s.portDown p false) := by
  have h1 : Keeps ⟨[.out, .ingress, .lanes], portKeys⟩ s
      (((s.dropPartial p).relayPortDown p).putGroup (meshLane p) Group.reset) :=
    .step (.step (.step (.refl _ s) (State.dropPartial_keeps ..)) (State.relayPortDown_keeps ..))
      (State.putGroup_keeps ..)
  exact .step (.step (.step (.step (.step h1 (State.pute_keeps1 ..)) (State.pute_keeps1 ..)) (State.pute_keeps1 ..))
    (State.pute_keeps1 ..)) (State.pute_keeps1 ..)

theorem bringUpLanes_keepsQuiet : Keeps ⟨[.out, .ingress, .lanes], portKeys⟩ s s.bringUpLanes := by
  have hports : Keeps ⟨[.out, .ingress, .lanes], portKeys⟩ s
      ((List.range 8).foldl (fun (st : State) p => st.portDown p false) s) :=
    .foldl (.refl _ s) fun y p => portDown_keepsQuiet y p
  have hlanes (l : Lanes) : Keeps ⟨[.out, .ingress, .lanes], portKeys⟩ s
      ((List.range 192).foldl (fun (st : State) l => if st.laneState l = 3 then st else st.pute 0x7010 l 0x01 0)
        { (List.range 8).foldl (fun (st : State) p => st.portDown p false) s with lanes := l }) :=
    .foldl (Keeps.upd hports (hln := .inl rfl)) fun y l =>
      .ite (fun _ => .refl _ y) fun _ => .step (.refl _ y) (State.pute_keeps1 ..)
  unfold State.bringUpLanes
  exact .foldl (.ite (fun _ => (hlanes _).step (State.bringUpPanel_keeps _)) fun _ => hlanes _) fun y p =>
    .step (.refl _ y) (State.portTrain_keeps y p)

theorem islandResumes_logs (i : Nat) : (s.islandResumes i).logs = s.logs := by
  unfold State.islandResumes
  split
  · split
    · exact (State.releaseNext_keeps s).logs_eq
    · rfl
  · exact (State.halfReturns_keeps ..).logs_eq
  · exact (State.halfReturns_keeps ..).logs_eq
  · rw [(State.releaseAll_keeps ..).logs_eq, (State.trainCourses_keeps s).logs_eq]
  · exact (bringUpLanes_keepsQuiet s).logs_eq
  · split
    · exact (State.startCommit_keeps s).logs_eq
    · rfl
  · rfl

theorem recovered_none (dom i : Nat) : (s.recovered dom i).recovering? dom i = none := by
  simp only [State.recovering?, State.recovered, Option.map_eq_none_iff, List.find?_eq_none, List.mem_filter]
  rintro r ⟨-, hr⟩ hr'
  simp [hr'] at hr

theorem startRamp_ramps {i : Nat} (h4 : s.ve 0x2010 i 0x04 = 1) (h1 : s.ve 0x2010 i 0x01 ≠ s.ratioTarget i) :
    i ∈ (s.startRamp i).clock.ramping := by
  unfold State.startRamp
  split
  · simp
  next h =>
    have hc : s.clock.ramping.contains i = true := by
      by_contra hn
      exact h ⟨h4, h1, by simpa using hn⟩
    exact List.contains_iff_mem.1 hc

theorem openIsland_opens (i : Nat) : (s.openIsland i).ve 0x2010 i 0x01 = 32 ∧ (s.openIsland i).ve 0x2010 i 0x04 = 1 ∧
    (s.ratioTarget i ≠ 32 → i ∈ (s.openIsland i).clock.ramping) := by
  have h1 : ((s.pute 0x2010 i 0x01 32).pute 0x2010 i 0x04 1).ve 0x2010 i 0x01 = 32 := by
    rw [ve_pute_ne (by unfold mkey; omega), ve_pute_self]
  have h4 : ((s.pute 0x2010 i 0x01 32).pute 0x2010 i 0x04 1).ve 0x2010 i 0x04 = 1 := ve_pute_self ..
  have ht : ((s.pute 0x2010 i 0x01 32).pute 0x2010 i 0x04 1).ratioTarget i = s.ratioTarget i := by
    have hne (e m : Nat) (hm : m = 2 ∨ m = 3) :
        ((s.pute 0x2010 i 0x01 32).pute 0x2010 i 0x04 1).ve 0x2010 e m = s.ve 0x2010 e m := by
      rw [ve_pute_ne (by unfold mkey; omega), ve_pute_ne (by unfold mkey; omega)]
    simp only [State.ratioTarget, hne _ 2 (.inl rfl), hne _ 3 (.inr rfl)]
  have hk := State.startRamp_keeps ((s.pute 0x2010 i 0x01 32).pute 0x2010 i 0x04 1) i
  exact ⟨(hk.ve_eq ..).trans h1, (hk.ve_eq ..).trans h4, fun hne => startRamp_ramps _ h4 (by rw [h1, ht]; exact hne.symm)⟩

theorem islandRestarted_returns {i : Nat} (hr : i ∈ s.clock.restarting) (hh : s.v 0x1890 0x01 ≠ 6)
    (hl : s.v 0x2001 0x01 = 2) : i ∉ (s.islandRestarted i).clock.restarting ∧
      (s.islandRestarted i).ve 0x2010 i 0x01 = 32 ∧ (s.islandRestarted i).ve 0x2010 i 0x04 = 1 ∧
      (s.ratioTarget i ≠ 32 → i ∈ (s.islandRestarted i).clock.ramping) ∧
      (s.islandRestarted i).recovering? domIsland i = none := by
  have he : s.islandRestarted i = (((s.islandBack i).openIsland i).recovered domIsland i).islandResumes i :=
    if_pos ⟨by simpa using hr, hh, hl⟩
  have hback : i ∉ (s.islandBack i).clock.restarting := by simp [State.islandBack]
  obtain ⟨h1, h4, hramp⟩ := openIsland_opens (s.islandBack i) i
  have hsteady := openIsland_steady (s.islandBack i) i
  have hk := State.islandResumes_keeps (((s.islandBack i).openIsland i).recovered domIsland i) i
  rw [he]
  refine ⟨?_, ?_, ?_, ?_, ?_⟩
  · rw [hk.clock_eq]
    exact hsteady.restarting_eq ▸ hback
  · exact (hk.ve 0x2010 i 0x01 (by decide +kernel)).trans h1
  · exact (hk.ve 0x2010 i 0x04 (by decide +kernel)).trans h4
  · rw [hk.clock_eq]
    exact hramp
  · rw [State.recovering?, islandResumes_logs]
    exact recovered_none ..

end

theorem clockFails_runs {s : State} {t : Nat} {slip : Bool} {c : Instr}
    (he : exec c s = .next ((s.enter t).clockFails slip).settle) (hr : s.clock.resetN = true) (hl : s.v 0x2001 0x01 = 2)
    (hc : s.calm = true) : runs c s ((s.enter t).lockLost slip) := by
  have hf : (s.enter t).clockFails slip = (s.enter t).lockLost slip := by
    have hr' : (s.enter t).clock.resetN = true := hr
    have hl' : (s.enter t).v 0x2001 0x01 = 2 := hl
    unfold State.clockFails
    rw [hr', hl']
    rfl
  refine he.trans (congrArg Host.Outcome.next ?_)
  rw [hf]
  exact settle_of_calm (calmly_lockLost (s.enter t) slip hc).2

/-- Settles O43: what the loss of the reference, a slip, the supply inputs and island errors do. -/
theorem supplyAndIslandFaults : Obligations.SupplyAndIslandFaults := by
  refine ⟨fun s t hr hl hc => ?_, fun s t hr hl hc => ?_, fun s t hr hp hrun hc => ?_, fun s t r hlt hr hrun hc => ?_,
    fun s t i hi hlt hh hni hc => ?_, fun s t hh hc => ?_, fun s t i hlt hi hh hl hc => ?_⟩
  · obtain ⟨h1, h2, h3, h4, h5, h6, h7⟩ := lockLost_shows (s.enter t) false
    exact ⟨_, clockFails_runs (slip := false) rfl hr hl hc, h1, h2, h3, h4, h5, h6, h7⟩
  · obtain ⟨h1, h2, h3, h4, h5, h6, h7⟩ := lockLost_shows (s.enter t) true
    exact ⟨_, clockFails_runs (slip := true) rfl hr hl hc, h1, h2, h3, h4, h5, h6, h7⟩
  · exact ⟨_, congrArg Host.Outcome.next (settle_of_calm (calmly_pfailFalls (s.enter t) hc).2),
      pfailFalls_fails (s.enter t) hr hp hrun⟩
  · exact ⟨_, (if_pos (decide_eq_true hlt)).trans (congrArg Host.Outcome.next
      (settle_of_calm (calmly_railLow (s.enter t) r hc).2)), railLow_fails (s.enter t) hr hrun⟩
  · exact ⟨_, (if_pos (decide_eq_true hlt)).trans (congrArg Host.Outcome.next
      (settle_of_calm (calmly_islandError (s.enter t) i hc).2)), islandError_isolates (s.enter t) hh (by omega) hni⟩
  · exact ⟨_, congrArg Host.Outcome.next (settle_of_calm (calmly_islandError (s.enter t) 0 hc).2),
      islandError_core (s.enter t) hh⟩
  · have hk := State.islandRestarted_keeps (s.enter t) i
    exact ⟨_, (if_pos (decide_eq_true hlt)).trans (congrArg Host.Outcome.next
      (settle_of_calm ((Calmly.ofKeeps hk) hc).2)), islandRestarted_returns (s.enter t) hi hh hl⟩

end Sys2Proof.Machine
end

section
set_option Elab.async false
namespace Sys2Proof.Machine

/-! ### What a reset leaves (R314, R315, R394) -/

section
variable (s : State)

theorem afterReset_dict : s.afterReset.dict = s.dict.filter fun e => outlivesReset e.1 := rfl

/-- After a reset a member that does not outlive it reads as its default. -/
theorem afterReset_ve (o e m : Nat) (h : outlivesReset (mkey o e m) = false) :
    s.afterReset.ve o e m = dfltAt (mkey o e m) := by
  have hnone : tget? (mkey o e m) (s.dict.filter fun x => outlivesReset x.1) = none :=
    tget?_eq_none fun x hx hk => by
      have hlives := (List.mem_filter.1 hx).2
      rw [hk, h] at hlives
      exact Bool.noConfusion hlives
  rw [State.ve, afterReset_dict, hnone, Option.getD_none]

/-- What a reset leaves, with the levels at the balls. -/
def State.leftByReset : State := s.afterReset.showLevels s

theorem leftByReset_v {o m : Nat} (h : outlivesReset (mkey o 0 m) = false)
    (hf : Foot.free ⟨[], [(0x580104, 0x580104), (0x900005, 0x900005)]⟩ (mkey o 0 m) = true) :
    s.leftByReset.v o m = dfltAt (mkey o 0 m) :=
  ((State.showLevels_keeps s.afterReset s).ve o 0 m hf).trans (afterReset_ve s o 0 m h)

/-- The outputs that a reset drives. -/
def State.resetOutputs : List Output :=
  if s.clock.hirq then allStrings.map Output.gateDark ++ [.driveBreak] ++ [.hirq false]
  else allStrings.map Output.gateDark ++ [.driveBreak]

theorem resetAssert_eq : s.resetAssert = s.leftByReset.emits s.resetOutputs := rfl

theorem leftByReset_seq : s.leftByReset.seq = Seq.reset := rfl

theorem leftByReset_memory : s.leftByReset.memory = s.memory.retained := rfl

theorem leftByReset_mgmt : s.leftByReset.mgmt = { Mgmt.reset with fw := s.mgmt.fw } := rfl

theorem leftByReset_clock : s.leftByReset.clock = { Clock.reset with
    hclk := s.clock.hclk, pfail := s.clock.pfail, chatter := s.clock.chatter, edges := s.clock.edges,
    badRails := s.clock.badRails, t0 := s.clock.t0 } := rfl

theorem gateDark_mem_resetOutputs {n : Nat} (hn : n < 48) : Output.gateDark n ∈ s.resetOutputs := by
  have hmem : Output.gateDark n ∈ allStrings.map Output.gateDark :=
    List.mem_map_of_mem (List.mem_range.2 hn)
  unfold State.resetOutputs
  split
  · exact List.mem_append_left _ (List.mem_append_left _ hmem)
  · exact List.mem_append_left _ hmem

theorem resetAssert_leaves (t : Nat) :
    ∃ s', runs (.resetAssert t) s s' ∧ s'.clock.resetN = false ∧ s'.displayRuns = false ∧
      s'.wheel = 0 ∧ s'.seq.running = false ∧ s'.memory.requests = [] ∧ s'.memory.kept = s.memory.kept ∧
      s'.mgmt.masters = [] ∧ ∀ n, n < 48 → Output.gateDark n ∈ s'.out := by
  have hv {o m : Nat} (h : outlivesReset (mkey o 0 m) = false)
      (hf : Foot.free ⟨[], [(0x580104, 0x580104), (0x900005, 0x900005)]⟩ (mkey o 0 m) = true) :
      ((s.enter t).leftByReset.emits (s.enter t).resetOutputs).v o m = dfltAt (mkey o 0 m) :=
    leftByReset_v (s.enter t) h hf
  refine ⟨(s.enter t).resetAssert, rfl, ?_⟩
  rw [resetAssert_eq]
  refine ⟨rfl, ?_, ?_, rfl, rfl, rfl, rfl, fun n hn => ?_⟩
  · exact stopped_of_state (.inl ((hv (o := 0x5001) (m := 0x03) (by decide +kernel) (by decide +kernel)).trans
      (by decide +kernel)))
  · exact (hv (o := 0x6801) (m := 0x01) (by decide +kernel) (by decide +kernel)).trans (by decide +kernel)
  · exact List.mem_append_right _ (gateDark_mem_resetOutputs (s.enter t) hn)

/-- The start-up begins at root cycle `t`: the clock starts, and the PLL acquires when HCLK runs. -/
def State.startsAt (t : Nat) : State :=
  { s with now := t, clock := { s.clock with resetN := true, t0 := t, acqStart := t },
           logs := { s.logs with starts := s.logs.starts + 1 } }

/-- Steps 1 and 2 of a start-up are complete. -/
def State.acquiring (hclk : Bool) : State :=
  (((s.putStep 1).putStep 2).put 0x2001 0x01 (if hclk then 1 else 0)).coreOnHclk

theorem resetRelease_eq (t : Nat) : s.resetRelease t =
    if ((s.leftByReset.startsAt t).acquiring s.clock.hclk).clock.pfail = true ∨
        ((s.leftByReset.startsAt t).acquiring s.clock.hclk).clock.chatter.contains 0 then
      ((s.leftByReset.startsAt t).acquiring s.clock.hclk).powerFailLogged
    else (s.leftByReset.startsAt t).acquiring s.clock.hclk := rfl

theorem Steady.chatter_eq {s u : State} (h : Steady s u) : u.clock.chatter = s.clock.chatter :=
  congrArg (·.chatter) h.clock

theorem Steady.t0_eq {s u : State} (h : Steady s u) : u.clock.t0 = s.clock.t0 := congrArg (·.t0) h.clock

theorem coreOnHclk_steady : Steady s s.coreOnHclk := by
  unfold State.coreOnHclk
  refine .foldl (fun x i => ?_) _ s
  exact ⟨rfl, rfl⟩

theorem acquiring_steady (hclk : Bool) : Steady s (s.acquiring hclk) :=
  (((Steady.ofKeeps (State.putStep_keeps ..)).step (State.putStep_keeps ..)).step (State.put_keeps1 ..)).trans
    (coreOnHclk_steady _)

theorem acquiring_now (hclk : Bool) : (s.acquiring hclk).now = s.now :=
  (State.coreOnHclk_keeps (((s.putStep 1).putStep 2).put 0x2001 0x01 (if hclk then 1 else 0))).now_eq

theorem acquiring_shows (hclk : Bool) : (s.acquiring hclk).v 0x2001 0x01 = (if hclk then 1 else 0) ∧
    (s.acquiring hclk).stepDone 1 = true ∧ (s.acquiring hclk).stepDone 2 = true ∧
    (s.acquiring hclk).stepDone 3 = s.stepDone 3 ∧ (s.acquiring hclk).v 0x1890 0x01 = s.v 0x1890 0x01 := by
  have hcore := State.coreOnHclk_keeps (((s.putStep 1).putStep 2).put 0x2001 0x01 (if hclk then 1 else 0))
  have hput := State.put_keeps1 ((s.putStep 1).putStep 2) 0x2001 0x01 (if hclk then 1 else 0)
  have hbits (k : Nat) : (s.acquiring hclk).stepDone k = ((s.putStep 1).putStep 2).stepDone k :=
    bit_congr ((hcore.v_eq 0x1890 0x02).trans (hput.v_eq 0x1890 0x02)) k
  refine ⟨(hcore.v_eq 0x2001 0x01).trans (v_put_self ..), ?_, ?_, ?_, ?_⟩
  · rw [hbits]
    exact (bit_putBit_ne _ _ _ (by decide) _).trans (bit_putBit_self ..)
  · rw [hbits]
    exact bit_putBit_self ..
  · rw [hbits]
    exact (bit_putBit_ne _ _ _ (by decide) _).trans (bit_putBit_ne _ _ _ (by decide) _)
  · exact (hcore.v_eq 0x1890 0x01).trans ((hput.v_eq 0x1890 0x01).trans
      (((State.putStep_keeps ..).v_eq 0x1890 0x01).trans ((State.putStep_keeps ..).v_eq 0x1890 0x01)))

theorem resetRelease_starts (t : Nat) (hp : s.clock.pfail = false) (hc : s.clock.chatter = []) :
    ∃ s', runs (.resetRelease t) s s' ∧ s'.clock.resetN = true ∧ s'.now = t ∧ s'.clock.t0 = t ∧
      s'.v 0x2001 0x01 = (if s.clock.hclk then 1 else 0) ∧ s'.stepDone 1 = true ∧
      s'.stepDone 2 = true ∧ s'.stepDone 3 = false ∧ s'.v 0x1890 0x01 = 0 := by
  have hleft {o m : Nat} (h : outlivesReset (mkey o 0 m) = false)
      (hf : Foot.free ⟨[], [(0x580104, 0x580104), (0x900005, 0x900005)]⟩ (mkey o 0 m) = true) :
      ((s.enter t).leftByReset.startsAt t).v o m = dfltAt (mkey o 0 m) := leftByReset_v (s.enter t) h hf
  have hclock : ((s.enter t).leftByReset.startsAt t).clock.pfail = false ∧
      ((s.enter t).leftByReset.startsAt t).clock.chatter = [] := ⟨hp, hc⟩
  have hstart : ((s.enter t).leftByReset.startsAt t).now = t ∧
      ((s.enter t).leftByReset.startsAt t).clock.resetN = true ∧
      ((s.enter t).leftByReset.startsAt t).clock.t0 = t := ⟨rfl, rfl, rfl⟩
  refine ⟨(s.enter t).resetRelease t, rfl, ?_⟩
  rw [resetRelease_eq]
  generalize (s.enter t).leftByReset.startsAt t = x at hleft hclock hstart
  have hs := acquiring_steady x (s.enter t).clock.hclk
  have hn := acquiring_now x (s.enter t).clock.hclk
  obtain ⟨hv, h1, h2, h3, h4⟩ := acquiring_shows x (s.enter t).clock.hclk
  obtain ⟨hpx, hcx⟩ := hclock
  obtain ⟨hnow, hr, ht⟩ := hstart
  rw [if_neg (by rw [hs.pfail_eq, hs.chatter_eq, hpx, hcx]; decide)]
  refine ⟨hs.resetN_eq.trans hr, hn.trans hnow, hs.t0_eq.trans ht, hv, h1, h2, h3.trans ?_, h4.trans ?_⟩
  · rw [State.stepDone, State.bit, hleft (by decide +kernel) (by decide +kernel)]
    decide +kernel
  · exact (hleft (by decide +kernel) (by decide +kernel)).trans (by decide +kernel)

/-! ### The retained store and the firmware of a start-up (R275, R346, R394) -/

theorem loadFences_keepsUnits : Keeps ⟨[.seq, .health], [(0x189101, 0x189108), (0x380101, 0x380104),
    (0x381001, 0x381001), (0x382003, 0x382003), (0x480104, 0x480105), (0x481001, 0x481001), (0x500103, 0x500103)]⟩ s
    s.loadFences := by
  unfold State.loadFences
  refine .step (.step (.foldl (.step (.step (.foldl (.foldl (.refl _ s) fun u n => ?_) fun u n => ?_)
    (promote_keepsPool ..)) (promote_keepsPool ..)) fun u k => ?_) (State.showClanes_keeps _)) (State.showUnits_keeps _)
  · exact .step (.refl _ u) (State.pute_keeps1 ..)
  · exact .step (.refl _ u) (State.pute_keeps1 ..)
  · exact .step (.refl _ u) (State.clanRest_keeps ..)

/-- What the retained store holds is read, damage and all. -/
def State.storeRead (s : State) (d : RestoreDamage) : State :=
  let s2 := (((d.tuning.foldl State.restoreTuning (d.records.foldl State.restoreRecord s)).cutHalf 0 d.half0).cutHalf 1
    d.half1).replayJournal
  (if s2.bit 0x9000 0x01 0 then s2.log (noteSpec 2 0x9000 0 0x01 0 0 0) else s2).loadKept

/-- A store that has been read takes effect. -/
def State.storeShown : State := (s.put 0x5001 0x04 (s.v 0x5000 0x01)).loadFences.showRecord

theorem restoreDone_eq (d : RestoreDamage) (hr : s.clock.resetN = true) (h3 : s.stepDone 3 = true)
    (h4 : s.stepDone 4 = false) : s.restoreDone d =
      (if (s.storeRead d).storeShown.shutdownPending then (s.storeRead d).storeShown.putBit 0x2801 0x05 5 true
        else (s.storeRead d).storeShown).putStep 4 := if_pos ⟨hr, h3, by simp [h4]⟩

theorem storeShown_mode : s.storeShown.v 0x5001 0x04 = s.storeShown.v 0x5000 0x01 := by
  have hf := loadFences_keepsUnits (s.put 0x5001 0x04 (s.v 0x5000 0x01))
  have hr := State.showRecord_keeps (s.put 0x5001 0x04 (s.v 0x5000 0x01)).loadFences
  have hput := State.put_keeps1 s 0x5001 0x04 (s.v 0x5000 0x01)
  rw [State.storeShown, hr.v_eq 0x5001 0x04, hf.v_eq 0x5001 0x04, v_put_self, hr.v_eq 0x5000 0x01, hf.v_eq 0x5000 0x01,
    hput.v_eq 0x5000 0x01]

theorem retainedRestoreDone_completes (t : Nat) (d : RestoreDamage) (hr : s.clock.resetN = true)
    (h3 : s.stepDone 3 = true) (h4 : s.stepDone 4 = false) :
    ∃ s', runs (.retainedRestoreDone t d) s s' ∧ s'.stepDone 4 = true ∧ s'.v 0x5001 0x04 = s'.v 0x5000 0x01 := by
  refine ⟨(s.enter t).restoreDone d, rfl, ?_⟩
  rw [restoreDone_eq (s.enter t) d hr h3 h4]
  refine ⟨bit_putBit_self .., ?_⟩
  have hm := storeShown_mode ((s.enter t).storeRead d)
  rw [(State.putStep_keeps ..).v_eq 0x5001 0x04, (State.putStep_keeps ..).v_eq 0x5000 0x01]
  split
  · exact ((State.putBit_keeps1 ..).v_eq 0x5001 0x04).trans (hm.trans ((State.putBit_keeps1 ..).v_eq 0x5000 0x01).symm)
  · exact hm

/-- The slots show what they hold. -/
def State.slotsMarked : State :=
  let mark := fun (st : State) (n : Nat) =>
    st.pute 0x9100 n 0x02 (if st.slotValid n then 2 else if (st.fwImage? n).isSome then 3 else 0)
  mark (mark s 0) 1

/-- A slot runs. -/
def State.slotRuns (n : Nat) : State := (s.pute 0x9100 n 0x02 4).put 0x9101 0x05 n

/-- The dictionary is served. -/
def State.served : State := { s with mgmt := { s.mgmt with service := true } }

theorem bootFirmware_eq (h : s.slotValid (s.v 0x9101 0x03) = true) :
    s.bootFirmware = s.slotsMarked.slotRuns (s.v 0x9101 0x03) := if_pos h

theorem slotRuns_shows (n : Nat) : (s.slotRuns n).v 0x9101 0x05 = n ∧ (s.slotRuns n).fwState n = 4 :=
  ⟨v_put_self .., ((State.put_keeps1 ..).ve 0x9100 n 0x02 (by decide +kernel)).trans (ve_pute_self ..)⟩

theorem firmwareBootDone_runs (t : Nat) (h4 : s.stepDone 4 = true) (h5 : s.stepDone 5 = false)
    (hn : s.v 0x9101 0x03 < 2) (hv : s.slotValid (s.v 0x9101 0x03) = true) :
    ∃ s', runs (.firmwareBootDone t) s s' ∧ s'.stepDone 5 = true ∧ s'.mgmt.service = true ∧
      s'.v 0x9101 0x05 = s.v 0x9101 0x03 ∧ s'.fwState (s.v 0x9101 0x03) = 4 := by
  have hboot : (s.enter t).bootFirmware = (s.enter t).slotsMarked.slotRuns (s.v 0x9101 0x03) := bootFirmware_eq _ hv
  obtain ⟨hv5, hf4⟩ := slotRuns_shows (s.enter t).slotsMarked (s.v 0x9101 0x03)
  have he : (s.enter t).firmwareBootDone = if (s.enter t).bootFirmware.served.firmwareRuns then
      if ((s.enter t).bootFirmware.served.putStep 5).clock.pfailRun ∨
          ((s.enter t).bootFirmware.served.putStep 5).shutdownPending then (s.enter t).bootFirmware.served.putStep 5
      else ((s.enter t).bootFirmware.served.putStep 5).openIslands
      else (s.enter t).bootFirmware.served := if_pos ⟨h4, by rw [show (s.enter t).stepDone 5 = false from h5]; rfl⟩
  refine ⟨(s.enter t).firmwareBootDone, rfl, ?_⟩
  rw [he, hboot]
  generalize (s.enter t).slotsMarked.slotRuns (s.v 0x9101 0x03) = x at hv5 hf4
  have hruns : x.served.firmwareRuns = true := by
    have hcases : s.v 0x9101 0x03 = 0 ∨ s.v 0x9101 0x03 = 1 := by omega
    have hf4' : x.served.fwState (s.v 0x9101 0x03) = 4 := hf4
    obtain h0 | h1 := hcases
    · simp [State.firmwareRuns, h0 ▸ hf4']
    · simp [State.firmwareRuns, h1 ▸ hf4']
  have hstep : (x.served.putStep 5).stepDone 5 = true := bit_putBit_self ..
  have hstepped : (x.served.putStep 5).v 0x9101 0x05 = s.v 0x9101 0x03 ∧
      (x.served.putStep 5).fwState (s.v 0x9101 0x03) = 4 ∧ (x.served.putStep 5).mgmt.service = true :=
    ⟨((State.putStep_keeps ..).v_eq 0x9101 0x05).trans hv5,
      ((State.putStep_keeps ..).ve 0x9100 _ 0x02 (by decide +kernel)).trans hf4, rfl⟩
  rw [if_pos hruns]
  generalize x.served.putStep 5 = y at hstep hstepped
  obtain ⟨hy5, hy4, hserve⟩ := hstepped
  split
  · exact ⟨hstep, hserve, hy5, hy4⟩
  · have hk := State.openIslands_keeps y
    exact ⟨(bit_congr (hk.v_eq 0x1890 0x02) 5).trans hstep, (congrArg Mgmt.service hk.mgmt_eq).trans hserve,
      (hk.v_eq 0x9101 0x05).trans hy5, (hk.ve 0x9100 _ 0x02 (by decide +kernel)).trans hy4⟩

/-! ### Restarts (R392, R398) -/

/-- The power-fail sequence is over, and what it blanked is released. -/
def State.warmed : State :=
  { s with
    bridge := { s.bridge with
      blank := s.bridge.blank.filter fun x => x != 2 && x != 6 && x != 7
      release := s.bridge.release.filter fun x => x != 2 && x != 6 && x != 7 }
    clock := { s.clock with pfailRun := false, pfailReleased := false }
    logs := { s.logs with recovering := [] } }

theorem warmRestart_eq : s.warmRestart =
    ((s.warmed.put 0x1890 0x01 0).put 0x1890 0x02 (s.warmed.v 0x1890 0x02 % 64)).fullClear.openGates.openIslands := rfl

theorem openOn_steady : Steady s s.openOn := by
  unfold State.openOn
  exact .ite (.refl s) (openNext_steady s)

theorem openIslands_steady : Steady s s.openIslands := by
  have h0 (l : List Nat) : Steady s { s with clock := { s.clock with
      opening := l, islandsDue := true, islandsStopped := false } } := ⟨rfl, rfl⟩
  unfold State.openIslands
  exact .ite (.refl s) ((h0 _).trans (openOn_steady _))

theorem openGates_steady : Steady s s.openGates := (gateFails_steady s).trans ⟨rfl, rfl⟩

theorem warmRestart_restarts : s.warmRestart.v 0x1890 0x01 = 0 ∧ s.warmRestart.clock.pfailRun = false ∧
    s.warmRestart.v 0x1890 0x02 = s.v 0x1890 0x02 % 64 := by
  have h1 : ((s.warmed.put 0x1890 0x01 0).put 0x1890 0x02 (s.warmed.v 0x1890 0x02 % 64)).v 0x1890 0x01 = 0 :=
    ((State.put_keeps1 ..).v_eq 0x1890 0x01).trans (v_put_self ..)
  have h2 : ((s.warmed.put 0x1890 0x01 0).put 0x1890 0x02 (s.warmed.v 0x1890 0x02 % 64)).v 0x1890 0x02 =
      s.v 0x1890 0x02 % 64 := v_put_self ..
  have h3 : ((s.warmed.put 0x1890 0x01 0).put 0x1890 0x02 (s.warmed.v 0x1890 0x02 % 64)).clock.pfailRun = false := rfl
  rw [warmRestart_eq]
  generalize (s.warmed.put 0x1890 0x01 0).put 0x1890 0x02 (s.warmed.v 0x1890 0x02 % 64) = x at h1 h2 h3
  have hk := (((State.fullClear_keeps x).mono (F := ⟨.panel :: gateFailsFoot.parts, (0x201004, 0x201004) ::
    gateFailsFoot.keys⟩) (by decide +kernel)).step (openGates_keepsGate _)).step (State.openIslands_keeps _)
  have hs := ((Steady.ofKeeps (State.fullClear_keeps x)).trans (openGates_steady _)).trans (openIslands_steady _)
  exact ⟨(hk.v_eq 0x1890 0x01).trans h1, hs.pfailRun_eq.trans h3, (hk.v_eq 0x1890 0x02).trans h2⟩

theorem autoRestartTimer_restarts (t : Nat) (hb : s.b 0x1890 0x05 = true) (h4 : s.v 0x1890 0x01 = 4)
    (hr : s.clock.pfailReleased = true) (hg : s.supplyGood = true) (hp : s.shutdownPending = false)
    (h5 : s.stepDone 5 = true) :
    ∃ s', runs (.autoRestartTimer t) s s' ∧ s'.v 0x1890 0x01 = 0 ∧ s'.clock.pfailRun = false ∧
      s'.v 0x1890 0x02 = s.v 0x1890 0x02 % 64 := by
  have hp' : (s.enter t).shutdownPending = false := hp
  have he : (s.enter t).autoRestart = (s.enter t).warmRestart := if_pos ⟨hb, h4, hr, hg, by simp [hp'], h5⟩
  exact ⟨_, congrArg Host.Outcome.next he, warmRestart_restarts (s.enter t)⟩

theorem pfailRelease_releases (t : Nat) (hp : s.clock.pfail = true) :
    ∃ s', runs (.pfailRelease t) s s' ∧ s'.clock.pfail = false ∧ s'.clock.pfailReleased = true :=
  ⟨_, congrArg Host.Outcome.next (if_pos hp), rfl, rfl⟩

end
end Sys2Proof.Machine
end

section
set_option Elab.async false
namespace Sys2Proof.Machine

/-! ### The march test (R266, R270) -/

/-- What one step of a fold establishes and every step preserves holds at its end. -/
theorem foldl_establishes {α : Type} {f : State → α → State} {P : State → Prop} {l : List α} {a : α}
    (ha : a ∈ l) (hest : ∀ x, P (f x a)) (hkeep : ∀ x, P x → ∀ c ∈ l, P (f x c)) (s : State) : P (l.foldl f s) := by
  obtain ⟨l1, l2, rfl⟩ := List.append_of_mem ha
  rw [List.foldl_append, List.foldl_cons]
  refine List.foldlRecOn l2 f (hest _) fun x hx c hc => hkeep x hx c ?_
  simp [hc]

section
variable (s : State)

/-- A put of the value that a member shows leaves it. -/
theorem ve_pute_of_eq {o e m v : Nat} (h : s.ve o e m = v) (o' e' m' : Nat) : (s.pute o' e' m' v).ve o e m = v := by
  by_cases hk : mkey o e m = mkey o' e' m'
  · have hs := ve_pute_self s o' e' m' v
    rwa [State.ve, ← hk, ← State.ve] at hs
  · rw [ve_pute_ne hk, h]

/-- The march test finds a bank that fails. -/
def State.bankFails (b : Nat) : State :=
  if s.ve 0x7810 b 0x02 = 1 then s else (s.putKept 0x7810 b 0x02 1).inc 0x7802 0x03

/-- The banks that fail the march test are noted. -/
def State.banksFail (failed : List Nat) : State :=
  (failed.filter fun b => decide (b < 256)).foldl State.bankFails s

/-- Every bank is out of use. -/
def State.banksOut : State :=
  (List.range 256).foldl (fun (st : State) b => (st.pute 0x7810 b 0x01 2).pute 0x7810 b 0x03 255) s

/-- The banks that pass the march test take their places. -/
def State.banksPlaced (pass : List Nat) : State :=
  ((List.range pass.length).zip pass).foldl (fun (st : State) e =>
    if e.1 < 252 then (st.pute 0x7810 e.2 0x01 0).pute 0x7810 e.2 0x03 e.1
    else st.pute 0x7810 e.2 0x01 1) s

/-- The banks that have passed the march test. -/
def State.banksPassed : List Nat := (List.range 256).filter fun b => s.ve 0x7810 b 0x02 == 0

/-- No copy is under way and no error is recent. -/
def State.banksFresh : State :=
  { s with memory := { s.memory with copies := [], recentUE := [], recentCE := [], fenceDue := [] } }

theorem march_eq (failed : List Nat) : s.march failed =
    if (s.banksFail failed).banksPassed.length < 252 then
      (((s.banksFail failed).banksOut.banksPlaced (s.banksFail failed).banksPassed).banksFresh.showBanks).log
        (noteSpec 1 0x7802 0 0x03 0 0 0)
    else ((s.banksFail failed).banksOut.banksPlaced (s.banksFail failed).banksPassed).banksFresh.showBanks := by
  unfold State.march State.banksFresh
  rfl

theorem putKept_ve {o e m v : Nat} (o' e' m' w : Nat) (h : (s.pute o' e' m' w).ve o e m = v) :
    (s.putKept o' e' m' w).ve o e m = v := ((State.journalize_keeps ..).ve o e m rfl).trans h

theorem banksFail_fails {failed : List Nat} {b : Nat} (hb : b ∈ failed) (hlt : b < 256) :
    (s.banksFail failed).ve 0x7810 b 0x02 = 1 := by
  have hinc (x : State) (n : Nat) : (x.inc 0x7802 0x03).ve 0x7810 n 0x02 = x.ve 0x7810 n 0x02 :=
    (State.inc_keeps1 ..).ve 0x7810 n 0x02 (by decide +kernel)
  refine foldl_establishes (f := State.bankFails) (P := fun x => x.ve 0x7810 b 0x02 = 1) (a := b)
    (List.mem_filter.2 ⟨hb, by simpa using hlt⟩) (fun x => ?_) (fun x hx c _ => ?_) s
  · unfold State.bankFails
    split
    next h => exact h
    next => exact (hinc _ b).trans (putKept_ve x _ _ _ _ (ve_pute_self ..))
  · unfold State.bankFails
    split
    · exact hx
    · exact (hinc _ b).trans (putKept_ve x _ _ _ _ (ve_pute_of_eq x hx ..))

theorem banksOut_out {b : Nat} (hlt : b < 256) : s.banksOut.ve 0x7810 b 0x01 = 2 := by
  have hlast (x : State) (c : Nat) : (x.pute 0x7810 c 0x03 255).ve 0x7810 b 0x01 = x.ve 0x7810 b 0x01 :=
    ve_pute_ne (by unfold mkey; omega) ..
  refine foldl_establishes (f := fun (st : State) c => (st.pute 0x7810 c 0x01 2).pute 0x7810 c 0x03 255)
    (P := fun x => x.ve 0x7810 b 0x01 = 2) (List.mem_range.2 hlt) (fun x => ?_) (fun x hx c _ => ?_) s
  · exact (hlast _ b).trans (ve_pute_self ..)
  · exact (hlast _ c).trans (ve_pute_of_eq x hx ..)

theorem banksOut_fences (b : Nat) : s.banksOut.ve 0x7810 b 0x02 = s.ve 0x7810 b 0x02 :=
  foldl_unchanged (π := fun x : State => x.ve 0x7810 b 0x02)
    (fun x c => (ve_pute_ne (by unfold mkey; omega) ..).trans (ve_pute_ne (by unfold mkey; omega) ..)) _ s

theorem banksPlaced_other {pass : List Nat} {b : Nat} (hb : b ∉ pass) (hlt : b < 256) (hp : ∀ c ∈ pass, c < 256) :
    (s.banksPlaced pass).ve 0x7810 b 0x01 = s.ve 0x7810 b 0x01 := by
  refine List.foldlRecOn (motive := fun x : State => x.ve 0x7810 b 0x01 = s.ve 0x7810 b 0x01) _ _ rfl
    fun x hx e he => ?_
  have hmem := (List.of_mem_zip he).2
  have hc := hp _ hmem
  have hne : e.2 ≠ b := fun h => hb (h ▸ hmem)
  have h1 (v : Nat) : (x.pute 0x7810 e.2 0x01 v).ve 0x7810 b 0x01 = x.ve 0x7810 b 0x01 :=
    ve_pute_ne (by unfold mkey; omega) ..
  split
  · rw [ve_pute_ne (by unfold mkey; omega), h1, hx]
  · rw [h1, hx]

theorem banksPlaced_fences (pass : List Nat) (b : Nat) : (s.banksPlaced pass).ve 0x7810 b 0x02 = s.ve 0x7810 b 0x02 := by
  refine foldl_unchanged (π := fun x : State => x.ve 0x7810 b 0x02) (fun x e => ?_) _ s
  split
  · rw [ve_pute_ne (by unfold mkey; omega), ve_pute_ne (by unfold mkey; omega)]
  · rw [ve_pute_ne (by unfold mkey; omega)]

/-- A bank that the march test finds bad is fenced and out of use. -/
theorem march_fences {failed : List Nat} {b : Nat} (hb : b ∈ failed) (hlt : b < 256) :
    (s.march failed).ve 0x7810 b 0x02 = 1 ∧ (s.march failed).ve 0x7810 b 0x01 = 2 := by
  have h1 := banksFail_fails s hb hlt
  have hpass : b ∉ (s.banksFail failed).banksPassed := by
    simp [State.banksPassed, h1]
  have hlts : ∀ c ∈ (s.banksFail failed).banksPassed, c < 256 := fun c hc =>
    List.mem_range.1 (List.mem_filter.1 hc).1
  have hf : ((s.banksFail failed).banksOut.banksPlaced (s.banksFail failed).banksPassed).ve 0x7810 b 0x02 = 1 := by
    rw [banksPlaced_fences, banksOut_fences, h1]
  have ho : ((s.banksFail failed).banksOut.banksPlaced (s.banksFail failed).banksPassed).ve 0x7810 b 0x01 = 2 := by
    rw [banksPlaced_other _ hpass hlt hlts, banksOut_out _ hlt]
  rw [march_eq]
  generalize (s.banksFail failed).banksOut.banksPlaced (s.banksFail failed).banksPassed = x at hf ho
  have hshow := State.showBanks_keeps x.banksFresh
  have hf' := (hshow.ve 0x7810 b 0x02 (by decide +kernel)).trans hf
  have ho' := (hshow.ve 0x7810 b 0x01 (by decide +kernel)).trans ho
  split
  · exact ⟨((State.log_keeps ..).ve 0x7810 b 0x02 (by decide +kernel)).trans hf',
      ((State.log_keeps ..).ve 0x7810 b 0x01 (by decide +kernel)).trans ho'⟩
  · exact ⟨hf', ho'⟩

/-! ### The islands have ramped (R302, R394) -/

/-- Where the stage is empty and every half dark, lanes, links and channels train. -/
def State.islandsFollow (relock : Bool) : State := (s.fullClear.bringUpLanes.trainLinks).trainDdr relock

/-- The strings, the loops, the wheel and the rails of a start-up. -/
def State.freshStart : State := s.freshStrings.freshLoops.showRest.railsOn.recomputeReduction

theorem islandsFollow_keeps (relock : Bool) : Keeps ⟨[.out, .ingress, .panel, .bridge, .loop, .lanes, .memory],
    portKeys ++ [(0x602004, 0x602004), (0x680109, 0x680109), (0x780102, 0x780102), (0x782001, 0x782001)]⟩ s
    (s.islandsFollow relock) :=
  .step (.step (.step (.step (.refl _ s) (State.fullClear_keeps s)) (bringUpLanes_keepsQuiet _))
    (State.trainLinks_keeps _)) (State.trainDdr_keeps ..)

theorem freshStart_keeps : Keeps ⟨[.out, .panel, .bridge, .loop, .lanes], [(0x189104, 0x189108), (0x580101, 0x580104),
    (0x601007, 0x60100A), (0x680101, 0x680103), (0x681000, 0x6810FF), (0x682007, 0x682007), (0x701001, 0x701006)]⟩ s
    s.freshStart :=
  .step (.step (.step (.step (.step (.refl _ s) (State.freshStrings_keeps s)) (State.freshLoops_keeps _))
    (State.showRest_keeps _)) (State.railsOn_keeps _)) (State.recomputeReduction_keeps _)

theorem trainDdr_marched (relock : Bool) : (s.trainDdr relock).memory.marched = s.memory.marched := by
  have htrain (x : State) (c : Nat) : (x.beginTraining c).memory = x.memory := (State.beginTraining_keeps ..).memory_eq
  unfold State.trainDdr
  refine foldl_unchanged (π := fun x : State => x.memory.marched) (fun x c => ?_) _ s
  dsimp only
  split
  · rw [htrain]
    rfl
  · rfl
  · rfl
  · rw [htrain]

theorem islandsFollow_marched (relock : Bool) : (s.islandsFollow relock).memory.marched = s.memory.marched := by
  rw [State.islandsFollow, trainDdr_marched, (State.trainLinks_keeps _).memory_eq,
    (bringUpLanes_keepsQuiet _).memory_eq, (State.fullClear_keeps _).memory_eq]

theorem stageFirst_marched (failed : List Nat) : (s.stageFirst failed).memory.marched = true := by
  unfold State.stageFirst
  split
  next h => exact h
  next => rfl

theorem stageFirst_fences {failed : List Nat} {b : Nat} (hm : s.memory.marched = false) (hb : b ∈ failed)
    (hlt : b < 256) :
    (s.stageFirst failed).ve 0x7810 b 0x02 = 1 ∧ (s.stageFirst failed).ve 0x7810 b 0x01 = 2 := by
  unfold State.stageFirst
  rw [if_neg (by simp [hm])]
  exact march_fences s.stageLost hb hlt

theorem islandRampsDone_eq (failed : List Nat) (hl : s.v 0x2001 0x01 = 2) (h5 : s.stepDone 5 = true)
    (h0 : s.v 0x1890 0x01 = 0) (hp : s.shutdownPending = false) (hs : s.clock.islandsStopped = false)
    (hd : s.clock.islandsDue = true) : s.islandRampsDone failed =
      if s.stepDone 6 then ((s.rampsEnd.meshLost.stageFirst failed).putStep 6).islandsFollow (s.stepDone 6)
      else (((s.rampsEnd.meshLost.stageFirst failed).putStep 6).islandsFollow (s.stepDone 6)).freshStart :=
  if_pos ⟨hl, h5, h0, by simp [hp], by simp [hs], hd⟩

/-- What the end of the ramps shows. -/
structure Ramped (before : Bool) (failed : List Nat) (u : State) : Prop where
  step : u.stepDone 6 = true
  opened : u.clock.openingNow = none ∧ u.clock.opening = [] ∧ u.clock.islandsDue = false
  marched : u.memory.marched = true
  fenced : before = false → ∀ b ∈ failed, u.ve 0x7810 b 0x02 = 1 ∧ u.ve 0x7810 b 0x01 = 2

end

theorem Ramped.ofKeeps {F : Foot} {m : Bool} {failed : List Nat} {s u : State} (h : Ramped m failed s) (hk : Keeps F s u)
    (hm : u.memory.marched = s.memory.marched) (hc : F.parts.contains .clock = false := by rfl)
    (h6 : F.free (mkey 0x1890 0 0x02) = true := by decide +kernel)
    (h1 : F.free (mkey 0x7810 0 0x01) = true := by decide +kernel)
    (h2 : F.free (mkey 0x7810 0 0x02) = true := by decide +kernel) : Ramped m failed u where
  step := (bit_congr (hk.v_eq 0x1890 0x02 h6) 6).trans h.step
  opened := by
    rw [hk.clock_eq hc]
    exact h.opened
  marched := hm.trans h.marched
  fenced := fun hn b hb => by
    rw [hk.ve 0x7810 b 0x02 h2, hk.ve 0x7810 b 0x01 h1]
    exact h.fenced hn b hb

section
variable (s : State)

theorem stageFirst_ramped (failed : List Nat) (hlt : ∀ b ∈ failed, b < 256) :
    Ramped s.memory.marched failed ((s.rampsEnd.meshLost.stageFirst failed).putStep 6) := by
  have hmesh : s.rampsEnd.meshLost.memory = s.memory :=
    (State.meshLost_keeps _).memory_eq.trans (State.rampsEnd_keeps s).memory_eq
  have hclock : (s.rampsEnd.meshLost.stageFirst failed).clock = s.rampsEnd.clock :=
    (State.stageFirst_keeps ..).clock_eq.trans (State.meshLost_keeps _).clock_eq
  have hstep := State.putStep_keeps (s.rampsEnd.meshLost.stageFirst failed) 6
  refine ⟨bit_putBit_self .., ?_, ?_, fun hn b hb => ?_⟩
  · rw [hstep.clock_eq, hclock]
    exact ⟨rfl, rfl, rfl⟩
  · rw [hstep.memory_eq, stageFirst_marched]
  · rw [hstep.ve 0x7810 b 0x02 (by decide +kernel), hstep.ve 0x7810 b 0x01 (by decide +kernel)]
    exact stageFirst_fences _ ((congrArg Memory.marched hmesh).trans hn) hb (hlt b hb)

theorem rampsDone_ramped (failed : List Nat) (hlt : ∀ b ∈ failed, b < 256) (hl : s.v 0x2001 0x01 = 2)
    (h5 : s.stepDone 5 = true) (h0 : s.v 0x1890 0x01 = 0) (hp : s.shutdownPending = false)
    (hs : s.clock.islandsStopped = false) (hd : s.clock.islandsDue = true) :
    Ramped s.memory.marched failed (s.islandRampsDone failed) := by
  have h2 := (stageFirst_ramped s failed hlt).ofKeeps (islandsFollow_keeps _ (s.stepDone 6)) (islandsFollow_marched ..)
  rw [islandRampsDone_eq s failed hl h5 h0 hp hs hd]
  split
  · exact h2
  · exact h2.ofKeeps (freshStart_keeps _) (congrArg Memory.marched (freshStart_keeps _).memory_eq)

theorem islandRampsDone_ramps (t : Nat) (failed : List Nat) (hf : failed.all (decide <| · < 256) = true)
    (hl : s.v 0x2001 0x01 = 2) (h5 : s.stepDone 5 = true) (h0 : s.v 0x1890 0x01 = 0) (hp : s.shutdownPending = false)
    (hs : s.clock.islandsStopped = false) (hd : s.clock.islandsDue = true) :
    ∃ s', runs (.islandRampsDone t failed) s s' ∧ Ramped s.memory.marched failed s' := by
  have hlt : ∀ b ∈ failed, b < 256 := fun b hb => of_decide_eq_true (List.all_eq_true.1 hf b hb)
  exact ⟨(s.enter t).islandRampsDone failed, if_pos hf, rampsDone_ramped (s.enter t) failed hlt hl h5 h0 hp hs hd⟩

end

/-- Settles O51: what a reset leaves, and the steps of a start-up and of a restart. -/
theorem resetAndStartup : Obligations.ResetAndStartup := by
  refine ⟨resetAssert_leaves, resetRelease_starts, retainedRestoreDone_completes, firmwareBootDone_runs,
    fun s t failed hf hl h5 h0 hp hs hd => ?_, autoRestartTimer_restarts, pfailRelease_releases⟩
  obtain ⟨s', hrun, h6, ⟨hn, ho, hdue⟩, hm, hfence⟩ := islandRampsDone_ramps s t failed hf hl h5 h0 hp hs hd
  exact ⟨s', hrun, h6, hn, ho, hdue, hm, hfence⟩

end Sys2Proof.Machine
end

section
set_option Elab.async false
namespace Sys2Proof.Machine

/-! ### Direct writes that a unit acts on (R8) -/

/-- An accepted write that takes effect at once goes to the act of its unit, and leaves nothing to settle. -/
theorem runs_ownedWrite {c : Instr} {s u : State} {t master o e m v : Nat} (n cls : Nat)
    (he : exec c s = writes t master o e m v s) (ha : s.acceptsValue t master o e m v = true)
    (hn : cls = 0 ∨ s.displayRuns = false)
    (hu : (if o < 0x5000 then (s.acceptedAt t).ownLow? master o e m v else (s.acceptedAt t).ownHigh? o e m v) = some u)
    (hc : u.settle = u) (hm : m ≠ 0x10 := by decide)
    (hrow : (memberRows.all fun r =>
      !(r.object == o && decide (r.first ≤ m) && decide (m ≤ r.last)) || unitRow n cls r) = true := by
        decide +kernel) : runs c s u := by
  obtain ⟨r, hr⟩ := acceptsValue_row ha
  have hunit := rowOf_all hr hrow
  simp only [unitRow, Bool.and_eq_true, bne_iff_ne, beq_iff_eq] at hunit
  obtain ⟨⟨⟨hw, hb⟩, -⟩, hcls⟩ := hunit
  have hnow : s.atOnce o e m = true := by
    obtain h0 | hd := hn
    · simp [State.atOnce, hr, hcls, h0]
    · simp [State.atOnce, hd]
  have hown : (s.acceptedAt t).own master (stagedValue o e m v) = u := by
    have hclear : ¬(r.acc = .wo ∧ m = 0x10 ∧ o ≠ 0x5800) := fun h => hm h.2.1
    split at hu
    next ho => simp only [State.own, stagedValue, hr, if_neg hw, if_neg hb, if_neg hclear, if_pos ho, hu]
    next ho => simp only [State.own, stagedValue, hr, if_neg hw, if_neg hb, if_neg hclear, if_neg ho, hu]
  refine he.trans ?_
  rw [writes, memberWrite_accepted ha, deliver_atOnce hr hnow, hown, hc]

/-- An accepted value passes the rules that relate it to the state of the device. -/
theorem acceptsValue_relCode {s : State} {t master o e m v : Nat} (h : s.acceptsValue t master o e m v = true)
    (hrow : (memberRows.all fun r => !(r.object == o && decide (r.first ≤ m) && decide (m ≤ r.last)) ||
      (r.ty != .blob && r.cls == 0)) = true := by decide +kernel) :
    ∃ p, (s.enter t).relCode p { master := master, path := none, chord := false } o e m v = 0 := by
  obtain ⟨r, hr⟩ := acceptsValue_row h
  have hunit := rowOf_all hr hrow
  simp only [Bool.and_eq_true, bne_iff_ne, beq_iff_eq] at hunit
  obtain ⟨hb, hcls⟩ := hunit
  have hw := beq_iff_eq.1 h
  refine ⟨((s.enter t).withWaiting 0).propose (stagedValue o e m v), ?_⟩
  have hfirst : ∀ code : Nat → Nat, firstBad code = 0 → code 0 = 0 := fun code h0 => by
    by_contra hne
    rw [firstBad, if_pos hne] at h0
    exact hne h0
  have hrule : ∀ (x p : State) w, x.stateCode p w r (stagedValue o e m v) = 0 → x.relCode p w o e m v = 0 := by
    intro x p w h0
    unfold State.stateCode at h0
    rw [if_neg hb] at h0
    split_ifs at h0
    exact h0
  simp only [State.writeCode, stagedValue, hr] at hw
  split at hw
  next hc => exact absurd hw hc
  next => exact hrule _ _ _ (by simpa [hcls, stagedValue] using hfirst _ hw)

/-! ### Calibrations start and stop (R385, R386) -/

section
variable {s : State} {t v : Nat}

/-- A calibration starts only while display runs, in state 2. -/
theorem calCode_accepts (hv : v ≤ 16) (ha : s.acceptsValue t 0 0x2830 0 0x01 v = true) : s.v 0x5001 0x03 = 2 := by
  obtain ⟨p, hp⟩ := acceptsValue_relCode ha
  have hc : (s.enter t).calCode v = 0 := hp
  by_contra hne
  have hne' : (s.enter t).v 0x5001 0x03 ≠ 2 := hne
  rw [State.calCode, if_neg (by omega), if_neg (by omega), if_pos (.inl hne')] at hc
  exact absurd hc (by decide)

theorem calWrite_starts {c : Instr} (he : exec c s = writes t 0 0x2830 0 0x01 v s) (hv : v ≤ 16)
    (ha : s.acceptsValue t 0 0x2830 0 0x01 v = true) :
    runs c s ((s.acceptedAt t).startCal (decide (v = 16)) (v % 16)) := by
  have hstate := calCode_accepts hv ha
  have hown : (s.acceptedAt t).ownCal v = (s.acceptedAt t).startCal (decide (v = 16)) (v % 16) := if_neg (by omega)
  refine runs_ownedWrite 1 0 he ha (.inl rfl) (congrArg some hown) (settle_of_displayRuns ?_)
  have hk := State.startCal_keeps (s.acceptedAt t) (decide (v = 16)) (v % 16)
  exact (displayRuns_congr (hk.v_eq 0x5001 0x03)).trans (by simp [State.displayRuns, hstate] : s.displayRuns = true)

theorem calCourse_starts {course : Nat} (hlt : course < 16) (ha : s.acceptsValue t 0 0x2830 0 0x01 course = true) :
    ∃ s', runs (.calCourse t course) s s' ∧ s'.mgmt.lastCode = 0 ∧ s'.v 0x2830 0x02 = 1 ∧
      ∃ k ∈ s'.health.cal, k.tile = false ∧ k.course = course ∧ k.phase = 0 := by
  have htile : decide (course = 16) = false := decide_eq_false (by omega)
  have hmod : course % 16 = course := Nat.mod_eq_of_lt hlt
  refine ⟨_, calWrite_starts (if_pos hlt) hlt.le ha, rfl, ?_, ?_⟩
  · rw [htile]
    exact v_put_self ..
  · rw [htile, hmod]
    exact ⟨_, rfl, rfl, rfl, rfl⟩

theorem calTile_starts (ha : s.acceptsValue t 0 0x2830 0 0x01 16 = true) :
    ∃ s', runs (.calTile t) s s' ∧ s'.mgmt.lastCode = 0 ∧ s'.v 0x2830 0x02 = 2 ∧
      ∃ k ∈ s'.health.cal, k.tile = true ∧ k.phase = 0 :=
  ⟨_, calWrite_starts rfl (Nat.le_refl 16) ha, rfl, v_put_self .., _, rfl, rfl, rfl⟩

theorem calAbort_ends (ha : s.acceptsValue t 0 0x2830 0 0x01 255 = true) (hc : s.calm = true) :
    ∃ s', runs (.calAbort t) s s' ∧ s'.mgmt.lastCode = 0 ∧ ∀ k ∈ s'.health.cal, k.ending = true := by
  have hown : (s.acceptedAt t).ownCal 255 = (s.acceptedAt t).calEnd := if_pos rfl
  refine ⟨_, runs_ownedWrite 1 0 rfl ha (.inl rfl) (congrArg some hown) (settle_of_calm hc), rfl, fun k hk => ?_⟩
  obtain ⟨k', -, rfl⟩ := Option.mem_map.1 hk
  rfl

end

/-! ### Check-value units (R388, R390) -/

section
variable (s : State) (u : Nat)

theorem cvReg_congr {x y : State} (hc : y.health.cv = x.health.cv) (hk : y.ve 0x2840 u 0x01 = x.ve 0x2840 u 0x01) :
    y.cvReg u = x.cvReg u := by
  rw [State.cvReg, hc, hk, ← State.cvReg]

theorem cvInit_reg : (s.cvInit u).cvReg u = crcInit (s.ve 0x2840 u 0x01) := by
  have hkind : (s.cvInit u).ve 0x2840 u 0x01 = s.ve 0x2840 u 0x01 :=
    (State.cvInit_keeps s u).ve 0x2840 u 0x01 (by decide +kernel)
  have hnone : tget? u (s.cvInit u).health.cv = none := tget?_tdel_self ..
  rw [State.cvReg, hnone, hkind, Option.getD_none]

theorem cvInit_bytes : (s.cvInit u).ve 0x2840 u 0x07 = 0 ∧ (s.cvInit u).ve 0x2840 u 0x0B = 0 :=
  ⟨(ve_pute_ne (by unfold mkey; omega) ..).trans (ve_pute_self ..), ve_pute_self ..⟩

theorem cvCompare_reg : (s.cvCompare u).cvReg u = s.cvReg u := by
  have hk := State.cvCompare_keeps s u
  exact cvReg_congr u (congrArg Health.cv hk.health_eq) (hk.ve 0x2840 u 0x01 (by decide +kernel))

theorem cvCompare_match : (s.cvCompare u).ve 0x2840 u 0x0B = if s.cvResult u = s.ve 0x2840 u 0x08 then 1 else 2 := by
  unfold State.cvCompare
  split
  · exact ve_pute_self ..
  · rw [(State.event_keeps ..).ve 0x2840 u 0x0B (by decide +kernel), (State.inc_keeps1 ..).ve 0x2840 u 0x0B
      (by decide +kernel), ve_pute_self]

theorem cvByte_reg (b : Byte) : (s.cvByte u b).cvReg u = crcByte (s.ve 0x2840 u 0x01) (s.cvReg u) b.toNat := by
  have hfed : ∀ x : State, tget? u x.health.cv = some (crcByte (s.ve 0x2840 u 0x01) (s.cvReg u) b.toNat) →
      (x.ince 0x2840 u 0x07).cvReg u = crcByte (s.ve 0x2840 u 0x01) (s.cvReg u) b.toNat := fun x hx => by
    rw [State.cvReg, (State.ince_keeps1 ..).health_eq, hx, Option.getD_some]
  unfold State.cvByte
  dsimp only
  split
  · rw [cvCompare_reg]
    exact hfed _ (tget?_tput_self ..)
  · exact hfed _ (tget?_tput_self ..)

theorem cvByte_kind (b : Byte) : (s.cvByte u b).ve 0x2840 u 0x01 = s.ve 0x2840 u 0x01 :=
  (State.cvByte_keeps s u b).ve 0x2840 u 0x01 (by decide +kernel)

theorem cvByte_owner (b : Byte) : (s.cvByte u b).ve 0x2840 u 0x0C = s.ve 0x2840 u 0x0C :=
  (State.cvByte_keeps s u b).ve 0x2840 u 0x0C (by decide +kernel)

theorem cvBytes_fed (l : Bytes) :
    (l.foldl (fun (st : State) b => st.cvByte u b) s).cvReg u =
        l.foldl (fun r b => crcByte (s.ve 0x2840 u 0x01) r b.toNat) (s.cvReg u) ∧
      (l.foldl (fun (st : State) b => st.cvByte u b) s).ve 0x2840 u 0x0C = s.ve 0x2840 u 0x0C := by
  induction l generalizing s with
  | nil => exact ⟨rfl, rfl⟩
  | cons b l ih =>
    obtain ⟨hr, ho⟩ := ih (s.cvByte u b)
    rw [cvByte_reg, cvByte_kind] at hr
    rw [List.foldl_cons, List.foldl_cons, hr, ho, cvByte_owner]
    exact ⟨rfl, rfl⟩

theorem cvFeed_fed (n master v : Nat) : (s.cvFeed u n master v).ve 0x2840 u 0x0C = master ∧
    (s.cvFeed u n master v).cvReg u =
      (beBytes n v).foldl (fun r b => crcByte (s.ve 0x2840 u 0x01) r b.toNat) (s.cvReg u) := by
  have hkind : (s.pute 0x2840 u 0x0C master).ve 0x2840 u 0x01 = s.ve 0x2840 u 0x01 :=
    ve_pute_ne (by unfold mkey; omega) ..
  obtain ⟨hr, ho⟩ := cvBytes_fed (s.pute 0x2840 u 0x0C master) u (beBytes n v)
  rw [hkind, cvReg_congr u (x := s) (y := s.pute 0x2840 u 0x0C master) rfl hkind] at hr
  exact ⟨ho.trans (ve_pute_self ..), hr⟩

/-- Bytes fed to a check-value unit leave the code of the last direct write. -/
theorem cvCompare_lastCode : (s.cvCompare u).mgmt.lastCode = s.mgmt.lastCode := by
  unfold State.cvCompare
  split
  · rfl
  · rw [event_lastCode, (State.inc_keeps1 ..).mgmt_eq]
    rfl

theorem cvFeed_lastCode (n master v : Nat) : (s.cvFeed u n master v).mgmt.lastCode = s.mgmt.lastCode := by
  unfold State.cvFeed
  refine (foldl_unchanged (π := fun x : State => x.mgmt.lastCode) (fun x b => ?_) _ _).trans rfl
  unfold State.cvByte
  dsimp only
  split
  · rw [cvCompare_lastCode, (State.ince_keeps1 ..).mgmt_eq]
  · rw [(State.ince_keeps1 ..).mgmt_eq]

end

section
variable {s : State} {t u master v : Nat}

/-- An accepted write to a check-value unit goes to its act. -/
theorem runs_cvWrite {c : Instr} {m : Nat} (he : exec c s = writes t master 0x2840 u m v s)
    (ha : s.acceptsValue t master 0x2840 u m v = true) (hc : s.calm = true) (hm : m ≠ 0x10)
    (hrow : (memberRows.all fun r =>
      !(r.object == 0x2840 && decide (r.first ≤ m) && decide (m ≤ r.last)) || unitRow 16 0 r) = true) :
    runs c s ((s.acceptedAt t).ownCv u m master v) :=
  runs_ownedWrite 16 0 he ha (.inl rfl) rfl
    (settle_of_calm ((Calmly.ofKeeps (State.ownCv_keeps (s.acceptedAt t) u m master v)) hc).2) hm hrow

theorem cvKind_sets (ha : s.acceptsValue t master 0x2840 u 0x01 v = true) (hc : s.calm = true) :
    ∃ s', runs (.cvKind t u master v) s s' ∧ s'.mgmt.lastCode = 0 ∧ s'.ve 0x2840 u 0x01 = v ∧
      s'.cvReg u = crcInit v ∧ s'.ve 0x2840 u 0x07 = 0 ∧ s'.ve 0x2840 u 0x0B = 0 := by
  have hown : (s.acceptedAt t).ownCv u 0x01 master v = ((s.acceptedAt t).pute 0x2840 u 0x01 v).cvInit u := if_pos rfl
  refine ⟨_, hown ▸ runs_cvWrite rfl ha hc (by decide) (by decide +kernel), rfl, ?_, ?_, cvInit_bytes ..⟩
  · exact ((State.cvInit_keeps ..).ve 0x2840 u 0x01 (by decide +kernel)).trans (ve_pute_self ..)
  · rw [cvInit_reg, ve_pute_self]

theorem cvReset_resets (ha : s.acceptsValue t master 0x2840 u 0x02 v = true) (hc : s.calm = true) :
    ∃ s', runs (.cvReset t u master v) s s' ∧ s'.mgmt.lastCode = 0 ∧ s'.ve 0x2840 u 0x0C = 255 ∧
      s'.cvReg u = crcInit (s.ve 0x2840 u 0x01) ∧ s'.ve 0x2840 u 0x07 = 0 := by
  have hown : (s.acceptedAt t).ownCv u 0x02 master v = ((s.acceptedAt t).cvInit u).pute 0x2840 u 0x0C 255 :=
    (if_neg (by decide)).trans (if_pos rfl)
  refine ⟨_, hown ▸ runs_cvWrite rfl ha hc (by decide) (by decide +kernel), rfl, ve_pute_self .., ?_, ?_⟩
  · have hkind : (((s.acceptedAt t).cvInit u).pute 0x2840 u 0x0C 255).ve 0x2840 u 0x01 =
        ((s.acceptedAt t).cvInit u).ve 0x2840 u 0x01 := ve_pute_ne (by unfold mkey; omega) ..
    have hreg := cvReg_congr (x := (s.acceptedAt t).cvInit u) (y := ((s.acceptedAt t).cvInit u).pute 0x2840 u 0x0C 255)
      u rfl hkind
    exact hreg.trans (cvInit_reg (s.acceptedAt t) u)
  · exact (ve_pute_ne (by unfold mkey; omega) ..).trans (cvInit_bytes ..).1

/-- What a feed of `n` bytes shows. -/
theorem cvFeed_feeds {c : Instr} {m n : Nat} (he : exec c s = writes t master 0x2840 u m v s)
    (ha : s.acceptsValue t master 0x2840 u m v = true) (hc : s.calm = true)
    (hown : (s.acceptedAt t).ownCv u m master v = (s.acceptedAt t).cvFeed u n master v) (hm : m ≠ 0x10)
    (hrow : (memberRows.all fun r =>
      !(r.object == 0x2840 && decide (r.first ≤ m) && decide (m ≤ r.last)) || unitRow 16 0 r) = true) :
    ∃ s', runs c s s' ∧ s'.mgmt.lastCode = 0 ∧ s'.ve 0x2840 u 0x0C = master ∧ s'.cvReg u =
      (beBytes n v).foldl (fun r b => crcByte (s.ve 0x2840 u 0x01) r b.toNat) (s.cvReg u) :=
  ⟨_, hown ▸ runs_cvWrite he ha hc hm hrow, cvFeed_lastCode .., cvFeed_fed (s.acceptedAt t) u n master v⟩

theorem cvFeed8_feeds (ha : s.acceptsValue t master 0x2840 u 0x03 v = true) (hc : s.calm = true) :
    ∃ s', runs (.cvFeed8 t u master v) s s' ∧ s'.mgmt.lastCode = 0 ∧ s'.ve 0x2840 u 0x0C = master ∧
      s'.cvReg u = crcByte (s.ve 0x2840 u 0x01) (s.cvReg u) (v % 256) := by
  obtain ⟨s', hr, hl, ho, hreg⟩ := cvFeed_feeds (c := .cvFeed8 t u master v) (n := 1) rfl ha hc rfl (by decide)
    (by decide +kernel)
  refine ⟨s', hr, hl, ho, hreg.trans ?_⟩
  simp [beBytes]

theorem cvFeed16_feeds (ha : s.acceptsValue t master 0x2840 u 0x04 v = true) (hc : s.calm = true) :
    ∃ s', runs (.cvFeed16 t u master v) s s' ∧ s'.mgmt.lastCode = 0 ∧ s'.ve 0x2840 u 0x0C = master ∧
      s'.cvReg u = crcByte (s.ve 0x2840 u 0x01) (crcByte (s.ve 0x2840 u 0x01) (s.cvReg u)
        (v / 256 % 256)) (v % 256) := by
  obtain ⟨s', hr, hl, ho, hreg⟩ := cvFeed_feeds (c := .cvFeed16 t u master v) (n := 2) rfl ha hc rfl (by decide)
    (by decide +kernel)
  refine ⟨s', hr, hl, ho, hreg.trans ?_⟩
  simp [beBytes]

theorem cvFeed32_feeds (ha : s.acceptsValue t master 0x2840 u 0x05 v = true) (hc : s.calm = true) :
    ∃ s', runs (.cvFeed32 t u master v) s s' ∧ s'.mgmt.lastCode = 0 ∧ s'.ve 0x2840 u 0x0C = master ∧
      s'.cvReg u = (beBytes 4 v).foldl
        (fun (r : Nat) b => crcByte (s.ve 0x2840 u 0x01) r b.toNat) (s.cvReg u) :=
  cvFeed_feeds rfl ha hc rfl (by decide) (by decide +kernel)

theorem cvCheck_compares (ha : s.acceptsValue t master 0x2840 u 0x0A v = true) (hc : s.calm = true) :
    ∃ s', runs (.cvCheck t u master v) s s' ∧ s'.mgmt.lastCode = 0 ∧
      s'.ve 0x2840 u 0x0B = if s.cvResult u = s.ve 0x2840 u 0x08 then 1 else 2 := by
  have hown : (s.acceptedAt t).ownCv u 0x0A master v = (s.acceptedAt t).cvCompare u := rfl
  exact ⟨_, hown ▸ runs_cvWrite rfl ha hc (by decide) (by decide +kernel), cvCompare_lastCode ..,
    cvCompare_match (s.acceptedAt t) u⟩

end

/-- Settles O31: what the writes of calibrations and of check-value units do. -/
theorem measurementWrites : Obligations.MeasurementWrites :=
  ⟨fun _ _ _ => calCourse_starts, fun _ _ => calTile_starts, fun _ _ => calAbort_ends, fun _ _ _ _ _ => cvKind_sets,
    fun _ _ _ _ _ => cvReset_resets, fun _ _ _ _ _ => cvFeed8_feeds, fun _ _ _ _ _ => cvFeed16_feeds,
    fun _ _ _ _ _ => cvFeed32_feeds, fun _ _ _ _ _ => cvCheck_compares⟩

end Sys2Proof.Machine
end

section
set_option Elab.async false
namespace Sys2Proof.Machine

/-! ### Direct writes of bytes (R324) -/

/-- A row of a BLOB member that takes effect at once. -/
def blobRow (r : MemberRow) : Bool := r.acc != .w1c && r.ty == .blob && classIn 0 r == 0

/-- Accepted bytes go to the owner of their member, and leave nothing to settle. -/
theorem runs_blobWrite {c : Instr} {s u : State} {t o e m offset : Nat} {data : Bytes}
    (he : exec c s = writesBytes t o e m offset data s)
    (ha : s.accepts t 0 data.length (stagedBytes o e m offset data) = true)
    (hu : (s.acceptedAt t).ownBlob o e m offset data = u) (hc : u.settle = u)
    (hrow : (memberRows.all fun r =>
      !(r.object == o && decide (r.first ≤ m) && decide (m ≤ r.last)) || blobRow r) = true := by
        decide +kernel) : runs c s u := by
  have hcode := beq_iff_eq.1 ha
  obtain ⟨r, hr⟩ : ∃ r, rowOf o e m = some r := by
    cases hr : rowOf o e m with
    | some r => exact ⟨r, rfl⟩
    | none => simp [State.writeCode, State.stageCode, stagedBytes, hr] at hcode
  have hblob := rowOf_all hr hrow
  simp only [blobRow, Bool.and_eq_true, bne_iff_ne, beq_iff_eq] at hblob
  obtain ⟨⟨hw, hb⟩, hcls⟩ := hblob
  have hown : (s.acceptedAt t).own 0 (stagedBytes o e m offset data) = u := by
    simp only [State.own, stagedBytes, hr, if_neg hw, if_pos hb, hu]
  have hdeliver : ((s.acceptedAt t).deliver 0 0 none none (stagedBytes o e m offset data)).2 = u := by
    simp only [State.deliver, stagedBytes, hr, hcls, true_or, if_true]
    exact hown
  refine he.trans (congrArg Host.Outcome.next ?_)
  simp only [State.memberWrite, hcode, if_pos]
  exact (congrArg State.settle hdeliver).trans hc

/-! ### Keys and paths (R327, R348) -/

section
variable (s : State)

theorem closeMaster_session (m k : Nat) : (s.closeMaster m).session? k = if k = m then none else s.session? k := by
  rw [← closeSession_session]
  by_cases hk : k = m
  · subst hk
    rw [State.session?, State.closeMaster, masterRec_putMaster_self]
    rfl
  · exact congrArg Master.session (masterRec_putMaster_ne hk _ _)

theorem closeMasters_session {l : List Nat} {k : Nat} (hk : k ∈ l) : (l.foldl State.closeMaster s).session? k = none := by
  refine foldl_establishes (f := State.closeMaster) (P := fun x => x.session? k = none) hk (fun x => ?_)
    (fun x hx c _ => ?_) s
  · rw [closeMaster_session, if_pos rfl]
  · rw [closeMaster_session]
    split
    · rfl
    · exact hx

theorem abortSlot_lastCode (n : Nat) : (s.abortSlot n false).mgmt.lastCode = s.mgmt.lastCode := by
  simp only [State.abortSlot, Bool.false_eq_true, if_false]
  rw [(State.inc_keeps1 ..).mgmt_eq]
  rfl

theorem abortSlot_chord (n : Nat) :
    ((s.abortSlot n false).chord n).aborted = true ∧ ((s.abortSlot n false).chord n).items = [] := by
  have hchord : (s.abortSlot n false).chord n = { Chord.reset with
      gen := (s.chord n).gen, aborted := true, master := (s.chord n).master, session := (s.chord n).session } := by
    simp only [State.abortSlot, Bool.false_eq_true, if_false]
    rw [State.chord, (State.inc_keeps1 ..).mgmt_eq]
    simp [State.putChord, tget]
  rw [hchord]
  exact ⟨rfl, rfl⟩

theorem abortChords_lastCode (m id : Nat) : (s.abortChords m id).mgmt.lastCode = s.mgmt.lastCode := by
  unfold State.abortChords
  refine foldl_unchanged (π := fun x : State => x.mgmt.lastCode) (fun x n => ?_) _ s
  dsimp only
  split
  · exact abortSlot_lastCode ..
  · rfl

theorem closeMaster_lastCode (m : Nat) : (s.closeMaster m).mgmt.lastCode = s.mgmt.lastCode := by
  have hclose : (s.closeSession m).mgmt.lastCode = s.mgmt.lastCode := by
    unfold State.closeSession
    split
    · rfl
    · rw [abortChords_lastCode]
      rfl
  exact hclose

theorem closeMasters_lastCode (l : List Nat) : (l.foldl State.closeMaster s).mgmt.lastCode = s.mgmt.lastCode :=
  foldl_unchanged (π := fun x : State => x.mgmt.lastCode) (fun x m => closeMaster_lastCode x m) l s

/-- The masters of a path: those of the network, or the host. -/
def pathMasters (network : Bool) : List Nat := if network then (List.range 13).map (· + 2) else [1]

theorem ownPath_eq (network : Bool) (v : Nat) : s.ownPath network v =
    if v = 1 then s.putKept 0x1000 0 (if network then 0x03 else 0x02) v
    else (pathMasters network).foldl State.closeMaster (s.putKept 0x1000 0 (if network then 0x03 else 0x02) v) := by
  cases network <;> rfl

theorem closeMasters_keeps (l : List Nat) : Keeps ⟨[.out, .clock, .mgmt], [(0x101105, 0x101105), (0x101107, 0x101107),
    (0x103003, 0x103003)]⟩ s (l.foldl State.closeMaster s) :=
  .foldl (.refl _ s) fun x m => State.closeMaster_keeps x m

theorem putKept_lastCode (o e m v : Nat) : (s.putKept o e m v).mgmt.lastCode = s.mgmt.lastCode :=
  congrArg Mgmt.lastCode (State.putKept_keeps1 ..).mgmt_eq

theorem ownPath_shows (network : Bool) (v : Nat) : (s.ownPath network v).mgmt.lastCode = s.mgmt.lastCode ∧
    (s.ownPath network v).v 0x1000 (if network then 0x03 else 0x02) = v := by
  have hput : (s.putKept 0x1000 0 (if network then 0x03 else 0x02) v).v 0x1000 (if network then 0x03 else 0x02) = v :=
    ve_putKept_self ..
  have hoff (l : List Nat) (x : State) (m : Nat) (hm : m = 2 ∨ m = 3) :
      (l.foldl State.closeMaster x).v 0x1000 m = x.v 0x1000 m := by
    obtain rfl | rfl := hm
    · exact (closeMasters_keeps x l).v_eq 0x1000 0x02
    · exact (closeMasters_keeps x l).v_eq 0x1000 0x03
  have hm : (if network then 0x03 else 0x02 : Nat) = 2 ∨ (if network then 0x03 else 0x02 : Nat) = 3 := by
    cases network
    · exact .inl rfl
    · exact .inr rfl
  rw [ownPath_eq]
  split
  · exact ⟨putKept_lastCode .., hput⟩
  · exact ⟨(closeMasters_lastCode ..).trans (putKept_lastCode ..), (hoff _ _ _ hm).trans hput⟩

end

section
variable {s : State} {t : Nat}

theorem masterKey_sets {master : Nat} {key : Bytes}
    (ha : s.accepts t 0 key.length (stagedBytes 0x1002 master 0x01 0 key) = true) (hc : s.calm = true) :
    ∃ s', runs (.masterKey t master key) s s' ∧ s'.mgmt.lastCode = 0 ∧ s'.blob 0x1002 master 0x01 = key := by
  have hk := State.ownKey_keeps (s.acceptedAt t) master key
  refine ⟨_, runs_blobWrite rfl ha rfl (settle_of_calm ((Calmly.ofKeeps hk) hc).2), ?_, ?_⟩
  · exact (closeMaster_lastCode ..).trans (congrArg Mgmt.lastCode (State.putBlobKept_keeps ..).mgmt_eq)
  · have hput := blob_putBlob_self (s.acceptedAt t) 0x1002 master 0x01 key
    have hclose : (((s.acceptedAt t).putBlobKept 0x1002 master 0x01 key).closeMaster master).blobs =
        ((s.acceptedAt t).putBlob 0x1002 master 0x01 key).blobs :=
      ((State.closeMaster_keeps ..).blobs.resolve_left (by decide)).trans
        ((State.journalize_keeps ..).blobs.resolve_left (by decide))
    exact (congrArg (tget [] (mkey 0x1002 master 0x01)) hclose).trans hput

theorem pathEnable_sets {v : Nat} {network : Bool}
    (ha : s.acceptsValue t 0 0x1000 0 (if network then 0x03 else 0x02) v = true) (hc : s.calm = true) :
    ∃ s', runs (.pathEnable t network v) s s' ∧ s'.mgmt.lastCode = 0 ∧
      s'.v 0x1000 (if network then 0x03 else 0x02) = v ∧
      (v = 0 → ∀ m, (if network then 2 ≤ m ∧ m ≤ 14 else m = 1) → s'.session? m = none) := by
  have hk := State.ownPath_keeps (s.acceptedAt t) network v
  have hcalm := settle_of_calm ((Calmly.ofKeeps hk) hc).2
  obtain ⟨hl, hv⟩ := ownPath_shows (s.acceptedAt t) network v
  refine ⟨(s.acceptedAt t).ownPath network v, ?_, hl, hv, fun h0 m hm => ?_⟩
  · cases network with
    | false => exact runs_ownedWrite 1 0 rfl ha (.inl rfl) rfl hcalm
    | true => exact runs_ownedWrite 1 0 rfl ha (.inl rfl) rfl hcalm
  · subst h0
    rw [ownPath_eq, if_neg (by decide)]
    refine closeMasters_session _ ?_
    cases network with
    | false => exact List.mem_singleton.2 hm
    | true => exact List.mem_map.2 ⟨m - 2, List.mem_range.2 (by simp at hm; omega), by simp at hm; omega⟩

/-! ### Chord kills (R339) and firmware (R344, R345) -/

theorem chordKill_aborts {slot v : Nat} (ha : s.acceptsValue t 0 0x1020 slot 0x06 v = true) (hc : s.calm = true) :
    ∃ s', runs (.chordKill t slot v) s s' ∧ s'.mgmt.lastCode = 0 ∧ counted s s' 0x1011 0 0x05 ∧
      (s'.chord slot).aborted = true ∧ (s'.chord slot).items = [] := by
  have hk := abortSlot_keeps (s.acceptedAt t) slot
  have hat : Keeps ⟨[.now, .out, .mgmt], []⟩ s (s.acceptedAt t) :=
    Keeps.upd ((State.enter_keeps s t).mono (by decide +kernel)) (hmg := .inl rfl)
  have hstart : Keeps ⟨[.now, .out, .mgmt], []⟩ s ((s.acceptedAt t).putChord slot { Chord.reset with
      gen := ((s.acceptedAt t).chord slot).gen, aborted := true, master := ((s.acceptedAt t).chord slot).master,
      session := ((s.acceptedAt t).chord slot).session }) :=
    Keeps.upd hat (hmg := .inl rfl)
  obtain ⟨haborted, hitems⟩ := abortSlot_chord (s.acceptedAt t) slot
  exact ⟨_, runs_ownedWrite 32 0 rfl ha (.inl rfl) rfl (settle_of_calm ((Calmly.ofKeeps hk) hc).2),
    abortSlot_lastCode .., counted_between hstart (.refl ⟨[], []⟩ _), haborted, hitems⟩

/-- The blocks of an image are written. -/
def State.imageWorn (s : State) (slot offset len : Nat) : State :=
  (blocksOf offset len).foldl (fun (st : State) i => st.wearBlock (imageWear slot i)) s

/-- An image is loaded, and its slot shows it. -/
def State.imageLoaded (s : State) (slot : Nat) (b : Bytes) : State :=
  ((({ s with mgmt := { s.mgmt with fw := tput slot b s.mgmt.fw } } : State).pute 0x9100 slot 0x02 1).pute 0x9100 slot
    0x03 (field b 8 4)).pute 0x9100 slot 0x04 (field b 16 1)

theorem ownFwImage_eq (s : State) (slot offset : Nat) (data : Bytes) : s.ownFwImage slot offset data =
    (s.imageWorn slot offset data.length).imageLoaded slot (spliceBytes ((s.fwImage? slot).getD []) offset data) := rfl

theorem imageWorn_mgmt (s : State) (slot offset len : Nat) : (s.imageWorn slot offset len).mgmt = s.mgmt :=
  foldl_unchanged (π := State.mgmt) (fun x i => (State.wearBlock_keeps x _).mgmt_eq) _ s

theorem fwImage_loads {slot offset : Nat} {data : Bytes}
    (ha : s.accepts t 0 data.length (stagedBytes 0x9100 slot 0x01 offset data) = true) (hc : s.calm = true) :
    ∃ s', runs (.fwImage t slot offset data) s s' ∧ s'.mgmt.lastCode = 0 ∧ s'.ve 0x9100 slot 0x02 = 1 ∧
      tget? slot s'.mgmt.fw = some (spliceBytes ((s.fwImage? slot).getD []) offset data) := by
  have hk := State.ownFwImage_keeps (s.acceptedAt t) slot offset data
  refine ⟨_, runs_blobWrite rfl ha rfl (settle_of_calm ((Calmly.ofKeeps hk) hc).2), ?_⟩
  have hm := imageWorn_mgmt (s.acceptedAt t) slot offset data.length
  show ((s.acceptedAt t).ownFwImage slot offset data).mgmt.lastCode = 0 ∧
    ((s.acceptedAt t).ownFwImage slot offset data).ve 0x9100 slot 0x02 = 1 ∧
    tget? slot ((s.acceptedAt t).ownFwImage slot offset data).mgmt.fw = _
  rw [ownFwImage_eq]
  refine ⟨congrArg Mgmt.lastCode hm, ?_, tget?_tput_self ..⟩
  exact (ve_pute_ne (by unfold mkey; omega) ..).trans ((ve_pute_ne (by unfold mkey; omega) ..).trans (ve_pute_self ..))

theorem fwVerify_begins {slot : Nat} (ha : s.acceptsValue t 0 0x9101 0 0x01 slot = true) (hc : s.calm = true) :
    ∃ s', runs (.fwVerify t slot) s s' ∧ s'.mgmt.lastCode = 0 ∧ s'.mgmt.verifying = some slot :=
  ⟨_, runs_ownedWrite 1 0 rfl ha (.inl rfl) rfl (settle_of_calm hc), rfl, rfl⟩

theorem fwSwitch_begins {slot : Nat} (ha : s.acceptsValue t 0 0x9101 0 0x02 slot = true) (hc : s.calm = true) :
    ∃ s', runs (.fwSwitch t slot) s s' ∧ s'.mgmt.lastCode = 0 ∧ s'.v 0x9101 0x06 = 1 ∧
      s'.mgmt.handover = some (slot, max s.now t) := by
  have hk := State.ownSwitch_keeps (s.acceptedAt t) slot
  exact ⟨_, runs_ownedWrite 1 0 rfl ha (.inl rfl) rfl (settle_of_calm ((Calmly.ofKeeps hk) hc).2), rfl,
    v_put_self .., rfl⟩

end

/-- Settles O30: what the writes of keys, paths, chord kills and firmware do. -/
theorem managementWrites : Obligations.ManagementWrites :=
  ⟨fun _ _ _ _ ha hc _ => masterKey_sets ha hc, fun _ _ _ _ => pathEnable_sets, fun _ _ _ _ => chordKill_aborts,
    fun _ _ _ _ _ => fwImage_loads, fun _ _ _ => fwVerify_begins, fun _ _ _ => fwSwitch_begins⟩

end Sys2Proof.Machine
end

section
set_option Elab.async false
namespace Sys2Proof.Machine

/-! ### Chord slots (R332, R337, R339) -/

section
variable {s u : State} {n k : Nat} {x : Chord}

theorem chord_congr (h : u.mgmt.chords = s.mgmt.chords) (n : Nat) : u.chord n = s.chord n := by
  rw [State.chord, h]
  rfl

@[simp] theorem chord_putChord_self (s : State) (n : Nat) (x : Chord) : (s.putChord n x).chord n = x := by
  simp [State.chord, State.putChord]

theorem chord_putChord_ne (h : k ≠ n) (s : State) (x : Chord) : (s.putChord n x).chord k = s.chord k :=
  tget_tput_ne _ h _ _

theorem putChord_masters (s : State) (n : Nat) (x : Chord) : (s.putChord n x).mgmt.masters = s.mgmt.masters := rfl

theorem inc_chords (s : State) (o m : Nat) : (s.inc o m).mgmt.chords = s.mgmt.chords :=
  congrArg Mgmt.chords (State.inc_keeps1 ..).mgmt_eq

/-- An aborted slot, its event sent or not. -/
theorem abortSlot_aborts (s : State) (n : Nat) (idle : Bool) :
    ((s.abortSlot n idle).chord n).state = 0 ∧ ((s.abortSlot n idle).chord n).aborted = true := by
  have hput : ((s.abortSlot n false).chord n).state = 0 ∧ ((s.abortSlot n false).chord n).aborted = true := by
    simp only [State.abortSlot, Bool.false_eq_true, if_false]
    rw [chord_congr (inc_chords ..), chord_putChord_self]
    exact ⟨rfl, rfl⟩
  cases idle with
  | false => exact hput
  | true =>
    have he : ((s.abortSlot n false).event 0x1011 0 0x05 0).mgmt.chords = (s.abortSlot n false).mgmt.chords :=
      (congrArg Mgmt.chords (event_butEvents (s.abortSlot n false) 0x1011 0 0x05 0) :)
    exact (chord_congr he n).symm ▸ hput

/-- The mark of a conflict passes over the chord that commits. -/
theorem markConflicts_chord (s : State) (n : Nat) (addrs : List Nat) : (s.markConflicts n addrs).chord n = s.chord n := by
  refine foldl_unchanged (π := fun st : State => st.chord n) (fun st k => ?_) _ s
  dsimp only
  split
  next hk => exact chord_putChord_ne (Ne.symm hk.1) ..
  next => rfl

theorem markConflicts_masters (s : State) (n : Nat) (addrs : List Nat) :
    (s.markConflicts n addrs).mgmt.masters = s.mgmt.masters := by
  refine foldl_unchanged (π := fun st : State => st.mgmt.masters) (fun st k => ?_) _ s
  dsimp only
  split <;> rfl

theorem markConflicts_keepsMgmt (s : State) (n : Nat) (addrs : List Nat) :
    Keeps ⟨[.mgmt], []⟩ s (s.markConflicts n addrs) :=
  .foldl (.refl _ s) fun st k => .ite (fun _ => Keeps.upd (.refl _ st) (hmg := .inl rfl)) fun _ => .refl _ st

end

/-! ### Chords begin, commit and are aborted (R332, R334 to R339) -/

section
variable {s : State} {c : Instr} {t path m seq n handle mode raw : Nat} {peer : Bytes} {y : Session}

/-- The body of a COMMIT (R323). -/
def commitBody (mode raw : Nat) : Bytes := beBytes 1 mode ++ zeros 3 ++ beBytes 12 raw

theorem commitBody_mode (hm : mode < 256) (raw : Nat) : field (commitBody mode raw) 0 1 = mode := by
  rw [commitBody, List.append_assoc]
  exact field_beBytes_append hm _

theorem commitBody_time (hr : raw < 2 ^ 96) (mode : Nat) : field (commitBody mode raw) 4 12 = raw := by
  have h := field_beBytes (pre := beBytes 1 mode ++ zeros 3) (o := 4) (n := 12) (v := raw) (by simp [zeros]) hr []
  rwa [List.append_nil] at h

theorem commitBody_zeros (mode raw : Nat) : field (commitBody mode raw) 1 3 = 0 := by
  have h := field_beBytes (pre := beBytes 1 mode) (o := 1) (n := 3) (v := 0) (by simp) (by decide) (beBytes 12 raw)
  rwa [← List.append_assoc] at h

/-- A COMMIT keeps to R323. -/
theorem commit_formed (hm : m ≤ 14) (hmode : mode ≤ 3) (hr : raw < 2 ^ 96) (h : mode = 3 ∨ raw = 0) :
    (asked y 8 m seq handle (commitBody mode raw)).formed = true := by
  have hlen : (commitBody mode raw).length = 16 := by simp [commitBody, zeros]
  simp [Msg.formed, asked, bodyLength, hlen, commitBody_mode (show mode < 256 by omega), commitBody_time hr,
    commitBody_zeros, hmode, h]
  exact decide_eq_true (show m ≤ 15 by omega)

/-- A COMMIT of an open session is judged and carried out (R334). -/
theorem runs_commit (ha : s.canAsk path m seq y = true) (hh : handle < 2 ^ 16) (hmode : mode ≤ 3)
    (hr : raw < 2 ^ 96) (h : mode = 3 ∨ raw = 0)
    (he : exec c s = arrives t path peer (requestIn y 8 m seq handle (commitBody mode raw)) (Msg.commitIn mode) s) :
    runs c s ((s.asks t path peer m seq y).commits m y.id seq path handle mode raw) := by
  have hm := reached_bounds (canAsk_iff.1 ha).2.2.2.1
  have hmd : field (commitBody mode raw) 0 1 = mode := commitBody_mode (by omega) raw
  have his : Msg.commitIn mode (asked y 8 m seq handle (commitBody mode raw)) = true := by
    simp [Msg.commitIn, asked, hmd]
  have hlen : (commitBody mode raw).length ≤ 1408 := by simp [commitBody, zeros]
  have hrun := runs_request (peer := peer) ha he his (commit_formed hm.2 hmode hr h) (by decide) hh hlen
  have hserve : (s.asks t path peer m seq y).serve (asked y 8 m seq handle (commitBody mode raw)) path =
      (s.asks t path peer m seq y).commits m y.id seq path handle (field (commitBody mode raw) 0 1)
        (field (commitBody mode raw) 4 12) := rfl
  rwa [hserve, hmd, commitBody_time hr] at hrun

/-- A COMMIT that passes counts, and its chord waits for its hand-off or for its time (R335, R338). -/
theorem commits_passed {id : Nat} (ho : s.openChord handle m id = (n, 0))
    (hc : (s.commitCode { master := m, path := some path, chord := true } (s.chord n) mode raw).1 = 0) :
    s.commits m id seq path handle mode raw =
      if mode = 3 then
        ((((s.markConflicts n ((s.chord n).items.map Staged.addr)).inc 0x1011 0x04).putChord n
          { s.chord n with state := 3, mode := 3, at_ := raw, seq := seq }).reply m seq 0 [] (noPoints 0xFFFF))
      else
        ((s.markConflicts n ((s.chord n).items.map Staged.addr)).inc 0x1011 0x04).putChord n
          { s.chord n with state := 2, mode := mode, seq := seq, at_ := s.now + handoffCycles (s.chord n).members } := by
  have h0 : ¬ (0 : Nat) ≠ 0 := fun h => h rfl
  unfold State.commits
  rw [ho]
  dsimp only
  rw [if_neg h0]
  generalize s.commitCode { master := m, path := some path, chord := true } (s.chord n) mode raw = p at hc ⊢
  obtain ⟨bad, fail⟩ := p
  subst hc
  exact if_neg h0

/-- The code of a COMMIT that names no time does not depend on one. -/
theorem commitCode_untimed (h : mode ≠ 3) (w : Writer) (x : Chord) (r r' : Nat) :
    s.commitCode w x mode r = s.commitCode w x mode r' := by
  simp [State.commitCode, h]

theorem asks_keeps (s : State) (t path : Nat) (peer : Bytes) (m seq : Nat) (y : Session) :
    Keeps ⟨[.now, .out, .mgmt], []⟩ s (s.asks t path peer m seq y) :=
  Keeps.upd ((State.enter_keeps s t).mono (by decide +kernel)) (hmg := .inl rfl)

theorem markConflicts_counts (s : State) (t path : Nat) (peer : Bytes) (m seq : Nat) (y : Session) (n : Nat)
    (addrs : List Nat) (x : Chord) :
    counted s ((((s.asks t path peer m seq y).markConflicts n addrs).inc 0x1011 0x04).putChord n x) 0x1011 0 0x04 :=
  counted_between ((asks_keeps ..).trans (markConflicts_keepsMgmt ..) (by decide +kernel))
    (Keeps.upd (.refl ⟨[.mgmt], []⟩ _) (hmg := .inl rfl))

/-- The chord that a CHORD_BEGIN opens (R332). -/
def Chord.begun (x : Chord) (m id : Nat) : Chord :=
  { Chord.reset with state := 1, gen := (x.gen + 1) % 1024, master := m, session := id }

theorem chordBegin_begins (ha : s.canAsk path m seq y = true)
    (hn : (List.range 32).find? (fun k => (s.chord k).state == 0) = some n) :
    ∃ s', runs (.chordBegin t path peer (requestIn y 7 m seq 0xFFFF [])) s s' ∧
      (s'.chord n).state = 1 ∧ (s'.chord n).master = m ∧ (s'.chord n).session = y.id ∧
      (s'.chord n).gen = ((s.chord n).gen + 1) % 1024 ∧ (s'.chord n).items = [] ∧
      s'.hasSent path peer (replyOut y m seq 0 [] (beBytes 2 (handleOf (s'.chord n).gen n))) := by
  have hm := reached_bounds (canAsk_iff.1 ha).2.2.2.1
  have hrun := runs_request (c := .chordBegin t path peer (requestIn y 7 m seq 0xFFFF [])) ha rfl rfl
    (asked_formed hm.2 (by decide) rfl) (by decide) (by decide) (by decide)
  have hserve : (s.asks t path peer m seq y).serve (asked y 7 m seq 0xFFFF []) path =
      ((s.asks t path peer m seq y).putChord n ((s.chord n).begun m y.id)).reply m seq 0 []
        (beBytes 2 (handleOf (((s.chord n).gen + 1) % 1024) n)) := by
    have hfind : (List.range 32).find? (fun k => ((s.asks t path peer m seq y).chord k).state == 0) = some n := hn
    change (s.asks t path peer m seq y).beginChord m y.id seq = _
    unfold State.beginChord
    rw [hfind]
    rfl
  rw [hserve] at hrun
  have hchord := ((mastersOnly_reply ((s.asks t path peer m seq y).putChord n ((s.chord n).begun m y.id)) m seq 0 []
    (beBytes 2 (handleOf (((s.chord n).gen + 1) % 1024) n))).chord_eq n).trans (chord_putChord_self ..)
  refine ⟨_, hrun, ?_⟩
  rw [hchord]
  refine ⟨rfl, rfl, rfl, rfl, rfl, ?_⟩
  exact hasSent_reply ((session_congr (putChord_masters ..) m).trans (session_asks ..)) ..

theorem commit_waits (ha : s.canAsk path m seq y = true) (hh : handle < 2 ^ 16) (hmode : mode < 3)
    (ho : (s.asks t path peer m seq y).openChord handle m y.id = (n, 0))
    (hc : ((s.asks t path peer m seq y).commitCode { master := m, path := some path, chord := true }
      (s.chord n) mode 0).1 = 0)
    (he : exec c s = arrives t path peer (requestIn y 8 m seq handle (commitBody mode 0)) (Msg.commitIn mode) s) :
    ∃ s', runs c s s' ∧ (s'.chord n).state = 2 ∧ (s'.chord n).mode = mode ∧ (s'.chord n).items = (s.chord n).items ∧
      (s'.chord n).at_ = max s.now t + handoffCycles (s.chord n).members ∧ counted s s' 0x1011 0 0x04 := by
  have hne : mode ≠ 3 := by omega
  have hrun := runs_commit (raw := 0) ha hh (by omega) (by decide) (.inr rfl) he
  rw [commits_passed ho hc, if_neg hne] at hrun
  refine ⟨_, hrun, ?_⟩
  rw [chord_putChord_self]
  exact ⟨rfl, rfl, rfl, rfl, markConflicts_counts s t path peer m seq y n _ _⟩

theorem commitAtTime_pends (ha : s.canAsk path m seq y = true) (hh : handle < 2 ^ 16) (hr : raw < 2 ^ 96)
    (ho : (s.asks t path peer m seq y).openChord handle m y.id = (n, 0))
    (hc : ((s.asks t path peer m seq y).commitCode { master := m, path := some path, chord := true }
      (s.chord n) 3 raw).1 = 0) :
    ∃ s', runs (.commitAtTime t path peer
        (requestIn y 8 m seq handle (beBytes 1 3 ++ zeros 3 ++ beBytes 12 raw))) s s' ∧
      (s'.chord n).state = 3 ∧ (s'.chord n).at_ = raw ∧ (s'.chord n).items = (s.chord n).items ∧
      counted s s' 0x1011 0 0x04 ∧ s'.hasSent path peer (replyOut y m seq 0 [] (noPoints 0xFFFF)) := by
  have hrun := runs_commit (c := .commitAtTime t path peer (requestIn y 8 m seq handle (commitBody 3 raw))) ha hh
    (by decide) hr (.inl rfl) rfl
  rw [commits_passed ho hc, if_pos rfl] at hrun
  have hchord := fun x : Chord => ((mastersOnly_reply ((((s.asks t path peer m seq y).markConflicts n
    (((s.asks t path peer m seq y).chord n).items.map Staged.addr)).inc 0x1011 0x04).putChord n x) m seq 0 []
      (noPoints 0xFFFF)).chord_eq n).trans (chord_putChord_self ..)
  refine ⟨_, hrun, ?_⟩
  rw [hchord]
  refine ⟨rfl, rfl, rfl, ?_, ?_⟩
  · exact counted_within (.refl ⟨[], []⟩ s) (markConflicts_counts s t path peer m seq y n _ _) (State.reply_keeps ..)
  · refine hasSent_reply ((session_congr ?_ m).trans (session_asks s t path peer m seq y)) ..
    exact (congrArg Mgmt.masters (State.inc_keeps1 ..).mgmt_eq).trans (markConflicts_masters ..)

theorem abort_aborts (ha : s.canAsk path m seq y = true) (hh : handle < 2 ^ 16)
    (hf : s.findChord handle m y.id = (n, 0)) (hn : (s.chord n).state ≠ 2) :
    ∃ s', runs (.abortChord t path peer (requestIn y 9 m seq handle [])) s s' ∧
      (s'.chord n).state = 0 ∧ (s'.chord n).aborted = true ∧ counted s s' 0x1011 0 0x05 ∧
      s'.hasSent path peer (replyOut y m seq 0 [] []) := by
  have hm := reached_bounds (canAsk_iff.1 ha).2.2.2.1
  have hrun := runs_request (c := .abortChord t path peer (requestIn y 9 m seq handle [])) ha rfl rfl
    (asked_formed hm.2 (by decide) rfl) (by decide) hh (by decide)
  have hserve : (s.asks t path peer m seq y).serve (asked y 9 m seq handle []) path =
      ((s.asks t path peer m seq y).abortSlot n false).reply m seq 0 [] [] := by
    have hfind : (s.asks t path peer m seq y).findChord handle m y.id = (n, 0) := hf
    have hcode : ¬ ((0 : Nat) = 0 ∧ ((s.asks t path peer m seq y).chord n).state = 2) := fun h => hn h.2
    change (s.asks t path peer m seq y).aborts m y.id seq handle = _
    unfold State.aborts
    rw [hfind]
    dsimp only
    rw [if_neg hcode]
    rfl
  rw [hserve] at hrun
  have hchord := (mastersOnly_reply ((s.asks t path peer m seq y).abortSlot n false) m seq 0 [] []).chord_eq n
  have habort := abortSlot_aborts (s.asks t path peer m seq y) n false
  rw [← hchord] at habort
  refine ⟨_, hrun, habort.1, habort.2, ?_, ?_⟩
  · have hk : Keeps ⟨[.now, .out, .mgmt], []⟩ s ((s.asks t path peer m seq y).putChord n { Chord.reset with
        gen := (s.chord n).gen, aborted := true, master := (s.chord n).master, session := (s.chord n).session }) :=
      Keeps.upd (asks_keeps ..) (hmg := .inl rfl)
    exact counted_between hk (State.reply_keeps ..)
  · exact hasSent_reply ((session_congr (abortSlot_masters ..) m).trans (session_asks ..)) ..

theorem chordIdleTimeout_aborts (hn : n < 32) (hs : (s.chord n).state = 1 ∨ (s.chord n).state = 4) :
    ∃ s', runs (.chordIdleTimeout t n) s s' ∧ (s'.chord n).state = 0 ∧ (s'.chord n).aborted = true ∧
      counted s s' 0x1011 0 0x05 := by
  have hif : (if ((s.enter t).chord n).state = 1 ∨ ((s.enter t).chord n).state = 4 then
      (s.enter t).abortSlot n true else s.enter t) = (s.enter t).abortSlot n true := if_pos hs
  have habort := abortSlot_aborts (s.enter t) n true
  refine ⟨_, guarded_next.2 ⟨decide_eq_true hn, hif⟩, habort.1, habort.2, ?_⟩
  have hk : Keeps ⟨[.now, .out, .mgmt], []⟩ s ((s.enter t).putChord n { Chord.reset with
      gen := (s.chord n).gen, aborted := true, master := (s.chord n).master, session := (s.chord n).session }) :=
    Keeps.upd ((State.enter_keeps s t).mono (by decide +kernel)) (hmg := .inl rfl)
  exact counted_between hk (State.event_keeps ..)

end
end Sys2Proof.Machine
end

section
set_option Elab.async false
namespace Sys2Proof.Machine

/-! ### Chord slots at rest -/

/-- A chord slot is free and holds nothing. -/
def State.chordRests (s : State) (n : Nat) : Prop := (s.chord n).state = 0 ∧ (s.chord n).items = []

/-- Chord slots at rest stay at rest. -/
structure Rests (s u : State) : Prop where
  rests : ∀ n, s.chordRests n → u.chordRests n

namespace Rests

variable {s u w : State}

theorem refl (s : State) : Rests s s := ⟨fun _ h => h⟩

theorem trans (h : Rests s u) (g : Rests u w) : Rests s w := ⟨fun n hn => g.rests n (h.rests n hn)⟩

theorem ofChord (h : ∀ n, u.chord n = s.chord n) : Rests s u := ⟨fun n hn => by
  rwa [State.chordRests, h]⟩

theorem ofChords (h : u.mgmt.chords = s.mgmt.chords) : Rests s u := .ofChord (chord_congr h)

theorem ofKeeps {F : Foot} (h : Keeps F s u) (hf : F.parts.contains .mgmt = false := by rfl) : Rests s u :=
  .ofChords (congrArg Mgmt.chords (h.mgmt_eq hf))

theorem ofMasters (h : MastersOnly s u) : Rests s u := .ofChord h.chord_eq

theorem step {F : Foot} (h : Rests s u) (g : Keeps F u w) (hf : F.parts.contains .mgmt = false := by rfl) :
    Rests s w :=
  h.trans (.ofKeeps g hf)

theorem ite {c : Prop} [Decidable c] {a b : State} (ha : Rests s a) (hb : Rests s b) :
    Rests s (if c then a else b) := by
  split
  · exact ha
  · exact hb

theorem foldl {α : Type} {f : State → α → State} (h : ∀ x a, Rests x (f x a)) (l : List α) (s : State) :
    Rests s (l.foldl f s) := by
  induction l generalizing s with
  | nil => exact .refl s
  | cons a l ih => exact (h s a).trans (ih _)

theorem some {a : State} (h : Option.some a = Option.some u) (g : Rests s a) : Rests s u := Option.some.inj h ▸ g

end Rests

section
variable (s : State)

theorem setLoop_rests (l : Loop) : Rests s { s with loop := l } := .ofChords rfl

theorem setSeq_rests (q : Seq) : Rests s { s with seq := q } := .ofChords rfl

theorem setNet_rests (n : Net) : Rests s { s with net := n } := .ofChords rfl

theorem setHealth_rests (l : Health) : Rests s { s with health := l } := .ofChords rfl

/-! ### Management and the gates (R305, R327, R339, R341) -/

theorem event_rests (o e m cause : Nat) : Rests s (s.event o e m cause) :=
  .ofChords (congrArg Mgmt.chords (event_butEvents s o e m cause) :)

theorem putChord_rests (n : Nat) (x : Chord) (hs : x.state = 0) (hi : x.items = []) : Rests s (s.putChord n x) where
  rests k hk := by
    by_cases h : k = n
    · rw [h, State.chordRests, chord_putChord_self]
      exact ⟨hs, hi⟩
    · rwa [State.chordRests, chord_putChord_ne h]

theorem abortSlot_rests (n : Nat) : Rests s (s.abortSlot n false) :=
  (putChord_rests s n { Chord.reset with
    gen := (s.chord n).gen, aborted := true, master := (s.chord n).master, session := (s.chord n).session } rfl rfl).step
      (State.inc_keeps1 _ 0x1011 0x05)

theorem closeMaster_rests (m : Nat) : Rests s (s.closeMaster m) := by
  have hclose : Rests s (s.closeSession m) := by
    unfold State.closeSession
    split
    · exact .refl s
    · exact (Rests.ofMasters (mastersOnly_putMaster s ..)).trans (.foldl (fun x n => .ite (abortSlot_rests x n) (.refl x)) _ _)
  exact hclose.trans (.ofMasters (mastersOnly_putMaster ..))

theorem gateFails_rests : Rests s s.gateFails := by
  have habandon : Rests s s.gateAbandon := by
    unfold State.gateAbandon
    split
    next =>
      have h0 : Rests s { s with clock := { s.clock with gateReq := none }, mgmt := { s.mgmt with lastCode := 7 } } :=
        .ofChords rfl
      have h1 := h0.step (State.gateRefused_keeps _ 7)
      exact .ite (.ite (h1.step (State.putGate_keeps ..)) (h1.step (putGates_keepsGate ..)))
        ((h1.step (putGates_keepsGate ..)).step (stopIslands_keeps ..))
    next => exact .refl s
  have hanswer (x : State) (h : Handoff) : Rests x (x.answer h) :=
    .ite (.ofChords rfl) (.ofMasters (mastersOnly_replyIn ..))
  have hgate (x : State) : Rests x (x.gateAnswer true) := by
    have h0 (l : List Handoff) : Rests x { x with mgmt := { x.mgmt with
        handoff := l, gateItem := none, gateReply := none } } := .ofChords rfl
    unfold State.gateAnswer
    split
    · exact .refl x
    · dsimp only
      split
      · exact (h0 _).trans (hanswer ..)
      · exact h0 _
  exact habandon.trans (hgate _)

theorem warmRestart_rests : Rests s s.warmRestart := by
  have h1 (b : Bridge) (c : Clock) (l : Logs) : Rests s { s with bridge := b, clock := c, logs := l } := .ofChords rfl
  have hopen (x : State) : Rests x x.openGates := (gateFails_rests x).trans (.ofChords rfl)
  unfold State.warmRestart
  exact (((((h1 _ _ _).step (State.put_keeps1 ..)).step (State.put_keeps1 ..)).step (State.fullClear_keeps _)).trans
    (hopen _)).step (State.openIslands_keeps _)

theorem ownSdClear_rests : Rests s s.ownSdClear := by
  have h2 (l : Health) (k : Nat) :=
    (((setHealth_rests s l).step (State.wearBlock_keeps _ k)).step (State.showRecord_keeps _)).step (State.putBit_keeps1 _ 0x2801 0x05 5 false)
  unfold State.ownSdClear
  exact .ite ((h2 _ _).trans (warmRestart_rests _)) (h2 _ _)

theorem ownPath_rests (network : Bool) (v : Nat) : Rests s (s.ownPath network v) := by
  rw [ownPath_eq]
  have h1 : Rests s (s.putKept 0x1000 0 (if network then 0x03 else 0x02) v) := .ofKeeps (State.putKept_keeps1 ..)
  exact .ite h1 (h1.trans (.foldl closeMaster_rests _ _))

theorem ownKey_rests (m : Nat) (key : Bytes) : Rests s (s.ownKey m key) :=
  (Rests.ofKeeps (State.putBlobKept_keeps ..)).trans (closeMaster_rests ..)

theorem ownFwImage_rests (slot offset : Nat) (data : Bytes) : Rests s (s.ownFwImage slot offset data) := by
  have hwear (l : List Nat) : Rests s (l.foldl (fun (x : State) i => x.wearBlock (imageWear slot i)) s) :=
    .foldl (fun x i => .ofKeeps (State.wearBlock_keeps ..)) _ _
  have hput (x : State) (b : List (Nat × Bytes)) : Rests x { x with mgmt := { x.mgmt with fw := b } } := .ofChords rfl
  unfold State.ownFwImage
  exact ((((hwear _).trans (hput ..)).step (State.pute_keeps1 ..)).step (State.pute_keeps1 ..)).step
    (State.pute_keeps1 ..)

theorem ownSwitch_rests (v : Nat) : Rests s (s.ownSwitch v) :=
  (((⟨fun _ h => h⟩ : Rests s { s with mgmt := { s.mgmt with handover := some (v, s.now) } })).step
    (State.calEnd_keeps _)).step (State.put_keeps1 _ 0x9101 0x06 1)

/-! ### The loops and the wheel (R202, R223, R224, R231) -/

theorem stepLoopMant_rests (n : Nat) (m0 : Int) : Rests s (s.stepLoopMant n m0 none).2 := by
  unfold State.stepLoopMant
  split
  · exact .refl s
  · extract_lets clear
    rcases satMant m0 with ⟨m, satIn⟩
    dsimp -zeta only
    extract_lets s0 r s3 s4
    have h0 : Keeps sectionFoot s s0 :=
      Keeps.optE (.refl _ s) fun _ => (State.slotFlag_keeps ..).mono (by decide +kernel)
    have hr : Keeps sectionFoot s r.s := Keeps.foldlOf LoopRun.s h0 fun q x => LoopRun.section_keeps n q x
    have h3 : Rests s s3 := ((Rests.ofKeeps hr).step (State.showLoop_keeps ..)).step (State.ince_keeps1 ..)
    have h4 : Rests s s4 := h3.step (State.inc_keeps1 ..)
    split
    · exact .ite (h4.trans (event_rests ..)) h4
    · exact h3

theorem freeLoop_rests (n v : Nat) : Rests s (s.freeLoop n v) := .ite (stepLoopMant_rests ..) (.refl s)

theorem disengage_rests : Rests s s.disengage := by
  have hunlock (x : State) : Rests x x.unlock := by
    unfold State.unlock
    extract_lets s1
    have h1 : Rests x s1 := ((Rests.ofKeeps (State.put_keeps1 ..)).step (State.inc_keeps1 ..)).step (State.calEnd_keeps _)
    exact .ite (.ite ((h1.step (State.putBit_keeps1 ..)).trans (event_rests ..)) h1) (.refl x)
  exact .ite (((((setLoop_rests s _).step (State.putBit_keeps1 ..)).step (State.put_keeps1 ..)).step
    (State.freezeLoop_keeps ..)).trans (hunlock _)) (.refl s)

theorem ownWheel_rests (v : Nat) : Rests s (s.ownWheel v) := by
  have h0 := setLoop_rests s { s.loop with brakeDue := false }
  have hbrake : Rests s s.brake :=
    .ite ((h0.trans (disengage_rests _)).step (State.putWheel_keeps ..))
      (.ite (((h0.step (State.presetLoop_keeps ..)).trans (setLoop_rests ..)).step (State.putWheel_keeps ..))
        (.ite (h0.step (State.putWheel_keeps ..)) h0))
  exact .ite (.ite ((setLoop_rests ..).step (State.requestStop_keeps _)) hbrake)
    (.ite ((h0.trans (setLoop_rests ..)).step (State.putWheel_keeps ..))
      (.ite (.ite (h0.step (State.closeSpeed_keeps _)) h0) (h0.step (State.spinUp_keeps _))))

theorem ownDrone_rests (v : Nat) : Rests s (s.ownDrone v) := by
  have hwheel (x : State) : Rests x x.droneWheel := by
    have h1 := ((disengage_rests x).step (State.put_keeps1 _ 0x6801 0x05 0)).step (State.putBit_keeps1 _ 0x6801 0x03 2 false)
    have h2 := fun l => h1.trans (setLoop_rests _ l)
    exact .ite ((h2 _).step (State.putWheel_keeps ..)) (h2 _)
  have h1 : Rests s (s.put 0x5800 0x0A v) := .ofKeeps (State.put_keeps1 ..)
  exact .ite
    (.ite h1 (.ite ((h1.trans (hwheel _)).step (State.beginDrone_keeps _))
      ((h1.trans (setSeq_rests ..)).step (State.requestStop_keeps _))))
    (.ite ((h1.step (State.endDrone_keeps _)).step (State.droneWheelEnds_keeps _)) (h1.trans (setSeq_rests ..)))

theorem ownCv_rests (u m master v : Nat) : Rests s (s.ownCv u m master v) := by
  have hput (x : State) (k n : Nat) : Rests x (x.pute 0x2840 u k n) := .ofKeeps (State.pute_keeps1 ..)
  have hcompare (x : State) : Rests x (x.cvCompare u) :=
    .ite (hput ..) (((hput x 0x0B 2).step (State.inc_keeps1 _ 0x2802 0x03)).trans (event_rests ..))
  have hbyte (x : State) (b : Byte) : Rests x (x.cvByte u b) := by
    have h1 := fun l => (setHealth_rests x l).step (State.ince_keeps1 _ 0x2840 u 0x07)
    unfold State.cvByte
    exact .ite ((h1 _).trans (hcompare _)) (h1 _)
  have hfeed (n : Nat) : Rests s (s.cvFeed u n master v) :=
    (hput s 0x0C master).trans (.foldl hbyte _ _)
  exact .ite ((hput s 0x01 v).step (State.cvInit_keeps ..))
    (.ite ((Rests.ofKeeps (State.cvInit_keeps s u)).trans (hput _ 0x0C 255))
      (.ite (hfeed 1) (.ite (hfeed 2) (.ite (hfeed 4) (.ite (hcompare s) (hput ..))))))

/-! ### Wall time (R356, R359 to R361) -/

theorem setWall_rests (v : Nat) : Rests s (s.setWall v) := by
  have hcount {x : State} (h : Rests s x) (m : Nat) : Rests s (x.inc 0x8002 m) := h.step (State.inc_keeps1 ..)
  have hshow {x : State} (h : Rests s x) : Rests s ((x.event 0x8001 0 0x01 0).put 0x8001 0x06 x.wallTime) :=
    (h.trans (event_rests ..)).step (State.put_keeps1 ..)
  have h1 : Rests s (s.put 0x8001 0x01 v) := .ofKeeps (State.put_keeps1 ..)
  unfold State.setWall
  exact .ite (.refl s) (hshow (.ite (hcount h1 _) (.ite (hcount h1 _) (.ite (hcount (h1.trans (setNet_rests ..)) _) h1))))

theorem useSlot_rests (i : Nat) (r : Int) : Rests s (s.useSlot i r) := by
  unfold State.useSlot
  exact ((((setNet_rests s _).step (State.putBit_keeps1 ..)).step (State.putBit_keeps1 ..)).step
    (State.putBit_keeps1 ..)).trans (setWall_rests ..)

theorem holdover_rests : Rests s s.holdover := by
  unfold State.holdover
  exact (setNet_rests s _).trans (setWall_rests ..)

theorem stepWall_rests (i : Nat) : Rests s (s.stepWall i) :=
  ((Rests.ofKeeps (State.inc_keeps1 ..)).step (State.putBit_keeps1 ..)).trans (useSlot_rests ..)

theorem switchWall_rests (i : Nat) : Rests s (s.switchWall i) := by
  have h1 (c : Prop) [Decidable c] (n : Net) : Rests s (if c then { s with net := n } else
      (({ s with net := n }).putBit 0x8001 0x02 1 true).event 0x8001 0 0x02 0) :=
    .ite (setNet_rests s n) (((setNet_rests s n).step (State.putBit_keeps1 ..)).trans (event_rests ..))
  exact .ite (useSlot_rests ..) (.ite (stepWall_rests ..) (.ite ((h1 _ _).trans (holdover_rests _)) (h1 _ _)))

theorem judgeWall_rests : Rests s s.judgeWall := by
  unfold State.judgeWall
  dsimp only
  split
  · split
    · exact useSlot_rests ..
    · exact .refl s
  · exact .ite (.refl s) (.ite (switchWall_rests ..) (holdover_rests s))
  · exact .ite (.ite (switchWall_rests ..) (holdover_rests s)) (.ite (switchWall_rests ..) (.refl s))
  · split
    · exact switchWall_rests ..
    · exact .refl s

theorem relisten_rests (slots : List Nat) : Rests s (s.relisten slots) :=
  (Rests.foldl (fun x i => .ofKeeps (State.clearSlot_keeps ..)) _ _).trans (judgeWall_rests _)

theorem ownClass_rests (v : Nat) : Rests s (s.ownClass v) := by
  have hfail (x : State) (i : Nat) : Rests x (x.failSlot i) :=
    .ite (.refl x) ((Rests.ofKeeps (State.markFailed_keeps ..)).trans (judgeWall_rests _))
  exact (Rests.ofKeeps (State.putKept_keeps1 s 0x8000 0 0x04 v)).trans
    (.foldl (fun x i => .ite (hfail x i) (.refl x)) _ _)

theorem ownStepNow_rests : Rests s s.ownStepNow := .ite (stepWall_rests ..) (.refl s)

end
end Sys2Proof.Machine
end

section
set_option Elab.async false
namespace Sys2Proof.Machine

/-! ### The owners' acts leave chord slots at rest (R8, R336) -/

section
variable {s u : State} {master o e m v : Nat}

theorem putKept_rests (s : State) (o e m v : Nat) : Rests s (s.putKept o e m v) := .ofKeeps (State.putKept_keeps1 ..)

theorem ownLow?_rests (h : s.ownLow? master o e m v = some u) : Rests s u := by
  unfold State.ownLow? at h
  split at h
  · exact .some h (ownPath_rests ..)
  · exact .some h (ownPath_rests ..)
  · exact .some h (putKept_rests ..)
  · exact .some h (abortSlot_rests ..)
  · exact .some h (warmRestart_rests s)
  · exact .some h ((putKept_rests ..).step (State.recomputeReduction_keeps _))
  · exact .some h ((putKept_rests ..).step (State.recomputeReduction_keeps _))
  · exact .some h (.ofKeeps (State.ownRatio_keeps ..))
  · exact .some h (.ofKeeps (State.ownGate_keeps ..))
  · exact .some h (.ofKeeps (State.ownGate_keeps ..))
  · exact .some h (ownSdClear_rests s)
  · exact .some h (.ofKeeps (State.ownCal_keeps ..))
  · exact .some h (ownCv_rests ..)
  · exact .some h (.ofKeeps (State.takeTrigger_keeps ..))
  · exact .some h (.ofKeeps (State.emptyCue_keeps ..))
  · exact .some h (.ofKeeps (State.ownFence_keeps ..))
  · exact .some h (.ofKeeps (State.ownClane_keeps ..))
  · exact .some h ((putKept_rests ..).step (State.recomputeReduction_keeps _))
  · exact .some h (.ofKeeps (State.ownFence_keeps ..))
  · exact nomatch h

theorem ownHigh?_rests (h : s.ownHigh? o e m v = some u) : Rests s u := by
  unfold State.ownHigh? at h
  split at h
  · exact .some h (.ofKeeps (State.ownMode_keeps ..))
  · exact .some h (.ofKeeps (State.ownRun_keeps ..))
  · exact nomatch h
  · exact nomatch h
  · exact .some h (.ofKeeps (State.ownService_keeps ..))
  · exact .some h (.ofKeeps (State.ownModeSlot_keeps ..))
  · exact .some h (.ofKeeps (State.ownService_keeps ..))
  · exact .some h (ownDrone_rests ..)
  · exact .some h (.ofKeeps (State.ownPower_keeps ..))
  · exact .some h (.ofKeeps (State.rearmPanel_keeps _))
  · exact .some h (.ofKeeps (State.linReset_keeps _))
  · exact .some h ((putKept_rests ..).trans (ownWheel_rests ..))
  · exact .some h (.ofKeeps (State.rearmWheel_keeps _))
  · exact .some h ((Rests.ofKeeps (State.ownSections_keeps ..)).step (State.showRest_keeps _))
  · exact .some h (freeLoop_rests ..)
  · exact .some h (.ofKeeps (State.freePreset_keeps ..))
  · exact .some h (.ofKeeps (State.ownSecExp_keeps ..))
  · exact .some h (.ofKeeps (State.ownPortRate_keeps ..))
  · exact .some h (.ofKeeps (State.ownPortEnable_keeps ..))
  · exact .some h ((putKept_rests ..).step (State.portCheck_keeps ..))
  · exact .some h (.ofKeeps (State.ownLaneCmd_keeps ..))
  · exact .some h ((putKept_rests ..).step (State.setReceiver_keeps ..))
  · exact .some h (.ofKeeps (State.ownBank_keeps ..))
  · exact .some h (.ofKeeps (State.ownChannel_keeps ..))
  · exact .some h ((putKept_rests ..).trans (relisten_rests ..))
  · exact .some h ((putKept_rests ..).trans (relisten_rests ..))
  · exact .some h ((putKept_rests ..).trans (relisten_rests ..))
  · exact .some h (ownClass_rests ..)
  · exact .some h (.ofKeeps (State.ownSlew_keeps ..))
  · exact .some h (ownStepNow_rests s)
  · exact .some h (.ofKeeps (State.ownSpeed_keeps ..))
  · exact .some h (.ofKeeps (State.startCommit_keeps _))
  · exact .some h (.ofChords rfl)
  · exact .some h (ownSwitch_rests ..)
  · exact nomatch h

theorem ownBlob_rests (s : State) (o e m offset : Nat) (data : Bytes) : Rests s (s.ownBlob o e m offset data) := by
  unfold State.ownBlob
  split
  · exact ownKey_rests ..
  · exact (Rests.ofKeeps (State.putBlobKept_keeps ..)).step (State.ownWave_keeps ..)
  · exact .ofKeeps (State.ownGlobal_keeps ..)
  · exact ownFwImage_rests ..
  · exact .ofKeeps (State.putBlobKept_keeps ..)

theorem own_rests (s : State) (master : Nat) (x : Staged) : Rests s (s.own master x) := by
  have hk : ∀ u : Option State, (∀ v, u = some v → Rests s v) →
      Rests s (match u with | some s1 => s1 | none => s.putKept x.object x.element x.member x.value) := by
    rintro (_ | v) h
    · exact putKept_rests ..
    · exact h v rfl
  unfold State.own
  dsimp only
  split
  · exact .refl s
  · refine .ite (.ofKeeps (State.ownFlags_keeps ..)) (.ite (ownBlob_rests ..) (.ite (.ofKeeps (State.clearCounters_keeps ..))
      (hk _ fun v hv => ?_)))
    split at hv
    · exact ownLow?_rests hv
    · exact ownHigh?_rests hv

theorem ownAll_rests (s : State) (l : List Pending) : Rests s (s.ownAll l) :=
  have hact (l : List Pending) (x : State) : Rests x (l.foldl (fun (st : State) (p : Pending) => st.own p.master p.item) x) :=
    .foldl (fun y p => own_rests y p.master p.item) l x
  (hact _ s).trans (hact _ _)

theorem sendApplied_rests (s : State) (master session seq code : Nat) (pts : Bytes) :
    Rests s (s.sendApplied master session seq code pts) := by
  unfold State.sendApplied
  split
  · exact .ite (.ofMasters (mastersOnly_sendIn ..)) (.refl s)
  · exact .refl s

/-- Once display no longer runs, what waits takes effect and no chord slot is taken (R136). -/
theorem settle_rests (s : State) : Rests s s.settle := by
  have hshow : Rests s s.showFrame := (setSeq_rests s _).trans (ownAll_rests ..)
  have hdrone : Rests s (if s.showFrame.seq.droneDue then s.showFrame.put 0x5800 0x0A 0 else s.showFrame) :=
    .ite (hshow.step (State.put_keeps1 ..)) hshow
  have howned := fun q l => (hdrone.trans (setSeq_rests _ q)).trans (ownAll_rests _ l)
  have hservice (x : State) (q : Seq) : Rests x (if ({ x with seq := q }).serviceSet = ({ x with seq := q }).seq.service
      then { x with seq := q } else ({ x with seq := q }).changeService ({ x with seq := q }).serviceSet) :=
    .ite (setSeq_rests x q) ((setSeq_rests x q).step (State.changeService_keeps ..))
  have hsend (x : State) (l : List (Nat × Nat × Nat)) (pts : Bytes) : Rests x (l.foldl (fun (st : State) c =>
      st.sendApplied c.1 c.2.1 c.2.2 0 pts) x) :=
    .foldl (fun x c => sendApplied_rests ..) _ _
  have hjudge {x : State} (h : Rests s x) : Rests s (if x.net.stepTo.isSome then x.judgeWall else x) :=
    .ite (h.trans (judgeWall_rests x)) h
  unfold State.settle
  exact .ite (.refl s) (hjudge ((Rests.ite ((howned _ _).trans (hservice ..)) (howned _ _)).trans (hsend ..)))

end

/-! ### O55 -/

section
variable {s : State} {t n : Nat}

theorem freeChord_rests (s : State) (n : Nat) : (s.freeChord n).chordRests n := by
  have h : (s.freeChord n).chord n = { Chord.reset with gen := (s.chord n).gen } := chord_putChord_self ..
  rw [State.chordRests, h]
  exact ⟨rfl, rfl⟩

theorem applyChord_rests (s : State) (n : Nat) : (s.applyChord n).2.chordRests n := freeChord_rests ..

theorem chordHandoff_frees (hn : n < 32) (h2 : (s.chord n).state = 2) (hdue : (s.chord n).at_ ≤ max s.now t) :
    ∃ s', runs (.chordHandoff t n) s s' ∧ (s'.chord n).state = 0 ∧ (s'.chord n).items = [] := by
  have hd : ((s.enter t).chord n).state = 2 ∧ ((s.enter t).chord n).at_ ≤ (s.enter t).now := ⟨h2, hdue⟩
  refine ⟨(s.enter t).handChord n, guarded_next.2 ⟨decide_eq_true hn, rfl⟩, ?_⟩
  unfold State.handChord
  dsimp only
  rw [if_pos hd]
  exact ((Rests.ofMasters (mastersOnly_replyIn ..)).trans (settle_rests _)).rests n (applyChord_rests ..)

theorem atTimeReached_frees (hn : n < 32) (h3 : (s.chord n).state = 3)
    (hw : (s.enter t).wallReaches (max s.now t) (s.chord n).at_ = true) :
    ∃ s', runs (.atTimeReached t n) s s' ∧ (s'.chord n).state = 0 ∧ (s'.chord n).items = [] := by
  have hd : ((s.enter t).chord n).state = 3 ∧ (s.enter t).wallReaches (s.enter t).now ((s.enter t).chord n).at_ = true :=
    ⟨h3, hw⟩
  refine ⟨(s.enter t).timeReached n, guarded_next.2 ⟨decide_eq_true hn, rfl⟩, ?_⟩
  unfold State.timeReached
  dsimp only
  rw [if_pos hd]
  split
  · exact (sendApplied_rests ..).rests n (freeChord_rests ..)
  · exact ((sendApplied_rests ..).trans (settle_rests _)).rests n (applyChord_rests ..)

end

/-- Settles O55: a commit leaves its own chord's items alone, and no act of an owner, nor what follows the hand-off,
takes a chord slot that has been freed. -/
theorem chords : Obligations.Chords := by
  refine ⟨fun s t path m seq n peer y => chordBegin_begins, fun s t path m seq n handle mode peer y ha hh hmode ho hc => ?_,
    fun s t path m seq n handle raw peer y => commitAtTime_pends, fun s t path m seq n handle peer y => abort_aborts,
    fun s t n => chordHandoff_frees, fun s t n => atTimeReached_frees, fun s t n => chordIdleTimeout_aborts⟩
  match mode, hmode with
  | 0, _ => exact commit_waits ha hh (by decide) ho hc rfl
  | 1, _ => exact commit_waits ha hh (by decide) ho hc rfl
  | 2, _ => exact commit_waits ha hh (by decide) ho hc rfl

end Sys2Proof.Machine
end
